-- ==== Sys2Proof/Word.lean ====
section
/-! DEFINITION. The word types of the model and their plainest readings: octets, 32-bit register words, and the sparse
list that holds what is numbered (memory, register files, tables). -/

namespace Sys2Proof

/-- One octet. -/
abbrev Byte := BitVec 8

/-- One 32-bit register word (R462). -/
abbrev Word := BitVec 32

/-- A numbered collection of which most entries stand at a default: strictly rising keys, no entry equal to the
default of its key. -/
abbrev Sparse (α : Type) := List (Nat × α)

end Sys2Proof
end

