-- ==== Sys2Proof/Syntax.lean ====
section
/-! DEFINITION. The commands of the block: one constructor of `Instr` for each of the 222 rows of the table of operations
and events, with the operands that the row's rule gives it. A firmware command carries its header (R293) and its payload
octets; an event carries what the outside world brings with it. -/

namespace Sys2Proof.Machine

/-- A multicast group held by NET_GROUP_JOIN (R239, R311). -/
structure Group where
  ipv6   : Bool
  group  : Nat
  source : Option Nat
  deriving DecidableEq, Repr

/-- A cue entry staged by the dispatcher (R163, R164). -/
structure CueEntry where
  fixture : Nat
  attr    : Nat
  curve   : Nat
  target  : Nat
  fadeMs  : Nat
  deriving DecidableEq, Repr

/-- A change that a commit carries (R32), as snapshotted at acceptance (R33). `cross` is the explicit crossing of a mirrored
SHOW_CROSS, `demote` what a promotion is to the peer of the isle that it was given to. -/
inductive Change where
  | reg (off : Nat) (v : Word)
  | regBits (off : Nat) (mask v : Word)
  | recs (table : Nat) (records : List (Nat × Nat)) (resetState : Bool)
  | layer (index : Nat) (record : Nat)
  | frameGen (tb : Nat) (keepT0 : Bool) (rateN rateD origin : Nat)
  | fgStop
  | powerSet (mask on : Nat)
  | warmReset
  | ptpSet (tb : Nat) (announce sync delay : Int) (p1 p2 timeout : Nat)
  | groupJoin (port : Nat) (g : Group)
  | groupLeave (port : Nat) (g : Group)
  | feedSet (feed : Nat) (en : Bool) (wiring declared nominal vfs afs : Nat)
  | pqSet (feed sag swell intr hyst minHc : Nat)
  | pulseSet (out feed quantity : Nat) (en : Bool) (ep width : Nat)
  | pairConfig (rank policy tPromote : Nat)
  | cross
  | promote
  | demote
  | swap
  | activate (type : Nat)
  | revert (type cause : Nat)
  | loopback (port mode : Nat)
  | laneMargin (lane width height : Nat)
  | straitRotate (spare : Nat)
  | cueGo (entries : List CueEntry)
  | effectStart (effect wave attr amp fixFirst fixCount period phaseStep : Nat)
  | effectStop (effect stopMs : Nat)
  | marker
  deriving DecidableEq, Repr

end Sys2Proof.Machine

namespace Sys2Proof

/-- A command channel (R291, R292). -/
inductive Chan where
  | mbox (m : Nat)
  | ring (r : Nat)
  deriving DecidableEq, Repr

/-- The header of a firmware command (R293). -/
structure CmdHdr where
  chan   : Chan
  tag    : Nat
  next   : Bool
  atCsn  : Bool
  strict : Bool
  atTime : Bool
  len    : Nat
  target : Nat
  deriving DecidableEq, Repr

/-- The reasons of BAD_COMMAND (R294, R298). -/
inductive BadKind where
  | unknownOpcode
  | resultTooLong
  | lenTooLong
  deriving DecidableEq, Repr

/-- The operations of an AtomicOp (R257). -/
inductive AtomicOp where
  | fetchAdd
  | swap
  | cas
  deriving DecidableEq, Repr

/-- Where an AtomicOp is aimed (R257, R260). -/
inductive AtomicTarget where
  | bar0 (off : Nat)
  | bar2 (off : Nat)
  deriving DecidableEq, Repr

/-- What the peer forwards an access for (R258, R262): a read, of as many octets as it asks for, a write, or an AtomicOp. -/
inductive Forwarded where
  | read
  | write (octets : List Byte)
  | atomic (op : AtomicOp) (width operand compare : Nat)
  deriving DecidableEq, Repr

/-- The data set of a clock by which the best master clock algorithm compares (R61, R310). -/
structure PtpData where
  priority1    : Nat
  clockClass   : Nat
  accuracy     : Nat
  variance     : Nat
  priority2    : Nat
  grandmaster  : Nat
  stepsRemoved : Nat
  deriving DecidableEq, Repr

/-- What a PTP message brings to an ordinary clock (R61, R310). -/
inductive PtpMsg where
  | announce (d : PtpData)
  | sync (offsetNs : Int)
  | delayReq
  | delayResp (pathDelayNs : Int)
  | metadata (tlv : List Byte)
  | management
  deriving DecidableEq, Repr

/-- The PTP messages a clock sends: on its schedule, and the answer to a delay request (R61). -/
inductive PtpSend where
  | announce
  | sync
  | followUp
  | delayReq
  | delayResp
  deriving DecidableEq, Repr

/-- An E1.31 data packet as the input merge reads it (R170, R171). -/
structure E131Packet where
  univ       : Nat
  cid        : Nat
  prio       : Nat
  seq        : Nat
  syncAddr   : Nat
  preview    : Bool
  terminated : Bool
  startCode  : Nat
  slots      : List Byte
  deriving DecidableEq, Repr

/-- One sample row data header of an ST 2110-20 packet with its octets (R247). -/
structure SampleRow where
  row    : Nat
  field  : Bool
  offset : Nat
  data   : List Byte
  deriving DecidableEq, Repr

/-- An ST 2110-20 packet of a stream path (R247, R248). -/
structure VideoPacket where
  version     : Nat
  payloadType : Nat
  timestamp   : Nat
  extSeq      : Nat
  rows        : List SampleRow
  deriving DecidableEq, Repr

/-- What a pair beacon or a link-up exchange says of the peer (R331, R337). `missed` says that the active has taken commits
that the standby has not (R325). -/
structure PeerInfo where
  pairId     : Nat
  rank       : Nat
  active     : Bool
  csn        : Nat
  health     : Nat
  prioAdj    : Nat
  schema     : Nat
  missed     : Bool
  macs       : List Nat
  cids       : List Nat
  deriving DecidableEq, Repr

/-- What a producer does with a telemetry record (R283, R284): place one with its body, begin one, or end the one that it has
begun. -/
inductive RecordPart where
  | whole (body : List Byte)
  | begins (body : List Byte)
  | ends
  deriving DecidableEq, Repr

/-- A local port with frames: DMX port n or pixel port p. -/
inductive LocalPort where
  | dmx (n : Nat)
  | pix (p : Nat)
  deriving DecidableEq, Repr

/-- The calibrated items of R379, metering apart. -/
inductive CalItem where
  | houseTrim
  | dieSensor
  | showLane
  | straitLane
  deriving DecidableEq, Repr

/-- A commit of a mirrored setting as the active forwards it (R324): the command's opcode, the taking crossing, and what it
carries. -/
structure MirrorCommit where
  opcode  : Nat
  csn     : Nat
  changes : List Sys2Proof.Machine.Change
  deriving DecidableEq, Repr

/-- A ferried fade (R332): its place (fixture × 32 + attribute), its ends, its length, its law, the task slot that started
it as one more than its slot and, times 4,096, its serial, 0 for no task, and the CSN at which it started. -/
structure FerryFade where
  key   : Nat
  v0    : Nat
  v1    : Nat
  len   : Nat
  curve : Nat
  slot  : Nat
  start : Nat
  deriving DecidableEq, Repr

/-- A ferried effect generator with its start CSN, and the frames of a stop with how many have passed (R332). -/
structure FerryEffect where
  index     : Nat
  wave      : Nat
  attr      : Nat
  amp       : Nat
  fixFirst  : Nat
  fixCount  : Nat
  period    : Nat
  phaseStep : Nat
  start     : Nat
  stop      : Option (Nat × Nat)
  deriving DecidableEq, Repr

/-- A ferried task record with its status, as the codes of R175, and the cycles it has waited (R332). -/
structure FerryTask where
  slot    : Nat
  record  : Nat
  gen     : Nat
  state   : Nat
  flag    : Bool
  toFired : Bool
  result  : Nat
  csnLo   : Nat
  waited  : Nat
  aimed   : Nat
  fades   : Nat
  serial  : Nat
  deriving DecidableEq, Repr

/-- The ferried state of a universe (R332). -/
structure FerryUniv where
  index      : Nat
  lastCheck  : Nat
  lastPar    : Nat
  seq        : Nat
  repeatLeft : Nat
  force      : Bool
  termLeft   : Nat
  base       : Nat
  deriving DecidableEq, Repr

/-- A complete ferry as the standby receives it (R332): the frame, its crossing's instant and the active's health word;
its PK_PRIO_ADJ;
its limiter scales; the check of each universe decided and the universes overrun; universe state and synchronisation sequence
numbers; cue values, fades, effect generators and tasks; thermal estimates and the correction list; the digest of each input
universe and the timestamp that each stream took; and its octets. What is sent as dirty blocks stands here as the standby has it
with the ferries before. -/
structure FerryData where
  csn       : Nat
  instant   : Nat
  health    : Nat
  prioAdj   : Nat
  scales    : List Rat
  checks    : List (Nat × Nat)
  overrun   : List Nat
  univs     : List FerryUniv
  syncSeqs  : List (Nat × Nat)
  cueVals   : List (Nat × Nat)
  fades     : List FerryFade
  effects   : List FerryEffect
  tasks     : List FerryTask
  tEst      : List (Nat × Rat)
  corrected : List Nat
  digests   : List (Nat × Nat)
  streams   : List (Nat × Nat)
  octets    : Nat
  deriving DecidableEq, Repr

/-- A bulk ferry as the standby receives it (R344): every ferry item, the records of the mirrored tables, and the CSN of the active
as it ends. -/
structure BulkFerry where
  items  : FerryData
  tables : List (Nat × List (Nat × Nat))
  now    : Nat
  deriving DecidableEq, Repr

/-- What a link frame brings (R324, R325, R327, R329, R332, R344, R387): a commit forwarded, that the active has taken a commit
alone, the CIDs of a source commit, a ferry or a bulk ferry with its start, what a lane's calibration changes at a crossing, the
exchange of a link that comes up, and the control frames. The spec gives none of them a layout, but for what `data` stands
for. -/
inductive LinkPayload where
  | keepalive
  | ack (seq : Nat)
  | nak (seq : Nat)
  | data (octets : List Byte)
  | exchange (k : PeerInfo)
  | commit (m : MirrorCommit)
  | missed (csn : Nat)
  | cids (l : List Nat)
  | ferry (d : FerryData)
  | bulkStart
  | bulk (b : BulkFerry)
  | laneSwitch (csn lane sel : Nat) (spare : Option Nat)
  deriving DecidableEq, Repr

/-- The commands and events of the block. -/
inductive Instr where
  -- SYS (R307)
  | sysInfo (h : CmdHdr) (p : Nat)
  | sysPing (h : CmdHdr) (p : Nat)
  | sysWarmReset (h : CmdHdr) (p : Nat)
  | sysPowerSet (h : CmdHdr) (p : Nat)
  | sysEventRoute (h : CmdHdr) (p : Nat)
  | sysSettingsSave (h : CmdHdr) (p : Nat)
  | sysSettingsLoad (h : CmdHdr) (p : Nat)
  -- SHOW (R308)
  | showCommit (h : CmdHdr) (p : Nat)
  | showCross (h : CmdHdr) (p : Nat)
  | showUncommit (h : CmdHdr) (p : Nat)
  | showLayerFlip (h : CmdHdr) (p : Nat)
  | showTaskLoad (h : CmdHdr) (p : Nat)
  | showTaskCancel (h : CmdHdr) (p : Nat)
  | showTaskFree (h : CmdHdr) (p : Nat)
  -- TBL (R302, R305, R306)
  | tblFixtureCommit (h : CmdHdr) (p : Nat)
  | tblProfileCommit (h : CmdHdr) (p : Nat)
  | tblUniverseCommit (h : CmdHdr) (p : Nat)
  | tblRunCommit (h : CmdHdr) (p : Nat)
  | tblCanvasCommit (h : CmdHdr) (p : Nat)
  | tblLayerCommit (h : CmdHdr) (p : Nat)
  | tblCellposCommit (h : CmdHdr) (p : Nat)
  | tblCurveCommit (h : CmdHdr) (p : Nat)
  | tblCueCommit (h : CmdHdr) (p : Nat)
  | tblInunivCommit (h : CmdHdr) (p : Nat)
  | tblInpatchCommit (h : CmdHdr) (p : Nat)
  | tblSourceCommit (h : CmdHdr) (p : Nat)
  | tblUcastCommit (h : CmdHdr) (p : Nat)
  | tblRdmctxCommit (h : CmdHdr) (p : Nat)
  | tblStreamCommit (h : CmdHdr) (p : Nat)
  | tblRevert (h : CmdHdr) (p : Nat)
  -- TIME (R310)
  | timePtpStatus (h : CmdHdr) (p : Nat)
  | timePtpSet (h : CmdHdr) (p : Nat)
  | timeTbStep (h : CmdHdr) (p : Nat)
  | timeFramegenSet (h : CmdHdr) (p : Nat)
  | timeFramegenStart (h : CmdHdr) (p : Nat)
  | timeFramegenStop (h : CmdHdr) (p : Nat)
  | timeFramegenRephase (h : CmdHdr) (p : Nat)
  -- NET, PORT (R311, R312)
  | netGroupJoin (h : CmdHdr) (p : Nat)
  | netGroupLeave (h : CmdHdr) (p : Nat)
  | netNeighbourResolve (h : CmdHdr) (p : Nat)
  | portRdmRequest (h : CmdHdr) (p : Nat)
  | portRdmDiscover (h : CmdHdr) (p : Nat)
  | portRdmAbort (h : CmdHdr) (p : Nat)
  -- METER (R313)
  | meterFeedSet (h : CmdHdr) (p : Nat)
  | meterPqSet (h : CmdHdr) (p : Nat)
  | meterPulseSet (h : CmdHdr) (p : Nat)
  | meterJournalFlush (h : CmdHdr) (p : Nat)
  | meterTotalsPreset (h : CmdHdr) (p : Nat)
  -- PAIR (R314)
  | pairConfig (h : CmdHdr) (p : Nat)
  | pairPromote (h : CmdHdr) (p : Nat)
  | pairSwap (h : CmdHdr) (p : Nat)
  | pairResync (h : CmdHdr) (p : Nat)
  | pairStatus (h : CmdHdr) (p : Nat)
  -- UPD (R315)
  | updStage (h : CmdHdr) (p : Nat)
  | updVerify (h : CmdHdr) (p : Nat)
  | updActivate (h : CmdHdr) (p : Nat)
  | updStatus (h : CmdHdr) (p : Nat)
  | updRevert (h : CmdHdr) (p : Nat)
  | updTrialSet (h : CmdHdr) (p : Nat)
  | updCounterAdvance (h : CmdHdr) (p : Nat)
  -- CAL, DIAG (R316, R317)
  | calRun (h : CmdHdr) (p : Nat)
  | calMeterRef (h : CmdHdr) (p : Nat)
  | calAutoSet (h : CmdHdr) (p : Nat)
  | diagScrubSet (h : CmdHdr) (p : Nat)
  | diagEccInject (h : CmdHdr) (p : Nat)
  | diagCheckRun (h : CmdHdr) (p : Nat)
  | diagLoopback (h : CmdHdr) (p : Nat)
  | diagDebugUnlock (h : CmdHdr) (p : Nat)
  | diagTempRead (h : CmdHdr) (p : Nat)
  | diagEventTest (h : CmdHdr) (p : Nat)
  | commandBad (h : CmdHdr) (opcode : Nat) (kind : BadKind)
  -- register writes (R463 and the blocks' own rules)
  | registerWrite (off : Nat) (first : Word × Nat) (rest : List (Word × Nat))
  | tbSnap (v : Word)
  | txtsRelease (unit : Nat) (v : Word)
  | txtsStatusClear (unit : Nat) (v : Word)
  | lanenClr (lane : Nat) (v : Word)
  | mapClr (v : Word)
  | modelClr (v : Word)
  | schedClr (v : Word)
  | netCntSnap (v : Word)
  | netCntClr (v : Word)
  | hbEpochWrite (v : Word) (be : Nat)
  | hbEvtWfailClear (v : Word)
  | evtLegacyPop (be : Nat)
  | ringEnable (r : Nat) (v : Word)
  | ringProdWrite (r : Nat) (v : Word)
  | ringConsWrite (r : Nat) (v : Word)
  | ringFlushHost (r : Nat) (v : Word)
  | ringFlushDevice (r : Nat) (v : Word)
  | ringSlotWrite (off : Nat) (octets : List Byte)
  | ringEntryTake (r : Nat)
  | ringStall (r : Nat)
  | mbmDoorbell (m : Nat) (v : Word)
  | tffAdvance (f : Nat) (v : Word)
  | tffMark (f : Nat) (v : Word)
  | tffRewind (f : Nat) (v : Word)
  | tffRelease (f : Nat) (v : Word)
  | tffClose (f : Nat) (v : Word)
  | tffFlush (f : Nat) (v : Word)
  | telemAgeClose (f : Nat)
  | telemRecordProduce (producer : Nat) (part : RecordPart)
  | mtrHostSnap (v : Word)
  | ckxStart (x : Nat) (v : Word)
  | ckxDataWrite (x : Nat) (hi : Bool) (v : Word) (be : Nat)
  | ckxRunWrite (x : Nat) (hi : Bool) (v : Word)
  | ckxFinish (x : Nat) (v : Word)
  | eccmEvtClear (m : Nat) (v : Word)
  | evtClr (v : Word)
  | ctrlRestart (v : Word)
  | bootRecover (v : Word)
  | msixUnmask (vector : Nat)
  -- host accesses to BAR2 and the peer aperture (R257 to R265)
  | hostBar2Write (off : Nat) (octets : List Byte) (req : Nat)
  | hostBar2Read (off : Nat) (len : Nat)
  | hostAtomicOp (op : AtomicOp) (at_ : AtomicTarget) (width : Nat) (operand compare : Nat)
  | peerAtomicOp (off : Nat) (req : Nat) (atomic : Bool) (answer : Option (List Byte × Bool))
  | hostPeerTimeout (off : Nat) (req : Nat) (atomic : Bool)
  | peerWriteForward (off : Nat) (octets : List Byte) (req : Nat)
  | peerWriteFailureMsg (off : Nat) (req : Nat) (epoch : Nat) (cause : Nat) (len : Nat)
  | forwardedAccessServe (off : Nat) (access : Forwarded) (len : Nat)
  -- the generator (chapters 2 and 3)
  | sealPoint
  | crossing
  | explicitCrossing
  | immediateCrossing
  | fgResume
  | generatorStopEffect
  | copyForwardDone (table : Nat)
  | timeBaseStep (tb : Nat) (offsetNs : Int)
  | ptpMessageReceive (tb : Nat) (m : PtpMsg)
  | ptpMessageSend (tb : Nat) (k : PtpSend)
  | tbSourceLost (tb : Nat)
  | ltcFrame (tc ubits : Nat) (reverse dropFrame colourFrame : Bool) (bit0Cycles : Nat)
  | ltcLost (noFrame : Bool)
  | fpulseInEdge (rising : Bool)
  | fpulseInLoss
  | fpulseOutStart
  | fpulseOutEnd
  -- the pipeline (chapters 4 to 8)
  | bandWritten (canvas band : Nat)
  | fixtureHandover (f : Nat)
  | universeDecide (u : Nat)
  | emissionWindowOpen
  | packetStart (port : Nat)
  | emissionWindowClose
  | holdKeepalive (u : Nat)
  | taskWaitInstant (slot : Nat)
  | trigInEdge (pin : Nat) (rising : Bool)
  | trigFilterExpire (pin : Nat)
  | taskTimeout (slot : Nat)
  | taskDispatch
  | e131DataReceive (port : Nat) (pkt : E131Packet)
  | e131SyncReceive (port : Nat) (cid : Nat) (addr : Nat)
  | inputSourceTimeout (entry : Nat) (cid : Nat)
  | inputSyncTimeout (entry : Nat) (cid : Nat)
  -- local ports (chapter 9)
  | lpFrameStart (port : LocalPort)
  | lpHold (port : LocalPort)
  | lpHoldRepeat (port : LocalPort)
  | rdmRequestStart (port : Nat)
  | rdmResponseReceive (port : Nat) (breakUs : Nat) (octets : List Byte)
  | rdmResponseTimeout (port : Nat)
  | rdmSensorPoll (ctx : Nat)
  | rdmAckTimerExpire (ctx : Nat)
  | rdmRequestExpire (ctx : Nat) (tag : Nat)
  | hcPwmPeriod (n : Nat) (sense : List Nat)
  | hcDiagStarved (n : Nat)
  | hcNtcRefresh (n : Nat) (code : Nat)
  -- the network (chapter 10)
  | netFrameReceive (port : Nat) (frame : List Byte)
  | pauseReceive (port : Nat) (quanta : Nat)
  | pauseExpire (port : Nat)
  | netPauseWatchdog (port : Nat)
  | netPauseRearm (port : Nat)
  | netLinkChange (port : Nat) (up : Bool) (eeeResolved : Bool)
  | membershipReportRepeat (port : Nat)
  | lldpSend (port : Nat)
  | lpiEnter (port : Nat)
  | txJobSend (r : Nat) (fetched : Option (List Byte))
  | videoPacketReceive (stream : Nat) (pathB : Bool) (pkt : VideoPacket)
  | streamMergeTimeout (stream : Nat)
  | streamPathDown (stream : Nat) (pathB : Bool)
  -- the pair (chapter 13)
  | straitLinkFrameReceive (seq : Nat) (octets : List Byte) (payload : LinkPayload)
  | straitLinkSilent
  | straitLinkUp (peer : PeerInfo)
  | straitLaneFail (lane : Nat)
  | straitKeepalive
  | mirrorCommitReceive (m : MirrorCommit)
  | mirrorAckTimeout
  | ferryComplete (d : FerryData)
  | ferryLate
  | beaconReceive (port : Nat) (peer : PeerInfo)
  | bulkFerryComplete (bulk : Option BulkFerry)
  -- metering (chapter 14)
  | meterSample (feed : Nat) (streams : List (BitVec 2560))
  | meterModFault (feed ch : Nat)
  | meterPulseStart (n : Nat)
  | meterPulseEnd (n : Nat)
  | pwrWarnAssert
  | vaonFeedChange (feedB : Bool) (present : Bool)
  | meterWarnClear
  | journalWriteDone (durationUs : Nat)
  -- calibration and integrity (chapter 15)
  | dieSensorSample (sensor : Nat) (raw : Int)
  | calAutoStart
  | calUnitDone (item : CalItem) (unit : Nat) (value : Nat) (eyeWidth eyeHeight : Nat)
  | calUnitTimeout (item : CalItem) (unit : Nat)
  | meterCalSpanEnd (feed : Nat)
  | patrolBurst (mem : Nat)
  | maintActivityStart
  | cmdComplete
  -- images (chapter 16)
  | ctrlHandoverDone
  | updConfirmed (type : Nat)
  | trialWindowExpire (type : Nat)
  | ctrlWatchdog
  -- power, boot, debug (chapter 17)
  | powerOnReset
  | mainPgFall
  | mainPgRise
  | perstN
  | pwrDomainChange (domain : Nat)
  | jtagUpdateIr (code : Nat)
  | jtagProvision (package : List Byte)
  | combinedSupplyFall
  | perstNRelease
  | testLogicReset
  | lpiWake (port : Nat)
  | pwrWarnNRelease
  | neighbourSolicitRetry (port : Nat)
  | checkRunFinish (x : Nat)
  deriving DecidableEq, Repr

end Sys2Proof
end

