-- ==== Sys2Proof/Config.lean ====
section
/-! DEFINITION. What an XK1 is built or fused with, and the values that the spec leaves open. Every constant here is
opaque: nothing can be proved of its value. -/

namespace Sys2Proof.Config

/-- The free value number `n` of a run: every open value that a command needs is drawn from here (log entry 2). -/
opaque freeWord : Nat → BitVec 64

/-- GRADE of ID_REV from the fuses (R470, log entry 10). -/
opaque grade : Bool

/-- The low half of the factory MAC base from the fuses (R470, log entry 10); its three low bits read as 0. -/
opaque macLow : BitVec 24

/-- Whether a debugger holds a control core halted at an 800 MHz cycle while core debug is open (R459, log entry 40). -/
opaque coreHalted : Nat → Bool

/-- The factory MAC base: its high half is Trelwald's OUI, 5C-E8-31 (R470). -/
def macBase : BitVec 48 := (0x5CE831 : BitVec 24) ++ macLow

/-- PART_UID from the fuses (R449, log entry 10). -/
opaque partUid : BitVec 128

/-- The key epoch that the fuses of a part out of the factory name (R442, log entry 10). -/
opaque keyEpoch : BitVec 3

/-- The density that the fitted LPDDR5X reports: 0, 1 or 2 for 8, 16 or 32 GiB, 3 for none that trains (R14, R472). -/
opaque dramFitted : BitVec 2

/-- The key epochs that hold secrets in a part out of the factory (R445, log entry 10). -/
opaque keySecrets : BitVec 8

/-- A public key of the key store, its point's x and y: 0 to 3 the image verification keys, 4 to 7 the debug authority keys (R405,
R441, R443). They are in fuses, and the spec does not give them (log entry 10). -/
opaque publicX : Nat → BitVec 384
opaque publicY : Nat → BitVec 384

/-- The fuse row of a key epoch of a part out of the factory, which holds its key-encryption key, and the wrapped secrets in the
epoch's storage (R441, log entry 10). -/
opaque factoryRow : Nat → BitVec 256
opaque factoryWrapped : Nat → List (BitVec 8)

/-- What wrapping under a key-encryption key makes of secrets, and what unwrapping makes of wrapped ones; the spec names no
algorithm (R441, R445, log entry 10). -/
opaque wrapSecrets : BitVec 256 → List (BitVec 8) → List (BitVec 8)
opaque unwrapSecrets : BitVec 256 → List (BitVec 8) → List (BitVec 8)

/-- The secrets that a provisioning package carries (R445, log entry 10); its layout is not given. -/
opaque packageSecrets : List (BitVec 8) → List (BitVec 8)

/-- Whether a provisioning package is signed by a debug authority key (R445); its layout is not given. -/
opaque provisionOk : List (BitVec 8) → Bool

/-- What the CTRL image of a version makes of a settings copy in another format (R418, R419): the registers and their values,
none where it cannot convert it. -/
opaque settingsConvert : Nat → Nat → List (Nat × BitVec 32) → Option (List (Nat × BitVec 32))

/-- The requester ID of the host on the PCI Express link (R263, log entry 15). -/
opaque hostRequester : BitVec 16

/-- The size that the host gives BAR2, as log2 of MiB less 8 (R257, R258, R286, log entry 15). -/
opaque bar2Size : BitVec 3

/-- Octets of BAR2. -/
def bar2Octets : Nat := 2 ^ (28 + bar2Size.toNat)

/-- The width and the speed to which the PCI Express link trains, as HB_STATUS shows them (R286, log entry 15). -/
opaque hostLink : BitVec 7

/-- The taps of the metering FIR stage, the newest input's first: the spec gives its passband and stopband, and no tap (R350, log
entry 33). -/
opaque firTap : Nat → Int

/-- Whether the Vilfene image of a version and body carries program `p` other than program 0 (R145, log entry 20). -/
opaque programIn : Nat → List (BitVec 8) → Nat → Bool

/-- The drive of an emitter of a cell, in 2⁻³² up to 1, under a program other than program 0 (R145, log entry 20): from the
image's octets, everything the cell is evaluated from (its version, profile, curve table, canvas space, sample codes, attribute
values, temperature and L, as numbers) and the emitter. -/
opaque programDrive : List (BitVec 8) → List Nat → Nat → BitVec 33

/-- The slot code of a cell slot position under such a program (R145, log entry 20). -/
opaque programCode : List (BitVec 8) → List Nat → Nat → BitVec 16

/-- The counter that takes a cell under such a program: 1 HEADROOM, 2 DERATE, else none (R145, log entry 20). -/
opaque programCount : List (BitVec 8) → List Nat → BitVec 2

/-- The step by which a slot code of program 0 differs from the exactly rounded one (R135, log entry 20): 1 is one up, 2 is
one down, else none, from the image, the same inputs and the cell slot position. -/
opaque codeStep : List (BitVec 8) → List Nat → Nat → BitVec 2

/-- Which of the sources that tie under MERGE 1 an attribute takes: from the CSN and the place fixture × 32 + attribute
(R172, log entry 21). -/
opaque latestPick : Nat → Nat → Nat

/-- The number by which an event item or a journal tells a cause that the spec names but does not number (log entry 22). -/
opaque causeCode : Nat → BitVec 32

/-- The UID of the part as an RDM controller, which the spec does not give (log entry 32). -/
opaque rdmUid : BitVec 48

/-- Whether the partner of a port whose link has resolved EEE asserts low-power idle at a cycle (R242, log entry 39). -/
opaque partnerIdle : Nat → Nat → Bool

/-- The receive wake time that the PHY of a show port needs, in microseconds, as its LLDP advertises it (R241, log entry 39). -/
opaque phyWake : BitVec 16

/-- The type, and the payload, of the link frames that carry a message; their layout is not given (R329, log entry 35). -/
opaque linkType : Sys2Proof.LinkPayload → BitVec 8
opaque linkBody : Sys2Proof.LinkPayload → List (BitVec 8)

/-- What stands in the TLV of a beacon after the OUI, for the PAIR_ID, rank, role, CSN, health word and PK_PRIO_ADJ that it holds; the
layout is not given (R337, log entry 35). -/
opaque beaconTlv : Nat → Nat → Bool → Nat → Nat → Nat → List (BitVec 8)

/-- The PTP identity of the part's own clocks, which the spec does not give (log entry 29). -/
opaque clockIdentity : BitVec 64

end Sys2Proof.Config
end

