-- ==== Sys2Proof/Machine/State.lean ====
section
/-! DEFINITION. The state of the XK1: everything spec/ gives the part, as plain data. `Chip` holds the part but for its
LPDDR5X; `State` adds LPDDR5X (`dram`) and the queue of waiting commands. Registers that are plain words stand in the
sparse files `regs` (current and pending values) and `live` (live values of RWB registers), by BAR0 offset. -/

namespace Sys2Proof.Machine

/-- Why the machine stops. -/
inductive Fault where
  /-- Raised by a command whose operand names no resource of the part (a port, lane, slot or context beyond R5's range,
  or an event that no sender can make). R10 leaves the behaviour outside the stated conditions undefined. Safe: the model
  stops where the part's behaviour is not defined. -/
  | outsideConditions
  deriving DecidableEq, Repr

/-- Why a command is refused a meaning. -/
inductive Refusal where
  /-- Raised by an arm of `exec` whose command has no meaning yet, with the row's mnemonic. Safe. -/
  | notModelled (mnemonic : String)
  deriving DecidableEq, Repr

/-- STATE of a time base (R60, R79). -/
inductive TbMode where
  | free | acquiring | locked | holdover
  deriving DecidableEq, Repr

/-- The data of the ordinary clock of a time base (R61, R310): `parent` is the best master heard, `port` the identity of its
port where a frame has shown it. `rxSync` holds the number and the arrival of a synchronisation that awaits its follow-up,
`txDelay` the number of the last delay request, the cycle at which its start-of-frame delimiter left, and what its stamp adds to the
reading there, `diff` the last arrival less departure of a
synchronisation, all in nanoseconds; `syncSeq` the number of the synchronisation last sent, `reqSeq` that of the delay request
last heard; `sched` the cycle at which each kind of message is next due. -/
structure PtpClock where
  parent       : Option PtpData
  port         : Option Nat
  rxSync       : Option (Nat × Int)
  txDelay      : Option (Nat × Nat × Nat)
  diff         : Int
  syncSeq      : Nat
  reqSeq       : Nat
  sched        : List (PtpSend × Nat)
  pathDelayNs  : Int
  logAnnounce  : Int
  logSync      : Int
  logDelay     : Int
  priority1    : Nat
  priority2    : Nat
  announceTo   : Nat
  master       : Bool
  seq          : Nat
  tlv          : List Byte
  deriving DecidableEq, Repr

/-- A time base (R55 to R60). `time` counts 2⁻¹² × 10⁻⁹ ns, in which one 800 MHz cycle at any rate of R56 is whole. `past`
holds, newest first, the cycles of late steps and changes of rate with the reading and the rate before each (R73). -/
structure TimeBase where
  time    : Nat
  rate    : Int
  past    : List (Nat × Nat × Int)
  mode    : TbMode
  inBand  : Nat
  outBand : Nat
  offset  : Int
  ptp     : PtpClock
  snap    : Nat
  deriving DecidableEq, Repr

/-- MODE of the frame generator (R53). -/
inductive FgMode where
  | stopped | running | held
  deriving DecidableEq, Repr

/-- A crossing that SHOW_CROSS has called and that is not yet asserted (R47, R48): its command, its CSN, and the 800 MHz
cycle at which it is asserted; no channel for one that the active isle called (R324). -/
structure ExplicitCall where
  chan    : Option Chan
  tag     : Nat
  csn     : Nat
  instant : Nat
  deriving DecidableEq, Repr

/-- The frame generator (R25 to R31, R63 to R67). Instants are whole nanoseconds on the bound time base. `nextIdx` is the
grid index of the next crossing, none for one off the grid; `immediate` holds the grid instants passed over before an
immediate crossing, the highest reading so far and the cycle of its assertion (R67). -/
structure FrameGen where
  mode      : FgMode
  tb        : Nat
  rateN     : Nat
  rateD     : Nat
  origin    : Nat
  last      : Nat
  lastGrid  : Bool
  lastIdx   : Nat
  next      : Nat
  nextIdx   : Option Nat
  immediate : Option (Nat × Nat × Nat)
  stopping  : Bool
  explicit  : List ExplicitCall
  crossCycle : Nat
  deriving DecidableEq, Repr

/-- An accepted commit that awaits its crossing (R32 to R45). `chan` is none for a task's commit and for the part's own
(calibration, path latencies); `slot` is the task's slot. -/
structure Commit where
  chan    : Option Chan
  tag     : Nat
  opcode  : Nat
  target  : Nat
  changes : List Change
  slot    : Option Nat
  deriving DecidableEq, Repr

/-- A mirrored commit that waits for the standby's acknowledgement before it is accepted (R324): the command it came
from, if a command of a channel, and the result its response will carry. -/
structure MirrorWait where
  seq    : Nat
  commit : Commit
  header : Option CmdHdr
  payload : Nat
  result : List Byte
  deriving DecidableEq, Repr

/-- A copy-forward in progress (R35): the table, the records, and the crossing that took their commit. -/
structure CopyForward where
  table   : Nat
  indices : List Nat
  csn     : Nat
  deriving DecidableEq, Repr

/-- A layer buffer replaced at a crossing and not yet announced (R103). -/
structure Retired where
  canvas  : Nat
  layer   : Nat
  addr    : Nat
  tag     : Nat
  csn     : Nat
  deriving DecidableEq, Repr

/-- A layer latched for the frame (R46, R96, R105): its record, for a stream layer with the buffer, the stride and the
source rectangle that it takes, and whether it is fetched. -/
structure LatchedLayer where
  canvas : Nat
  layer  : Nat
  record : Nat
  draw   : Bool
  deriving DecidableEq, Repr

/-- A tracked console source of an input universe (R170 to R172): the table entry and the universe it came on. `changes` holds,
slot by slot, one more than the cycle of the latest snapshot at which the octet changed, 0 where none has; `supplied` one
more than the cycle of the snapshot that brought the slot. `place` is its place among its entry's four in the working region. -/
structure Source where
  entry    : Nat
  cid      : Nat
  prio     : Nat
  seq      : Nat
  syncAddr : Nat
  syncCyc  : Nat
  current  : List Byte
  waiting  : Option (List Byte)
  cycle    : Nat
  since    : Nat
  snap     : List Byte
  snapPrio : Nat
  changes  : List Nat
  supplied : List Nat
  univ     : Nat
  place    : Nat
  deriving DecidableEq, Repr

/-- The frame in the pipeline (R46, R84 to R102, R121, R123 to R125, R191 to R201): the canvases and layers latched, the bands
not yet written in their order, the band that each compose lane has, and the lanes whose fetches are promoted; the console sources as the crossing took them; of the fixtures, those the walker has still to come to, those parked, those whose reads are issued, those
handed over and those not rendered; of the universes, those whose record failed, those decided and those not emitted; and the
ports that the frame's masks leave out. -/
structure Frame where
  csn        : Nat
  canvases   : Sparse Nat
  layers     : List LatchedLayer
  bands      : List (Nat × Nat)
  lanes      : List (Option (Nat × Nat))
  urgent     : List Bool
  sources    : List Source
  walk       : List Nat
  parked     : List Nat
  issued     : List Nat
  done       : List Nat
  skipped    : List Nat
  corrupt    : List Nat
  portsDown  : List Nat
  decided    : List Nat
  unemitted  : List Nat
  windowOpen : Bool
  windowDone : Bool
  termsBuilt : Bool
  openCycle  : Nat
  closeCycle : Nat
  stalled    : Bool
  unrendered : Nat
  profSeen   : Bool
  univSeen   : Bool
  fetchPxl   : Nat
  cullPxl    : Nat
  deriving DecidableEq, Repr

/-- Everything a data packet is built from, but for its port and its sequence number (R189): a run's template, or the
fields of a lone descriptor. `ports` holds the MAC address, the IP address and the tag of each show port where they are not the live
ones (R195). -/
structure PacketSpec where
  template : Option (List Byte)
  vlan     : Bool
  ipv6     : Bool
  dest     : Nat
  ipDst    : Nat
  dscp     : Nat
  ttl      : Nat
  sync     : Nat
  force    : Bool
  univ     : Nat
  cid      : List Byte
  name     : List Byte
  prio     : Nat
  slots    : List Byte
  mask     : Nat
  ports    : List (Nat × Nat × Option Nat)
  deriving DecidableEq, Repr

/-- The packer's state of a universe (R180, R182, R191, R195, R205). -/
structure UnivState where
  lastCheck  : Nat
  lastPar    : Nat
  seq        : Nat
  repeatLeft : Nat
  force      : Bool
  termLeft   : Nat
  base       : Nat
  lastCsn    : Nat
  overrun    : Bool
  serving    : Bool
  sent       : Bool
  lastSpec   : Option PacketSpec
  termSpec   : Option PacketSpec
  deriving DecidableEq, Repr

/-- Why a packet is on a queue. -/
inductive PacketKind where
  | changed | repeated | keepalive | hold | term | sync
  deriving DecidableEq, Repr

/-- A packet queued on a port at a cycle, octets from the Ethernet destination up to the FCS. -/
structure Queued where
  u      : Nat
  cycle  : Nat
  kind   : PacketKind
  frame  : Nat
  check  : Nat
  octets : List Byte
  deriving DecidableEq, Repr

/-- STATE of a task slot (R155, R175). -/
inductive TaskState where
  | free | waiting | ready | dispatching | accepted | ended
  deriving DecidableEq, Repr

/-- RESULT of a task (R175). -/
inductive TaskResult where
  | none | done | late | timedOut | cancelled | cancelledBeforeDispatch | resourceDenied | depInvalid | missed
  deriving DecidableEq, Repr

/-- A task slot (R152 to R162, R175). `serial` counts the slot's loads without end. -/
structure Task where
  record  : Nat
  gen     : Nat
  state   : TaskState
  flag    : Bool
  toFired : Bool
  result  : TaskResult
  csnLo   : Nat
  loaded  : Nat
  order   : Nat
  aimed   : Nat
  fades   : Nat
  serial  : Nat
  deriving DecidableEq, Repr

/-- A fade of one attribute of one fixture (R164). `slot` is the task that started it: one more than its slot and, times 4,096,
its serial; 0 for a fade of no task. -/
structure Fade where
  v0    : Nat
  v1    : Nat
  len   : Nat
  n     : Nat
  curve : Nat
  slot  : Nat
  deriving DecidableEq, Repr

/-- An effect generator (R166, R167). `stop` holds the frames of a stop in progress and how many have passed. -/
structure Effect where
  wave      : Nat
  attr      : Nat
  amp       : Nat
  fixFirst  : Nat
  fixCount  : Nat
  period    : Nat
  phaseStep : Nat
  n         : Nat
  stop      : Option (Nat × Nat)
  deriving DecidableEq, Repr

/-- The limiter of one feed (R143). -/
structure Limiter where
  scale    : Rat
  drive    : Rat
  rendered : Bool
  baseOver : Bool
  deriving DecidableEq, Repr

/-- The frame that a selected crossing starts on a local port (R208): the cycle, the crossing's CSN, and whether the isle drove
its pins at that crossing (R322). -/
structure PortStart where
  cycle : Nat
  csn   : Nat
  sent  : Bool
  deriving DecidableEq, Repr

/-- The frame a local port last sent (R207 to R209): its octets, what gives its bits their form (on a DMX port BREAK, MAB and MBS in
µs; on a pixel port POL, T0H, T1H in 25 ns and LATCH in µs in mode 0, CLKDIV in mode 1), when it started, for how long it
lasts and when it ends, the period in force at its start (0 once the port is off), and whether it left the pins (R322). -/
structure PortFrame where
  octets : List Byte
  form   : List Nat
  start  : Nat
  len    : Nat
  ends   : Nat
  period : Nat
  sent   : Bool
  deriving DecidableEq, Repr

/-- What an RDM request does (R215, R216): a host's request, a sensor's definition or value, or discovery with the UID to
mute and the ranges still to search. -/
inductive RdmJob where
  | request (cls sub pid : Nat) (data : List Byte)
  | definition (sensor : Nat)
  | value (sensor : Nat)
  | discover (unmute : Bool) (mute : Option Nat) (todo : List (Nat × Nat))
  deriving DecidableEq, Repr

/-- A queued RDM request (R212, R215, R216): its context, its command's TAG, the cycle of its acceptance, and whether it has
started, as a discovery under way has. -/
structure RdmRequest where
  ctx      : Nat
  tag      : Nat
  host     : Bool
  job      : RdmJob
  accepted : Nat
  started  : Bool
  deriving DecidableEq, Repr

/-- A DMX port beyond its registers (R207 to R217, R226): `selected` is the frame that the last selected crossing starts,
`busyEnd` the end of the last RDM request, `trans` its transaction number, `interval` the cycle of the last selected crossing at
which RDM was enabled, `starved` the intervals in a row whose gap a waiting request did not fit, `steal` that this interval is
given to RDM. -/
structure DmxPort where
  frame   : PortFrame
  held    : Bool
  late    : Bool
  denied  : Bool
  selected : Option PortStart
  queue   : List RdmRequest
  active  : Option RdmRequest
  busyEnd : Nat
  trans   : Nat
  interval : Option Nat
  starved : Nat
  served  : Bool
  steal   : Bool
  deriving DecidableEq, Repr

/-- A pixel port beyond its registers (R207 to R209, R218 to R220, R226). -/
structure PixPort where
  frame    : PortFrame
  held     : Bool
  late     : Bool
  denied   : Bool
  selected : Option PortStart
  effOff   : Nat
  deriving DecidableEq, Repr

/-- An RDM sensor of a context (R142, R215): its definition, once read, with its prefix; the latest reading in 8.8 °C and
how many have come; `ackAt` is when a GET that an ACK_TIMER put off is repeated. -/
structure RdmSensor where
  ctx     : Nat
  sensor  : Nat
  defined : Bool
  isTemp  : Bool
  pre     : Nat
  reading : Int
  count   : Nat
  ackAt   : Option Nat
  deriving DecidableEq, Repr

/-- A house channel beyond its registers (R221 to R225). `level` is V; `fadeLeft` counts PWM periods; `remainder` is the
dither's, in 1/65,535 of a cycle; `verdict` as HCn_STATUS; `unevaluated` counts frames, `diag` is DIAG_EN in the frame in progress; `pwmAt` is the start of the last
period. -/
structure House where
  level    : Rat
  target   : Nat
  fadeLeft : Nat
  duty     : Nat
  remainder : Nat
  temp     : Int
  ntcFault : Bool
  derated  : Bool
  verdict  : Nat
  openRun  : Nat
  shortRun : Nat
  okRun    : Nat
  unevaluated : Nat
  evaluated : Bool
  diag     : Bool
  pulseDue : Bool
  calHold  : Bool
  pwmAt    : Option Nat
  deriving DecidableEq, Repr

/-- A transmit time stamp (R71). -/
structure Stamp where
  ident : Nat
  tb    : Nat
  time  : Nat
  deriving DecidableEq, Repr

/-- A NET_NEIGHBOUR_RESOLVE under way (R311): its command (no channel once PERST_N has taken it, R433), the address, the solicitations sent and the cycle of the last. -/
structure Solicit where
  chan  : Option Chan
  tag   : Nat
  ipv6  : Bool
  addr  : Nat
  tries : Nat
  since : Nat
  deriving DecidableEq, Repr

/-- The output balls of R479 whose resting level the spec gives. -/
inductive Ball where
  | modClk (feed : Nat)
  | dmxTx (n : Nat)
  | dmxDe (n : Nat)
  | pixDat (p : Nat)
  | pixClk (p : Nat)
  | gate (n : Nat)
  | fpulse
  | vref
  | isleActive
  | spiCsN
  | spiClk
  deriving DecidableEq, Repr

/-- The level of a ball at rest; HC_VREF rests at 0 V. -/
inductive Level where
  | low | high | hiZ
  deriving DecidableEq, Repr

/-- What leaves the part, kept for statements only. `boundary` says that the covered balls carry the boundary register's cells,
whose contents no command of the table shifts in (R447). -/
inductive Out where
  | frame (port : Nat) (octets : List Byte)
  | msix (vector : Nat) (addr : Nat) (data : Nat)
  | hostWrite (addr : Nat) (octets : List Byte)
  | readData (octets : List Byte) (poisoned : Bool)
  | completerAbort
  | unsupported
  | legacyPop (v : Word)
  | link (seq : Nat) (octets : List Byte)
  | linkAck (seq : Nat)
  | linkNak (seq : Nat)
  | linkKeepalive
  | forward (off : Nat) (octets : List Byte)
  | forwardRead (off len : Nat)
  | forwardAtomic (off : Nat) (op : AtomicOp) (width operand compare : Nat)
  | hostRead (addr len : Nat)
  | peerFailure (off : Nat) (cause : Nat)
  | dmx (port : Nat) (octets : List Byte) (form : List Nat)
  | pix (port : Nat) (octets : List Byte) (form : List Nat)
  | rdm (port : Nat) (octets : List Byte)
  | de (port : Nat) (high : Bool)
  | isleActive (high : Bool)
  | gate (n : Nat) (onCycles : Nat) (activeLow : Bool)
  | fpulse (high : Bool)
  | balls (l : List (Ball × Level))
  | boundary
  | beacon (port : Nat) (octets : List Byte)
  | ptp (tb : Nat) (k : PtpSend) (seq : Nat) (unicast : Bool)
  | report (port src : Nat) (g : Group) (held older : Bool)
  | lldp (port ttl : Nat) (wake : Option Nat)
  | echo (port : Nat)
  | solicit (port src : Nat) (ipv6 : Bool) (addr : Nat)
  deriving DecidableEq, Repr

/-- A network port beyond its registers (R232 to R244, R71, R72). Times are 800 MHz cycles: `pauseFrom` the start
of a continuous pause, `pauseStop` the end of the last one, `heldAt` the start of the hold not yet counted, `txEnd` the end
of the last frame on the wire; `compat` holds the older queriers heard, by IP version (R239); `reports` the groups still to
report, each with whether it is held; `backlog` what waits for a PAUSE or a crossing to pass, with its length; `lldpAt` when
LLDP is next due. -/
structure NetPort where
  link      : Bool
  pauseEnd  : Option Nat
  pauseFrom : Option Nat
  pauseStop : Nat
  tripped   : Option Nat
  lastPause : Nat
  lpiTx     : Bool
  eeeAn     : Bool
  groups    : List Group
  syncGroups : List (Bool × Nat)
  groupsFull : Bool
  reports   : List (Group × Bool)
  loopback  : Nat
  queue     : List Queued
  stamps    : List Stamp
  sentCount : Nat
  kaCount   : Nat
  lastStart : Nat
  prevStart : Nat
  prevBits  : Nat
  solicits  : List Solicit
  echoes    : List Nat
  heldAt    : Nat
  txEnd     : Nat
  compat    : List (Bool × Nat)
  backlog   : List (Nat × Out)
  lldpAt    : Nat
  deriving DecidableEq, Repr

/-- An open frame of a stream (R248, R249): its timestamp, its buffer, the extended sequence numbers written, and the
pixels written as runs from and to, counted along the lines. -/
structure OpenFrame where
  timestamp : Nat
  buffer    : Nat
  seqs      : List Nat
  pixels    : List (Nat × Nat)
  deriving DecidableEq, Repr

/-- A video stream (R245 to R250): the open frames, older first, the latest complete frame and the one taken at the last
crossing with their buffers, and the frames complete or discarded with the sequence numbers they had written. -/
structure Stream where
  frames    : List OpenFrame
  latest    : Option (Nat × Nat)
  taken     : Option (Nat × Nat)
  recent    : List (Nat × List Nat)
  seqA      : Option Nat
  seqB      : Option Nat
  upA       : Bool
  upB       : Bool
  downA     : Bool
  downB     : Bool
  lastA     : Nat
  lastB     : Nat
  newerFrom : Option Nat
  formatSeen : Bool
  discardSeen : Bool
  fresh     : Bool
  deriving DecidableEq, Repr

/-- A ring beyond its configuration registers (R267 to R272): `held` is the entry taken, as it was read, and `cut` that a flush has
discarded it while it was executed (R271). -/
structure Ring where
  prod     : Nat
  cons     : Nat
  active   : Bool
  rejected : Bool
  stalled  : Bool
  full     : Bool
  taken    : Bool
  held     : Nat
  cut      : Bool
  fences   : List Nat
  seq      : Nat
  deriving DecidableEq, Repr

/-- A mailbox beyond its areas (R279). -/
structure Mailbox where
  busy : Bool
  done : Bool
  seq  : Nat
  deriving DecidableEq, Repr

/-- A telemetry FIFO (R280 to R284): the octets of the filling and of the draining bank, the record that its producer has begun
and not ended, which no bank shows yet, and whether the rest of one that a flush cut goes to the discard sink. -/
structure Fifo where
  filling   : List Byte
  draining  : List Byte
  fillBank  : Nat
  rd        : Nat
  mark      : Nat
  firstAt   : Nat
  closeReq  : Bool
  begun     : Option (List Byte)
  sinking   : Bool
  deriving DecidableEq, Repr

/-- STATE of an isle (R320, R347). -/
inductive IsleState where
  | solo | standby | standbyStale | standbySync | active
  deriving DecidableEq, Repr

/-- Why a role changed (R340). -/
inductive RoleCause where
  | command | self | swap | yield
  deriving DecidableEq, Repr

/-- What the engines of a standby produced for a frame, for the comparison at an adoption (R334). -/
structure Produced where
  univs    : Sparse UnivState
  syncSeqs : Sparse Nat
  cueVals  : Sparse Nat
  fades    : Sparse Fade
  effects  : Sparse Effect
  tEst     : Sparse Rat
  deriving DecidableEq, Repr

/-- The pair logic (R319 to R347). `peerStale` is an active isle's note that it has made its standby stale; `bulkGot` a
standby's that it has had a bulk ferry since; `staleAt` from which crossing it is to be stale; `armed` that it may promote itself;
`readyNext` that a ferry has completed in time; `straitEver` that PD_STRAIT has been on; `pin` the level of ISLE_ACTIVE;
`beaconSilent` that an active beacon has come while the link was silent. `ferrySending` are the frames whose ferries are under way,
with their octets, `lastFerry` the whole of the last one begun, `gathered` what the next holds, `ferryLate` that the ferry of the last crossing is late and `lateOwed` how many late ones are still carried;
`received` is a complete ferry with the CSN that the isle takes from it; `crossPrev` the instant of the crossing before the last,
`crossAt` the cycles of the last crossings; `linkAt` the cycle at which the link came up; `bulkSent` that the bulk ferry of a resync
has begun; `keep` the link frames kept for a resend, newest first. What the comparison of a frame takes stands in `ownChecks`,
`ownOverrun`, `ownLatch` (input digests and stream timestamps) and `correctedPrev`, the last list ferried with its frame. -/
structure Pair where
  isle        : IsleState
  rank        : Nat
  policy      : Nat
  tPromote    : Nat
  inPair      : Bool
  linkUp      : Bool
  mirrorOk    : Bool
  laneGood    : List Bool
  spare       : Nat
  halfRate    : Bool
  failedLane  : Option Nat
  spareUsed   : Bool
  peer        : Option PeerInfo
  macWritten  : List Nat
  peerStale   : Bool
  straitEver  : Bool
  pin         : Bool
  beaconSilent : Bool
  armed       : Bool
  crossPrev   : Nat
  crossAt     : List (Nat × Nat)
  linkAt      : Nat
  peerActive  : Bool
  peerHealth  : Nat
  peerCids    : List Nat
  beaconCsn   : Nat
  beaconSeen  : Bool
  frameCsn    : Nat
  selfPromoted : Bool
  promoteAt   : Option RoleCause
  yieldAt     : Option Nat
  staleAt     : Option Nat
  bulkGot     : Bool
  resync      : Bool
  ferrySending : List (Nat × Nat)
  lastFerry   : Option FerryData
  gathered    : Option FerryData
  ferryLate   : Bool
  lateOwed    : Nat
  bulkSent    : Bool
  readyNext   : Bool
  ferryCsn    : Nat
  ferryOctets : Nat
  ferryUs     : Nat
  received    : Option (FerryData × Nat)
  produced    : Produced
  ownChecks   : List (Nat × (Nat × Nat))
  ownOverrun  : List (Nat × Nat)
  correctedNow : List Nat
  correctedPrev : Nat × List Nat
  ownLatch    : List (Nat × (List (Nat × Nat) × List (Nat × Nat)))
  diverged    : Bool
  mismatch    : Bool
  mismatchRun : List Bool
  eccRun      : List (Bool × Nat)
  skew        : Bool
  schemaBad   : Bool
  cidClash    : Bool
  mirrorWait  : List MirrorWait
  txSeq       : Nat
  rxSeq       : Nat
  keep        : List (Nat × List Byte)
  acked       : Nat
  prioAdj     : Nat
  pending     : List MirrorCommit
  deriving DecidableEq, Repr

/-- Thresholds of the power-quality detector (R365, R367). -/
structure PqCfg where
  sag   : Nat
  swell : Nat
  intr  : Nat
  hyst  : Nat
  minHc : Nat
  deriving DecidableEq, Repr

/-- An open power-quality event (R365, R366, R368). -/
structure PqOpen where
  kind     : Nat
  startNs  : Nat
  phase    : Nat
  durHc    : Nat
  phases   : Nat
  extreme  : Rat
  extPhase : Nat
  recorded : Bool
  deriving DecidableEq, Repr

/-- The filters of a metering channel (R350): the integrators and combs of the sinc3 stage, and the inputs of the FIR stage, newest
first, in units of 640⁻³ of full scale. -/
structure Sinc where
  i1   : Int
  i2   : Int
  i3   : Int
  c1   : Int
  c2   : Int
  c3   : Int
  line : List Int
  deriving DecidableEq, Repr

/-- A metered feed (R349 to R355, R364 to R366). `filters` holds the filters of its seven channels; `plain` its calibrated output
samples in parts of full scale, newest first, and `hist` those with their phases advanced; `winCount` the samples of the window of
R355, which is `aligned` where it began at a zero crossing; `half` the half-cycle RMS of each phase, none before the first; `sign`
the sign of each phase's last voltage; `marks` the samples since a phase's last refresh. -/
structure Feed where
  en       : Bool
  wiring   : Nat
  declared : Nat
  nominal  : Nat
  vfs      : Nat
  afs      : Nat
  settle   : Nat
  filters  : List Sinc
  plain    : List (List Rat)
  hist     : List (List Rat)
  winCount : Nat
  aligned  : Bool
  freq     : Rat
  freqOk   : Bool
  faulted  : List Bool
  pq       : PqCfg
  events   : List PqOpen
  half     : List (Option Rat)
  sign     : List Bool
  marks    : List Nat
  deriving DecidableEq, Repr

/-- One energy register (R354, R356): the count with its 24 further fraction bits, its wraps, and the flags of the next
snapshot entry (R357, R359). -/
structure Energy where
  acc     : Nat
  wraps   : Nat
  preset  : Bool
  wrapped : Bool
  snapTotal : Nat
  snapWraps : Nat
  snapFlags : Nat
  snapDelta : Nat
  hostTotal : Nat
  hostWraps : Nat
  deriving DecidableEq, Repr

/-- A pulse output (R361 to R363). `residue` is in 2⁻⁴⁴ Wh. -/
structure Pulse where
  en       : Bool
  feed     : Nat
  quantity : Nat
  ep       : Nat
  width    : Nat
  residue  : Nat
  backlog  : Nat
  high     : Bool
  lowSince : Nat
  endAt    : Nat
  told     : Bool
  deriving DecidableEq, Repr

/-- A record of the totals journal (R420). -/
structure Journal where
  cause   : Nat
  seq     : Nat
  csn     : Nat
  instant : Nat
  entries : List (Nat × (Nat × Nat))
  pulses  : List (Nat × Nat)
  crc     : Nat
  deriving DecidableEq, Repr

/-- The early warning and the journal (R369, R370). -/
structure Warning where
  pin       : Bool
  vaonA     : Bool
  vaonB     : Bool
  active    : Bool
  lastCycle : Nat
  lastJournal : Option Nat
  writing   : Option Journal
  began     : Nat
  journals  : List Journal
  deriving DecidableEq, Repr

/-- A maintenance activity (R458): its precedence, the command it serves, what it reports, and whether its work has ended. -/
structure Activity where
  prec    : Nat
  opcode  : Nat
  chan    : Option Chan
  tag     : Nat
  args    : List Nat
  status  : Nat
  detail  : Nat
  result  : Nat
  finished : Bool
  deriving DecidableEq, Repr

/-- The maintenance arbiter (R458). -/
structure Arbiter where
  running   : Option Activity
  waiting   : List Activity
  suspended : Bool
  deriving DecidableEq, Repr

/-- The span of CAL_METER_REF (R388): its channel, the samples averaged, their sum and sum of squares, their products with
the reference voltage and with it a quarter period late, and whether the frequency has been valid. -/
structure CalSpan where
  feed  : Nat
  ch    : Nat
  count : Nat
  sum   : Rat
  sumSq : Rat
  corC  : Rat
  corS  : Rat
  ok    : Bool
  need   : Nat
  cycles : Rat
  dueAt  : Nat
  deriving DecidableEq, Repr

/-- The calibration controller (R379 to R388): `refs` the reference of each die sensor, none before the first reading;
`junction` the temperature of the die at each sensor, as the board last gave it, whether or not the part read it (R493);
`items` the items of the run still to end, the first with its unit `unit` under way; `straitDone` the Strait lanes
calibrated in the run, `straitLast` the values of those calibrated in place. -/
structure Calib where
  auto      : Bool
  deltaT    : Nat
  refs      : List (Option Int)
  temps     : List Int
  junction  : List (Option Int)
  items     : List CalItem
  unit      : Nat
  timedOut  : List CalItem
  skipped   : List CalItem
  straitDone : List Nat
  straitLast : List Change
  movement  : Int
  span      : Option CalSpan
  deriving DecidableEq, Repr

/-- A check-unit context beyond its registers (R390, R391). -/
structure CheckUnit where
  run    : Nat
  busy   : Option (Option Chan × Nat × Nat × Nat × Nat)
  done   : Bool
  isEqual : Bool
  collide : Bool
  result : Nat
  count  : Nat
  deriving DecidableEq, Repr

/-- The error control of one memory (R394 to R397, R401): stored bits that differ from what the check bits say, by the
address of their 64-bit word. -/
structure Ecc where
  flips   : Sparse (BitVec 64)
  ceHere  : Nat
  raised  : Bool
  firstUe : Nat
  ueCount : Nat
  lastRaise : Nat
  deriving DecidableEq, Repr

/-- An image in a slot of flash (R405): the fields of its header, its body, and whether the slot is valid. -/
structure Image where
  valid    : Bool
  version  : Nat
  secVer   : Nat
  keyId    : Nat
  compat   : List Nat
  ferry    : Nat
  settings : Nat
  body     : List Byte
  deriving DecidableEq, Repr

/-- One image type (R404, R409, R411 to R416, R423): its two slots, the running and the confirmed one, the directory's TRIAL
and TRIAL_FAILED, whether the inactive slot is verified, the fuses blown, and its trial: the cycle of its end and that
from which its criteria have held. `second` is the image that an accepted activation has loaded into the second program store, `program`
the one that runs from it; `linkHeld`, of SSEQ, whether a link that was up at the taking crossing has stayed up. -/
structure ImageType where
  slot0     : Image
  slot1     : Image
  running   : Nat
  confirmed : Nat
  trialBit  : Bool
  failed    : Bool
  verified  : Bool
  counter   : Nat
  onTrial   : Bool
  trialEnd  : Nat
  heldFrom  : Nat
  second    : Option Image
  program   : Option Image
  linkHeld  : Option Bool
  deriving DecidableEq, Repr

/-- One copy of a settings store: its header and its values (R417). -/
structure StoreCopy where
  magic   : Nat
  format  : Nat
  version : Nat
  seq     : Nat
  len     : Nat
  crc     : Nat
  values  : List (Nat × Word)
  deriving DecidableEq, Repr

/-- Images, stores and their activations (R403 to R423). `recovered` is the CTRL image that a
recovery runs from Lagoon; `fallen` a fallback of
CTRL whose event waits for the previous image to run: the failed version and the cause; `unreadable` the stores that the image on trial cannot
convert; `dirs` the two copies of the boot directory (R404); `package` what UPD_STAGE has read and `staging` the delta staging area of
flash (R403, R407); `owed` the fallbacks by a reset whose events wait for the boot: type and failed version; `prevFormat`
the settings format of the CTRL image that ran before. -/
structure Update where
  types     : List ImageType
  trialWin  : Nat
  recovered : Option Image
  handover  : Bool
  fallen    : Option (Nat × Nat)
  stores    : List (List StoreCopy)
  unreadable : List Nat
  dirs      : List (List Byte)
  package   : List Byte
  staging   : List Byte
  owed      : List (Nat × Nat)
  prevFormat : Option Nat
  deriving DecidableEq, Repr

/-- Power, reset, boot and debug (R425 to R448). `queue` holds the domain changes still to end, in their order, each with CSN_LIVE as it was queued; `perst` that
PERST_N is low; `cold` that the boot under way follows a power-on reset; `jtag` the instruction of boundary scan, `pins` that
it holds the covered balls; `supply` that the combined always-on supply is up. Of the key store (R441): `keyRows` the epochs' fuse rows, each
with a key-encryption key, `wrapped` their storage, `unwrapped` the copies of the current epoch's secrets, and `keyWord` KEY_EPOCH as
the fuses read at stage 0; `mainUpAt` the cycle of the last rise of MAIN_PG. -/
structure Power where
  on       : List Bool
  queue    : List (Nat × Bool × Nat)
  cold     : Bool
  mainPg   : Bool
  perst    : Bool
  warm     : Bool
  stage    : Nat
  alt      : Nat
  fail     : Nat
  recovery : Bool
  debug    : Bool
  held     : Bool
  revoked  : List Bool
  provisioned : List Bool
  keyRows  : List (BitVec 256)
  wrapped  : List (List Byte)
  unwrapped : List Byte
  keyWord  : Nat
  bootUs   : Nat
  mainUpAt : Option Nat
  jtag     : Nat
  pins     : Bool
  supply   : Bool
  deriving DecidableEq, Repr

/-- How FPULSE_OUT selects a crossing (R76): by its grid index, by its CSN, or only with DIV 1. -/
inductive PulseSel where
  | grid (i : Nat)
  | byCsn
  | single
  deriving DecidableEq, Repr

/-- A crossing whose instant is fixed and whose pulse has not begun (R76, R77): its instant, and the reading of the bound
time base when it was fixed. -/
structure PulseDue where
  csn     : Nat
  instant : Nat
  fixed   : Nat
  sel     : PulseSel
  deriving DecidableEq, Repr

/-- The timecode and frame-pulse pins (R73 to R77). Times are cycles but for the pairing of LTC (frames and reading) and the
anchor of FPULSE_IN, which are readings of the time base they discipline. `outDone` is the CSN of the last pulse begun. -/
structure Pulses where
  ltcPair   : Option (Nat × Nat)
  ltcLast   : Nat
  edgeLast  : Option Nat
  edgeAnchor : Option Nat
  rejects   : Nat
  reacquire : Bool
  outHigh   : Bool
  outEnd    : Nat
  outDue    : List PulseDue
  outDone   : Nat
  deriving DecidableEq, Repr

/-- A trigger pin (R155). -/
structure Trigger where
  high   : Bool
  since  : Nat
  filter : Option Nat
  edge   : Bool
  deriving DecidableEq, Repr

/-- An event raised and not yet posted (R453); `reply` is the command ring of a response (R279). -/
structure Raised where
  source : Nat
  code   : Nat
  items  : List Byte
  reply  : Option Nat
  deriving DecidableEq, Repr

/-- The part but for its LPDDR5X. `lastRing` is the command ring that firmware served last (R291). `batch` holds the events of one cycle while a step gathers them; between steps it is
none. -/
structure Chip where
  freeCtr   : Nat
  out       : List Out
  batch     : Option (List Raised)
  cycle     : Nat
  regs      : Sparse Word
  live      : Sparse Word
  tbs       : List TimeBase
  fg        : FrameGen
  pulses    : Pulses
  csn       : Nat
  crossTime : Nat
  sealed    : Bool
  commits   : List Commit
  copyFwd   : List CopyForward
  tables    : Sparse Nat
  frame     : Frame
  lastCanvas : Sparse Nat
  retired   : List Retired
  slots     : Sparse Byte
  dmxBack   : Sparse Byte
  dmxFront  : Sparse Byte
  pixBack   : Sparse Byte
  pixFront  : Sparse Byte
  univs     : Sparse UnivState
  syncSeqs  : Sparse Nat
  tasks     : Sparse Task
  dispatching : Option Nat
  cueVals   : Sparse Nat
  cueChanged : Sparse Nat
  patched   : Sparse Nat
  fades     : Sparse Fade
  effects   : Sparse Effect
  sources   : List Source
  exceeded  : List Nat
  triggers  : List Trigger
  tEst      : Sparse Rat
  applied   : Sparse Nat
  drawn     : Sparse Rat
  limiters  : List Limiter
  dmx       : Sparse DmxPort
  pix       : Sparse PixPort
  house     : Sparse House
  sensors   : List RdmSensor
  sensorsTold : List (Nat × Nat)
  rdmPolled : Sparse Nat
  rdmFails  : Sparse Nat
  rdmTold   : List Nat
  ports     : Sparse NetPort
  cnt       : Sparse Nat
  streams   : Sparse Stream
  rings     : Sparse Ring
  lastRing  : Nat
  ringMem   : Sparse Nat
  mboxes    : Sparse Mailbox
  fifos     : Sparse Fifo
  produced  : List Nat
  msixPend  : List Nat
  pair      : Pair
  feeds     : Sparse Feed
  energy    : Sparse Energy
  pulseOuts : Sparse Pulse
  warning   : Warning
  hostSnapNs : Nat
  hostSnapCsn : Nat
  snapCsn   : Nat
  arbiter   : Arbiter
  calib     : Calib
  checks    : Sparse CheckUnit
  eccDram   : Ecc
  eccLagoon : Ecc
  update    : Update
  power     : Power
  dramCfg   : Nat
  deriving DecidableEq, Repr

/-- The machine: the part, its LPDDR5X (address and octet pairs in canonical form), and the commands that wait. -/
structure State where
  pending : List Instr
  dram    : List Host.Cell
  chip    : Chip
  deriving DecidableEq, Repr

/-- A clock at the defaults of the default profile (PRESUMED from IEEE 1588, log entry 29). -/
def PtpClock.reset : PtpClock :=
  { parent := none, port := none, rxSync := none, txDelay := none, diff := 0, syncSeq := 0, reqSeq := 0, sched := []
    pathDelayNs := 0, logAnnounce := 1, logSync := 0, logDelay := 0, priority1 := 128, priority2 := 128
    announceTo := 3, master := false, seq := 0, tlv := [] }

def TimeBase.reset : TimeBase :=
  { time := 0, rate := 0, past := [], mode := .free, inBand := 0, outBand := 0, offset := 0, ptp := .reset, snap := 0 }

/-- The generator after a power-on reset (R54): stopped, TB0, 60/1, origin 0. -/
def FrameGen.reset : FrameGen :=
  { mode := .stopped, tb := 0, rateN := 60, rateD := 1, origin := 0, last := 0, lastGrid := true, lastIdx := 0
    next := 0, nextIdx := none, immediate := none, stopping := false, explicit := [], crossCycle := 0 }

def Frame.reset : Frame :=
  { csn := 0, canvases := [], layers := [], bands := [], lanes := List.replicate 8 none, urgent := List.replicate 8 false, sources := [], walk := [], parked := [], issued := [], done := [], skipped := []
    corrupt := [], portsDown := [], decided := [], unemitted := [], windowOpen := false, windowDone := false, termsBuilt := false, openCycle := 0
    closeCycle := 0, stalled := false, unrendered := 0, profSeen := false, univSeen := false, fetchPxl := 0, cullPxl := 0 }

def UnivState.reset : UnivState :=
  { lastCheck := 0, lastPar := 0, seq := 0, repeatLeft := 0, force := false, termLeft := 0, base := 0, lastCsn := 0
    overrun := false, serving := false, sent := false, lastSpec := none, termSpec := none }

def Task.reset : Task :=
  { record := 0, gen := 0, state := .free, flag := false, toFired := false, result := .none, csnLo := 0, loaded := 0
    order := 0, aimed := 0, fades := 0, serial := 0 }

def PortFrame.reset : PortFrame := { octets := [], form := [], start := 0, len := 0, ends := 0, period := 0, sent := false }

def DmxPort.reset : DmxPort :=
  { frame := .reset, held := false, late := false, denied := false, selected := none, queue := [], active := none
    busyEnd := 0, trans := 0, interval := none, starved := 0, served := false, steal := false }

def PixPort.reset : PixPort :=
  { frame := .reset, held := false, late := false, denied := false, selected := none, effOff := 0 }

def House.reset : House :=
  { level := 0, target := 0, fadeLeft := 0, duty := 0, remainder := 0, temp := 0, ntcFault := false, derated := false
    verdict := 0, openRun := 0, shortRun := 0, okRun := 0, unevaluated := 0, evaluated := false, diag := false
    pulseDue := false, calHold := false, pwmAt := none }

def NetPort.reset : NetPort :=
  { link := false, pauseEnd := none, pauseFrom := none, pauseStop := 0, tripped := none, lastPause := 0, lpiTx := false
    eeeAn := false, groups := [], syncGroups := [], groupsFull := false, reports := [], loopback := 0
    queue := [], stamps := [], sentCount := 0, kaCount := 0, lastStart := 0, prevStart := 0, prevBits := 0
    solicits := [], echoes := [], heldAt := 0, txEnd := 0, compat := [], backlog := [], lldpAt := 0 }

def Stream.reset : Stream :=
  { frames := [], latest := none, taken := none, recent := [], seqA := none, seqB := none, upA := false, upB := false
    downA := false, downB := false, lastA := 0, lastB := 0, newerFrom := none, formatSeen := false, discardSeen := false, fresh := false }

def Ring.reset : Ring :=
  { prod := 0, cons := 0, active := false, rejected := false, stalled := false, full := false, taken := false, held := 0, cut := false
    fences := [], seq := 0 }

def Mailbox.reset : Mailbox := { busy := false, done := false, seq := 0 }

def Fifo.reset : Fifo :=
  { filling := [], draining := [], fillBank := 0, rd := 0, mark := 0, firstAt := 0, closeReq := false, begun := none
    sinking := false }

/-- An isle that is in no pair (R319). -/
def Pair.reset : Pair :=
  { isle := .solo, rank := 0, policy := 0, tPromote := 3, inPair := false, linkUp := false, mirrorOk := false
    laneGood := [false, false, false], spare := 0, halfRate := false, failedLane := none, spareUsed := false
    peer := none, macWritten := [], peerStale := false, straitEver := false, pin := false
    beaconSilent := false, armed := false, crossPrev := 0, crossAt := [], linkAt := 0, peerActive := false
    peerHealth := 0, peerCids := [], beaconCsn := 0, beaconSeen := false, frameCsn := 0, selfPromoted := false
    promoteAt := none, yieldAt := none, staleAt := none, bulkGot := false, resync := false, ferrySending := []
    lastFerry := none
    gathered := none, ferryLate := false, lateOwed := 0, bulkSent := false, readyNext := false, ferryCsn := 0, ferryOctets := 0, ferryUs := 0, received := none
    produced := { univs := [], syncSeqs := [], cueVals := [], fades := [], effects := [], tEst := [] }
    ownChecks := [], ownOverrun := [], correctedNow := [], correctedPrev := (0, []), ownLatch := [], diverged := false, mismatch := false
    mismatchRun := [], eccRun := [], skew := false, schemaBad := false, cidClash := false, mirrorWait := []
    txSeq := 0, rxSeq := 0, keep := [], acked := 0, prioAdj := 0, pending := [] }

/-- The thresholds before METER_PQ_SET (R367). -/
def PqCfg.reset : PqCfg := { sag := 900, swell := 1100, intr := 50, hyst := 20, minHc := 1 }

def Sinc.reset : Sinc := { i1 := 0, i2 := 0, i3 := 0, c1 := 0, c2 := 0, c3 := 0, line := [] }

def Feed.reset : Feed :=
  { en := false, wiring := 0, declared := 0, nominal := 5000, vfs := 0, afs := 0, settle := 0
    filters := List.replicate 7 .reset, plain := [], hist := [], winCount := 0, aligned := false
    freq := 0, freqOk := false, faulted := [false, false, false, false, false, false, false], pq := .reset, events := []
    half := [none, none, none], sign := [false, false, false], marks := [0, 0, 0] }

def Energy.reset : Energy :=
  { acc := 0, wraps := 0, preset := false, wrapped := false, snapTotal := 0, snapWraps := 0, snapFlags := 0
    snapDelta := 0, hostTotal := 0, hostWraps := 0 }

def Pulse.reset : Pulse :=
  { en := false, feed := 0, quantity := 0, ep := 0, width := 20, residue := 0, backlog := 0, high := false
    lowSince := 0, endAt := 0, told := false }

def CheckUnit.reset : CheckUnit :=
  { run := 0, busy := none, done := false, isEqual := false, collide := false, result := 0, count := 0 }

def Ecc.reset : Ecc := { flips := [], ceHere := 0, raised := false, firstUe := 0, ueCount := 0, lastRaise := 0 }

/-- An erased slot (R405). -/
def Image.erased : Image :=
  { valid := false, version := 0, secVer := 0, keyId := 0, compat := [], ferry := 0, settings := 0, body := [] }

/-- The image a part ships with, version 2.4.3 (DESIGN CHOICE, log entry 8). -/
def Image.shipped : Image :=
  { valid := true, version := 0x02040003, secVer := 0, keyId := 0
    compat := [0, 0xFFFFFFFF, 0, 0xFFFFFFFF, 0, 0xFFFFFFFF, 0, 0xFFFFFFFF], ferry := 2, settings := 1, body := [] }

def ImageType.shipped : ImageType :=
  { slot0 := .shipped, slot1 := .erased, running := 0, confirmed := 0, trialBit := false, failed := false
    verified := false, counter := 0, onTrial := false, trialEnd := 0, heldFrom := 0, second := none, program := none
    linkHeld := none }

/-- An erased copy: its header reads as all ones. -/
def StoreCopy.empty : StoreCopy :=
  { magic := 0xFFFFFFFF, format := 0xFFFF, version := 0xFFFFFFFF, seq := 2 ^ 64 - 1, len := 0xFFFFFFFF, crc := 0xFFFFFFFF, values := [] }

/-- The directory of a part as it ships, in copy 0 with SEQ 1: slot 0 of each type confirmed (DESIGN CHOICE, log entry 8). -/
def shippedDirectory : List Byte :=
  [0x58, 0x4B, 0x44, 0x52, 0, 0, 0, 0, 0x01, 0, 0, 0, 0, 0, 0, 0, 0, 0, 0, 0, 0, 0, 0, 0, 0, 0, 0, 0, 0, 0, 0, 0, 0, 0, 0, 0, 0x7B, 0x09, 0x88, 0xEF]

def Update.reset : Update :=
  { types := List.replicate 5 .shipped, trialWin := 120, recovered := none, handover := false, fallen := none
    stores := List.replicate 2 [.empty, .empty], unreadable := [], dirs := [shippedDirectory, List.replicate 40 0xFF]
    package := [], staging := [], owed := [], prevFormat := none }

/-- The epochs revoked, and those that hold secrets, in a part out of the factory. -/
def factoryRevoked : List Bool := (List.range 8).map fun e => decide (e < Config.keyEpoch.toNat)
def factoryProvisioned : List Bool := (List.range 8).map fun e => Config.keySecrets.getLsbD e

/-- A word whose bits are the flags of a list. -/
def flagBits : List Bool → Nat
  | [] => 0
  | b :: l => b.toNat + 2 * flagBits l

/-- KEY_EPOCH (R449): the lowest epoch that is not revoked, whether none is left, the revoked ones, and whether the current one holds
secrets. -/
def keyEpochWord (revoked provisioned : List Bool) : Nat :=
  match (List.range 8).find? fun e => !revoked.getD e false with
  | some e => e + flagBits revoked * 16 + (provisioned.getD e false).toNat * 4096
  | none => 8 + flagBits revoked * 16

/-- Only PD_AON is on, boot stage 0, MAIN_PG and PERST_N low (R437, R449, log entry 9). -/
def Power.reset : Power :=
  { on := true :: List.replicate 11 false, queue := [], cold := true, mainPg := false
    perst := true, warm := false, stage := 0, alt := 0, fail := 0, recovery := false, debug := false, held := false
    revoked := factoryRevoked, provisioned := factoryProvisioned
    keyRows := (List.range 8).map Config.factoryRow, wrapped := (List.range 8).map Config.factoryWrapped
    unwrapped := [], keyWord := keyEpochWord factoryRevoked factoryProvisioned, bootUs := 0, mainUpAt := none, jtag := 1, pins := false, supply := true }

def Pulses.reset : Pulses :=
  { ltcPair := none, ltcLast := 0, edgeLast := none, edgeAnchor := none, rejects := 0, reacquire := true
    outHigh := false, outEnd := 0, outDue := [], outDone := 0 }

def Warning.reset : Warning :=
  { pin := false, vaonA := true, vaonB := true, active := false, lastCycle := 0, lastJournal := none, writing := none
    began := 0, journals := [] }

def Calib.reset : Calib :=
  { auto := true, deltaT := 10, refs := List.replicate 8 none, temps := List.replicate 8 0, junction := List.replicate 8 none
    items := [], unit := 0, timedOut := [], skipped := [], straitDone := [], straitLast := [], movement := 0
    span := none }

/-- The part right after a power-on reset. -/
def Chip.reset : Chip :=
  { freeCtr := 0, out := [], batch := none, cycle := 0, regs := [], live := [], tbs := List.replicate 4 .reset, fg := .reset
    pulses := .reset, csn := 0, crossTime := 0, sealed := false, commits := [], copyFwd := [], tables := []
    frame := .reset, lastCanvas := [], retired := [], slots := [], dmxBack := [], dmxFront := [], pixBack := []
    pixFront := [], univs := [], syncSeqs := [], tasks := [], dispatching := none, cueVals := [], cueChanged := [], patched := []
    fades := [], effects := [], sources := [], exceeded := []
    triggers := List.replicate 4 { high := false, since := 0, filter := none, edge := false }
    tEst := [], applied := [], drawn := []
    limiters := List.replicate 8 { scale := 1, drive := 0, rendered := false, baseOver := false }
    dmx := [], pix := [], house := [], sensors := [], sensorsTold := [], rdmPolled := [], rdmFails := [], rdmTold := [], ports := [], cnt := []
    streams := [], rings := [], lastRing := 255, ringMem := [], mboxes := [], fifos := [], produced := [0, 0, 0], msixPend := []
    pair := .reset, feeds := [], energy := [], pulseOuts := [], warning := .reset, hostSnapNs := 0
    hostSnapCsn := 0, snapCsn := 0, arbiter := { running := none, waiting := [], suspended := false }
    calib := .reset, checks := [], eccDram := .reset, eccLagoon := .reset, update := .reset, power := .reset
    dramCfg := 0 }

/-- The machine right after reset: nothing waits, no byte of LPDDR5X is listed, the part at its reset values. -/
def State.reset : State := { pending := [], dram := [], chip := .reset }

end Sys2Proof.Machine
end

