-- ==== Sys2Proof/Machine/Bits.lean ====
section
/-! DEFINITION. Bit fields, byte orders, signs, clamps and the check algorithms that every other file of the machine reads
and writes with. -/

namespace Sys2Proof.Machine

/-- Field of `w` bits at bit `lo`. -/
def bits (x lo w : Nat) : Nat := (x >>> lo) % 2 ^ w

/-- Bit `i`. -/
def bit (x i : Nat) : Bool := x.testBit i

/-- `x` with its field of `w` bits at `lo` replaced by `v`. -/
def setBits (x lo w v : Nat) : Nat := x - (bits x lo w <<< lo) + ((v % 2 ^ w) <<< lo)

/-- `x` with bit `i` set to `b`. -/
def setBit (x i : Nat) (b : Bool) : Nat := setBits x i 1 b.toNat

/-- The two's complement reading of a `w`-bit field. -/
def sext (w x : Nat) : Int := if x < 2 ^ (w - 1) then (x : Int) else (x : Int) - (2 ^ w : Nat)

/-- The `w`-bit two's complement pattern of an integer. -/
def twos (w : Nat) (i : Int) : Nat := (i % ((2 ^ w : Nat) : Int)).toNat

/-- The nearest value of the range `lo` to `hi` (R455). -/
def clampN (lo hi x : Nat) : Nat := if x < lo then lo else if hi < x then hi else x

/-- The nearest value of the signed range `lo` to `hi` (R455). -/
def clampI (lo hi x : Int) : Int := if x < lo then lo else if hi < x then hi else x

/-- A count that saturates at 32 bits. -/
def sat32 (x : Nat) : Nat := if 0xFFFFFFFF < x then 0xFFFFFFFF else x

/-- The `n` low octets of `x`, lowest first. -/
def leBytes : Nat → Nat → List Byte
  | 0, _ => []
  | n + 1, x => BitVec.ofNat 8 x :: leBytes n (x / 256)

/-- The number that octets spell, lowest first. -/
def ofLE : List Byte → Nat
  | [] => 0
  | b :: r => b.toNat + 256 * ofLE r

/-- The `n` low octets of `x` in wire order, highest first. -/
def beBytes (n x : Nat) : List Byte := (leBytes n x).reverse

/-- The number that octets spell in wire order. -/
def ofBE (l : List Byte) : Nat := ofLE l.reverse

/-- Octets cut or padded with zeros to length `n`. -/
def padTo (n : Nat) (l : List Byte) : List Byte := (l ++ List.replicate n 0).take n

/-- The number of ones. -/
def popcount (x : BitVec 64) : Nat := ((List.range 64).filter fun i => x.getLsbD i).length

/-- Ceiling of a quotient. -/
def ceilDiv (a b : Nat) : Nat := (a + b - 1) / b

/-- A little-endian field of octets. -/
def le (l : List Byte) (off n : Nat) : Nat := ofLE ((l.drop off).take n)

/-- A reflected CRC of width `w` with reflected polynomial `poly`, one octet into state `s`. -/
def crcByte (poly s b : Nat) : Nat :=
  (List.range 8).foldl (fun s _ => if s.testBit 0 then (s >>> 1) ^^^ poly else s >>> 1) (s ^^^ b)

/-- A reflected CRC over octets, from state `s`. -/
def crcRun (poly s : Nat) (l : List Byte) : Nat := l.foldl (fun s b => crcByte poly s b.toNat) s

/-- CRC-32C of octets. -/
def crc32c (l : List Byte) : Nat := crcRun 0x82F63B78 0xFFFFFFFF l ^^^ 0xFFFFFFFF

/-- A CRC whose bits enter most significant first, width `w`, one octet into state `s`. -/
def crcByteMsb (w poly s b : Nat) : Nat :=
  (List.range 8).foldl
    (fun s i => let top := s.testBit (w - 1) != b.testBit (7 - i)
                let s := (s <<< 1) % 2 ^ w
                if top then s ^^^ poly else s) s

/-- The CRC-32 of IEEE 802.3, used for the Ethernet FCS. -/
def crc32 (l : List Byte) : Nat := crcRun 0xEDB88320 0xFFFFFFFF l ^^^ 0xFFFFFFFF

/-- CRC-64/ECMA-182 with the parameters of R190. -/
def crc64 (l : List Byte) : Nat := l.foldl (fun s b => crcByteMsb 64 0x42F0E1EBA9EA3693 s b.toNat) 0

/-- The ones' complement sum of 16-bit words in wire order, for Internet checksums. -/
def sum16 : List Byte → Nat
  | [] => 0
  | [a] => a.toNat * 256
  | a :: b :: r => a.toNat * 256 + b.toNat + sum16 r

/-- The Internet checksum of octets whose partial sum starts at `s`. -/
def inetSum (s : Nat) (l : List Byte) : Nat :=
  let t := s + sum16 l
  let t := t % 65536 + t / 65536
  let t := t % 65536 + t / 65536
  0xFFFF - t

/-- The integer square root, rounded down. -/
def isqrt (n : Nat) : Nat :=
  (List.range 160).foldl (fun r i => let t := r + 2 ^ (159 - i); if t * t ≤ n then t else r) 0

/-- The nearest integer to a non-negative rational, halves up. -/
def roundHalfUp (q : Rat) : Int := (q + 1 / 2).floor

/-- A rational held inside a range. -/
def clampQ (lo hi x : Rat) : Rat := if x < lo then lo else if hi < x then hi else x

end Sys2Proof.Machine
end

