-- ==== Sys2Proof/Machine/Analysis.lean ====
section
/-! DEFINITION. The functions that the spec names by their standards and that have no rational values, computed in fixed
point with 96 fraction bits: the logarithm, the exponential, powers, and the sine and cosine of a turn (log entry 14). -/

namespace Sys2Proof.Machine

/-- One in fixed point. -/
def one96 : Int := 2 ^ 96

/-- The product of two fixed-point numbers. -/
def mul96 (a b : Int) : Int := a * b / one96

/-- A rational in fixed point, rounded down. -/
def toFix (q : Rat) : Int := (q * one96).floor

/-- A fixed-point number as a rational. -/
def ofFix (x : Int) : Rat := (x : Rat) / (one96 : Rat)

/-- ln 2 in fixed point. -/
def ln2Fix : Int := 54916777467707473351141471128

/-- 2π in fixed point. -/
def twoPi96 : Int := 497805226624462170461043889244

/-- Σ tᵏ / k over the odd k below 2 × `n`, for the logarithm of (1 + t) / (1 − t). -/
def atanhSum (t : Int) (n : Nat) : Int :=
  let sq := mul96 t t
  ((List.range n).foldl (fun (a : Int × Int) i => (a.1 + a.2 / (2 * i + 1 : Int), mul96 a.2 sq)) (0, t)).1

/-- The natural logarithm of a positive fixed-point number: a power of two taken out, then the series. -/
def lnFix (x : Int) : Int :=
  let k : Int := (Nat.log2 x.toNat : Int) - 96
  let m : Int := if 0 ≤ k then x / 2 ^ k.toNat else x * 2 ^ (-k).toNat
  let t := (m - one96) * one96 / (m + one96)
  k * ln2Fix + 2 * atanhSum t 64

/-- The exponential in fixed point: a power of two taken out, then the series. -/
def expFix (x : Int) : Int :=
  let k := x / ln2Fix
  let r := x - k * ln2Fix
  let s := ((List.range 40).foldl (fun (a : Int × Int) i => (a.1 + a.2, mul96 a.2 r / (i + 1 : Int))) (0, one96)).1
  if 0 ≤ k then s * 2 ^ k.toNat else s / 2 ^ (-k).toNat

/-- The natural logarithm of a positive rational. -/
def ln (q : Rat) : Rat := ofFix (lnFix (toFix q))

/-- The exponential. -/
def exp (q : Rat) : Rat := ofFix (expFix (toFix q))

/-- A power of a number that is not negative: 0 and 1 exactly. -/
def rpow (b e : Rat) : Rat := if b ≤ 0 then 0 else if b = 1 then 1 else exp (ln b * e)

/-- sin 2πφ for φ in a quarter turn, by its series. -/
def sinQuarter (phi : Rat) : Rat :=
  let x : Int := (phi * twoPi96).floor
  let sq := mul96 x x
  ofFix ((List.range 16).foldl (fun (a : Int × Int) i =>
    (a.1 + a.2, -(mul96 a.2 sq) / ((2 * i + 2) * (2 * i + 3) : Int))) (0, x)).1

/-- sin 2πφ for φ in [0, 1): exact at the twelfths of a turn where it is rational. -/
def sinTurn (phi : Rat) : Rat :=
  if phi = 0 || phi = 1 / 2 then 0
  else if phi = 1 / 4 then 1
  else if phi = 3 / 4 then -1
  else if phi = 1 / 12 || phi = 5 / 12 then 1 / 2
  else if phi = 7 / 12 || phi = 11 / 12 then -1 / 2
  else if phi < 1 / 4 then sinQuarter phi
  else if phi < 1 / 2 then sinQuarter (1 / 2 - phi)
  else if phi < 3 / 4 then -sinQuarter (phi - 1 / 2)
  else -sinQuarter (1 - phi)

/-- cos 2πφ for φ in [0, 1). -/
def cosTurn (phi : Rat) : Rat := sinTurn (if phi < 3 / 4 then phi + 1 / 4 else phi - 3 / 4)

/-- The square root of a number that is not negative, to 64 fraction bits, rounded down. -/
def sqrtQ (q : Rat) : Rat := (isqrt (q * 2 ^ 128).floor.toNat : Rat) / 2 ^ 64

/-- The angle, in turns of [0, 1/4], at which the sine is to the cosine as `b` is to `a`, by 48 halvings. -/
def atanQuarter (b a : Rat) : Rat :=
  ((List.range 48).foldl (fun (lo : Rat × Rat) _ =>
    let m := lo.1 + lo.2 / 2
    (if a * sinQuarter m ≤ b * sinQuarter (1 / 4 - m) then m else lo.1, lo.2 / 2)) ((0 : Rat), (1 / 4 : Rat))).1

/-- The angle, in turns of (−1/2, 1/2], of the direction with cosine `c` and sine `s`. -/
def atanTurn (s c : Rat) : Rat :=
  let a : Rat := if c < 0 then -c else c
  let b : Rat := if s < 0 then -s else s
  let q := atanQuarter b a
  let q := if c < 0 then 1 / 2 - q else q
  if s < 0 then -q else q

end Sys2Proof.Machine
end

