-- ==== Sys2Proof/Machine/Store.lean ====
section
/-! DEFINITION. The one sparse store: a list of key and value pairs with strictly rising keys and no entry equal to the
default of its key. LPDDR5X, the register files, the tables and every numbered collection are read and written through
these operations. -/

namespace Sys2Proof.Machine

/-- The value at key `k`. -/
def Store.get {α : Type} (d : Nat → α) : Sparse α → Nat → α
  | [], k => d k
  | (k', v) :: r, k => if k = k' then v else Store.get d r k

/-- The store with `v` at key `k`, in canonical form. -/
def Store.set {α : Type} [DecidableEq α] (d : Nat → α) (m : Sparse α) (k : Nat) (v : α) : Sparse α :=
  (m.filter fun e => decide (e.1 < k)) ++ (if v = d k then [] else [(k, v)]) ++ m.filter fun e => decide (k < e.1)

/-- Every key of the store exceeds `b` and keys rise, and no entry is its key's default. -/
def Store.wfFrom {α : Type} [DecidableEq α] (d : Nat → α) : Option Nat → Sparse α → Bool
  | _, [] => true
  | b, (k, v) :: r =>
    (match b with | none => true | some b => decide (b < k)) && decide (v ≠ d k) && Store.wfFrom d (some k) r

/-- The canonical form of a store. -/
def Store.wf {α : Type} [DecidableEq α] (d : Nat → α) (m : Sparse α) : Bool := Store.wfFrom d none m

/-- What a byte of LPDDR5X that nothing has written reads as (DESIGN CHOICE, log entry 6). -/
def Memory.unlisted (_ : Nat) : Byte := 0

/-- The octet at an address. -/
def Memory.read8 (m : List Host.Cell) (a : Nat) : Byte := Store.get Memory.unlisted m a

/-- The memory with one octet written. -/
def Memory.write8 (m : List Host.Cell) (a : Nat) (b : Byte) : List Host.Cell := Store.set Memory.unlisted m a b

/-- `n` octets from an address on. -/
def Memory.read (m : List Host.Cell) (a : Nat) : Nat → List Byte
  | 0 => []
  | n + 1 => Memory.read8 m a :: Memory.read m (a + 1) n

/-- The memory with octets written from an address on. -/
def Memory.write (m : List Host.Cell) (a : Nat) : List Byte → List Host.Cell
  | [] => m
  | b :: r => Memory.write (Memory.write8 m a b) (a + 1) r

/-- The canonical form of LPDDR5X. -/
def Memory.wf (m : List Host.Cell) : Bool := Store.wf Memory.unlisted m

/-- The little-endian number in `n` octets from an address on. -/
def Memory.readLE (m : List Host.Cell) (a n : Nat) : Nat := ofLE (Memory.read m a n)

/-- The entries of a store whose keys lie in `lo` to `hi` − 1. -/
def Store.range {α : Type} (m : Sparse α) (lo hi : Nat) : Sparse α := m.filter fun e => lo ≤ e.1 && e.1 < hi

/-- Memory whose range `lo` to `hi` − 1 reads as unlisted again. -/
def Memory.erase (m : List Host.Cell) (lo hi : Nat) : List Host.Cell := m.filter fun e => e.1 < lo || hi ≤ e.1

end Sys2Proof.Machine
end

