-- ==== Sys2Proof/Machine/RegNames.lean ====
section
/-! DEFINITION. The offsets of the registers in BAR0 by the names the spec gives them (an index takes the place of the
small letter in a name). -/

namespace Sys2Proof.Machine.Reg

abbrev CSN_LIVE_LO : Nat := 0x400
abbrev CSN_LIVE_HI : Nat := 0x404
abbrev CROSS_TIME_NS : Nat := 0x408
abbrev CROSS_TIME_SEC_LO : Nat := 0x40C
abbrev CROSS_TIME_SEC_HI : Nat := 0x410
abbrev FG_STATUS : Nat := 0x414
abbrev FG_RATE_N : Nat := 0x418
abbrev FG_RATE_D : Nat := 0x41C
abbrev SEAL_OFFSET : Nat := 0x420
abbrev COMMIT_QUEUE_LVL : Nat := 0x424
abbrev TB_SNAP : Nat := 0x800
abbrev FG_LAST_SKIP : Nat := 0x804
abbrev FG_SKIP_TOTAL : Nat := 0x808
abbrev FG_HOLD_CNT : Nat := 0x80C
abbrev TB_SNAP_FRAC (n : Nat) : Nat := 0x840 + 0x40 * n
abbrev TB_SNAP_NS (n : Nat) : Nat := 0x844 + 0x40 * n
abbrev TB_SNAP_SEC_LO (n : Nat) : Nat := 0x848 + 0x40 * n
abbrev TB_SNAP_SEC_HI (n : Nat) : Nat := 0x84C + 0x40 * n
abbrev TB_CFG (n : Nat) : Nat := 0x850 + 0x40 * n
abbrev TB_RATE (n : Nat) : Nat := 0x854 + 0x40 * n
abbrev TB_STEP_THR (n : Nat) : Nat := 0x858 + 0x40 * n
abbrev TB_STATUS (n : Nat) : Nat := 0x85C + 0x40 * n
abbrev TB_OFFSET (n : Nat) : Nat := 0x860 + 0x40 * n
abbrev TB_STEP_CNT (n : Nat) : Nat := 0x864 + 0x40 * n
abbrev TB_EVT (n : Nat) : Nat := 0x868 + 0x40 * n
abbrev TSU_CFG (p : Nat) : Nat := 0xA00 + 0x40 * p
abbrev TSU_TX_LAT (p : Nat) : Nat := 0xA04 + 0x40 * p
abbrev TSU_RX_LAT (p : Nat) : Nat := 0xA08 + 0x40 * p
abbrev TXTS_HEAD_ID (p : Nat) : Nat := 0xA0C + 0x40 * p
abbrev TXTS_HEAD_NS (p : Nat) : Nat := 0xA10 + 0x40 * p
abbrev TXTS_HEAD_SEC_LO (p : Nat) : Nat := 0xA14 + 0x40 * p
abbrev TXTS_HEAD_SEC_HI (p : Nat) : Nat := 0xA18 + 0x40 * p
abbrev TXTS_LEVEL (p : Nat) : Nat := 0xA1C + 0x40 * p
abbrev TXTS_RELEASE (p : Nat) : Nat := 0xA20 + 0x40 * p
abbrev TXTS_STATUS (p : Nat) : Nat := 0xA24 + 0x40 * p
abbrev TXTS_DROP_CNT (p : Nat) : Nat := 0xA28 + 0x40 * p
abbrev TXTS_FIRST_DROP_ID (p : Nat) : Nat := 0xA2C + 0x40 * p
abbrev LTC_CFG : Nat := 0xB40
abbrev LTC_TC : Nat := 0xB44
abbrev LTC_UBITS : Nat := 0xB48
abbrev LTC_TIME_NS : Nat := 0xB4C
abbrev LTC_TIME_SEC_LO : Nat := 0xB50
abbrev LTC_STATUS : Nat := 0xB54
abbrev FPIN_CFG : Nat := 0xB58
abbrev FPIN_RATE_N : Nat := 0xB5C
abbrev FPIN_RATE_D : Nat := 0xB60
abbrev FPIN_LAST_NS : Nat := 0xB64
abbrev FPIN_LAST_SEC_LO : Nat := 0xB68
abbrev FPOUT_CFG : Nat := 0xB6C
abbrev FPOUT_OFFSET : Nat := 0xB70
abbrev FPOUT_WIDTH : Nat := 0xB74
abbrev FPOUT_STATUS : Nat := 0xB78
abbrev FPIN_REJECT_CNT : Nat := 0xB7C
abbrev LTC_TIME_SEC_HI : Nat := 0xB80
abbrev FPIN_LAST_SEC_HI : Nat := 0xB84
abbrev COMP_CFG : Nat := 0x1000
abbrev COMP_STATUS : Nat := 0x1004
abbrev COMP_OVERRUN_CNT : Nat := 0x1008
abbrev COMP_TAGFAIL_CNT : Nat := 0x100C
abbrev COMP_ADMIT_PXL : Nat := 0x1010
abbrev COMP_ADMIT_CANVAS : Nat := 0x1014
abbrev COMP_FETCH_PXL : Nat := 0x1018
abbrev COMP_CULL_PXL : Nat := 0x101C
abbrev COMP_EVT : Nat := 0x1020
abbrev STREAM_REPEAT_CNT (s : Nat) : Nat := 0x1040 + 4 * s
abbrev LANE_LEVEL (n : Nat) : Nat := 0x1100 + 0x20 * n
abbrev LANE_MIN_LEVEL (n : Nat) : Nat := 0x1104 + 0x20 * n
abbrev LANE_URGENT_CNT (n : Nat) : Nat := 0x1108 + 0x20 * n
abbrev LANE_CLR (n : Nat) : Nat := 0x110C + 0x20 * n
abbrev MAP_STATUS : Nat := 0x1200
abbrev MAP_FIX_HIGH : Nat := 0x1204
abbrev MAP_ADMIT_CELLS : Nat := 0x1208
abbrev MAP_ADMIT_SAMPLES : Nat := 0x120C
abbrev MAP_PARK_PEAK : Nat := 0x1210
abbrev MAP_STALL_CNT : Nat := 0x1214
abbrev MAP_UNRENDERED : Nat := 0x1218
abbrev MAP_CORRUPT_CNT : Nat := 0x121C
abbrev MAP_CORRUPT_FIRST : Nat := 0x1220
abbrev MAP_EVT : Nat := 0x1224
abbrev MAP_CLR : Nat := 0x1228
abbrev MODEL_AMBIENT : Nat := 0x1400
abbrev MODEL_STATUS : Nat := 0x1404
abbrev MODEL_PROG_MISS_CNT : Nat := 0x1408
abbrev MODEL_NORENDER_CNT : Nat := 0x140C
abbrev MODEL_EVT : Nat := 0x1410
abbrev MODEL_CLR : Nat := 0x1414
abbrev LIM_CTRL : Nat := 0x1418
abbrev LIM_BUDGET (f : Nat) : Nat := 0x1480 + 0x10 * f
abbrev LIM_PRED (f : Nat) : Nat := 0x1484 + 0x10 * f
abbrev LIM_SCALE (f : Nat) : Nat := 0x1488 + 0x10 * f
abbrev LIM_ACTIVE_CNT (f : Nat) : Nat := 0x148C + 0x10 * f
abbrev PROF_HEADROOM_CNT (p : Nat) : Nat := 0x70000 + 0x8 * p
abbrev PROF_DERATE_CNT (p : Nat) : Nat := 0x70004 + 0x8 * p
abbrev SCHED_STATUS : Nat := 0x1600
abbrev SCHED_WAIT_CNT : Nat := 0x1604
abbrev SCHED_READY_CNT : Nat := 0x1608
abbrev SCHED_FREE_CNT : Nat := 0x160C
abbrev FADE_ACTIVE : Nat := 0x1610
abbrev FADE_PEAK : Nat := 0x1614
abbrev TASK_LATE_CNT : Nat := 0x1618
abbrev TASK_FAIL_CNT : Nat := 0x161C
abbrev SCHED_EVT : Nat := 0x1620
abbrev SCHED_CLR : Nat := 0x1624
abbrev TRIG_CFG : Nat := 0x1628
abbrev IN_CUE_PRIO : Nat := 0x1800
abbrev IN_SRC_ACTIVE : Nat := 0x1804
abbrev IN_SRC_LOST_CNT : Nat := 0x1808
abbrev IN_SRC_EXCESS_CNT : Nat := 0x180C
abbrev IN_DISCARD_CNT : Nat := 0x1810
abbrev IN_EVT : Nat := 0x1814
abbrev PK_CFG : Nat := 0x1A00
abbrev PK_HDR_DEFAULT : Nat := 0x1A04
abbrev PK_PRIO_ADJ : Nat := 0x1A08
abbrev PK_STATUS : Nat := 0x1A0C
abbrev PK_ADMIT_UNIV : Nat := 0x1A10
abbrev PK_OVERRUN_CNT : Nat := 0x1A14
abbrev PK_LAST_UNEMITTED : Nat := 0x1A18
abbrev PK_CORRUPT_CNT : Nat := 0x1A1C
abbrev PK_TERM_DROP_CNT : Nat := 0x1A20
abbrev PK_EVT : Nat := 0x1A24
abbrev PK_SET_EN (n : Nat) : Nat := 0x1A40 + 4 * n
abbrev PKP_CEIL (p : Nat) : Nat := 0x1B00 + 0x40 * p
abbrev PKP_ADMIT_UNIV (p : Nat) : Nat := 0x1B04 + 0x40 * p
abbrev PKP_DELTA (p : Nat) : Nat := 0x1B08 + 0x40 * p
abbrev PKP_PKT_CNT (p : Nat) : Nat := 0x1B0C + 0x40 * p
abbrev PKP_KA_CNT (p : Nat) : Nat := 0x1B10 + 0x40 * p
abbrev PKP_SYNC_PAIRS (p : Nat) : Nat := 0x1B14 + 0x40 * p
abbrev PKP_DOWN_DROP (p : Nat) : Nat := 0x1B18 + 0x40 * p
abbrev PKP_LAST_START (p : Nat) : Nat := 0x1B1C + 0x40 * p
abbrev PKP_SYNC_LATE_CNT (p : Nat) : Nat := 0x1B20 + 0x40 * p
abbrev DMX_CFG (n : Nat) : Nat := 0x2100 + 0x40 * n
abbrev DMX_SLOTS (n : Nat) : Nat := 0x2104 + 0x40 * n
abbrev DMX_OFFSET (n : Nat) : Nat := 0x2108 + 0x40 * n
abbrev DMX_TIMING (n : Nat) : Nat := 0x210C + 0x40 * n
abbrev DMX_RDM (n : Nat) : Nat := 0x2110 + 0x40 * n
abbrev DMX_EFF (n : Nat) : Nat := 0x2114 + 0x40 * n
abbrev DMX_STATUS (n : Nat) : Nat := 0x2118 + 0x40 * n
abbrev DMX_FRAME_CNT (n : Nat) : Nat := 0x211C + 0x40 * n
abbrev DMX_STEAL_CNT (n : Nat) : Nat := 0x2120 + 0x40 * n
abbrev DMX_RDM_ERR_CNT (n : Nat) : Nat := 0x2124 + 0x40 * n
abbrev DMX_EVT (n : Nat) : Nat := 0x2128 + 0x40 * n
abbrev PIX_CFG (p : Nat) : Nat := 0x2500 + 0x40 * p
abbrev PIX_LEN (p : Nat) : Nat := 0x2504 + 0x40 * p
abbrev PIX_OFFSET (p : Nat) : Nat := 0x2508 + 0x40 * p
abbrev PIX_NRZ (p : Nat) : Nat := 0x250C + 0x40 * p
abbrev PIX_CLK (p : Nat) : Nat := 0x2510 + 0x40 * p
abbrev PIX_EFF (p : Nat) : Nat := 0x2514 + 0x40 * p
abbrev PIX_STATUS (p : Nat) : Nat := 0x2518 + 0x40 * p
abbrev PIX_FRAME_CNT (p : Nat) : Nat := 0x251C + 0x40 * p
abbrev PIX_EVT (p : Nat) : Nat := 0x2520 + 0x40 * p
abbrev HC_CFG (n : Nat) : Nat := 0x2D00 + 0x40 * n
abbrev HC_LEVEL (n : Nat) : Nat := 0x2D04 + 0x40 * n
abbrev HC_FADE (n : Nat) : Nat := 0x2D08 + 0x40 * n
abbrev HC_NTC (n : Nat) : Nat := 0x2D0C + 0x40 * n
abbrev HC_DERATE (n : Nat) : Nat := 0x2D10 + 0x40 * n
abbrev HC_FLOOR_TC (n : Nat) : Nat := 0x2D14 + 0x40 * n
abbrev HC_DIAG_THR (n : Nat) : Nat := 0x2D18 + 0x40 * n
abbrev HC_STATUS (n : Nat) : Nat := 0x2D1C + 0x40 * n
abbrev HC_TEMP (n : Nat) : Nat := 0x2D20 + 0x40 * n
abbrev HC_EVT (n : Nat) : Nat := 0x2D24 + 0x40 * n
abbrev NET_CNT_SNAP : Nat := 0x3300
abbrev NET_CNT_CLR : Nat := 0x3304
abbrev NET_GROUPS_USED : Nat := 0x3308
abbrev NET_GROUPS_USED3 : Nat := 0x330C
abbrev NET_MODE (p : Nat) : Nat := 0x3400 + 0x100 * p
abbrev NET_MAC_LO (p : Nat) : Nat := 0x3404 + 0x100 * p
abbrev NET_MAC_HI (p : Nat) : Nat := 0x3408 + 0x100 * p
abbrev NET_VLAN (p : Nat) : Nat := 0x340C + 0x100 * p
abbrev NET_IP4 (p : Nat) : Nat := 0x3410 + 0x100 * p
abbrev NET_IP6 (p w : Nat) : Nat := 0x3414 + 0x100 * p + 4 * w
abbrev NET_MAXLEN (p : Nat) : Nat := 0x3424 + 0x100 * p
abbrev NET_HOSTQ (p : Nat) : Nat := 0x3428 + 0x100 * p
abbrev NET_EEE (p : Nat) : Nat := 0x342C + 0x100 * p
abbrev NET_EEE_TW (p : Nat) : Nat := 0x3430 + 0x100 * p
abbrev NET_PAUSE_WD (p : Nat) : Nat := 0x3434 + 0x100 * p
abbrev NET_STATUS (p : Nat) : Nat := 0x3438 + 0x100 * p
abbrev NET_EVT (p : Nat) : Nat := 0x343C + 0x100 * p
abbrev NP_RX_FRAMES_LO (p : Nat) : Nat := 0x3480 + 0x100 * p
abbrev NP_RX_FRAMES_HI (p : Nat) : Nat := 0x3484 + 0x100 * p
abbrev NP_RX_OCTETS_LO (p : Nat) : Nat := 0x3488 + 0x100 * p
abbrev NP_RX_OCTETS_HI (p : Nat) : Nat := 0x348C + 0x100 * p
abbrev NP_TX_FRAMES_LO (p : Nat) : Nat := 0x3490 + 0x100 * p
abbrev NP_TX_FRAMES_HI (p : Nat) : Nat := 0x3494 + 0x100 * p
abbrev NP_TX_OCTETS_LO (p : Nat) : Nat := 0x3498 + 0x100 * p
abbrev NP_TX_OCTETS_HI (p : Nat) : Nat := 0x349C + 0x100 * p
abbrev NP_RX_RUNT (p : Nat) : Nat := 0x34A0 + 0x100 * p
abbrev NP_RX_OVERSIZE (p : Nat) : Nat := 0x34A4 + 0x100 * p
abbrev NP_RX_FCS_ERR (p : Nat) : Nat := 0x34A8 + 0x100 * p
abbrev NP_RX_VLAN_DROP (p : Nat) : Nat := 0x34AC + 0x100 * p
abbrev NP_RX_ADDR_DROP (p : Nat) : Nat := 0x34B0 + 0x100 * p
abbrev NP_RX_CSUM_DROP (p : Nat) : Nat := 0x34B4 + 0x100 * p
abbrev NP_RX_UNCLASS_DROP (p : Nat) : Nat := 0x34B8 + 0x100 * p
abbrev NP_RX_NOBUF_DROP (p : Nat) : Nat := 0x34BC + 0x100 * p
abbrev NP_RX_PAUSE (p : Nat) : Nat := 0x34C0 + 0x100 * p
abbrev NP_RX_PAUSE_IGNORED (p : Nat) : Nat := 0x34C4 + 0x100 * p
abbrev NP_RX_MACCTL_IGNORED (p : Nat) : Nat := 0x34C8 + 0x100 * p
abbrev NP_TX_PAUSED_US (p : Nat) : Nat := 0x34CC + 0x100 * p
abbrev NP_LPI_ENTRIES (p : Nat) : Nat := 0x34D0 + 0x100 * p
abbrev NP_LINK_DOWN_CNT (p : Nat) : Nat := 0x34D4 + 0x100 * p
abbrev STR_STATUS (s : Nat) : Nat := 0x3A00 + 0x40 * s
abbrev STR_FRAMES (s : Nat) : Nat := 0x3A04 + 0x40 * s
abbrev STR_INCOMPLETE (s : Nat) : Nat := 0x3A08 + 0x40 * s
abbrev STR_A_PKTS (s : Nat) : Nat := 0x3A0C + 0x40 * s
abbrev STR_B_PKTS (s : Nat) : Nat := 0x3A10 + 0x40 * s
abbrev STR_A_LOST (s : Nat) : Nat := 0x3A14 + 0x40 * s
abbrev STR_B_LOST (s : Nat) : Nat := 0x3A18 + 0x40 * s
abbrev STR_LATE (s : Nat) : Nat := 0x3A1C + 0x40 * s
abbrev STR_FORMAT_DROP (s : Nat) : Nat := 0x3A20 + 0x40 * s
abbrev STR_EVT (s : Nat) : Nat := 0x3A24 + 0x40 * s
abbrev HB_STATUS : Nat := 0x200
abbrev HB_EPOCH : Nat := 0x204
abbrev HB_WIN_BASE_LO : Nat := 0x208
abbrev HB_WIN_BASE_HI : Nat := 0x20C
abbrev HB_PEER_BASE : Nat := 0x210
abbrev HB_WFAIL_CNT : Nat := 0x214
abbrev HB_WFAIL_ADDR_LO : Nat := 0x218
abbrev HB_WFAIL_ADDR_HI : Nat := 0x21C
abbrev HB_WFAIL_REQ : Nat := 0x220
abbrev HB_WFAIL_EPOCH : Nat := 0x224
abbrev HB_EVT : Nat := 0x228
abbrev EVT_LEGACY_CFG : Nat := 0x300
abbrev RING_CFG (r : Nat) : Nat := 0x100000 + 0x40 * r
abbrev RING_BASE_LO (r : Nat) : Nat := 0x100004 + 0x40 * r
abbrev RING_BASE_HI (r : Nat) : Nat := 0x100008 + 0x40 * r
abbrev RING_BUF_LO (r : Nat) : Nat := 0x10000C + 0x40 * r
abbrev RING_BUF_HI (r : Nat) : Nat := 0x100010 + 0x40 * r
abbrev RING_PROD (r : Nat) : Nat := 0x100014 + 0x40 * r
abbrev RING_CONS (r : Nat) : Nat := 0x100018 + 0x40 * r
abbrev RING_FLUSH (r : Nat) : Nat := 0x10001C + 0x40 * r
abbrev RING_STATUS (r : Nat) : Nat := 0x100020 + 0x40 * r
abbrev RING_DROP_CNT (r : Nat) : Nat := 0x100024 + 0x40 * r
abbrev RING_EVT (r : Nat) : Nat := 0x100028 + 0x40 * r
abbrev MB_CMD (m w : Nat) : Nat := 0x4000 + 0x100 * m + 4 * w
abbrev MB_RESP (m w : Nat) : Nat := 0x4040 + 0x100 * m + 4 * w
abbrev MB_DOORBELL (m : Nat) : Nat := 0x4080 + 0x100 * m
abbrev MB_STATUS (m : Nat) : Nat := 0x4084 + 0x100 * m
abbrev TF_CFG (f : Nat) : Nat := 0x4800 + 0x40 * f
abbrev TF_STATUS (f : Nat) : Nat := 0x4804 + 0x40 * f
abbrev TF_DRAIN_LEN (f : Nat) : Nat := 0x4808 + 0x40 * f
abbrev TF_RD (f : Nat) : Nat := 0x480C + 0x40 * f
abbrev TF_ADVANCE (f : Nat) : Nat := 0x4810 + 0x40 * f
abbrev TF_MARK (f : Nat) : Nat := 0x4814 + 0x40 * f
abbrev TF_REWIND (f : Nat) : Nat := 0x4818 + 0x40 * f
abbrev TF_RELEASE (f : Nat) : Nat := 0x481C + 0x40 * f
abbrev TF_CLOSE (f : Nat) : Nat := 0x4820 + 0x40 * f
abbrev TF_FLUSH (f : Nat) : Nat := 0x4824 + 0x40 * f
abbrev TF_MARK_POS (f : Nat) : Nat := 0x4828 + 0x40 * f
abbrev TF_LOST (f : Nat) : Nat := 0x482C + 0x40 * f
abbrev TF_SINK_CNT (f : Nat) : Nat := 0x4830 + 0x40 * f
abbrev TF_EVT (f : Nat) : Nat := 0x4834 + 0x40 * f
abbrev ISLE_STATUS : Nat := 0x5000
abbrev PAIR_CFG : Nat := 0x5004
abbrev PAIR_ID : Nat := 0x5008
abbrev PAIR_BEACON_PORTS : Nat := 0x500C
abbrev HEALTH_OWN : Nat := 0x5010
abbrev HEALTH_PEER : Nat := 0x5014
abbrev FERRY_CSN_LO : Nat := 0x5018
abbrev FERRY_CSN_HI : Nat := 0x501C
abbrev FERRY_OCTETS : Nat := 0x5020
abbrev FERRY_TIME_US : Nat := 0x5024
abbrev FERRY_LATE_CNT : Nat := 0x5028
abbrev CHECK_MISMATCH_CNT : Nat := 0x502C
abbrev CHECK_EXCUSED_CNT : Nat := 0x5030
abbrev MISMATCH_FIRST : Nat := 0x5034
abbrev LINK_STATUS : Nat := 0x5038
abbrev LINK_CRC_ERR : Nat := 0x503C
abbrev LINK_RETRY_CNT : Nat := 0x5040
abbrev LINK_DOWN_CNT : Nat := 0x5044
abbrev PAIR_EVT : Nat := 0x5048
abbrev PEER_MAC_LO (p : Nat) : Nat := 0x5050 + 8 * p
abbrev PEER_MAC_HI (p : Nat) : Nat := 0x5054 + 8 * p
abbrev MTR_STATUS : Nat := 0x6000
abbrev MTR_EW_CFG : Nat := 0x6004
abbrev MTR_SNAP_CSN_LO : Nat := 0x6008
abbrev MTR_SNAP_CSN_HI : Nat := 0x600C
abbrev MTR_HOST_SNAP : Nat := 0x6010
abbrev MTR_HOST_SNAP_NS : Nat := 0x6014
abbrev MTR_HOST_SNAP_SEC_LO : Nat := 0x6018
abbrev MTR_HOST_SNAP_CSN_LO : Nat := 0x601C
abbrev MTR_JOURNAL_CNT : Nat := 0x6020
abbrev MTR_JOURNAL_LAST_US : Nat := 0x6024
abbrev MTR_EVT : Nat := 0x6028
abbrev MF_STATUS (f : Nat) : Nat := 0x6100 + 0x40 * f
abbrev MF_FREQ (f : Nat) : Nat := 0x6104 + 0x40 * f
abbrev MF_VRMS (f w : Nat) : Nat := 0x6108 + 0x40 * f + 4 * w
abbrev MF_IRMS (f w : Nat) : Nat := 0x6114 + 0x40 * f + 4 * w
abbrev MF_INRMS (f : Nat) : Nat := 0x6120 + 0x40 * f
abbrev MF_PF (f w : Nat) : Nat := 0x6124 + 0x40 * f + 4 * w
abbrev MF_PF_FEED (f : Nat) : Nat := 0x6130 + 0x40 * f
abbrev MF_PQ_SHORT_CNT (f : Nat) : Nat := 0x6134 + 0x40 * f
abbrev MF_PQ_REC_CNT (f : Nat) : Nat := 0x6138 + 0x40 * f
abbrev MF_EVT (f : Nat) : Nat := 0x613C + 0x40 * f
abbrev PULSE_STATUS (n : Nat) : Nat := 0x6400 + 0x20 * n
abbrev PULSE_WIDTH (n : Nat) : Nat := 0x6404 + 0x20 * n
abbrev PULSE_EP_LO (n : Nat) : Nat := 0x6408 + 0x20 * n
abbrev PULSE_EP_HI (n : Nat) : Nat := 0x640C + 0x20 * n
abbrev PULSE_RESIDUE_LO (n : Nat) : Nat := 0x6410 + 0x20 * n
abbrev PULSE_RESIDUE_HI (n : Nat) : Nat := 0x6414 + 0x20 * n
abbrev PULSE_BACKLOG_LO (n : Nat) : Nat := 0x6418 + 0x20 * n
abbrev PULSE_BACKLOG_HI (n : Nat) : Nat := 0x641C + 0x20 * n
abbrev CAL_STATUS : Nat := 0x9000
abbrev CAL_AUTO : Nat := 0x9004
abbrev CAL_LAST_CSN_LO : Nat := 0x9008
abbrev CAL_TIMEOUT_CNT : Nat := 0x900C
abbrev CAL_EVT : Nat := 0x9010
abbrev DIE_TEMP (s : Nat) : Nat := 0x9020 + 4 * s
abbrev TSENS_TRIM (s : Nat) : Nat := 0x9040 + 4 * s
abbrev HC_TRIM (n : Nat) : Nat := 0x9080 + 4 * n
abbrev LANE_SEL (l : Nat) : Nat := 0x90C0 + 4 * l
abbrev LANE_MARGIN (l : Nat) : Nat := 0x90E0 + 4 * l
abbrev MCAL_GAIN (f c : Nat) : Nat := 0x9400 + 0x80 * f + 0x10 * c
abbrev MCAL_OFFSET (f c : Nat) : Nat := 0x9404 + 0x80 * f + 0x10 * c
abbrev MCAL_PHASE (f c : Nat) : Nat := 0x9408 + 0x80 * f + 0x10 * c
abbrev CK_CFG (x : Nat) : Nat := 0xA000 + 0x40 * x
abbrev CK_CTRL (x : Nat) : Nat := 0xA004 + 0x40 * x
abbrev CK_FOLD_LO (x : Nat) : Nat := 0xA008 + 0x40 * x
abbrev CK_FOLD_HI (x : Nat) : Nat := 0xA00C + 0x40 * x
abbrev CK_EXPECT_LO (x : Nat) : Nat := 0xA010 + 0x40 * x
abbrev CK_EXPECT_HI (x : Nat) : Nat := 0xA014 + 0x40 * x
abbrev CK_RUN_LO (x : Nat) : Nat := 0xA018 + 0x40 * x
abbrev CK_RUN_HI (x : Nat) : Nat := 0xA01C + 0x40 * x
abbrev CK_DATA (x w : Nat) : Nat := 0xA020 + 0x40 * x + 4 * w
abbrev CK_RESULT_LO (x : Nat) : Nat := 0xA028 + 0x40 * x
abbrev CK_RESULT_HI (x : Nat) : Nat := 0xA02C + 0x40 * x
abbrev CK_STATUS (x : Nat) : Nat := 0xA030 + 0x40 * x
abbrev CK_COUNT (x : Nat) : Nat := 0xA034 + 0x40 * x
abbrev CK_EVT (x : Nat) : Nat := 0xA038 + 0x40 * x
abbrev ECC_CE_CNT (m : Nat) : Nat := 0xB000 + 0x40 * m
abbrev ECC_UE_CNT (m : Nat) : Nat := 0xB004 + 0x40 * m
abbrev ECC_UE_ADDR_LO (m : Nat) : Nat := 0xB008 + 0x40 * m
abbrev ECC_UE_ADDR_HI (m : Nat) : Nat := 0xB00C + 0x40 * m
abbrev ECC_CE_ADDR_LO (m : Nat) : Nat := 0xB010 + 0x40 * m
abbrev ECC_CE_ADDR_HI (m : Nat) : Nat := 0xB014 + 0x40 * m
abbrev ECC_SCRUB_PASS_S (m : Nat) : Nat := 0xB018 + 0x40 * m
abbrev ECC_SCRUB_POS (m : Nat) : Nat := 0xB01C + 0x40 * m
abbrev ECC_SCRUB_PASSES (m : Nat) : Nat := 0xB020 + 0x40 * m
abbrev ECC_EVT (m : Nat) : Nat := 0xB024 + 0x40 * m
abbrev UPD_STATUS : Nat := 0xC000
abbrev UPD_TRIAL_WIN : Nat := 0xC004
abbrev UPD_TRIAL_LEFT : Nat := 0xC008
abbrev UPD_EVT : Nat := 0xC00C
abbrev UPD_SLOTS (t : Nat) : Nat := 0xC040 + 0x20 * t
abbrev UPD_RUN_VER (t : Nat) : Nat := 0xC044 + 0x20 * t
abbrev UPD_SLOT0_VER (t : Nat) : Nat := 0xC048 + 0x20 * t
abbrev UPD_SLOT1_VER (t : Nat) : Nat := 0xC04C + 0x20 * t
abbrev UPD_SVC (t : Nat) : Nat := 0xC050 + 0x20 * t
abbrev PWR_STATUS : Nat := 0xD000
abbrev RESET_CAUSE : Nat := 0xD004
abbrev BOOT_STATUS : Nat := 0xD008
abbrev KEY_EPOCH : Nat := 0xD00C
abbrev CTRL_RESTART : Nat := 0xD010
abbrev PWR_EVT : Nat := 0xD014
abbrev BOOT_RECOVER : Nat := 0xD018
abbrev BOOT_TIME_US : Nat := 0xD01C
abbrev PART_UID (w : Nat) : Nat := 0xD020 + 4 * w
abbrev EVT_ROUTE (s : Nat) : Nat := 0xE000 + 4 * s
abbrev EVT_UNROUTED_CNT : Nat := 0xE400
abbrev MAINT_STATUS : Nat := 0xE404
abbrev MAINT_DEFER_CNT : Nat := 0xE408
abbrev CONFLICT_CNT : Nat := 0xE40C
abbrev CONFLICT_LAST : Nat := 0xE410
abbrev EVT_CLR : Nat := 0xE414
abbrev ID_DEVICE : Nat := 0x0
abbrev ID_REV : Nat := 0x4
abbrev ID_JTAG : Nat := 0x8
abbrev ID_OUI : Nat := 0xC
abbrev FACTORY_MAC_LO : Nat := 0x10
abbrev FACTORY_MAC_HI : Nat := 0x14
abbrev DRAM_CFG : Nat := 0x18
abbrev DRAM_USABLE : Nat := 0x1C
abbrev TBL_REGION_BASE_LO : Nat := 0x20
abbrev TBL_REGION_BASE_HI : Nat := 0x24
abbrev SCRATCH : Nat := 0x28
abbrev GLB_EVT_SUMMARY : Nat := 0x2C
abbrev MSIX_ADDR_LO (v : Nat) : Nat := 0x200000 + 16 * v
abbrev MSIX_ADDR_HI (v : Nat) : Nat := 0x200004 + 16 * v
abbrev MSIX_DATA (v : Nat) : Nat := 0x200008 + 16 * v
abbrev MSIX_CTRL (v : Nat) : Nat := 0x20000C + 16 * v

end Sys2Proof.Machine.Reg
end

