-- ==== Sys2Proof/Machine/RegTable.lean ====
section
/-! DEFINITION. The BAR0 map (R465) and its registers: for each block its place, its instances and its domain, and for
each register its access (R7), its reset value and its fields with their ranges (R455). -/

namespace Sys2Proof.Machine

/-- The access codes of R7. -/
inductive Access where
  | ro | wo | rw | rwb | w1c
  deriving DecidableEq, Repr

/-- The legal values of a field (R455). -/
inductive Legal where
  | any
  | range (lo hi : Nat)
  | signed (lo hi : Int)
  deriving DecidableEq, Repr

/-- A field of a register. -/
structure Field where
  lo    : Nat
  width : Nat
  legal : Legal
  deriving DecidableEq, Repr

/-- A register of a block: its offset in one instance. -/
structure Row where
  off    : Nat
  access : Access
  reset  : Nat
  fields : List Field
  deriving DecidableEq, Repr

/-- A block of R465: `count` instances, `stride` octets apart, from `base`; the power domain that holds it, by its place
in R23. -/
structure Block where
  base   : Nat
  stride : Nat
  count  : Nat
  domain : Nat
  rows   : List Row
  deriving DecidableEq, Repr

/-- Registers of the block at 0x0. -/
def Rows.global : List Row :=
  [⟨0x0, .ro, 0xB411E5A, []⟩,
   ⟨0x4, .ro, 0x0, []⟩,
   ⟨0x8, .ro, 0x10B41D5D, []⟩,
   ⟨0xC, .ro, 0x5CE831, []⟩,
   ⟨0x10, .ro, 0x0, []⟩,
   ⟨0x14, .ro, 0x0, []⟩,
   ⟨0x18, .ro, 0x0, []⟩,
   ⟨0x1C, .ro, 0x0, []⟩,
   ⟨0x20, .ro, 0x0, []⟩,
   ⟨0x24, .ro, 0x0, []⟩,
   ⟨0x28, .rw, 0x0, [⟨0, 32, .any⟩]⟩,
   ⟨0x2C, .ro, 0x0, []⟩]

/-- Registers of the block at 0x200. -/
def Rows.bridge : List Row :=
  [⟨0x0, .ro, 0x0, []⟩,
   ⟨0x4, .rw, 0x0, [⟨0, 32, .any⟩]⟩,
   ⟨0x8, .rw, 0x0, [⟨28, 4, .any⟩]⟩,
   ⟨0xC, .rw, 0x0, [⟨0, 3, .any⟩]⟩,
   ⟨0x10, .rw, 0x0, [⟨0, 5, .range 0 24⟩]⟩,
   ⟨0x14, .ro, 0x0, []⟩,
   ⟨0x18, .ro, 0x0, []⟩,
   ⟨0x1C, .ro, 0x0, []⟩,
   ⟨0x20, .ro, 0x0, []⟩,
   ⟨0x24, .ro, 0x0, []⟩,
   ⟨0x28, .w1c, 0x0, [⟨0, 2, .any⟩]⟩]

/-- Registers of the block at 0x300. -/
def Rows.legacy : List Row :=
  [⟨0x0, .rw, 0x0, [⟨0, 9, .any⟩]⟩]

/-- Registers of the block at 0x400. -/
def Rows.crossing : List Row :=
  [⟨0x0, .ro, 0x0, []⟩,
   ⟨0x4, .ro, 0x0, []⟩,
   ⟨0x8, .ro, 0x0, []⟩,
   ⟨0xC, .ro, 0x0, []⟩,
   ⟨0x10, .ro, 0x0, []⟩,
   ⟨0x14, .ro, 0x0, []⟩,
   ⟨0x18, .ro, 0x3C, []⟩,
   ⟨0x1C, .ro, 0x1, []⟩,
   ⟨0x20, .rwb, 0x32, [⟨0, 11, .range 10 2000⟩]⟩,
   ⟨0x24, .ro, 0x0, []⟩]

/-- Registers of the block at 0x800. -/
def Rows.tbGlobal : List Row :=
  [⟨0x0, .wo, 0x0, []⟩,
   ⟨0x4, .ro, 0x0, []⟩,
   ⟨0x8, .ro, 0x0, []⟩,
   ⟨0xC, .ro, 0x0, []⟩]

/-- Registers of the block at 0x840. -/
def Rows.timeBase : List Row :=
  [⟨0x0, .ro, 0x0, []⟩,
   ⟨0x4, .ro, 0x0, []⟩,
   ⟨0x8, .ro, 0x0, []⟩,
   ⟨0xC, .ro, 0x0, []⟩,
   ⟨0x10, .rwb, 0x1000000, [⟨0, 3, .range 0 4⟩, ⟨4, 2, .range 0 2⟩, ⟨8, 3, .range 0 4⟩, ⟨16, 8, .range 0 127⟩, ⟨24, 2, .any⟩, ⟨26, 2, .range 0 2⟩]⟩,
   ⟨0x14, .rw, 0x0, [⟨0, 32, .signed (-512000000) 512000000⟩]⟩,
   ⟨0x18, .rwb, 0x3E8, [⟨0, 32, .range 1 1000000⟩]⟩,
   ⟨0x1C, .ro, 0x0, []⟩,
   ⟨0x20, .ro, 0x0, []⟩,
   ⟨0x24, .ro, 0x0, []⟩,
   ⟨0x28, .w1c, 0x0, [⟨0, 3, .any⟩]⟩]

/-- Registers of the block at 0xA00. -/
def Rows.tsu01 : List Row :=
  [⟨0x0, .rwb, 0x4, [⟨0, 3, .any⟩]⟩,
   ⟨0x4, .rwb, 0x2A0, [⟨0, 16, .any⟩]⟩,
   ⟨0x8, .rwb, 0x388, [⟨0, 16, .any⟩]⟩,
   ⟨0xC, .ro, 0x0, []⟩,
   ⟨0x10, .ro, 0x0, []⟩,
   ⟨0x14, .ro, 0x0, []⟩,
   ⟨0x18, .ro, 0x0, []⟩,
   ⟨0x1C, .ro, 0x0, []⟩,
   ⟨0x20, .wo, 0x0, []⟩,
   ⟨0x24, .w1c, 0x0, [⟨0, 1, .any⟩]⟩,
   ⟨0x28, .ro, 0x0, []⟩,
   ⟨0x2C, .ro, 0x0, []⟩]

/-- Registers of the block at 0xA80. -/
def Rows.tsu23 : List Row :=
  [⟨0x0, .rwb, 0x4, [⟨0, 3, .any⟩]⟩,
   ⟨0x4, .rwb, 0x2A0, [⟨0, 16, .any⟩]⟩,
   ⟨0x8, .rwb, 0x388, [⟨0, 16, .any⟩]⟩,
   ⟨0xC, .ro, 0x0, []⟩,
   ⟨0x10, .ro, 0x0, []⟩,
   ⟨0x14, .ro, 0x0, []⟩,
   ⟨0x18, .ro, 0x0, []⟩,
   ⟨0x1C, .ro, 0x0, []⟩,
   ⟨0x20, .wo, 0x0, []⟩,
   ⟨0x24, .w1c, 0x0, [⟨0, 1, .any⟩]⟩,
   ⟨0x28, .ro, 0x0, []⟩,
   ⟨0x2C, .ro, 0x0, []⟩]

/-- Registers of the block at 0xB00. -/
def Rows.tsu4 : List Row :=
  [⟨0x0, .rwb, 0x4, [⟨0, 3, .any⟩]⟩,
   ⟨0x4, .rwb, 0x2A0, [⟨0, 16, .any⟩]⟩,
   ⟨0x8, .rwb, 0x388, [⟨0, 16, .any⟩]⟩,
   ⟨0xC, .ro, 0x0, []⟩,
   ⟨0x10, .ro, 0x0, []⟩,
   ⟨0x14, .ro, 0x0, []⟩,
   ⟨0x18, .ro, 0x0, []⟩,
   ⟨0x1C, .ro, 0x0, []⟩,
   ⟨0x20, .wo, 0x0, []⟩,
   ⟨0x24, .w1c, 0x0, [⟨0, 1, .any⟩]⟩,
   ⟨0x28, .ro, 0x0, []⟩,
   ⟨0x2C, .ro, 0x0, []⟩]

/-- Registers of the block at 0xB40. -/
def Rows.timecode : List Row :=
  [⟨0x0, .rwb, 0x2, [⟨0, 1, .any⟩, ⟨1, 3, .range 0 5⟩, ⟨4, 2, .any⟩]⟩,
   ⟨0x4, .ro, 0x0, []⟩,
   ⟨0x8, .ro, 0x0, []⟩,
   ⟨0xC, .ro, 0x0, []⟩,
   ⟨0x10, .ro, 0x0, []⟩,
   ⟨0x14, .ro, 0x0, []⟩,
   ⟨0x18, .rwb, 0x0, [⟨0, 4, .any⟩]⟩,
   ⟨0x1C, .rwb, 0x3C, [⟨0, 32, .any⟩]⟩,
   ⟨0x20, .rwb, 0x1, [⟨0, 32, .range 1 4294967295⟩]⟩,
   ⟨0x24, .ro, 0x0, []⟩,
   ⟨0x28, .ro, 0x0, []⟩,
   ⟨0x2C, .rwb, 0x4, [⟨0, 2, .any⟩, ⟨2, 4, .range 1 15⟩]⟩,
   ⟨0x30, .rwb, 0x0, [⟨0, 32, .signed (-2000000) 2000000⟩]⟩,
   ⟨0x34, .rwb, 0xA, [⟨0, 10, .range 1 1000⟩]⟩,
   ⟨0x38, .w1c, 0x0, [⟨0, 2, .any⟩]⟩,
   ⟨0x3C, .ro, 0x0, []⟩,
   ⟨0x40, .ro, 0x0, []⟩,
   ⟨0x44, .ro, 0x0, []⟩]

/-- Registers of the block at 0x1000. -/
def Rows.comp : List Row :=
  [⟨0x0, .rwb, 0x119, [⟨0, 7, .range 5 95⟩, ⟨8, 1, .any⟩]⟩,
   ⟨0x4, .ro, 0x0, []⟩,
   ⟨0x8, .ro, 0x0, []⟩,
   ⟨0xC, .ro, 0x0, []⟩,
   ⟨0x10, .ro, 0x0, []⟩,
   ⟨0x14, .ro, 0x0, []⟩,
   ⟨0x18, .ro, 0x0, []⟩,
   ⟨0x1C, .ro, 0x0, []⟩,
   ⟨0x20, .w1c, 0x0, [⟨0, 5, .any⟩]⟩,
   ⟨0x40, .ro, 0x0, []⟩,
   ⟨0x44, .ro, 0x0, []⟩,
   ⟨0x48, .ro, 0x0, []⟩,
   ⟨0x4C, .ro, 0x0, []⟩,
   ⟨0x50, .ro, 0x0, []⟩,
   ⟨0x54, .ro, 0x0, []⟩,
   ⟨0x58, .ro, 0x0, []⟩,
   ⟨0x5C, .ro, 0x0, []⟩,
   ⟨0x60, .ro, 0x0, []⟩,
   ⟨0x64, .ro, 0x0, []⟩,
   ⟨0x68, .ro, 0x0, []⟩,
   ⟨0x6C, .ro, 0x0, []⟩,
   ⟨0x70, .ro, 0x0, []⟩,
   ⟨0x74, .ro, 0x0, []⟩,
   ⟨0x78, .ro, 0x0, []⟩,
   ⟨0x7C, .ro, 0x0, []⟩]

/-- Registers of the block at 0x1100. -/
def Rows.lane : List Row :=
  [⟨0x0, .ro, 0x0, []⟩,
   ⟨0x4, .ro, 0x64, []⟩,
   ⟨0x8, .ro, 0x0, []⟩,
   ⟨0xC, .wo, 0x0, []⟩]

/-- Registers of the block at 0x1200. -/
def Rows.map : List Row :=
  [⟨0x0, .ro, 0x0, []⟩,
   ⟨0x4, .ro, 0x0, []⟩,
   ⟨0x8, .ro, 0x0, []⟩,
   ⟨0xC, .ro, 0x0, []⟩,
   ⟨0x10, .ro, 0x0, []⟩,
   ⟨0x14, .ro, 0x0, []⟩,
   ⟨0x18, .ro, 0x0, []⟩,
   ⟨0x1C, .ro, 0x0, []⟩,
   ⟨0x20, .ro, 0x0, []⟩,
   ⟨0x24, .w1c, 0x0, [⟨0, 3, .any⟩]⟩,
   ⟨0x28, .wo, 0x0, []⟩]

/-- Registers of the block at 0x1400. -/
def Rows.model : List Row :=
  [⟨0x0, .rwb, 0x1900, [⟨0, 16, .any⟩]⟩,
   ⟨0x4, .ro, 0x0, []⟩,
   ⟨0x8, .ro, 0x0, []⟩,
   ⟨0xC, .ro, 0x0, []⟩,
   ⟨0x10, .w1c, 0x0, [⟨0, 6, .any⟩]⟩,
   ⟨0x14, .wo, 0x0, []⟩,
   ⟨0x18, .rwb, 0x0, [⟨0, 8, .any⟩]⟩]

/-- Registers of the block at 0x1480. -/
def Rows.limiter : List Row :=
  [⟨0x0, .rwb, 0xFFFFFF, [⟨0, 24, .any⟩]⟩,
   ⟨0x4, .ro, 0x0, []⟩,
   ⟨0x8, .ro, 0x10000, []⟩,
   ⟨0xC, .ro, 0x0, []⟩]

/-- Registers of the block at 0x1600. -/
def Rows.sched : List Row :=
  [⟨0x0, .ro, 0x0, []⟩,
   ⟨0x4, .ro, 0x0, []⟩,
   ⟨0x8, .ro, 0x0, []⟩,
   ⟨0xC, .ro, 0x1000, []⟩,
   ⟨0x10, .ro, 0x0, []⟩,
   ⟨0x14, .ro, 0x0, []⟩,
   ⟨0x18, .ro, 0x0, []⟩,
   ⟨0x1C, .ro, 0x0, []⟩,
   ⟨0x20, .w1c, 0x0, [⟨0, 3, .any⟩]⟩,
   ⟨0x24, .wo, 0x0, []⟩,
   ⟨0x28, .rwb, 0x0, [⟨0, 4, .any⟩, ⟨8, 8, .any⟩]⟩]

/-- Registers of the block at 0x1800. -/
def Rows.inMerge : List Row :=
  [⟨0x0, .rwb, 0x64, [⟨0, 8, .range 0 200⟩]⟩,
   ⟨0x4, .ro, 0x0, []⟩,
   ⟨0x8, .ro, 0x0, []⟩,
   ⟨0xC, .ro, 0x0, []⟩,
   ⟨0x10, .ro, 0x0, []⟩,
   ⟨0x14, .w1c, 0x0, [⟨0, 2, .any⟩]⟩]

/-- Registers of the block at 0x1A00. -/
def Rows.packer : List Row :=
  [⟨0x0, .rwb, 0x3C, [⟨0, 7, .range 10 90⟩]⟩,
   ⟨0x4, .rwb, 0x10, [⟨0, 8, .range 1 255⟩, ⟨8, 6, .any⟩, ⟨14, 1, .any⟩]⟩,
   ⟨0x8, .ro, 0x0, []⟩,
   ⟨0xC, .ro, 0x0, []⟩,
   ⟨0x10, .ro, 0x0, []⟩,
   ⟨0x14, .ro, 0x0, []⟩,
   ⟨0x18, .ro, 0x0, []⟩,
   ⟨0x1C, .ro, 0x0, []⟩,
   ⟨0x20, .ro, 0x0, []⟩,
   ⟨0x24, .w1c, 0x0, [⟨0, 4, .any⟩]⟩,
   ⟨0x40, .rwb, 0xFFFFFFFF, [⟨0, 32, .any⟩]⟩,
   ⟨0x44, .rwb, 0xFFFFFFFF, [⟨0, 32, .any⟩]⟩,
   ⟨0x48, .rwb, 0xFFFFFFFF, [⟨0, 32, .any⟩]⟩,
   ⟨0x4C, .rwb, 0xFFFFFFFF, [⟨0, 32, .any⟩]⟩,
   ⟨0x50, .rwb, 0xFFFFFFFF, [⟨0, 32, .any⟩]⟩,
   ⟨0x54, .rwb, 0xFFFFFFFF, [⟨0, 32, .any⟩]⟩,
   ⟨0x58, .rwb, 0xFFFFFFFF, [⟨0, 32, .any⟩]⟩,
   ⟨0x5C, .rwb, 0xFFFFFFFF, [⟨0, 32, .any⟩]⟩]

/-- Registers of the block at 0x1B00. -/
def Rows.packerPort : List Row :=
  [⟨0x0, .rwb, 0xFA, [⟨0, 8, .range 1 250⟩]⟩,
   ⟨0x4, .ro, 0x0, []⟩,
   ⟨0x8, .ro, 0x0, []⟩,
   ⟨0xC, .ro, 0x0, []⟩,
   ⟨0x10, .ro, 0x0, []⟩,
   ⟨0x14, .ro, 0x0, []⟩,
   ⟨0x18, .ro, 0x0, []⟩,
   ⟨0x1C, .ro, 0x0, []⟩,
   ⟨0x20, .ro, 0x0, []⟩]

/-- Registers of the block at 0x2100. -/
def Rows.dmx : List Row :=
  [⟨0x0, .rwb, 0x4, [⟨0, 2, .any⟩, ⟨2, 4, .range 1 15⟩]⟩,
   ⟨0x4, .rwb, 0x200, [⟨0, 10, .range 1 512⟩]⟩,
   ⟨0x8, .rwb, 0x0, [⟨0, 16, .any⟩]⟩,
   ⟨0xC, .rwb, 0xC0064, [⟨0, 10, .range 92 1000⟩, ⟨16, 8, .range 12 255⟩, ⟨24, 8, .any⟩]⟩,
   ⟨0x10, .rwb, 0x0, [⟨0, 8, .any⟩]⟩,
   ⟨0x14, .ro, 0x0, []⟩,
   ⟨0x18, .ro, 0x0, []⟩,
   ⟨0x1C, .ro, 0x0, []⟩,
   ⟨0x20, .ro, 0x0, []⟩,
   ⟨0x24, .ro, 0x0, []⟩,
   ⟨0x28, .w1c, 0x0, [⟨0, 5, .any⟩]⟩]

/-- Registers of the block at 0x2500. -/
def Rows.pix : List Row :=
  [⟨0x0, .rwb, 0x30004, [⟨0, 2, .any⟩, ⟨2, 4, .range 1 15⟩, ⟨6, 2, .any⟩, ⟨16, 4, .range 1 8⟩, ⟨24, 8, .any⟩]⟩,
   ⟨0x4, .rwb, 0x7F8, [⟨0, 16, .range 1 32768⟩]⟩,
   ⟨0x8, .rwb, 0x0, [⟨0, 16, .any⟩]⟩,
   ⟨0xC, .rwb, 0x2010012C, [⟨0, 10, .range 50 1000⟩, ⟨16, 8, .range 8 24⟩, ⟨24, 8, .range 24 40⟩]⟩,
   ⟨0x10, .rwb, 0x40410, [⟨0, 8, .range 16 255⟩, ⟨8, 4, .range 0 8⟩, ⟨16, 8, .any⟩, ⟨24, 1, .any⟩]⟩,
   ⟨0x14, .ro, 0x0, []⟩,
   ⟨0x18, .ro, 0x0, []⟩,
   ⟨0x1C, .ro, 0x0, []⟩,
   ⟨0x20, .w1c, 0x0, [⟨0, 4, .any⟩]⟩]

/-- Registers of the block at 0x2D00. -/
def Rows.house : List Row :=
  [⟨0x0, .rwb, 0x0, [⟨0, 1, .any⟩, ⟨1, 2, .range 0 2⟩, ⟨4, 10, .any⟩]⟩,
   ⟨0x4, .rwb, 0x0, [⟨0, 16, .any⟩]⟩,
   ⟨0x8, .rwb, 0x0, [⟨0, 22, .range 0 3600000⟩]⟩,
   ⟨0xC, .rwb, 0x10000F8A, [⟨0, 16, .range 1000 10000⟩, ⟨16, 16, .any⟩]⟩,
   ⟨0x10, .rwb, 0x4600, [⟨0, 32, .any⟩]⟩,
   ⟨0x14, .rwb, 0x8000, [⟨0, 32, .any⟩]⟩,
   ⟨0x18, .rwb, 0x3000040, [⟨0, 10, .any⟩, ⟨16, 10, .any⟩]⟩,
   ⟨0x1C, .ro, 0x0, []⟩,
   ⟨0x20, .ro, 0x0, []⟩,
   ⟨0x24, .w1c, 0x0, [⟨0, 2, .any⟩]⟩]

/-- Registers of the block at 0x3300. -/
def Rows.netGlobal : List Row :=
  [⟨0x0, .wo, 0x0, []⟩,
   ⟨0x4, .wo, 0x0, []⟩,
   ⟨0x8, .ro, 0x0, []⟩,
   ⟨0xC, .ro, 0x0, []⟩]

/-- Registers of the block at 0x3400. -/
def Rows.netPort : List Row :=
  [⟨0x0, .rwb, 0x120, [⟨0, 2, .range 0 1⟩, ⟨2, 2, .range 0 2⟩, ⟨4, 2, .any⟩, ⟨8, 1, .any⟩]⟩,
   ⟨0x4, .rwb, 0x0, [⟨0, 32, .any⟩]⟩,
   ⟨0x8, .rwb, 0x0, [⟨0, 16, .any⟩]⟩,
   ⟨0xC, .rwb, 0x10000, [⟨0, 17, .any⟩]⟩,
   ⟨0x10, .rwb, 0x0, [⟨0, 32, .any⟩]⟩,
   ⟨0x14, .rwb, 0x0, [⟨0, 32, .any⟩]⟩,
   ⟨0x18, .rwb, 0x0, [⟨0, 32, .any⟩]⟩,
   ⟨0x1C, .rwb, 0x0, [⟨0, 32, .any⟩]⟩,
   ⟨0x20, .rwb, 0x0, [⟨0, 32, .any⟩]⟩,
   ⟨0x24, .rwb, 0x2400, [⟨0, 14, .range 1518 9216⟩]⟩,
   ⟨0x28, .rwb, 0x0, [⟨0, 11, .any⟩]⟩,
   ⟨0x2C, .rwb, 0xA00, [⟨0, 1, .any⟩, ⟨8, 8, .range 1 255⟩]⟩,
   ⟨0x30, .ro, 0x0, []⟩,
   ⟨0x34, .rwb, 0xFA0001, [⟨0, 1, .any⟩, ⟨12, 20, .range 100 1000000⟩]⟩,
   ⟨0x38, .ro, 0x0, []⟩,
   ⟨0x3C, .w1c, 0x0, [⟨0, 5, .any⟩]⟩,
   ⟨0x80, .ro, 0x0, []⟩,
   ⟨0x84, .ro, 0x0, []⟩,
   ⟨0x88, .ro, 0x0, []⟩,
   ⟨0x8C, .ro, 0x0, []⟩,
   ⟨0x90, .ro, 0x0, []⟩,
   ⟨0x94, .ro, 0x0, []⟩,
   ⟨0x98, .ro, 0x0, []⟩,
   ⟨0x9C, .ro, 0x0, []⟩,
   ⟨0xA0, .ro, 0x0, []⟩,
   ⟨0xA4, .ro, 0x0, []⟩,
   ⟨0xA8, .ro, 0x0, []⟩,
   ⟨0xAC, .ro, 0x0, []⟩,
   ⟨0xB0, .ro, 0x0, []⟩,
   ⟨0xB4, .ro, 0x0, []⟩,
   ⟨0xB8, .ro, 0x0, []⟩,
   ⟨0xBC, .ro, 0x0, []⟩,
   ⟨0xC0, .ro, 0x0, []⟩,
   ⟨0xC4, .ro, 0x0, []⟩,
   ⟨0xC8, .ro, 0x0, []⟩,
   ⟨0xCC, .ro, 0x0, []⟩,
   ⟨0xD0, .ro, 0x0, []⟩,
   ⟨0xD4, .ro, 0x0, []⟩]

/-- Registers of the block at 0x3A00. -/
def Rows.stream : List Row :=
  [⟨0x0, .ro, 0x0, []⟩,
   ⟨0x4, .ro, 0x0, []⟩,
   ⟨0x8, .ro, 0x0, []⟩,
   ⟨0xC, .ro, 0x0, []⟩,
   ⟨0x10, .ro, 0x0, []⟩,
   ⟨0x14, .ro, 0x0, []⟩,
   ⟨0x18, .ro, 0x0, []⟩,
   ⟨0x1C, .ro, 0x0, []⟩,
   ⟨0x20, .ro, 0x0, []⟩,
   ⟨0x24, .w1c, 0x0, [⟨0, 4, .any⟩]⟩]

/-- Registers of the block at 0x4000. -/
def Rows.mailbox : List Row :=
  [⟨0x0, .rw, 0x0, [⟨0, 32, .any⟩]⟩,
   ⟨0x4, .rw, 0x0, [⟨0, 32, .any⟩]⟩,
   ⟨0x8, .rw, 0x0, [⟨0, 32, .any⟩]⟩,
   ⟨0xC, .rw, 0x0, [⟨0, 32, .any⟩]⟩,
   ⟨0x10, .rw, 0x0, [⟨0, 32, .any⟩]⟩,
   ⟨0x14, .rw, 0x0, [⟨0, 32, .any⟩]⟩,
   ⟨0x18, .rw, 0x0, [⟨0, 32, .any⟩]⟩,
   ⟨0x1C, .rw, 0x0, [⟨0, 32, .any⟩]⟩,
   ⟨0x20, .rw, 0x0, [⟨0, 32, .any⟩]⟩,
   ⟨0x24, .rw, 0x0, [⟨0, 32, .any⟩]⟩,
   ⟨0x28, .rw, 0x0, [⟨0, 32, .any⟩]⟩,
   ⟨0x2C, .rw, 0x0, [⟨0, 32, .any⟩]⟩,
   ⟨0x30, .rw, 0x0, [⟨0, 32, .any⟩]⟩,
   ⟨0x34, .rw, 0x0, [⟨0, 32, .any⟩]⟩,
   ⟨0x38, .rw, 0x0, [⟨0, 32, .any⟩]⟩,
   ⟨0x3C, .rw, 0x0, [⟨0, 32, .any⟩]⟩,
   ⟨0x40, .ro, 0x0, []⟩,
   ⟨0x44, .ro, 0x0, []⟩,
   ⟨0x48, .ro, 0x0, []⟩,
   ⟨0x4C, .ro, 0x0, []⟩,
   ⟨0x50, .ro, 0x0, []⟩,
   ⟨0x54, .ro, 0x0, []⟩,
   ⟨0x58, .ro, 0x0, []⟩,
   ⟨0x5C, .ro, 0x0, []⟩,
   ⟨0x60, .ro, 0x0, []⟩,
   ⟨0x64, .ro, 0x0, []⟩,
   ⟨0x68, .ro, 0x0, []⟩,
   ⟨0x6C, .ro, 0x0, []⟩,
   ⟨0x70, .ro, 0x0, []⟩,
   ⟨0x74, .ro, 0x0, []⟩,
   ⟨0x78, .ro, 0x0, []⟩,
   ⟨0x7C, .ro, 0x0, []⟩,
   ⟨0x80, .wo, 0x0, []⟩,
   ⟨0x84, .ro, 0x0, []⟩]

/-- Registers of the block at 0x4800. -/
def Rows.fifo : List Row :=
  [⟨0x0, .rwb, 0xA00, [⟨0, 2, .any⟩, ⟨8, 8, .range 1 255⟩]⟩,
   ⟨0x4, .ro, 0x0, []⟩,
   ⟨0x8, .ro, 0x0, []⟩,
   ⟨0xC, .ro, 0x0, []⟩,
   ⟨0x10, .wo, 0x0, []⟩,
   ⟨0x14, .wo, 0x0, []⟩,
   ⟨0x18, .wo, 0x0, []⟩,
   ⟨0x1C, .wo, 0x0, []⟩,
   ⟨0x20, .wo, 0x0, []⟩,
   ⟨0x24, .wo, 0x0, []⟩,
   ⟨0x28, .ro, 0x0, []⟩,
   ⟨0x2C, .ro, 0x0, []⟩,
   ⟨0x30, .ro, 0x0, []⟩,
   ⟨0x34, .w1c, 0x0, [⟨0, 2, .any⟩]⟩]

/-- Registers of the block at 0x5000. -/
def Rows.pair : List Row :=
  [⟨0x0, .ro, 0x0, []⟩,
   ⟨0x4, .ro, 0x300, []⟩,
   ⟨0x8, .rwb, 0x0, [⟨0, 32, .any⟩]⟩,
   ⟨0xC, .rwb, 0xF, [⟨0, 4, .any⟩]⟩,
   ⟨0x10, .ro, 0x0, []⟩,
   ⟨0x14, .ro, 0x0, []⟩,
   ⟨0x18, .ro, 0x0, []⟩,
   ⟨0x1C, .ro, 0x0, []⟩,
   ⟨0x20, .ro, 0x0, []⟩,
   ⟨0x24, .ro, 0x0, []⟩,
   ⟨0x28, .ro, 0x0, []⟩,
   ⟨0x2C, .ro, 0x0, []⟩,
   ⟨0x30, .ro, 0x0, []⟩,
   ⟨0x34, .ro, 0x0, []⟩,
   ⟨0x38, .ro, 0x0, []⟩,
   ⟨0x3C, .ro, 0x0, []⟩,
   ⟨0x40, .ro, 0x0, []⟩,
   ⟨0x44, .ro, 0x0, []⟩,
   ⟨0x48, .w1c, 0x0, [⟨0, 8, .any⟩]⟩,
   ⟨0x50, .rwb, 0x0, [⟨0, 32, .any⟩]⟩,
   ⟨0x54, .rwb, 0x0, [⟨0, 16, .any⟩]⟩,
   ⟨0x58, .rwb, 0x0, [⟨0, 32, .any⟩]⟩,
   ⟨0x5C, .rwb, 0x0, [⟨0, 16, .any⟩]⟩,
   ⟨0x60, .rwb, 0x0, [⟨0, 32, .any⟩]⟩,
   ⟨0x64, .rwb, 0x0, [⟨0, 16, .any⟩]⟩,
   ⟨0x68, .rwb, 0x0, [⟨0, 32, .any⟩]⟩,
   ⟨0x6C, .rwb, 0x0, [⟨0, 16, .any⟩]⟩]

/-- Registers of the block at 0x6000. -/
def Rows.meter : List Row :=
  [⟨0x0, .ro, 0x0, []⟩,
   ⟨0x4, .rwb, 0x7, [⟨0, 3, .any⟩, ⟨8, 8, .any⟩]⟩,
   ⟨0x8, .ro, 0x0, []⟩,
   ⟨0xC, .ro, 0x0, []⟩,
   ⟨0x10, .wo, 0x0, []⟩,
   ⟨0x14, .ro, 0x0, []⟩,
   ⟨0x18, .ro, 0x0, []⟩,
   ⟨0x1C, .ro, 0x0, []⟩,
   ⟨0x20, .ro, 0x0, []⟩,
   ⟨0x24, .ro, 0x0, []⟩,
   ⟨0x28, .w1c, 0x0, [⟨0, 7, .any⟩]⟩]

/-- Registers of the block at 0x6100. -/
def Rows.feed : List Row :=
  [⟨0x0, .ro, 0x0, []⟩,
   ⟨0x4, .ro, 0x0, []⟩,
   ⟨0x8, .ro, 0x0, []⟩,
   ⟨0xC, .ro, 0x0, []⟩,
   ⟨0x10, .ro, 0x0, []⟩,
   ⟨0x14, .ro, 0x0, []⟩,
   ⟨0x18, .ro, 0x0, []⟩,
   ⟨0x1C, .ro, 0x0, []⟩,
   ⟨0x20, .ro, 0x0, []⟩,
   ⟨0x24, .ro, 0x0, []⟩,
   ⟨0x28, .ro, 0x0, []⟩,
   ⟨0x2C, .ro, 0x0, []⟩,
   ⟨0x30, .ro, 0x0, []⟩,
   ⟨0x34, .ro, 0x0, []⟩,
   ⟨0x38, .ro, 0x0, []⟩,
   ⟨0x3C, .w1c, 0x0, [⟨0, 5, .any⟩]⟩]

/-- Registers of the block at 0x6400. -/
def Rows.pulse : List Row :=
  [⟨0x0, .ro, 0x0, []⟩,
   ⟨0x4, .ro, 0x14, []⟩,
   ⟨0x8, .ro, 0x0, []⟩,
   ⟨0xC, .ro, 0x0, []⟩,
   ⟨0x10, .ro, 0x0, []⟩,
   ⟨0x14, .ro, 0x0, []⟩,
   ⟨0x18, .ro, 0x0, []⟩,
   ⟨0x1C, .ro, 0x0, []⟩]

/-- Registers of the block at 0x7000. -/
def Rows.energyWin : List Row :=
  []

/-- Registers of the block at 0x8000. -/
def Rows.hostSnapWin : List Row :=
  []

/-- Registers of the block at 0x9000. -/
def Rows.calib : List Row :=
  [⟨0x0, .ro, 0x0, []⟩,
   ⟨0x4, .ro, 0xA01, []⟩,
   ⟨0x8, .ro, 0x0, []⟩,
   ⟨0xC, .ro, 0x0, []⟩,
   ⟨0x10, .w1c, 0x0, [⟨0, 3, .any⟩]⟩,
   ⟨0x20, .ro, 0x0, []⟩,
   ⟨0x24, .ro, 0x0, []⟩,
   ⟨0x28, .ro, 0x0, []⟩,
   ⟨0x2C, .ro, 0x0, []⟩,
   ⟨0x30, .ro, 0x0, []⟩,
   ⟨0x34, .ro, 0x0, []⟩,
   ⟨0x38, .ro, 0x0, []⟩,
   ⟨0x3C, .ro, 0x0, []⟩,
   ⟨0x40, .rwb, 0x0, [⟨0, 8, .any⟩]⟩,
   ⟨0x44, .rwb, 0x0, [⟨0, 8, .any⟩]⟩,
   ⟨0x48, .rwb, 0x0, [⟨0, 8, .any⟩]⟩,
   ⟨0x4C, .rwb, 0x0, [⟨0, 8, .any⟩]⟩,
   ⟨0x50, .rwb, 0x0, [⟨0, 8, .any⟩]⟩,
   ⟨0x54, .rwb, 0x0, [⟨0, 8, .any⟩]⟩,
   ⟨0x58, .rwb, 0x0, [⟨0, 8, .any⟩]⟩,
   ⟨0x5C, .rwb, 0x0, [⟨0, 8, .any⟩]⟩,
   ⟨0x80, .rwb, 0x200, [⟨0, 10, .any⟩]⟩,
   ⟨0x84, .rwb, 0x200, [⟨0, 10, .any⟩]⟩,
   ⟨0x88, .rwb, 0x200, [⟨0, 10, .any⟩]⟩,
   ⟨0x8C, .rwb, 0x200, [⟨0, 10, .any⟩]⟩,
   ⟨0x90, .rwb, 0x200, [⟨0, 10, .any⟩]⟩,
   ⟨0x94, .rwb, 0x200, [⟨0, 10, .any⟩]⟩,
   ⟨0x98, .rwb, 0x200, [⟨0, 10, .any⟩]⟩,
   ⟨0x9C, .rwb, 0x200, [⟨0, 10, .any⟩]⟩,
   ⟨0xA0, .rwb, 0x200, [⟨0, 10, .any⟩]⟩,
   ⟨0xA4, .rwb, 0x200, [⟨0, 10, .any⟩]⟩,
   ⟨0xA8, .rwb, 0x200, [⟨0, 10, .any⟩]⟩,
   ⟨0xAC, .rwb, 0x200, [⟨0, 10, .any⟩]⟩,
   ⟨0xB0, .rwb, 0x200, [⟨0, 10, .any⟩]⟩,
   ⟨0xB4, .rwb, 0x200, [⟨0, 10, .any⟩]⟩,
   ⟨0xB8, .rwb, 0x200, [⟨0, 10, .any⟩]⟩,
   ⟨0xBC, .rwb, 0x200, [⟨0, 10, .any⟩]⟩,
   ⟨0xC0, .rwb, 0x0, [⟨0, 2, .any⟩, ⟨4, 3, .any⟩]⟩,
   ⟨0xC4, .rwb, 0x0, [⟨0, 2, .any⟩, ⟨4, 3, .any⟩]⟩,
   ⟨0xC8, .rwb, 0x0, [⟨0, 2, .any⟩, ⟨4, 3, .any⟩]⟩] ++
  [⟨0xCC, .rwb, 0x0, [⟨0, 2, .any⟩, ⟨4, 3, .any⟩]⟩,
   ⟨0xD0, .rwb, 0x0, [⟨0, 2, .any⟩, ⟨4, 3, .any⟩]⟩,
   ⟨0xD4, .rwb, 0x0, [⟨0, 2, .any⟩, ⟨4, 3, .any⟩]⟩,
   ⟨0xD8, .rwb, 0x0, [⟨0, 2, .any⟩, ⟨4, 3, .any⟩]⟩,
   ⟨0xE0, .ro, 0x0, []⟩,
   ⟨0xE4, .ro, 0x0, []⟩,
   ⟨0xE8, .ro, 0x0, []⟩,
   ⟨0xEC, .ro, 0x0, []⟩,
   ⟨0xF0, .ro, 0x0, []⟩,
   ⟨0xF4, .ro, 0x0, []⟩,
   ⟨0xF8, .ro, 0x0, []⟩]

/-- Registers of the block at 0x9400. -/
def Rows.meterCal : List Row :=
  [⟨0x0, .rwb, 0x400000, [⟨0, 24, .range 2097152 8388608⟩]⟩,
   ⟨0x4, .rwb, 0x0, [⟨0, 32, .signed (-134217728) 134217728⟩]⟩,
   ⟨0x8, .rwb, 0x0, []⟩,
   ⟨0x10, .rwb, 0x400000, [⟨0, 24, .range 2097152 8388608⟩]⟩,
   ⟨0x14, .rwb, 0x0, [⟨0, 32, .signed (-134217728) 134217728⟩]⟩,
   ⟨0x18, .rwb, 0x0, [⟨0, 16, .signed (-5000) 5000⟩]⟩,
   ⟨0x20, .rwb, 0x400000, [⟨0, 24, .range 2097152 8388608⟩]⟩,
   ⟨0x24, .rwb, 0x0, [⟨0, 32, .signed (-134217728) 134217728⟩]⟩,
   ⟨0x28, .rwb, 0x0, [⟨0, 16, .signed (-5000) 5000⟩]⟩,
   ⟨0x30, .rwb, 0x400000, [⟨0, 24, .range 2097152 8388608⟩]⟩,
   ⟨0x34, .rwb, 0x0, [⟨0, 32, .signed (-134217728) 134217728⟩]⟩,
   ⟨0x38, .rwb, 0x0, [⟨0, 16, .signed (-5000) 5000⟩]⟩,
   ⟨0x40, .rwb, 0x400000, [⟨0, 24, .range 2097152 8388608⟩]⟩,
   ⟨0x44, .rwb, 0x0, [⟨0, 32, .signed (-134217728) 134217728⟩]⟩,
   ⟨0x48, .rwb, 0x0, [⟨0, 16, .signed (-5000) 5000⟩]⟩,
   ⟨0x50, .rwb, 0x400000, [⟨0, 24, .range 2097152 8388608⟩]⟩,
   ⟨0x54, .rwb, 0x0, [⟨0, 32, .signed (-134217728) 134217728⟩]⟩,
   ⟨0x58, .rwb, 0x0, [⟨0, 16, .signed (-5000) 5000⟩]⟩,
   ⟨0x60, .rwb, 0x400000, [⟨0, 24, .range 2097152 8388608⟩]⟩,
   ⟨0x64, .rwb, 0x0, [⟨0, 32, .signed (-134217728) 134217728⟩]⟩,
   ⟨0x68, .rwb, 0x0, [⟨0, 16, .signed (-5000) 5000⟩]⟩]

/-- Registers of the block at 0xA000. -/
def Rows.check : List Row :=
  [⟨0x0, .rw, 0x0, [⟨0, 6, .any⟩]⟩,
   ⟨0x4, .wo, 0x0, []⟩,
   ⟨0x8, .rw, 0x0, [⟨0, 32, .any⟩]⟩,
   ⟨0xC, .rw, 0x0, [⟨0, 32, .any⟩]⟩,
   ⟨0x10, .rw, 0x0, [⟨0, 32, .any⟩]⟩,
   ⟨0x14, .rw, 0x0, [⟨0, 32, .any⟩]⟩,
   ⟨0x18, .rw, 0x0, [⟨0, 32, .any⟩]⟩,
   ⟨0x1C, .rw, 0x0, [⟨0, 32, .any⟩]⟩,
   ⟨0x20, .wo, 0x0, []⟩,
   ⟨0x24, .wo, 0x0, []⟩,
   ⟨0x28, .ro, 0x0, []⟩,
   ⟨0x2C, .ro, 0x0, []⟩,
   ⟨0x30, .ro, 0x0, []⟩,
   ⟨0x34, .ro, 0x0, []⟩,
   ⟨0x38, .w1c, 0x0, [⟨0, 2, .any⟩]⟩]

/-- Registers of the block at 0xB000. -/
def Rows.ecc : List Row :=
  [⟨0x0, .ro, 0x0, []⟩,
   ⟨0x4, .ro, 0x0, []⟩,
   ⟨0x8, .ro, 0x0, []⟩,
   ⟨0xC, .ro, 0x0, []⟩,
   ⟨0x10, .ro, 0x0, []⟩,
   ⟨0x14, .ro, 0x0, []⟩,
   ⟨0x18, .ro, 0x15180, []⟩,
   ⟨0x1C, .ro, 0x0, []⟩,
   ⟨0x20, .ro, 0x0, []⟩,
   ⟨0x24, .w1c, 0x0, [⟨0, 1, .any⟩]⟩]

/-- Registers of the block at 0xC000. -/
def Rows.update : List Row :=
  [⟨0x0, .ro, 0x7, []⟩,
   ⟨0x4, .ro, 0x78, []⟩,
   ⟨0x8, .ro, 0x0, []⟩,
   ⟨0xC, .w1c, 0x0, [⟨0, 4, .any⟩]⟩]

/-- Registers of the block at 0xC040. -/
def Rows.updType : List Row :=
  [⟨0x0, .ro, 0x0, []⟩,
   ⟨0x4, .ro, 0x0, []⟩,
   ⟨0x8, .ro, 0x0, []⟩,
   ⟨0xC, .ro, 0x0, []⟩,
   ⟨0x10, .ro, 0x0, []⟩]

/-- Registers of the block at 0xC0E0. -/
def Rows.updRest : List Row :=
  []

/-- Registers of the block at 0xD000. -/
def Rows.power : List Row :=
  [⟨0x0, .ro, 0x1, []⟩,
   ⟨0x4, .w1c, 0x1, [⟨0, 6, .any⟩]⟩,
   ⟨0x8, .ro, 0x0, []⟩,
   ⟨0xC, .ro, 0x0, []⟩,
   ⟨0x10, .wo, 0x0, []⟩,
   ⟨0x14, .w1c, 0x0, [⟨0, 6, .any⟩]⟩,
   ⟨0x18, .wo, 0x0, []⟩,
   ⟨0x1C, .ro, 0x0, []⟩,
   ⟨0x20, .ro, 0x0, []⟩,
   ⟨0x24, .ro, 0x0, []⟩,
   ⟨0x28, .ro, 0x0, []⟩,
   ⟨0x2C, .ro, 0x0, []⟩]

/-- Registers of the block at 0xE000. -/
def Rows.route : List Row :=
  [⟨0x0, .ro, 0x0, []⟩]

/-- Registers of the block at 0xE400. -/
def Rows.events : List Row :=
  [⟨0x0, .ro, 0x0, []⟩,
   ⟨0x4, .ro, 0x0, []⟩,
   ⟨0x8, .ro, 0x0, []⟩,
   ⟨0xC, .ro, 0x0, []⟩,
   ⟨0x10, .ro, 0x0, []⟩,
   ⟨0x14, .wo, 0x0, []⟩]

/-- Registers of the block at 0xF000. -/
def Rows.popPage : List Row :=
  []

/-- Registers of the block at 0x70000. -/
def Rows.profile : List Row :=
  [⟨0x0, .ro, 0x0, []⟩,
   ⟨0x4, .ro, 0x0, []⟩]

/-- Registers of the block at 0x80000. -/
def Rows.thermalWin : List Row :=
  []

/-- Registers of the block at 0xC0000. -/
def Rows.taskWin : List Row :=
  []

/-- Registers of the block at 0x100000. -/
def Rows.ring : List Row :=
  [⟨0x0, .rw, 0x40, [⟨0, 4, .any⟩, ⟨4, 5, .range 4 16⟩, ⟨9, 10, .any⟩]⟩,
   ⟨0x4, .rw, 0x0, [⟨6, 26, .any⟩]⟩,
   ⟨0x8, .rw, 0x0, [⟨0, 32, .any⟩]⟩,
   ⟨0xC, .rw, 0x0, [⟨6, 26, .any⟩]⟩,
   ⟨0x10, .rw, 0x0, [⟨0, 32, .any⟩]⟩,
   ⟨0x14, .rw, 0x0, [⟨0, 32, .any⟩]⟩,
   ⟨0x18, .rw, 0x0, [⟨0, 32, .any⟩]⟩,
   ⟨0x1C, .wo, 0x0, []⟩,
   ⟨0x20, .ro, 0x0, []⟩,
   ⟨0x24, .ro, 0x0, []⟩,
   ⟨0x28, .w1c, 0x0, [⟨0, 3, .any⟩]⟩]

/-- Registers of the block at 0x200000. -/
def Rows.msixTable : List Row :=
  [⟨0x0, .rw, 0x0, [⟨2, 30, .any⟩]⟩,
   ⟨0x4, .rw, 0x0, [⟨0, 32, .any⟩]⟩,
   ⟨0x8, .rw, 0x0, [⟨0, 32, .any⟩]⟩,
   ⟨0xC, .rw, 0x1, [⟨0, 1, .any⟩]⟩]

/-- Registers of the block at 0x201000. -/
def Rows.msixPba : List Row :=
  []

/-- Registers of the block at 0x400000. -/
def Rows.univWin : List Row :=
  []

/-- Registers of the block at 0x800000. -/
def Rows.telemWin : List Row :=
  []

/-- Registers of the block at 0x1000000. -/
def Rows.ringWin : List Row :=
  []

/-- The blocks of R465. -/
def blocks : List Block :=
  [⟨0x0, 0x200, 1, 0, Rows.global⟩,
   ⟨0x200, 0x100, 1, 2, Rows.bridge⟩,
   ⟨0x300, 0x100, 1, 2, Rows.legacy⟩,
   ⟨0x400, 0x100, 1, 0, Rows.crossing⟩,
   ⟨0x800, 0x40, 1, 0, Rows.tbGlobal⟩,
   ⟨0x840, 0x40, 4, 0, Rows.timeBase⟩,
   ⟨0xA00, 0x40, 2, 8, Rows.tsu01⟩,
   ⟨0xA80, 0x40, 2, 9, Rows.tsu23⟩,
   ⟨0xB00, 0x40, 1, 1, Rows.tsu4⟩,
   ⟨0xB40, 0xC0, 1, 0, Rows.timecode⟩,
   ⟨0x1000, 0x100, 1, 5, Rows.comp⟩,
   ⟨0x1100, 0x20, 8, 5, Rows.lane⟩,
   ⟨0x1200, 0x100, 1, 6, Rows.map⟩,
   ⟨0x1400, 0x80, 1, 6, Rows.model⟩,
   ⟨0x1480, 0x10, 8, 6, Rows.limiter⟩,
   ⟨0x1600, 0x100, 1, 6, Rows.sched⟩,
   ⟨0x1800, 0x100, 1, 6, Rows.inMerge⟩,
   ⟨0x1A00, 0x100, 1, 7, Rows.packer⟩,
   ⟨0x1B00, 0x40, 4, 7, Rows.packerPort⟩,
   ⟨0x2100, 0x40, 16, 11, Rows.dmx⟩,
   ⟨0x2500, 0x40, 32, 11, Rows.pix⟩,
   ⟨0x2D00, 0x40, 16, 11, Rows.house⟩,
   ⟨0x3300, 0x100, 1, 1, Rows.netGlobal⟩,
   ⟨0x3400, 0x100, 5, 1, Rows.netPort⟩,
   ⟨0x3A00, 0x40, 16, 5, Rows.stream⟩,
   ⟨0x4000, 0x100, 8, 2, Rows.mailbox⟩] ++
  [⟨0x4800, 0x40, 8, 2, Rows.fifo⟩,
   ⟨0x5000, 0x100, 1, 0, Rows.pair⟩,
   ⟨0x6000, 0x100, 1, 0, Rows.meter⟩,
   ⟨0x6100, 0x40, 8, 0, Rows.feed⟩,
   ⟨0x6400, 0x20, 8, 0, Rows.pulse⟩,
   ⟨0x7000, 0x1000, 1, 0, Rows.energyWin⟩,
   ⟨0x8000, 0x1000, 1, 0, Rows.hostSnapWin⟩,
   ⟨0x9000, 0x100, 1, 0, Rows.calib⟩,
   ⟨0x9400, 0x80, 8, 0, Rows.meterCal⟩,
   ⟨0xA000, 0x40, 16, 1, Rows.check⟩,
   ⟨0xB000, 0x40, 2, 1, Rows.ecc⟩,
   ⟨0xC000, 0x40, 1, 0, Rows.update⟩,
   ⟨0xC040, 0x20, 5, 0, Rows.updType⟩,
   ⟨0xC0E0, 0x20, 1, 0, Rows.updRest⟩,
   ⟨0xD000, 0x100, 1, 0, Rows.power⟩,
   ⟨0xE000, 0x4, 256, 2, Rows.route⟩,
   ⟨0xE400, 0x100, 1, 2, Rows.events⟩,
   ⟨0xF000, 0x1000, 1, 2, Rows.popPage⟩,
   ⟨0x70000, 0x8, 4096, 6, Rows.profile⟩,
   ⟨0x80000, 0x40000, 1, 6, Rows.thermalWin⟩,
   ⟨0xC0000, 0x8000, 1, 6, Rows.taskWin⟩,
   ⟨0x100000, 0x40, 256, 2, Rows.ring⟩,
   ⟨0x200000, 0x10, 256, 2, Rows.msixTable⟩,
   ⟨0x201000, 0x20, 1, 2, Rows.msixPba⟩,
   ⟨0x400000, 0x60000, 1, 7, Rows.univWin⟩,
   ⟨0x800000, 0x40000, 1, 3, Rows.telemWin⟩,
   ⟨0x1000000, 0x1000000, 1, 3, Rows.ringWin⟩]

end Sys2Proof.Machine
end

