-- ==== Sys2Proof/Machine/Ops.lean ====
section
/-! DEFINITION. The named operations over the part's registers and its numbered collections: reading, merging, clamping
and counting registers, the clock and the time bases, free values, events with their rings and messages, and responses. -/

namespace Sys2Proof.Machine

open Sys2Proof

/-- The meaning of a command that acts on the part alone. -/
def onChip (f : List Host.Cell → Chip → Chip) (s : State) : Host.Outcome State Fault Refusal :=
  .next { s with chip := f s.dram s.chip }

/-- The meaning of a command that acts on the part and on LPDDR5X. -/
def onBoth (f : List Host.Cell → Chip → List Host.Cell × Chip) (s : State) : Host.Outcome State Fault Refusal :=
  let r := f s.dram s.chip
  .next { s with dram := r.1, chip := r.2 }

/-- A meaning for operands that name a resource of the part; others name nothing that exists (R5, R10). -/
def within (ok : Bool) (r : Host.Outcome State Fault Refusal) : Host.Outcome State Fault Refusal :=
  if ok then r else .fault .outsideConditions

/-! ### The register file -/

/-- The block whose instance holds an offset, and the instance. -/
def blockAt (off : Nat) : Option (Block × Nat) :=
  (blocks.find? fun b => b.base ≤ off && off < b.base + b.stride * b.count).map fun b => (b, (off - b.base) / b.stride)

/-- The register at an offset, if its block lists one. -/
def rowAt (off : Nat) : Option Row :=
  match blockAt off with
  | none => none
  | some (b, _) => b.rows.find? fun r => r.off == (off - b.base) % b.stride

/-- The reset value of the register at an offset: its table's, but for those whose value depends on the instance. -/
def regReset (off : Nat) : Word :=
  if 0xE000 ≤ off && off < 0xE400 then BitVec.ofNat 32 ((off - 0xE000) / 4 * 0x100)
  else if off = Reg.TF_CFG 0 then 0xA01 else if off = Reg.TF_CFG 1 then 0xA02 else if off = Reg.TF_CFG 2 then 0xA03
  else if off = Reg.NET_PAUSE_WD 4 then 0
  else if off = Reg.NET_EEE 4 then 0
  else if off = Reg.ECC_SCRUB_PASS_S 1 then 0xE10
  else BitVec.ofNat 32 (((rowAt off).map Row.reset).getD 0)

/-- The value of a register (of an RWB register, its pending value). -/
def Chip.rd (c : Chip) (off : Nat) : Nat := (Store.get regReset c.regs off).toNat

/-- The part with a register's value replaced. -/
def Chip.wr (c : Chip) (off v : Nat) : Chip := { c with regs := Store.set regReset c.regs off (BitVec.ofNat 32 v) }

/-- The live value of an RWB register. -/
def Chip.lv (c : Chip) (off : Nat) : Nat := (Store.get regReset c.live off).toNat

/-- The part with an RWB register's live value replaced. -/
def Chip.wrLive (c : Chip) (off v : Nat) : Chip := { c with live := Store.set regReset c.live off (BitVec.ofNat 32 v) }

/-- A saturating count of `n` more. -/
def Chip.add (c : Chip) (off n : Nat) : Chip := c.wr off (sat32 (c.rd off + n))

/-- A saturating count of one more. -/
def Chip.inc (c : Chip) (off : Nat) : Chip := c.add off 1

/-- A wrapping count of one more. -/
def Chip.incWrap (c : Chip) (off : Nat) : Chip := c.wr off ((c.rd off + 1) % 2 ^ 32)

/-- Bits set in a W1C register. -/
def Chip.setEvt (c : Chip) (off mask : Nat) : Chip := c.wr off (c.rd off ||| mask)

/-- Bits cleared in a W1C register by writing them as 1. -/
def Chip.clearEvt (c : Chip) (off mask : Nat) : Chip := c.wr off (c.rd off - (c.rd off &&& mask))

/-- One field held to its legal values (R455). -/
def clampField (f : Field) (v : Nat) : Nat :=
  let x := bits v f.lo f.width
  match f.legal with
  | .any => x <<< f.lo
  | .range lo hi => clampN lo hi x <<< f.lo
  | .signed lo hi => twos f.width (clampI lo hi (sext f.width x)) <<< f.lo

/-- The fields whose legal values depend on another field or on the instance: NETp_MODE.FEC (R254), NETp_PAUSE_WD and
NETp_EEE of port 4 (R234, R253), TBn_CFG.TRANSPORT (R80), PIXp_LEN in mode 0 (R218), LOC of a ring (R267). -/
def clampSpecial (c : Chip) (off v : Nat) : Nat :=
  if 0x3400 ≤ off && off < 0x3900 then
    let p := (off - 0x3400) / 0x100
    if off = Reg.NET_MODE p then
      (if p = 4 then setBits v 2 2 0 else if bits v 0 2 = 1 && bits v 2 2 = 2 then setBits v 2 2 1 else v)
    else if p = 4 && (off = Reg.NET_PAUSE_WD 4 || off = Reg.NET_EEE 4) then 0 else v
  else if 0x840 ≤ off && off < 0x940 && (off - 0x840) % 0x40 = 0x10 then
    (if bits v 26 2 = 2 && bits v 4 2 ≠ 0 then setBits v 26 2 0 else v)
  else if 0x2500 ≤ off && off < 0x2D00 && (off - 0x2500) % 0x40 = 4 then
    (if bit (c.rd (off - 4)) 1 then v else setBits v 0 16 (min (bits v 0 16) 2040))
  else if 0x100000 ≤ off && off < 0x104000 && (off - 0x100000) % 0x40 = 0 then
    (match bits v 1 2 with | 0 => setBit v 3 false | 2 => setBit v 3 false | 3 => setBit v 3 true | _ => v)
  else v

/-- A value as a register takes it: reserved bits 0, every field at its nearest legal value (R8, R455). -/
def clampReg (c : Chip) (off v : Nat) : Nat :=
  match rowAt off with
  | none => 0
  | some r => clampSpecial c off ((r.fields.map fun f => clampField f v).foldl (· + ·) 0)

/-- The octets of a word whose byte enables are set, as a mask. -/
def enableMask (be : Nat) : Nat := (List.range 4).foldl (fun m i => if bit be i then m + (0xFF <<< (8 * i)) else m) 0

/-- Enabled octets of `v` over the others of `old` (R463). -/
def mergeBytes (old v be : Nat) : Nat := (v &&& enableMask be) ||| (old - (old &&& enableMask be))

/-- The bits of `v` named by a mask over the others of `old`. -/
def mergeMask (old mask v : Nat) : Nat := (v &&& mask) ||| (old - (old &&& mask))

/-- Whether a power domain, by its place in R23, is on. -/
def Chip.domainOn (c : Chip) (d : Nat) : Bool := c.power.on.getD d false

/-! ### The numbered collections -/

def Chip.ring (c : Chip) (r : Nat) : Ring := Store.get (fun _ => Ring.reset) c.rings r
def Chip.setRing (c : Chip) (r : Nat) (x : Ring) : Chip := { c with rings := Store.set (fun _ => Ring.reset) c.rings r x }
def Chip.mbox (c : Chip) (m : Nat) : Mailbox := Store.get (fun _ => Mailbox.reset) c.mboxes m
def Chip.setMbox (c : Chip) (m : Nat) (x : Mailbox) : Chip :=
  { c with mboxes := Store.set (fun _ => Mailbox.reset) c.mboxes m x }
def Chip.fifo (c : Chip) (f : Nat) : Fifo := Store.get (fun _ => Fifo.reset) c.fifos f
def Chip.setFifo (c : Chip) (f : Nat) (x : Fifo) : Chip := { c with fifos := Store.set (fun _ => Fifo.reset) c.fifos f x }
def Chip.task (c : Chip) (t : Nat) : Task := Store.get (fun _ => Task.reset) c.tasks t
def Chip.setTask (c : Chip) (t : Nat) (x : Task) : Chip := { c with tasks := Store.set (fun _ => Task.reset) c.tasks t x }
def Chip.univ (c : Chip) (u : Nat) : UnivState := Store.get (fun _ => UnivState.reset) c.univs u
def Chip.setUniv (c : Chip) (u : Nat) (x : UnivState) : Chip :=
  { c with univs := Store.set (fun _ => UnivState.reset) c.univs u x }
def Chip.dmxPort (c : Chip) (n : Nat) : DmxPort := Store.get (fun _ => DmxPort.reset) c.dmx n
def Chip.setDmx (c : Chip) (n : Nat) (x : DmxPort) : Chip := { c with dmx := Store.set (fun _ => DmxPort.reset) c.dmx n x }
def Chip.pixPort (c : Chip) (p : Nat) : PixPort := Store.get (fun _ => PixPort.reset) c.pix p
def Chip.setPix (c : Chip) (p : Nat) (x : PixPort) : Chip := { c with pix := Store.set (fun _ => PixPort.reset) c.pix p x }
def Chip.hc (c : Chip) (n : Nat) : House := Store.get (fun _ => House.reset) c.house n
def Chip.setHc (c : Chip) (n : Nat) (x : House) : Chip := { c with house := Store.set (fun _ => House.reset) c.house n x }
def Chip.port (c : Chip) (p : Nat) : NetPort := Store.get (fun _ => NetPort.reset) c.ports p
def Chip.setPort (c : Chip) (p : Nat) (x : NetPort) : Chip :=
  { c with ports := Store.set (fun _ => NetPort.reset) c.ports p x }
def Chip.stream (c : Chip) (s : Nat) : Stream := Store.get (fun _ => Stream.reset) c.streams s
def Chip.setStream (c : Chip) (s : Nat) (x : Stream) : Chip :=
  { c with streams := Store.set (fun _ => Stream.reset) c.streams s x }
def Chip.feed (c : Chip) (f : Nat) : Feed := Store.get (fun _ => Feed.reset) c.feeds f
def Chip.setFeed (c : Chip) (f : Nat) (x : Feed) : Chip := { c with feeds := Store.set (fun _ => Feed.reset) c.feeds f x }
def Chip.energyOf (c : Chip) (k : Nat) : Energy := Store.get (fun _ => Energy.reset) c.energy k
def Chip.setEnergy (c : Chip) (k : Nat) (x : Energy) : Chip :=
  { c with energy := Store.set (fun _ => Energy.reset) c.energy k x }
def Chip.pulse (c : Chip) (n : Nat) : Pulse := Store.get (fun _ => Pulse.reset) c.pulseOuts n
def Chip.setPulse (c : Chip) (n : Nat) (x : Pulse) : Chip :=
  { c with pulseOuts := Store.set (fun _ => Pulse.reset) c.pulseOuts n x }
def Chip.check (c : Chip) (x : Nat) : CheckUnit := Store.get (fun _ => CheckUnit.reset) c.checks x
def Chip.setCheck (c : Chip) (x : Nat) (u : CheckUnit) : Chip :=
  { c with checks := Store.set (fun _ => CheckUnit.reset) c.checks x u }
def Chip.tb (c : Chip) (n : Nat) : TimeBase := c.tbs.getD n TimeBase.reset
def Chip.setTb (c : Chip) (n : Nat) (t : TimeBase) : Chip := { c with tbs := c.tbs.set n t }

/-- The octet at a key of a store of octets. -/
def octetAt (m : Sparse Byte) (k : Nat) : Byte := Store.get (fun _ => 0) m k
/-- The number at a key of a store of numbers. -/
def natAt (m : Sparse Nat) (k : Nat) : Nat := Store.get (fun _ => 0) m k
/-- The store of numbers with one replaced. -/
def setNat (m : Sparse Nat) (k v : Nat) : Sparse Nat := Store.set (fun _ => 0) m k v

/-- The live record of a table (R304), the table named by the low octet of its commit opcode (R306). -/
def Chip.recAt (c : Chip) (table i : Nat) : Nat := natAt c.tables (table * 2 ^ 32 + i)
/-- The part with one live record replaced. -/
def Chip.setRec (c : Chip) (table i v : Nat) : Chip := { c with tables := setNat c.tables (table * 2 ^ 32 + i) v }
/-- The records of a table that are not all zero, with their indices. -/
def Chip.recsOf (c : Chip) (table : Nat) : List (Nat × Nat) :=
  (Store.range c.tables (table * 2 ^ 32) ((table + 1) * 2 ^ 32)).map fun e => (e.1 - table * 2 ^ 32, e.2)

/-- A counter of a network port, by the offset of its register in the port's block. -/
def Chip.cntOf (c : Chip) (p off : Nat) : Nat := natAt c.cnt (p * 0x100 + off)
/-- `n` more on a counter of a network port: 64-bit and wrapping below offset 0xA0, 32-bit and saturating above (R253);
TX_PAUSED_US is counted in cycles. -/
def Chip.cntAdd (c : Chip) (p off n : Nat) : Chip :=
  let v := c.cntOf p off + n
  { c with cnt := setNat c.cnt (p * 0x100 + off) (if off < 0xA0 then v % 2 ^ 64 else if off = 0xCC then v else sat32 v) }

/-- The domain of a port: PD_NET01, PD_NET23, or PD_CTRL for the management port (R234). -/
def portDomain (p : Nat) : Nat := if p < 2 then 8 else if p < 4 then 9 else 1

/-- Whether a port's link is up and its domain on. -/
def Chip.portUp (c : Chip) (p : Nat) : Bool := (c.port p).link && c.domainOn (portDomain p)

/-! ### Free values -/

/-- A free value, of which nothing is known (log entry 2). -/
def Chip.free (c : Chip) : Nat := (Config.freeWord c.freeCtr).toNat
/-- The part after it has drawn a free value. -/
def Chip.drew (c : Chip) : Chip := { c with freeCtr := c.freeCtr + 1 }

/-! ### Time -/

/-- Units of a time base in one nanosecond: 2¹² × 10⁹. -/
def nsUnits : Nat := 4096 * 1000000000

/-- What a time base at a rate gains in one 800 MHz cycle: 1.25 ns × (1 + a), a in 2⁻¹⁰ ppb (R56). -/
def gainAt (rate : Int) : Nat := (5 * (1024 * 1000000000 + rate)).toNat

/-- What a time base gains in one 800 MHz cycle. -/
def TimeBase.perCycle (t : TimeBase) : Nat := gainAt t.rate

/-- Where the 48-bit seconds of a counter wrap (R55). -/
def timeSpan : Nat := 2 ^ 48 * 1000000000 * nsUnits

/-- A time base after `n` cycles. -/
def TimeBase.advance (n : Nat) (t : TimeBase) : TimeBase := { t with time := (t.time + n * t.perCycle) % timeSpan }

/-- A time base about to step or to change its rate at a cycle, with what it has read so far noted for a fifth of a second,
longer than any timecode frame, and since its delay request left. -/
def TimeBase.noted (t : TimeBase) (cycle : Nat) : TimeBase :=
  let asked (e : Nat) : Bool := match t.ptp.txDelay with | some (_, k, _) => decide (k < e) | none => false
  { t with past := (cycle, t.time, t.rate) :: t.past.filter fun e => cycle ≤ e.1 + 160000000 || asked e.1 }

/-- The reading at cycle `k` of a time base that reads `time` at a later cycle and has run at `rate` since the newest entry of
its past. -/
def readAt (k cycle time : Nat) (rate : Int) : List (Nat × Nat × Int) → Nat
  | [] => (((time : Int) - ((cycle - k) * gainAt rate : Nat)) % (timeSpan : Int)).toNat
  | e :: l => if k < e.1 then readAt k e.1 e.2.1 e.2.2 l
      else (((time : Int) - ((cycle - k) * gainAt rate : Nat)) % (timeSpan : Int)).toNat

/-- What a time base read `back` cycles ago, through its steps and changes of rate since then (R73). -/
def TimeBase.readBack (t : TimeBase) (cycle back : Nat) : Nat := readAt (cycle - back) cycle t.time t.rate t.past

/-- Whole nanoseconds of a time base. -/
def TimeBase.ns (t : TimeBase) : Nat := t.time / nsUnits

/-- The part after `n` 800 MHz cycles in which nothing else happens. -/
def Chip.ticks (n : Nat) (c : Chip) : Chip := { c with cycle := c.cycle + n, tbs := c.tbs.map (TimeBase.advance n) }

/-- Cycles until a time base reads an instant in whole nanoseconds, 0 if it has passed. -/
def TimeBase.cyclesTo (t : TimeBase) (ns : Nat) : Nat := ceilDiv (ns * nsUnits - t.time) t.perCycle

/-- The bound time base (R28). -/
def Chip.bound (c : Chip) : TimeBase := c.tb c.fg.tb

/-- The instant on the bound time base, in nanoseconds. -/
def Chip.now (c : Chip) : Nat := c.bound.ns

/-- The clock run on to an instant of the bound time base, if it lies ahead. -/
def Chip.runTo (c : Chip) (ns : Nat) : Chip := c.ticks (c.bound.cyclesTo ns)

/-- The clock run on to an 800 MHz cycle, if it lies ahead. -/
def Chip.runToCycle (c : Chip) (n : Nat) : Chip := c.ticks (n - c.cycle)

/-- The period D/N in nanoseconds. -/
def FrameGen.period (g : FrameGen) : Rat := (g.rateD : Rat) * 1000000000 / g.rateN

/-- The instant of crossing `i` from the origin, whole nanoseconds (R25, R26). -/
def FrameGen.instant (g : FrameGen) (i : Nat) : Nat := g.origin + i * g.rateD * 1000000000 / g.rateN

/-- The index of the first grid instant at or after `t`. -/
def FrameGen.indexFrom (g : FrameGen) (t : Nat) : Nat :=
  if t ≤ g.origin then 0
  else
    let i := ceilDiv ((t - g.origin) * g.rateN) (g.rateD * 1000000000)
    if 0 < i && t ≤ g.instant (i - 1) then i - 1 else if g.instant i < t then i + 1 else i

/-- Microseconds in cycles of 800 MHz. -/
def usCycles (us : Nat) : Nat := us * 800

/-- An instant block (R295): nanoseconds, seconds and the time base. -/
def instantBlock (ns tb : Nat) : List Byte :=
  leBytes 4 (ns % 1000000000) ++ leBytes 4 (ns / 1000000000) ++ leBytes 4 (ns / 1000000000 / 2 ^ 32 % 65536 + tb * 65536)

/-- A time-base instant as an event item (R274). -/
def itInstant (ns : Nat) : List Byte := leBytes 4 (ns % 1000000000) ++ leBytes 4 (ns / 1000000000)

/-- A 4-octet event item. -/
def it4 (v : Nat) : List Byte := leBytes 4 v
/-- An 8-octet event item: a CSN, an address, a 64-bit count. -/
def it8 (v : Nat) : List Byte := leBytes 8 v
/-- A signed 4-octet event item. -/
def itI4 (v : Int) : List Byte := leBytes 4 (twos 32 v)
/-- A signed 8-octet event item. -/
def itI8 (v : Int) : List Byte := leBytes 8 (twos 64 v)

/-! ### Stored words and their codes (R394, R396) -/

/-- The error control of memory `m`: 0 LPDDR5X, 1 Lagoon. -/
def Chip.ecc (c : Chip) (m : Nat) : Ecc := if m = 0 then c.eccDram else c.eccLagoon
def Chip.setEcc (c : Chip) (m : Nat) (e : Ecc) : Chip := if m = 0 then { c with eccDram := e } else { c with eccLagoon := e }

/-- The stored bits of the word at an address that differ from its code. -/
def Ecc.at (e : Ecc) (w : Nat) : BitVec 64 := Store.get (fun _ => 0) e.flips w
/-- The stored difference of one word replaced. -/
def Ecc.put (e : Ecc) (w : Nat) (m : BitVec 64) : Ecc := { e with flips := Store.set (fun _ => 0) e.flips w m }

/-- The words with errors that a range of a memory meets. -/
def Ecc.within (e : Ecc) (a n : Nat) : List Nat :=
  (e.flips.filter fun x => x.1 < a + n && a < x.1 + 8).map (·.1)

/-- Whole words of a memory written: what differed from the code there is gone (R396). -/
def Chip.rewritten (c : Chip) (m a n : Nat) : Chip :=
  (((c.ecc m).within a n).filter fun w => a ≤ w && w + 8 ≤ a + n).foldl (fun c w => c.setEcc m ((c.ecc m).put w 0)) c

/-! ### Messages, rings and events -/

/-- Something that leaves the part. -/
def Chip.emit (c : Chip) (o : Out) : Chip := { c with out := o :: c.out }

/-- What drives a ball of the boundary register: it does not reach the ball while EXTEST, CLAMP or HIGHZ has it (R447). -/
def Chip.toBall (c : Chip) (o : Out) : Chip := if c.power.pins then c else c.emit o

/-- ISLE_ACTIVE driven to a level (R322): told where it changes. -/
def Chip.driveIsle (c : Chip) (high : Bool) : Chip :=
  if c.pair.pin == high then c
  else ({ c with pair := { c.pair with pin := high } } : Chip).toBall (.isleActive high)

/-- An MSI-X message: sent, or held in the pending-bit array while its vector is masked (R275). -/
def Chip.msix (c : Chip) (v : Nat) : Chip :=
  if bit (c.rd (Reg.MSIX_CTRL v)) 0 then
    (if c.msixPend.contains v then c else { c with msixPend := v :: c.msixPend })
  else c.emit (.msix v (c.rd (Reg.MSIX_ADDR_LO v) + c.rd (Reg.MSIX_ADDR_HI v) * 2 ^ 32) (c.rd (Reg.MSIX_DATA v)))

/-- The number of slots of a ring (R267). -/
def Chip.ringSize (c : Chip) (r : Nat) : Nat := 2 ^ bits (c.rd (Reg.RING_CFG r)) 4 5

/-- The base of a ring: a window offset for LOC 0, a host address for LOC 1. -/
def Chip.ringBase (c : Chip) (r : Nat) : Nat := c.rd (Reg.RING_BASE_LO r) + c.rd (Reg.RING_BASE_HI r) * 2 ^ 32

/-- GEN of entry `i` of a ring (R269). -/
def Chip.genOf (c : Chip) (r i : Nat) : Bool := i / c.ringSize r % 2 == 0

/-- Entries between CONS and PROD. -/
def Ring.unread (g : Ring) : Nat := (g.prod + 2 ^ 32 - g.cons) % 2 ^ 32

/-- Whether a ring is an enabled event ring. -/
def Chip.isEventRing (c : Chip) (r : Nat) : Bool :=
  bit (c.rd (Reg.RING_CFG r)) 0 && bits (c.rd (Reg.RING_CFG r)) 1 2 == 1 && c.domainOn 2

/-- Where the ring window begins in Lagoon, in the order of R15 (DESIGN CHOICE, log entry 46). -/
def lagoonRings : Nat := 44708 * 1024

/-- An entry of 64 octets stored at entry `i` of a ring the part produces, with its GEN (R269). -/
def Chip.storeEntry (c : Chip) (r i entry : Nat) : Chip :=
  let v := setBits entry (8 * 63) 8 ((c.genOf r i).toNat * 128)
  let at_ := c.ringBase r + i % c.ringSize r * 64
  if bit (c.rd (Reg.RING_CFG r)) 3 then c.emit (.hostWrite at_ (leBytes 64 v))
  else { c.rewritten 1 (lagoonRings + at_) 64 with ringMem := setNat c.ringMem (at_ / 64) v }

/-- The octets of an event entry (R273), but for GEN. -/
def Chip.eventEntry (c : Chip) (code src flags seq : Nat) (items : List Byte) : Nat :=
  let t := c.now
  ofLE (leBytes 2 code ++ leBytes 1 src ++ leBytes 1 flags ++ leBytes 4 seq ++ leBytes 8 c.csn ++
    instantBlock t c.fg.tb ++ leBytes 4 0 ++ padTo 28 items)

/-- One entry written on an event ring, whole, before its message (R272, R275). -/
def Chip.writeEvent (c : Chip) (r code src flags : Nat) (items : List Byte) : Chip :=
  let g := c.ring r
  let c := c.storeEntry r g.prod (c.eventEntry code src flags ((g.seq + 1) % 2 ^ 32) items)
  c.setRing r { g with prod := (g.prod + 1) % 2 ^ 32, seq := (g.seq + 1) % 2 ^ 32 }

/-- An entry posted on a ring, with the overflow of R272 and the count of R452. -/
def Chip.post (c : Chip) (r vec code src : Nat) (items : List Byte) : Chip :=
  if !c.isEventRing r then c.inc Reg.EVT_UNROUTED_CNT
  else if (c.ring r).unread < c.ringSize r - 1 then (c.writeEvent r code src 0 items).msix vec
  else if (c.ring r).full then c.inc (Reg.RING_DROP_CNT r)
  else
    let c := c.writeEvent r code src 1 []
    ((c.setRing r { c.ring r with full := true }).setEvt (Reg.RING_EVT r) 1).msix vec

/-- An event posted on the ring and the vector of its source's route unless the route is masked (R452); source 0 cannot be masked.
A response goes to the ring that its command ring names (R279). -/
def Chip.postEvent (c : Chip) (e : Raised) : Chip :=
  let route := c.rd (Reg.EVT_ROUTE e.source)
  match e.reply with
  | some r => c.post (bits (c.rd (Reg.RING_CFG r)) 11 8) (bits route 8 8) e.code e.source e.items
  | none =>
    if !c.domainOn 2 || bit route 24 && e.source != 0 then c
    else c.post (bits route 16 8) (bits route 8 8) e.code e.source e.items

/-- An entry posted at once, or gathered with the others of its cycle (R453). -/
def Chip.gatherPost (c : Chip) (e : Raised) : Chip :=
  match c.batch with
  | none => c.postEvent e
  | some l => { c with batch := some (l ++ [e]) }

/-- An event raised. -/
def Chip.raise (c : Chip) (src code : Nat) (items : List Byte) : Chip := c.gatherPost ⟨src, code, items, none⟩

/-- The order of events of one cycle (R453). -/
def Raised.before (a b : Raised) : Bool := a.source < b.source || a.source == b.source && a.code ≤ b.code

/-- The events gathered in a cycle posted, in their order. -/
def Chip.postBatch (c : Chip) : Chip :=
  ((c.batch.getD []).insertionSort fun a b => a.before b).foldl Chip.postEvent { c with batch := none }

/-- What happens in one cycle, its events posted in ascending order of source and code (R453). -/
def Chip.inCycle (c : Chip) (f : Chip → Chip) : Chip :=
  match c.batch with
  | some _ => f c
  | none => (f { c with batch := some [] }).postBatch

/-! ### Responses -/

/-- What a command is answered with (R297). -/
structure Answer where
  status : Nat
  detail : Nat
  csn    : Nat
  result : List Byte
  deriving DecidableEq, Repr

/-- CHANNEL of R292. -/
def Chan.number : Chan → Nat
  | .ring r => r
  | .mbox m => 256 + m

/-- The source of the events that report on a command of a channel (R451). -/
def Chan.source : Chan → Nat
  | .ring _ => 3
  | .mbox m => 8 + m

/-- The layout of a response (R297). -/
def responseBytes (op tag : Nat) (a : Answer) : List Byte :=
  leBytes 2 op ++ leBytes 2 tag ++ leBytes 2 a.status ++ leBytes 2 a.detail ++ leBytes 8 a.csn ++ a.result

/-- A run of registers written with a number, lowest word first. -/
def Chip.wrWords (c : Chip) (off : Nat) : Nat → Nat → Chip
  | 0, _ => c
  | n + 1, v => Chip.wrWords (c.wr off (v % 2 ^ 32)) (off + 4) n (v / 2 ^ 32)

/-- CONS of a ring past the entry just taken (R270). After a flush meanwhile, which has discarded it, it stays (R271): CONS never passes
PROD, nor an entry written since (DEDUCED, log entry 12). -/
def Chip.consumed (c : Chip) (r : Nat) : Chip :=
  let g := c.ring r
  c.setRing r { g with
    cons := if g.cut || g.unread = 0 then g.cons else (g.cons + 1) % 2 ^ 32, taken := false, cut := false, stalled := false }

/-- A response posted on its channel (R279, R297); the ring entry of its command is consumed. -/
def Chip.respond (c : Chip) (ch : Chan) (op tag : Nat) (a : Answer) : Chip :=
  match ch with
  | .mbox m =>
    let b := c.mbox m
    let seq := (b.seq + 1) % 65536
    let c := c.wrWords (Reg.MB_RESP m 0) 16 (ofLE (padTo 64 (responseBytes op tag a)))
    let c := c.setMbox m { busy := false, done := true, seq := seq }
    c.raise (8 + m) 0x0404 (it4 m ++ it4 seq ++ leBytes 2 op ++ leBytes 2 tag ++ leBytes 2 a.status ++ leBytes 2 a.detail)
  | .ring r =>
    let c := if (c.ring r).taken then c.consumed r else c
    c.gatherPost ⟨3, 0x0401, padTo 28 (responseBytes op tag a), some r⟩

/-- A response to a command that may have lost its channel to PERST_N (R433). -/
def Chip.respondTo (c : Chip) (ch : Option Chan) (op tag : Nat) (a : Answer) : Chip :=
  match ch with
  | some ch => c.respond ch op tag a
  | none => c

/-- Whether firmware takes commands: PD_CTRL and PD_HOST on, PERST_N high, the boot at stage 8, the cores neither held nor handing
over (R23, R291, R412, R436, R437). -/
def Chip.served (c : Chip) : Bool :=
  c.domainOn 1 && c.domainOn 2 && !c.power.perst && c.power.stage == 8 && !c.power.held && !c.update.handover

end Sys2Proof.Machine
end

