-- ==== Sys2Proof/Machine/Records.lean ====
section
/-! DEFINITION. The records of the fifteen committed tables (R302): where they stand, how acceptance clamps them and writes
them back (R87, R112, R133, R186), how they are checked (R88), and their fields by name. A record is the number that its
octets spell, lowest first. -/

namespace Sys2Proof.Machine

/-- Place of a table's staging area in the table region, octets of a record and number of records (R302). The number of
a table is the low octet of its commit opcode. -/
def tableInfo : Nat → Nat × Nat × Nat
  | 1 => (0x0, 64, 131072)
  | 2 => (0x800000, 1024, 4096)
  | 3 => (0xC00000, 32, 49152)
  | 4 => (0xD80000, 256, 1024)
  | 5 => (0xDC0000, 128, 16)
  | 6 => (0xDD0000, 64, 1024)
  | 7 => (0x2000000, 8, 8388608)
  | 8 => (0xDE0000, 2048, 256)
  | 9 => (0x1000000, 8, 1048576)
  | 10 => (0xE60000, 8, 16384)
  | 11 => (0xE80000, 4, 131072)
  | 12 => (0xF00000, 96, 64)
  | 13 => (0xF02000, 32, 1024)
  | 14 => (0xF0A000, 16, 1024)
  | 15 => (0xF0E000, 128, 16)
  | _ => (0, 1, 0)

/-- Octets of a record. -/
def recSize (t : Nat) : Nat := (tableInfo t).2.1
/-- Records of a table. -/
def recCount (t : Nat) : Nat := (tableInfo t).2.2

/-- The field of a record at an octet offset. -/
def fld (r off lo w : Nat) : Nat := bits r (8 * off + lo) w
/-- The same field written. -/
def setFld (r off lo w v : Nat) : Nat := setBits r (8 * off + lo) w v
/-- A signed 32-bit field. -/
def fldI (r off : Nat) : Int := sext 32 (fld r off 0 32)
/-- Octets of a record. -/
def recBytes (r off n : Nat) : List Byte := leBytes n (r >>> (8 * off))

/-- A field of a record whose values are all legal. -/
def u (off lo w : Nat) : Field := ⟨8 * off + lo, w, .any⟩
/-- A field of a record with a range. -/
def ur (off lo w a b : Nat) : Field := ⟨8 * off + lo, w, .range a b⟩

/-- A record with every listed field at its nearest legal value and every reserved bit 0 (R8, R455). -/
def clampFields (fs : List Field) (r : Nat) : Nat := (fs.map fun f => clampField f r).foldl (· + ·) 0

/-- A frame rate clamped to R26. -/
def clampRate (n d : Nat) : Nat × Nat :=
  let d := if d = 0 then 1 else d
  if n * 1001 < 24000 * d then (24000, 1001) else if 240 * d < n then (240, 1) else (n, d)

/-! ### Record checks (R88, R180, R187) -/

/-- Where a table's records hold REC_CHECK and CHECK_PAR, and the runs of octets the check covers. -/
def checkPlan : Nat → Option (Nat × Nat × List (Nat × Nat))
  | 1 => some (0x38, 0x3C, [(0, 0x38)])
  | 2 => some (0x3F8, 0x3FC, [(0, 0x3F8)])
  | 3 => some (0x1C, 0x1B, [(0, 0x10)])
  | 4 => some (0x38, 0x3C, [(0, 0x38), (0x40, 0xC0)])
  | 5 => some (0x78, 0x7C, [(0, 0x78)])
  | 6 => some (0x38, 0x3C, [(0, 0x38)])
  | 12 => some (0x50, 0x54, [(0, 0x50)])
  | 15 => some (0x78, 0x7C, [(0, 0x78)])
  | _ => none

/-- CRC-32C over the record index and the octets covered. -/
def recCrc (i r : Nat) (runs : List (Nat × Nat)) : Nat :=
  crcRun 0x82F63B78 0xFFFFFFFF (leBytes 4 i ++ (runs.map fun k => recBytes r k.1 k.2).flatten) ^^^ 0xFFFFFFFF

/-- The exclusive-or of the four octets of a check. -/
def parity4 (x : Nat) : Nat := bits x 0 8 ^^^ bits x 8 8 ^^^ bits x 16 8 ^^^ bits x 24 8

/-- The outcome of R88: 0 trusted, 4 DATA_CORRUPT, 5 CHECK_CORRUPT. -/
def recStatus (t i r : Nat) : Nat :=
  match checkPlan t with
  | none => 0
  | some (co, po, runs) =>
    if fld r co 0 32 = recCrc i r runs then 0
    else if fld r po 0 8 = parity4 (fld r co 0 32) then 4 else 5

/-- A record with its check and parity recomputed. -/
def reseal (t i r : Nat) : Nat :=
  match checkPlan t with
  | none => r
  | some (co, po, runs) =>
    let x := recCrc i r runs
    setFld (setFld r co 0 32 x) po 0 8 (parity4 x)

/-! ### Canvas records (R83) -/

namespace CanvasRec
def addr (r : Nat) : Nat := fld r 0 0 64
def width (r : Nat) : Nat := fld r 8 0 16
def height (r : Nat) : Nat := fld r 0xA 0 16
def en (r : Nat) : Bool := fld r 0xC 0 1 == 1
def space (r : Nat) : Nat := fld r 0xC 1 2
def bg (r j : Nat) : Nat := fld r (0x10 + 2 * j) 0 16
def m (r i j : Nat) : Int := fldI r (0x20 + 4 * (3 * i + j))
/-- Bytes from one row to the next (R84). -/
def stride (r : Nat) : Nat := ceilDiv (width r * 8) 64 * 64
/-- Octets the canvas occupies. -/
def size (r : Nat) : Nat := stride r * height r
end CanvasRec

def clampCanvas (r : Nat) : Nat :=
  clampFields ([u 0 6 58, ur 8 0 16 1 8192, ur 0xA 0 16 1 8192, u 0xC 0 1, ur 0xC 1 2 0 2] ++
    (List.range 4).map (fun j => u (0x10 + 2 * j) 0 16) ++ (List.range 9).map (fun j => u (0x20 + 4 * j) 0 32)) r

/-! ### Layer records (R85, R86) -/

namespace LayerRec
def addr (r : Nat) : Nat := fld r 0 0 64
def stride (r : Nat) : Nat := fld r 8 0 32
def tag (r : Nat) : Nat := fld r 0xC 0 32
def srcX (r : Nat) : Nat := fld r 0x10 0 16
def srcY (r : Nat) : Nat := fld r 0x12 0 16
def srcW (r : Nat) : Nat := fld r 0x14 0 16
def srcH (r : Nat) : Nat := fld r 0x16 0 16
def dstX (r : Nat) : Int := fldI r 0x18
def dstY (r : Nat) : Int := fldI r 0x1C
def dstW (r : Nat) : Nat := fld r 0x20 0 32
def dstH (r : Nat) : Nat := fld r 0x24 0 32
def en (r : Nat) : Bool := fld r 0x28 0 1 == 1
def blend (r : Nat) : Nat := fld r 0x28 1 3
def bilinear (r : Nat) : Bool := fld r 0x28 4 1 == 1
def premul (r : Nat) : Bool := fld r 0x28 5 1 == 1
def ignoreAlpha (r : Nat) : Bool := fld r 0x28 6 1 == 1
def source (r : Nat) : Nat := fld r 0x28 8 2
def stream (r : Nat) : Nat := fld r 0x28 10 4
def format (r : Nat) : Nat := fld r 0x28 16 2
def transfer (r : Nat) : Nat := fld r 0x28 18 3
def primaries (r : Nat) : Nat := fld r 0x28 21 2
def yccMatrix (r : Nat) : Nat := fld r 0x28 23 1
def yccFull (r : Nat) : Bool := fld r 0x28 24 1 == 1
def opacity (r : Nat) : Nat := fld r 0x2C 0 16
def solid (r j : Nat) : Nat := fld r (0x30 + 2 * j) 0 16
/-- The octets from BUF_ADDR − 64 to the end of the last line used (R89). -/
def extentLo (r : Nat) : Nat := addr r - 64
def extentHi (r : Nat) : Nat := addr r + (srcY r + srcH r) * stride r
end LayerRec

/-- Octets from pixel 0 of a line to the end of the source rectangle (R85). -/
def layerLine (fmt x w : Nat) : Nat :=
  match fmt with
  | 0 => (x + w) * 4
  | 1 => (x + w) * 8
  | 2 => ceilDiv (x + w) 2 * 5
  | _ => (x + w) * 2

def clampLayer (r : Nat) : Nat :=
  let r := clampFields ([u 0 6 58, u 8 0 32, u 0xC 0 32, ur 0x10 0 16 0 8191, ur 0x12 0 16 0 8191, ur 0x14 0 16 1 8192,
    ur 0x16 0 16 1 8192, ⟨8 * 0x18, 32, .signed (-1048575) 1048575⟩, ⟨8 * 0x1C, 32, .signed (-1048575) 1048575⟩,
    u 0x20 0 32, u 0x24 0 32, u 0x28 0 7, ur 0x28 8 2 0 2, u 0x28 10 4, u 0x28 16 2, ur 0x28 18 3 0 4, ur 0x28 21 2 0 2,
    u 0x28 23 2, u 0x2C 0 16] ++ (List.range 4).map (fun j => u (0x30 + 2 * j) 0 16)) r
  let r := if LayerRec.source r = 1 then setFld r 0x28 16 2 2 else r
  let r := if LayerRec.format r = 1 || LayerRec.format r = 3 then setFld r 0x28 18 3 0 else r
  let r := if LayerRec.format r ≤ 1 && LayerRec.transfer r = 0 then r else setFld r 0x28 5 1 0
  let r := if LayerRec.format r = 2 then setFld r 0x10 0 16 (LayerRec.srcX r / 2 * 2) else r
  let line := layerLine (LayerRec.format r) (LayerRec.srcX r) (LayerRec.srcW r)
  let r := setFld r 8 0 32 (min (ceilDiv (max (LayerRec.stride r) line) 64 * 64) 1048576)
  let r := setFld r 0x20 0 32 (clampN (LayerRec.srcW r) (min (64 * LayerRec.srcW r) 524288) (LayerRec.dstW r))
  setFld r 0x24 0 32 (clampN (LayerRec.srcH r) (min (64 * LayerRec.srcH r) 524288) (LayerRec.dstH r))

/-! ### Fixture records (R110, R111) -/

namespace FixRec
def en (r : Nat) : Bool := fld r 0 0 1 == 1
def place (r : Nat) : Nat := fld r 0 1 1
def footprint (r : Nat) : Nat := fld r 0 2 3
def canvas (r : Nat) : Nat := fld r 0 5 4
def cellCount (r : Nat) : Nat := fld r 0 16 7
def target (r : Nat) : Nat := fld r 0 23 2
def feed (r : Nat) : Nat := fld r 0 25 4
def tempSrc (r : Nat) : Nat := fld r 0 29 2
def profile (r : Nat) : Nat := fld r 4 0 16
def gridW (r : Nat) : Nat := fld r 6 0 16
def cellBase (r : Nat) : Nat := fld r 8 0 23
def targetIdx (r : Nat) : Nat := fld r 0xC 0 32
def x0 (r : Nat) : Int := (fld r 0x10 0 32 : Nat)
def y0 (r : Nat) : Int := (fld r 0x14 0 32 : Nat)
def ux (r : Nat) : Int := fldI r 0x18
def uy (r : Nat) : Int := fldI r 0x1C
def vx (r : Nat) : Int := fldI r 0x20
def vy (r : Nat) : Int := fldI r 0x24
def fpW (r : Nat) : Nat := fld r 0x28 0 16
def fpH (r : Nat) : Nat := fld r 0x2A 0 16
def startSlot (r : Nat) : Nat := fld r 0x2C 0 16
def wrapSlot (r : Nat) : Nat := fld r 0x2E 0 16
def tempRef (r : Nat) : Nat := fld r 0x30 0 32
end FixRec

def clampFixture (r : Nat) : Nat :=
  let r := clampFields [u 0 0 2, u 0 2 3, u 0 5 4, ur 0 16 7 0 64, ur 0 23 2 0 2, ur 0 25 4 0 8, ur 0 29 2 0 2,
    ur 4 0 16 0 4095, ur 6 0 16 1 64, u 8 0 23, u 0xC 0 32, u 0x10 0 32, u 0x14 0 32, u 0x18 0 32, u 0x1C 0 32,
    u 0x20 0 32, u 0x24 0 32, u 0x28 0 16, u 0x2A 0 16, u 0x2C 0 16, ur 0x2E 0 16 1 512, u 0x30 0 32] r
  let r := if FixRec.footprint r = 5 || FixRec.footprint r = 6 then setFld r 0 2 3 4 else r
  let r := setFld r 0xC 0 32 (min (FixRec.targetIdx r)
    (match FixRec.target r with | 0 => 49151 | 1 => 15 | _ => 31))
  let r := setFld r 0x2C 0 16 (clampN 1
    (match FixRec.target r with | 0 => FixRec.wrapSlot r | 1 => 512 | _ => 32768) (FixRec.startSlot r))
  match FixRec.tempSrc r with
  | 1 => setFld r 0x30 0 32 (bits (FixRec.tempRef r) 0 10 + (min (bits (FixRec.tempRef r) 10 8) 254 <<< 10))
  | 2 => setFld r 0x30 0 32 (bits (FixRec.tempRef r) 0 17)
  | _ => r

/-! ### Profiles (R129 to R132) -/

namespace ProfRec
def emitters (r : Nat) : Nat := fld r 0 0 4
def wide (r : Nat) : Bool := fld r 0 4 1 == 1
def attrs (r : Nat) : Nat := fld r 0 5 6
def curve (r : Nat) : Nat := fld r 0 11 3
def space (r : Nat) : Nat := fld r 0 14 2
def tcomp (r : Nat) : Bool := fld r 0 16 1 == 1
def derate (r : Nat) : Bool := fld r 0 17 1 == 1
def vprog (r : Nat) : Nat := fld r 0 24 8
def slotMap (r k : Nat) : Nat := fld r 4 (3 * k) 3
def curveIdx (r : Nat) : Nat := fld r 4 24 8
def rth (r : Nat) : Nat := fld r 8 0 16
def tau (r : Nat) : Nat := fld r 0xA 0 16
def kcorr (r : Nat) : Nat := fld r 0xC 0 16
def baseW (r : Nat) : Nat := fld r 0xE 0 16
def m (r e j : Nat) : Int := fldI r (0x20 + (3 * e + j) * 4)
def flux (r e i : Nat) : Nat := fld r (0x80 + 0x40 * e + 2 * i) 0 16
def fluxT0 (r e : Nat) : Int := sext 16 (fld r (0x80 + 0x40 * e + 0x20) 0 16)
def fluxStep (r e : Nat) : Nat := fld r (0x80 + 0x40 * e + 0x22) 0 16
def watts (r e : Nat) : Nat := fld r (0x80 + 0x40 * e + 0x24) 0 16
def knee (r e : Nat) : Int := sext 16 (fld r (0x80 + 0x40 * e + 0x26) 0 16)
def slope (r e : Nat) : Nat := fld r (0x80 + 0x40 * e + 0x28) 0 16
def floor (r e : Nat) : Nat := fld r (0x80 + 0x40 * e + 0x2A) 0 16
def role (r a : Nat) : Nat := fld r (0x280 + 8 * a) 0 4
def attrWide (r a : Nat) : Bool := fld r (0x280 + 8 * a) 4 1 == 1
def latest (r a : Nat) : Bool := fld r (0x280 + 8 * a) 5 1 == 1
def dflt (r a : Nat) : Nat := fld r (0x280 + 8 * a) 16 16
def wire (r a : Nat) : Nat := fld r (0x280 + 8 * a) 32 16
/-- Slots of one cell (R130). -/
def cellSlots (r : Nat) : Nat := emitters r * (if wide r then 2 else 1)
/-- Slots of attribute `a`. -/
def attrSlots (r a : Nat) : Nat := if attrWide r a then 2 else 1
end ProfRec

def clampProfile (r0 : Nat) : Nat :=
  let em := clampN 1 8 (ProfRec.emitters r0)
  let at_ := min 32 (ProfRec.attrs r0)
  let r := clampFields ([ur 0 0 4 1 8, u 0 4 1, ur 0 5 6 0 32, ur 0 11 3 0 4, ur 0 14 2 0 2, u 0 16 2, u 0 24 8, u 4 0 32,
      u 8 0 16, ur 0xA 0 16 1 65535, ur 0xC 0 16 0 0x8000, u 0xE 0 16] ++
    (List.range 24).map (fun j => u (0x20 + 4 * j) 0 32) ++
    ((List.range 8).map fun e => if e < em then
        (List.range 16).map (fun i => ur (0x80 + 0x40 * e + 2 * i) 0 16 0x100 0xFFFF) ++
        [u (0x80 + 0x40 * e + 0x20) 0 16, ur (0x80 + 0x40 * e + 0x22) 0 16 1 0xFFFF, u (0x80 + 0x40 * e + 0x24) 0 64]
      else [u (0x80 + 0x40 * e) 0 512]).flatten ++
    ((List.range 32).map fun a => if a < at_ then
        [u (0x280 + 8 * a) 0 6, u (0x280 + 8 * a) 16 32] else [u (0x280 + 8 * a) 0 64]).flatten ++
    [u 0x380 0 960]) r0
  let r := (List.range em).foldl (fun r k => if em ≤ ProfRec.slotMap r k then setFld r 4 (3 * k) 3 (em - 1) else r) r
  (List.range at_).foldl (fun r a =>
    let x := ProfRec.role r a
    if 5 < x then setFld r (0x280 + 8 * a) 0 4 0
    else if 0 < x && (List.range a).any (fun b => ProfRec.role r b == x) then setFld r (0x280 + 8 * a) 0 4 0 else r) r

/-! ### Universe descriptors, runs, sources and unicast destinations (R180 to R187) -/

namespace UnivRec
def univ (r : Nat) : Nat := fld r 0 0 16
def sync (r : Nat) : Nat := fld r 2 0 16
def en (r : Nat) : Bool := fld r 4 0 1 == 1
def mask (r : Nat) : Nat := fld r 4 1 4
def dest (r : Nat) : Nat := fld r 4 5 2
def cid (r : Nat) : Nat := fld r 4 8 6
def repeats (r : Nat) : Nat := fld r 4 14 2
def prio (r : Nat) : Nat := fld r 4 16 8
def set (r : Nat) : Nat := fld r 4 24 8
def slots (r : Nat) : Nat := fld r 8 0 10
def kaMs (r : Nat) : Nat := fld r 0xA 0 16
def ucast (r : Nat) : Nat := fld r 0xC 0 10
end UnivRec

/-- KA_MS: 0 reads back as 800, else 100 to 2,000 (R180). -/
def clampKa (v : Nat) : Nat := if v = 0 then 800 else clampN 100 2000 v

/-- A descriptor as acceptance clamps it. The octets of the packer's state, 0x10 to 0x1A, are no part of what a commit carries:
what the host writes there is ignored (R182). -/
def clampUniverse (r : Nat) : Nat :=
  let r := clampFields [ur 0 0 16 1 63999, ur 2 0 16 0 63999, u 4 0 5, ur 4 5 2 0 2, u 4 8 8, ur 4 16 8 0 200, u 4 24 8,
    ur 8 0 10 1 512, u 0xA 0 16, u 0xC 0 10] r
  setFld r 0xA 0 16 (clampKa (UnivRec.kaMs r))

namespace RunRec
def en (r : Nat) : Bool := fld r 0 0 1 == 1
def mask (r : Nat) : Nat := fld r 0 1 4
def ipv6 (r : Nat) : Bool := fld r 0 5 1 == 1
def vlan (r : Nat) : Bool := fld r 0 6 1 == 1
def unicast (r : Nat) : Bool := fld r 0 7 1 == 1
def cid (r : Nat) : Nat := fld r 0 8 6
def repeats (r : Nat) : Nat := fld r 0 14 2
def set (r : Nat) : Nat := fld r 0 16 8
def first (r : Nat) : Nat := fld r 4 0 16
def count (r : Nat) : Nat := fld r 6 0 9
def univ0 (r : Nat) : Nat := fld r 8 0 16
def slots (r : Nat) : Nat := fld r 0xA 0 10
def kaMs (r : Nat) : Nat := fld r 0xC 0 16
def ucast (r : Nat) : Nat := fld r 0xE 0 10
def template (r : Nat) : List Byte := recBytes r 0x40 0xC0
/-- Octets of the template's headers (R187). -/
def headLen (r : Nat) : Nat := (if ipv6 r then 188 else 168) + (if vlan r then 4 else 0)
end RunRec

/-- A run record as acceptance clamps it; the octets beyond its header are reserved (R187). -/
def clampRun (r : Nat) : Nat :=
  let r := bits r 0 (8 * (0x40 + RunRec.headLen r))
  let r := clampFields [u 0 0 24, ur 4 0 16 0 49151, ur 6 0 9 1 256, ur 8 0 16 1 63999, ur 0xA 0 10 1 512, u 0xC 0 16,
    u 0xE 0 10, u 0x40 0 1536] r
  let r := setFld r 6 0 9 (min (RunRec.count r) (min (49152 - RunRec.first r) (64000 - RunRec.univ0 r)))
  setFld r 0xC 0 16 (clampKa (RunRec.kaMs r))

namespace SourceRec
def cid (r : Nat) : List Byte := recBytes r 0 16
/-- SOURCE_NAME with its last octet 0 (R184). -/
def name (r : Nat) : List Byte := recBytes r 0x10 63 ++ [0]
end SourceRec

def clampSource (r : Nat) : Nat := clampFields [u 0 0 640] r

namespace UcastRec
def ipv6 (r : Nat) : Bool := fld r 0 0 1 == 1
def ip (r : Nat) : List Byte := if ipv6 r then recBytes r 8 16 else recBytes r 8 4
def mac (r : Nat) : List Byte := recBytes r 0x18 6
end UcastRec

def clampUcast (r : Nat) : Nat := clampFields [u 0 0 1, u 8 0 128, u 0x18 0 48] r

/-! ### Cues, console input, contexts and streams (R163, R168, R169, R214, R245) -/

namespace CueRec
def fixture (r : Nat) : Nat := bits r 0 17
def attr (r : Nat) : Nat := bits r 17 5
def curve (r : Nat) : Nat := bits r 22 2
def target (r : Nat) : Nat := bits r 24 16
def fadeMs (r : Nat) : Nat := bits r 40 22
end CueRec

def clampCue (r : Nat) : Nat := clampFields [u 0 0 40, ur 0 40 22 0 3600000] r

namespace InUnivRec
def univ (r : Nat) : Nat := bits r 0 16
def en (r : Nat) : Bool := bit r 16
def mask (r : Nat) : Nat := bits r 17 4
def ipv6 (r : Nat) : Bool := bit r 21
end InUnivRec

def clampInUniv (r : Nat) : Nat := clampFields [ur 0 0 16 1 63999, u 0 16 6] r

namespace InPatchRec
def idx (r : Nat) : Nat := bits r 0 14
def en (r : Nat) : Bool := bit r 14
def slot (r : Nat) : Nat := bits r 16 10
end InPatchRec

def clampInPatch (r : Nat) : Nat := clampFields [u 0 0 15, ur 0 16 10 1 512] r

namespace CtxRec
def uid (r : Nat) : Nat := bits r 0 48
def port (r : Nat) : Nat := bits r 48 4
def en (r : Nat) : Bool := bit r 52
def pollS (r : Nat) : Nat := bits r 64 8
end CtxRec

def clampCtx (r : Nat) : Nat := clampFields [u 0 0 53, ur 8 0 8 1 255] r

namespace StreamRec
def en (r : Nat) : Bool := fld r 0 0 1 == 1
def dual (r : Nat) : Bool := fld r 0 1 1 == 1
def ipv6 (r : Nat) : Bool := fld r 0 2 1 == 1
def srcEn (r : Nat) (b : Bool) : Bool := fld r 0 (if b then 4 else 3) 1 == 1
def pt (r : Nat) : Nat := fld r 0 8 7
def width (r : Nat) : Nat := fld r 4 0 16
def height (r : Nat) : Nat := fld r 6 0 16
def rateN (r : Nat) : Nat := fld r 8 0 32
def rateD (r : Nat) : Nat := fld r 0xC 0 32
def base (r : Nat) : Nat := fld r 0x10 0 64
def port (r : Nat) (b : Bool) : Nat := fld r (if b then 0x1C else 0x18) 0 2
def udp (r : Nat) (b : Bool) : Nat := fld r (if b then 0x1C else 0x18) 16 16
def dst (r : Nat) (b : Bool) : Nat := fld r (if b then 0x30 else 0x20) 0 128
def src (r : Nat) (b : Bool) : Nat := fld r (if b then 0x50 else 0x40) 0 128
def mergeUs (r : Nat) : Nat := fld r 0x60 0 16
/-- Octets of a line (R246). -/
def stride (r : Nat) : Nat := ceilDiv (width r * 5 / 2) 64 * 64
/-- Octets of one buffer. -/
def bufLen (r : Nat) : Nat := stride r * height r
end StreamRec

def clampStream (r : Nat) : Nat :=
  let r := clampFields [u 0 0 5, ur 0 8 7 96 127, ur 4 0 16 2 8192, ur 6 0 16 1 8192, u 8 0 64, u 0x10 6 58, u 0x18 0 2,
    u 0x18 16 16, u 0x1C 0 2, u 0x1C 16 16, u 0x20 0 512, u 0x60 0 16] r
  let r := setFld r 4 0 16 (StreamRec.width r / 2 * 2)
  let nd := clampRate (StreamRec.rateN r) (StreamRec.rateD r)
  let r := setFld (setFld r 8 0 32 nd.1) 0xC 0 32 nd.2
  setFld r 0x60 0 16 (if StreamRec.mergeUs r = 0 then 1000 else min (StreamRec.mergeUs r) 10000)

/-- A record of a table as acceptance clamps it. -/
def clampRecord (t r : Nat) : Nat :=
  match t with
  | 1 => clampFixture r
  | 2 => clampProfile r
  | 3 => clampUniverse r
  | 4 => clampRun r
  | 5 => clampCanvas r
  | 6 => clampLayer r
  | 9 => clampCue r
  | 10 => clampInUniv r
  | 11 => clampInPatch r
  | 12 => clampSource r
  | 13 => clampUcast r
  | 14 => clampCtx r
  | 15 => clampStream r
  | _ => bits r 0 (8 * recSize t)

end Sys2Proof.Machine
end

