-- ==== Sys2Proof/Machine/Admission.lean ====
section
/-! DEFINITION. What a configuration demands: LPDDR5X and its regions, the budgets of R16 to R18, the slots of R119, the
universes in service of R183, the group tables of R240, and the refusals of R89, R113, R133, R168, R186, R235 and R246.
Every check reads the live half of a part; a commit is checked on the part as it would be at its crossing. -/

namespace Sys2Proof.Machine

open Sys2Proof

/-! ### LPDDR5X (R14, R301 to R303, R472) -/

/-- TRAINED of DRAM_CFG. -/
def Chip.trained (c : Chip) : Bool := bit c.dramCfg 4

/-- Usable octets of LPDDR5X (R14). -/
def Chip.usable (c : Chip) : Nat :=
  if c.trained then (match bits c.dramCfg 0 2 with | 0 => 7 | 1 => 14 | _ => 28) * 2 ^ 30 else 0

/-- TBL_REGION_BASE (R301). -/
def Chip.tblBase (c : Chip) : Nat := c.usable - 2 ^ 28
/-- The working region's first address (R303). -/
def Chip.workBase (c : Chip) : Nat := c.usable - 3 * 2 ^ 27

/-- Address of a record's staging copy (R302). -/
def Chip.stagingAddr (c : Chip) (t i : Nat) : Nat := c.tblBase + (tableInfo t).1 + i * recSize t

/-- The area of the table region that holds an offset from TBL_REGION_BASE: its table (0 for the areas that no command
commits) and the record. -/
def stagingAt (o : Nat) : Option (Nat × Nat) :=
  match ((List.range 15).map (· + 1)).find? fun t =>
      (tableInfo t).1 ≤ o && o < (tableInfo t).1 + recSize t * recCount t with
  | some t => some (t, (o - (tableInfo t).1) / recSize t)
  | none => if 0xF10000 ≤ o && o < 0xF50000 || 0xF80000 ≤ o && o < 0x1000000 then some (0, 0) else none

/-! ### Budgets (R16, R17) -/

/-- A rate figure scaled by the data rate of LPDDR5X (R17). While LPDDR5X is not trained there is no data rate, and the figure
stands unscaled (DESIGN CHOICE, log entry 43). -/
def Chip.scaled (c : Chip) (fig : Nat) : Nat :=
  if !c.trained then fig
  else match bits c.dramCfg 2 2 with | 0 => fig * 6400 / 8533 | 1 => fig * 7500 / 8533 | _ => fig

/-- The budget of one frame. -/
def Chip.perFrame (c : Chip) (fig : Nat) : Nat := fig * c.fg.rateD / c.fg.rateN

def Chip.cellBudget (c : Chip) : Nat := min 8388608 (c.perFrame 503316480)
def Chip.univBudget (c : Chip) : Nat := min 49152 (c.perFrame 2949120)
def Chip.composeBudget (c : Chip) : Nat := c.perFrame (c.scaled 4000000000)
def Chip.canvasBudget (c : Chip) : Nat := min 16777216 (c.perFrame (c.scaled 1006632960))
def Chip.sampleBudget (c : Chip) : Nat := c.perFrame (c.scaled 2013265920)

/-- The enabled fixtures of the live table. -/
def Chip.fixtures (c : Chip) : List (Nat × Nat) := (c.recsOf 1).filter fun e => FixRec.en e.2

/-- Samples that one cell costs (R117). -/
def sampleCost (footprint place : Nat) : Nat :=
  match footprint with
  | 0 => 1 + place
  | 1 => 4 + place
  | 2 => 4 + place
  | 3 => 9 + place
  | 4 => 16 + place
  | _ => 0

def Chip.cells (c : Chip) : Nat := (c.fixtures.map fun e => FixRec.cellCount e.2).sum
def Chip.samples (c : Chip) : Nat :=
  (c.fixtures.map fun e => FixRec.cellCount e.2 * sampleCost (FixRec.footprint e.2) (FixRec.place e.2)).sum

/-- The enabled canvases. -/
def Chip.canvases (c : Chip) : List (Nat × Nat) := (c.recsOf 5).filter fun e => CanvasRec.en e.2
/-- The enabled layers of a canvas, lowest first. -/
def Chip.layersOf (c : Chip) (k : Nat) : List (Nat × Nat) :=
  (c.recsOf 6).filter fun e => e.1 / 64 == k && LayerRec.en e.2

/-- A layer's destination rectangle clipped to its canvas: x from, x to, y from, y to (R93). -/
def clipRect (cv l : Nat) : Nat × Nat × Nat × Nat :=
  ((max 0 (LayerRec.dstX l)).toNat, (min (CanvasRec.width cv : Int) (LayerRec.dstX l + LayerRec.dstW l)).toNat,
   (max 0 (LayerRec.dstY l)).toNat, (min (CanvasRec.height cv : Int) (LayerRec.dstY l + LayerRec.dstH l)).toNat)

/-- Pixels of a clipped rectangle. -/
def rectArea (r : Nat × Nat × Nat × Nat) : Nat := (r.2.1 - r.1) * (r.2.2.2 - r.2.2.1)

def Chip.pixelLayers (c : Chip) : Nat :=
  (c.canvases.map fun e => ((c.layersOf e.1).map fun l => rectArea (clipRect e.2 l.2)).sum).sum
def Chip.canvasPixels (c : Chip) : Nat := (c.canvases.map fun e => CanvasRec.width e.2 * CanvasRec.height e.2).sum

/-! ### Slots (R119) -/

/-- A placed unit: the slot space (target × 2¹⁶ + index), its first slot from 1, and its slots. -/
structure PlacedUnit where
  space : Nat
  slot  : Nat
  width : Nat
  deriving DecidableEq, Repr

/-- The widths of a fixture's units: its attributes, then its cells. -/
def unitWidths (fix prof : Nat) : List Nat :=
  (List.range (ProfRec.attrs prof)).map (ProfRec.attrSlots prof) ++
    List.replicate (FixRec.cellCount fix) (ProfRec.cellSlots prof)

/-- Units placed in order from a slot of a space, wrapping into the next descriptor for TARGET 0. -/
def placeFrom (target wrap space slot : Nat) : List Nat → List PlacedUnit
  | [] => []
  | w :: ws =>
    if target = 0 && wrap < slot + w - 1 then ⟨space + 1, 1, w⟩ :: placeFrom target wrap (space + 1) (1 + w) ws
    else ⟨space, slot, w⟩ :: placeFrom target wrap space (slot + w) ws

/-- Where a fixture's units stand. -/
def placeUnits (fix prof : Nat) : List PlacedUnit :=
  placeFrom (FixRec.target fix) (FixRec.wrapSlot fix) (FixRec.target fix * 65536 + FixRec.targetIdx fix)
    (FixRec.startSlot fix) (unitWidths fix prof)

/-- The units of fixture `f` in the live configuration. -/
def Chip.unitsOf (c : Chip) (f : Nat) : List PlacedUnit :=
  placeUnits (c.recAt 1 f) (c.recAt 2 (FixRec.profile (c.recAt 1 f)))

/-- Whether two placed units share a slot. -/
def PlacedUnit.meets (a b : PlacedUnit) : Bool :=
  a.space == b.space && a.slot < b.slot + b.width && b.slot < a.slot + a.width

/-- Whether a unit lies past the last descriptor or the slot space of its port. -/
def PlacedUnit.outside (a : PlacedUnit) : Bool :=
  match a.space / 65536 with
  | 0 => 49151 < a.space
  | 1 => 512 < a.slot + a.width - 1
  | _ => 32768 < a.slot + a.width - 1

/-- The lowest number of a list. -/
def lowest (l : List Nat) : Option Nat := l.foldl (fun m x => match m with | none => some x | some y => some (min x y)) none

/-- The lowest fixture that R113 refuses: of all its points only enabled fixtures count (DESIGN CHOICE where the spec's words are 'a
cell block' and 'a fixture', log entry 19). -/
def Chip.badFixture (c : Chip) : Option Nat :=
  let fs := c.fixtures.map fun e => (e.1, e.2, c.unitsOf e.1)
  lowest ((fs.filter fun a =>
    8388608 < FixRec.cellBase a.2.1 + FixRec.cellCount a.2.1 ||
    a.2.2.any PlacedUnit.outside ||
    (FixRec.target a.2.1 == 0 && a.2.2.any fun u => FixRec.wrapSlot a.2.1 < u.width) ||
    fs.any fun b => a.1 != b.1 &&
      (((FixRec.cellBase a.2.1 < FixRec.cellBase b.2.1 + FixRec.cellCount b.2.1 &&
         FixRec.cellBase b.2.1 < FixRec.cellBase a.2.1 + FixRec.cellCount a.2.1) &&
        0 < FixRec.cellCount a.2.1 && 0 < FixRec.cellCount b.2.1) ||
       a.2.2.any fun u => b.2.2.any u.meets)).map (·.1))

/-! ### Universes in service (R183, R188) -/

/-- Everything the packer needs of a universe in service but its source, its slots and its port. -/
structure Service where
  univ    : Nat
  cid     : Nat
  mask    : Nat
  sync    : Nat
  prio    : Nat
  slots   : Nat
  kaMs    : Nat
  repeats : Nat
  dest    : Nat
  ucast   : Nat
  ipv6    : Bool
  run     : Option Nat
  deriving DecidableEq, Repr

/-- Whether a universe set is on in PK_SETn_EN. -/
def Chip.setOn (c : Chip) (s : Nat) : Bool := bit (c.lv (Reg.PK_SET_EN (s / 32))) (s % 32)

/-- The octet of a run's template at an offset from its UDP payload. -/
def templateAt (r off n : Nat) : Nat :=
  ofBE (((RunRec.template r).drop (RunRec.headLen r - 126 + off)).take n)

/-- The enabled runs whose set is on. -/
def Chip.runsOn (c : Chip) : List (Nat × Nat) := (c.recsOf 4).filter fun e => RunRec.en e.2 && c.setOn (RunRec.set e.2)

/-- Member `u` of a run as a universe in service (R188). -/
def memberService (e : Nat × Nat) (u : Nat) : Service :=
  { univ := RunRec.univ0 e.2 + (u - RunRec.first e.2), cid := RunRec.cid e.2, mask := RunRec.mask e.2
    sync := templateAt e.2 109 2, prio := templateAt e.2 108 1, slots := RunRec.slots e.2, kaMs := RunRec.kaMs e.2
    repeats := RunRec.repeats e.2, dest := if RunRec.unicast e.2 then 2 else if RunRec.ipv6 e.2 then 1 else 0
    ucast := RunRec.ucast e.2, ipv6 := RunRec.ipv6 e.2, run := some e.1 }

/-- A lone descriptor as a universe in service. -/
def Chip.loneService (c : Chip) (r : Nat) : Service :=
  { univ := UnivRec.univ r, cid := UnivRec.cid r, mask := UnivRec.mask r, sync := UnivRec.sync r, prio := UnivRec.prio r
    slots := UnivRec.slots r, kaMs := UnivRec.kaMs r, repeats := UnivRec.repeats r, dest := UnivRec.dest r
    ucast := UnivRec.ucast r
    ipv6 := if UnivRec.dest r = 2 then UcastRec.ipv6 (c.recAt 13 (UnivRec.ucast r)) else UnivRec.dest r == 1, run := none }

/-- The run in service of which a descriptor is a member. -/
def Chip.runOf (c : Chip) (u : Nat) : Option (Nat × Nat) :=
  c.runsOn.find? fun e => RunRec.first e.2 ≤ u && u < RunRec.first e.2 + RunRec.count e.2

/-- The service of descriptor `u` in the live configuration, if any. -/
def Chip.serviceOf (c : Chip) (u : Nat) : Option Service :=
  match c.runOf u with
  | some e => some (memberService e u)
  | none =>
    let r := c.recAt 3 u
    if UnivRec.en r && c.setOn (UnivRec.set r) then some (c.loneService r) else none

/-- The descriptors that could be in service: members of runs, and enabled descriptors. -/
def Chip.serviceIndices (c : Chip) : List Nat :=
  ((c.runsOn.map fun e => (List.range (RunRec.count e.2)).map (RunRec.first e.2 + ·)).flatten ++
    (c.recsOf 3).map (·.1)).eraseDups

/-- The universes in service, with their descriptors. -/
def Chip.services (c : Chip) : List (Nat × Service) :=
  c.serviceIndices.filterMap fun u => (c.serviceOf u).map fun s => (u, s)

/-- Octets on the wire of a data packet on a port, preamble to gap (R198, chapter 1). -/
def Chip.wireLen (c : Chip) (s : Service) (p : Nat) : Nat :=
  126 + s.slots + 8 + (if s.ipv6 then 40 else 20) + 18 + 20 +
    (match s.run with
     | some k => if RunRec.vlan (c.recAt 4 k) then 4 else 0
     | none => if bit (c.lv (Reg.NET_VLAN p)) 15 then 4 else 0)

/-- Line rate of a show port in 100 Mb/s (R232). -/
def Chip.lineRate (c : Chip) (p : Nat) : Nat := if bits (c.lv (Reg.NET_MODE p)) 0 2 = 0 then 250 else 100

/-- The rate at which a port emits, in 100 Mb/s (R198). -/
def Chip.emitRate (c : Chip) (p : Nat) : Nat := min (bits (c.lv (Reg.PKP_CEIL p)) 0 8) (c.lineRate p)

/-- The universes in service on a port. -/
def Chip.onPort (c : Chip) (p : Nat) : List (Nat × Service) := c.services.filter fun e => bit e.2.mask p

/-- The synchronisation pairs of a port: address, CID and IP version, in ascending order of address (R200). -/
def Chip.syncPairs (c : Chip) (p : Nat) : List (Nat × Nat × Bool) :=
  (((c.onPort p).filter fun e => e.2.sync != 0).map fun e => (e.2.sync, e.2.cid, e.2.ipv6)).eraseDups.insertionSort
    fun a b => a.1 < b.1 || a.1 == b.1 && (a.2.1 < b.2.1 || a.2.1 == b.2.1 && (!a.2.2 || b.2.2))

/-- Whether emission fits a port's window (R198). -/
def Chip.fits (c : Chip) (p : Nat) : Bool :=
  let us := c.onPort p
  let l := (us.map fun e => c.wireLen e.2 p).foldl max 0
  us.length * l * 8 * c.fg.rateN * 100 ≤ c.emitRate p * 100000000 * bits (c.lv Reg.PK_CFG) 0 7 * c.fg.rateD

/-- An IP address of a port, none for all zeros (R235). -/
def Chip.portIp (c : Chip) (p : Nat) (v6 : Bool) : Option Nat :=
  let a := if v6 then (List.range 4).foldl (fun x w => x * 2 ^ 32 + c.lv (Reg.NET_IP6 p w)) 0 else c.lv (Reg.NET_IP4 p)
  if a = 0 then none else some a

/-- The lowest descriptor that R186 refuses: a number shared on a port, runs that overlap, or an IP version that a run's
unicast entry does not have, be the run enabled or not (R188). -/
def Chip.badEmission (c : Chip) : Option Nat :=
  let us := c.services
  let runs := (c.recsOf 4).filter fun e => RunRec.en e.2
  lowest ((us.filter fun a => us.any fun b =>
      a.1 != b.1 && a.2.univ == b.2.univ && a.2.cid == b.2.cid && (a.2.mask &&& b.2.mask) != 0).map (·.1) ++
    (runs.filter fun a => runs.any fun b => a.1 != b.1 &&
      RunRec.first a.2 < RunRec.first b.2 + RunRec.count b.2 && RunRec.first b.2 < RunRec.first a.2 + RunRec.count a.2).map
      (·.1) ++
    ((c.recsOf 4).filter fun e => RunRec.unicast e.2 &&
      RunRec.ipv6 e.2 != UcastRec.ipv6 (c.recAt 13 (RunRec.ucast e.2))).map (·.1))

/-- The lowest universe in service on a port whose emission does not fit its window, or that has more than 64 synchronisation
pairs (R186, R198, R200). -/
def Chip.badPort (c : Chip) : Option Nat :=
  lowest (((List.range 4).filter fun p => !c.fits p || 64 < (c.syncPairs p).length).map fun p =>
    (c.onPort p).map (·.1)).flatten

/-- The lowest universe in service on a port that has no address of its IP version (R235). -/
def Chip.noAddress (c : Chip) : Option Nat :=
  lowest ((c.services.filter fun e => (List.range 4).any fun p => bit e.2.mask p && (c.portIp p e.2.ipv6).isNone).map (·.1))

/-! ### Memory (R89, R246) -/

/-- A range of LPDDR5X with what claims it: 0 a canvas, 1 a layer extent, 2 a stream buffer. -/
structure Extent where
  kind  : Nat
  index : Nat
  lo    : Nat
  hi    : Nat
  deriving DecidableEq, Repr

/-- The ranges that the configuration fetches or writes. -/
def Chip.extents (c : Chip) : List Extent :=
  c.canvases.map (fun e => ⟨0, e.1, CanvasRec.addr e.2, CanvasRec.addr e.2 + CanvasRec.size e.2⟩) ++
  (c.canvases.map fun e => ((c.layersOf e.1).filter fun l => LayerRec.source l.2 == 0).map fun l =>
    (⟨1, l.1, LayerRec.extentLo l.2, LayerRec.extentHi l.2⟩ : Extent)).flatten ++
  ((c.recsOf 15).filter fun e => StreamRec.en e.2).map fun e =>
    ⟨2, e.1, StreamRec.base e.2, StreamRec.base e.2 + 3 * StreamRec.bufLen e.2⟩

/-- The lowest layer, canvas or stream that R89 or R246 refuses: its memory lies beyond what canvases, layers and streams may
use, or overlaps an enabled canvas or a stream's buffer. Layer extents may overlap one another, and where one meets a canvas
the layer is named (DEDUCED, log entry 42). -/
def Chip.badMemory (c : Chip) : Option Nat :=
  let es := c.extents
  lowest ((es.filter fun a => c.workBase < a.hi || (a.kind == 1 && LayerRec.addr (c.recAt 6 a.index) < 64) ||
    es.any fun b => !(a.kind == b.kind && a.index == b.index) && b.kind != 1 && a.lo < b.hi && b.lo < a.hi).map (·.index))

/-- The paths of the enabled streams: stream, record, path. -/
def Chip.streamPaths (c : Chip) : List (Nat × Nat × Bool) :=
  (((c.recsOf 15).filter fun e => StreamRec.en e.2).map fun e =>
    (e.1, e.2, false) :: (if StreamRec.dual e.2 then [(e.1, e.2, true)] else [])).flatten

/-- The lowest stream on a port whose paths exceed 92 % of its line rate (R246). -/
def Chip.badIngest (c : Chip) : Option Nat :=
  lowest (((List.range 4).map fun p =>
    let es := c.streamPaths.filter fun e => StreamRec.port e.2.1 e.2.2 == p
    let rate := (es.map fun e => (StreamRec.width e.2.1 * StreamRec.height e.2.1 * 20 * StreamRec.rateN e.2.1 : Rat) /
      StreamRec.rateD e.2.1).sum
    if (c.lineRate p * 92000000 : Rat) < rate then es.map (·.1) else []).flatten)

/-! ### Groups (R239, R240) -/

/-- The E1.31 multicast group of a universe. -/
def univGroup (v6 : Bool) (n : Nat) : Nat := if v6 then 0xFF18 * 2 ^ 112 + 0x83000000 + n else 0xEFFF0000 + n

/-- Whether an address is a multicast group. -/
def isGroup (v6 : Bool) (a : Nat) : Bool := if v6 then a / 2 ^ 120 == 0xFF else a / 2 ^ 28 == 14

/-- The enabled input universes. -/
def Chip.inputs (c : Chip) : List (Nat × Nat) := (c.recsOf 10).filter fun e => InUnivRec.en e.2

/-- Whether a group passes a port through the input universe table. -/
def Chip.inputGroup (c : Chip) (p : Nat) (v6 : Bool) (a : Nat) : Bool :=
  c.inputs.any fun e => bit (InUnivRec.mask e.2) p && InUnivRec.ipv6 e.2 == v6 && univGroup v6 (InUnivRec.univ e.2) == a

/-- The destination address of a stream path as a number in wire order. -/
def streamDst (r : Nat) (b : Bool) : Nat :=
  ofBE (leBytes (if StreamRec.ipv6 r then 16 else 4) (StreamRec.dst r b))

/-- The PTP group of a transport: 224.0.1.129 or ff0e::181 (PRESUMED from IEEE 1588, log entry 13). -/
def ptpGroup (v6 : Bool) : Nat := if v6 then 0xFF0E * 2 ^ 112 + 0x181 else 0xE0000181

/-- The groups that need an entry in a port's exact-match table. -/
def Chip.exactGroups (c : Chip) (p : Nat) : List (Bool × Nat) :=
  ((((c.streamPaths.filter fun e => StreamRec.port e.2.1 e.2.2 == p).map fun e =>
      (StreamRec.ipv6 e.2.1, streamDst e.2.1 e.2.2)).filter fun g => isGroup g.1 g.2) ++
   ((List.range 4).filterMap fun n =>
      let v := c.lv (Reg.TB_CFG n)
      if bits v 0 3 = 1 && bits v 8 3 = p && bits v 26 2 < 2 then some (bits v 26 2 == 1, ptpGroup (bits v 26 2 == 1))
      else none) ++
   ((c.port p).groups.map fun g => (g.ipv6, g.group)) ++ (c.port p).syncGroups).eraseDups.filter
    fun g => !c.inputGroup p g.1 g.2

/-! ### The refusals of a configuration -/

/-- The lowest pair of enabled input entries that share a universe (R168). -/
def Chip.badInput (c : Chip) : Option Nat :=
  lowest ((c.inputs.filter fun a => c.inputs.any fun b => a.1 != b.1 && InUnivRec.univ a.2 == InUnivRec.univ b.2).map (·.1))

/-- The lowest fixture whose profile's matrix cannot serve its canvas's space (R133). -/
def Chip.badMatrix (c : Chip) : Option Nat :=
  lowest ((c.fixtures.filter fun e =>
    CanvasRec.space (c.recAt 5 (FixRec.canvas e.2)) == 2 &&
      ProfRec.space (c.recAt 2 (FixRec.profile e.2)) != 2).map (·.1))

/-- What the configuration exceeds or overlaps: the DETAIL of R299 and the lowest index involved, the first in DETAIL
order; none for a configuration that every rule admits. What a budget involves is every fixture, universe, layer or canvas that it
counts (DEDUCED, log entry 42). -/
def Chip.configRefusal (c : Chip) : Option (Nat × Nat) :=
  let noIdx := 0xFFFFFFFF
  let first (l : List Nat) : Nat := (lowest l).getD noIdx
  if c.cellBudget < c.cells then some (1, first (c.fixtures.map (·.1)))
  else if c.univBudget < c.services.length then some (2, first (c.services.map (·.1)))
  else if c.composeBudget < c.pixelLayers then some (3, first ((c.canvases.map fun e => (c.layersOf e.1).map (·.1)).flatten))
  else if c.canvasBudget < c.canvasPixels then some (4, first (c.canvases.map (·.1)))
  else if c.sampleBudget < c.samples then some (5, first (c.fixtures.map (·.1)))
  else match c.badMemory with
  | some i => some (6, i)
  | none => match c.badFixture with
  | some i => some (7, i)
  | none => match c.badEmission with
  | some i => some (8, i)
  | none => match c.badPort with
  | some i => some (8, i)
  | none => match c.noAddress with
  | some i => some (9, i)
  | none => match c.badMatrix with
  | some i => some (10, i)
  | none => match c.badInput with
  | some i => some (14, i)
  | none =>
  if (List.range 4).any (fun p => 256 < (c.exactGroups p).length) then some (14, noIdx)
  else match c.badIngest with
  | some i => some (15, i)
  | none => none

/-! ### Images (R403, R404, R439) -/

/-- An image type. -/
def Chip.imageType (c : Chip) (t : Nat) : ImageType := c.update.types.getD t ImageType.shipped

/-- An image type replaced. -/
def Chip.setType (c : Chip) (t : Nat) (x : ImageType) : Chip := { c with update := { c.update with types := c.update.types.set t x } }

/-- A slot of a type. -/
def ImageType.slot (x : ImageType) (i : Nat) : Image := if i = 0 then x.slot0 else x.slot1

/-- The running image: what an activation has loaded into its program store, or that of the running slot (R412). -/
def ImageType.runningImage (x : ImageType) : Image := x.program.getD (x.slot x.running)

/-- The image in the inactive slot. -/
def ImageType.inactive (x : ImageType) : Image := x.slot (1 - x.running)

/-- The inactive slot written. -/
def ImageType.setInactive (x : ImageType) (m : Image) : ImageType :=
  if x.running = 0 then { x with slot1 := m, verified := false } else { x with slot0 := m, verified := false }

/-- The running image of a type; a recovery's CTRL image runs from Lagoon (R439). -/
def Chip.image (c : Chip) (type : Nat) : Image :=
  match c.update.recovered with
  | some m => if type = 0 then m else (c.imageType type).runningImage
  | none => (c.imageType type).runningImage

/-- Whether an image carries a program (R145). -/
def Image.carries (m : Image) (p : Nat) : Bool := p == 0 || Config.programIn m.version m.body p

end Sys2Proof.Machine
end

