-- ==== Sys2Proof/Machine/Commits.lean ====
section
/-! DEFINITION. Commits from their command to their crossing: targeting (R41 to R44), the snapshot (R32, R33), the checks at
acceptance (R18), mirroring (R323, R324), and what a change does to the live configuration (R28, R35). -/

namespace Sys2Proof.Machine

open Sys2Proof

/-- A payload field at an octet offset. -/
def pl (p off lo w : Nat) : Nat := bits p (8 * off + lo) w

/-- The instant block at +0x20 as nanoseconds, and the time base it names (R295). -/
def instantArg (p off : Nat) : Nat × Nat :=
  (pl p off 0 32 + (pl p (off + 4) 0 32 + pl p (off + 8) 0 16 * 2 ^ 32) * 1000000000, pl p (off + 8) 16 2)

/-- STATUS, DETAIL and index of a refusal (R298, R299). -/
structure Refuse where
  status : Nat
  detail : Nat
  index  : Nat
  deriving DecidableEq, Repr

/-- RESOURCE_DENIED with a DETAIL and no index. -/
def denied (detail : Nat) : Refuse := ⟨3, detail, 0xFFFFFFFF⟩
/-- MISSED. -/
def missed : Refuse := ⟨2, 0, 0⟩

/-- RESULT of a refusal: the index for RESOURCE_DENIED and for the two corrupt codes, otherwise nothing. -/
def Refuse.result (r : Refuse) : List Byte := if r.status = 3 || r.status = 4 || r.status = 5 then leBytes 4 r.index else []

/-- The open crossing: the first whose seal point has not passed (R41). -/
def Chip.openCsn (c : Chip) : Nat := c.csn + 1 + c.fg.explicit.length + c.sealed.toNat

/-- The commits beyond the open crossing among some. -/
def Chip.beyond (c : Chip) (l : List Commit) : Nat := (l.filter fun m => c.openCsn < m.target).length

/-- Accepted commits beyond the open crossing (R44). -/
def Chip.queueLevel (c : Chip) : Nat := c.beyond c.commits

/-- The commits that wait for the standby's acknowledgement (R324). -/
def Chip.forwarded (c : Chip) : List Commit := c.pair.mirrorWait.map MirrorWait.commit

/-- The index of the first grid instant at least half a period after `t` (R28, R67). -/
def FrameGen.indexAfterHalf (g : FrameGen) (t : Nat) : Nat :=
  let num : Int := 2 * ((t : Int) - g.origin) * g.rateN + g.rateD * 1000000000
  (-((-num) / (2 * g.rateD * 1000000000 : Int))).toNat

/-- Whether a nanosecond instant lies on the live grid. -/
def FrameGen.onGrid (g : FrameGen) (t : Nat) : Bool := g.instant (g.indexFrom t) == t

/-- The generator's settings after a change at a crossing (R28): `read` is what each base reads at its instant. A kept origin under another rate or base becomes that instant. -/
def FrameGen.takes (g : FrameGen) (read : Nat → Nat) : Change → FrameGen
  | .frameGen tb keep n d o =>
    let moves := g.mode != .stopped && keep && (tb != g.tb || n != g.rateN || d != g.rateD)
    { g with tb := tb, rateN := n, rateD := d, origin := if !keep then o else if moves then read tb else g.origin }
  | _ => g

/-- The generator after a crossing at `last`, its instant on the base now bound (R28, R67): on the same grid the next index
follows; otherwise the next crossing is the first grid instant at least P/2 later. -/
def FrameGen.placed (g old : FrameGen) (last : Nat) (idx : Option Nat) : FrameGen :=
  let g := { g with last := last }
  let same := g.tb == old.tb && g.rateN == old.rateN && g.rateD == old.rateD && g.origin == old.origin
  let g := match same, idx with
    | true, some i => { g with lastGrid := true, lastIdx := i }
    | _, _ => { g with lastGrid := g.onGrid last, lastIdx := g.indexFrom last }
  let i := match same, idx with
    | true, some i => i + 1
    | _, _ => g.indexAfterHalf last
  { g with next := g.instant i, nextIdx := some i }

/-- The index of the crossing after the next. -/
def FrameGen.followIdx (g : FrameGen) : Nat :=
  match g.nextIdx with | some i => i + 1 | none => g.indexAfterHalf g.next

/-- The instant and the index of the crossing `m` after the next, under the settings as they stand. -/
def FrameGen.ahead (g : FrameGen) : Nat → Nat × Option Nat
  | 0 => (g.next, g.nextIdx)
  | m + 1 => (g.instant (g.followIdx + m), some (g.followIdx + m))

/-- The number of the first crossing at or after `t`, the next crossing being number `k`. -/
def FrameGen.countTo (g : FrameGen) (k t : Nat) : Nat :=
  if t ≤ g.next then k else k + 1 + (g.indexFrom t - g.followIdx)

/-- Whether a change moves the generator's crossings. -/
def Change.moves : Change → Bool
  | .frameGen _ _ _ _ _ => true
  | .fgStop => true
  | _ => false

/-- The number of the first crossing at or after `t` from crossing `k`, the generator's next, on, through the changes accepted for
the crossings between, and whether a stop has come before it, which leaves an explicit crossing to come (R43); `shift` is how
far each base is ahead of the one bound now. -/
def FrameGen.numberAt (shift : Nat → Int) (t : Nat) : FrameGen → Nat → List (Nat × List Change) → Nat × Bool
  | g, k, [] => (g.countTo k ((t : Int) + shift g.tb).toNat, false)
  | g, k, (n, l) :: rest =>
    let x := g.ahead (n - k)
    let t' := ((t : Int) + shift g.tb).toNat
    if t' ≤ x.1 then (g.countTo k t', false)
    else if l.contains .fgStop then (max n k + 1, true)
    else
      let read (b : Nat) : Nat := ((x.1 : Int) - shift g.tb + shift b).toNat
      let g' := l.foldl (fun h ch => FrameGen.takes h read ch) g
      FrameGen.numberAt shift t (g'.placed g (read g'.tb) x.2) (max n k + 1) rest

/-- The changes of the generator accepted for the crossings ahead, crossing by crossing. -/
def Chip.movesAhead (c : Chip) : List (Nat × List Change) :=
  let l := (c.commits.filter fun m => m.changes.any Change.moves).insertionSort fun a b => a.target ≤ b.target
  ((l.map (·.target)).eraseDups).map fun n =>
    (n, ((l.filter fun m => m.target == n).map fun m => m.changes.filter Change.moves).flatten)

/-- The CSN of the first crossing at or after an instant on the bound time base, as the settings and the changes accepted so far
place the crossings, and whether the generator is stopped by then (R43). A generator that has issued its last crossing issues
none of those of its grid (R29). Another base that a change binds is taken to keep its present difference (DESIGN CHOICE, log
entry 44). -/
def Chip.csnAt (c : Chip) (t : Nat) : Nat × Bool :=
  if c.fg.mode = .stopped then (c.openCsn, true)
  else if 0 < c.csn && t ≤ c.fg.last then (c.csn, false)
  else if c.fg.stopping then (c.csn + 1 + c.fg.explicit.length, true)
  else FrameGen.numberAt (fun b => ((c.tb b).ns : Int) - c.now) t c.fg (c.csn + 1 + c.fg.explicit.length) c.movesAhead

/-- The crossing that takes a commit accepted now, with its status, or a refusal (R41, R43). -/
def Chip.target (c : Chip) (h : CmdHdr) (p : Nat) (instants : Bool) : Except Refuse (Nat × Nat) :=
  let named (n : Nat) : Except Refuse (Nat × Nat) :=
    if c.openCsn ≤ n then .ok (n, 0) else if h.strict then .error missed else .ok (c.openCsn, 1)
  if h.atTime && instants then
    let a := instantArg p 0x20
    if a.2 ≠ c.fg.tb then .error (denied 18)
    else
      let n := c.csnAt a.1
      if n.2 && h.strict then .error missed else named n.1
  else if h.atCsn then named h.target
  else .ok (c.openCsn, 0)

/-! ### What a change does to the live configuration -/

/-- The part with a list of live records replaced. -/
def Chip.setRecs (c : Chip) (t : Nat) : List (Nat × Nat) → Chip
  | [] => c
  | e :: r => Chip.setRecs (c.setRec t e.1 e.2) t r

/-- An octet of a group added to a list of groups, once. -/
def addGroup (g : Group) (l : List Group) : List Group := if l.contains g then l else l ++ [g]

/-- A change as the live configuration takes it, without what it starts. -/
def Chip.configure (c : Chip) : Change → Chip
  | .reg off v => c.wrLive off v.toNat
  | .regBits off m v => c.wrLive off (mergeMask (c.lv off) m.toNat v.toNat)
  | .recs t rs _ => c.setRecs t rs
  | .layer i r => c.setRec 6 i r
  | .frameGen tb keep n d o => { c with fg := { c.fg with tb := tb, rateN := n, rateD := d, origin := if keep then c.fg.origin else o } }
  | .groupJoin p g => c.setPort p { c.port p with groups := addGroup g (c.port p).groups }
  | .groupLeave p g => c.setPort p { c.port p with groups := (c.port p).groups.filter (· != g) }
  | _ => c

/-- Every change of a commit. -/
def Chip.configureAll (c : Chip) (l : List Change) : Chip := l.foldl Chip.configure c

/-- Of some commits, those for crossings up to `csn`, crossing by crossing and in acceptance order within one (R45). -/
def upTo (csn : Nat) (l : List Commit) : List Commit :=
  (l.filter fun m => m.target ≤ csn).insertionSort fun a b => a.target ≤ b.target

/-- The accepted commits for crossings up to `csn`. -/
def Chip.commitsTo (c : Chip) (csn : Nat) : List Commit := upTo csn c.commits

/-- The commits for crossings up to `csn`, those that still await the standby's acknowledgement after the accepted. -/
def Chip.plannedTo (c : Chip) (csn : Nat) : List Commit := upTo csn (c.commits ++ c.forwarded)

/-- The part without the commits forwarded and not yet accepted, for the check of one at its own acceptance. -/
def Chip.acceptedOnly (c : Chip) : Chip := { c with pair := { c.pair with mirrorWait := [] } }

/-- The configuration that will be live at a crossing with the commits accepted or forwarded so far (R18). -/
def Chip.projected (c : Chip) (csn : Nat) : Chip := (c.plannedTo csn).foldl (fun c m => c.configureAll m.changes) c

/-- Whether a change bears on the configuration that admission checks. -/
def Change.configures : Change → Bool
  | .reg _ _ => true
  | .regBits _ _ _ => true
  | .recs _ _ _ => true
  | .layer _ _ => true
  | .frameGen _ _ _ _ _ => true
  | .groupJoin _ _ => true
  | _ => false

/-- The refusal of a commit by the configuration that it would make live. -/
def Chip.whyTooMuch (c : Chip) (l : List Change) : Option Refuse :=
  if l.any Change.configures then ((c.configureAll l).configRefusal).map fun r => ⟨3, r.1, r.2⟩ else none

/-! ### Domains in force at a crossing (R24, R430) -/

/-- The states of the domains once what is queued has ended. -/
def Power.settled (p : Power) : List Bool := p.queue.foldl (fun l e => l.set e.1 e.2.1) p.on

/-- The states after a SYS_POWER_SET; the bits of PD_AON, PD_CTRL and PD_HOST clamp to 1. -/
def powerAfter (mask on : Nat) (l : List Bool) : List Bool :=
  (List.range 12).map fun d => if bit mask d then d < 3 || bit on d else l.getD d false

/-- The states of the domains after the changes of some commits. -/
def powerThrough (l : List Bool) (cs : List Change) : List Bool :=
  cs.foldl (fun l ch => match ch with
    | .powerSet mask on => powerAfter mask on l
    | .warmReset => List.replicate 12 true
    | _ => l) l

/-- The states of the domains in force at a crossing, with what is accepted or forwarded so far. -/
def Chip.powerAt (c : Chip) (csn : Nat) : List Bool :=
  powerThrough c.power.settled ((c.plannedTo csn).map Commit.changes).flatten

/-- The domains that hold what a change sets: the block of a register, the banks of a table with LPDDR5X for the staging
copies, the cue engine, the Strait. -/
def Change.domains : Change → List Nat
  | .reg o _ => match blockAt o with | some (b, _) => [b.domain] | none => []
  | .regBits o _ _ => match blockAt o with | some (b, _) => [b.domain] | none => []
  | .recs t _ _ => if t = 1 || t = 7 || t = 9 then [4] else [3, 4]
  | .layer _ _ => [3]
  | .cueGo _ => [6]
  | .effectStart _ _ _ _ _ _ _ _ => [6]
  | .effectStop _ _ => [6]
  | .pairConfig _ _ _ => [10]
  | .promote => [10]
  | .swap => [10]
  | _ => []

/-- Whether a commit would change a setting of a domain that is off (R430). -/
def domainOff (on : List Bool) (l : List Change) : Bool := l.any fun ch => ch.domains.any fun d => !on.getD d false

/-- An image type after a change: an activation, or the reversion of a trial, runs the other slot. -/
def ImageType.after (t : Nat) (x : ImageType) : Change → ImageType
  | .activate u => if u = t && x.second.isSome then { x with running := 1 - x.running, program := x.second, second := none } else x
  | .revert u _ => if u = t then { x with running := 1 - x.running, program := none } else x
  | _ => x

/-- The image of a type that will be live at a crossing with what is accepted or forwarded so far. -/
def Chip.imageAt (c : Chip) (csn t : Nat) : Image :=
  let cs := ((c.plannedTo csn).map Commit.changes).flatten
  if cs.any fun ch => ch == .activate t || (match ch with | .revert u _ => u == t | _ => false) then
    (cs.foldl (ImageType.after t) (c.imageType t)).runningImage
  else c.image t

/-- The lowest profile of a profile commit whose program is absent from the Vilfene image live at the crossing (R133). -/
def absentProgram (m : Image) (l : List Change) : Option Nat :=
  lowest ((l.map fun ch => match ch with
    | .recs t rs _ => if t = 2 then (rs.filter fun e => !m.carries (ProfRec.vprog e.2)).map (·.1) else []
    | _ => []).flatten)

/-- The refusal of a commit at its acceptance, the first in DETAIL order: by the configuration that it would make live (R18), by
a program that the image of its crossing lacks (R133), or by a domain. -/
def Chip.refusal (c q : Chip) (csn : Nat) (l : List Change) : Option Refuse :=
  let other : Option Refuse :=
    match absentProgram (c.imageAt csn 1) l with
    | some i => some ⟨3, 11, i⟩
    | none => if domainOff (c.powerAt csn) l then some (denied 16) else none
  match q.whyTooMuch l with
  | some r => if r.detail ≤ 10 then some r else match other with
    | some x => if x.detail = 11 then some x else some r
    | none => some r
  | none => other

/-! ### Registers of commits -/

/-- Every RWB register of BAR0. -/
def rwbOffsets : List Nat :=
  (blocks.map fun b => ((List.range b.count).map fun i =>
    (b.rows.filter fun r => r.access == .rwb).map fun r => b.base + b.stride * i + r.off).flatten).flatten

/-- A register value after a change that a commit carries. -/
def Change.onReg (off v : Nat) : Change → Nat
  | .reg o w => if o = off then w.toNat else v
  | .regBits o m w => if o = off then mergeMask v m.toNat w.toNat else v
  | _ => v

/-- The latest accepted value of an RWB register (R32). -/
def Chip.latest (c : Chip) (off : Nat) : Nat :=
  (c.commits.map Commit.changes).flatten.foldl (Change.onReg off) (c.lv off)

/-- What SHOW_COMMIT carries (R32). -/
def Chip.dirtyRegs (c : Chip) : List Change :=
  (rwbOffsets.filter fun o => c.rd o != c.latest o).map fun o => .reg o (BitVec.ofNat 32 (c.rd o))

/-- The pending values that a commit other than SHOW_COMMIT writes at its acceptance (R32): what will go live, over any edit that
no commit carries. -/
def Chip.writePending (c : Chip) (l : List Change) : Chip :=
  l.foldl (fun c ch => match ch with
    | .reg o _ => c.wr o (c.latest o)
    | .regBits o _ _ => c.wr o (c.latest o)
    | _ => c) c

/-! ### Locks (R34 to R36) -/

/-- Whether a staging record is locked: an accepted table commit names it, or its copy-forward has not ended. -/
def Chip.locked (c : Chip) (t i : Nat) : Bool :=
  (c.commits.any fun m => m.opcode / 256 == 3 && m.changes.any fun ch => match ch with
    | .recs t' rs _ => t' == t && rs.any fun e => e.1 == i
    | _ => false) ||
  c.copyFwd.any fun f => f.table == t && f.indices.contains i

/-- The latest crossing that a record's lock awaits. -/
def Chip.lockCsn (c : Chip) (t i : Nat) : Nat :=
  ((c.commits.filter fun m => m.opcode / 256 == 3 && m.changes.any fun ch => match ch with
      | .recs t' rs _ => t' == t && rs.any fun e => e.1 == i
      | _ => false).map (·.target) ++
    (c.copyFwd.filter fun f => f.table == t && f.indices.contains i).map (·.csn)).foldl max 0

/-- The latest content of a layer record that is accepted, or forwarded and so to be accepted before what follows it (R90, R324). -/
def Chip.latestLayer (c : Chip) (i : Nat) : Nat :=
  (((c.commits ++ c.forwarded).map fun m => m.changes.filterMap fun ch => match ch with
    | .layer j r => if j = i then some r else none
    | .recs t rs _ => if t = 6 then (rs.find? fun e => e.1 == i).map (·.2) else none
    | _ => none).flatten).getLast?.getD (c.recAt 6 i)

/-! ### The pair's part in a commit (R323 to R325) -/

/-- Whether a change is of a mirrored setting (R323). -/
def Change.mirrored : Change → Bool
  | .reg off _ => !(0x840 ≤ off && off < 0x940 || 0xA00 ≤ off && off < 0xB40 || 0xB6C ≤ off && off < 0xB78 ||
      0x3300 ≤ off && off < 0x3900 || 0x4800 ≤ off && off < 0x4A00 || 0x5000 ≤ off && off < 0x5100 ||
      0x6000 ≤ off && off < 0x6500 || 0x9000 ≤ off && off < 0x9800)
  | .regBits _ _ _ => true
  | .recs t _ _ => t != 12
  | .layer _ _ => true
  | .frameGen _ _ _ _ _ => true
  | .fgStop => true
  | .cueGo _ => true
  | .effectStart _ _ _ _ _ _ _ _ => true
  | .effectStop _ _ => true
  | .marker => true
  | .cross => true
  | .promote => true
  | .swap => true
  | _ => false

/-- Whether the isle stands by for an active peer that the link or a beacon shows (R321, R323). -/
def Chip.underActive (c : Chip) : Bool :=
  (c.pair.isle == .standby || c.pair.isle == .standbyStale || c.pair.isle == .standbySync) &&
    c.pair.peerActive && (c.pair.linkUp || c.pair.beaconSeen)

/-- Whether a commit waits for the standby's acknowledgement (R324). -/
def Chip.mirrors (c : Chip) (l : List Change) : Bool :=
  (c.pair.isle == .active || l.contains .promote) && c.pair.linkUp && c.pair.mirrorOk && l.any Change.mirrored

/-! ### Acceptance -/

/-- A commit accepted (R40): recorded for its crossing, its registers written to their pending values unless it is a
SHOW_COMMIT. A commit of a mirrored setting that the standby has not acknowledged makes it stale (R325). -/
def Chip.accept (c : Chip) (m : Commit) : Chip :=
  let c := { c with commits := c.commits ++ [m] }
  if m.opcode = 0x0201 then c else c.writePending m.changes

/-- A command of a channel refused. -/
def Chip.refuse (c : Chip) (h : CmdHdr) (op : Nat) (r : Refuse) : Chip :=
  c.respond h.chan op h.tag ⟨r.status, r.detail, c.openCsn, r.result⟩

/-- A command of a channel accepted as a commit, and answered. -/
def Chip.acceptHost (c : Chip) (h : CmdHdr) (op csn status : Nat) (changes : List Change) (result : List Byte) : Chip :=
  (c.accept ⟨some h.chan, h.tag, op, csn, changes, none⟩).respond h.chan op h.tag ⟨status, 0, csn, result⟩

/-- A list of octets in pieces of at most 2,048, one at least. -/
def pieces : Nat → List Byte → List (List Byte)
  | 0, l => [l.take 2048]
  | n + 1, l => if l.length ≤ 2048 then [l] else l.take 2048 :: pieces n (l.drop 2048)

/-- A link frame (R329): its header, its payload, and the check of its number, its header and its payload. -/
def linkOctets (seq type : Nat) (body : List Byte) : List Byte :=
  let head := leBytes 4 type ++ leBytes 4 seq ++ leBytes 8 body.length
  head ++ body ++ leBytes 8 (crc64 (leBytes 4 seq ++ head ++ body))

/-- The link frames that carry a message, numbered from `seq` on. -/
def linkFrames (seq : Nat) (k : LinkPayload) : List (Nat × List Byte) :=
  let body := match k with | .data l => l | _ => Config.linkBody k
  (pieces body.length body).zipIdx.map fun e =>
    ((seq + e.2) % 2 ^ 32, linkOctets ((seq + e.2) % 2 ^ 32) (Config.linkType k).toNat e.1)

/-- A message sent over the link in numbered frames, the last 64 of which are kept for a resend (R329). -/
def Chip.sendLink (c : Chip) (k : LinkPayload) : Chip :=
  let l := linkFrames (c.pair.txSeq + 1) k
  let c := l.foldl (fun c e => c.emit (.link e.1 e.2)) c
  { c with pair := { c.pair with
      txSeq := (c.pair.txSeq + l.length) % 2 ^ 32, keep := (l.reverse ++ c.pair.keep).take 64 } }

/-- The changes of a commit as they are forwarded: the mirrored ones, for what is local to the isle stays there (R323); to the
peer, a promotion is the loss of the role (R338). -/
def forPeer (l : List Change) : List Change :=
  (l.filter Change.mirrored).map fun ch => if ch == .promote then .demote else ch

/-- A commit forwarded to the standby with its records and its crossing (R324); it waits for the acknowledgement of its last frame.
What is forwarded is the snapshot of this instant: a register written again
before the standby acknowledges is not in it (DEDUCED from R33 and R324, log entry 43). -/
def Chip.forwardCommit (c : Chip) (w : MirrorWait) : Chip :=
  let c := c.sendLink (.commit ⟨w.commit.opcode, w.commit.target, forPeer w.commit.changes⟩)
  { c with pair := { c.pair with mirrorWait := c.pair.mirrorWait ++ [{ w with seq := c.pair.txSeq }] } }

/-- A commit command (R296): targeted, built on the configuration of its crossing, checked, then accepted, forwarded to a
standby, or refused; with the changes unless it is refused. `build` reads the part as it will be configured at the
crossing, and the crossing's CSN. -/
def Chip.commitTry (c : Chip) (op : Nat) (h : CmdHdr) (p : Nat) (instants : Bool)
    (build : Chip → Nat → Except Refuse (List Change × List Byte)) : Chip × Option (List Change) :=
  match c.target h p instants with
  | .error r => (c.refuse h op r, none)
  | .ok (csn, status) =>
    let q := c.projected csn
    match build q csn with
    | .error r => (c.refuse h op r, none)
    | .ok (changes, result) =>
      if c.openCsn < csn && 1024 ≤ c.beyond (c.commits ++ c.forwarded) then (c.refuse h op (denied 14), none)
      else if c.underActive && (changes.any fun ch => ch.mirrored && ch != .promote) then (c.refuse h op (denied 12), none)
      else match c.refusal q csn changes with
        | some r => (c.refuse h op r, none)
        | none =>
          (if c.mirrors changes then
            c.forwardCommit ⟨0, ⟨some h.chan, h.tag, op, csn, changes, none⟩, some h, p, result⟩
          else c.acceptHost h op csn status changes result, some changes)

/-- The part after a commit command. -/
def Chip.commitCommand (c : Chip) (op : Nat) (h : CmdHdr) (p : Nat) (instants : Bool)
    (build : Chip → Nat → Except Refuse (List Change × List Byte)) : Chip :=
  (c.commitTry op h p instants build).1

/-- An immediate command that completes with a status and a result (R296). -/
def Chip.complete (c : Chip) (h : CmdHdr) (op status : Nat) (result : List Byte) : Chip :=
  c.respond h.chan op h.tag ⟨status, 0, c.csn, result⟩

/-- An immediate command refused: its response carries CSN_LIVE. -/
def Chip.decline (c : Chip) (h : CmdHdr) (op : Nat) (r : Refuse) : Chip :=
  c.respond h.chan op h.tag ⟨r.status, r.detail, c.csn, r.result⟩

end Sys2Proof.Machine
end

