-- ==== Sys2Proof/Machine/HostPort.lean ====
section
/-! DEFINITION. What every host access passes through: the posted writes that fail (R263, R264), the gate of a register write
(R434, R439, R466, R467), and LPDDR5X and Lagoon behind their SECDED codes (R394 to R396, R401). -/

namespace Sys2Proof.Machine

open Sys2Proof

/-! ### Posted writes that fail -/

/-- A posted write logged as failed (R263, R264): the count, the latch if it is armed, and HOST_WRITE_FAILED. -/
def Chip.writeFailed (c : Chip) (bar2 : Bool) (off req epoch cause peerCause len : Nat) : Chip :=
  let c := c.inc Reg.HB_WFAIL_CNT
  let c := if bit (c.rd Reg.HB_WFAIL_ADDR_HI) 31 then c
    else (((c.wr Reg.HB_WFAIL_ADDR_LO (off % 2 ^ 32)).wr Reg.HB_WFAIL_ADDR_HI
        (off / 2 ^ 32 % 8 + bar2.toNat * 2 ^ 30 + 2 ^ 31)).wr Reg.HB_WFAIL_REQ
        (req % 65536 + cause * 65536 + peerCause * 2 ^ 20)).wr Reg.HB_WFAIL_EPOCH epoch
  (c.setEvt Reg.HB_EVT 1).raise 4 0x0501
    (it8 (off + bar2.toNat * 2 ^ 63) ++ it4 req ++ it4 epoch ++ it4 cause ++ it4 peerCause ++ it4 len)

/-- The requester ID of the host's register writes (log entry 15). -/
def hostReq : Nat := Config.hostRequester.toNat

/-- Whether the power block holds an offset. -/
def inPowerBlock (off : Nat) : Bool := 0xD000 ≤ off && off < 0xD100

/-- What the boot ROM serves in recovery (R439): the power block and the first 8 MiB of the ring window. -/
def inRecovery (off : Nat) : Bool := inPowerBlock off || 0x1000000 ≤ off && off < 0x1800000

/-- Whether the endpoint serves an offset of BAR0: from stage 8, or in recovery the power block and the first 8 MiB of the
ring window (R437, R439). -/
def Chip.barReady (c : Chip) (off : Nat) : Bool :=
  c.domainOn 2 && !c.power.perst &&
    (c.power.stage == 8 || c.power.recovery && inRecovery off)

/-- Whether an offset lies in the live view, which ignores writes (R469). -/
def liveView (off : Nat) : Bool := 0x10000 ≤ off && off < 0x20000

/-- The cause for which a host write at an offset of BAR0 fails, if any: during a warm reset all but the power block is off (R434);
otherwise an unmapped offset (R466), or a block whose domain is off (R467). -/
def Chip.barCause (c : Chip) (off : Nat) : Option Nat :=
  if c.power.warm && !inPowerBlock off then some 1
  else if liveView off then none
  else match blockAt off with
  | none => some 4
  | some (b, _) => if c.domainOn b.domain then none else some 1

/-- A host write of `len` octets at an offset of BAR0: served, or failed with its cause (R263). -/
def Chip.barWrite (c : Chip) (off len : Nat) (f : Chip → Chip) : Chip :=
  if !c.barReady off then c
  else match c.barCause off with
  | some cause => c.writeFailed false off hostReq (c.rd Reg.HB_EPOCH) cause 0 len
  | none => if liveView off then c else f c

/-- The meaning of a write command of one register. -/
def regCommand (off : Nat) (f : Chip → Chip) (s : State) : Host.Outcome State Fault Refusal :=
  onChip (fun _ c => c.barWrite off 4 f) s

/-! ### Accesses of several dwords (R462, R464) -/

/-- Whether a register at an 8-octet-aligned offset is the X_LO of a pair X_LO and X_HI: by the base of its block and its place in it. -/
def lowOfPair (base l : Nat) : Bool :=
  match base with
  | 0x0 => l = 0x10 || l = 0x20
  | 0x200 => l = 0x8 || l = 0x18
  | 0x400 => l = 0
  | 0x840 => l = 0x8
  | 0x3400 => 0x80 ≤ l && l < 0xA0 && l % 8 = 0
  | 0x5000 => l = 0x18 || 0x50 ≤ l && l < 0x70 && l % 8 = 0
  | 0x6000 => l = 0x8
  | 0x6400 => l = 0x8 || l = 0x10 || l = 0x18
  | 0x7000 => l % 16 = 0
  | 0x8000 => l % 16 = 0
  | 0xA000 => l = 0x8 || l = 0x10 || l = 0x18 || l = 0x28
  | 0xB000 => l = 0x8 || l = 0x10
  | _ => false

/-- Whether the dword at an offset is taken in the cycle of the dword before it: it is the X_HI of a pair. -/
def pairsDown (off : Nat) : Bool :=
  match blockAt (off - 4) with
  | some (b, _) => off % 8 = 4 && lowOfPair b.base ((off - 4 - b.base) % b.stride)
  | none => false

/-- The cycle, counted from that of the first, in which dword `n` of an access at an offset is taken. -/
def dwordCycle (off : Nat) : Nat → Nat
  | 0 => 0
  | n + 1 => dwordCycle off n + (!pairsDown (off + 4 * (n + 1))).toNat

/-! ### SECDED -/

/-- Whether a difference decodes as a double-bit error (log entry 16 for more than two bits). -/
def doubleBit (m : BitVec 64) : Bool := 2 ≤ popcount m

/-- What a read finds in one word (R394, R395, R401): a single-bit error is counted and written back corrected; a
double-bit error is counted, latched and, once an interval, raised. -/
def Chip.noteWord (c : Chip) (m cls w : Nat) : Chip :=
  let e := c.ecc m
  if e.at w = 0 then c
  else if !doubleBit (e.at w) then
    let c := (c.inc (Reg.ECC_CE_CNT m)).setEcc m { e.put w 0 with ceHere := e.ceHere + 1 }
    (c.wr (Reg.ECC_CE_ADDR_LO m) (w % 2 ^ 32)).wr (Reg.ECC_CE_ADDR_HI m) (w / 2 ^ 32 % 8 + cls * 256 + 2 ^ 31)
  else
    let c := c.inc (Reg.ECC_UE_CNT m)
    let c := if bit (c.rd (Reg.ECC_UE_ADDR_HI m)) 31 then c
      else (c.wr (Reg.ECC_UE_ADDR_LO m) (w % 2 ^ 32)).wr (Reg.ECC_UE_ADDR_HI m) (w / 2 ^ 32 % 8 + cls * 256 + 2 ^ 31)
    let c := c.setEvt (Reg.ECC_EVT m) 1
    let e := { e with ueCount := e.ueCount + 1, firstUe := if e.ueCount = 0 then w else e.firstUe }
    if e.raised && c.cycle < e.lastRaise + 800000000 then c.setEcc m e
    else (c.setEcc m { e with raised := true, lastRaise := c.cycle, ueCount := 0 }).raise 6 0x0701
      (it4 m ++ it8 e.firstUe ++ it4 cls ++ it4 e.ueCount ++ it8 c.csn)

/-- What a read of a range finds. -/
def Chip.noteRead (c : Chip) (m cls a n : Nat) : Chip :=
  ((c.ecc m).within a n).foldl (fun c w => c.noteWord m cls w) c

/-- Whether a range holds a word with a double-bit error. -/
def Chip.poisoned (c : Chip) (m a n : Nat) : Bool :=
  ((c.ecc m).within a n).any fun w => doubleBit ((c.ecc m).at w)

/-- The octet of a difference that decodes as a double-bit error, by address. -/
def Ecc.octet (e : Ecc) (a : Nat) : Byte :=
  let m := e.at (a / 8 * 8)
  if doubleBit m then (m >>> (a % 8 * 8)).setWidth 8 else 0

/-- Octets of LPDDR5X as any reader takes them (R394). -/
def Chip.fetch (c : Chip) (d : List Host.Cell) (a n : Nat) : List Byte :=
  if c.eccDram.flips.isEmpty then Memory.read d a n
  else (List.range n).map fun i => Memory.read8 d (a + i) ^^^ c.eccDram.octet (a + i)

/-- The number that octets of LPDDR5X spell. -/
def Chip.fetchLE (c : Chip) (d : List Host.Cell) (a n : Nat) : Nat := ofLE (c.fetch d a n)

/-- Where the live copy of a table stands: its memory and its offset, in Lagoon in the order of R15, in LPDDR5X in the order of
R302 from TBL_REGION_BASE on. That the live one of the two banks is the first is a DESIGN CHOICE (log entry 46). -/
def bankAt : Nat → Nat × Nat
  | 1 => (0, 0x6000000)
  | 9 => (0, 0x7000000)
  | 7 => (0, 0x8000000)
  | 3 => (1, 0)
  | 2 => (1, 28032 * 1024)
  | 8 => (1, 36224 * 1024)
  | 4 => (1, 37248 * 1024)
  | 5 => (1, 37760 * 1024)
  | 6 => (1, 37764 * 1024)
  | 10 => (1, 37892 * 1024)
  | 11 => (1, 38148 * 1024)
  | 12 => (1, 39172 * 1024)
  | 13 => (1, 39184 * 1024)
  | 14 => (1, 39248 * 1024)
  | _ => (1, 39280 * 1024)

/-- The memory and the address of a live record. -/
def Chip.liveAt (c : Chip) (t i : Nat) : Nat × Nat :=
  ((bankAt t).1, (if (bankAt t).1 = 0 then c.tblBase else 0) + (bankAt t).2 + i * recSize t)

/-- A number of `n` octets kept at an address of a memory, as a reader takes it (R394): a double-bit error reads as it stands. -/
def Chip.asRead (c : Chip) (m a n v : Nat) : Nat :=
  if (c.ecc m).flips.isEmpty then v
  else v ^^^ ofLE ((List.range n).map fun i => (c.ecc m).octet (a + i))

/-- A live record as the pipeline reads it from its bank. -/
def Chip.recIn (c : Chip) (t i : Nat) : Nat := c.asRead (c.liveAt t i).1 (c.liveAt t i).2 (recSize t) (c.recAt t i)

/-- What the reading of a live record finds. -/
def Chip.noteRec (c : Chip) (cls t i : Nat) : Chip := c.noteRead (c.liveAt t i).1 cls (c.liveAt t i).2 (recSize t)

/-- The outcome of R88 for a live record as it is read. -/
def Chip.recState (c : Chip) (t i : Nat) : Nat := recStatus t i (c.recIn t i)

/-- The banks of the records that a list of changes makes live rewritten. -/
def Chip.rewriteBanks (c : Chip) (l : List Change) : Chip :=
  if c.eccDram.flips.isEmpty && c.eccLagoon.flips.isEmpty then c
  else l.foldl (fun c ch => match ch with
    | .recs t rs _ => rs.foldl (fun c e => c.rewritten (c.liveAt t e.1).1 (c.liveAt t e.1).2 (recSize t)) c
    | .layer i _ => c.rewritten (c.liveAt 6 i).1 (c.liveAt 6 i).2 (recSize 6)
    | _ => c) c

/-! ### The working region (R303) -/

/-- Octets of the working region that hold the data of a console source, current or awaiting synchronisation. -/
def Chip.sourceAt (c : Chip) (x : Source) (waiting : Bool) : Nat :=
  c.workBase + waiting.toNat * 0x2000000 + (x.entry * 4 + x.place) * 512

/-- The bank that frame `k` has in an area of two banks. -/
def workBank (area size k : Nat) : Nat := area + k % 2 * (size / 2)

/-- The address of the attribute value V at a place (fixture × 32 + attribute) in frame `k`. -/
def Chip.valueAt (c : Chip) (k place : Nat) : Nat := c.workBase + workBank 0x4000000 0x1000000 k + 2 * place

/-- The address of the `i`-th fade slot in use in frame `k`, and of an effect generator. -/
def Chip.fadeAt (c : Chip) (k i : Nat) : Nat := c.workBase + workBank 0x5000000 0x800000 k + 16 * i
def Chip.effectAt (c : Chip) (k i : Nat) : Nat := c.workBase + workBank 0x5800000 0x100000 k + 2048 * i

/-- The half of the ferry buffer in which the ferry of frame `k` is gathered (R332); that even frames have the first is a DESIGN
CHOICE (log entry 46). -/
def Chip.ferryAt (c : Chip) (k : Nat) : Nat := c.workBase + workBank 0x5900000 0x800000 k

/-- Octets written to LPDDR5X (R396): a whole word is replaced with its code; a part of a word is merged after a read, and
a word that decodes as a double-bit error stays so. -/
def Chip.store (c : Chip) (d : List Host.Cell) (cls a : Nat) (bs : List Byte) : List Host.Cell × Chip :=
  if c.eccDram.flips.isEmpty then (Memory.write d a bs, c)
  else
    let n := bs.length
    let whole (w : Nat) : Bool := a ≤ w && w + 8 ≤ a + n
    let ws := c.eccDram.within a n
    let c' := (ws.filter fun w => !whole w).foldl (fun c w => c.noteWord 0 cls w) c
    let c' := (ws.filter whole).foldl (fun c w => c.setEcc 0 (c.eccDram.put w 0)) c'
    (Memory.write d a ((List.range n).map fun i => (bs.getD i 0) ^^^ c'.eccDram.octet (a + i)), c')

end Sys2Proof.Machine
end

