-- ==== Sys2Proof/Machine/Channels.lean ====
section
/-! DEFINITION. The command channels (R270, R279, R291 to R297): the layout of a command, the entry of a ring that is to be
taken, the order in which firmware takes commands, what becomes of one that has to wait, and the answer to a bad one. -/

namespace Sys2Proof.Machine

open Sys2Proof

/-! ### The layout of a command (R293) -/

/-- OPCODE of a command's octets. -/
def cmdOpcode (w : Nat) : Nat := bits w 0 16

/-- The header of a command as its octets spell it, for the channel that carries it. -/
def cmdHeader (ch : Chan) (w : Nat) : CmdHdr :=
  { chan := ch, tag := bits w 16 16, next := bit w 32, atCsn := bit w 33, strict := bit w 34, atTime := bit w 35
    len := bits w 48 16, target := bits w 64 64 }

/-- The payload of a command of 64 octets: 48 octets in a mailbox, 47 in a ring. -/
def cmdPayload (ch : Chan) (w : Nat) : Nat :=
  match ch with
  | .mbox _ => bits w 128 384
  | .ring _ => bits w 128 376

/-- The octets of a command, as a number: what a host writes to send it. -/
def cmdWord (op : Nat) (h : CmdHdr) (p : Nat) : Nat :=
  op + h.tag * 2 ^ 16 + h.next.toNat * 2 ^ 32 + h.atCsn.toNat * 2 ^ 33 + h.strict.toNat * 2 ^ 34 + h.atTime.toNat * 2 ^ 35 +
    h.len * 2 ^ 48 + h.target * 2 ^ 64 + p * 2 ^ 128

/-! ### Entries of host-produced rings (R270) -/

/-- The offset in the window of the slot at CONS of a ring. -/
def Chip.slotAt (c : Chip) (r : Nat) : Nat := c.ringBase r + (c.ring r).cons % c.ringSize r * 64

/-- The octets of the entry at CONS of a ring of the window, as they are read from Lagoon (R394). -/
def Chip.entryAt (c : Chip) (r : Nat) : Nat :=
  c.asRead 1 (lagoonRings + c.slotAt r) 64 (natAt c.ringMem (c.slotAt r / 64))

/-- What the read of the entry at CONS of a ring finds, for a requester class of R401. -/
def Chip.noteEntry (c : Chip) (cls r : Nat) : Chip := c.noteRead 1 cls (lagoonRings + c.slotAt r) 64

/-- The entry at CONS of a ring of a type, when it is one to take or one taken already, which completes although EN has been
cleared or the ring flushed (R268, R270, R271): below PROD, with its GEN right. -/
def Chip.frontEntry (c : Chip) (r type : Nat) : Option Nat :=
  let g := c.ring r
  let cfg := c.rd (Reg.RING_CFG r)
  let e := c.entryAt r
  if !(bits cfg 1 2 == type && c.domainOn 2 && c.domainOn 3) then none
  else if g.taken then some g.held
  else if bit cfg 0 && decide (0 < g.unread) && bit e 511 == c.genOf r g.cons then some e
  else none

/-! ### The order of service (R279, R291) -/

/-- Whether the response to the last command that firmware took from a channel is still to come: an explicit crossing, a commit
that awaits the standby, a neighbour solicited, a check under way. -/
def Chip.unanswered (c : Chip) (ch : Chan) : Bool :=
  (c.fg.explicit.any fun x => x.chan == some ch) ||
  (c.pair.mirrorWait.any fun w => w.header.any fun h => h.chan == ch) ||
  (c.ports.any fun e => e.2.solicits.any fun x => x.chan == some ch) ||
  (c.checks.any fun e => e.2.busy.any fun b => b.1 == some ch)

/-- Whether a mailbox holds a command doorbelled and not started. -/
def Chip.mboxWaits (c : Chip) (m : Nat) : Bool := (c.mbox m).busy && !c.unanswered (.mbox m)

/-- Whether a command ring presents a command. -/
def Chip.ringWaits (c : Chip) (r : Nat) : Bool := (c.frontEntry r 0).isSome && !c.unanswered (.ring r)

/-- The place of a ring in the rotation, counted from the ring after the one served last. -/
def Chip.turn (c : Chip) (r : Nat) : Nat := (r + 255 - c.lastRing) % 256

/-- Whether firmware, when it takes a command next, takes one of a channel: the channel's last command is answered; of the
mailboxes the lowest that waits comes first, then an entry already taken, then the rings in rotation. -/
def Chip.nextIn (c : Chip) (ch : Chan) : Bool :=
  !c.unanswered ch && (match ch with
    | .mbox m => !(List.range m).any c.mboxWaits
    | .ring r => (c.ring r).taken ||
        !(List.range 8).any c.mboxWaits && !c.rings.any fun e => c.ringWaits e.1 && decide (c.turn e.1 < c.turn r))

/-- Whether firmware takes a command of a channel now. -/
def Chip.takesFrom (c : Chip) (ch : Chan) : Bool := c.served && c.nextIn ch

/-- PORT and LEN of a transmit job, clamped (R277). -/
def jobPort (e : Nat) : Nat := min 4 (bits e 78 3)
def Chip.jobLen (c : Chip) (e : Nat) : Nat := clampN 14 (bits (c.lv (Reg.NET_MAXLEN (jobPort e))) 0 14 - 4) (bits e 64 14)

/-- The entry at CONS of a host-produced ring taken: read by firmware, or by the host bridge for a transmit job (classes 8 and 5,
DEDUCED from R401), which fetches the frame from host memory (R277). -/
def Chip.takeEntry (c : Chip) (r : Nat) : Chip :=
  let job := bits (c.rd (Reg.RING_CFG r)) 1 2 != 0
  let e := c.entryAt r
  let c := c.noteEntry (if job then 5 else 8) r
  let c := c.setRing r { c.ring r with taken := true, held := e, cut := false, stalled := false }
  if job then c.emit (.hostRead (bits e 0 64) (c.jobLen e)) else { c with lastRing := r }

/-- A command that has to wait, in the channel that brings it (R291): it stands there already, or the host writes it there as
R279 and R270 have it. A mailbox whose command is unanswered is still busy, and the write fails. Written so, nothing waits
anywhere but in its channel, and a reset of the host bridge discards it. -/
def Chip.keepWaiting (c : Chip) (op : Nat) (h : CmdHdr) (p : Nat) : Chip :=
  match h.chan with
  | .mbox m =>
    if 8 ≤ m || !c.barReady (Reg.MB_DOORBELL m) || c.power.warm || c.mboxWaits m then c
    else if c.unanswered (.mbox m) then
      c.writeFailed false (Reg.MB_DOORBELL m) hostReq (c.rd Reg.HB_EPOCH) 3 0 4
    else (c.wrWords (Reg.MB_CMD m 0) 16 (cmdWord op h p)).setMbox m { c.mbox m with busy := true, done := false }
  | .ring r =>
    let g := c.ring r
    let cfg := c.rd (Reg.RING_CFG r)
    if !c.barReady 0x1000000 || c.power.warm || !c.domainOn 3 || !(bit cfg 0 && bits cfg 1 2 == 0) || (g.taken && !g.cut).toNat < g.unread ||
        c.ringSize r ≤ g.unread + 1 then c
    else (c.storeEntry r g.prod (cmdWord op h p)).setRing r { g with prod := (g.prod + 1) % 2 ^ 32 }

/-! ### Bad commands (R294, R297) -/

/-- Whether an opcode is a commit's (R296, R306 to R317). -/
def commitOpcode (op : Nat) : Bool :=
  (0x0301 ≤ op && op ≤ 0x030F) ||
    [0x0103, 0x0104, 0x0201, 0x0202, 0x0204, 0x0402, 0x0420, 0x0422, 0x0510, 0x0511, 0x0701, 0x0702, 0x0703, 0x0801,
      0x0802, 0x0803, 0x0903, 0x0905, 0x0B04].contains op

/-- A command answered BAD_COMMAND (R294, R297). -/
def Chip.badCommand (c : Chip) (h : CmdHdr) (op detail : Nat) : Chip :=
  c.respond h.chan op h.tag ⟨8, detail, if commitOpcode op then c.openCsn else c.csn, []⟩

/-- Whether an opcode is one that R307 to R317 and R306 list. -/
def listedOpcode (op : Nat) : Bool :=
  let n := op % 256
  match op / 256 with
  | 1 => 1 ≤ n && n ≤ 7
  | 2 => 1 ≤ n && n ≤ 4 || 0x10 ≤ n && n ≤ 0x12
  | 3 => 1 ≤ n && n ≤ 0x10
  | 4 => 1 ≤ n && n ≤ 3 || 0x20 ≤ n && n ≤ 0x23
  | 5 => 0x10 ≤ n && n ≤ 0x12
  | 6 => 0x10 ≤ n && n ≤ 0x12
  | 7 => 1 ≤ n && n ≤ 5
  | 8 => 1 ≤ n && n ≤ 5
  | 9 => 1 ≤ n && n ≤ 7
  | 10 => 1 ≤ n && n ≤ 3
  | 11 => 1 ≤ n && n ≤ 7
  | _ => false

/-- Whether a command's result exceeds what a ring carries: those marked M. -/
def longOpcode (op : Nat) : Bool := [0x0401, 0x0805, 0x0904, 0x0B06].contains op

/-- DETAIL of BAD_COMMAND, if a command is one: LEN, then the opcode, then the result. -/
def badDetail (h : CmdHdr) (op : Nat) : Option Nat :=
  if (match h.chan with | .mbox _ => 48 | .ring _ => 47) < h.len then some 3
  else if !listedOpcode op then some 1
  else match h.chan with
  | .ring _ => if longOpcode op then some 2 else none
  | .mbox _ => none

/-- A firmware command in its channel: LEN first, then a result that a ring cannot carry (R294, R297); payload octets at
and beyond LEN read as 0. -/
def Chip.inChannel {α : Type} (c : Chip) (op : Nat) (long : Bool) (h : CmdHdr) (p : Nat)
    (bad : Chip → α) (f : Nat → α) : α :=
  match h.chan with
  | .mbox _ => if 48 < h.len then bad (c.badCommand h op 3) else f (p % 256 ^ h.len)
  | .ring _ =>
    if 47 < h.len then bad (c.badCommand h op 3)
    else if long then bad (c.badCommand h op 2) else f (p % 256 ^ h.len)

/-! ### What firmware does with a command -/

/-- A command of firmware: it acts when firmware takes it, and otherwise waits in its channel. -/
def whenTaken (op : Nat) (h : CmdHdr) (p : Nat) (f : List Host.Cell → Chip → Chip) (s : State) :
    Host.Outcome State Fault Refusal :=
  onChip (fun d c => if c.takesFrom h.chan then f d c else c.keepWaiting op h p) s

/-- The meaning of a firmware command that acts on the part alone. -/
def firmware (op : Nat) (long : Bool) (h : CmdHdr) (p : Nat)
    (f : Nat → List Host.Cell → Chip → Chip) (s : State) : Host.Outcome State Fault Refusal :=
  whenTaken op h p (fun d c => c.inChannel op long h p id fun p => f p d c) s

/-- The meaning of a firmware command that acts on LPDDR5X too. -/
def firmwareBoth (op : Nat) (h : CmdHdr) (p : Nat)
    (f : Nat → List Host.Cell → Chip → List Host.Cell × Chip) (s : State) : Host.Outcome State Fault Refusal :=
  onBoth (fun d c =>
    if c.takesFrom h.chan then c.inChannel op false h p (fun c => (d, c)) fun p => f p d c
    else (d, c.keepWaiting op h p)) s

end Sys2Proof.Machine
end

