-- ==== Sys2Proof/Machine/Composition.lean ====
section
/-! DEFINITION. Canvas composition: source formats, transfers and primaries (R91, R92), placement (R93), the blend arithmetic
(R94), the latch with its tag and cover pass (R88, R95 to R98, R105), and the bands of a frame (R84, R99, R102). All values
are exact rationals from 0 to 1 but for the transfers that have none (log entry 14). -/

namespace Sys2Proof.Machine

open Sys2Proof

/-- A colour with alpha. -/
structure Rgba where
  r : Rat
  g : Rat
  b : Rat
  a : Rat
  deriving DecidableEq, Repr

def Rgba.map (f : Rat → Rat) (p : Rgba) : Rgba := ⟨f p.r, f p.g, f p.b, f p.a⟩
def Rgba.zip (f : Rat → Rat → Rat) (p q : Rgba) : Rgba := ⟨f p.r q.r, f p.g q.g, f p.b q.b, f p.a q.a⟩
/-- The three colours mapped, the alpha kept. -/
def Rgba.mapRgb (f : Rat → Rat) (p : Rgba) : Rgba := { p with r := f p.r, g := f p.g, b := f p.b }

/-- A 16-bit code as its value. -/
def unit16 (v : Nat) : Rat := (v : Rat) / 65535
/-- A value held to the nearest 16-bit code, halves up, as the value of that code (R92, R94). -/
def toCode (q : Rat) : Nat := (clampI 0 65535 (roundHalfUp (q * 65535))).toNat
/-- A value rounded once to 16 bits. -/
def round16 (q : Rat) : Rat := unit16 (toCode q)

/-! ### Transfers and primaries (R92) -/

/-- The inverse of TRANSFER: linear, sRGB, BT.1886 (black at 0), PQ with 203 cd/m² at 1.0, HLG (constants of the named
standards, PRESUMED, log entry 17). -/
def inverseTransfer (t : Nat) (v : Rat) : Rat :=
  match t with
  | 1 => if v ≤ 4045 / 100000 then v * 100 / 1292 else rpow ((v + 55 / 1000) / (1055 / 1000)) (12 / 5)
  | 2 => rpow v (12 / 5)
  | 3 =>
    let e := rpow v (32 / 2523)
    let x := e - 3424 / 4096
    (if x ≤ 0 then 0 else rpow (x / (2413 / 128 - 2392 / 128 * e)) (16384 / 2610)) * 10000 / 203
  | 4 =>
    let a : Rat := 17883277 / 100000000
    let b := 1 - 4 * a
    let k := 1 / 2 - a * ln (4 * a)
    if v ≤ 1 / 2 then v * v / 3 else if v = 1 then 1 else (exp ((v - k) / a) + b) / 12
  | _ => v

/-- A 3 × 3 matrix, row by row. -/
structure Mat3 where
  a : Rat × Rat × Rat
  b : Rat × Rat × Rat
  c : Rat × Rat × Rat
  deriving DecidableEq, Repr

/-- A row times a colour. -/
def rowTimes (m v : Rat × Rat × Rat) : Rat := m.1 * v.1 + m.2.1 * v.2.1 + m.2.2 * v.2.2

/-- A matrix times a colour. -/
def Mat3.times (m : Mat3) (v : Rat × Rat × Rat) : Rat × Rat × Rat := (rowTimes m.a v, rowTimes m.b v, rowTimes m.c v)

/-- BT.709 to BT.2020, as ITU-R BT.2087 gives it (PRESUMED, log entry 17). -/
def bt709to2020 : Mat3 :=
  ⟨(6274 / 10000, 3293 / 10000, 433 / 10000), (691 / 10000, 9195 / 10000, 114 / 10000),
   (164 / 10000, 880 / 10000, 8956 / 10000)⟩

/-- The vector product of two rows, for the inverse. -/
def cross (u v : Rat × Rat × Rat) : Rat × Rat × Rat :=
  (u.2.1 * v.2.2 - u.2.2 * v.2.1, u.2.2 * v.1 - u.1 * v.2.2, u.1 * v.2.1 - u.2.1 * v.1)

/-- The inverse of a matrix. -/
def Mat3.inverse (m : Mat3) : Mat3 :=
  let x := cross m.b m.c
  let y := cross m.c m.a
  let z := cross m.a m.b
  let d := rowTimes m.a x
  ⟨(x.1 / d, y.1 / d, z.1 / d), (x.2.1 / d, y.2.1 / d, z.2.1 / d), (x.2.2 / d, y.2.2 / d, z.2.2 / d)⟩

/-- BT.2020 to BT.709: the inverse matrix (DEDUCED from R135, log entry 17). -/
def bt2020to709 : Mat3 := bt709to2020.inverse

/-- The matrix of a canvas record, from BT.2020 to its own space. -/
def CanvasRec.matrix (r : Nat) : Mat3 :=
  let e (i j : Nat) : Rat := (CanvasRec.m r i j : Rat) / 2 ^ 28
  ⟨(e 0 0, e 0 1, e 0 2), (e 1 0, e 1 1, e 1 2), (e 2 0, e 2 1, e 2 2)⟩

/-- A colour in the canvas space, held to [0, 1] (R92, step 3). -/
def toCanvas (cv prim : Nat) (p : Rgba) : Rgba :=
  let v := (p.r, p.g, p.b)
  let v := match prim, CanvasRec.space cv with
    | 0, _ => v
    | 1, 0 => v
    | 1, 1 => bt709to2020.times v
    | 1, _ => (CanvasRec.matrix cv).times (bt709to2020.times v)
    | _, 0 => bt2020to709.times v
    | _, 1 => v
    | _, _ => (CanvasRec.matrix cv).times v
  ⟨clampQ 0 1 v.1, clampQ 0 1 v.2.1, clampQ 0 1 v.2.2, p.a⟩

/-! ### Source pixels (R91, R92) -/

/-- Y′CbCr codes of 10 bits decoded to R′G′B′ and held to [0, 1] (R92, step 1; PRESUMED from BT.709, BT.2020 and BT.2100,
log entry 17). -/
def decodeYcc (bt2020 full : Bool) (y cb cr : Rat) : Rgba :=
  let yv := if full then y / 1023 else (y - 64) / 876
  let cv (x : Rat) := if full then (x - 512) / 1023 else (x - 512) / 896
  let kr : Rat := if bt2020 then 2627 / 10000 else 2126 / 10000
  let kb : Rat := if bt2020 then 593 / 10000 else 722 / 10000
  let r := yv + 2 * (1 - kr) * cv cr
  let b := yv + 2 * (1 - kb) * cv cb
  let g := (yv - kr * r - kb * b) / (1 - kr - kb)
  ⟨clampQ 0 1 r, clampQ 0 1 g, clampQ 0 1 b, 1⟩

/-- The four 10-bit codes of a pgroup: Cb, Y0, Cr, Y1. -/
def pgroup (l : List Byte) : Nat × Nat × Nat × Nat :=
  let x := ofBE l
  (bits x 30 10, bits x 20 10, bits x 10 10, bits x 0 10)

/-- The 4:2:2 pixel at column `x` of a line whose pgroups `g` gives: chroma of an odd pixel lies half way between its own
pgroup and the next, or is its own at the end of the source rectangle. -/
def yccPixel (r x : Nat) (g : Nat → Nat × Nat × Nat × Nat) : Rgba :=
  let p := g (x / 2)
  let q := if x + 1 < LayerRec.srcX r + LayerRec.srcW r then g (x / 2 + 1) else p
  let bt2020 := LayerRec.yccMatrix r == 1
  if x % 2 = 0 then decodeYcc bt2020 (LayerRec.yccFull r) p.2.1 p.1 p.2.2.1
  else decodeYcc bt2020 (LayerRec.yccFull r) p.2.2.2 (((p.1 : Rat) + q.1) / 2) (((p.2.2.1 : Rat) + q.2.2.1) / 2)

/-- Steps 2 to 4 of R92 on a pixel with straight alpha. -/
def linearPixel (cv r : Nat) (p : Rgba) : Rgba :=
  let p := if LayerRec.ignoreAlpha r then { p with a := 1 } else p
  let p := toCanvas cv (LayerRec.primaries r) (p.mapRgb (inverseTransfer (LayerRec.transfer r)))
  if LayerRec.premul r then p else p.mapRgb (· * p.a)

/-- A source pixel as a premultiplied linear value in the canvas space (R92, steps 1 to 4). -/
def Chip.sourcePixel (c : Chip) (d : List Host.Cell) (cv r x y : Nat) : Rgba :=
  let line := LayerRec.addr r + y * LayerRec.stride r
  match LayerRec.format r with
  | 0 =>
    let b (k : Nat) : Rat := (c.fetchLE d (line + 4 * x + k) 1 : Rat) / 255
    linearPixel cv r ⟨b 0, b 1, b 2, b 3⟩
  | 1 =>
    let w (k : Nat) : Rat := unit16 (c.fetchLE d (line + 8 * x + 2 * k) 2)
    linearPixel cv r ⟨w 0, w 1, w 2, w 3⟩
  | 2 => linearPixel cv r (yccPixel r x fun k => pgroup (c.fetch d (line + 5 * k) 5))
  | _ =>
    let m := unit16 (c.fetchLE d (line + 2 * x) 2)
    ⟨m, m, m, if LayerRec.ignoreAlpha r then 1 else m⟩

/-- The colour of a solid layer (R85, R92). -/
def solidPixel (cv r : Nat) : Rgba :=
  let p : Rgba := ⟨unit16 (LayerRec.solid r 0), unit16 (LayerRec.solid r 1), unit16 (LayerRec.solid r 2),
    if LayerRec.ignoreAlpha r then 1 else unit16 (LayerRec.solid r 3)⟩
  let q := toCanvas cv (LayerRec.primaries r) p
  q.mapRgb (· * q.a)

/-! ### Placement and filtering (R93) -/

/-- The source position of a destination pixel along one axis. -/
def sourcePos (x : Nat) (dst : Int) (dstLen srcLen src : Nat) : Rat :=
  ((x : Rat) - dst + 1 / 2) * srcLen / dstLen + src

/-- An index held inside the source rectangle. -/
def inSource (lo len : Nat) (i : Int) : Nat := (clampI lo ((lo : Int) + len - 1) i).toNat

/-- The source value that a layer brings to a destination pixel, before opacity. -/
def Chip.sampleLayer (c : Chip) (d : List Host.Cell) (cv r x y : Nat) : Rgba :=
  if LayerRec.source r = 2 then solidPixel cv r
  else
    let su := sourcePos x (LayerRec.dstX r) (LayerRec.dstW r) (LayerRec.srcW r) (LayerRec.srcX r)
    let sv := sourcePos y (LayerRec.dstY r) (LayerRec.dstH r) (LayerRec.srcH r) (LayerRec.srcY r)
    let at_ (i j : Int) : Rgba :=
      c.sourcePixel d cv r (inSource (LayerRec.srcX r) (LayerRec.srcW r) i) (inSource (LayerRec.srcY r) (LayerRec.srcH r) j)
    if !LayerRec.bilinear r then at_ su.floor sv.floor
    else
      let i := (su - 1 / 2).floor
      let j := (sv - 1 / 2).floor
      let fx := su - 1 / 2 - i
      let fy := sv - 1 / 2 - j
      let mix (t : Rat) (p q : Rgba) : Rgba := p.zip (fun a b => (1 - t) * a + t * b) q
      mix fy (mix fx (at_ i j) (at_ (i + 1) j)) (mix fx (at_ i (j + 1)) (at_ (i + 1) (j + 1)))

/-! ### Blending (R94) -/

/-- One colour component of modes 0 to 5, from the codes' exact values. -/
def blendColour (mode : Nat) (s sa d da : Rat) : Rat :=
  match mode with
  | 0 => s + (1 - sa) * d
  | 1 => min 1 (s + d)
  | 2 => s * d + (1 - da) * s + (1 - sa) * d
  | 3 => s + d - s * d
  | 4 => max (s * da) (d * sa) + (1 - da) * s + (1 - sa) * d
  | _ => min (s * da) (d * sa) + (1 - da) * s + (1 - sa) * d

/-- A destination pixel after a layer: `s` rounded to 16 bits after opacity, `a` the source alpha before it. -/
def blendPixel (mode : Nat) (o a : Rat) (s p : Rgba) : Rgba :=
  match mode with
  | 6 => p.map fun x => round16 (x * (1 - o + o * a))
  | 7 => p.zip (fun x y => round16 (y + (1 - o) * x)) s
  | _ => ⟨round16 (blendColour mode s.r s.a p.r p.a), round16 (blendColour mode s.g s.a p.g p.a),
      round16 (blendColour mode s.b s.a p.b p.a), round16 (s.a + p.a - s.a * p.a)⟩

/-- Whether a layer covers a pixel of its canvas. -/
def covers (r x y : Nat) : Bool :=
  LayerRec.dstX r ≤ x && (x : Int) < LayerRec.dstX r + LayerRec.dstW r && LayerRec.dstY r ≤ y &&
    (y : Int) < LayerRec.dstY r + LayerRec.dstH r

/-- The background of a canvas, premultiplied and rounded once (R84). -/
def background (cv : Nat) : Rgba :=
  let a := unit16 (CanvasRec.bg cv 3)
  let f (j : Nat) : Rat := round16 (unit16 (CanvasRec.bg cv j) * a)
  ⟨f 0, f 1, f 2, a⟩

/-- A pixel of a canvas composed from its background and the drawn layers, lowest first. -/
def Chip.composePixel (c : Chip) (d : List Host.Cell) (cv : Nat) (ls : List Nat) (x y : Nat) : Rgba :=
  ls.foldl (fun p r =>
    if covers r x y then
      let s := c.sampleLayer d cv r x y
      let o := unit16 (LayerRec.opacity r)
      blendPixel (LayerRec.blend r) o s.a (s.map fun v => round16 (v * o)) p
    else p) (background cv)

/-- The eight octets of a pixel (R84). -/
def pixelBytes (p : Rgba) : List Byte :=
  leBytes 2 (toCode p.r) ++ leBytes 2 (toCode p.g) ++ leBytes 2 (toCode p.b) ++ leBytes 2 (toCode p.a)

/-! ### The latch (R88, R96, R97, R105) -/

/-- The tiles that a rectangle meets. -/
def tilesMet (r : Nat × Nat × Nat × Nat) : List (Nat × Nat) :=
  if rectArea r = 0 then []
  else ((List.range ((r.2.2.2 - 1) / 64 + 1 - r.2.2.1 / 64)).map fun j =>
    (List.range ((r.2.1 - 1) / 64 + 1 - r.1 / 64)).map fun i => (r.1 / 64 + i, r.2.2.1 / 64 + j)).flatten

/-- The part of a tile in a rectangle. -/
def tileIn (r : Nat × Nat × Nat × Nat) (t : Nat × Nat) : Nat :=
  rectArea (max r.1 (64 * t.1), min r.2.1 (64 * t.1 + 64), max r.2.2.1 (64 * t.2), min r.2.2.2 (64 * t.2 + 64))

/-- Whether a rectangle contains the part of a tile that lies on its canvas. -/
def tileCovered (cv : Nat) (r : Nat × Nat × Nat × Nat) (t : Nat × Nat) : Bool :=
  tileIn r t == tileIn (0, CanvasRec.width cv, 0, CanvasRec.height cv) t

/-- Whether a layer is opaque for the cover map (R95). -/
def opaqueLayer (r : Nat) : Bool :=
  LayerRec.opacity r == 0xFFFF &&
    (LayerRec.blend r == 7 ||
      LayerRec.blend r == 0 && (LayerRec.ignoreAlpha r || (LayerRec.source r != 2 && LayerRec.format r == 2) ||
        (LayerRec.source r == 2 && LayerRec.solid r 3 == 0xFFFF)))

/-- A stream layer's record with the buffer, the stride and the source rectangle of the frame it takes (R105). -/
def streamLayer (r sr buffer : Nat) : Nat :=
  let x := min (LayerRec.srcX r) (StreamRec.width sr - 1) / 2 * 2
  let y := min (LayerRec.srcY r) (StreamRec.height sr - 1)
  let r := setFld (setFld r 0 0 64 (StreamRec.base sr + buffer * StreamRec.bufLen sr)) 8 0 32 (StreamRec.stride sr)
  let r := setFld (setFld r 0x10 0 16 x) 0x12 0 16 y
  setFld (setFld r 0x14 0 16 (min (LayerRec.srcW r) (StreamRec.width sr - x))) 0x16 0 16
    (min (LayerRec.srcH r) (StreamRec.height sr - y))

/-- What the pass over a canvas has found so far. -/
structure Pass where
  chip    : Chip
  covered : List (Nat × Nat)
  latched : List LatchedLayer
  fetched : Nat
  culled  : Nat
  failed  : List (Nat × Nat × Nat)
  deriving DecidableEq, Repr

/-- One layer of the pass of R96, from the highest down. -/
def Pass.layer (d : List Host.Cell) (k cv : Nat) (s : Pass) (e : Nat × Nat) : Pass :=
  let r := e.2
  let rect := clipRect cv r
  let tiles := tilesMet rect
  let cull := bit (s.chip.lv Reg.COMP_CFG) 8
  let none_ : LatchedLayer := ⟨k, e.1 % 64, r, false⟩
  if tiles.isEmpty then { s with latched := none_ :: s.latched }
  else if cull && tiles.all s.covered.contains then
    { s with latched := none_ :: s.latched, culled := s.culled + rectArea rect }
  else
    let found := s.chip.fetchLE d (LayerRec.addr r - 64) 4
    let c := if LayerRec.source r = 0 then s.chip.noteRead 0 0 (LayerRec.addr r - 64) 4 else s.chip
    if LayerRec.source r = 0 && found != LayerRec.tag r then
      { s with chip := c, latched := none_ :: s.latched, failed := s.failed ++ [(e.1 % 64, LayerRec.tag r, found)] }
    else
      let str := s.chip.stream (LayerRec.stream r)
      if LayerRec.source r = 1 && str.taken.isNone then { s with chip := c, latched := none_ :: s.latched }
      else
        let lr := match str.taken with
          | some (_, b) => if LayerRec.source r = 1 then streamLayer r (c.recAt 15 (LayerRec.stream r)) b else r
          | none => r
        let open_ := if cull then tiles.filter fun t => !s.covered.contains t else tiles
        let n := (open_.map (tileIn rect)).sum
        { chip := c
          covered := if opaqueLayer r then (tiles.filter (tileCovered cv rect)) ++ s.covered else s.covered
          latched := ⟨k, e.1 % 64, lr, true⟩ :: s.latched
          fetched := s.fetched + n
          culled := s.culled + (rectArea rect - n)
          failed := s.failed }

/-- The stream frames that the layers of a frame take (R105): each stream that a layer names takes its latest frame, once for the
frame; one that has none new is counted as a repeat. -/
def Chip.takeStreams (c : Chip) (ss : List Nat) : Chip :=
  ss.foldl (fun c i =>
    let s := c.stream i
    let repeated := c.inc (Reg.STREAM_REPEAT_CNT i)
    match s.latest with
    | none => if s.taken.isSome then repeated else c
    | some f => (if s.fresh then c else repeated).setStream i { s with taken := some f, fresh := false }) c

/-- The enabled layer records of a trusted canvas that are trusted; the others are reported (R88). -/
def Chip.trustedLayers (c : Chip) (csn k : Nat) : Chip × List (Nat × Nat) :=
  (c.layersOf k).foldl (fun s e =>
    let st := s.1.recState 6 e.1
    let c := s.1.noteRec 0 6 e.1
    if st = 0 then (c, s.2 ++ [e])
    else ((c.setEvt Reg.COMP_EVT 4).raise 26 0x0C03 (it4 k ++ it4 (e.1 % 64) ++ it8 csn ++ it4 st), s.2)) (c, [])

/-- The streams that the trusted layers of the trusted canvases name. -/
def Chip.namedStreams (c : Chip) : List Nat :=
  ((c.canvases.filter fun e => c.recState 5 e.1 == 0).map fun e =>
    ((c.layersOf e.1).filter fun l => c.recState 6 l.1 == 0 && LayerRec.source l.2 == 1).map fun l =>
      LayerRec.stream l.2).flatten.eraseDups

/-- The latch and the pass of one enabled canvas (R83, R88, R96). -/
def Chip.latchCanvas (c : Chip) (d : List Host.Cell) (csn : Nat) (e : Nat × Nat) : Chip :=
  let k := e.1
  let st := c.recState 5 k
  let c := c.noteRec 0 5 k
  if st ≠ 0 then (c.setEvt Reg.COMP_EVT 4).raise 26 0x0C04 (it4 k ++ it8 csn ++ it4 st)
  else
    let r := c.trustedLayers csn k
    let ls := r.2
    let c := ls.foldl (fun c l =>
      if LayerRec.source l.2 = 1 && (c.stream (LayerRec.stream l.2)).taken.isNone then
        (c.setEvt Reg.COMP_EVT 8).raise 26 0x0C06 (it4 k ++ it4 (l.1 % 64) ++ it4 (LayerRec.stream l.2) ++ it8 csn)
      else c) r.1
    let p := ls.reverse.foldl (Pass.layer d k e.2) ⟨c, [], [], 0, 0, []⟩
    let c := p.failed.foldl (fun c f =>
      ((c.inc Reg.COMP_TAGFAIL_CNT).setEvt Reg.COMP_EVT 1).raise 26 0x0C01
        (it4 k ++ it4 f.1 ++ it8 csn ++ it4 f.2.1 ++ it4 f.2.2)) p.chip
    { c with
      lastCanvas := setNat c.lastCanvas k e.2
      frame := { c.frame with
        canvases := setNat c.frame.canvases k e.2
        layers := c.frame.layers ++ p.latched
        bands := c.frame.bands ++ (List.range (ceilDiv (CanvasRec.height e.2) 64)).map fun b => (k, b)
        fetchPxl := c.frame.fetchPxl + p.fetched
        cullPxl := c.frame.cullPxl + p.culled } }

/-- COMP_FETCH_PXL and COMP_CULL_PXL at the crossing that ends a frame all of whose bands have been written (R108; DEDUCED, log
entry 42). -/
def Chip.composeDone (c : Chip) : Chip :=
  if c.frame.bands.isEmpty && c.domainOn 5 then
    (c.wr Reg.COMP_FETCH_PXL c.frame.fetchPxl).wr Reg.COMP_CULL_PXL c.frame.cullPxl
  else c

/-- Each free lane given the next band that no lane has (R99). -/
def Chip.handBands (c : Chip) : Chip :=
  (List.range 8).foldl (fun c n =>
    if (c.frame.lanes.getD n none).isSome then c
    else match c.frame.bands.find? fun b => !c.frame.lanes.contains (some b) with
    | none => c
    | some b => { c with frame := { c.frame with lanes := c.frame.lanes.set n (some b) } }) c

/-- The latch of a frame: every enabled canvas, in order, while the compositor is on; its bands go to the lanes. Records that go
live while PD_COMPOSE is off are latched by no frame, so they are neither checked nor kept as the last trusted ones (DESIGN
CHOICE, log entry 45). -/
def Chip.latchFrame (c : Chip) (d : List Host.Cell) (csn : Nat) : Chip :=
  if c.domainOn 5 then (c.canvases.foldl (fun c e => c.latchCanvas d csn e) (c.takeStreams c.namedStreams)).handBands else c

/-- The bands of the last frame that its successor abandons (R102). -/
def Chip.abandonBands (c : Chip) : Chip :=
  let n := c.frame.bands.length
  if n = 0 || !c.domainOn 5 then c.composeDone.wr Reg.COMP_STATUS 0
  else (((c.wr Reg.COMP_STATUS 2).inc Reg.COMP_OVERRUN_CNT).setEvt Reg.COMP_EVT 2).raise 26 0x0C05
    (it8 c.frame.csn ++ it4 n)

/-! ### Retirement (R103) -/

/-- The buffer that a layer record holds: its address, while it is enabled with SOURCE 0. -/
def heldBuffer (r : Nat) : Option Nat := if LayerRec.en r && LayerRec.source r == 0 then some (LayerRec.addr r) else none

/-- The contents that a commit names for a layer record, in order. -/
def Change.layerContents : Change → List (Nat × Nat)
  | .layer i r => [(i, r)]
  | .recs 6 rs _ => rs
  | _ => []

/-- The buffers replaced at crossing `csn`, from the layer records before it and the contents that its commits applied. -/
def retiredAt (csn : Nat) (before : List (Nat × Nat)) (live : Nat → Nat) (named : List (Nat × Nat)) : List Retired :=
  let entry (i r : Nat) : Retired := ⟨i / 64, i % 64, LayerRec.addr r, LayerRec.tag r, csn⟩
  let old := (before.filter fun e => (heldBuffer e.2).isSome && heldBuffer (live e.1) != heldBuffer e.2).map fun e =>
    entry e.1 e.2
  let never := named.filter fun e =>
    (heldBuffer e.2).isSome && heldBuffer (live e.1) != heldBuffer e.2 &&
      !(before.any fun b => b.1 == e.1 && heldBuffer b.2 == heldBuffer e.2)
  -- one event for a buffer that several of the commits named, with the last tag (DEDUCED, log entry 45)
  let once := never.zipIdx.filter fun e => !(never.drop (e.2 + 1)).any fun x =>
    x.1 == e.1.1 && heldBuffer x.2 == heldBuffer e.1.2
  old ++ once.map fun e => entry e.1.1 e.1.2

/-- LAYER_RETIRED for every buffer replaced at the crossing before (R103). -/
def Chip.announceRetired (c : Chip) : Chip :=
  let l := c.retired
  l.foldl (fun c r => (c.setEvt Reg.COMP_EVT 16).raise 26 0x0C02
    (it4 r.canvas ++ it4 r.layer ++ it8 r.addr ++ it4 r.tag ++ it8 r.csn)) { c with retired := [] }

/-! ### Bands (R84, R99, R100) -/

/-- The records of the layers drawn on a canvas in this frame, lowest first. -/
def Chip.drawnLayers (c : Chip) (k : Nat) : List Nat :=
  (c.frame.layers.filter fun l => l.canvas == k && l.draw).map (·.record)

/-- The source lines that a layer reads for lines `y0` to `y1` − 1 of its canvas, for what the reads find (R394). -/
def Chip.noteBand (c : Chip) (cv y0 y1 : Nat) (r : Nat) : Chip :=
  let rect := clipRect cv r
  let lo := max rect.2.2.1 y0
  let hi := min rect.2.2.2 y1
  if c.eccDram.flips.isEmpty || LayerRec.source r = 2 || hi ≤ lo || rect.2.1 ≤ rect.1 then c
  else
    let v (y : Nat) : Rat := sourcePos y (LayerRec.dstY r) (LayerRec.dstH r) (LayerRec.srcH r) (LayerRec.srcY r)
    let h : Rat := if LayerRec.bilinear r then 1 / 2 else 0
    let s0 := inSource (LayerRec.srcY r) (LayerRec.srcH r) (v lo - h).floor
    let s1 := inSource (LayerRec.srcY r) (LayerRec.srcH r) (v (hi - 1) + h).floor
    (List.range (s1 + 1 - s0)).foldl (fun c j =>
      let line := LayerRec.addr r + (s0 + j) * LayerRec.stride r
      let x0 := layerLine (LayerRec.format r) 0 (LayerRec.srcX r)
      c.noteRead 0 0 (line + x0) (layerLine (LayerRec.format r) (LayerRec.srcX r) (LayerRec.srcW r) - x0)) c

/-- What the line buffer of a lane has come to over a band (R100): its fill, how often it fell below the tideline, each time a
promotion that is counted, and its lowest fill, all free values (log entry 18), but that a lane whose fetches are not promoted, and
that falls nowhere, stays at or above the tideline. Its fetches stay promoted while the fill is below it. -/
def Chip.laneFill (c : Chip) (n : Nat) : Chip :=
  let tide := bits (c.lv Reg.COMP_CFG) 0 7
  let v := c.free % 101
  let c := c.drew
  let falls := c.free % 65536
  let c := c.drew
  let above := falls = 0 && !c.frame.urgent.getD n false
  let low := min v (c.free % 101)
  let low := if 0 < falls then min low (tide - 1) else if above then max low tide else low
  let v := if above then max v tide else v
  let c := c.drew.wr (Reg.LANE_LEVEL n) v
  let c := { c with frame := { c.frame with urgent := c.frame.urgent.set n (decide (v < tide)) } }
  (c.wr (Reg.LANE_MIN_LEVEL n) (min low (c.rd (Reg.LANE_MIN_LEVEL n)))).add (Reg.LANE_URGENT_CNT n) falls

/-- The lines of a canvas from `y0` on, before `y1`, composed and written. -/
def Chip.writeLines (c : Chip) (d : List Host.Cell) (k y0 y1 : Nat) : List Host.Cell × Chip :=
  let cv := natAt c.frame.canvases k
  let ls := c.drawnLayers k
  let d0 := d
  let c := ls.foldl (fun c r => c.noteBand cv y0 y1 r) c
  (List.range (y1 - y0)).foldl (fun (s : List Host.Cell × Chip) j =>
    s.2.store s.1 0 (CanvasRec.addr cv + (y0 + j) * CanvasRec.stride cv)
      (((List.range (CanvasRec.width cv)).map fun x => pixelBytes (c.composePixel d0 cv ls x (y0 + j))).flatten)) (d, c)

/-- The line after the last of a band. -/
def Chip.bandEnd (c : Chip) (k b : Nat) : Nat := min (CanvasRec.height (natAt c.frame.canvases k)) (64 * b + 64)

/-- The band of lane `n` finished: written, and the lane given the next (R99). Its lines reach LPDDR5X, and its sources are read, all as it
is finished (DESIGN CHOICE, log entry 18). -/
def Chip.writeBand (c : Chip) (d : List Host.Cell) (n k b : Nat) : List Host.Cell × Chip :=
  let r := c.writeLines d k (64 * b) (c.bandEnd k b)
  (r.1, (Chip.laneFill { r.2 with frame := { r.2.frame with
    bands := r.2.frame.bands.filter (· != (k, b)), lanes := r.2.frame.lanes.set n none } } n).handBands)

/-- The bands that the lanes have as a crossing abandons them: of each, some lines from the top on are written, a free value, and
the others keep their earlier contents (R99, R102, log entry 18). -/
def Chip.leaveBands (c : Chip) (d : List Host.Cell) : List Host.Cell × Chip :=
  let r := c.frame.lanes.zipIdx.foldl (fun (s : List Host.Cell × Chip) lane =>
    match lane.1 with
    | none => s
    | some b =>
      let n : Nat := s.2.free % (s.2.bandEnd b.1 b.2 - 64 * b.2)
      let r := s.2.drew.writeLines s.1 b.1 (64 * b.2) (64 * b.2 + n)
      (r.1, r.2.laneFill lane.2)) (d, c)
  (r.1, { r.2 with frame := { r.2.frame with lanes := List.replicate 8 none } })

end Sys2Proof.Machine
end

