-- ==== Sys2Proof/Machine/Ports.lean ====
section
/-! DEFINITION. What leaves a network port, and when: the rate and the addresses of a port, stamps (R68 to R70), the next
crossing and the next transmission that a port knows of (R199, R242), low-power idle (R241, R242), the hold of a PAUSE with the
frames that wait behind it or for a crossing (R199, R243), the groups that firmware holds, and its reports (R239, R240). -/

namespace Sys2Proof.Machine

open Sys2Proof

/-! ### Ports -/

/-- The MAC address of a port in wire order (R253). -/
def Chip.macOf (c : Chip) (p : Nat) : Nat := bits (c.lv (Reg.NET_MAC_HI p)) 0 16 * 2 ^ 32 + c.lv (Reg.NET_MAC_LO p)

/-- The IPv6 link-local address that firmware forms from a port's MAC (R235). -/
def Chip.linkLocal (c : Chip) (p : Nat) : Nat :=
  let m := c.macOf p
  0xFE80 * 2 ^ 112 + ((m / 2 ^ 24) ^^^ 0x020000) * 2 ^ 40 + 0xFFFE * 2 ^ 24 + m % 2 ^ 24

/-- An IP address of a port, 0 for none. -/
def Chip.ipOf (c : Chip) (p : Nat) (v6 : Bool) : Nat := (c.portIp p v6).getD 0

/-- The address from which firmware sends ARP, IGMP, NDP and MLD on a port (R235). -/
def Chip.controlIp (c : Chip) (p : Nat) (v6 : Bool) : Nat := if v6 then c.linkLocal p else c.ipOf p false

/-- The line rate of a port in 100 Mb/s (R232, R234). -/
def Chip.portRate (c : Chip) (p : Nat) : Nat := if p < 4 then c.lineRate p else 10

/-- Cycles that octets take at a port's line rate. -/
def Chip.lineCycles (c : Chip) (p octets : Nat) : Nat := ceilDiv (octets * 64) (c.portRate p)

/-! ### Stamps (R68 to R70) -/

/-- Units of a time base that octets take at a port's line rate. -/
def Chip.octetUnits (c : Chip) (p n : Nat) : Nat := n * 80 * nsUnits / c.portRate p

/-- Whole cycles that octets take at a port's line rate. -/
def Chip.octetCycles (c : Chip) (p n : Nat) : Nat := n * 64 / c.portRate p

/-- Units that octets take at a port's line rate beyond those whole cycles. -/
def Chip.octetRest (c : Chip) (p n : Nat) : Nat := c.octetUnits p n - c.octetCycles p n * 5 * nsUnits / 4

/-- A receive stamp of a port in nanoseconds of a time base, for a frame whose last octet has come: what the time base read at the first
bit after the start-of-frame delimiter, through its steps since, less TSU_RX_LAT. With RS-FEC at 25 Gb/s silicon A1 errs by a free
value of −12 to 12 ns (R494). -/
def Chip.rxStampOn (c : Chip) (p octets tb : Nat) : Int :=
  let at_ : Int := (c.tb tb).readBack c.cycle (c.octetCycles p octets)
  let ns := (at_ - c.octetRest p octets - (bits (c.lv (Reg.TSU_RX_LAT p)) 0 16 * (nsUnits / 16) : Nat)) / nsUnits
  if p < 4 && bits (c.lv (Reg.NET_MODE p)) 0 2 = 0 && bits (c.lv (Reg.NET_MODE p)) 2 2 = 2 then ns + (c.free % 25 : Nat) - 12
  else ns

/-- A receive stamp on the port's RX_TB, in its 48-bit seconds and 32-bit nanoseconds (R68, R70). -/
def Chip.rxStamp (c : Chip) (p octets : Nat) : Nat :=
  (c.rxStampOn p octets (bits (c.lv (Reg.TSU_CFG p)) 0 2) % (2 ^ 48 * 1000000000 : Nat)).toNat

/-- What a transmit stamp adds to the reading at the cycle in which the start-of-frame delimiter leaves: the rest of that cycle, and
TSU_TX_LAT. -/
def Chip.txAdds (c : Chip) (p : Nat) : Nat := c.octetRest p 8 + bits (c.lv (Reg.TSU_TX_LAT p)) 0 16 * (nsUnits / 16)

/-- The transmit stamp of a frame whose start-of-frame delimiter leaves in the present cycle. -/
def Chip.txStamp (c : Chip) (p tb : Nat) : Nat := ((c.tb tb).time + c.txAdds p) / nsUnits % (2 ^ 48 * 1000000000)

/-! ### The ordinary clocks of a port (R61, R80) -/

/-- SOURCE of a time base. -/
def Chip.sourceTb (c : Chip) (n : Nat) : Nat := bits (c.lv (Reg.TB_CFG n)) 0 3

/-- The port of a time base's ordinary clock (R80). -/
def Chip.ptpPort (c : Chip) (tb : Nat) : Nat := bits (c.lv (Reg.TB_CFG tb)) 8 3

/-- Whether the ordinary clock of a time base runs: SOURCE 1 and PD_CTRL on. -/
def Chip.ptpRuns (c : Chip) (tb : Nat) : Bool := c.sourceTb tb == 1 && c.domainOn 1

/-- Whether MASTER of TBn_STATUS is set: the clock runs and is grandmaster (R79). -/
def Chip.ptpMaster (c : Chip) (tb : Nat) : Bool := c.ptpRuns tb && (c.tb tb).ptp.master

/-- Whether a time base's clock uses a port with a transport (R61, R80): 0 IPv4, 1 IPv6, 2 IEEE 802.3. -/
def Chip.ptpUses (c : Chip) (p transport n : Nat) : Bool :=
  c.sourceTb n == 1 && c.ptpPort n == p && bits (c.lv (Reg.TB_CFG n)) 26 2 == transport

/-- Whether some time base uses a port with a transport. -/
def Chip.ptpOn (c : Chip) (p transport : Nat) : Bool := (List.range 4).any (c.ptpUses p transport)

/-- Whether a clock sends a kind of message on a schedule: a master announces and synchronises, a slave asks for delays. -/
def Chip.ptpSends (c : Chip) (tb : Nat) (k : PtpSend) : Bool :=
  c.ptpRuns tb && (match k with | .delayReq => !c.ptpMaster tb | .delayResp => false | _ => c.ptpMaster tb)

/-- The earlier of two cycles that may be unknown. -/
def sooner : Option Nat → Option Nat → Option Nat
  | some a, some b => some (min a b)
  | some a, none => some a
  | none, b => b

/-- The next PTP message that firmware has scheduled on a port. -/
def Chip.nextPtp (c : Chip) (p : Nat) : Option Nat :=
  (((List.range 4).filter fun n => c.ptpPort n == p).map fun n =>
    ((c.tb n).ptp.sched.filter fun e => c.ptpSends n e.1).map (·.2)).flatten.foldl (fun m t => sooner m (some t)) none

/-! ### What lies ahead of a port (R197, R199, R242) -/

/-- Whether the generator issues its crossings: it runs, is not stopping, and no immediate crossing is called. -/
def FrameGen.issues (g : FrameGen) : Bool := g.mode == .running && !g.stopping && g.immediate.isNone

/-- The cycle of the next crossing that the part knows of: an immediate one called, the generator's, an explicit one called. -/
def Chip.nextCross (c : Chip) : Option Nat :=
  let called := sooner (c.fg.immediate.map fun m => m.2.2) (c.fg.explicit.head?.map ExplicitCall.instant)
  if c.fg.issues then sooner called (some (c.cycle + c.bound.cyclesTo c.fg.next)) else called

/-- N_p: the universes in service whose mask names a port. -/
def Chip.portLoad (c : Chip) (p : Nat) : Nat := (c.onPort p).length

/-- W × P in cycles. -/
def Chip.windowCycles (c : Chip) : Nat := bits (c.lv Reg.PK_CFG) 0 7 * 8000000 * c.fg.rateD / c.fg.rateN

/-- Δ_p in cycles. -/
def Chip.delta (c : Chip) (p : Nat) : Nat := if c.portLoad p = 0 then 0 else c.windowCycles / c.portLoad p

/-- The earliest transmission that a port knows of (R242): the next floor of R197, the next crossing, or the next PTP message. -/
def Chip.nextSend (c : Chip) (p : Nat) : Option Nat :=
  let floor := if c.frame.windowDone || c.portLoad p = 0 || c.frame.csn = 0 then none
    else some (max (c.frame.openCycle + (c.port p).sentCount * c.delta p) ((c.port p).prevStart + (c.port p).prevBits))
  sooner floor (sooner c.nextCross (c.nextPtp p))

/-! ### Low-power idle (R241, R242) -/

/-- Tw in cycles, rounded up. -/
def Chip.wakeCycles (c : Chip) (p : Nat) : Nat := ceilDiv (c.rd (Reg.NET_EEE_TW p) * 4) 5

/-- Whether a port may use low-power idle (R241). -/
def Chip.lpiAllowed (c : Chip) (p : Nat) : Bool :=
  p < 4 && c.portUp p && bit (c.lv (Reg.NET_EEE p)) 0 && (c.port p).eeeAn && c.rd (Reg.NET_EEE_TW p) != 0

/-- Whether a port is in low-power idle: it has entered it, it may use it still, and its wake for the earliest transmission that it
knows of has not begun (R199). -/
def Chip.lpiNow (c : Chip) (p : Nat) : Bool :=
  (c.port p).lpiTx && c.lpiAllowed p &&
    (match c.nextSend p with | none => true | some t => decide (c.cycle + c.wakeCycles p < t))

/-- A port whose wake has begun is in low-power idle no more, whether or not something is sent: settled before what it woke for goes by,
at the close of a window and at a crossing (R199). -/
def Chip.settleLpi (c : Chip) : Chip :=
  (List.range 4).foldl (fun c p => if (c.port p).lpiTx then c.setPort p { c.port p with lpiTx := c.lpiNow p } else c) c

/-! ### Frames that leave (R199, R243, R253) -/

/-- Octets on the wire of a frame without its FCS: FCS, preamble and gap added. -/
def onWire (frame : List Byte) : Nat := max 60 frame.length + 24

/-- Whether a PAUSE holds a port's transmitter (R243). -/
def Chip.paused (c : Chip) (p : Nat) : Bool := (c.port p).pauseEnd.isSome

/-- The earliest start of a frame on a port: after the frame on the wire, and after the wake from low-power idle. -/
def Chip.startOf (c : Chip) (p : Nat) : Nat :=
  max c.cycle (c.port p).txEnd + (if c.lpiNow p then c.wakeCycles p else 0)

/-- A delay request's number and departure noted by its clock (R61), for a frame that starts in `wait` cycles. -/
def Chip.notePtp (c : Chip) (p wait : Nat) : Out → Chip
  | .ptp tb .delayReq q _ =>
    let t := c.tb tb
    c.setTb tb { t with ptp := { t.ptp with txDelay := some (q, c.cycle + wait + c.octetCycles p 8, c.txAdds p) } }
  | _ => c

/-- Something of `n` octets without its FCS that leaves a port (R253): it wakes a port in low-power idle, and is counted. -/
def Chip.sendOut (c : Chip) (p n : Nat) (o : Out) : Chip :=
  let start := c.startOf p
  let c := (c.notePtp p (start - c.cycle) o).setPort p
    { c.port p with lpiTx := false, txEnd := start + c.lineCycles p (max 60 n + 24) }
  ((c.emit o).cntAdd p 0x90 1).cntAdd p 0x98 (max 60 n + 4)

/-- A frame that leaves a port. -/
def Chip.sendFrame (c : Chip) (p : Nat) (frame : List Byte) : Chip := c.sendOut p frame.length (.frame p frame)

/-- Whether the last bit of a frame of `n` octets without its FCS would leave after the next crossing (R199). -/
def Chip.meetsCrossing (c : Chip) (p n : Nat) : Bool :=
  match c.nextCross with
  | none => false
  | some t => decide (t < c.startOf p + c.lineCycles p (max 60 n + 12))

/-- A frame that is neither paced nor a synchronisation packet sent, or kept while a PAUSE holds the port, while it would meet the
crossing, or while others wait; none leaves a port that is down. -/
def Chip.sendGap (c : Chip) (p n : Nat) (o : Out) : Chip :=
  let x := c.port p
  if !c.portUp p then c
  else if c.paused p || !x.backlog.isEmpty || c.meetsCrossing p n then c.setPort p { x with backlog := x.backlog ++ [(n, o)] }
  else c.sendOut p n o

/-- The frames that wait on a port sent as far as they may be. -/
def Chip.releaseGap (c : Chip) (p : Nat) : Chip :=
  (c.port p).backlog.foldl (fun c e => c.sendGap p e.1 e.2) (c.setPort p { c.port p with backlog := [] })

/-- Such a frame behind those that wait. -/
def Chip.sendBehind (c : Chip) (p n : Nat) (o : Out) : Chip := (c.releaseGap p).sendGap p n o

/-- Such a frame given by its octets. -/
def Chip.sendOwn (c : Chip) (p : Nat) (frame : List Byte) : Chip := c.sendBehind p frame.length (.frame p frame)

/-! ### Membership (R239, R240) -/

/-- The sender address of a stream path as a number in wire order. -/
def streamSrc (r : Nat) (b : Bool) : Nat := ofBE (leBytes (if StreamRec.ipv6 r then 16 else 4) (StreamRec.src r b))

/-- The groups that firmware holds on a port. -/
def Chip.members (c : Chip) (p : Nat) : List Group :=
  let ins : List Group := (c.inputs.filter fun e => bit (InUnivRec.mask e.2) p).map fun e =>
    ⟨InUnivRec.ipv6 e.2, univGroup (InUnivRec.ipv6 e.2) (InUnivRec.univ e.2), none⟩
  let syncs : List Group := (c.port p).syncGroups.map fun g => ⟨g.1, g.2, none⟩
  let paths := c.streamPaths.filter fun e =>
    StreamRec.port e.2.1 e.2.2 == p && isGroup (StreamRec.ipv6 e.2.1) (streamDst e.2.1 e.2.2)
  let vids : List Group := paths.map fun e =>
    ⟨StreamRec.ipv6 e.2.1, streamDst e.2.1 e.2.2,
      if StreamRec.srcEn e.2.1 e.2.2 then some (streamSrc e.2.1 e.2.2) else none⟩
  let ptps : List Group := ([false, true].filter fun v6 => c.ptpOn p v6.toNat).map fun v6 => ⟨v6, ptpGroup v6, none⟩
  (ins ++ syncs ++ vids ++ ptps ++ (c.port p).groups).eraseDups

/-- Whether a querier of IGMPv2 or MLDv1 has been heard within the time that RFC 3376 and RFC 3810 give it, 260 s (PRESUMED, log
entry 23). -/
def Chip.olderQuerier (c : Chip) (p : Nat) (v6 : Bool) : Bool :=
  (c.port p).compat.any fun e => e.1 == v6 && decide (c.cycle < e.2 + 208000000000)

/-- A membership report of a group, whether held or given up, in the version in force (R239). Its length is that of one record
(PRESUMED, log entry 23). -/
def Chip.sendReport (c : Chip) (p : Nat) (g : Group) (held : Bool) : Chip :=
  c.sendBehind p (if g.ipv6 then 90 + 16 * g.source.isSome.toNat else 60)
    (.report p (c.controlIp p g.ipv6) g held (c.olderQuerier p g.ipv6))

/-- The state-change report of a group on a port that is up, and its repeat (R239). -/
def Chip.report (c : Chip) (p : Nat) (g : Group) (held : Bool) : Chip :=
  if !c.portUp p then c
  else
    let c := c.sendReport p g held
    c.setPort p { c.port p with reports := ((c.port p).reports.filter fun e => e.1 != g) ++ [(g, held)] }

/-- NET_GROUPS_FULL may be raised anew on the ports whose table has an entry free (R240). -/
def Chip.freeGroups (c : Chip) : Chip :=
  ((List.range 4).filter fun p => (c.port p).groupsFull && decide ((c.exactGroups p).length < 256)).foldl (fun c p =>
    c.setPort p { c.port p with groupsFull := false }) c

end Sys2Proof.Machine
end

