-- ==== Sys2Proof/Machine/Scheduler.lean ====
section
/-! DEFINITION. The task scheduler (R152 to R162), the cue and fade engine (R163 to R165) and the effect generators (R166,
R167): what a task record says, how a task waits, becomes ready, is dispatched and ends, and the cue source of a frame. -/

namespace Sys2Proof.Machine

open Sys2Proof

/-! ### Task records (R152 to R154, R162) -/

namespace TaskRec
def kind (r : Nat) : Nat := fld r 0 0 3
def prio (r : Nat) : Nat := fld r 0 3 6
def wait (r : Nat) : Nat := fld r 0 9 3
def toAct (r : Nat) : Bool := fld r 0 12 1 == 1
def completeOn (r : Nat) : Nat := fld r 0 13 2
def strict (r : Nat) : Bool := fld r 0 15 1 == 1
def evtDone (r : Nat) : Bool := fld r 0 16 1 == 1
def atOrAfter (r : Nat) : Bool := fld r 0 17 1 == 1
/-- The awaited instant in nanoseconds, and its time base. -/
def instant (r : Nat) : Nat := fld r 8 0 32 + (fld r 0xC 0 32 + fld r 0x10 0 16 * 2 ^ 32) * 1000000000
def tb (r : Nat) : Nat := fld r 0x10 16 2
def csn (r : Nat) : Nat := fld r 8 0 64
def tc (r : Nat) : Nat := fld r 8 0 32
def pin (r : Nat) : Nat := fld r 8 0 2
def falling (r : Nat) : Bool := fld r 8 2 1 == 1
def depSlot (r : Nat) : Nat := fld r 8 0 12
def depGen (r : Nat) : Nat := fld r 8 12 8
def timeoutMs (r : Nat) : Nat := fld r 0x14 0 32
end TaskRec

/-- The fields of PAYLOAD by KIND. -/
def payloadFields : Nat → List Field
  | 0 => [u 0x20 0 20, ur 0x24 0 19 1 262144]
  | 1 => [u 0x20 0 32, u 0x24 0 17, ur 0x28 0 18 1 131072, u 0x2C 0 20, u 0x30 0 16]
  | 2 => [u 0x20 0 8, ur 0x24 0 22 0 3600000]
  | 3 => [u 0x20 0 14, u 0x28 0 64, u 0x30 0 32, u 0x34 0 16]
  | 4 => [u 0x20 0 9]
  | _ => []

/-- A task record with its fields clamped (R152 to R154, R162). -/
def clampTask (r : Nat) : Nat :=
  let k := min (TaskRec.kind r) 5
  let r := clampFields ([ur 0 0 3 0 5, u 0 3 6, ur 0 9 3 0 5, u 0 12 1, ur 0 13 2 0 2, u 0 15 3, u 8 0 96,
    ur 0x14 0 32 1 0xFFFFFFFF] ++ payloadFields k) r
  match k with
  | 0 => setFld r 0x24 0 19 (min (fld r 0x24 0 19) (1048576 - fld r 0x20 0 20))
  | 1 =>
    let r := setFld r 0x28 0 18 (min (fld r 0x28 0 18) (131072 - fld r 0x24 0 17))
    if fld r 0x2C 0 20 = 0 then setFld r 0x2C 0 20 1 else r
  | _ => r

/-- The codes of STATE and RESULT (R175). -/
def TaskState.code : TaskState → Nat
  | .free => 0 | .waiting => 1 | .ready => 2 | .dispatching => 3 | .accepted => 4 | .ended => 5

def TaskResult.code : TaskResult → Nat
  | .none => 0 | .done => 1 | .late => 2 | .timedOut => 3 | .cancelled => 4 | .cancelledBeforeDispatch => 5
  | .resourceDenied => 6 | .depInvalid => 7 | .missed => 8

/-! ### Readiness, flags and ends (R155 to R160) -/

/-- Every slot that holds a task. -/
def Chip.taskSlots (c : Chip) : List Nat := c.tasks.map (·.1)

/-- A task ended with a failure, and TASK_FAILED (R173). -/
def Chip.failTask (c : Chip) (s : Nat) (r : TaskResult) : Chip :=
  let t := c.task s
  let c := c.setTask s { t with state := .ended, result := r }
  let c := (c.inc Reg.TASK_FAIL_CNT).setEvt Reg.SCHED_EVT 4
  c.raise 28 0x0E03 (it4 s ++ it4 t.gen ++ it4 r.code ++ it8 c.csn)

/-- A waiting task made ready, with its aimed crossing (R158). -/
def Chip.readyTask (c : Chip) (s : Nat) (byTimeout : Bool) : Chip :=
  let t := c.task s
  if t.state = .waiting then
    c.setTask s { t with
      state := .ready
      toFired := byTimeout
      order := c.cycle
      aimed := if TaskRec.wait t.record = 2 then TaskRec.csn t.record else c.openCsn }
  else c

/-- Every waiting task that a test picks made ready. -/
def Chip.readyWhere (c : Chip) (p : Task → Bool) : Chip :=
  c.taskSlots.foldl (fun c s => if (c.task s).state == .waiting && p (c.task s) then c.readyTask s false else c) c

/-- A completion flag set, TASK_DONE posted if it is asked for, and the tasks that awaited it made ready (R155, R157). -/
def Chip.setFlag (c : Chip) (s : Nat) (late : Bool) (csn : Nat) : Chip :=
  let t := c.task s
  if t.flag then c
  else
    let c := c.setTask s { t with flag := true }
    let c := if TaskRec.evtDone t.record then
        (c.setEvt Reg.SCHED_EVT 1).raise 28 0x0E01 (it4 s ++ it4 t.gen ++ it4 (if late then 2 else 1) ++ it8 csn)
      else c
    c.readyWhere fun w => TaskRec.wait w.record == 5 && TaskRec.depSlot w.record == s && TaskRec.depGen w.record == t.gen

/-- Whether a task waits on a slot that is free or holds another GEN (R157). -/
def Chip.depBroken (c : Chip) (t : Task) : Bool :=
  TaskRec.wait t.record == 5 &&
    ((c.task (TaskRec.depSlot t.record)).state == .free ||
      (c.task (TaskRec.depSlot t.record)).gen != TaskRec.depGen t.record)

/-- The waiting tasks whose awaited slot has been freed or reloaded ended DEP_INVALID. -/
def Chip.endBroken (c : Chip) : Chip :=
  c.taskSlots.foldl (fun c s => if (c.task s).state == .waiting && c.depBroken (c.task s) then c.failTask s .depInvalid else c)
    c

/-- Whether the condition of a waiting task holds as it stands (R155), for the kinds that a state can show. -/
def Chip.waitMet (c : Chip) (t : Task) : Bool :=
  match TaskRec.wait t.record with
  | 0 => true
  | 1 => TaskRec.instant t.record ≤ (c.tb (TaskRec.tb t.record)).ns
  | 2 => TaskRec.csn t.record ≤ c.csn + 1
  | 5 => (c.task (TaskRec.depSlot t.record)).flag && !c.depBroken t
  | _ => false

/-- A record loaded into a slot (R152, R155, R157). -/
def Chip.loadTask (c : Chip) (s rec : Nat) : Chip :=
  let g := ((c.task s).gen + 1) % 256
  let t : Task := { Task.reset with
    record := clampTask rec, gen := g, state := .waiting, loaded := c.cycle, serial := (c.task s).serial + 1 }
  let c := (c.setTask s t).endBroken
  if (c.task s).state == .waiting && c.waitMet t then c.readyTask s false else c

/-- The task of a GEN in a slot, if the slot is not free. -/
def Chip.namedTask (c : Chip) (s g : Nat) : Option Task :=
  let t := c.task s
  if t.state = .free || t.gen ≠ g then none else some t

/-- A slot freed, its GEN kept (R160). -/
def Chip.freeTask (c : Chip) (s : Nat) : Chip :=
  (c.setTask s { Task.reset with gen := (c.task s).gen, serial := (c.task s).serial }).endBroken

/-! ### Fades and effects (R164 to R167) -/

/-- A staged entry as the place of its attribute: fixture × 32 + attribute. -/
def CueEntry.key (e : CueEntry) : Nat := e.fixture * 32 + e.attr

/-- A cue-store record as a staged entry. -/
def cueEntry (r : Nat) : CueEntry :=
  ⟨CueRec.fixture r, CueRec.attr r, CueRec.curve r, CueRec.target r, CueRec.fadeMs r⟩

/-- The later entry of each attribute (R164). -/
def laterEntries (l : List CueEntry) : List CueEntry :=
  l.foldr (fun e acc => if acc.any fun x => x.key == e.key then acc else e :: acc) []

/-- The entries that a cue-go stages from the live cue store. -/
def Chip.stagedCue (c : Chip) (first count : Nat) : List CueEntry :=
  laterEntries ((List.range count).map fun i => cueEntry (c.recIn 9 (first + i)))

/-- The attributes that cue-go commits have staged, accepted or awaiting the standby's acknowledgement (R164, R324). -/
def Chip.stagedKeys (c : Chip) : List Nat :=
  (((c.commits ++ c.forwarded).map fun m => m.changes.map fun ch => match ch with
    | .cueGo es => es.map CueEntry.key
    | _ => []).flatten.flatten).eraseDups

/-- Fade slots in use: running fades and staged entries (R164, R174). -/
def Chip.fadesInUse (c : Chip) : Nat :=
  c.fades.length + (c.stagedKeys.filter fun k => !(c.fades.any fun f => f.1 == k)).length

/-- FADE_PEAK brought up to the slots in use. -/
def Chip.notePeak (c : Chip) : Chip := c.wr Reg.FADE_PEAK (max (c.rd Reg.FADE_PEAK) c.fadesInUse)

/-- Milliseconds as frames at a rate, halves up (R164, R167). -/
def msFrames (ms n d : Nat) : Nat := (2 * ms * n + 1000 * d) / (2000 * d)

/-- The laws of R164: linear, S, square-law, snap. -/
def fadeLaw (curve : Nat) (x : Rat) : Rat :=
  match curve with
  | 1 => 3 * x * x - 2 * x * x * x
  | 2 => x * x
  | 3 => 0
  | _ => x

/-- The cue value of a fade that has run `n` of its frames (R164). -/
def Fade.value (f : Fade) : Nat :=
  if f.len ≤ f.n then f.v1
  else
    let p : Nat := f.n * 2 ^ 32 / f.len
    (roundHalfUp ((f.v0 : Rat) + ((f.v1 : Rat) - f.v0) * fadeLaw f.curve ((p : Rat) / 2 ^ 32))).toNat

/-- The owner of the fades that the task in a slot starts. -/
def fadeOwner (s serial : Nat) : Nat := 1 + s + 4096 * serial

/-- A fade of a task ended: the flag of COMPLETE_ON 2 when it was the cue's last (R157), under the CSN of the crossing that took
the task (DEDUCED, log entry 42). -/
def Chip.fadeEnded (c : Chip) (owner : Nat) : Chip :=
  let s := (owner - 1) % 4096
  let t := c.task s
  if owner == fadeOwner s t.serial && 0 < t.fades then
    let c := c.setTask s { t with fades := t.fades - 1 }
    if t.fades = 1 && TaskRec.completeOn t.record = 2 && t.state = .ended then
      c.setFlag s (t.result == .late) (c.csn - (c.csn + 2 ^ 32 - t.csnLo) % 2 ^ 32)
    else c
  else c

/-- A fade removed. -/
def Chip.endFade (c : Chip) (k : Nat) : Chip :=
  match c.fades.find? fun e => e.1 == k with
  | none => c
  | some e => ({ c with fades := c.fades.filter fun x => x.1 != k } : Chip).fadeEnded e.2.slot

/-- One running fade in the next frame (R164). -/
def Chip.advanceFade (c : Chip) (e : Nat × Fade) : Chip :=
  let f := { e.2 with n := e.2.n + 1 }
  let c := { c with cueVals := setNat c.cueVals e.1 f.value }
  if f.len ≤ f.n then c.endFade e.1
  else { c with fades := c.fades.map fun x => if x.1 == e.1 then (e.1, f) else x }

/-- A fade put in the place of its attribute, with places rising. -/
def insertFade (k : Nat) (f : Fade) (l : Sparse Fade) : Sparse Fade :=
  (l.filter fun x => x.1 < k) ++ [(k, f)] ++ l.filter fun x => k < x.1

/-- The fade of a staged entry started at the crossing, from the value `v0` of the frame before (R164). -/
def Chip.startFade (c : Chip) (owner v0 : Nat) (e : CueEntry) : Chip :=
  let f : Fade := ⟨v0, e.target, msFrames e.fadeMs c.fg.rateN c.fg.rateD, 0, e.curve, owner⟩
  let c := c.endFade e.key
  let c := { c with cueVals := setNat c.cueVals e.key f.value }
  if f.len = 0 then c.fadeEnded owner else ({ c with fades := insertFade e.key f c.fades } : Chip).notePeak

/-- The cue values of a fixture that becomes enabled or changes its profile, and the end of its fades (R165). -/
def Chip.resetFixture (c : Chip) (i : Nat) : Chip :=
  let p := c.recAt 2 (FixRec.profile (c.recAt 1 i))
  (List.range 32).foldl (fun c a =>
    let c := { c with cueVals := setNat c.cueVals (i * 32 + a) (if a < ProfRec.attrs p then ProfRec.dflt p a else 0) }
    c.endFade (i * 32 + a)) c

/-- The waves of R166. -/
def waveAt (wave : Nat) (phi : Rat) : Rat :=
  match wave with
  | 0 => sinTurn phi
  | 1 => 1 - 4 * (if phi < 1 / 2 then 1 / 2 - phi else phi - 1 / 2)
  | 2 => if phi < 1 / 2 then 1 else -1
  | _ => 2 * phi - 1

/-- g of a generator: 1, or what a stop has left (R167). -/
def Effect.gain (e : Effect) : Rat :=
  match e.stop with
  | none => 1
  | some (s, m) => 1 - (m : Rat) / s

/-- What a generator contributes to an attribute of a fixture (R166). -/
def Effect.at (e : Effect) (f a : Nat) : Rat :=
  if e.attr = a && e.fixFirst ≤ f && f < e.fixFirst + e.fixCount then
    let x : Rat := (e.n : Rat) / e.period + ((f - e.fixFirst : Nat) : Rat) * e.phaseStep / 65536
    (e.amp : Rat) * e.gain * waveAt e.wave (x - x.floor)
  else 0

/-- The cue source's value of an attribute: V and every effect, rounded once and clamped (R166, R167). -/
def Chip.cueSource (c : Chip) (f a : Nat) : Nat :=
  let fix := c.recAt 1 f
  let v := c.asRead 0 (c.valueAt c.csn (f * 32 + a)) 2 (natAt c.cueVals (f * 32 + a))
  if FixRec.en fix && a < ProfRec.attrs (c.recAt 2 (FixRec.profile fix)) then
    (clampI 0 65535 (roundHalfUp ((v : Rat) + (c.effects.map fun e => e.2.at f a).sum))).toNat
  else v

/-- A generator in the next frame: freed when its gain reaches 0 (R167). -/
def Effect.advance (e : Effect) : Option Effect :=
  match e.stop with
  | none => some { e with n := e.n + 1 }
  | some (s, m) => if s ≤ m + 1 then none else some { e with n := e.n + 1, stop := some (s, m + 1) }

/-- Every effect generator in the next frame. -/
def Chip.advanceEffects (c : Chip) : Chip :=
  { c with effects := c.effects.filterMap fun e => e.2.advance.map fun x => (e.1, x) }

/-- An effect generator replaced. -/
def Chip.setEffect (c : Chip) (i : Nat) (e : Effect) : Chip :=
  { c with effects := (c.effects.filter fun x => x.1 < i) ++ [(i, e)] ++ c.effects.filter fun x => i < x.1 }

/-- An effect stop at its crossing (R167). -/
def Chip.stopEffect (c : Chip) (i ms : Nat) : Chip :=
  let s := msFrames ms c.fg.rateN c.fg.rateD
  if s = 0 then { c with effects := c.effects.filter fun x => x.1 != i }
  else { c with effects := c.effects.map fun x => if x.1 = i then (i, { x.2 with stop := some (s, 0) }) else x }

/-! ### Dispatch (R158, R162) -/

/-- Whether the isle dispatches tasks (R320). -/
def Chip.dispatches (c : Chip) : Bool := (c.pair.isle == .solo || c.pair.isle == .active) && c.domainOn 6

/-- Whether a ready task goes before another (R158). -/
def taskBefore (a b : Nat × Task) : Bool :=
  TaskRec.prio a.2.record < TaskRec.prio b.2.record ||
    TaskRec.prio a.2.record == TaskRec.prio b.2.record &&
      (a.2.order < b.2.order || a.2.order == b.2.order && a.1 < b.1)

/-- The ready task that an idle dispatcher takes. -/
def Chip.nextTask (c : Chip) : Option Nat :=
  ((c.tasks.filter fun e => e.2.state == .ready).foldl (fun m e => match m with
    | none => some e
    | some x => if taskBefore e x then some e else m) none).map (·.1)

/-- A layer record with the fields that a layer-change task names (R162). -/
def layerChange (r base : Nat) : Nat :=
  let x := if fld r 0x20 10 1 = 1 then setFld (setFld base 0 0 64 (fld r 0x28 0 64)) 0xC 0 32 (fld r 0x30 0 32) else base
  let x := if fld r 0x20 11 1 = 1 then setFld x 0x2C 0 16 (fld r 0x34 0 16) else x
  clampLayer (if fld r 0x20 12 1 = 1 then setFld x 0x28 0 1 (fld r 0x20 13 1) else x)

/-- The changes of a task (R162). -/
def Chip.taskChanges (c : Chip) (r : Nat) : List Change :=
  match TaskRec.kind r with
  | 0 => [.cueGo (c.stagedCue (fld r 0x20 0 20) (fld r 0x24 0 19))]
  | 1 => [.effectStart (fld r 0x20 0 8) (fld r 0x20 8 2) (fld r 0x20 10 5) (fld r 0x20 16 16) (fld r 0x24 0 17)
      (fld r 0x28 0 18) (fld r 0x2C 0 20) (fld r 0x30 0 16)]
  | 2 => [.effectStop (fld r 0x20 0 8) (fld r 0x24 0 22)]
  | 3 =>
    let i := fld r 0x20 0 4 * 64 + fld r 0x20 4 6
    [.layer i (reseal 6 i (layerChange r (c.latestLayer i)))]
  | 4 =>
    let s := fld r 0x20 0 8
    [.regBits (Reg.PK_SET_EN (s / 32)) (BitVec.ofNat 32 (1 <<< (s % 32)))
      (BitVec.ofNat 32 (fld r 0x20 8 1 <<< (s % 32)))]
  | _ => [.marker]

/-- Whether a refusal is by a budget of R16. -/
def Refuse.ofBudget (r : Refuse) : Bool := r.status == 3 && 1 ≤ r.detail && r.detail ≤ 5

/-- The failure that ends a dispatched task at its acceptance: MISSED under STRICT (R158), or RESOURCE_DENIED where its commit is
refused by anything but a budget (DEDUCED, log entry 42), since budgets wait for the crossing (R19). -/
def Chip.taskRefusal (c : Chip) (s : Nat) (changes : List Change) : Option TaskResult :=
  let t := c.task s
  let csn := c.openCsn
  if t.aimed < csn && TaskRec.strict t.record then some .missed
  else if (c.refusal (c.projected csn) csn changes).any fun r => !r.ofBudget then some .resourceDenied
  else none

/-- A dispatched task's commit accepted, or the task ended with what refuses it (R158). -/
def Chip.acceptTask (c : Chip) (s : Nat) (changes : List Change) : Chip :=
  let t := c.task s
  let csn := c.openCsn
  match c.acceptedOnly.taskRefusal s changes with
  | some r => c.failTask s r
  | none =>
    let c := (c.accept ⟨none, 0, 0, csn, changes, some s⟩).notePeak
    let c := c.setTask s { t with state := .accepted }
    if TaskRec.completeOn t.record = 0 then c.setFlag s (t.aimed < csn) csn else c

/-- Whether a cue's net demand exceeds the fade slots (R164). -/
def Chip.noFadeSlots (c : Chip) (l : List Change) : Bool :=
  l.any fun ch => match ch with
    | .cueGo es =>
      262144 < c.fadesInUse +
        (es.filter fun e => !(c.fades.any fun f => f.1 == e.key) && !c.stagedKeys.contains e.key).length
    | _ => false

/-- One turn of the dispatcher (R158): the ready task it takes is accepted, ended, or, on an active isle, left
DISPATCHING until the standby acknowledges its commit (R324). -/
def Chip.dispatch (c : Chip) : Chip :=
  if !c.dispatches || c.dispatching.isSome then c
  else match c.nextTask with
  | none => c
  | some s =>
    let t := c.task s
    let changes := c.taskChanges t.record
    let c := if TaskRec.kind t.record = 0 then
      c.noteRead 0 2 (c.liveAt 9 (fld t.record 0x20 0 20)).2 (8 * fld t.record 0x24 0 19) else c
    if c.noFadeSlots changes then c.failTask s .resourceDenied
    else if c.mirrors changes && (c.taskRefusal s changes).isNone then
      let c := { c.setTask s { t with state := .dispatching } with dispatching := some s }
      (c.forwardCommit ⟨0, ⟨none, 0, 0, c.openCsn, changes, some s⟩, none, 0, []⟩).notePeak
    else c.acceptTask s changes

/-- A task whose commit the crossing applies (R157, R158): its result, TASK_LATE, and the flag of COMPLETE_ON 1, or of
COMPLETE_ON 2 for a kind other than cue-go. -/
def Chip.taskTaken (c : Chip) (s csn started : Nat) : Chip :=
  let t := c.task s
  let late := t.aimed < csn
  let c := c.setTask s { t with
    state := .ended, result := if late then .late else .done, csnLo := csn % 2 ^ 32, fades := started }
  let c := if late then
      ((c.inc Reg.TASK_LATE_CNT).setEvt Reg.SCHED_EVT 2).raise 28 0x0E02 (it4 s ++ it4 t.gen ++ it8 t.aimed ++ it8 csn)
    else c
  if TaskRec.completeOn t.record = 1 || (TaskRec.completeOn t.record = 2 && TaskRec.kind t.record ≠ 0) ||
      (TaskRec.completeOn t.record = 2 && started = 0) then c.setFlag s late csn
  else c

/-! ### Meanings -/

/-- SHOW_TASK_LOAD (R152, R308, R323). -/
def execShowTaskLoad (h : CmdHdr) (p : Nat) (s : State) : Host.Outcome State Fault Refusal :=
  firmware 0x0210 false h p (fun p d c =>
    let k := pl p 0 0 12
    if c.underActive then c.decline h 0x0210 (denied 12)
    else if (c.task k).state ≠ .free then c.decline h 0x0210 ⟨3, 12, k⟩
    else
      let a : Nat := c.tblBase + 0xF10000 + k * 64
      let c : Chip := (c.noteRead 0 8 a 64).loadTask k (c.fetchLE d a 64)
      c.complete h 0x0210 0 (leBytes 1 (c.task k).gen)) s

/-- SHOW_TASK_CANCEL (R159). -/
def execShowTaskCancel (h : CmdHdr) (p : Nat) (s : State) : Host.Outcome State Fault Refusal :=
  firmware 0x0211 false h p (fun p _ c =>
    let k := pl p 0 0 12
    match c.namedTask k (pl p 0 16 8) with
    | none => c.decline h 0x0211 missed
    | some t =>
      match t.state with
      | .waiting => (c.failTask k .cancelled).complete h 0x0211 0 []
      | .ready => (c.failTask k .cancelledBeforeDispatch).complete h 0x0211 0 []
      | _ => c.decline h 0x0211 missed) s

/-- SHOW_TASK_FREE (R160). -/
def execShowTaskFree (h : CmdHdr) (p : Nat) (s : State) : Host.Outcome State Fault Refusal :=
  firmware 0x0212 false h p (fun p _ c =>
    let k := pl p 0 0 12
    match c.namedTask k (pl p 0 16 8) with
    | none => c.decline h 0x0212 missed
    | some t =>
      if t.state = .ended then (c.freeTask k).complete h 0x0212 0 [] else c.decline h 0x0212 ⟨3, 12, k⟩) s

/-- TASK_WAIT_INSTANT (R155): the named time base comes to the instant that a task awaits. -/
def execTaskWaitInstant (slot : Nat) (s : State) : Host.Outcome State Fault Refusal :=
  within (slot < 4096) (onChip (fun _ c =>
    let t := c.task slot
    if t.state = .waiting && TaskRec.wait t.record = 1 then
      (c.ticks ((c.tb (TaskRec.tb t.record)).cyclesTo (TaskRec.instant t.record))).readyTask slot false
    else c) s)

/-- TASK_TIMEOUT (R156): a task's timeout expires, in 800 MHz cycles from its load; an instant that comes in the same
cycle wins. -/
def execTaskTimeout (slot : Nat) (s : State) : Host.Outcome State Fault Refusal :=
  within (slot < 4096) (onChip (fun _ c =>
    let t := c.task slot
    if t.state = .waiting then
      let c := c.runToCycle (t.loaded + usCycles (1000 * TaskRec.timeoutMs t.record))
      if c.waitMet t then c.readyTask slot false
      else if TaskRec.toAct t.record then c.readyTask slot true
      else c.failTask slot .timedOut
    else c) s)

/-- TASK_DISPATCH (R158). -/
def execTaskDispatch (s : State) : Host.Outcome State Fault Refusal := onChip (fun _ c => c.dispatch) s

/-- The tasks that a trigger edge readies: those loaded before it (R155). -/
def Chip.triggered (c : Chip) (pin : Nat) (falling : Bool) (since : Nat) : Chip :=
  if bit (c.lv Reg.TRIG_CFG) pin then
    c.readyWhere fun t =>
      TaskRec.wait t.record == 4 && TaskRec.pin t.record == pin && TaskRec.falling t.record == falling && t.loaded ≤ since
  else c

/-- TRIG_IN_EDGE (R155): the level of a pin changes; with FILT 0 the edge readies tasks, otherwise it starts the filter. -/
def execTrigInEdge (pin : Nat) (rising : Bool) (s : State) : Host.Outcome State Fault Refusal :=
  within (pin < 4) (onChip (fun _ c =>
    match c.triggers[pin]? with
    | none => c
    | some g =>
      if g.high == rising then c
      else
        let filt := bits (c.lv Reg.TRIG_CFG) 8 8
        let on := bit (c.lv Reg.TRIG_CFG) pin
        let g : Trigger := { high := rising, since := c.cycle, edge := !rising
                             filter := if on && 0 < filt then some (c.cycle + usCycles filt) else none }
        let c := { c with triggers := c.triggers.set pin g }
        if filt = 0 then c.triggered pin (!rising) c.cycle else c) s)

/-- TRIG_FILTER_EXPIRE (R155): a pin has held the level of its selected edge for FILT µs. -/
def execTrigFilterExpire (pin : Nat) (s : State) : Host.Outcome State Fault Refusal :=
  within (pin < 4) (onChip (fun _ c =>
    match c.triggers[pin]? with
    | none => c
    | some g =>
      match g.filter with
      | none => c
      | some due =>
        let c := (c.runToCycle due).triggered pin g.edge g.since
        { c with triggers := c.triggers.set pin { g with filter := none } }) s)

end Sys2Proof.Machine
end

