-- ==== Sys2Proof/Machine/Input.lean ====
section
/-! DEFINITION. The console input merge: which packets a source brings (R170, R171), the groups that follow them (R239,
R240), the snapshot of a crossing, and the attribute values of a frame (R169, R172). -/

namespace Sys2Proof.Machine

open Sys2Proof

/-- 2.5 s in cycles (R170, R171). -/
def sourceLimit : Nat := 2000000000

/-- The item of a cause that the spec names without a number (log entry 22). -/
def itCause (k : Nat) : List Byte := it4 (Config.causeCode k).toNat

/-- The source of a CID on the universe that an entry names. -/
def Chip.sourceOf (c : Chip) (entry cid : Nat) : Option Source :=
  c.sources.find? fun x => x.entry == entry && x.cid == cid && x.univ == InUnivRec.univ (c.recAt 10 entry)

/-- The source of a CID on an entry that has been silent longest: an entry that has been given another universe keeps the
sources of the old one until they are lost (R170). -/
def Chip.oldestSource (c : Chip) (entry cid : Nat) : Option Source :=
  (c.sources.filter fun x => x.entry == entry && x.cid == cid).foldl (fun m x => match m with
    | none => some x
    | some y => if x.cycle < y.cycle then some x else some y) none

/-- Whether two sources are one: one CID on one universe of one entry. -/
def Source.same (x y : Source) : Bool := x.entry == y.entry && x.cid == y.cid && x.univ == y.univ

/-- A source replaced. -/
def Chip.setSource (c : Chip) (x : Source) : Chip :=
  { c with sources := c.sources.map fun y => if y.same x then x else y }

/-! ### Synchronisation groups (R239, R240) -/

/-- The synchronisation groups that the tracked sources of a port name. -/
def Chip.namedSyncs (c : Chip) (p : Nat) : List (Bool × Nat) :=
  ((c.sources.filter fun x => x.syncAddr != 0 && bit (InUnivRec.mask (c.recAt 10 x.entry)) p).map fun x =>
    (InUnivRec.ipv6 (c.recAt 10 x.entry), univGroup (InUnivRec.ipv6 (c.recAt 10 x.entry)) x.syncAddr)).eraseDups

/-- The synchronisation groups that no tracked source names given up. -/
def Chip.dropSyncs (c : Chip) : Chip :=
  ((List.range 4).foldl (fun c p =>
    let gone := (c.port p).syncGroups.filter fun g => !(c.namedSyncs p).contains g
    let c := c.setPort p { c.port p with syncGroups := (c.port p).syncGroups.filter fun g => (c.namedSyncs p).contains g }
    gone.foldl (fun c g => c.report p ⟨g.1, g.2, none⟩ false) c) c).freeGroups

/-- A synchronisation group that a port comes to hold, or NET_GROUPS_FULL once. -/
def Chip.joinSync (c : Chip) (p : Nat) (g : Bool × Nat) : Chip :=
  if (c.port p).syncGroups.contains g then c
  else
    let c' := c.setPort p { c.port p with syncGroups := (c.port p).syncGroups ++ [g] }
    if (c'.exactGroups p).length ≤ 256 then c'.report p ⟨g.1, g.2, none⟩ true
    else if (c.port p).groupsFull then c
    else ((c.setPort p { c.port p with groupsFull := true }).setEvt (Reg.NET_EVT p) 16).raise (32 + p) 0x1005
      (it4 p ++ (if g.1 then leBytes 16 g.2 else it4 g.2))

/-- The synchronisation group that a packet names, on every port of its entry. -/
def Chip.joinSyncs (c : Chip) (entry addr : Nat) : Chip :=
  let e := c.recAt 10 entry
  if addr = 0 then c
  else ((List.range 4).filter fun p => bit (InUnivRec.mask e) p).foldl
    (fun c p => c.joinSync p (InUnivRec.ipv6 e, univGroup (InUnivRec.ipv6 e) addr)) c

/-! ### Sources (R170, R171) -/

/-- A source lost: by its timeout (cause 0) or by the stream-terminated flag (cause 1). -/
def Chip.loseSource (c : Chip) (x : Source) (cause : Nat) : Chip :=
  let c := { c with
    sources := c.sources.filter fun y => !y.same x
    exceeded := c.exceeded.filter (· != x.entry) }
  let c := (c.inc Reg.IN_SRC_LOST_CNT).setEvt Reg.IN_EVT 1
  (c.raise 28 0x0E04 (it4 x.entry ++ leBytes 16 x.cid ++ itCause cause)).dropSyncs

/-- Whether a sequence number lies within −20 to 0 of the last one (R170). -/
def staleSeq (last seq : Nat) : Bool :=
  let d := sext 8 ((seq + 256 - last % 256) % 256)
  decide (-20 ≤ d) && decide (d ≤ 0)

/-- Whether a source's data awaits synchronisation (R171). -/
def Chip.awaits (c : Chip) (addr syncCyc : Nat) : Bool := addr != 0 && c.cycle < syncCyc + sourceLimit

/-- An accepted packet as a tracked source takes it. -/
def Chip.takeData (c : Chip) (x : Source) (pkt : E131Packet) : Chip :=
  let since := if pkt.syncAddr = x.syncAddr then x.syncCyc else c.cycle
  let x := { x with prio := pkt.prio, seq := pkt.seq, syncAddr := pkt.syncAddr, syncCyc := since, cycle := c.cycle }
  let x := if c.awaits pkt.syncAddr since then { x with waiting := some pkt.slots }
    else { x with current := pkt.slots, waiting := none }
  let c := (c.setSource x).rewritten 0 (c.sourceAt x x.waiting.isSome) pkt.slots.length
  c.dropSyncs.joinSyncs x.entry pkt.syncAddr

/-- A new source of an entry, in the lowest place that none of its sources has. -/
def Chip.newSource (c : Chip) (entry cycle : Nat) (pkt : E131Packet) : Source :=
  let free := (List.range 4).find? fun k => !c.sources.any fun x => x.entry == entry && x.place == k
  { entry := entry, cid := pkt.cid, prio := pkt.prio, seq := pkt.seq, syncAddr := pkt.syncAddr, syncCyc := cycle
    current := [], waiting := none, cycle := cycle, since := cycle, snap := [], snapPrio := 0, changes := [], supplied := []
    univ := pkt.univ, place := free.getD 3 }

/-- A packet ignored and counted. -/
def Chip.discardInput (c : Chip) : Chip := c.inc Reg.IN_DISCARD_CNT

/-- A packet from a fifth source (R170). -/
def Chip.fifthSource (c : Chip) (entry cid : Nat) : Chip :=
  let c := (c.discardInput).inc Reg.IN_SRC_EXCESS_CNT
  if c.exceeded.contains entry then c
  else (({ c with exceeded := entry :: c.exceeded } : Chip).setEvt Reg.IN_EVT 2).raise 28 0x0E05
    (it4 entry ++ leBytes 16 cid)

/-- An E1.31 data packet for an enabled input entry (R170). -/
def Chip.inputPacket (c : Chip) (entry : Nat) (pkt : E131Packet) : Chip :=
  if pkt.preview || pkt.startCode != 0 then c.discardInput
  else match c.sourceOf entry pkt.cid with
  | some x =>
    if staleSeq x.seq pkt.seq then c.discardInput
    else if pkt.terminated then c.loseSource x 1
    else c.takeData x pkt
  | none =>
    if 4 ≤ (c.sources.filter fun x => x.entry == entry && x.univ == pkt.univ).length then c.fifthSource entry pkt.cid
    else if pkt.terminated then c
    else
      let x := c.newSource entry c.cycle pkt
      ({ c with sources := c.sources ++ [x] } : Chip).takeData x pkt

/-- The enabled input entry of a universe on a port. -/
def Chip.inputEntry (c : Chip) (p univ : Nat) : Option Nat :=
  (c.inputs.find? fun e => InUnivRec.univ e.2 == univ && bit (InUnivRec.mask e.2) p).map (·.1)

/-- E1.31 synchronisation: the waiting data of a CID's sources on an address becomes current (R171). -/
def Chip.inputSync (c : Chip) (cid addr : Nat) : Chip :=
  { c with sources := c.sources.map fun x =>
      if x.cid == cid && x.syncAddr == addr && addr != 0 then
        { x with current := x.waiting.getD x.current, waiting := none, syncCyc := c.cycle }
      else x }

/-! ### Snapshot and values (R169, R172) -/

/-- The slots of a snapshot that differ from the one before, each marked with one more than the cycle; a slot that the snapshot
before did not have has not changed. -/
def markChanges (cycle : Nat) (old new : List Byte) (marks : List Nat) : List Nat :=
  (List.range new.length).map fun i =>
    if old.length ≤ i then 0 else if old[i]? = new[i]? then marks.getD i 0 else cycle + 1

/-- Each slot of a snapshot with the mark of the snapshot that brought it. -/
def markSupplied (cycle oldLen newLen : Nat) (marks : List Nat) : List Nat :=
  (List.range newLen).map fun i => if oldLen ≤ i then cycle + 1 else marks.getD i 0

/-- The current data of a source as the snapshot reads them from the working region (R303, R394). -/
def Chip.sourceData (c : Chip) (x : Source) : List Byte :=
  if c.eccDram.flips.isEmpty then x.current
  else (x.current.zipIdx).map fun e => e.1 ^^^ c.eccDram.octet (c.sourceAt x false + e.2)

/-- The snapshot of a crossing: the current data and priority of every source, which the frame keeps whatever becomes of the
sources. -/
def Chip.snapInputs (c : Chip) : Chip :=
  let l := c.sources.map fun x =>
    let new := c.sourceData x
    { x with snap := new, snapPrio := x.prio, changes := markChanges c.cycle x.snap new x.changes
             supplied := markSupplied c.cycle x.snap.length new.length x.supplied }
  let c := l.foldl (fun c x => c.noteRead 0 2 (c.sourceAt x false) x.snap.length) c
  { c with sources := l, frame := { c.frame with sources := l } }

/-- First slot and width of each attribute of a patched fixture. -/
def patchUnits (prof slot : Nat) : List (Nat × Nat) :=
  (List.range (ProfRec.attrs prof)).map fun a =>
    (slot + ((List.range a).map (ProfRec.attrSlots prof)).sum, ProfRec.attrSlots prof a)

/-- The value that a source supplies for a unit, if it does. -/
def Source.supplies (x : Source) (slot w : Nat) : Option Nat :=
  if 512 < slot + w - 1 || x.snap.length < slot + w - 1 then none
  else
    let o (i : Nat) : Nat := (x.snap.getD (slot - 1 + i) 0).toNat
    some (if w = 1 then o 0 * 257 else o 0 * 256 + o 1)

/-- A candidate of R172: its priority, its value, when that value changed, and since when it is tracked. -/
structure Candidate where
  prio    : Nat
  value   : Nat
  changed : Nat
  since   : Nat
  isCue   : Bool
  deriving DecidableEq, Repr

/-- The candidates for attribute `a` of fixture `f`: a change counts from the snapshot on at which a source became a candidate, by
its packets or by the fixture's patch. -/
def Chip.candidates (c : Chip) (f a : Nat) : List Candidate :=
  let fix := c.recAt 1 f
  let prof := c.recAt 2 (FixRec.profile fix)
  let patch := c.recIn 11 f
  let from_ := natAt c.patched f
  let unit := (patchUnits prof (InPatchRec.slot patch)).getD a (1, 1)
  let cue : Candidate := ⟨c.lv Reg.IN_CUE_PRIO, c.cueSource f a, natAt c.cueChanged (f * 32 + a), 0, true⟩
  cue :: (c.frame.sources.filter fun x =>
      x.entry == InPatchRec.idx patch && x.univ == InUnivRec.univ (c.recIn 10 x.entry)).filterMap fun x =>
    (x.supplies unit.1 unit.2).map fun v =>
      let mark (l : List Nat) : Nat := ((List.range unit.2).map fun i => l.getD (unit.1 - 1 + i) 0).foldl max 0
      ⟨x.snapPrio, v, if max from_ (mark x.supplied) < mark x.changes then mark x.changes else 0, x.since, false⟩

/-- The value of MERGE 1 among the candidates of the highest priority. -/
def latestOf (csn key : Nat) (l : List Candidate) : Nat :=
  let last := (l.map Candidate.changed).foldl max 0
  if last = 0 then
    (match l.find? Candidate.isCue with
     | some x => x.value
     | none =>
       let s := (l.map Candidate.since).foldl min (l.headD ⟨0, 0, 0, 0, false⟩).since
       ((l.find? fun x => x.since == s).map Candidate.value).getD 0)
  else
    let ties := l.filter fun x => x.changed == last
    (ties.getD (Config.latestPick csn key % ties.length) ⟨0, 0, 0, 0, false⟩).value

/-- The value of attribute `a` of fixture `f` in the frame (R172). -/
def Chip.attrValue (c : Chip) (f a : Nat) : Nat :=
  if !InPatchRec.en (c.recIn 11 f) then c.cueSource f a
  else
    let l := c.candidates f a
    let top := (l.map Candidate.prio).foldl max 0
    let l := l.filter fun x => x.prio == top
    match l with
    | [x] => x.value
    | _ =>
      if ProfRec.latest (c.recAt 2 (FixRec.profile (c.recAt 1 f))) a then latestOf c.frame.csn (f * 32 + a) l
      else (l.map Candidate.value).foldl max 0

/-! ### Meanings -/

/-- E131_DATA_RECEIVE (R170): on an enabled universe and port. -/
def execE131DataReceive (port : Nat) (pkt : E131Packet) (s : State) : Host.Outcome State Fault Refusal :=
  within (port < 4 && pkt.slots.length ≤ 512) (onChip (fun _ c =>
    match c.inputEntry port pkt.univ with
    | none => c
    | some e => if c.domainOn 6 && c.portUp port then c.inputPacket e pkt else c) s)

/-- E131_SYNC_RECEIVE (R171). -/
def execE131SyncReceive (port cid addr : Nat) (s : State) : Host.Outcome State Fault Refusal :=
  within (port < 4) (onChip (fun _ c => if c.domainOn 6 && c.portUp port then c.inputSync cid addr else c) s)

/-- INPUT_SOURCE_TIMEOUT (R170): a tracked source has had no accepted packet for 2.5 s. -/
def execInputSourceTimeout (entry cid : Nat) (s : State) : Host.Outcome State Fault Refusal :=
  onChip (fun _ c =>
    match c.oldestSource entry cid with
    | none => c
    | some x => (c.runToCycle (x.cycle + sourceLimit)).loseSource x 0) s

/-- INPUT_SYNC_TIMEOUT (R171): no synchronisation packet for 2.5 s; what waits becomes current. -/
def execInputSyncTimeout (entry cid : Nat) (s : State) : Host.Outcome State Fault Refusal :=
  onChip (fun _ c =>
    match c.oldestSource entry cid with
    | none => c
    | some x =>
      if x.syncAddr = 0 then c
      else
        let c := c.runToCycle (x.syncCyc + sourceLimit)
        c.setSource { x with current := x.waiting.getD x.current, waiting := none }) s

end Sys2Proof.Machine
end

