-- ==== Sys2Proof/Machine/Mapping.lean ====
section
/-! DEFINITION. The mapper: where cells lie (R115), what their footprints read (R116, R118), the walk with its parking places
(R123 to R125), and the meanings of BAND_WRITTEN and MAP_CLR. Positions are integers in 2⁻¹² of a pixel. -/

namespace Sys2Proof.Machine

open Sys2Proof

/-! ### Cells and footprints -/

/-- The position of cell `i` of a fixture (R115). -/
def Chip.cellPos (c : Chip) (fix i : Nat) : Int × Int :=
  if FixRec.place fix = 0 then
    let col : Nat := i % FixRec.gridW fix
    let row : Nat := i / FixRec.gridW fix
    (FixRec.x0 fix + col * FixRec.ux fix + row * FixRec.vx fix, FixRec.y0 fix + col * FixRec.uy fix + row * FixRec.vy fix)
  else
    let e := c.recIn 7 (FixRec.cellBase fix + i)
    ((bits e 0 32 : Nat), (bits e 32 32 : Nat))

/-- The record through which the mapper reads a canvas (R118): the one latched for the frame, or the last that was; none for
a canvas that is disabled or that never passed its check. -/
def Chip.readCanvas (c : Chip) (k : Nat) : Option Nat :=
  if !CanvasRec.en (c.recAt 5 k) then none
  else
    let r := natAt c.frame.canvases k
    let r := if r = 0 then natAt c.lastCanvas k else r
    if r = 0 then none else some r

/-- The pixel that holds a position, the nearest edge pixel for one outside the canvas (R118). -/
def pixelOf (cv : Nat) (x y : Int) : Nat × Nat :=
  ((clampI 0 ((CanvasRec.width cv : Int) - 1) (x / 4096)).toNat, (clampI 0 ((CanvasRec.height cv : Int) - 1) (y / 4096)).toNat)

/-- One axis of a box read (R116): the `j`-th of `n` positions across a width of unsigned 8.8. -/
def boxPos (x : Int) (n width j : Nat) : Int :=
  (x * (2 * n) + (2 * (j : Int) + 1 - n) * (width * 16)) / (2 * n)

/-- The side of a box footprint. -/
def boxSide (footprint : Nat) : Nat := footprint

/-- The pixels that a footprint reads around a position, with their weights, and the divisor of their sum. -/
def footReads (cv fix : Nat) (x y : Int) : List ((Nat × Nat) × Nat) × Nat :=
  match FixRec.footprint fix with
  | 0 => ([(pixelOf cv x y, 1)], 1)
  | 1 =>
    let u := x - 2048
    let v := y - 2048
    let fx := (u % 4096).toNat
    let fy := (v % 4096).toNat
    ([(pixelOf cv u v, (4096 - fx) * (4096 - fy)), (pixelOf cv (u + 4096) v, fx * (4096 - fy)),
      (pixelOf cv u (v + 4096), (4096 - fx) * fy), (pixelOf cv (u + 4096) (v + 4096), fx * fy)], 16777216)
  | 7 => ([], 1)
  | n => (((List.range (boxSide n)).map fun k => (List.range (boxSide n)).map fun j =>
      (pixelOf cv (boxPos x n (FixRec.fpW fix) j) (boxPos y n (FixRec.fpH fix) k), 1)).flatten, n * n)

/-- Where a canvas holds a pixel (R84). -/
def pixelAddr (cv : Nat) (q : Nat × Nat) : Nat := CanvasRec.addr cv + q.2 * CanvasRec.stride cv + q.1 * 8

/-- One component of a weighted sum of pixels, rounded once to a code, halves up. -/
def Chip.weigh (c : Chip) (d : List Host.Cell) (cv j : Nat) (reads : List ((Nat × Nat) × Nat)) (div : Nat) : Nat :=
  (2 * (reads.map fun e => c.fetchLE d (pixelAddr cv e.1 + 2 * j) 2 * e.2).sum + div) / (2 * div)

/-- The three codes that the mapper hands on for a cell (R116, R118). -/
def Chip.sampleCell (c : Chip) (d : List Host.Cell) (fix i : Nat) : List Nat :=
  match c.readCanvas (FixRec.canvas fix) with
  | none => [0, 0, 0]
  | some cv =>
    let p := c.cellPos fix i
    let r := footReads cv fix p.1 p.2
    if r.1.isEmpty then [0, 0, 0] else [c.weigh d cv 0 r.1 r.2, c.weigh d cv 1 r.1 r.2, c.weigh d cv 2 r.1 r.2]

/-- What the reads of a fixture find in LPDDR5X (R114, R394): none for a canvas that reads as disabled (R118). A fixture with FOOTPRINT 7
reads its positions and no pixel (DESIGN CHOICE, log entry 19). -/
def Chip.noteSamples (c : Chip) (fix : Nat) : Chip :=
  if c.eccDram.flips.isEmpty then c
  else match c.readCanvas (FixRec.canvas fix) with
  | none => c
  | some cv =>
    let c := if FixRec.place fix = 0 then c
      else c.noteRead 0 1 (c.liveAt 7 (FixRec.cellBase fix)).2 (8 * FixRec.cellCount fix)
    (List.range (FixRec.cellCount fix)).foldl (fun c i =>
      let p := c.cellPos fix i
      (footReads cv fix p.1 p.2).1.foldl (fun c e => c.noteRead 0 1 (pixelAddr cv e.1) 8) c) c

/-- The bands of its canvas that a fixture's reads touch. -/
def Chip.bandsRead (c : Chip) (fix : Nat) : List (Nat × Nat) :=
  match c.readCanvas (FixRec.canvas fix) with
  | none => []
  | some cv => (((List.range (FixRec.cellCount fix)).map fun i =>
      let p := c.cellPos fix i
      (footReads cv fix p.1 p.2).1.map fun e => (FixRec.canvas fix, e.1.2 / 64)).flatten).eraseDups

/-- Whether every band that a fixture reads has been written (R124). -/
def Chip.bandsReady (c : Chip) (f : Nat) : Bool :=
  (c.bandsRead (c.recAt 1 f)).all fun b => !c.frame.bands.contains b

/-! ### The walk -/

/-- A parking place taken, and MAP_PARK_PEAK. -/
def Chip.parkFixture (c : Chip) (f : Nat) : Chip :=
  let c := { c with frame := { c.frame with parked := c.frame.parked ++ [f] } }
  c.wr Reg.MAP_PARK_PEAK (max (c.rd Reg.MAP_PARK_PEAK) c.frame.parked.length)

/-- The walker stopped for want of a place: the frame is counted once. -/
def Chip.stallWalk (c : Chip) : Chip :=
  if c.frame.stalled then c
  else (({ c with frame := { c.frame with stalled := true } } : Chip).inc Reg.MAP_STALL_CNT).setEvt Reg.MAP_EVT 4

/-- The walk on over the fixtures still to come: reads issued, or the fixture parked; with all places taken the walker stops. -/
def Chip.walkOver : List Nat → Chip → Chip
  | [], c => { c with frame := { c.frame with walk := [] } }
  | f :: r, c =>
    if 1024 ≤ c.frame.parked.length then ({ c with frame := { c.frame with walk := f :: r } } : Chip).stallWalk
    else if c.bandsReady f then Chip.walkOver r { c with frame := { c.frame with issued := c.frame.issued ++ [f] } }
    else Chip.walkOver r (c.parkFixture f)

/-- The walk of the frame taken on. -/
def Chip.walkOn (c : Chip) : Chip := Chip.walkOver c.frame.walk c

/-- The parked fixtures whose bands have been written go on to their reads, and the walk with them (R124). -/
def Chip.unpark (c : Chip) : Chip :=
  let go := c.frame.parked.filter c.bandsReady
  ({ c with frame := { c.frame with
      issued := c.frame.issued ++ go
      parked := c.frame.parked.filter fun f => !c.bandsReady f } } : Chip).walkOn

/-- MAP_FIX_HIGH: one more than the highest enabled fixture (R123). -/
def Chip.fixHigh (c : Chip) : Nat := (c.fixtures.map fun e => e.1 + 1).foldl max 0

/-- The walk started at a crossing: every live record below MAP_FIX_HIGH is read (R123, R125, R146): the records that fail are reported once, the fixtures whose program is
absent likewise, and the others are walked. -/
def Chip.startWalk (c : Chip) : Chip :=
  if !c.domainOn 6 then c
  else
    let fs := c.fixtures
    let bad := fs.filter fun e => c.recState 1 e.1 != 0
    let good := fs.filter fun e => c.recState 1 e.1 == 0
    let vp (e : Nat × Nat) : Nat := c.recAt 2 (FixRec.profile e.2)
    let absent := good.filter fun e =>
      c.recState 2 (FixRec.profile e.2) == 0 && !(c.image 1).carries (ProfRec.vprog (vp e))
    let first := bad.head?.map fun e => c.recState 1 e.1
    let c := c.noteRead (c.liveAt 1 0).1 1 (c.liveAt 1 0).2 (c.fixHigh * recSize 1)
    let c := match bad.head? with
      | none => c
      | some e =>
        let c := (c.add Reg.MAP_CORRUPT_CNT bad.length).wr Reg.MAP_CORRUPT_FIRST (e.1 + 2 ^ 31)
        (c.setEvt Reg.MAP_EVT 1).raise 27 0x0D01
          (it8 c.frame.csn ++ it4 e.1 ++ it4 (first.getD 0) ++ it4 bad.length)
    let c := match absent.head? with
      | none => c
      | some e =>
        ((c.add Reg.MODEL_PROG_MISS_CNT absent.length).setEvt Reg.MODEL_EVT 2).raise 27 0x0D03
          (it8 c.frame.csn ++ it4 (FixRec.profile e.2) ++ it4 absent.length)
    ({ c with frame := { c.frame with
        walk := (good.filter fun e => !absent.contains e).map (·.1)
        skipped := (bad ++ absent).map (·.1) } } : Chip).walkOn

/-- The cells not yet rendered abandoned at the close of the window (R124, R126). -/
def Chip.abandonCells (c : Chip) : Chip :=
  let left := c.frame.walk ++ c.frame.parked ++ c.frame.issued
  let n := (left.map fun f => FixRec.cellCount (c.recAt 1 f)).sum
  let c := { c with frame := { c.frame with walk := [], parked := [], issued := [], unrendered := n } }
  if n = 0 then c else c.setEvt Reg.MAP_EVT 2

/-! ### Meanings -/

/-- BAND_WRITTEN (R99, R100, R124): the band that a lane has is composed and written, and the fixtures parked on it go on. A band
that no lane has yet cannot be finished. -/
def execBandWritten (canvas band : Nat) (s : State) : Host.Outcome State Fault Refusal :=
  within (canvas < 16) (onBoth (fun d c =>
    match c.frame.lanes.findIdx? (· == some (canvas, band)) with
    | none => (d, c)
    | some n => let r := c.writeBand d n canvas band; (r.1, r.2.unpark)) s)

/-- MAP_CLR (R127). -/
def execMapClr (v : Word) (s : State) : Host.Outcome State Fault Refusal :=
  regCommand Reg.MAP_CLR (fun c =>
    if bit v.toNat 0 then (c.wr Reg.MAP_PARK_PEAK 0).wr Reg.MAP_STALL_CNT 0 else c) s

end Sys2Proof.Machine
end

