-- ==== Sys2Proof/Machine/Model.lean ====
section
/-! DEFINITION. The emitter model: program 0 (R135 to R138), temperatures (R139 to R142), the limiter (R143, R144), slots
(R119, R132), and the meanings of FIXTURE_HANDOVER and MODEL_CLR. Drives, temperatures and L are exact rationals, which carry
every bit that R135, R140 and R143 ask for (log entry 19). -/

namespace Sys2Proof.Machine

open Sys2Proof

/-! ### Slots -/

/-- Place of slot 1 of a slot space in its store of octets: descriptors and DMX ports hold 512, pixel ports 32,768. -/
def slotBase (target idx : Nat) : Nat := if target = 2 then idx * 32768 else idx * 512

/-- One slot octet written: a descriptor's slot buffer, or the back copy of a local port (R178, R207). -/
def Chip.putSlot (c : Chip) (space slot : Nat) (b : Byte) : Chip :=
  let k := slotBase (space / 65536) (space % 65536) + (slot - 1)
  match space / 65536 with
  | 0 => { c with slots := Store.set (fun _ => 0) c.slots k b }
  | 1 => { c with dmxBack := Store.set (fun _ => 0) c.dmxBack k b }
  | _ => { c with pixBack := Store.set (fun _ => 0) c.pixBack k b }

/-- The octets of a unit written where it is placed. -/
def Chip.putUnit (c : Chip) (u : PlacedUnit) (bs : List Byte) : Chip :=
  (List.range u.width).foldl (fun c i => c.putSlot u.space (u.slot + i) (bs.getD i 0)) c

/-- A 16-bit value in one or two slots, coarse octet first (R132, R138). -/
def unitOctets (two : Bool) (v : Nat) : List Byte :=
  if two then [BitVec.ofNat 8 (v / 256), BitVec.ofNat 8 v] else [BitVec.ofNat 8 (v / 256)]

/-! ### Program 0 (R135 to R138) -/

/-- The value of the attribute of a role, `dflt` for an absent role. -/
def roleValue (prof : Nat) (attrs : List Nat) (role : Nat) (dflt : Rat) : Rat :=
  match (List.range (ProfRec.attrs prof)).find? fun a => ProfRec.role prof a == role with
  | some a => unit16 (attrs.getD a 0)
  | none => dflt

/-- BT.2087 between the canvas space and MATRIX_SPACE, negative components kept. -/
def toMatrixSpace (space ms : Nat) (v : Rat × Rat × Rat) : Rat × Rat × Rat :=
  match space, ms with
  | 0, 1 => bt709to2020.times v
  | 1, 0 => bt2020to709.times v
  | _, _ => v

/-- flux(e, T). -/
def fluxAt (prof e : Nat) (t : Rat) : Rat :=
  let u := clampQ 0 15 ((t - (ProfRec.fluxT0 prof e : Rat) / 256) / ((ProfRec.fluxStep prof e : Rat) / 256))
  let i := u.floor.toNat
  let f (i : Nat) : Rat := (ProfRec.flux prof e i : Rat) / 32768
  f i + (f (min 15 (i + 1)) - f i) * (u - i)

/-- ceiling(e, T). -/
def ceilingAt (prof e : Nat) (t : Rat) : Rat :=
  let knee := (ProfRec.knee prof e : Rat) / 256
  if t ≤ knee then 1
  else max ((ProfRec.floor prof e : Rat) / 65536) (1 - (ProfRec.slope prof e : Rat) / 65536 * (t - knee))

/-- curve(d) (R136). -/
def Chip.dimCurve (c : Chip) (prof : Nat) (d : Rat) : Rat :=
  match ProfRec.curve prof with
  | 0 =>
    let pos := clampQ 0 1023 (d * 1023)
    let i := pos.floor.toNat
    let e (i : Nat) : Rat := unit16 (fld (c.recIn 8 (ProfRec.curveIdx prof)) (2 * i) 0 16)
    e i + (e (min 1023 (i + 1)) - e i) * (pos - i)
  | 1 => d
  | 2 => rpow d (1 / 2)
  | 3 => rpow d (5 / 11)
  | _ => if d ≤ 31308 / 10000000 then d * 1292 / 100 else rpow d (5 / 12) * 1055 / 1000 - 55 / 1000

/-- What a cell is evaluated to: the final drives, the drives before L, the codes by cell slot position, and the counter
that takes it (1 HEADROOM, 2 DERATE). -/
structure CellResult where
  drives  : List Rat
  unscaled : List Rat
  codes   : List Nat
  count   : Nat
  deriving DecidableEq, Repr

/-- A rational among the inputs of an opaque function. -/
def ratCode (q : Rat) : List Nat := [q.num.toNat, (-q.num).toNat, q.den]

/-- Everything a cell is evaluated from, as numbers. -/
def cellInputs (version prof curve space : Nat) (smp attrs : List Nat) (t l : Rat) : List Nat :=
  [version, prof, curve, space] ++ smp ++ ratCode t ++ ratCode l ++ attrs

/-- The step of R135 on an exactly rounded code. -/
def stepCode (top code : Nat) (k : BitVec 2) : Nat :=
  if k = 1 then min top (code + 1) else if k = 2 then code - 1 else code

/-- A cell under program 0, from its sample codes, the attribute values, T and L (R135). -/
def Chip.program0 (c : Chip) (prof space : Nat) (smp attrs : List Nat) (t l : Rat) : CellResult :=
  let em := ProfRec.emitters prof
  let content := roleValue prof attrs 5 1
  let master := roleValue prof attrs 1 1
  let comp (j : Nat) : Rat := min 1 (content * unit16 (smp.getD j 0) + roleValue prof attrs (2 + j) 0) * master
  let v := toMatrixSpace space (ProfRec.space prof) (comp 0, comp 1, comp 2)
  let m (e j : Nat) : Rat := (ProfRec.m prof e j : Rat) / 2 ^ 28
  let d0 := (List.range em).map fun e =>
    let d := max 0 (m e 0 * v.1 + m e 1 * v.2.1 + m e 2 * v.2.2)
    if ProfRec.tcomp prof then d / fluxAt prof e t else d
  let ceils := (List.range em).map fun e => if ProfRec.derate prof then ceilingAt prof e t else 1
  let excess := (d0.zip ceils).filter fun x => x.2 < x.1
  let s := (excess.map fun x => x.2 / x.1).foldl min 1
  let unscaled := d0.map (· * s)
  let drives := unscaled.map (· * l)
  let top := if ProfRec.wide prof then 65535 else 255
  let inputs := cellInputs (c.image 1).version prof (c.recIn 8 (ProfRec.curveIdx prof)) space smp attrs t l
  { drives := drives
    unscaled := unscaled
    codes := (List.range em).map fun k =>
      let x := c.dimCurve prof (drives.getD (ProfRec.slotMap prof k) 0)
      stepCode top (clampI 0 top (roundHalfUp (x * top))).toNat (Config.codeStep (c.image 1).body inputs k)
    count := if s < 1 then (if excess.any fun x => x.2 / x.1 == s && x.2 < 1 then 2 else 1) else 0 }

/-- A cell under another program (R145, log entry 20). -/
def Chip.otherProgram (c : Chip) (prof space : Nat) (smp attrs : List Nat) (t l : Rat) : CellResult :=
  let em := ProfRec.emitters prof
  let inputs := cellInputs (c.image 1).version prof (c.recIn 8 (ProfRec.curveIdx prof)) space smp attrs t l
  let drive (e : Nat) : Rat := min 1 (((Config.programDrive (c.image 1).body inputs e).toNat : Rat) / 2 ^ 32)
  { drives := (List.range em).map fun e => drive e * l
    unscaled := (List.range em).map drive
    codes := (List.range em).map fun k =>
      let x := (Config.programCode (c.image 1).body inputs k).toNat
      if ProfRec.wide prof then x else x / 256
    count := (Config.programCount (c.image 1).body inputs).toNat }

/-- A cell under the program its profile names (R145). -/
def Chip.evalCell (c : Chip) (prof space : Nat) (smp attrs : List Nat) (t l : Rat) : CellResult :=
  if ProfRec.vprog prof = 0 then c.program0 prof space smp attrs t l else c.otherProgram prof space smp attrs t l

/-! ### Temperatures (R139 to R142) -/

/-- A temperature held to the range of the estimate. -/
def clampTemp (t : Rat) : Rat := clampQ (-128) (32767 / 256) t

/-- The estimate of a fixture; 25 °C, the ambient at power-on, where none has been set (R141). -/
def Chip.estimate (c : Chip) (f : Nat) : Rat := Store.get (fun _ => 25) c.tEst f
def Chip.setEstimate (c : Chip) (f : Nat) (t : Rat) : Chip :=
  { c with tEst := Store.set (fun _ => 25) c.tEst f (clampTemp t) }

/-- MODEL_AMBIENT in degrees. -/
def Chip.ambient (c : Chip) : Rat := (sext 16 (bits (c.lv Reg.MODEL_AMBIENT) 0 16) : Rat) / 256

/-- The estimate of a fixture that becomes enabled or changes its profile (R140, R141). -/
def Chip.resetEstimate (c : Chip) (f : Nat) : Chip :=
  { c.setEstimate f c.ambient with applied := setNat c.applied f 0 }

/-- Where the host temperature table holds the entry that a fixture names (R122, R139). -/
def Chip.hostTempAt (c : Chip) (fix : Nat) : Nat := c.tblBase + 0xF80000 + 4 * bits (FixRec.tempRef fix) 0 17

/-- The reading that is new for a fixture, in degrees, with the mark that notes it applied (R122, R140). -/
def Chip.newReading (c : Chip) (d : List Host.Cell) (f : Nat) : Option (Rat × Nat) :=
  let fix := c.recAt 1 f
  let held := natAt c.applied f
  match FixRec.tempSrc fix with
  | 1 =>
    match c.sensors.find? fun x => x.ctx == bits (FixRec.tempRef fix) 0 10 && x.sensor == bits (FixRec.tempRef fix) 10 8 with
    | none => none
    | some x => if 0 < x.count && held ≠ x.count + 1 then some ((x.reading : Rat) / 256, x.count + 1) else none
  | 2 =>
    let e := c.fetchLE d (c.hostTempAt fix) 4
    if bit e 31 && held ≠ bits e 16 8 + 1 then some ((sext 16 (bits e 0 16) : Rat) / 256, bits e 16 8 + 1) else none
  | _ => none

/-- Whether the isle applies measured readings of its own (R140): a standby does not. -/
def Chip.measures (c : Chip) : Bool := c.pair.isle == .solo || c.pair.isle == .active

/-- A new reading applied at the hand-over; a fixture that applies one joins the correction list of the ferry (R332). -/
def Chip.applyReading (c : Chip) (d : List Host.Cell) (f : Nat) : Chip :=
  if !c.measures then c
  else match c.newReading d f with
  | none => c
  | some (m, mark) =>
    let k := (ProfRec.kcorr (c.recAt 2 (FixRec.profile (c.recAt 1 f))) : Rat) / 32768
    let t := c.estimate f
    { c.setEstimate f (t + k * (m - t)) with
      applied := setNat c.applied f mark
      pair := { c.pair with correctedNow := f :: c.pair.correctedNow } }

/-- ALPHA of a profile at a rate, unsigned 0.32 (R140). -/
def alphaOf (prof n d : Nat) : Rat :=
  let x : Rat := 1 - exp (-((d : Rat) / n) / ((ProfRec.tau prof : Rat) / 100))
  (roundHalfUp (x * 2 ^ 32) : Rat) / 2 ^ 32

/-- The update of R140 after the last cell, with the fixture's power in watts. -/
def Chip.heat (c : Chip) (f : Nat) (p : Rat) : Chip :=
  let prof := c.recAt 2 (FixRec.profile (c.recAt 1 f))
  let t := c.estimate f
  c.setEstimate f (t + alphaOf prof c.fg.rateN c.fg.rateD * (c.ambient + (ProfRec.rth prof : Rat) / 256 * p - t))

/-! ### The limiter (R143, R144) -/

def Limiter.reset : Limiter := { scale := 1, drive := 0, rendered := false, baseOver := false }

/-- The scale L of a feed; 1 for no feed. -/
def Chip.scaleOf (c : Chip) (feed : Nat) : Rat := if feed < 8 then (c.limiters.getD feed Limiter.reset).scale else 1

/-- A fixture's drive power before L noted for its feed. -/
def Chip.noteDrive (c : Chip) (feed : Nat) (w : Rat) : Chip :=
  if 8 ≤ feed then c
  else
    let x := c.limiters.getD feed Limiter.reset
    { c with limiters := c.limiters.set feed { x with drive := x.drive + w, rendered := true } }

/-- Tenths of a watt, truncated and saturating at 24 bits. -/
def tenths (w : Rat) : Nat := min 0xFFFFFF (w * 10).floor.toNat

/-- P_base of a feed: BASE_W of the fixtures enabled on it. -/
def Chip.baseOf (c : Chip) (feed : Nat) : Rat :=
  ((c.fixtures.filter fun e => FixRec.feed e.2 == feed).map fun e =>
    (ProfRec.baseW (c.recAt 2 (FixRec.profile e.2)) : Rat) / 16).sum

/-- L by the table of R143. Where a budget equal to P_base and no drive power meet two of its rows, L is 0 (DESIGN CHOICE, log entry
19). -/
def limitScale (on : Bool) (base drive budget : Rat) (rendered : Bool) : Rat :=
  if !on || !rendered then 1
  else if budget ≤ base then 0
  else if drive ≤ budget - base then 1
  else (budget - base) / drive

/-- L of one feed fixed at the crossing, with its registers and events. -/
def Chip.fixScale (c : Chip) (csn feed : Nat) : Chip :=
  let x := c.limiters.getD feed Limiter.reset
  let on := bit (c.lv Reg.LIM_CTRL) feed
  let base := c.baseOf feed
  let budget : Rat := (bits (c.lv (Reg.LIM_BUDGET feed)) 0 24 : Rat) / 10
  let l := limitScale on base x.drive budget x.rendered
  let baseOver := on && x.rendered && decide (budget ≤ base)
  let c := { c with limiters := c.limiters.set feed ⟨l, 0, false, baseOver⟩ }
  let c := c.wr (Reg.LIM_SCALE feed) (l * 65536).floor.toNat
  let c := if on then c.wr (Reg.LIM_PRED feed) (tenths (base + x.drive)) else c
  let c := if l < 1 then c.inc (Reg.LIM_ACTIVE_CNT feed) else c
  let c := if l < 1 && x.scale == 1 then (c.setEvt Reg.MODEL_EVT 8).raise 27 0x0D05
      (it4 feed ++ it8 csn ++ it4 (l * 65536).floor.toNat ++ it4 (tenths (base + x.drive)))
    else if l == 1 && x.scale < 1 then (c.setEvt Reg.MODEL_EVT 16).raise 27 0x0D06 (it4 feed ++ it8 csn)
    else c
  if baseOver && !x.baseOver then (c.setEvt Reg.MODEL_EVT 32).raise 27 0x0D07 (it4 feed ++ it8 csn ++ it4 (tenths base))
  else c

/-- L of every feed, while PD_RENDER is on. -/
def Chip.fixScales (c : Chip) (csn : Nat) : Chip :=
  if c.domainOn 6 then (List.range 8).foldl (fun c f => c.fixScale csn f) c else c

/-! ### The hand-over -/

/-- The space that the mapper hands on with a fixture's samples. -/
def Chip.handedSpace (c : Chip) (fix : Nat) : Nat :=
  CanvasRec.space ((c.readCanvas (FixRec.canvas fix)).getD (c.recAt 5 (FixRec.canvas fix)))

/-- The slots of an attribute (R132). -/
def attrOctets (prof a v : Nat) : List Byte :=
  unitOctets (ProfRec.attrWide prof a) (if ProfRec.role prof a = 0 then v else ProfRec.wire prof a)

/-- The slots of a cell: its codes by position. -/
def cellOctets (prof : Nat) (codes : List Nat) : List Byte :=
  if ProfRec.wide prof then (codes.map fun x => unitOctets true x).flatten else codes.map (BitVec.ofNat 8)

/-- The watts that drives take (R140, R143). -/
def wattsOf (prof : Nat) (drives : List Rat) : Rat :=
  ((List.range drives.length).map fun e => (ProfRec.watts prof e : Rat) / 256 * drives.getD e 0).sum

/-- A profile that fails its check at its first use in the frame (R134). The event's number of failing profiles is counted ahead, over
every fixture with a good record, those that the frame may abandon among them (DESIGN CHOICE, log entry 19). -/
def Chip.profileFails (c : Chip) (f : Nat) : Chip :=
  let p := FixRec.profile (c.recAt 1 f)
  let c := c.inc Reg.MODEL_NORENDER_CNT
  let c := { c with frame := { c.frame with
    issued := c.frame.issued.filter (· != f), skipped := f :: c.frame.skipped } }
  if c.frame.profSeen then c
  else
    let failing := (((c.fixtures.filter fun e => c.recState 1 e.1 == 0).map fun e => FixRec.profile e.2).eraseDups.filter
      fun q => c.recState 2 q != 0).length
    let c := { c with frame := { c.frame with profSeen := true } }
    (c.setEvt Reg.MODEL_EVT 1).raise 27 0x0D02
      (it8 c.frame.csn ++ it4 p ++ it4 (c.recState 2 p) ++ it4 failing)

/-- What a model lane's reading of a fixture's input patch, attribute values and host temperature finds (R394). -/
def Chip.noteInputs (c : Chip) (f : Nat) : Chip :=
  let c := (c.noteRec 2 11 f).noteRead 0 2 (c.valueAt c.frame.csn (f * 32)) 64
  if c.measures && FixRec.tempSrc (c.recAt 1 f) = 2 then c.noteRead 0 2 (c.hostTempAt (c.recAt 1 f)) 4 else c

/-- A fixture rendered by a model lane (R119, R135, R140). -/
def Chip.render (c : Chip) (d : List Host.Cell) (f : Nat) : Chip :=
  let fix := c.recAt 1 f
  let p := FixRec.profile fix
  let prof := c.recAt 2 p
  let c := (((c.noteSamples fix).noteRec 2 8 (ProfRec.curveIdx prof)).noteInputs f).applyReading d f
  let attrs := (List.range (ProfRec.attrs prof)).map (c.attrValue f)
  let t := c.estimate f
  let l := c.scaleOf (FixRec.feed fix)
  let cells := (List.range (FixRec.cellCount fix)).map fun i =>
    c.evalCell prof (c.handedSpace fix) (c.sampleCell d fix i) attrs t l
  let octets := ((List.range (ProfRec.attrs prof)).map fun a => attrOctets prof a (attrs.getD a 0)) ++
    cells.map fun x => cellOctets prof x.codes
  let c := ((c.unitsOf f).zip octets).foldl (fun c e => c.putUnit e.1 e.2) c
  let c := c.add (Reg.PROF_HEADROOM_CNT p) (cells.filter fun x => x.count == 1).length
  let c := c.add (Reg.PROF_DERATE_CNT p) (cells.filter fun x => x.count == 2).length
  let c := c.noteDrive (FixRec.feed fix) (cells.map fun x => wattsOf prof x.unscaled).sum
  let power := (ProfRec.baseW prof : Rat) / 16 + (cells.map fun x => wattsOf prof x.drives).sum
  let c := { c.heat f power with drawn := Store.set (fun _ => 0) c.drawn f power }
  { c with frame := { c.frame with issued := c.frame.issued.filter (· != f), done := f :: c.frame.done } }

/-- FIXTURE_HANDOVER (R134, R140): a fixture whose reads have returned. -/
def execFixtureHandover (f : Nat) (s : State) : Host.Outcome State Fault Refusal :=
  within (f < 131072) (onChip (fun d c =>
    if c.domainOn 6 && c.frame.issued.contains f then
      let p := FixRec.profile (c.recAt 1 f)
      let bad := c.recState 2 p ≠ 0
      let c := c.noteRec 2 2 p
      if bad then c.profileFails f else c.render d f
    else c) s)

/-- MODEL_CLR (R148). -/
def execModelClr (v : Word) (s : State) : Host.Outcome State Fault Refusal :=
  regCommand Reg.MODEL_CLR (fun c =>
    if bit v.toNat 0 then { c with regs := c.regs.filter fun e => e.1 < 0x70000 || 0x78000 ≤ e.1 } else c) s

end Sys2Proof.Machine
end

