-- ==== Sys2Proof/Machine/Wire.lean ====
section
/-! DEFINITION. Frames on the wire: the octets of E1.31 data and synchronisation packets (R189, R200), with
the tags of a port (R236). -/

namespace Sys2Proof.Machine

open Sys2Proof

/-- Octets replaced from an offset on. -/
def putAt (l : List Byte) (off : Nat) (bs : List Byte) : List Byte := l.take off ++ bs ++ l.drop (off + bs.length)

/-! ### Ports -/

/-- The VID of a port. -/
def Chip.vidOf (c : Chip) (p : Nat) : Nat := bits (c.lv (Reg.NET_VLAN p)) 0 12
def Chip.tagOn (c : Chip) (p : Nat) : Bool := bit (c.lv (Reg.NET_VLAN p)) 15

/-- The tag a port puts on lone descriptors, if it tags: PCP and VID (R236). -/
def Chip.tagOf (c : Chip) (p : Nat) : Option Nat :=
  if c.tagOn p then some (bits (c.lv (Reg.NET_VLAN p)) 12 3 * 8192 + c.vidOf p) else none

/-! ### Headers -/

/-- The Ethernet, IP and UDP headers of a lone descriptor or a synchronisation packet, lengths and checksums still 0: the
destination MAC and IP, the tag, DSCP and TTL. -/
def plainHeaders (ipv6 : Bool) (tag : Option Nat) (dscp ttl : Nat) : List Byte :=
  let eth := List.replicate 12 0 ++ (match tag with | none => [] | some t => beBytes 2 0x8100 ++ beBytes 2 t) ++
    beBytes 2 (if ipv6 then 0x86DD else 0x0800)
  let ip := if ipv6 then beBytes 4 (6 * 2 ^ 28 + dscp * 2 ^ 22) ++ [0, 0, 17, BitVec.ofNat 8 ttl] ++ List.replicate 32 0
    else [0x45, BitVec.ofNat 8 (dscp * 4), 0, 0, 0, 0, 0x40, 0, BitVec.ofNat 8 ttl, 17, 0, 0] ++ List.replicate 8 0
  eth ++ ip ++ beBytes 2 5568 ++ beBytes 2 5568 ++ [0, 0, 0, 0]

/-- The root identifier of E1.31. -/
def rootIdent : List Byte := [0x41, 0x53, 0x43, 0x2D, 0x45, 0x31, 0x2E, 0x31, 0x37, 0, 0, 0]

/-- The E1.31 octets of a lone descriptor, the fields that the packer writes per packet still 0. -/
def plainE131 (sync : Nat) (force : Bool) : List Byte :=
  beBytes 2 0x10 ++ beBytes 2 0 ++ rootIdent ++ beBytes 2 0 ++ beBytes 4 4 ++ List.replicate 16 0 ++
    beBytes 2 0 ++ beBytes 4 2 ++ List.replicate 64 0 ++ [0] ++ beBytes 2 sync ++ [0] ++ [if force then 0x20 else 0] ++
    beBytes 2 0 ++ beBytes 2 0 ++ [2, 0xA1] ++ beBytes 2 0 ++ beBytes 2 1 ++ beBytes 2 0 ++ [0]

/-- An Internet checksum as UDP carries it: 0 goes as all ones. -/
def udpSum (x : Nat) : Nat := if x = 0 then 0xFFFF else x

/-- A frame whose IP header begins at `ip` given its addresses, lengths and checksums (R189). -/
def finishIp (ipv6 : Bool) (ip dst : Nat) (src : Nat) (frame : List Byte) : List Byte :=
  let udp := ip + (if ipv6 then 40 else 20)
  let ulen := frame.length - udp
  let f := putAt (putAt frame (udp + 4) (beBytes 2 ulen)) (udp + 6) [0, 0]
  let alen := if ipv6 then 16 else 4
  let addrs := beBytes alen src ++ beBytes alen dst
  let f := if ipv6 then putAt (putAt f (ip + 4) (beBytes 2 ulen)) (ip + 8) addrs
    else
      let f := putAt (putAt (putAt f (ip + 2) (beBytes 2 (ulen + 20))) (ip + 10) [0, 0]) (ip + 12) addrs
      putAt f (ip + 10) (beBytes 2 (inetSum 0 ((f.drop ip).take 20)))
  let pseudo := addrs ++ (if ipv6 then beBytes 4 ulen ++ [0, 0, 0, 17] else [0, 17] ++ beBytes 2 ulen)
  putAt f (udp + 6) (beBytes 2 (udpSum (inetSum (sum16 pseudo) (f.drop udp))))

/-- The Ethernet addresses of a frame. -/
def putMacs (dst src : Nat) (frame : List Byte) : List Byte := putAt frame 0 (beBytes 6 dst ++ beBytes 6 src)

/-- The multicast MAC of a universe. -/
def univMac (v6 : Bool) (n : Nat) : Nat := if v6 then 0x333383000000 + n else 0x01005E7F0000 + n

/-- A data packet on a port, up to its FCS, with its sequence number and the stream-terminated option (R189). -/
def Chip.dataPacket (c : Chip) (p : Nat) (k : PacketSpec) (seq : Nat) (term : Bool) : List Byte :=
  let here := k.ports.getD p (c.macOf p, c.ipOf p k.ipv6, c.tagOf p)
  let tag := if k.template.isSome then none else here.2.2
  let head := match k.template with
    | some t => t
    | none => plainHeaders k.ipv6 tag k.dscp k.ttl ++ plainE131 k.sync k.force
  let ip := if k.vlan || tag.isSome then 18 else 14
  let e := ip + (if k.ipv6 then 48 else 28)
  let n := 126 + k.slots.length
  let fl (o : Nat) : List Byte := beBytes 2 (0x7000 ||| (n - o))
  let opts := (head.getD (e + 112) 0).toNat
  let f := head ++ k.slots
  let f := putAt (putAt (putAt f (e + 16) (fl 16)) (e + 22) k.cid) (e + 38) (fl 38)
  let f := putAt (putAt (putAt f (e + 44) k.name) (e + 108) [BitVec.ofNat 8 k.prio]) (e + 111) [BitVec.ofNat 8 seq]
  let f := putAt (putAt f (e + 112) [BitVec.ofNat 8 (bits opts 0 6 + term.toNat * 64)]) (e + 113) (beBytes 2 k.univ)
  let f := putAt (putAt (putAt f (e + 115) (fl 115)) (e + 123) (beBytes 2 (1 + k.slots.length))) (e + 125) [0]
  finishIp k.ipv6 ip k.ipDst here.2.1 (putMacs k.dest here.1 f)

/-- PK_HDR_DEFAULT: TTL, DSCP and FORCE_SYNC (R203). -/
def Chip.defaultTtl (c : Chip) : Nat := bits (c.lv Reg.PK_HDR_DEFAULT) 0 8
def Chip.defaultDscp (c : Chip) : Nat := bits (c.lv Reg.PK_HDR_DEFAULT) 8 6
def Chip.defaultForce (c : Chip) : Bool := bit (c.lv Reg.PK_HDR_DEFAULT) 14

/-- A synchronisation packet of a pair on a port (R200): a UDP payload of 49 octets. -/
def Chip.syncPacket (c : Chip) (p : Nat) (pair : Nat × Nat × Bool) (seq : Nat) : List Byte :=
  let v6 := pair.2.2
  let tag := c.tagOf p
  let ip := if tag.isSome then 18 else 14
  let body := beBytes 2 0x10 ++ beBytes 2 0 ++ rootIdent ++ beBytes 2 (0x7000 ||| 33) ++ beBytes 4 8 ++
    SourceRec.cid (c.recAt 12 pair.2.1) ++ beBytes 2 (0x7000 ||| 11) ++ beBytes 4 1 ++ [BitVec.ofNat 8 seq] ++
    beBytes 2 pair.1 ++ [0, 0]
  finishIp v6 ip (univGroup v6 pair.1) (c.ipOf p v6)
    (putMacs (univMac v6 pair.1) (c.macOf p) (plainHeaders v6 tag c.defaultDscp c.defaultTtl ++ body))

end Sys2Proof.Machine
end

