-- ==== Sys2Proof/Machine/Time.lean ====
section
/-! DEFINITION. Time: the seal point with the promotion test that it brings (R39, R339), steps of a time base and what they do to the frame generator (R57, R63 to R67), the servos with their
states (R58 to R60), the ordinary clocks (R61, R310), LTC_IN, FPULSE_IN and FPULSE_OUT (R73 to R77), and the commands of the
frame generator (R27 to R29, R65, R66). -/

namespace Sys2Proof.Machine

open Sys2Proof

/-! ### The seal point (R39, R339) -/

/-- The pair logic replaced. -/
def Chip.setPair (c : Chip) (p : Pair) : Chip := { c with pair := p }

/-- Whether a beacon of an active peer has come since crossing `n` − T_PROMOTE. -/
def Chip.beaconSince (c : Chip) (n : Nat) : Bool :=
  c.pair.beaconSeen && decide (n ≤ c.pair.beaconCsn + c.pair.tPromote)

/-- The promotion test at a seal point (R339). A standby that has not been brought level with an active peer never promotes
itself (log entry 35). -/
def Chip.promotionTest (c : Chip) : Chip :=
  let p := c.pair
  if p.isle == .standby && p.policy = 1 && p.armed && decide (p.frameCsn + p.tPromote ≤ c.csn) &&
      !c.beaconSince (c.csn + 1) then
    c.setPair { p with promoteAt := some .self }
  else c

/-- The seal of the next crossing applied now: at its seal point, or at a step that passes it (R63). One already applied stays. -/
def Chip.sealNow (c : Chip) : Chip := if c.sealed then c else { c.promotionTest with sealed := true }

/-! ### FPULSE_OUT (R76, R77) -/

/-- The level of FPULSE_OUT: asserted or idle, under FPOUT_CFG.POL (R76). -/
def Chip.fpulseLevel (c : Chip) : Bool := c.pulses.outHigh != bit (c.lv Reg.FPOUT_CFG) 1

/-- FPULSE_OUT asserted or let go. -/
def Chip.drivePulse (c : Chip) (on : Bool) : Chip :=
  let c := { c with pulses := { c.pulses with outHigh := on } }
  c.toBall (.fpulse c.fpulseLevel)

/-- The instant of a crossing fixed: its pulse is due unless it has been emitted. Only the crossing in force and those to
come are kept. -/
def Chip.fixPulse (c : Chip) (csn instant : Nat) (sel : PulseSel) : Chip :=
  let keep := c.pulses.outDue.filter fun d => c.csn ≤ d.csn && d.csn != csn
  { c with pulses := { c.pulses with
      outDue := if csn ≤ c.pulses.outDone then keep else keep ++ [⟨csn, instant, c.now, sel⟩] } }

/-- Whether DIV of FPOUT_CFG selects a crossing. An off-grid crossing after a hold has no index and is selected as the
immediate crossing is (DEDUCED, log entry 28). -/
def pulseSelected (div csn : Nat) : PulseSel → Bool
  | .grid i => i % div == 0
  | .byCsn => csn % div == 0
  | .single => div == 1

/-- The instant of the next generator crossing fixed; explicit crossings still called come before it (log entry 44). -/
def Chip.fixNext (c : Chip) : Chip :=
  c.fixPulse (c.csn + 1 + c.fg.explicit.length) c.fg.next (match c.fg.nextIdx with | some i => .grid i | none => .single)

/-- A pulse begun, no earlier than its crossing's instant was fixed (R77): it begins at the instant plus FPOUT_OFFSET. -/
def Chip.beginPulse (c : Chip) (d : PulseDue) (rest : List PulseDue) : Chip :=
  let at_ := (d.instant : Int) + sext 32 (c.lv Reg.FPOUT_OFFSET)
  let late := decide (at_ < d.fixed)
  let c := c.runTo at_.toNat
  let ends := c.cycle + usCycles (bits (c.lv Reg.FPOUT_WIDTH) 0 10)
  let merged := c.pulses.outHigh && decide (c.cycle < c.pulses.outEnd)
  let c := c.setEvt Reg.FPOUT_STATUS (late.toNat + 2 * merged.toNat)
  let c := { c with pulses := { c.pulses with
      outDue := rest, outDone := d.csn, outEnd := if merged then max c.pulses.outEnd ends else ends } }
  if c.pulses.outHigh then c else c.drivePulse true

/-- The instant at which a pulse begins under the live settings: where it is programmed, or when its crossing was fixed. -/
def Chip.pulseStart (c : Chip) (d : PulseDue) : Int :=
  max ((d.instant : Int) + sext 32 (c.lv Reg.FPOUT_OFFSET)) d.fixed

/-- Whether a pulse comes of a crossing under the live settings: DIV selects it (R76). -/
def Chip.pulseComes (c : Chip) (d : PulseDue) : Bool := pulseSelected (bits (c.lv Reg.FPOUT_CFG) 2 4) d.csn d.sel

/-! ### Steps (R57, R63 to R67) -/

/-- The grid instants after `a`, up to `b`. -/
def FrameGen.between (g : FrameGen) (a b : Nat) : Nat := g.indexFrom (b + 1) - g.indexFrom (a + 1)

/-- The next crossing after L while the generator is held: L + P (R64). -/
def FrameGen.afterLast (g : FrameGen) : FrameGen :=
  if g.lastGrid then { g with next := g.instant (g.lastIdx + 1), nextIdx := some (g.lastIdx + 1) }
  else { g with next := g.last + g.rateD * 1000000000 / g.rateN, nextIdx := none }

/-- The generator put in hold by a backward step (R64). A seal already applied to L + P is not undone (DEDUCED from R63, log
entry 44), and the pulse of L + P moves with it where it lies off the grid. -/
def Chip.enterHold (c : Chip) (size : Int) : Chip :=
  let was := c.fg.next
  let c := { c with fg := { c.fg.afterLast with mode := .held } }
  let c := if c.fg.next = was then c else c.fixNext
  (c.inc Reg.FG_HOLD_CNT).raise 1 0x0202 (it8 c.csn ++ itInstant c.fg.last ++ itI8 size)

/-- The hold left, with FG_RESUME (R64, R65). -/
def Chip.leaveHold (c : Chip) (cause : Nat) : Chip :=
  { c with fg := { c.fg with mode := .running } }.raise 1 0x0203 (it8 c.csn ++ it4 cause)

/-- The immediate crossing that a forward step over `passed` grid instants calls for, asserted within tFJ (R67). -/
def Chip.callImmediate (c : Chip) (passed : Nat) : Chip :=
  let c := (if c.fg.mode = .held then c.leaveHold 0 else c).sealNow
  let wait : Nat := c.free % 20001
  let c := c.drew
  let at_ := (c.bound.advance wait).ns
  { c with fg := { c.fg with next := at_, nextIdx := none, immediate := some (passed, c.now, c.cycle + wait) } }.fixPulse
    (c.csn + 1 + c.fg.explicit.length) at_ .single

/-- The grid instants after L that a step passes over, from the reading before it; before the first crossing of all, those from
the next crossing on (R67). -/
def Chip.passedOver (c : Chip) (before : Nat) : Nat :=
  if 0 < c.csn then c.fg.between (max before c.fg.last) c.now else c.fg.between (c.fg.next - 1) c.now

/-- A step of the bound time base, which read `before`, as the generator takes it. A crossing off the grid that a step passes
calls for an immediate crossing as a grid instant does (DEDUCED, log entry 44). A further step before the assertion counts
the grid instants that it carries the counter over beyond the highest reading of the steps before it, so that one passed
twice counts once (DESIGN CHOICE, log entry 44). -/
def Chip.boundStepped (c : Chip) (size : Int) (before : Nat) : Chip :=
  let t := c.bound.time
  let g := c.fg
  if g.mode = .stopped || g.stopping then c
  else match g.immediate with
  | some (n, hi, at_) =>
    let from_ := max hi before
    if from_ < c.now then { c with fg := { g with immediate := some (n + g.between from_ c.now, c.now, at_) } } else c
  | none =>
    if g.mode = .running && 0 < c.csn && size < 0 && t < g.last * nsUnits then c.enterHold size
    else if g.mode = .held && t ≤ g.last * nsUnits then c
    else if 0 < c.passedOver before || g.next * nsUnits ≤ t then c.callImmediate (c.passedOver before)
    else
      let c := if g.mode = .held then c.leaveHold 0 else c
      if c.fg.next ≤ c.now + bits (c.lv Reg.SEAL_OFFSET) 0 11 * 1000 then c.sealNow else c

/-- A step of time base `n` by a signed offset in its units (R57): counted and raised, tasks readied, and the generator
served. -/
def Chip.stepTb (c : Chip) (n : Nat) (units : Int) : Chip :=
  c.inCycle fun c =>
    let t := (c.tb n).noted c.cycle
    let c := c.setTb n { t with time := (((t.time : Int) + units) % (timeSpan : Int)).toNat }
    let size := units / (nsUnits : Int)
    let c := ((c.inc (Reg.TB_STEP_CNT n)).setEvt (Reg.TB_EVT n) 1).raise (16 + n) 0x0901 (it4 n ++ itI8 size)
    let c := c.readyWhere fun w =>
      TaskRec.wait w.record == 1 && TaskRec.tb w.record == n && TaskRec.instant w.record ≤ (c.tb n).ns
    if c.fg.tb = n then c.boundStepped size t.ns else c

/-! ### Servos (R58 to R60) -/

/-- Whether a servo corrects a time base: its SOURCE has one and PD_CTRL is on (R60). -/
def Chip.servoOn (c : Chip) (n : Nat) : Bool :=
  1 ≤ c.sourceTb n && c.sourceTb n ≤ 3 && c.domainOn 1 && !c.update.handover

/-- STATE after a measurement of `off` ns (R60). -/
def TimeBase.measure (t : TimeBase) (off : Int) : TimeBase :=
  let near : Nat := if decide (-1000 ≤ off) && decide (off ≤ 1000) then t.inBand + 1 else 0
  let far : Nat := if decide (off < -10000) || decide (10000 < off) then t.outBand + 1 else 0
  let t := { t with inBand := min 8 near, outBand := min 8 far, offset := off }
  match t.mode with
  | .locked => if 8 ≤ far then { t with mode := .acquiring, inBand := 0, outBand := 0 } else t
  | _ => if 8 ≤ near then { t with mode := .locked, inBand := 0, outBand := 0 } else { t with mode := .acquiring }

/-- A measurement of a servo (R59, R60): `off` ns is what must be added to the time base. Beyond the threshold it steps;
otherwise it slews the rate to a value that the spec leaves open, within the clamp of R56 (log entry 29). -/
def Chip.servo (c : Chip) (n : Nat) (off : Int) : Chip :=
  if c.update.handover then c
  else c.inCycle fun c =>
    let was := c.tb n
    let t := was.measure off
    let c := c.setTb n t
    let c := if was.mode = .locked && t.mode = .acquiring then
        (c.setEvt (Reg.TB_EVT n) 2).raise (16 + n) 0x0902 (it4 n ++ itI4 (clampI (-2147483648) 2147483647 off))
      else c
    if c.lv (Reg.TB_STEP_THR n) * 1000 < off.natAbs then c.stepTb n (off * (nsUnits : Int))
    else (c.setTb n { t.noted c.cycle with rate := clampI (-512000000) 512000000 (sext 64 c.free) }).drew

/-- The source of a time base lost (R60). -/
def Chip.loseTbSource (c : Chip) (n : Nat) : Chip :=
  let t := c.tb n
  if (t.mode = .acquiring || t.mode = .locked) && 1 ≤ c.sourceTb n && c.sourceTb n ≤ 3 then
    let c := c.setTb n { t with mode := .holdover, inBand := 0, outBand := 0 }
    (c.setEvt (Reg.TB_EVT n) 4).raise (16 + n) 0x0903 (it4 n ++ it4 (c.sourceTb n))
  else c

/-- Every time base of a SOURCE served by a function. -/
def Chip.eachSource (c : Chip) (source : Nat) (f : Chip → Nat → Chip) : Chip :=
  ((List.range 4).filter fun n => c.sourceTb n == source).foldl f c

/-- The message intervals of a profile (announce, sync, delay request), and the ranges that clamp them (R61, R310;
PRESUMED from IEEE 1588, ST 2059-2 and AES67, log entry 29). -/
def ptpDefaults : Nat → Int × Int × Int
  | 0 => (1, 0, 0)
  | 1 => (-2, -3, -3)
  | _ => (1, -3, 0)

def ptpClamp (profile : Nat) (a s d : Int) : Int × Int × Int :=
  match profile with
  | 0 => (clampI 0 4 a, clampI (-1) 1 s, clampI 0 5 d)
  | 1 => (clampI (-3) 1 a, clampI (-7) (-1) s, clampI (-7) 4 d)
  | _ => (clampI 0 4 a, clampI (-4) 1 s, clampI (-3) 5 d)

/-- The message intervals of a clock at the defaults of a profile. -/
def PtpClock.toDefaults (k : PtpClock) (profile : Nat) : PtpClock :=
  let d := ptpDefaults profile
  { k with logAnnounce := d.1, logSync := d.2.1, logDelay := d.2.2 }

/-- What a clock has learnt forgotten; what TIME_PTP_SET set stays. -/
def PtpClock.forget (k : PtpClock) : PtpClock := { k with
    parent := none, port := none, rxSync := none, txDelay := none, diff := 0, sched := [], pathDelayNs := 0, master := false
    tlv := [] }

/-- Whether a TBn_CFG selects another source than the one before: another SOURCE, or another port or domain of PTP. -/
def sourceDiffers (v old : Nat) : Bool :=
  bits v 0 3 != bits old 0 3 || bits v 0 3 == 1 && (bits v 8 3 != bits old 8 3 || bits v 16 8 != bits old 16 8)

/-- A time base whose TBn_CFG goes live (R58, R60): another source is acquired anew, and another profile brings its default
intervals. A clock made slave-only is master no more (R61). The last rate stays whatever the SOURCE (DESIGN CHOICE, log entry
44). -/
def Chip.selectSource (c : Chip) (n old : Nat) : Chip :=
  let v := c.lv (Reg.TB_CFG n)
  let src := bits v 0 3
  let t := c.tb n
  let t := if bits v 4 2 = bits old 4 2 then t else { t with ptp := t.ptp.toDefaults (bits v 4 2) }
  let t := if bit v 24 then { t with ptp := { t.ptp with master := false } } else t
  if !sourceDiffers v old then c.setTb n t
  else
    let c := c.setTb n { t with
      mode := if 1 ≤ src && src ≤ 3 then (if c.domainOn 1 then .acquiring else .holdover) else .free
      inBand := 0, outBand := 0, ptp := t.ptp.forget }
    if src = 2 then { c with pulses := { c.pulses with ltcPair := none, ltcLast := c.cycle } }
    else if src = 3 then { c with pulses := { c.pulses with edgeAnchor := none, rejects := 0, reacquire := true } }
    else c

/-! ### The ordinary clocks (R61) -/

/-- The fields of a data set in the order in which the best master clock algorithm weighs them (PRESUMED from IEEE 1588, log
entry 29). -/
def ptpRank (d : PtpData) : List Nat :=
  [d.priority1, d.clockClass, d.accuracy, d.variance, d.priority2, d.grandmaster, d.stepsRemoved]

/-- Whether one list of numbers comes before another, the first difference deciding. -/
def lexBefore : List Nat → List Nat → Bool
  | a :: l, b :: m => a < b || a == b && lexBefore l m
  | [], _ :: _ => true
  | _, [] => false

/-- Whether a data set is better than another. -/
def ptpBetter (a b : PtpData) : Bool := lexBefore (ptpRank a) (ptpRank b)

/-- The data set of the part's own clock: its priorities, the class, accuracy and variance of a clock that claims none (PRESUMED
from IEEE 1588, log entry 29), and its identity. -/
def PtpClock.own (k : PtpClock) : PtpData :=
  ⟨k.priority1, 248, 0xFE, 0xFFFF, k.priority2, Config.clockIdentity.toNat, 0⟩

/-- An announce as a clock takes it: the better of the master it follows and the announced one, and whether the clock itself,
unless slave-only, is better than both. -/
def PtpClock.hear (k : PtpClock) (slaveOnly : Bool) (d : PtpData) : PtpClock :=
  let best := match k.parent with
    | some b => if b.grandmaster = d.grandmaster || ptpBetter d b then d else b
    | none => d
  { k with parent := some best, master := !slaveOnly && ptpBetter k.own best }

/-- The grandmaster's data set as a clock knows it: its own while it is master. -/
def PtpClock.grand (k : PtpClock) : PtpData :=
  if k.master then k.own else k.parent.getD ⟨0, 0, 0, 0, 0, 0, 0⟩

/-! ### LTC_IN (R73, R74) -/

/-- Frames a second as labelled, and the true rate, of LTC_CFG.RATE. -/
def ltcRate : Nat → Nat × Nat × Nat
  | 0 => (24, 24, 1)
  | 1 => (25, 25, 1)
  | 4 => (30, 30, 1)
  | 5 => (24, 24000, 1001)
  | _ => (30, 30000, 1001)

/-- The number of a timecode from midnight; rate 2 drops two labels a minute but each tenth. -/
def ltcIndex (rate tc : Nat) : Nat :=
  let fps := (ltcRate rate).1
  let mins := bits tc 24 8 * 60 + bits tc 16 8
  (mins * 60 + bits tc 8 8) * fps + bits tc 0 8 - (if rate = 2 then 2 * (mins - mins / 10) else 0)

/-- Frames from one timecode to another, the shorter way round a day (DESIGN CHOICE, log entry 29). -/
def ltcDelta (rate a b : Nat) : Int :=
  let day := ltcIndex rate (23 * 2 ^ 24 + 59 * 65536 + 59 * 256 + ((ltcRate rate).1 - 1)) + 1
  let d := ((b : Int) - a) % day
  if (day : Int) < 2 * d then d - day else d

/-- Whether LTC_IN is decoded: enabled, or the discipline source of a time base. -/
def Chip.ltcOn (c : Chip) : Bool :=
  bit (c.lv Reg.LTC_CFG) 0 || (List.range 4).any fun n => c.sourceTb n == 2

/-- RATE of LTC_CFG. -/
def Chip.ltcRateOf (c : Chip) : Nat := bits (c.lv Reg.LTC_CFG) 1 3

/-- A source that has come back, or comes for the first time: HOLDOVER is left through ACQUIRING (R60). -/
def Chip.sourceBack (c : Chip) (n : Nat) : Chip :=
  if (c.tb n).mode = .holdover then c.setTb n { c.tb n with mode := .acquiring } else c

/-- A forward frame as the servo of a time base takes it: the first fixes the pairing, a later one is measured against what
the timecode predicts. A pairing stands through a change of LTC_CFG.RATE: the number of its timecode is the old rate's, and later
frames are measured at the new one (DESIGN CHOICE, log entry 29). -/
def Chip.ltcServo (c : Chip) (tc bit0 n : Nat) : Chip :=
  if !c.servoOn n then c
  else
    let t0 := (c.tb n).readBack c.cycle bit0
    match c.pulses.ltcPair with
    | none => { c.sourceBack n with pulses := { c.pulses with ltcPair := some (ltcIndex c.ltcRateOf tc, t0) } }
    | some (f, t) =>
      let r := ltcRate c.ltcRateOf
      let due : Int := t + ltcDelta c.ltcRateOf f (ltcIndex c.ltcRateOf tc) * (r.2.2 * 1000000000 * nsUnits : Nat) / r.2.1
      c.servo n ((due - t0) / (nsUnits : Int))

/-- Whether a time base on LTC_IN has a source to lose (R60). -/
def Chip.ltcHeld (c : Chip) : Bool :=
  (List.range 4).any fun n => c.sourceTb n == 2 && ((c.tb n).mode == .acquiring || (c.tb n).mode == .locked)

/-- LTC_LOST with its cause, and the time bases on LTC_IN in HOLDOVER: once for each loss, when LTC_IN had been good or a time
base still awaited it (R74). -/
def Chip.loseLtc (c : Chip) (cause : Nat) (wasGood : Bool) : Chip :=
  if ((List.range 4).any fun n => c.sourceTb n == 2) && (wasGood || c.ltcHeld) then
    (c.eachSource 2 Chip.loseTbSource).raise 20 0x0A01 (it4 cause ++ it4 (c.rd Reg.LTC_TC))
  else c

/-- The registers of a decoded frame, UPD_CNT last (R73). -/
def Chip.ltcUpdate (c : Chip) (tc ubits : Nat) (reverse dropFrame colourFrame : Bool) (bit0 : Nat) : Chip :=
  let t := (c.tb (bits (c.lv Reg.LTC_CFG) 4 2)).readBack c.cycle bit0 / nsUnits
  let sec := t / 1000000000
  let c := ((c.wr Reg.LTC_TC tc).wr Reg.LTC_UBITS ubits).wr Reg.LTC_TIME_NS (t % 1000000000)
  let c := (c.wr Reg.LTC_TIME_SEC_LO (sec % 2 ^ 32)).wr Reg.LTC_TIME_SEC_HI (sec / 2 ^ 32)
  let n := (bits (c.rd Reg.LTC_STATUS) 16 16 + 1) % 65536
  { c.wr Reg.LTC_STATUS (1 + 2 * reverse.toNat + 4 * dropFrame.toNat + 8 * colourFrame.toNat + n * 65536) with
    pulses := { c.pulses with ltcLast := c.cycle } }

/-- The tasks that await a timecode (R155): none in reverse play. -/
def Chip.ltcTasks (c : Chip) (tc : Nat) : Chip :=
  c.readyWhere fun w => TaskRec.wait w.record == 3 &&
    (TaskRec.tc w.record == tc || TaskRec.atOrAfter w.record && TaskRec.tc w.record ≤ tc)

/-! ### FPULSE_IN (R75) -/

/-- The period of FPULSE_IN in units of a time base. -/
def Chip.edgePeriod (c : Chip) : Nat := c.lv Reg.FPIN_RATE_D * 1000000000 * nsUnits / max 1 (c.lv Reg.FPIN_RATE_N)

/-- An active edge as the servo of a time base takes it. -/
def Chip.edgeServo (c : Chip) (n : Nat) : Chip :=
  if !c.servoOn n then c
  else
    let t := (c.tb n).time
    let p := max 1 c.edgePeriod
    match c.pulses.edgeAnchor with
    | none => { c.sourceBack n with pulses := { c.pulses with edgeAnchor := some t, reacquire := false, rejects := 0 } }
    | some a =>
      let k := (2 * ((t : Int) - a) + p) / (2 * p : Nat)
      let off := (a : Int) + k * p - t
      if p < 100 * off.natAbs && !c.pulses.reacquire then
        let r := c.pulses.rejects + 1
        { c.inc Reg.FPIN_REJECT_CNT with pulses := { c.pulses with rejects := r, reacquire := decide (8 ≤ r) } }
      else
        ({ c with pulses := { c.pulses with rejects := 0, reacquire := false } }).servo n (off / (nsUnits : Int))

/-! ### Meanings of time -/

/-- TB_SNAP (R57): a write of 1 latches all four time bases. -/
def execTbSnap (v : Word) (s : State) : Host.Outcome State Fault Refusal :=
  regCommand Reg.TB_SNAP (fun c =>
    if bit v.toNat 0 then { c with tbs := c.tbs.map fun t => { t with snap := t.time } } else c) s

/-- TIME_PTP_STATUS (R310). -/
def execTimePtpStatus (h : CmdHdr) (p : Nat) (s : State) : Host.Outcome State Fault Refusal :=
  firmware 0x0401 true h p (fun p _ c =>
    let k := (c.tb (pl p 0 0 2)).ptp
    let g := k.grand
    let off := clampI (-2147483648) 2147483647 (c.tb (pl p 0 0 2)).offset
    c.complete h 0x0401 0 (beBytes 8 g.grandmaster ++ leBytes 2 g.stepsRemoved ++ leBytes 1 g.clockClass ++
      leBytes 1 g.accuracy ++ itI4 (clampI (-2147483648) 2147483647 k.pathDelayNs) ++ itI4 off)) s

/-- TIME_PTP_SET (R61, R310). -/
def execTimePtpSet (h : CmdHdr) (p : Nat) (s : State) : Host.Outcome State Fault Refusal :=
  firmware 0x0402 false h p (fun p _ c =>
    c.commitCommand 0x0402 h p true fun q _ =>
      let n := pl p 0 0 2
      let k := ptpClamp (bits (q.lv (Reg.TB_CFG n)) 4 2) (sext 8 (pl p 1 0 8)) (sext 8 (pl p 2 0 8)) (sext 8 (pl p 3 0 8))
      .ok ([.ptpSet n k.1 k.2.1 k.2.2 (pl p 4 0 8) (pl p 4 8 8) (clampN 2 10 (pl p 4 16 8))], [])) s

/-- TIME_TB_STEP (R57, R310): accepted with SOURCE 0 or 4. -/
def execTimeTbStep (h : CmdHdr) (p : Nat) (s : State) : Host.Outcome State Fault Refusal :=
  firmware 0x0403 false h p (fun p _ c =>
    let n := pl p 0 0 2
    if c.sourceTb n = 0 || c.sourceTb n = 4 then
      (c.stepTb n (sext 64 (pl p 8 0 64) * (nsUnits : Int) + (pl p 0x10 0 16 * (nsUnits / 65536) : Nat))).complete h 0x0403 0 []
    else c.decline h 0x0403 (denied 12)) s

/-- TIME_FRAMEGEN_SET (R28, R310). -/
def execTimeFramegenSet (h : CmdHdr) (p : Nat) (s : State) : Host.Outcome State Fault Refusal :=
  firmware 0x0420 false h p (fun p _ c =>
    c.commitCommand 0x0420 h p true fun _ _ =>
      let nd := clampRate (pl p 4 0 32) (pl p 8 0 32)
      let set : Change := .frameGen (pl p 0 0 2) (bit p 2) nd.1 nd.2 (instantArg p 0xC).1
      let sealTo : Change := .reg Reg.SEAL_OFFSET (BitVec.ofNat 32 (clampN 10 2000 (pl p 0 16 16)))
      .ok (if bit p 3 then [set, sealTo] else [set], [])) s

/-- The generator started on the first instant of its grid at least 100 µs ahead (R27, R65). -/
def Chip.startGrid (c : Chip) : Chip :=
  let i := c.fg.indexFrom (c.now + 100000)
  { c with fg := { c.fg with mode := .running, next := c.fg.instant i, nextIdx := some i } }.fixNext

/-- TIME_FRAMEGEN_START (R27). -/
def execTimeFramegenStart (h : CmdHdr) (p : Nat) (s : State) : Host.Outcome State Fault Refusal :=
  firmware 0x0421 false h p (fun _ _ c =>
    if c.fg.mode ≠ .stopped then c.decline h 0x0421 (denied 12)
    else
      let c := c.startGrid
      c.complete h 0x0421 0 (instantBlock c.fg.next c.fg.tb)) s

/-- TIME_FRAMEGEN_STOP (R29, R66): a commit, but at once while the generator is held. A seal that L + P had is no longer of any
crossing: the next is sealed by the SHOW_CROSS that calls it (R47). -/
def execTimeFramegenStop (h : CmdHdr) (p : Nat) (s : State) : Host.Outcome State Fault Refusal :=
  firmware 0x0422 false h p (fun p _ c =>
    if c.fg.mode = .held then
      if c.underActive then c.refuse h 0x0422 (denied 12)
      else
        let c := { c with
          sealed := false
          fg := { c.fg with mode := .stopped }
          pulses := { c.pulses with outDue := c.pulses.outDue.filter fun d => d.csn ≤ c.csn } }
        c.respond h.chan 0x0422 h.tag ⟨0, 0, c.csn, []⟩
    else c.commitCommand 0x0422 h p true fun _ _ => .ok ([.fgStop], [])) s

/-- TIME_FRAMEGEN_REPHASE (R65). -/
def execTimeFramegenRephase (h : CmdHdr) (p : Nat) (s : State) : Host.Outcome State Fault Refusal :=
  firmware 0x0423 false h p (fun p _ c =>
    let a := instantArg p 0
    let keep := bits p 0 96 == 0
    if c.fg.mode ≠ .held then c.decline h 0x0423 (denied 12)
    else if !keep && a.2 != c.fg.tb then c.decline h 0x0423 (denied 18)
    else
      let g := { c.fg with origin := if keep then c.fg.origin else a.1 }
      let c := { c with fg := { g with lastGrid := g.onGrid g.last, lastIdx := g.indexFrom g.last } }
      let c := (c.leaveHold 1).startGrid
      c.complete h 0x0423 0 (instantBlock c.fg.next c.fg.tb)) s

/-- TIME_BASE_STEP (R59): a measurement of a servo. -/
def execTimeBaseStep (tb : Nat) (offsetNs : Int) (s : State) : Host.Outcome State Fault Refusal :=
  within (tb < 4) (onChip (fun _ c => if c.servoOn tb then c.servo tb offsetNs else c) s)

/-- Octets of a PTP message on the wire, without FCS (log entry 29). -/
def Chip.ptpLen (c : Chip) (tb : Nat) (k : PtpSend) : Nat :=
  let body := match k with | .announce => 64 | .delayResp => 54 | _ => 44
  14 + body + (match bits (c.lv (Reg.TB_CFG tb)) 26 2 with | 0 => 28 | 1 => 48 | _ => 0)

/-- The parts of the ST 2059-2 TLV that a change delivers (R61, R501). -/
def Chip.ptpMetadata (c : Chip) (tb : Nat) (tlv : List Byte) : Chip :=
  c.inCycle fun c => [0, 1].foldl (fun c part =>
    c.raise (16 + tb) 0x0904 (it4 (tb + part * 256) ++ padTo 24 (tlv.drop (24 * part)))) c

/-- The number of a PTP message: a follow-up carries its synchronisation's, a delay response its request's. -/
def PtpClock.seqFor (k : PtpClock) (m : PtpSend) : Nat :=
  match m with
  | .followUp => k.syncSeq
  | .delayResp => k.reqSeq
  | _ => (k.seq + 1) % 65536

/-- A message of an ordinary clock sent on its port in the gaps between paced packets (R199). A delay request goes unicast to the
master where DELAY_UNICAST is set (R61, R80). -/
def Chip.sendPtp (c : Chip) (tb : Nat) (k : PtpSend) : Chip :=
  let t := c.tb tb
  let port := c.ptpPort tb
  let q := t.ptp.seqFor k
  if c.portUp port then
    let ptp := match k with
      | .followUp => t.ptp
      | .delayResp => t.ptp
      | .sync => { t.ptp with seq := q, syncSeq := q }
      | _ => { t.ptp with seq := q }
    (c.setTb tb { t with ptp := ptp }).sendBehind port (c.ptpLen tb k)
      (.ptp tb k q (k == .delayReq && bit (c.lv (Reg.TB_CFG tb)) 25))
  else c

/-- The interval of a scheduled message in cycles, from its logarithm in seconds (R61). -/
def ptpCycles (log : Int) : Nat := if 0 ≤ log then 800000000 * 2 ^ log.toNat else 800000000 / 2 ^ (-log).toNat

/-- The logarithm of a message's interval: a follow-up comes with each synchronisation. -/
def PtpClock.interval (k : PtpClock) : PtpSend → Int
  | .announce => k.logAnnounce
  | .delayReq => k.logDelay
  | .delayResp => k.logDelay
  | .sync => k.logSync
  | .followUp => k.logSync

/-- A scheduled message sent when it falls due, and the next one scheduled an interval later. -/
def Chip.sendScheduled (c : Chip) (tb : Nat) (k : PtpSend) : Chip :=
  let c := match (c.tb tb).ptp.sched.find? fun e => e.1 == k with
    | some e => c.runToCycle e.2
    | none => c
  let t := c.tb tb
  let due := c.cycle + ptpCycles (t.ptp.interval k)
  (c.setTb tb { t with ptp := { t.ptp with sched := (t.ptp.sched.filter fun e => e.1 != k) ++ [(k, due)] } }).sendPtp tb k

/-- What a running clock takes from a message: announces feed the best master clock algorithm, a slave takes its offset and its
path delay, a master answers a delay request. -/
def Chip.ptpHear (c : Chip) (tb : Nat) (m : PtpMsg) : Chip :=
  let t := c.tb tb
  match m with
  | .announce d => c.setTb tb { t with ptp := t.ptp.hear (bit (c.lv (Reg.TB_CFG tb)) 24) d }
  | .delayReq => if t.ptp.master then c.sendPtp tb .delayResp else c
  | .sync off => if t.ptp.master then c else c.servo tb off
  | .delayResp d => c.setTb tb { t with ptp := { t.ptp with pathDelayNs := d } }
  | .metadata tlv =>
    if bits (c.lv (Reg.TB_CFG tb)) 4 2 ≠ 1 || t.ptp.tlv == tlv then c
    else (c.setTb tb { t with ptp := { t.ptp with tlv := tlv } }).ptpMetadata tb tlv
  | .management => c

/-- PTP_MESSAGE_RECEIVE (R61) on a port that is up. -/
def execPtpMessageReceive (tb : Nat) (m : PtpMsg) (s : State) : Host.Outcome State Fault Refusal :=
  within (tb < 4) (onChip (fun _ c =>
    if c.ptpRuns tb && c.portUp (c.ptpPort tb) then c.ptpHear tb m else c) s)

/-- PTP_MESSAGE_SEND (R61, R199): a delay response leaves only as the answer to its request. -/
def execPtpMessageSend (tb : Nat) (k : PtpSend) (s : State) : Host.Outcome State Fault Refusal :=
  within (tb < 4) (onChip (fun _ c => if c.ptpSends tb k then c.sendScheduled tb k else c) s)

/-- TB_SOURCE_LOST (R60): the clock has no master to follow any more, and a full ordinary clock that hears none becomes one (DEDUCED
from R61, log entry 29). STATE of a clock that is master stays as it stood (DESIGN CHOICE, log entry 29). -/
def execTbSourceLost (tb : Nat) (s : State) : Host.Outcome State Fault Refusal :=
  within (tb < 4) (onChip (fun _ c =>
    let c := c.loseTbSource tb
    let t := c.tb tb
    if c.sourceTb tb == 1 && c.domainOn 1 && t.mode == .holdover then
      c.setTb tb { t with ptp := { t.ptp with parent := none, master := !bit (c.lv (Reg.TB_CFG tb)) 24 } }
    else c) s)

/-- LTC_FRAME (R73, R74, R155): `bit0Cycles` is how long ago the leading edge of bit 0 came. -/
def execLtcFrame (tc ubits : Nat) (reverse dropFrame colourFrame : Bool) (bit0Cycles : Nat) (s : State) :
    Host.Outcome State Fault Refusal :=
  onChip (fun _ c =>
    if !c.ltcOn then c
    else c.inCycle fun c =>
      let before := c.rd Reg.LTC_STATUS
      let c := c.ltcUpdate tc ubits reverse dropFrame colourFrame bit0Cycles
      if reverse then c.loseLtc 0 (!bit before 1)
      else (c.ltcTasks tc).eachSource 2 fun c n => c.ltcServo tc bit0Cycles n) s

/-- LTC_LOST (R74): no valid frame for two frame periods, or reverse play. -/
def execLtcLost (noFrame : Bool) (s : State) : Host.Outcome State Fault Refusal :=
  onChip (fun _ c =>
    let st := c.rd Reg.LTC_STATUS
    if !c.ltcOn then c
    else if !noFrame then
      (if bit st 0 then c.wr Reg.LTC_STATUS (setBit st 1 true) else c).loseLtc 0 (bit st 0 && !bit st 1)
    else
      let r := ltcRate c.ltcRateOf
      let c := c.runToCycle (c.pulses.ltcLast + 2 * 800000000 * r.2.2 / r.2.1)
      (c.wr Reg.LTC_STATUS (setBit st 0 false)).loseLtc 1 (bit st 0)) s

/-- FPULSE_IN_EDGE (R75). -/
def execFpulseInEdge (rising : Bool) (s : State) : Host.Outcome State Fault Refusal :=
  onChip (fun _ c =>
    let cfg := c.lv Reg.FPIN_CFG
    if !bit cfg 0 || bit cfg 1 == rising then c
    else
      let t := (c.tb (bits cfg 2 2)).ns
      let sec := t / 1000000000
      let c := ((c.wr Reg.FPIN_LAST_NS (t % 1000000000)).wr Reg.FPIN_LAST_SEC_LO (sec % 2 ^ 32)).wr
        Reg.FPIN_LAST_SEC_HI (sec / 2 ^ 32)
      ({ c with pulses := { c.pulses with edgeLast := some c.cycle } }).eachSource 3 Chip.edgeServo) s

/-- FPULSE_IN_LOSS (R75): no edge for four periods. -/
def execFpulseInLoss (s : State) : Host.Outcome State Fault Refusal :=
  onChip (fun _ c =>
    let c := match c.pulses.edgeLast with
      | some e => c.runToCycle (e + 4 * 800000000 * c.lv Reg.FPIN_RATE_D / max 1 (c.lv Reg.FPIN_RATE_N))
      | none => c
    c.eachSource 3 Chip.loseTbSource) s

/-- FPULSE_OUT_START (R76, R77): the pulse of the first crossing that the live settings select. -/
def execFpulseOutStart (s : State) : Host.Outcome State Fault Refusal :=
  onChip (fun _ c =>
    if !bit (c.lv Reg.FPOUT_CFG) 0 then c
    else match c.pulses.outDue.dropWhile fun d => !c.pulseComes d with
    | [] => c
    | d :: rest => c.beginPulse d rest) s

/-- FPULSE_OUT_END (R76). -/
def execFpulseOutEnd (s : State) : Host.Outcome State Fault Refusal :=
  onChip (fun _ c =>
    if c.pulses.outHigh then
      (c.runToCycle c.pulses.outEnd).drivePulse false
    else c) s

/-- FG_RESUME (R64): the counter passes L again. -/
def execFgResume (s : State) : Host.Outcome State Fault Refusal :=
  onChip (fun _ c =>
    if c.fg.mode = .held then
      let c := c.runTo c.fg.last
      let c := if c.bound.time ≤ c.fg.last * nsUnits then c.ticks 1 else c
      c.leaveHold 0
    else c) s

/-- GENERATOR_STOP_EFFECT (R29): the instant at which the next crossing would have come. -/
def execGeneratorStopEffect (s : State) : Host.Outcome State Fault Refusal :=
  onChip (fun _ c =>
    if c.fg.stopping then
      let c := c.runTo c.fg.next
      { c with fg := { c.fg with mode := .stopped, stopping := false } }
    else c) s

end Sys2Proof.Machine
end

