-- ==== Sys2Proof/Machine/Packer.lean ====
section
/-! DEFINITION. The packer: which universes are ready (R179), the change check (R190, R191), what enters and leaves service
(R183, R195), synchronisation packets (R200), the emission window with its pacing (R196 to R199), keepalives in a hold
(R201), and the meanings of these events. -/

namespace Sys2Proof.Machine

open Sys2Proof

/-! ### What a universe sends -/

/-- Slots 1 to `n` of a descriptor (R178). -/
def Chip.slotsOf (c : Chip) (u n : Nat) : List Byte := (List.range n).map fun i => octetAt c.slots (u * 512 + i)

/-- CRC-64/ECMA-182 over a universe number, the start code and the slots (R190). -/
def univCheck (univ : Nat) (slots : List Byte) : Nat :=
  crc64 (beBytes 2 univ ++ 0 :: slots)

/-- The exclusive-or of the eight octets of a check (R180). -/
def parity8 (x : Nat) : Nat := (leBytes 8 x).foldl (fun a b => a ^^^ b.toNat) 0

/-- Everything but port and sequence number that a universe's packets are built from, with given slots (R189). -/
def Chip.packetSpec (c : Chip) (s : Service) (slots : List Byte) : PacketSpec :=
  let run := s.run.map (c.recAt 4)
  let entry := c.recAt 13 s.ucast
  let toEntry := s.dest == 2
  { template := run.map fun r => (RunRec.template r).take (RunRec.headLen r)
    vlan := (run.map RunRec.vlan).getD false
    ipv6 := s.ipv6
    dest := if toEntry then ofBE (UcastRec.mac entry) else univMac s.ipv6 s.univ
    ipDst := if toEntry then ofBE (if s.ipv6 then recBytes entry 8 16 else recBytes entry 8 4) else univGroup s.ipv6 s.univ
    dscp := c.defaultDscp
    ttl := c.defaultTtl
    sync := s.sync
    force := c.defaultForce
    univ := s.univ
    cid := SourceRec.cid (c.recAt 12 s.cid)
    name := SourceRec.name (c.recAt 12 s.cid)
    prio := s.prio - c.pair.prioAdj
    slots := slots
    mask := s.mask
    ports := [] }

/-- A packet's description with the addresses and the tags of the show ports as they are now, for a later frame (R195). -/
def Chip.withPorts (c : Chip) (k : PacketSpec) : PacketSpec :=
  { k with ports := (List.range 4).map fun p => (c.macOf p, c.ipOf p k.ipv6, c.tagOf p) }

/-- Whether the isle emits E1.31 (R320). -/
def Chip.emits (c : Chip) : Bool := c.pair.isle == .solo || c.pair.isle == .active

/-! ### Readiness (R179) -/

/-- Whether a fixture's slots fall in a descriptor. -/
def Chip.writesTo (c : Chip) (f u : Nat) : Bool := (c.unitsOf f).any fun x => x.space == u

/-- Whether every enabled fixture of a descriptor has been handed back or declared not rendered; with PD_RENDER off no slot
changes, and every descriptor is ready (R201). -/
def Chip.univReady (c : Chip) (u : Nat) : Bool :=
  !c.domainOn 6 || c.fixtures.all fun e =>
    c.frame.done.contains e.1 || c.frame.skipped.contains e.1 || !c.writesTo e.1 u

/-! ### The decision (R191) -/

/-- A packet put behind those of the queue, but before those decided in the same cycle for a later descriptor (R197). -/
def placeQueued (q : Queued) : List Queued → List Queued
  | [] => [q]
  | x :: l => if x.cycle == q.cycle && q.u < x.u then q :: x :: l else x :: placeQueued q l

/-- Whether a frame's masks leave a port out: its link or its domain is down, or was in the frame (R199). -/
def Chip.leftOut (c : Chip) (p : Nat) : Bool := !c.portUp p || c.frame.portsDown.contains p

/-- A packet queued on one port, or counted where the port is left out (R199); a packet of a hold is of no frame. -/
def Chip.queueOn (c : Chip) (p : Nat) (q : Queued) : Chip :=
  if !c.portUp p || q.kind != .hold && c.leftOut p then c.inc (Reg.PKP_DOWN_DROP p)
  else c.setPort p { c.port p with queue := placeQueued q (c.port p).queue }

/-- A packet built with the next sequence number and queued on every port of its mask. -/
def Chip.queuePacket (c : Chip) (u : Nat) (kind : PacketKind) (check : Nat) (k : PacketSpec) : Chip :=
  let x := c.univ u
  let seq := (x.seq + 1) % 256
  let c := c.setUniv u { x with seq := seq }
  ((List.range 4).filter fun p => bit k.mask p).foldl (fun c p =>
    c.queueOn p ⟨u, c.cycle, kind, c.csn, check, c.dataPacket p k seq (kind == .term)⟩) c

/-- One termination of a universe: built and queued by an isle that emitted it, which may be a standby by now (R320); a standby's
shadow only counts it. -/
def Chip.queueTerm (c : Chip) (u : Nat) : Chip :=
  let x := c.univ u
  let left := x.termLeft - 1
  let c := c.setUniv u { x with termLeft := left, termSpec := if left = 0 then none else x.termSpec }
  match x.termSpec with
  | some k => c.queuePacket u .term 0 k
  | none => c.setUniv u { c.univ u with seq := (x.seq + 1) % 256 }

/-- The termination packets of the frame built and queued, once (R195). -/
def Chip.queueTerms (c : Chip) : Chip :=
  if !c.domainOn 7 || c.frame.termsBuilt then c
  else (c.univs.filter fun e => 0 < e.2.termLeft).foldl (fun c e => c.queueTerm e.1)
    { c with frame := { c.frame with termsBuilt := true } }

/-- Terminations follow the frame's data packets (R195): they are built once every universe in service is decided, so that
sequence numbers rise as packets leave. -/
def Chip.termsDue (c : Chip) : Chip :=
  if (c.univs.any fun e => 0 < e.2.termLeft) &&
      c.services.all fun e => c.frame.decided.contains e.1 || c.frame.corrupt.contains e.1 then c.queueTerms
  else c

/-- Whether a packet of a universe, but for a termination, still waits on some port. -/
def Chip.stillQueued (c : Chip) (u : Nat) : Bool :=
  (List.range 4).any fun p => (c.port p).queue.any fun q => q.u == u && q.kind != .term && q.kind != .sync

/-- The state of a universe whose packet every port has taken (R191, R201, R205). -/
def Chip.emitted (c : Chip) (u : Nat) (kind : PacketKind) (check : Nat) : Chip :=
  let x := c.univ u
  match kind with
  | .hold => c.setUniv u { x with base := check }
  | .term => c
  | .sync => c
  | _ =>
    match c.serviceOf u with
    | none => c
    | some s =>
      c.setUniv u { x with
        lastCheck := check
        lastPar := parity8 check
        base := c.fg.crossCycle
        force := false
        repeatLeft := match kind with | .changed => s.repeats | .repeated => x.repeatLeft - 1 | _ => x.repeatLeft
        lastCsn := c.frame.csn
        overrun := false
        sent := true
        lastSpec := if c.emits then some (c.packetSpec s (c.slotsOf u s.slots)) else x.lastSpec }

/-- What a standby keeps of a decision: the result, and the check for the comparison (R320, R335). -/
def Chip.noteCheck (c : Chip) (u x : Nat) : Chip :=
  { c with pair := { c.pair with ownChecks := (c.frame.csn, u, x) :: c.pair.ownChecks } }

/-- The decision of a universe in service (R191), but for the terminations that the last one lets go. -/
def Chip.decideOne (c : Chip) (u : Nat) (s : Service) : Chip :=
  let x := c.univ u
  let slots := c.slotsOf u s.slots
  let chk := univCheck s.univ slots
  let good := parity8 x.lastCheck == x.lastPar
  let c := { c with frame := { c.frame with decided := u :: c.frame.decided } }
  let c := if good || c.frame.univSeen then c
    else
      let n := (c.services.filter fun e => parity8 (c.univ e.1).lastCheck != (c.univ e.1).lastPar).length
      (({ c with frame := { c.frame with univSeen := true } } : Chip).setEvt Reg.PK_EVT 4).raise 29 0x0F03
        (it8 c.frame.csn ++ it4 u ++ it4 n)
  let c := if c.pair.inPair then c.noteCheck u chk else c
  let changed := !good || chk != x.lastCheck || x.force
  let due := decide (x.base + s.kaMs * 800000 ≤ c.fg.crossCycle)
  let kind : Option PacketKind := if changed then some .changed else if 0 < x.repeatLeft then some .repeated
    else if due then some .keepalive else none
  match kind with
  | none => c
  | some k =>
    let c := if c.emits then c.queuePacket u k chk (c.packetSpec s slots)
      else c.setUniv u { c.univ u with seq := ((c.univ u).seq + 1) % 256 }
    if c.stillQueued u then c else c.emitted u k chk

/-- The decision of a universe in service (R191, R195). -/
def Chip.decideUniv (c : Chip) (u : Nat) (s : Service) : Chip := (c.decideOne u s).termsDue

/-! ### Pacing (R196 to R198) -/

/-- Wire bits over the ceiling, in cycles: units of 100 Mb/s against 800 MHz. -/
def Chip.wireCycles (c : Chip) (p octets : Nat) : Nat := ceilDiv (octets * 64) (c.emitRate p)

/-- The earliest start of the next paced packet of a port (R197, R201). -/
def Chip.floorOf (c : Chip) (p : Nat) (q : Queued) : Nat :=
  let x := c.port p
  if q.kind = .hold then x.prevStart + c.delta p
  else max (c.frame.openCycle + x.sentCount * c.delta p) (x.prevStart + x.prevBits)

/-- Whether every universe of a port has been decided, so that its terminations may go (R195). -/
def Chip.dataDone (c : Chip) (p : Nat) : Bool :=
  (c.onPort p).all fun e => c.frame.decided.contains e.1 || c.frame.corrupt.contains e.1

/-- The packet that a port sends next: data in the order queued, terminations after them. -/
def Chip.nextPacket (c : Chip) (p : Nat) : Option Queued :=
  match (c.port p).queue.find? fun q => q.kind != .term && q.kind != .sync with
  | some q => some q
  | none => if c.dataDone p then (c.port p).queue.find? fun q => q.kind == .term else none

/-- A packet started on a port at the present cycle. -/
def Chip.startPacket (c : Chip) (p : Nat) (q : Queued) : Chip :=
  let x := c.port p
  let c := c.setPort p { x with
    queue := x.queue.erase q
    sentCount := x.sentCount + 1
    kaCount := x.kaCount + (q.kind == .keepalive || q.kind == .hold).toNat
    lastStart := c.cycle - c.frame.openCycle
    prevStart := c.cycle
    prevBits := c.wireCycles p (onWire q.octets) }
  let c := c.sendFrame p q.octets
  if q.kind == .term || c.stillQueued q.u then c else c.emitted q.u q.kind q.check

/-! ### The window (R196) -/

/-- The window of a frame placed in the period that starts at its crossing. -/
def Chip.placeWindow (c : Chip) : Chip :=
  let period : Rat := (c.fg.rateD : Rat) * 800000000 / c.fg.rateN
  let close := (period - 8000).floor.toNat
  let opens := (period - 8000 - period * bits (c.lv Reg.PK_CFG) 0 7 / 100).floor.toNat
  { c with frame := { c.frame with
      windowOpen := false, windowDone := !c.domainOn 7
      openCycle := c.fg.crossCycle + opens, closeCycle := c.fg.crossCycle + close } }

/-- The universes of the frame that its close leaves unemitted: in service and trusted, and not decided or not handed to
every port (R12, R191). Neither those of a failing record, which R194 leaves out, nor those that a standby, which emits nothing
(R320), has not decided are counted (DESIGN CHOICE, log entry 18). -/
def Chip.leftUnemitted (c : Chip) : List Nat :=
  if !(c.emits && c.domainOn 7) then []
  else (c.services.filter fun e =>
    !c.frame.corrupt.contains e.1 && (!c.frame.decided.contains e.1 || c.stillQueued e.1)).map (·.1)

/-- The close of the window (R124, R191, R195, R196): cells abandoned, packets not started dropped. -/
def Chip.closeWindow (c : Chip) : Chip :=
  if c.frame.windowDone then c
  else
    let c := c.settleLpi.queueTerms
    let left := c.leftUnemitted
    let terms := ((List.range 4).map fun p => ((c.port p).queue.filter fun q => q.kind == .term).length).sum
    let c := left.foldl (fun c u => c.setUniv u { c.univ u with overrun := true }) c
    let c := (List.range 4).foldl (fun c p =>
      c.setPort p { c.port p with queue := (c.port p).queue.filter fun q => q.kind == .sync || q.kind == .hold }) c
    let c := c.add Reg.PK_TERM_DROP_CNT terms
    ({ c with frame := { c.frame with unemitted := left, windowOpen := false, windowDone := true } } : Chip).abandonCells

/-! ### At a crossing -/

/-- The report of the last frame's emission at the next crossing (R12, R203, R204). -/
def Chip.reportFrame (c : Chip) : Chip :=
  let n := c.frame.unemitted.length
  let c := (c.wr Reg.PK_LAST_UNEMITTED n).wr Reg.MAP_UNRENDERED c.frame.unrendered
  let c := (List.range 4).foldl (fun c p =>
    let x := c.port p
    let c := (c.wr (Reg.PKP_PKT_CNT p) x.sentCount).wr (Reg.PKP_KA_CNT p) x.kaCount
    let c := if x.sentCount = 0 then c else c.wr (Reg.PKP_LAST_START p) x.lastStart
    c.setPort p { x with sentCount := 0, kaCount := 0 }) c
  if n = 0 then c
  else ((c.inc Reg.PK_OVERRUN_CNT).setEvt Reg.PK_EVT 1).raise 29 0x0F01 (it8 c.frame.csn ++ it4 n)

/-- The place of a synchronisation pair's sequence number. -/
def pairKey (k : Nat × Nat × Bool) : Nat := (k.1 * 64 + k.2.1) * 2 + k.2.2.toNat

/-- A synchronisation packet queued behind a PAUSE (R199, R243) under the CSN of the crossing at which it
is due, which is the one that ends this frame (DEDUCED, log entry 42). -/
def Chip.keepSync (c : Chip) (p : Nat) (frame : List Byte) : Chip :=
  c.setPort p { c.port p with queue := (c.port p).queue ++ [⟨0, c.cycle, .sync, c.csn + 1, c.cycle, frame⟩] }

/-- tSYNCALL at its most, in cycles (R206). -/
def Chip.syncLimit (c : Chip) (p : Nat) : Nat := if c.lineRate p = 250 then 2800 else 5600

/-- The synchronisation packets of crossing `csn` on a port, due at cycle `due`, sent in their order; the first that leaves later
than tSYNCALL raises SYNC_DELAYED, once a crossing (R202). -/
def Chip.sendDue (c : Chip) (p csn due : Nat) (frames : List (List Byte)) : Chip :=
  let r := frames.foldl (fun (s : Chip × Option Nat) f =>
    let start := s.1.startOf p
    (s.1.sendFrame p f, if s.2.isNone && due + c.syncLimit p < start then some (start - due) else s.2)) (c, none)
  match r.2 with
  | none => r.1
  | some late => ((r.1.inc (Reg.PKP_SYNC_LATE_CNT p)).setEvt Reg.PK_EVT 8).raise 29 0x0F04 (it4 p ++ it8 csn ++ it4 (late / 800))

/-- The synchronisation packets of a crossing on a port: sent, or queued behind a PAUSE. -/
def Chip.sendSync (c : Chip) (p : Nat) (frames : List (List Byte)) : Chip :=
  if c.paused p then frames.foldl (fun c f => c.keepSync p f) c else c.sendDue p (c.csn + 1) c.cycle frames

/-- The synchronisation packets of the last frame at a crossing (R200), from the configuration that was live in it; those of a
port that is left out are counted (R199). -/
def Chip.sendSyncs (c : Chip) : Chip :=
  if !(c.emits && c.domainOn 7) then c
  else
    let ports := (List.range 4).filter fun p => !c.leftOut p
    let pairs := ((ports.map c.syncPairs).flatten).eraseDups
    let c := { c with syncSeqs := pairs.foldl (fun m k => setNat m (pairKey k) ((natAt m (pairKey k) + 1) % 256)) c.syncSeqs }
    let c := ports.foldl (fun c p =>
      c.sendSync p ((c.syncPairs p).map fun k => c.syncPacket p k (natAt c.syncSeqs (pairKey k)))) c
    ((List.range 4).filter c.leftOut).foldl (fun c p => c.add (Reg.PKP_DOWN_DROP p) (c.syncPairs p).length) c

/-- The check at a crossing of the descriptors in service that are no run's members, and of every enabled run, in service or not
(R194), as their banks read (log entry 46). -/
def Chip.checkUniverses (c : Chip) : Chip :=
  if !c.domainOn 7 then c
  else
    let checked := (c.recsOf 4).filter fun e => RunRec.en e.2
    let runs := checked.filter fun e => c.recState 4 e.1 != 0
    let alone := (c.services.filter fun e => e.2.run.isNone).map (·.1)
    let lone := alone.filter fun u => c.recState 3 u != 0
    let members := (runs.map fun e => (List.range (RunRec.count e.2)).map (RunRec.first e.2 + ·)).flatten
    let c := checked.foldl (fun c e => c.noteRec 3 4 e.1) (alone.foldl (fun c u => c.noteRec 3 3 u) c)
    let c := { c with frame := { c.frame with corrupt := lone ++ members } }
    let n := lone.length + runs.length
    if n = 0 then c
    else
      let item := match lone with
        | u :: _ => it4 u ++ itCause 10 ++ it4 (c.recState 3 u)
        | [] => match runs with
          | e :: _ => it4 e.1 ++ itCause 11 ++ it4 (c.recState 4 e.1)
          | [] => []
      ((c.add Reg.PK_CORRUPT_CNT n).setEvt Reg.PK_EVT 2).raise 29 0x0F02 (it8 c.csn ++ item ++ it4 n)

/-- What the packets of a universe carry beside its slots, for the FORCE of R191: the configuration octets of its
descriptor or run, its source entry, its unicast entry. -/
def Chip.emissionContent (c : Chip) (u : Nat) (s : Service) : List Nat :=
  [match s.run with | some k => c.recAt 4 k | none => bits (c.recAt 3 u) 0 128,
   c.recAt 12 s.cid, if s.dest = 2 then c.recAt 13 s.ucast else 0]

/-- A universe whose emission under its header live before ends (R195): three terminations where it has sent a packet since it
entered service, built only by an isle that emitted it. -/
def Chip.terminate (c old : Chip) (built : Bool) (u : Nat) (s : Service) : Chip :=
  let x := c.univ u
  if !x.sent then c.setUniv u { x with serving := false }
  else
    c.setUniv u { x with
      serving := false, sent := false, termLeft := 3, lastSpec := none
      termSpec := if built then x.lastSpec.map fun k => old.withPorts (old.packetSpec s k.slots) else none }

/-- A universe that enters service: FORCE set (R191), terminations that remain stopped (R195). -/
def Chip.enterService (c : Chip) (u : Nat) : Chip :=
  c.setUniv u { c.univ u with
    serving := true, sent := false, termLeft := 0, termSpec := none, lastSpec := none, force := true }

/-- A universe at the crossing that may change its service: `old` is the part before the commits, `on` and `was` whether the
isle emits after and before (R191, R195, R320, R340, R341). A standby decides as an emitting isle does; a landfall brings every
universe into service, and an isle that leaves ACTIVE ends them all while its shadow takes them up. -/
def Chip.serveUniv (c old : Chip) (was on : Bool) (u : Nat) : Chip :=
  let built := was && (on || old.pair.isle == .active)
  match old.serviceOf u, c.serviceOf u with
  | none, none => c
  | some s, none => c.terminate old built u s
  | none, some _ => c.enterService u
  | some s, some t =>
    if on && !was then c.enterService u
    else if was && !on then
      let c := c.terminate old built u s
      c.setUniv u { c.univ u with serving := true, force := true }
    else if s.univ ≠ t.univ || SourceRec.cid (old.recAt 12 s.cid) != SourceRec.cid (c.recAt 12 t.cid) then
      let c := c.terminate old built u s
      c.setUniv u { c.univ u with serving := true, force := true }
    else if old.emissionContent u s != c.emissionContent u t || old.pair.prioAdj != c.pair.prioAdj then
      c.setUniv u { c.univ u with force := true }
    else c

/-- Every universe at a crossing. -/
def Chip.serveUnivs (c old : Chip) (was on : Bool) : Chip :=
  if !c.domainOn 3 then c
  else ((old.serviceIndices ++ c.serviceIndices).eraseDups).foldl (fun c u => c.serveUniv old was on u) c

/-- The packer's state of a universe as its octets 0x10 to 0x1A hold it (R180). -/
def UnivState.octets (x : UnivState) : Nat :=
  x.lastCheck + x.lastPar * 2 ^ 64 + x.seq * 2 ^ 72 + (x.repeatLeft + x.force.toNat * 4 + x.termLeft * 8) * 2 ^ 80

/-- RESET_STATE of TBL_UNIVERSE_COMMIT (R182). -/
def Chip.resetUniv (c : Chip) (u : Nat) : Chip :=
  c.setUniv u { c.univ u with
    lastCheck := 0, lastPar := 0, seq := 0, repeatLeft := 0, force := true, termLeft := 0, termSpec := none }

/-! ### A PAUSE that ends -/

/-- The synchronisation packets that a PAUSE held, sent as it ends, crossing by crossing (R202). -/
def Chip.releaseSyncs (c : Chip) (p : Nat) : Chip :=
  let held := (c.port p).queue.filter fun q => q.kind == .sync
  let c := c.setPort p { c.port p with queue := (c.port p).queue.filter fun q => q.kind != .sync }
  ((held.map fun q => (q.frame, q.check)).eraseDups).foldl (fun c k =>
    c.sendDue p k.1 k.2 ((held.filter fun q => q.frame == k.1 && q.check == k.2).map Queued.octets)) c

/-! ### Meanings -/

/-- UNIVERSE_DECIDE (R191): a universe in service that has become ready in the frame. -/
def execUniverseDecide (u : Nat) (s : State) : Host.Outcome State Fault Refusal :=
  within (u < 49152) (onChip (fun _ c =>
    match c.serviceOf u with
    | none => c
    | some v =>
      if c.domainOn 7 && 0 < c.frame.csn && !c.frame.windowDone && !c.frame.decided.contains u &&
          !c.frame.corrupt.contains u && c.univReady u then c.decideUniv u v
      else c) s)

/-- EMISSION_WINDOW_OPEN (R196). -/
def execEmissionWindowOpen (s : State) : Host.Outcome State Fault Refusal :=
  onChip (fun _ c =>
    if c.domainOn 7 && 0 < c.frame.csn && !c.frame.windowDone && !c.frame.windowOpen then
      let c := c.runToCycle c.frame.openCycle
      { c with frame := { c.frame with windowOpen := true } }
    else c) s

/-- PACKET_START (R195, R197, R199, R201): the next packet of a port, no earlier than its floor, unless a PAUSE holds the
port, the window would have closed, or its last bit would leave after the next crossing. -/
def execPacketStart (port : Nat) (s : State) : Host.Outcome State Fault Refusal :=
  within (port < 4) (onChip (fun _ c =>
    match c.nextPacket port with
    | none => c
    | some q =>
      let at_ := max (c.startOf port) (c.floorOf port q)
      let c' := c.runToCycle at_
      if c.portUp port && !c.paused port && c.domainOn 7 && !c'.meetsCrossing port q.octets.length &&
          (q.kind == .hold || c.frame.windowOpen && decide (at_ < c.frame.closeCycle)) then c'.startPacket port q
      else c) s)

/-- EMISSION_WINDOW_CLOSE (R196). -/
def execEmissionWindowClose (s : State) : Host.Outcome State Fault Refusal :=
  onChip (fun _ c =>
    if c.domainOn 7 && 0 < c.frame.csn && !c.frame.windowDone then (c.runToCycle c.frame.closeCycle).closeWindow else c) s

/-- HOLD_KEEPALIVE (R201): while the generator is held and the frame in progress is finished, a universe's last packet again
as its keepalive falls due. -/
def execHoldKeepalive (u : Nat) (s : State) : Host.Outcome State Fault Refusal :=
  within (u < 49152) (onChip (fun _ c =>
    match c.serviceOf u, (c.univ u).lastSpec with
    | some v, some k =>
      if c.fg.mode = .held && c.emits && c.domainOn 7 && c.frame.windowDone && !c.stillQueued u then
        let due := (c.univ u).base + v.kaMs * 800000
        let c := (c.runToCycle due).queuePacket u .hold due k
        if c.stillQueued u then c else c.emitted u .hold due
      else c
    | _, _ => c) s)

end Sys2Proof.Machine
end

