-- ==== Sys2Proof/Machine/Video.lean ====
section
/-! DEFINITION. Video ingest: the packets of a stream path (R247), duplicates and gaps (R248), the three frame buffers with
their open frames (R249), paths that fall silent (R250), and the meanings of these events. -/

namespace Sys2Proof.Machine

open Sys2Proof

/-! ### The tests of a packet (R247) -/

/-- The first test that a packet of a path fails, in the order of R247. -/
def packetFault (r : Nat) (k : VideoPacket) : Option Nat :=
  if k.version ≠ 2 || k.payloadType ≠ StreamRec.pt r then some 0
  else if 3 < k.rows.length then some 1
  else if k.rows.any fun e => e.field || StreamRec.height r ≤ e.row then some 2
  else if k.rows.any fun e => e.offset % 2 ≠ 0 then some 3
  else if k.rows.any fun e => e.data.length % 5 ≠ 0 then some 4
  else if k.rows.any fun e => StreamRec.width r < e.offset + e.data.length / 5 * 2 then some 5
  else none

/-! ### Runs of pixels -/

/-- A run of pixels joined to the runs that it meets; runs stand in rising order. -/
def addRun (lo hi : Nat) : List (Nat × Nat) → List (Nat × Nat)
  | [] => [(lo, hi)]
  | (a, b) :: r =>
    if hi < a then (lo, hi) :: (a, b) :: r
    else if b < lo then (a, b) :: addRun lo hi r
    else addRun (min lo a) (max hi b) r

/-- The runs of a packet's rows added to those of a frame. -/
def addRows (w : Nat) (rows : List SampleRow) (runs : List (Nat × Nat)) : List (Nat × Nat) :=
  rows.foldl (fun l e =>
    let n := e.data.length / 5 * 2
    if n = 0 then l else addRun (e.row * w + e.offset) (e.row * w + e.offset + n) l) runs

/-! ### Frames and buffers (R248, R249) -/

/-- Whether a timestamp is later than another, modulo 2³². -/
def laterStamp (a b : Nat) : Bool :=
  let d := (a + 2 ^ 32 - b % 2 ^ 32) % 2 ^ 32
  d != 0 && d < 2 ^ 31

/-- The timestamps of the frames a stream has seen: open, complete and discarded. -/
def Stream.known (s : Stream) : List Nat := s.frames.map OpenFrame.timestamp ++ s.recent.map (·.1)

/-- Whether a packet begins a newer frame. -/
def Stream.isNewer (s : Stream) (ts : Nat) : Bool := s.known.all fun t => laterStamp ts t

/-- A frame closed: its timestamp and sequence numbers kept among the last sixteen. -/
def Stream.close (s : Stream) (f : OpenFrame) : Stream :=
  { s with
    frames := s.frames.erase f
    newerFrom := if s.frames.head? = some f then none else s.newerFrom
    recent := ((f.timestamp, f.seqs) :: s.recent).take 16 }

/-- An open frame discarded, and STREAM_FRAME_DISCARDED once a show frame. -/
def Chip.discardFrame (c : Chip) (i : Nat) (f : OpenFrame) : Chip :=
  let s := c.stream i
  let c := c.setStream i { s.close f with discardSeen := true }
  let c := (c.inc (Reg.STR_INCOMPLETE i)).setEvt (Reg.STR_EVT i) 2
  if s.discardSeen then c else c.raise (40 + i) 0x1102 (it4 i ++ it4 f.timestamp ++ it8 c.csn)

/-- The buffers that a new frame may take: neither taken at the last crossing nor being written, and, while no frame is
open, not the latest frame's (R249). -/
def Stream.choices (s : Stream) : List Nat :=
  (List.range 3).filter fun b =>
    s.taken.map (·.2) != some b && !(s.frames.any fun f => f.buffer == b) &&
      (!s.frames.isEmpty || s.latest.map (·.2) != some b)

/-- A newer frame opened. Which of two free buffers it takes the spec leaves open: a free value (log entry 26). -/
def Chip.openFrame (c : Chip) (i ts : Nat) : Chip :=
  let c := match (c.stream i).frames with
    | a :: _ :: _ => c.discardFrame i a
    | _ => c
  let s := c.stream i
  let l := s.choices
  let b := l.getD (c.free % l.length) 0
  let c := if 1 < l.length then c.drew else c
  c.setStream i { s with
    frames := s.frames ++ [⟨ts, b, [], []⟩]
    newerFrom := if s.frames.isEmpty then none else some (s.newerFrom.getD c.cycle)
    latest := if s.latest.map (·.2) = some b then none else s.latest }

/-- The octets of a packet written into a frame's buffer. -/
def Chip.writeRows (c : Chip) (d : List Host.Cell) (r buffer : Nat) (rows : List SampleRow) : List Host.Cell × Chip :=
  rows.foldl (fun x e =>
    x.2.store x.1 4 (StreamRec.base r + buffer * StreamRec.bufLen r + e.row * StreamRec.stride r + e.offset / 2 * 5) e.data)
    (d, c)

/-- A frame complete: the stream's latest (R249). -/
def Chip.completeFrame (c : Chip) (i : Nat) (f : OpenFrame) : Chip :=
  let s := c.stream i
  (c.setStream i { s.close f with latest := some (f.timestamp, f.buffer), fresh := true }).incWrap (Reg.STR_FRAMES i)

/-- A packet of an open frame: a duplicate, or written, and perhaps the frame's last (R248, R249). -/
def Chip.writePacket (c : Chip) (d : List Host.Cell) (i r : Nat) (k : VideoPacket) (f : OpenFrame) :
    List Host.Cell × Chip :=
  if f.seqs.contains k.extSeq then (d, c)
  else
    let x := c.writeRows d r f.buffer k.rows
    let f' : OpenFrame := { f with seqs := k.extSeq :: f.seqs, pixels := addRows (StreamRec.width r) k.rows f.pixels }
    let s := x.2.stream i
    let c := x.2.setStream i { s with frames := s.frames.map fun g => if g == f then f' else g }
    (x.1, if f'.pixels == [(0, StreamRec.width r * StreamRec.height r)] then c.completeFrame i f' else c)

/-- A packet with no open frame that is not of a newer one: a duplicate, or late (R249). -/
def Chip.latePacket (c : Chip) (i : Nat) (k : VideoPacket) : Chip :=
  if (c.stream i).recent.any fun f => f.1 == k.timestamp && f.2.contains k.extSeq then c else c.inc (Reg.STR_LATE i)

/-- The gap that a packet shows on its path (R248). -/
def seqGap (last : Option Nat) (seq : Nat) : Nat × Option Nat :=
  match last with
  | none => (0, some seq)
  | some l => if laterStamp seq l then ((seq + 2 ^ 32 - l - 1) % 2 ^ 32, some seq) else (0, some l)

/-- An accepted packet on its path: counted, its gap, and the path up (R248, R250, R255). -/
def Chip.notePath (c : Chip) (i : Nat) (b : Bool) (seq : Nat) : Chip :=
  let s := c.stream i
  let g := seqGap (if b then s.seqB else s.seqA) seq
  let was := if b then s.downB else s.downA
  let c := c.setStream i (if b then { s with seqB := g.2, upB := true, downB := false, lastB := c.cycle }
    else { s with seqA := g.2, upA := true, downA := false, lastA := c.cycle })
  let c := (c.incWrap (if b then Reg.STR_B_PKTS i else Reg.STR_A_PKTS i)).add
    (if b then Reg.STR_B_LOST i else Reg.STR_A_LOST i) g.1
  if was then (c.setEvt (Reg.STR_EVT i) 8).raise (40 + i) 0x1104 (it4 i ++ it4 b.toNat) else c

/-- A packet dropped for its format (R247). -/
def Chip.formatDrop (c : Chip) (i : Nat) (b : Bool) (test : Nat) : Chip :=
  let s := c.stream i
  let c := c.inc (Reg.STR_FORMAT_DROP i)
  if s.formatSeen then c
  else ((c.setStream i { s with formatSeen := true }).setEvt (Reg.STR_EVT i) 1).raise (40 + i) 0x1101
    (it4 i ++ it4 b.toNat ++ itCause (40 + test))

/-- Whether a stream takes packets of a path. -/
def Chip.pathOn (c : Chip) (i : Nat) (b : Bool) : Bool :=
  StreamRec.en (c.recAt 15 i) && (!b || StreamRec.dual (c.recAt 15 i)) && c.domainOn 4 && c.domainOn 5

/-- A packet of a stream path (R247 to R249). -/
def Chip.ingest (c : Chip) (d : List Host.Cell) (i : Nat) (b : Bool) (k : VideoPacket) : List Host.Cell × Chip :=
  if !c.pathOn i b || !c.portUp (StreamRec.port (c.recAt 15 i) b) then (d, c)
  else
    let r := c.recAt 15 i
    match packetFault r k with
    | some t => (d, c.formatDrop i b t)
    | none =>
      let c := c.notePath i b k.extSeq
      let s := c.stream i
      match s.frames.find? fun f => f.timestamp == k.timestamp with
      | some f => c.writePacket d i r k f
      | none =>
        if s.isNewer k.timestamp then
          let c := c.openFrame i k.timestamp
          match (c.stream i).frames.find? fun f => f.timestamp == k.timestamp with
          | some f => c.writePacket d i r k f
          | none => (d, c)
        else (d, c.latePacket i k)

/-- A stream that goes live, with no frame and its counters cleared (R246, R255). -/
def Chip.restartStream (c : Chip) (i : Nat) : Chip :=
  let c := c.setStream i { Stream.reset with lastA := c.cycle, lastB := c.cycle }
  [Reg.STR_FRAMES i, Reg.STR_INCOMPLETE i, Reg.STR_A_PKTS i, Reg.STR_B_PKTS i, Reg.STR_A_LOST i, Reg.STR_B_LOST i,
    Reg.STR_LATE i, Reg.STR_FORMAT_DROP i].foldl (fun c o => c.wr o 0) c

/-! ### Meanings -/

/-- VIDEO_PACKET_RECEIVE (R247). -/
def execVideoPacketReceive (stream : Nat) (pathB : Bool) (pkt : VideoPacket) (s : State) :
    Host.Outcome State Fault Refusal :=
  within (stream < 16) (onBoth (fun d c => c.ingest d stream pathB pkt) s)

/-- STREAM_MERGE_TIMEOUT (R249): the older open frame is still incomplete MERGE_US after a newer one began. -/
def execStreamMergeTimeout (stream : Nat) (s : State) : Host.Outcome State Fault Refusal :=
  within (stream < 16) (onChip (fun _ c =>
    let x := c.stream stream
    match x.newerFrom, x.frames with
    | some t, f :: _ =>
      (c.runToCycle (t + usCycles (StreamRec.mergeUs (c.recAt 15 stream)))).discardFrame stream f
    | _, _ => c) s)

/-- STREAM_PATH_DOWN (R250): no packet written from a path for 100 ms. -/
def execStreamPathDown (stream : Nat) (pathB : Bool) (s : State) : Host.Outcome State Fault Refusal :=
  within (stream < 16) (onChip (fun _ c =>
    let x := c.stream stream
    if !c.pathOn stream pathB || (if pathB then x.downB else x.downA) then c
    else
      let c := c.runToCycle ((if pathB then x.lastB else x.lastA) + 80000000)
      let c := c.setStream stream (if pathB then { x with upB := false, downB := true }
        else { x with upA := false, downA := true })
      (c.setEvt (Reg.STR_EVT stream) 4).raise (40 + stream) 0x1103 (it4 stream ++ it4 pathB.toNat)) s)

end Sys2Proof.Machine
end

