-- ==== Sys2Proof/Machine/Network.lean ====
section
/-! DEFINITION. The network ports: what a received frame is (R237, R238), the host receive ring (R276), stamps (R68 to R72),
membership (R239), PAUSE and its watchdog (R243, R244), low-power idle (R241, R242), links (R232, R251), transmit jobs
(R277), NET_NEIGHBOUR_RESOLVE (R311) and the port counters (R252). -/

namespace Sys2Proof.Machine

open Sys2Proof

/-! ### Reading a frame -/

/-- The octets of a frame from an offset, as a number in wire order. -/
def be (l : List Byte) (off n : Nat) : Nat := ofBE ((l.drop off).take n)

/-- A received frame with its FCS taken off: addresses, tag, Ethertype, and where its contents begin. -/
structure FrameHead where
  dst  : Nat
  src  : Nat
  tci  : Option Nat
  ty   : Nat
  body : Nat
  deriving DecidableEq, Repr

def frameHead (f : List Byte) : FrameHead :=
  if be f 12 2 = 0x8100 then ⟨be f 0 6, be f 6 6, some (be f 14 2), be f 16 2, 18⟩
  else ⟨be f 0 6, be f 6 6, none, be f 12 2, 14⟩

/-- An IP packet of a frame: where its header begins and its payload, its addresses, the protocol behind its extension headers,
whether it is a fragment, not the whole, and whether one other than the first, whether it has an extension header other than Hop-by-Hop, and
whether its header checksum holds. -/
structure IpHead where
  ipv6    : Bool
  start   : Nat
  src     : Nat
  dst     : Nat
  proto   : Nat
  frag    : Bool
  rest    : Bool
  ext     : Bool
  good    : Bool
  payload : List Byte
  deriving DecidableEq, Repr

def ipv4Head (f : List Byte) (o : Nat) : IpHead :=
  let hl := be f o 1 % 16 * 4
  ⟨false, o, be f (o + 12) 4, be f (o + 16) 4, be f (o + 9) 1, bits (be f (o + 6) 2) 0 14 != 0, bits (be f (o + 6) 2) 0 13 != 0, false,
    inetSum 0 ((f.drop o).take hl) == 0, (f.drop (o + hl)).take (be f (o + 2) 2 - hl)⟩

/-- The extension headers of an IPv6 packet passed, as RFC 8200 lays them out (PRESUMED, log entry 23): Hop-by-Hop, routing,
fragment, authentication and destination options, with what an `IpHead` says of them. -/
def ipv6Walk : Nat → IpHead → IpHead
  | 0, h => h
  | n + 1, h =>
    let past (len : Nat) (k : IpHead) : IpHead :=
      ipv6Walk n { k with proto := be h.payload 0 1, payload := h.payload.drop len }
    match h.proto with
    | 0 => past (be h.payload 1 1 * 8 + 8) h
    | 43 => past (be h.payload 1 1 * 8 + 8) { h with ext := true }
    | 60 => past (be h.payload 1 1 * 8 + 8) { h with ext := true }
    | 51 => past (be h.payload 1 1 * 4 + 8) { h with ext := true }
    | 44 => past 8 { h with ext := true, frag := be h.payload 2 2 / 8 != 0 || be h.payload 2 2 % 2 != 0, rest := be h.payload 2 2 / 8 != 0 }
    | _ => h

def ipv6Head (f : List Byte) (o : Nat) : IpHead :=
  ipv6Walk 16 ⟨true, o, be f (o + 8) 16, be f (o + 24) 16, be f (o + 6) 1, false, false, false, true,
    (f.drop (o + 40)).take (be f (o + 4) 2)⟩

def ipHead (f : List Byte) (h : FrameHead) : Option IpHead :=
  if h.ty = 0x0800 then some (ipv4Head f h.body) else if h.ty = 0x86DD then some (ipv6Head f h.body) else none

/-- The sum over the pseudo-header of an IP packet (the length of its payload is given). -/
def pseudoSum (h : IpHead) (n : Nat) : Nat :=
  let a := if h.ipv6 then 16 else 4
  sum16 (beBytes a h.src ++ beBytes a h.dst ++ (if h.ipv6 then beBytes 4 n ++ [0, 0, 0] else [0]) ++
    [BitVec.ofNat 8 h.proto] ++ (if h.ipv6 then [] else beBytes 2 n))

/-- A UDP datagram: ports, contents, and whether its checksum is 0 or right. -/
structure Udp where
  sport : Nat
  dport : Nat
  data  : List Byte
  good  : Bool
  deriving DecidableEq, Repr

/-- The UDP datagram of a packet, or as much of it as a first fragment has. -/
def IpHead.udp (h : IpHead) : Option Udp :=
  if h.proto ≠ 17 || h.rest then none
  else
    let n := be h.payload 4 2
    some ⟨be h.payload 0 2, be h.payload 2 2, (h.payload.take n).drop 8,
      be h.payload 6 2 == 0 || inetSum (pseudoSum h n) (h.payload.take n) == 0⟩

/-! ### Filters (R236, R237, R240) -/

/-- The MAC address of a multicast group. -/
def groupMac (v6 : Bool) (a : Nat) : Nat := if v6 then 0x333300000000 + a % 2 ^ 32 else 0x01005E000000 + a % 2 ^ 23

/-- Whether an address is a port's own. -/
def Chip.ownIp (c : Chip) (p : Nat) (v6 : Bool) (a : Nat) : Bool :=
  c.portIp p v6 == some a || (v6 && a == c.linkLocal p)

/-- The groups that every host of its version belongs to: 224.0.0.1, ff02::1 and the solicited-node groups of the port's
addresses (PRESUMED, log entry 23). -/
def Chip.nodeGroups (c : Chip) (p : Nat) : List (Bool × Nat) :=
  let sol (a : Nat) : Nat := 0xFF02 * 2 ^ 112 + 0x1FF * 2 ^ 24 + a % 2 ^ 24
  [(false, 0xE0000001), (true, 0xFF02 * 2 ^ 112 + 1), (true, sol (c.linkLocal p))] ++
    ((c.portIp p true).map fun a => (true, sol a)).toList

/-- Whether the destination of a frame passes (R237, R240). -/
def Chip.dstPasses (c : Chip) (p dst : Nat) : Bool :=
  dst == c.macOf p || dst == 0xFFFFFFFFFFFF || dst == 0x0180C2000001 || dst == 0x0180C200000E ||
    bit (c.lv (Reg.NET_HOSTQ p)) 9 || (c.ptpOn p 2 && dst == 0x011B19000000) ||
    ((c.exactGroups p ++ c.nodeGroups p).any fun g => groupMac g.1 g.2 == dst) ||
    c.inputs.any fun e => bit (InUnivRec.mask e.2) p &&
      groupMac (InUnivRec.ipv6 e.2) (univGroup (InUnivRec.ipv6 e.2) (InUnivRec.univ e.2)) == dst

/-- Whether the tag of a frame passes (R236). -/
def Chip.vlanPasses (c : Chip) (p : Nat) (h : FrameHead) : Bool :=
  match h.tci with
  | none => !c.tagOn p || bit (c.lv (Reg.NET_VLAN p)) 16
  | some t => bits t 0 12 == 0 || bits t 0 12 == c.vidOf p

/-! ### Stamps (R68 to R72) -/

/-- A transmit stamp on its queue, or dropped when 64 are unread (R71, R72). -/
def Chip.putStamp (c : Chip) (p ident tb : Nat) : Chip :=
  let x := c.port p
  if x.stamps.length < 64 then c.setPort p { x with stamps := x.stamps ++ [⟨ident, tb, c.txStamp p tb⟩] }
  else
    let c := c.inc (Reg.TXTS_DROP_CNT p)
    if bit (c.rd (Reg.TXTS_STATUS p)) 0 then c
    else ((c.wr (Reg.TXTS_FIRST_DROP_ID p) (ident % 65536 + 2 ^ 31)).setEvt (Reg.TXTS_STATUS p) 1).raise (21 + p) 0x0B02 (it4 p ++ it4 ident)

/-! ### Host receive ring (R238, R276) -/

/-- A frame for the host: dropped where no buffer of its length is free, otherwise written with its entry. `frame` has no
FCS; `octets` counts it. -/
def Chip.toHost (c : Chip) (p row octets : Nat) (frame : List Byte) : Chip :=
  let r := bits (c.lv (Reg.NET_HOSTQ p)) 0 8
  let cfg := c.rd (Reg.RING_CFG r)
  let g := c.ring r
  let size := 2048 * 2 ^ bits cfg 9 2
  if !(bit cfg 0 && bits cfg 1 2 == 3 && c.domainOn 2) || c.ringSize r ≤ g.unread || size < frame.length then
    c.cntAdd p 0xBC 1
  else
    let h := frameHead frame
    let on := bit (c.lv (Reg.TSU_CFG p)) 2
    let t := c.rxStamp p octets
    let word0 := frame.length % 2 ^ 14 + p * 2 ^ 14 + row * 2 ^ 17 + h.tci.isSome.toNat * 2 ^ 20
    let sec := t / 1000000000
    let entry := leBytes 4 word0 ++ leBytes 4 (h.tci.getD 0) ++
      (if on then leBytes 4 (t % 1000000000) ++ leBytes 4 sec ++
          leBytes 4 (sec / 2 ^ 32 % 65536 + bits (c.lv (Reg.TSU_CFG p)) 0 2 * 65536 + 2 ^ 31)
        else List.replicate 12 0) ++ leBytes 4 0 ++ leBytes 8 c.csn
    let buf := c.rd (Reg.RING_BUF_LO r) + c.rd (Reg.RING_BUF_HI r) * 2 ^ 32
    let c := (c.drew.emit (.hostWrite (buf + g.prod % c.ringSize r * size) frame)).storeEntry r g.prod (ofLE entry)
    c.setRing r { g with prod := (g.prod + 1) % 2 ^ 32 }

/-- A frame of row 3 or 7: to the host ring when RX_EN is set, otherwise dropped and counted. -/
def Chip.hostRow (c : Chip) (p row octets : Nat) (frame : List Byte) : Chip :=
  if bit (c.lv (Reg.NET_HOSTQ p)) 8 then c.toHost p row octets frame else c.cntAdd p 0xB8 1

/-! ### Membership (R239) -/

/-- The state-change reports of a crossing on every port: the groups that went and came. -/
def Chip.reportChanges (c : Chip) (before : Nat → List Group) : Chip :=
  (List.range 5).foldl (fun c p =>
    let now := c.members p
    let c := ((before p).filter fun g => !now.contains g).foldl (fun c g => c.report p g false) c
    (now.filter fun g => !(before p).contains g).foldl (fun c g => c.report p g true) c) c

/-- The sources that a query of IGMPv3 or MLDv2 lists: none in a query of a group or of all. -/
def querySources (v6 : Bool) (l : List Byte) : List Nat :=
  let o := if v6 then 26 else 10
  let n := if v6 then 16 else 4
  (List.range (be l o 2)).map fun i => be l (o + 2 + n * i) n

/-- A query: every group of its version that it asks for, and from a listed source where it lists any, is reported after a delay;
an older querier is noted. -/
def Chip.query (c : Chip) (p : Nat) (v6 older : Bool) (group : Nat) (sources : List Nat) : Chip :=
  let x := c.port p
  let asked := (c.members p).filter fun g => g.ipv6 == v6 && (group == 0 || g.group == group) &&
    (sources.isEmpty || match g.source with | none => true | some a => sources.contains a)
  c.setPort p { x with
    reports := (x.reports.filter fun e => !asked.contains e.1) ++ asked.map fun g => (g, true)
    compat := if older then (v6, c.cycle) :: x.compat.filter (fun e => e.1 != v6) else x.compat }

/-! ### Firmware's answers (R238, row 4) -/

/-- A frame whose addresses are exchanged, sent from a port. -/
def Chip.reply (c : Chip) (p : Nat) (h : FrameHead) (frame : List Byte) : Chip :=
  c.sendOwn p (putMacs h.src (c.macOf p) frame)

/-- An echo reply, at most a hundred in a second; others are dropped and counted. -/
def Chip.echo (c : Chip) (p : Nat) (h : FrameHead) (i : IpHead) (frame : List Byte) : Chip :=
  let x := c.port p
  let recent := x.echoes.filter fun t => c.cycle < t + 800000000
  if 100 ≤ recent.length then c.cntAdd p 0xB8 1
  else
    let c := c.setPort p { x with echoes := c.cycle :: recent }
    let a := if i.ipv6 then 16 else 4
    let at_ := i.start + (if i.ipv6 then 8 else 12)
    let body := frame.length - i.payload.length
    let f := putAt (putAt frame at_ (beBytes a i.dst ++ beBytes a i.src)) body [if i.ipv6 then 129 else 0, 0, 0, 0]
    let sum := inetSum (if i.ipv6 then pseudoSum i i.payload.length else 0) (f.drop body)
    (c.reply p h (putAt f (body + 2) (beBytes 2 sum))).emit (.echo p)

/-- The solicitations that an answer from an address completes (R311). -/
def Chip.answered (c : Chip) (p : Nat) (v6 : Bool) (addr mac : Nat) : Chip :=
  let x := c.port p
  let (done, left) := x.solicits.partition fun q => q.ipv6 == v6 && q.addr == addr
  done.foldl (fun c q => c.respondTo q.chan 0x0512 q.tag ⟨0, 0, c.csn, beBytes 6 mac⟩) (c.setPort p { x with solicits := left })

/-- An ARP frame for an own address: a request is answered, a reply completes a resolution. -/
def Chip.arp (c : Chip) (p : Nat) (h : FrameHead) (frame : List Byte) : Chip :=
  let o := h.body
  let sender := (be frame (o + 8) 6, be frame (o + 14) 4)
  if be frame (o + 6) 2 = 2 then c.answered p false sender.2 sender.1
  else c.reply p h (putAt frame (o + 6) (beBytes 2 2 ++ beBytes 6 (c.macOf p) ++ beBytes 4 (be frame (o + 24) 4) ++
    beBytes 6 sender.1 ++ beBytes 4 sender.2))

/-- A neighbour advertisement for a solicitation, from the link-local address (R235). -/
def Chip.advertise (c : Chip) (p : Nat) (h : FrameHead) (i : IpHead) (target : Nat) (frame : List Byte) : Chip :=
  let body := [136, 0, 0, 0, 0x60, 0, 0, 0] ++ beBytes 16 target ++ [2, 1] ++ beBytes 6 (c.macOf p)
  let src := c.linkLocal p
  let r : IpHead := { i with src := src, dst := i.src, proto := 58, payload := body }
  let sum := inetSum (pseudoSum r body.length) body
  let ip := beBytes 4 (6 * 2 ^ 28) ++ beBytes 2 body.length ++ [58, 255] ++ beBytes 16 src ++ beBytes 16 i.src
  c.reply p h (frame.take i.start ++ ip ++ putAt body 2 (beBytes 2 sum))

/-- Row 4 of R238: what firmware takes of ARP, NDP, IGMP, MLD and echo requests; none where the row does not apply. Of a fragment, which
the row takes as far as its octets show it to be one of these, firmware makes nothing (DESIGN CHOICE, log entry 23). -/
def Chip.rowFour (c : Chip) (p : Nat) (h : FrameHead) (frame : List Byte) : Option Chip :=
  if h.ty = 0x0806 then
    (if c.ownIp p false (be frame (h.body + 24) 4) then some (c.arp p h frame) else none)
  else match ipHead frame h with
  | none => none
  | some i =>
    let ty := be i.payload 0 1
    let taken : Option Chip :=
    if i.proto = 2 && !i.ipv6 then
      some (if ty = 0x11 then
          let older := i.payload.length < 12
          c.query p false (older && be i.payload 1 1 != 0) (be i.payload 4 4) (if older then [] else querySources false i.payload)
        else c)
    else if i.proto = 1 && !i.ipv6 then
      (if ty = 8 && c.ownIp p false i.dst then some (c.echo p h i frame) else none)
    else if i.proto = 58 && i.ipv6 then
      (if ty = 130 then
         let older := decide (i.payload.length < 28)
         some (c.query p true older (be i.payload 8 16) (if older then [] else querySources true i.payload))
       else if ty = 131 || ty = 132 || ty = 143 then some c
       else if ty = 128 && c.ownIp p true i.dst then some (c.echo p h i frame)
       else if ty = 135 && c.ownIp p true (be i.payload 8 16) then some (c.advertise p h i (be i.payload 8 16) frame)
       else if ty = 136 && c.ownIp p true i.dst then some (c.answered p true (be i.payload 8 16) h.src)
       else none)
    else none
    if i.rest && i.proto != 2 then none else if i.frag then taken.map fun _ => c else taken

/-! ### E1.31 and video (R238, rows 5 and 6) -/

/-- The octets of E1.31 as its data packet: none where they are not one (PRESUMED from E1.31, log entry 25). -/
def e131Data (l : List Byte) : Option E131Packet :=
  if be l 0 2 = 0x10 && (l.drop 4).take 12 == rootIdent && be l 18 4 = 4 && be l 40 4 = 2 && 126 ≤ l.length then
    let n := min (be l 123 2) (l.length - 125)
    some { univ := be l 113 2, cid := ofLE ((l.drop 22).take 16), prio := be l 108 1, seq := be l 111 1
           syncAddr := be l 109 2, preview := bit (be l 112 1) 7, terminated := bit (be l 112 1) 6
           startCode := be l 125 1, slots := (l.drop 126).take (min 512 (n - 1)) }
  else none

/-- The octets of E1.31 as its synchronisation packet: CID and address. -/
def e131Sync (l : List Byte) : Option (Nat × Nat) :=
  if be l 0 2 = 0x10 && (l.drop 4).take 12 == rootIdent && be l 18 4 = 8 && be l 40 4 = 1 && 49 ≤ l.length then
    some (ofLE ((l.drop 22).take 16), be l 45 2)
  else none

/-- Whether row 5 takes a datagram to UDP port 5568: its destination is the group or an own address of an input universe of
the port, or a synchronisation group. -/
def Chip.rowFive (c : Chip) (p : Nat) (i : IpHead) (u : Udp) : Bool :=
  p < 4 && u.dport == 5568 &&
    (c.inputGroup p i.ipv6 i.dst || (c.port p).syncGroups.contains (i.ipv6, i.dst) ||
      c.ownIp p i.ipv6 i.dst && (match e131Data u.data with
        | some k => (c.inputEntry p k.univ).isSome
        | none => (e131Sync u.data).isSome && c.inputs.any fun e => bit (InUnivRec.mask e.2) p))

/-- What the input merge takes of a datagram. -/
def Chip.mergeInput (c : Chip) (p : Nat) (l : List Byte) : Chip :=
  if !c.domainOn 6 then c
  else match e131Data l, e131Sync l with
  | some k, _ => (match c.inputEntry p k.univ with | some e => c.inputPacket e k | none => c)
  | none, some q => c.inputSync q.1 q.2
  | none, none => c

/-- The stream paths that a datagram belongs to (R247). -/
def Chip.pathsFor (c : Chip) (p : Nat) (i : IpHead) (u : Udp) : List (Nat × Bool) :=
  (c.streamPaths.filter fun e =>
    StreamRec.port e.2.1 e.2.2 == p && StreamRec.ipv6 e.2.1 == i.ipv6 && streamDst e.2.1 e.2.2 == i.dst &&
      StreamRec.udp e.2.1 e.2.2 == u.dport &&
      (!StreamRec.srcEn e.2.1 e.2.2 ||
        streamSrc e.2.1 e.2.2 == i.src)).map fun e => (e.1, e.2.2)

/-- The sample row data headers of an ST 2110-20 payload and where their data begin. -/
def rowHeads : Nat → List Byte → List (Nat × Nat × Nat) × List Byte
  | 0, l => ([], l)
  | n + 1, l =>
    let x := (be l 0 2, be l 2 2, be l 4 2)
    if bit x.2.2 15 then ((x :: (rowHeads n (l.drop 6)).1), (rowHeads n (l.drop 6)).2) else ([x], l.drop 6)

/-- The octets of an RTP packet as ST 2110-20 lays them out (PRESUMED, log entry 25). Four headers are read at most: a
packet with more fails as one with four does. -/
def videoPacket (l : List Byte) : VideoPacket :=
  let b0 := be l 0 1
  let o := 12 + b0 % 16 * 4
  let o := if bit b0 4 then o + 4 + be l (o + 2) 2 * 4 else o
  let h := rowHeads 4 (l.drop (o + 2))
  { version := b0 / 64, payloadType := be l 1 1 % 128, timestamp := be l 4 4
    extSeq := be l o 2 * 65536 + be l 2 2
    rows := (h.1.foldl (fun (x : List SampleRow × List Byte) e =>
      (x.1 ++ [⟨e.2.1 % 32768, bit e.2.1 15, e.2.2 % 32768, x.2.take e.1⟩], x.2.drop e.1)) ([], h.2)).1 }

/-! ### LLDP (R241) -/

/-- The receive wake time in the EEE TLV of an LLDP frame, in microseconds (PRESUMED from IEEE 802.3, log entry 24). -/
def eeeTlv : Nat → List Byte → Option Nat
  | 0, _ => none
  | n + 1, l =>
    let h := be l 0 2
    if h / 512 = 0 then none
    else if h / 512 = 127 && be l 2 3 = 0x00120F && be l 5 1 = 5 then some (be l 8 2)
    else eeeTlv n (l.drop (2 + h % 512))

/-- A resolved wake time of a port, and NET_EEE_RESOLVED at a change. -/
def Chip.setWake (c : Chip) (p ns : Nat) : Chip :=
  let ns := min ns 0xFFFF
  if c.rd (Reg.NET_EEE_TW p) = ns then c
  else ((c.wr (Reg.NET_EEE_TW p) ns).setEvt (Reg.NET_EVT p) 8).raise (32 + p) 0x1004 (it4 p ++ it4 ns)

/-- Row 2 of R238. -/
def Chip.lldp (c : Chip) (p octets : Nat) (h : FrameHead) (frame : List Byte) : Chip :=
  let on := p < 4 && bit (c.lv (Reg.NET_EEE p)) 0 && bit (c.lv (Reg.NET_MODE p)) 8
  let c := match eeeTlv 64 (frame.drop h.body) with
    | some us => if on then c.setWake p (us * 1000) else c
    | none => c
  if bit (c.lv (Reg.NET_HOSTQ p)) 10 then c.toHost p 2 octets frame else c

/-! ### PAUSE (R243, R244) -/

/-- The watchdog of a port, none where it is off. -/
def Chip.limitOf (c : Chip) (p : Nat) : Option Nat :=
  if p < 4 && bit (c.lv (Reg.NET_PAUSE_WD p)) 0 then some (usCycles (bits (c.lv (Reg.NET_PAUSE_WD p)) 12 20)) else none

/-- The time held so far added to TX_PAUSED_US. -/
def Chip.settlePause (c : Chip) (p : Nat) : Chip :=
  let x := c.port p
  if x.pauseEnd.isSome then (c.cntAdd p 0xCC (c.cycle - x.heldAt)).setPort p { x with heldAt := max x.heldAt c.cycle } else c

/-- A pause ended: what it held is sent. One that ends before the frame in transmission at its receipt has not held the port, and is no
part of a continuous pause (R243, R244). -/
def Chip.endPause (c : Chip) (p : Nat) : Chip :=
  let x := c.port p
  if x.pauseEnd.isNone then c
  else
    let held := decide (x.heldAt ≤ c.cycle)
    let c := c.settlePause p
    let x := c.port p
    ((c.setPort p { x with
        pauseEnd := none, pauseStop := if held then c.cycle else x.pauseStop
        pauseFrom := x.pauseFrom.filter fun f => decide (f ≤ c.cycle) }).releaseSyncs p).releaseGap p

/-- The watchdog re-armed, with its cause. -/
def Chip.rearm (c : Chip) (p cause : Nat) : Chip :=
  match (c.port p).tripped with
  | none => c
  | some t =>
    ((c.setPort p { c.port p with tripped := none }).setEvt (Reg.NET_EVT p) 4).raise (32 + p) 0x1003
      (it4 p ++ it4 ((c.cycle - t) / 800) ++ it4 cause)

/-- A PAUSE of a time in quanta at its receipt. -/
def Chip.pause (c : Chip) (p quanta : Nat) : Chip :=
  let x := c.port p
  if quanta = 0 then ((c.endPause p).rearm p 0).cntAdd p 0xC0 1
  else if x.tripped.isSome then (c.setPort p { x with lastPause := c.cycle }).cntAdd p 0xC4 1
  else
    let ends := c.cycle + ceilDiv (quanta * 4096) (c.portRate p)
    let c := c.cntAdd p 0xC0 1
    if x.pauseEnd.isSome then
      if ends ≤ x.heldAt && c.cycle < x.heldAt then c.endPause p
      else c.setPort p { x with pauseEnd := some ends, lastPause := c.cycle }
    else
      let starts := max c.cycle x.txEnd
      if ends ≤ starts then c
      else c.setPort p { x with
        pauseEnd := some ends
        heldAt := starts
        pauseFrom := match x.pauseFrom with
          | some f => if starts ≤ x.pauseStop + 8000 then some f else some starts
          | none => some starts
        lastPause := c.cycle }

/-! ### Links (R199, R232, R243, R244, R251) -/

/-- The packets that wait on a port counted as dropped, and taken as handed over. -/
def Chip.dropQueue (c : Chip) (p : Nat) : Chip :=
  let q := (c.port p).queue
  let c := (c.setPort p { c.port p with queue := [] }).add (Reg.PKP_DOWN_DROP p) (if p < 4 then q.length else 0)
  q.foldl (fun c e => if e.kind == .term || e.kind == .sync || c.stillQueued e.u then c else c.emitted e.u e.kind e.check) c

/-- The link of a port lost; the frame in progress leaves the port out from here on (R199). -/
def Chip.linkDown (c : Chip) (p : Nat) : Chip :=
  if !(c.port p).link then c
  else
    let c := c.settlePause p
    let c := c.setPort p { c.port p with
      link := false, pauseEnd := none, pauseFrom := none, lpiTx := false, eeeAn := false, backlog := [] }
    let c := { c with frame := { c.frame with portsDown := p :: c.frame.portsDown } }
    let c := ((c.cntAdd p 0xD4 1).dropQueue p).rearm p 2
    let c := if p < 4 then c.setWake p 0 else c
    (c.setEvt (Reg.NET_EVT p) 1).raise (32 + p) 0x1001 (it4 p ++ it4 0 ++ it8 c.csn)

/-- The link of a port come up. -/
def Chip.linkUp (c : Chip) (p : Nat) (eee : Bool) : Chip :=
  if (c.port p).link || !bit (c.lv (Reg.NET_MODE p)) 5 || !c.domainOn (portDomain p) then c
  else
    let an := eee && p < 4 && bit (c.lv (Reg.NET_MODE p)) 4 && bit (c.lv (Reg.NET_EEE p)) 0
    ((c.setPort p { c.port p with link := true, eeeAn := an, lldpAt := c.cycle }).setEvt (Reg.NET_EVT p) 1).raise (32 + p) 0x1001
      (it4 p ++ it4 1 ++ it8 c.csn)

/-! ### PTP frames (R61, R238 row 3) -/

/-- The instant at an offset of a PTP message, in nanoseconds. -/
def ptpTime (m : List Byte) (off : Nat) : Nat := be m off 6 * 1000000000 + be m (off + 6) 4

/-- A synchronisation that left at `t1` and arrived at `t2`: the offset of the time base, to be added to it. -/
def Chip.ptpOffset (c : Chip) (tb : Nat) (t1 t2 : Int) : Chip :=
  let t := c.tb tb
  (c.setTb tb { t with ptp := { t.ptp with diff := t2 - t1, rxSync := none } }).ptpHear tb (.sync (t1 + t.ptp.pathDelayNs - t2))

/-- A PTP message as the ordinary clock of a time base takes it from a frame of `octets`: of its domain, synchronisation only from
the master that it follows, one-step or two-step, and a delay response only to its own request. The layout is that of IEEE 1588
(PRESUMED, log entry 29). -/
def Chip.ptpFrame (c : Chip) (tb p octets : Nat) (m : List Byte) : Chip :=
  let t := c.tb tb
  let k := t.ptp
  let seq := be m 30 2
  let corr := sext 64 (be m 8 8) / 65536
  let fromMaster := k.port == some (be m 20 10)
  if !c.ptpRuns tb || be m 4 1 ≠ bits (c.lv (Reg.TB_CFG tb)) 16 8 then c
  else match be m 0 1 % 16 with
  | 0 =>
    let t2 : Int := c.rxStampOn p octets tb - corr
    let c := c.drew
    if !fromMaster then c
    else if bit (be m 6 1) 1 then c.setTb tb { t with ptp := { k with rxSync := some (seq, t2) } }
    else c.ptpOffset tb (ptpTime m 34) t2
  | 1 => (c.setTb tb { t with ptp := { k with reqSeq := seq } }).ptpHear tb .delayReq
  | 8 =>
    match k.rxSync with
    | some (q, t2) => if fromMaster && q == seq then c.ptpOffset tb (ptpTime m 34) (t2 - corr) else c
    | none => c
  | 9 =>
    match k.txDelay with
    | some (q, left, adds) =>
      let t3 : Nat := (t.readBack c.cycle (c.cycle - left) + adds) / nsUnits
      if q == seq && be m 44 8 == Config.clockIdentity.toNat then
        (c.setTb tb { t with ptp := { k with txDelay := none } }).ptpHear tb
          (.delayResp (((ptpTime m 34 : Int) - corr - t3 + k.diff) / 2))
      else c
    | none => c
  | 11 =>
    let d : PtpData := ⟨be m 47 1, be m 48 1, be m 49 1, be m 50 2, be m 52 1, be m 53 8, be m 61 2⟩
    let c := c.ptpHear tb (.announce d)
    let t := c.tb tb
    if t.ptp.parent == some d then c.setTb tb { t with ptp := { t.ptp with port := some (be m 20 10) } } else c
  | 13 =>
    if be m 48 2 = 3 && be m 52 3 = 0x6897E8 && be m 55 3 = 1 then c.ptpHear tb (.metadata ((m.drop 58).take (be m 50 2 - 6)))
    else c.ptpHear tb .management
  | _ => c

/-! ### The checks and the rows (R237, R238) -/

/-- A frame that passed the checks, delivered to its row. -/
def Chip.deliver (c : Chip) (d : List Host.Cell) (p octets : Nat) (frame : List Byte) : List Host.Cell × Chip :=
  let h := frameHead frame
  if h.ty = 0x8808 then
    (d, if be frame h.body 2 = 1 then c.pause p (be frame (h.body + 2) 2) else c.cntAdd p 0xC8 1)
  else if h.ty = 0x88CC then (d, c.lldp p octets h frame)
  else
    let ip := ipHead frame h
    let udp := ip.bind IpHead.udp
    let ptp := match udp with | some u => u.dport == 319 || u.dport == 320 | none => h.ty == 0x88F7
    if ptp then
      let transport := match ip with | some i => i.ipv6.toNat | none => 2
      let body := match udp with | some u => u.data | none => frame.drop h.body
      let clocks := (List.range 4).filter (c.ptpUses p transport)
      (d, if clocks.isEmpty then c.hostRow p 3 octets frame else clocks.foldl (fun c tb => c.ptpFrame tb p octets body) c)
    else match c.rowFour p h frame with
    | some c => (d, c)
    | none =>
      match ip, udp with
      | some i, some u =>
        let paths := c.pathsFor p i u
        if i.frag || i.ext then (d, c.hostRow p 7 octets frame)
        else if c.rowFive p i u then (d, if i.good && u.good then c.mergeInput p u.data else c.cntAdd p 0xB4 1)
        else if paths.isEmpty then (d, c.hostRow p 7 octets frame)
        else if i.good && u.good then paths.foldl (fun s e => s.2.ingest s.1 e.1 e.2 (videoPacket u.data)) (d, c)
        else (d, c.cntAdd p 0xB4 1)
      | _, _ => (d, c.hostRow p 7 octets frame)

/-- A frame with its FCS checked in the order of R237. -/
def Chip.receive (c : Chip) (d : List Host.Cell) (p : Nat) (frame : List Byte) : List Host.Cell × Chip :=
  let n := frame.length
  let body := frame.take (n - 4)
  let h := frameHead body
  if n < 64 then (d, c.cntAdd p 0xA0 1)
  else if bits (c.lv (Reg.NET_MAXLEN p)) 0 14 < n then (d, c.cntAdd p 0xA4 1)
  else if ofLE (frame.drop (n - 4)) ≠ crc32 body then (d, c.cntAdd p 0xA8 1)
  else if !c.vlanPasses p h then (d, c.cntAdd p 0xAC 1)
  else if !c.dstPasses p h.dst then (d, c.cntAdd p 0xB0 1)
  else ((c.cntAdd p 0x80 1).cntAdd p 0x88 n).deliver d p n body

/-! ### Transmit jobs (R277) -/

/-- The checksums that CSUM asks for: the IPv4 header's, and UDP's or TCP's. -/
def insertSums (frame : List Byte) : List Byte :=
  let h := frameHead frame
  match ipHead frame h with
  | none => frame
  | some i =>
    let f := if i.ipv6 then frame
      else
        let f := putAt frame (i.start + 10) [0, 0]
        putAt f (i.start + 10) (beBytes 2 (inetSum 0 ((f.drop i.start).take (be f i.start 1 % 16 * 4))))
    let body := f.length - (f.length - i.start - (if i.ipv6 then 40 else be f i.start 1 % 16 * 4))
    let off := if i.proto = 17 then some 6 else if i.proto = 6 then some 16 else none
    match off with
    | none => f
    | some o =>
      if i.frag then f
      else
        let at_ := if i.ipv6 then body + ((f.drop body).length - i.payload.length) else body
        let z := putAt i.payload o [0, 0]
        let sum := inetSum (pseudoSum i z.length) z
        putAt f (at_ + o) (beBytes 2 (if i.proto = 17 then udpSum sum else sum))

/-- TX_JOB_FAILED, and CONS past the entry. -/
def Chip.jobFailed (c : Chip) (r p cause : Nat) : Chip :=
  let i := (c.ring r).cons
  (c.consumed r).raise 4 0x0506 (it4 r ++ it4 i ++ it4 p ++ it4 cause)

/-- A fetched frame sent (R199, R277): not while a PAUSE holds the port, nor across a crossing. -/
def Chip.sendJob (c : Chip) (r p e : Nat) (frame : List Byte) : Chip :=
  let frame := padTo (c.jobLen e) frame
  let frame := if bit e 84 then insertSums frame else frame
  let frame := frame ++ List.replicate (60 - frame.length) 0
  let c := c.runToCycle (c.port p).txEnd
  if c.paused p || c.meetsCrossing p frame.length then c
  else
    let i := (c.ring r).cons
    let leaves := c.startOf p + c.octetCycles p 8
    let c := (c.sendFrame p frame).consumed r
    let c := if bit e 81 then (c.runToCycle leaves).putStamp p (bits e 96 16) (bits e 82 2) else c
    if bit e 85 then c.raise 4 0x0505 (it4 r ++ it4 i ++ it4 p ++ it4 (bits e 96 16)) else c

/-! ### Meanings -/

/-- NET_FRAME_RECEIVE (R237, R238). -/
def execNetFrameReceive (port : Nat) (frame : List Byte) (s : State) : Host.Outcome State Fault Refusal :=
  within (port < 5) (onBoth (fun d c => if c.portUp port then c.receive d port frame else (d, c)) s)

/-- PAUSE_RECEIVE (R243, R244): a PAUSE at its receipt. -/
def execPauseReceive (port quanta : Nat) (s : State) : Host.Outcome State Fault Refusal :=
  within (port < 5 && quanta < 65536) (onChip (fun _ c => if c.portUp port then c.pause port quanta else c) s)

/-- PAUSE_EXPIRE (R243). -/
def execPauseExpire (port : Nat) (s : State) : Host.Outcome State Fault Refusal :=
  within (port < 5) (onChip (fun _ c =>
    match (c.port port).pauseEnd with
    | none => c
    | some t => (c.runToCycle t).endPause port) s)

/-- NET_PAUSE_WATCHDOG (R244): a continuous pause reaches LIMIT. -/
def execNetPauseWatchdog (port : Nat) (s : State) : Host.Outcome State Fault Refusal :=
  within (port < 5) (onChip (fun _ c =>
    match c.limitOf port, (c.port port).pauseFrom, (c.port port).pauseEnd with
    | some n, some f, some e =>
      if f + n ≤ e then
        let c := (c.runToCycle (f + n)).endPause port
        let c := c.setPort port { c.port port with tripped := some c.cycle, lastPause := c.cycle, pauseFrom := none }
        (c.setEvt (Reg.NET_EVT port) 2).raise (32 + port) 0x1002 (it4 port ++ it4 ((c.cycle - f) / 800))
      else c
    | _, _, _ => c) s)

/-- NET_PAUSE_REARM (R244): LIMIT has passed with no PAUSE of non-zero time. -/
def execNetPauseRearm (port : Nat) (s : State) : Host.Outcome State Fault Refusal :=
  within (port < 5) (onChip (fun _ c =>
    let x := c.port port
    if x.tripped.isSome then
      (c.runToCycle (x.lastPause + usCycles (bits (c.lv (Reg.NET_PAUSE_WD port)) 12 20))).rearm port 1
    else c) s)

/-- NET_LINK_CHANGE (R251). -/
def execNetLinkChange (port : Nat) (up eeeResolved : Bool) (s : State) : Host.Outcome State Fault Refusal :=
  within (port < 5) (onChip (fun _ c =>
    c.inCycle fun c => if up then c.linkUp port eeeResolved else c.linkDown port) s)

/-- MEMBERSHIP_REPORT_REPEAT (R239): what is still to report on a port that is up. -/
def execMembershipReportRepeat (port : Nat) (s : State) : Host.Outcome State Fault Refusal :=
  within (port < 5) (onChip (fun _ c =>
    let x := c.port port
    if c.portUp port then
      x.reports.foldl (fun c e => c.sendReport port e.1 e.2) (c.setPort port { x with reports := [] })
    else c) s)

/-- What the LLDP of a port says of EEE: its own receive wake time while EEE is enabled (R241). -/
def Chip.lldpWake (c : Chip) (p : Nat) : Option Nat :=
  if p < 4 && bit (c.lv (Reg.NET_EEE p)) 0 then some Config.phyWake.toNat else none

/-- LLDP_SEND (R241, R254): firmware's LLDP, 30 s after the one before, with a TTL of 120 s; its octets are not given, and it
is counted as a frame of 64. -/
def execLldpSend (port : Nat) (s : State) : Host.Outcome State Fault Refusal :=
  within (port < 5) (onChip (fun _ c =>
    if c.portUp port && bit (c.lv (Reg.NET_MODE port)) 8 then
      let c := c.runToCycle (c.port port).lldpAt
      (c.setPort port { c.port port with lldpAt := c.cycle + 24000000000 }).sendBehind port 60
        (.lldp port 120 (c.lldpWake port))
    else c) s)

/-- LPI_ENTER (R242). -/
def execLpiEnter (port : Nat) (s : State) : Host.Outcome State Fault Refusal :=
  within (port < 5) (onChip (fun _ c =>
    let x := c.port port
    if !c.lpiAllowed port || c.lpiNow port || !x.queue.isEmpty || !x.backlog.isEmpty then c
    else
      let c := c.runToCycle (x.txEnd + usCycles (bits (c.lv (Reg.NET_EEE port)) 8 8))
      let spare := c.wakeCycles port + 1600
      let free_ := match c.nextSend port with | none => true | some t => decide (c.cycle + spare ≤ t)
      if free_ then (c.setPort port { x with lpiTx := true }).cntAdd port 0xD0 1 else c) s)

/-- LPI_WAKE (R242): the wake also begins of itself before the next transmission that the port knows of. -/
def execLpiWake (port : Nat) (s : State) : Host.Outcome State Fault Refusal :=
  within (port < 5) (onChip (fun _ c => c.setPort port { c.port port with lpiTx := false }) s)

/-- TX_JOB_SEND (R277): the frame of the entry at CONS of a transmit job ring, with what the fetch from ADDR has brought, or none for an
error completion. -/
def execTxJobSend (r : Nat) (fetched : Option (List Byte)) (s : State) : Host.Outcome State Fault Refusal :=
  within (r < 256) (onChip (fun _ c =>
    match c.frontEntry r 2 with
    | none => c
    | some e =>
      let c := if (c.ring r).taken then c else c.takeEntry r
      let p := jobPort e
      if !c.portUp p then c.jobFailed r p 1
      else match fetched with
      | none => c.jobFailed r p 2
      | some l => c.sendJob r p e l) s)

/-- NET_CNT_SNAP (R252, R253). -/
def execNetCntSnap (v : Word) (s : State) : Host.Outcome State Fault Refusal :=
  regCommand Reg.NET_CNT_SNAP (fun c =>
    if bit v.toNat 0 then
      (List.range 5).foldl (fun c p =>
        let c := c.settlePause p
        let c := [0x80, 0x88, 0x90, 0x98].foldl (fun c o => c.wrWords (0x3400 + 0x100 * p + o) 2 (c.cntOf p o)) c
        (List.range 14).foldl (fun c i =>
          let o := 0xA0 + 4 * i
          c.wr (0x3400 + 0x100 * p + o) (if o = 0xCC then sat32 (c.cntOf p o / 800) else c.cntOf p o)) c) c
    else c) s

/-- NET_CNT_CLR (R252). -/
def execNetCntClr (v : Word) (s : State) : Host.Outcome State Fault Refusal :=
  regCommand Reg.NET_CNT_CLR (fun c =>
    (List.range 5).foldl (fun c p =>
      if bit v.toNat p then
        let c := c.settlePause p
        { c with cnt := c.cnt.filter fun e => !(p * 0x100 ≤ e.1 && e.1 < (p + 1) * 0x100) }
      else c) c) s

/-- TXTS_RELEASE (R71). -/
def execTxtsRelease (unit : Nat) (v : Word) (s : State) : Host.Outcome State Fault Refusal :=
  within (unit < 5) (regCommand (Reg.TXTS_RELEASE unit) (fun c =>
    if bit v.toNat 0 then c.setPort unit { c.port unit with stamps := (c.port unit).stamps.drop 1 } else c) s)

/-- TXTS_STATUS_CLEAR (R72). -/
def execTxtsStatusClear (unit : Nat) (v : Word) (s : State) : Host.Outcome State Fault Refusal :=
  within (unit < 5) (regCommand (Reg.TXTS_STATUS unit) (fun c =>
    if bit v.toNat 0 then ((c.clearEvt (Reg.TXTS_STATUS unit) 1).wr (Reg.TXTS_DROP_CNT unit) 0).wr
      (Reg.TXTS_FIRST_DROP_ID unit) (setBit (c.rd (Reg.TXTS_FIRST_DROP_ID unit)) 31 false) else c) s)

/-- The group that a NET command names (R311). -/
def groupArg (p : Nat) : Group :=
  let n := if bit (pl p 0 0 32) 3 then 16 else 4
  ⟨bit (pl p 0 0 32) 3, ofBE (leBytes n (p / 2 ^ 32)),
    if bit (pl p 0 0 32) 4 then some (ofBE (leBytes n (p / 2 ^ 160))) else none⟩

/-- NET_GROUP_JOIN (R239, R240, R311). -/
def execNetGroupJoin (h : CmdHdr) (p : Nat) (s : State) : Host.Outcome State Fault Refusal :=
  firmware 0x0510 false h p (fun p _ c =>
    let port := min 4 (pl p 0 0 3)
    let ch : Change := .groupJoin port (groupArg p)
    c.commitCommand 0x0510 h p false fun q _ => .ok ([ch], leBytes 4 ((q.configure ch).exactGroups port).length)) s

/-- NET_GROUP_LEAVE (R311). -/
def execNetGroupLeave (h : CmdHdr) (p : Nat) (s : State) : Host.Outcome State Fault Refusal :=
  firmware 0x0511 false h p (fun p _ c =>
    let port := min 4 (pl p 0 0 3)
    let ch : Change := .groupLeave port (groupArg p)
    c.commitCommand 0x0511 h p false fun q _ =>
      if (q.port port).groups.contains (groupArg p) then
        .ok ([ch], leBytes 4 ((q.configure ch).exactGroups port).length)
      else .error missed) s

/-- A solicitation sent, from the port's link-local or IPv4 address (R235, R311). -/
def Chip.solicit (c : Chip) (p : Nat) (q : Solicit) : Chip :=
  c.sendBehind p (if q.ipv6 then 86 else 60) (.solicit p (c.controlIp p q.ipv6) q.ipv6 q.addr)

/-- NET_NEIGHBOUR_RESOLVE (R311): the first solicitation; the response follows its answer or the third. -/
def execNetNeighbourResolve (h : CmdHdr) (p : Nat) (s : State) : Host.Outcome State Fault Refusal :=
  firmware 0x0512 false h p (fun p _ c =>
    let port := min 4 (pl p 0 0 3)
    let v6 := bit (pl p 0 0 32) 3
    let q : Solicit := ⟨some h.chan, h.tag, v6, ofBE (leBytes (if v6 then 16 else 4) (p / 2 ^ 32)), 1, c.cycle⟩
    (c.setPort port { c.port port with solicits := (c.port port).solicits ++ [q] }).solicit port q) s

/-- NEIGHBOUR_SOLICIT_RETRY (R311): 100 ms without an answer to the earliest resolution of a port. -/
def execNeighbourSolicitRetry (port : Nat) (s : State) : Host.Outcome State Fault Refusal :=
  within (port < 5) (onChip (fun _ c =>
    match (c.port port).solicits with
    | [] => c
    | q :: r =>
      let c := c.runToCycle (q.since + usCycles 100000)
      if q.tries < 3 then
        let q := { q with tries := q.tries + 1, since := c.cycle }
        (c.setPort port { c.port port with solicits := r ++ [q] }).solicit port q
      else (c.setPort port { c.port port with solicits := r }).respondTo q.chan 0x0512 q.tag ⟨0xD, 0, c.csn, []⟩) s)

end Sys2Proof.Machine
end

