-- ==== Sys2Proof/Machine/Rings.lean ====
section
/-! DEFINITION. Rings (R267 to R272), the legacy pop (R266), mailboxes (R279) and MSI-X vectors (R275) as the host writes
them. -/

namespace Sys2Proof.Machine

open Sys2Proof

/-- TYPE of a ring. -/
def Chip.ringType (c : Chip) (r : Nat) : Nat := bits (c.rd (Reg.RING_CFG r)) 1 2
/-- EN of a ring. -/
def Chip.ringOn (c : Chip) (r : Nat) : Bool := bit (c.rd (Reg.RING_CFG r)) 0
/-- Whether the host produces a ring (R267). -/
def Chip.hostProduces (c : Chip) (r : Nat) : Bool := c.ringType r == 0 || c.ringType r == 2
/-- Whether a ring's entries stand in the ring window. -/
def Chip.inWindow (c : Chip) (r : Nat) : Bool := !bit (c.rd (Reg.RING_CFG r)) 3

/-! ### Configuration (R268) -/

/-- The first octet past a ring in the window. -/
def Chip.ringEnd (c : Chip) (r : Nat) : Nat := c.ringBase r + c.ringSize r * 64

/-- Why an enable is refused: the causes of RING_CFG_REJECTED that hold (R268, R501). -/
def Chip.ringFaults (c : Chip) (r : Nat) : List Nat :=
  (if c.inWindow r && (0x1000000 < c.ringEnd r || (List.range 256).any fun q =>
      q != r && c.ringOn q && c.inWindow q && c.ringBase r < c.ringEnd q && c.ringBase q < c.ringEnd r) then [1] else []) ++
  (if c.ringBase r % (c.ringSize r * 64) ≠ 0 then [2] else []) ++
  (if c.ringType r = 0 && c.ringType (bits (c.rd (Reg.RING_CFG r)) 11 8) ≠ 1 then [3] else [])

/-- A ring enabled, with both indices at 0, or refused. Which of several causes the event carries the spec does not say: a free value
(log entry 42). -/
def Chip.enableRing (c : Chip) (r : Nat) : Chip :=
  match c.ringFaults r with
  | [] => c.setRing r { Ring.reset with active := true }
  | k :: l =>
    let cause := (k :: l).getD (c.free % (l.length + 1)) k
    let c := c.drew
    let c := c.wr (Reg.RING_CFG r) (setBit (c.rd (Reg.RING_CFG r)) 0 false)
    (c.setRing r { c.ring r with rejected := true, active := false }).raise 4 0x0503 (it4 r ++ it4 cause)

/-- A write of RINGr_CFG. -/
def Chip.writeRingCfg (c : Chip) (r v : Nat) : Chip :=
  let off := Reg.RING_CFG r
  if c.ringOn r then
    (if bit v 0 then c else (c.wr off (setBit (c.rd off) 0 false)).setRing r { c.ring r with active := false })
  else
    let c := c.wr off (clampReg c off v)
    let c := if c.inWindow r then c.wr (Reg.RING_BASE_HI r) 0 else c
    if bit v 0 then c.enableRing r else c

/-! ### Indices (R269) -/

/-- Whether a write moves an index backward. -/
def backward (old new : Nat) : Bool := 2 ^ 31 ≤ (new + 2 ^ 32 - old) % 2 ^ 32

/-- A host write of RINGr_PROD. -/
def Chip.writeProd (c : Chip) (r v : Nat) : Chip :=
  let g := c.ring r
  if !c.hostProduces r || backward g.prod v then c
  else
    let most := c.ringSize r - 1
    c.setRing r { g with prod := if most < (v + 2 ^ 32 - g.cons) % 2 ^ 32 then (g.cons + most) % 2 ^ 32 else v }

/-- A host write of RINGr_CONS. -/
def Chip.writeCons (c : Chip) (r v : Nat) : Chip :=
  let g := c.ring r
  if c.hostProduces r || backward g.cons v then c
  else
    let cons := if g.unread < (v + 2 ^ 32 - g.cons) % 2 ^ 32 then g.prod else v
    c.setRing r { g with cons := cons, full := g.full && cons == g.cons }

/-! ### Flushes (R271, R272) -/

/-- A flush of a host-produced ring: its entries discarded, the slots from CONS to PROD fenced. An entry under way completes. -/
def Chip.flushHost (c : Chip) (r : Nat) : Chip :=
  let g := c.ring r
  if !c.hostProduces r then c
  else
    let slots := (List.range (g.unread + 1)).map fun i => (g.cons + i) % c.ringSize r
    c.setRing r { g with prod := g.cons, cut := g.taken, fences := (g.fences ++ slots).eraseDups, stalled := false }

/-- A flush of a ring that the XK1 produces: it holds nothing unwritten between steps, and CONS becomes PROD. -/
def Chip.flushDevice (c : Chip) (r : Nat) : Chip :=
  let g := c.ring r
  if c.hostProduces r then c else c.setRing r { g with cons := g.prod, full := false }

/-! ### Slots (R270, R271) -/

/-- The host-produced ring that holds a slot of the window, and the ring's slot: one that is enabled, or that has an entry in progress
(R268). -/
def Chip.slotRing (c : Chip) (k : Nat) : Option (Nat × Nat) :=
  ((List.range 256).find? fun r =>
    (c.ringOn r || (c.ring r).taken) && c.hostProduces r && c.inWindow r && c.ringBase r ≤ k * 64 && k * 64 < c.ringEnd r).map
      fun r => (r, k - c.ringBase r / 64)

/-- Octets stored into a slot of the window; a part of a word is merged after a read (R396). -/
def Chip.storeSlot (c : Chip) (k at_ : Nat) (bs : List Byte) : Chip :=
  let old := leBytes 64 (natAt c.ringMem k)
  let a := lagoonRings + 64 * k + at_
  let part := (c.eccLagoon.within a bs.length).filter fun w => !(a ≤ w && w + 8 ≤ a + bs.length)
  let c := (part.foldl (fun c w => c.noteWord 1 5 w) c).rewritten 1 a bs.length
  { c with ringMem := setNat c.ringMem k (ofLE (putAt old at_ bs)) }

/-- A write to a slot ignored and counted. -/
def Chip.ignoreSlot (c : Chip) (r : Nat) : Chip := (c.inc (Reg.RING_DROP_CNT r)).setEvt (Reg.RING_EVT r) 4

/-- Whether a slot of a ring holds an entry taken as valid and not yet consumed (R270): the entry that the XK1 executes, or one
from CONS up to PROD with the right generation (DEDUCED, log entry 42). A flush has discarded the one that is executed: its slot is
fenced, and holds it no more (R271). Once EN is clear only the entry in progress counts. -/
def Chip.slotHeld (c : Chip) (r i k : Nat) : Bool :=
  let g := c.ring r
  let n := (g.cons + (i + c.ringSize r - g.cons % c.ringSize r) % c.ringSize r) % 2 ^ 32
  let ahead := (n + 2 ^ 32 - g.cons) % 2 ^ 32
  g.taken && !g.cut && ahead == 0 || c.ringOn r && ahead < g.unread && bit (natAt c.ringMem k) 511 == c.genOf r n

/-- The part of a write that lands in one slot: ignored where the slot holds a valid entry, or is fenced and the write does
not cover it. -/
def Chip.writeSlot (c : Chip) (k at_ : Nat) (bs : List Byte) : Chip :=
  match c.slotRing k with
  | none => c.storeSlot k at_ bs
  | some (r, i) =>
    let g := c.ring r
    if c.slotHeld r i k then c.ignoreSlot r
    else if g.fences.contains i then
      (if bs.length = 64 then (c.setRing r { g with fences := g.fences.filter (· != i) }).storeSlot k at_ bs
       else c.ignoreSlot r)
    else c.storeSlot k at_ bs

/-- A write into the ring window, slot by slot. -/
def Chip.writeWindow : Nat → Chip → Nat → List Byte → Chip
  | 0, c, _, _ => c
  | n + 1, c, off, bs =>
    if bs.isEmpty then c
    else
      let room := 64 - off % 64
      Chip.writeWindow n (c.writeSlot (off / 64) (off % 64) (bs.take room)) (off + room) (bs.drop room)

/-! ### Mailboxes (R279) -/

/-- A write of MBm_DOORBELL. -/
def Chip.doorbell (c : Chip) (m v : Nat) : Chip :=
  let b := c.mbox m
  if b.busy then c.writeFailed false (Reg.MB_DOORBELL m) hostReq (c.rd Reg.HB_EPOCH) 3 0 4
  else if bit v 0 then c.setMbox m { b with busy := true, done := false } else c

/-! ### Meanings -/

/-- RING_ENABLE (R268). -/
def execRingEnable (r : Nat) (v : Word) (s : State) : Host.Outcome State Fault Refusal :=
  within (r < 256) (regCommand (Reg.RING_CFG r) (fun c => c.writeRingCfg r v.toNat) s)

/-- RING_PROD_WRITE (R269). -/
def execRingProdWrite (r : Nat) (v : Word) (s : State) : Host.Outcome State Fault Refusal :=
  within (r < 256) (regCommand (Reg.RING_PROD r) (fun c => c.writeProd r v.toNat) s)

/-- RING_CONS_WRITE (R269, R272). -/
def execRingConsWrite (r : Nat) (v : Word) (s : State) : Host.Outcome State Fault Refusal :=
  within (r < 256) (regCommand (Reg.RING_CONS r) (fun c => c.writeCons r v.toNat) s)

/-- RING_FLUSH_HOST (R271). -/
def execRingFlushHost (r : Nat) (v : Word) (s : State) : Host.Outcome State Fault Refusal :=
  within (r < 256) (regCommand (Reg.RING_FLUSH r) (fun c => if bit v.toNat 0 then c.flushHost r else c) s)

/-- RING_FLUSH_DEVICE (R272). -/
def execRingFlushDevice (r : Nat) (v : Word) (s : State) : Host.Outcome State Fault Refusal :=
  within (r < 256) (regCommand (Reg.RING_FLUSH r) (fun c => if bit v.toNat 0 then c.flushDevice r else c) s)

/-- RING_SLOT_WRITE (R270): octets at an offset of the ring window. -/
def execRingSlotWrite (off : Nat) (octets : List Byte) (s : State) : Host.Outcome State Fault Refusal :=
  within (off + octets.length ≤ 0x1000000 && octets.length ≤ 512)
    (onChip (fun _ c => c.barWrite (0x1000000 + off) octets.length fun c => c.writeWindow 9 off octets) s)

/-- RING_ENTRY_TAKE (R270): firmware takes the entry of a command ring in its turn (R291). -/
def execRingEntryTake (r : Nat) (s : State) : Host.Outcome State Fault Refusal :=
  within (r < 256) (onChip (fun _ c =>
    if c.hostProduces r && !(c.ring r).taken && (c.frontEntry r (c.ringType r)).isSome &&
        (c.ringType r == 2 || c.takesFrom (.ring r)) then c.takeEntry r
    else c) s)

/-- RING_STALL (R270): an entry below PROD has held a wrong GEN for tGENW. -/
def execRingStall (r : Nat) (s : State) : Host.Outcome State Fault Refusal :=
  within (r < 256) (onChip (fun _ c =>
    let g := c.ring r
    if c.hostProduces r && c.ringOn r && 0 < g.unread && !g.taken && !g.stalled && (c.frontEntry r (c.ringType r)).isNone then
      ((c.setRing r { g with stalled := true }).setEvt (Reg.RING_EVT r) 2).raise 4 0x0504 (it4 r ++ it4 g.cons)
    else c) s)

/-- EVT_LEGACY_POP (R266): a read with these byte enables, of which it returns the octets (R464). -/
def execEvtLegacyPop (be : Nat) (s : State) : Host.Outcome State Fault Refusal :=
  onChip (fun _ c =>
    if !c.barReady 0xF000 || c.power.warm then c.emit .completerAbort
    else
      let cfg := c.rd Reg.EVT_LEGACY_CFG
      let r := bits cfg 0 8
      let g := c.ring r
      if bits be 0 4 ≠ 0 && bit cfg 8 && c.isEventRing r && c.inWindow r && c.domainOn 3 && 0 < g.unread then
        let e := c.entryAt r
        let v := bits e 0 24 + bits e 32 7 * 2 ^ 24 + 2 ^ 31
        let c := c.noteEntry 5 r
        (c.setRing r { c.ring r with cons := (g.cons + 1) % 2 ^ 32, full := false }).emit (.legacyPop (BitVec.ofNat 32 (v &&& enableMask be)))
      else c.emit (.legacyPop 0)) s

/-- MBM_DOORBELL (R279). -/
def execMbmDoorbell (m : Nat) (v : Word) (s : State) : Host.Outcome State Fault Refusal :=
  within (m < 8) (regCommand (Reg.MB_DOORBELL m) (fun c => c.doorbell m v.toNat) s)

/-- A vector unmasked: what its pending bit announces is sent (R275). -/
def Chip.unmask (c : Chip) (v : Nat) : Chip :=
  let c := c.wr (Reg.MSIX_CTRL v) 0
  if c.msixPend.contains v then ({ c with msixPend := c.msixPend.filter (· != v) } : Chip).msix v else c

/-- MSIX_UNMASK (R275). -/
def execMsixUnmask (vector : Nat) (s : State) : Host.Outcome State Fault Refusal :=
  within (vector < 256) (regCommand (Reg.MSIX_CTRL vector) (fun c => c.unmask vector) s)

end Sys2Proof.Machine
end

