-- ==== Sys2Proof/Machine/Telemetry.lean ====
section
/-! DEFINITION. The telemetry FIFOs (R280 to R284): two banks, the records that producers place in them, closure, and what the
host's writes do. -/

namespace Sys2Proof.Machine

open Sys2Proof

/-- Octets of a bank. -/
def bankSize : Nat := 16384

/-- Whether the filling bank of a FIFO is due to close (R281); one that a record is being written to waits for its end. -/
def Chip.closeDue (c : Chip) (f : Nat) : Bool :=
  let x := c.fifo f
  !x.filling.isEmpty && x.begun.isNone && (x.closeReq || decide (x.firstAt + usCycles (1000 * bits (c.lv (Reg.TF_CFG f)) 8 8) ≤ c.cycle))

/-- The filling bank closed, and TELEM_READY. -/
def Chip.closeBank (c : Chip) (f : Nat) : Chip :=
  let x := c.fifo f
  let c := c.setFifo f { x with
    filling := [], draining := x.filling, fillBank := 1 - x.fillBank, rd := 0, mark := 0, closeReq := false }
  (c.setEvt (Reg.TF_EVT f) 2).raise (136 + f) 0x1501 (it4 f ++ it4 x.fillBank ++ it4 x.filling.length)

/-- The filling bank closed if it is due and the other is empty. -/
def Chip.tryClose (c : Chip) (f : Nat) : Chip :=
  if (c.fifo f).draining.isEmpty && c.closeDue f then c.closeBank f else c

/-- A record put in the filling bank. -/
def Chip.putRecord (c : Chip) (f : Nat) (rec : List Byte) : Chip :=
  let x := c.fifo f
  c.setFifo f { x with filling := x.filling ++ rec, firstAt := if x.filling.isEmpty then c.cycle else x.firstAt }

/-- A record that found no space (R283). -/
def Chip.loseRecord (c : Chip) (f : Nat) : Chip :=
  let c := c.inc (Reg.TF_LOST f)
  if bit (c.rd (Reg.TF_EVT f)) 0 then c
  else (c.setEvt (Reg.TF_EVT f) 1).raise (136 + f) 0x1502 (it4 f ++ it4 (c.rd (Reg.TF_LOST f)))

/-- A record with its header (R281). -/
def telemRecord (producer seq : Nat) (body : List Byte) : List Byte :=
  let n := ceilDiv (8 + body.length) 8 * 8
  leBytes 2 n ++ [BitVec.ofNat 8 producer, 0] ++ leBytes 4 seq ++ padTo (n - 8) body

/-- The FIFO of a producer (R280). -/
def Chip.fifoOf (c : Chip) (producer : Nat) : Option Nat :=
  (List.range 8).find? fun f => bits (c.lv (Reg.TF_CFG f)) 0 2 == producer

/-- A record that a producer starts: counted, and given to `put` in the bank that has room for it, or dropped (R280 to R283). -/
def Chip.startRecord (c : Chip) (producer : Nat) (body : List Byte) (put : Chip → Nat → List Byte → Chip) : Chip :=
  let seq := (c.produced.getD (producer - 1) 0 + 1) % 2 ^ 32
  let c := { c with produced := c.produced.set (producer - 1) seq }
  match c.fifoOf producer with
  | none => c
  | some f =>
    let rec_ := telemRecord producer seq body
    let x := c.fifo f
    if !c.domainOn 2 || !c.domainOn 3 then c
    else if x.filling.length + ((x.begun.getD []).length + rec_.length) ≤ bankSize then put c f rec_
    else if x.draining.isEmpty && x.begun.isNone then put (c.closeBank f) f rec_
    else c.loseRecord f

/-- A record of a producer placed whole, or dropped. -/
def Chip.produce (c : Chip) (producer : Nat) (body : List Byte) : Chip :=
  c.startRecord producer body fun c f rec_ => (c.putRecord f rec_).tryClose f

/-- A record begun, if the producer is in no other: it has its place in the filling bank and is not in it yet. -/
def Chip.beginRecord (c : Chip) (producer : Nat) (body : List Byte) : Chip :=
  if (c.fifoOf producer).any fun f => (c.fifo f).begun.isSome || (c.fifo f).sinking then c
  else c.startRecord producer body fun c f rec_ => c.setFifo f { c.fifo f with begun := some rec_ }

/-- The record that a producer has begun ended: in the filling bank, or gone to the discard sink (R284). -/
def Chip.endRecord (c : Chip) (producer : Nat) : Chip :=
  match c.fifoOf producer with
  | none => c
  | some f =>
    match (c.fifo f).begun with
    | some r => ((c.setFifo f { c.fifo f with begun := none }).putRecord f r).tryClose f
    | none => c.setFifo f { c.fifo f with sinking := false }

/-- TFf_FLUSH (R284): both banks emptied; a record in production is cut and counted, and its rest goes to the discard sink. -/
def Chip.flushFifo (c : Chip) (f : Nat) : Chip :=
  let x := c.fifo f
  let c := if x.begun.isSome then c.inc (Reg.TF_SINK_CNT f) else c
  c.setFifo f { x with
    filling := [], draining := [], rd := 0, mark := 0, closeReq := false, begun := none, sinking := x.sinking || x.begun.isSome }

/-- TFf_RELEASE (R282). -/
def Chip.releaseBank (c : Chip) (f : Nat) : Chip :=
  let x := c.fifo f
  if x.rd = x.draining.length then (c.setFifo f { x with draining := [], rd := 0, mark := 0 }).tryClose f
  else c.setFifo f { x with mark := max x.mark x.rd }

/-- Octets of the body that an event of a producer brings. -/
def partLength : RecordPart → Nat
  | .whole body => body.length
  | .begins body => body.length
  | .ends => 0

/-! ### Meanings -/

/-- TFF_ADVANCE (R282). -/
def execTffAdvance (f : Nat) (v : Word) (s : State) : Host.Outcome State Fault Refusal :=
  within (f < 8) (regCommand (Reg.TF_ADVANCE f) (fun c =>
    let x := c.fifo f
    c.setFifo f { x with rd := min x.draining.length ((x.rd + bits v.toNat 0 15) / 8 * 8) }) s)

/-- TFF_MARK (R282). -/
def execTffMark (f : Nat) (v : Word) (s : State) : Host.Outcome State Fault Refusal :=
  within (f < 8) (regCommand (Reg.TF_MARK f) (fun c =>
    if bit v.toNat 0 then c.setFifo f { c.fifo f with mark := (c.fifo f).rd } else c) s)

/-- TFF_REWIND (R282). -/
def execTffRewind (f : Nat) (v : Word) (s : State) : Host.Outcome State Fault Refusal :=
  within (f < 8) (regCommand (Reg.TF_REWIND f) (fun c =>
    if bit v.toNat 0 then c.setFifo f { c.fifo f with rd := (c.fifo f).mark } else c) s)

/-- TFF_RELEASE (R282). -/
def execTffRelease (f : Nat) (v : Word) (s : State) : Host.Outcome State Fault Refusal :=
  within (f < 8) (regCommand (Reg.TF_RELEASE f) (fun c => if bit v.toNat 0 then c.releaseBank f else c) s)

/-- TFF_CLOSE (R281): closure asked for, and done at once if the other bank is empty. An empty filling bank has nothing to
close. -/
def execTffClose (f : Nat) (v : Word) (s : State) : Host.Outcome State Fault Refusal :=
  within (f < 8) (regCommand (Reg.TF_CLOSE f) (fun c =>
    if bit v.toNat 0 && !(c.fifo f).filling.isEmpty then (c.setFifo f { c.fifo f with closeReq := true }).tryClose f else c) s)

/-- TFF_FLUSH (R284). A record that completes in the cycle of the flush ends before it or is cut by it (log entry 41). -/
def execTffFlush (f : Nat) (v : Word) (s : State) : Host.Outcome State Fault Refusal :=
  within (f < 8) (regCommand (Reg.TF_FLUSH f) (fun c =>
    if bit v.toNat 0 then c.flushFifo f else c) s)

/-- TELEM_AGE_CLOSE (R281). -/
def execTelemAgeClose (f : Nat) (s : State) : Host.Outcome State Fault Refusal :=
  within (f < 8) (onChip (fun _ c =>
    if (c.fifo f).filling.isEmpty then c
    else (c.runToCycle ((c.fifo f).firstAt + usCycles (1000 * bits (c.lv (Reg.TF_CFG f)) 8 8))).tryClose f) s)

/-- TELEM_RECORD_PRODUCE (R283, R284): a record placed whole, begun or ended. -/
def execTelemRecordProduce (producer : Nat) (part : RecordPart) (s : State) : Host.Outcome State Fault Refusal :=
  within (1 ≤ producer && producer ≤ 3 && partLength part ≤ 16376) (onChip (fun _ c => match part with
    | .whole body => c.produce producer body
    | .begins body => c.beginRecord producer body
    | .ends => c.endRecord producer) s)

end Sys2Proof.Machine
end

