-- ==== Sys2Proof/Machine/LocalPorts.lean ====
section
/-! DEFINITION. The local ports: the frames of DMX and pixel ports with their fit against the live rate (R207 to R211, R218
to R220, R226), RDM in their gaps (R212 to R216, R285, R312), and the house channels (R221 to R225). -/

namespace Sys2Proof.Machine

open Sys2Proof

/-- Whether the isle drives the local pins (R320, R322) and their domain is on. -/
def Chip.drives (c : Chip) : Bool := (c.pair.isle == .solo || c.pair.isle == .active) && c.domainOn 11

/-- tDGUARD in cycles. -/
def guard : Nat := 40000

/-- DIV × P in cycles at the live rate. -/
def Chip.divPeriod (c : Chip) (div : Nat) : Nat := div * c.fg.rateD * 800000000 / c.fg.rateN

/-- Cycles of DIV × P − tDGUARD. -/
def Chip.frameRoom (c : Chip) (div : Nat) : Nat := c.divPeriod div - guard

/-- The source of a local port's events (R451). -/
def portSource : LocalPort → Nat
  | .dmx n => 64 + n
  | .pix p => 80 + p

/-- The number of a local port. -/
def portIndex : LocalPort → Nat
  | .dmx n => n
  | .pix p => p

/-- A bit set in the event register of a local port, and its event raised. -/
def Chip.portEvent (c : Chip) (port : LocalPort) (k : Nat) (items : List Byte) : Chip :=
  let reg := match port with | .dmx n => Reg.DMX_EVT n | .pix p => Reg.PIX_EVT p
  (c.setEvt reg (1 <<< k)).raise (portSource port) (0x1201 + k) (it4 (portIndex port) ++ items)

/-- Whether a local port exists. -/
def portWf : LocalPort → Bool
  | .dmx n => n < 16
  | .pix p => p < 32

/-! ### What fits (R211, R220) -/

/-- F(N) in cycles, from DMXn_TIMING. -/
def dmxLength (timing n : Nat) : Nat :=
  usCycles (bits timing 0 10 + bits timing 16 8 + (n + 1) * (44 + bits timing 24 8))

/-- The largest N no greater than the slot count that fits after an offset, 0 for none. -/
def dmxFit (timing room offset slots : Nat) : Nat :=
  let head := usCycles (bits timing 0 10 + bits timing 16 8 + offset)
  min slots ((room - head) / usCycles (44 + bits timing 24 8) - 1)

/-- N and OFFSET in µs in force for a DMX port at a selecting crossing. -/
def Chip.dmxEff (c : Chip) (n : Nat) : Nat × Nat :=
  let t := c.lv (Reg.DMX_TIMING n)
  let room := c.frameRoom (bits (c.lv (Reg.DMX_CFG n)) 2 4)
  let slots := bits (c.lv (Reg.DMX_SLOTS n)) 0 10
  let off := bits (c.lv (Reg.DMX_OFFSET n)) 0 16
  let k := dmxFit t room off slots
  if k = 0 then (dmxFit t room 0 slots, 0) else (k, off)

/-- CELL_OCT, and the octets of a cell with its prefix. -/
def pixCell (cfg : Nat) : Nat × Nat := (bits cfg 16 4, bits cfg 16 4 + bits cfg 6 1)

/-- T of a pixel frame in cycles (R220). -/
def pixLength (cfg nrz clk len : Nat) : Nat :=
  if bit cfg 1 then
    8 * (bits clk 8 4 + len + len / (pixCell cfg).1 * bits cfg 6 1 + bits clk 16 8) * 2 * bits clk 0 8
  else len * 8000 + usCycles (bits nrz 0 10)

/-- LEN with the caps of R218 and R219. -/
def pixCap (cfg len : Nat) : Nat := if bit cfg 1 then min len (4096 * (pixCell cfg).1) else min len 2040

/-- The largest LEN that fits after an offset: whole cells in mode 1, 0 for none (DEDUCED for a length that fits, which
stays as it is, log entry 30). -/
def pixFit (cfg nrz clk room offset len : Nat) : Nat :=
  let left := room - usCycles offset
  if usCycles offset + pixLength cfg nrz clk len ≤ room then len
  else if bit cfg 1 then
    min (len / (pixCell cfg).1)
      ((left / (16 * bits clk 0 8) - bits clk 8 4 - bits clk 16 8) / (pixCell cfg).2) * (pixCell cfg).1
  else min len ((left - usCycles (bits nrz 0 10)) / 8000)

/-- LEN and OFFSET in µs in force for a pixel port at a selecting crossing. -/
def Chip.pixEff (c : Chip) (p : Nat) : Nat × Nat :=
  let cfg := c.lv (Reg.PIX_CFG p)
  let room := c.frameRoom (bits cfg 2 4)
  let len := pixCap cfg (bits (c.lv (Reg.PIX_LEN p)) 0 16)
  let off := bits (c.lv (Reg.PIX_OFFSET p)) 0 16
  let k := pixFit cfg (c.lv (Reg.PIX_NRZ p)) (c.lv (Reg.PIX_CLK p)) room off len
  if k = 0 then (pixFit cfg (c.lv (Reg.PIX_NRZ p)) (c.lv (Reg.PIX_CLK p)) room 0 len, 0) else (k, off)

/-! ### RDM messages (E1.20; PRESUMED, log entry 32) -/

/-- The UID of the part as a controller. -/
def rdmSource : Nat := Config.rdmUid.toNat

/-- Broadcast to every responder. -/
def rdmAll : Nat := 2 ^ 48 - 1

/-- A request with its start code and checksum. -/
def rdmMessage (port dest trans sub cls pid : Nat) (data : List Byte) : List Byte :=
  let m := [0xCC, 0x01, BitVec.ofNat 8 (24 + data.length)] ++ beBytes 6 dest ++ beBytes 6 rdmSource ++
    [BitVec.ofNat 8 trans, BitVec.ofNat 8 (port + 1), 0] ++ beBytes 2 sub ++ [BitVec.ofNat 8 cls] ++ beBytes 2 pid ++
    [BitVec.ofNat 8 data.length] ++ data
  m ++ beBytes 2 ((m.map BitVec.toNat).sum % 65536)

/-- The next message of a request, and whether a response is expected. -/
def Chip.rdmNext (c : Chip) (port trans : Nat) (r : RdmRequest) : List Byte × Bool :=
  let uid := CtxRec.uid (c.recAt 14 r.ctx)
  match r.job with
  | .request cls sub pid data => (rdmMessage port uid trans sub cls pid data, uid % 2 ^ 32 != 2 ^ 32 - 1)
  | .definition k => (rdmMessage port uid trans 0 0x20 0x0200 [BitVec.ofNat 8 k], true)
  | .value k => (rdmMessage port uid trans 0 0x20 0x0201 [BitVec.ofNat 8 k], true)
  | .discover true _ _ => (rdmMessage port rdmAll trans 0 0x10 0x0003 [], false)
  | .discover false (some u) _ => (rdmMessage port u trans 0 0x10 0x0002 [], true)
  | .discover false none todo =>
    let e := todo.headD (0, 0)
    (rdmMessage port rdmAll trans 0 0x10 0x0001 (beBytes 6 e.1 ++ beBytes 6 e.2), true)

/-- Whether a message with its checksum is whole. -/
def rdmWhole (m : List Byte) : Bool :=
  let n := m.length - 2
  26 ≤ m.length && m.take 2 == [0xCC, 0x01] && (m.getD 2 0).toNat == n &&
    ofBE (m.drop n) == ((m.take n).map BitVec.toNat).sum % 65536

/-- The UID that an answer to DISC_UNIQUE_BRANCH spells, if it is whole. -/
def rdmBranchUid (m : List Byte) : Option Nat :=
  let e := (m.dropWhile (· == 0xFE)).drop 1
  let o (i : Nat) : Byte := e.getD (2 * i) 0 &&& e.getD (2 * i + 1) 0
  let uid := (List.range 6).map o
  let sum := (((e.take 12).map BitVec.toNat).sum) % 65536
  if e.length = 16 && ofBE [o 6, o 7] == sum then some (ofBE uid) else none

/-! ### Selected crossings (R208, R211, R213) -/

/-- The reservation of a port's next RDM message in cycles (R212). -/
def Chip.rdmReserve (c : Chip) (port trans : Nat) (r : RdmRequest) : Nat :=
  usCycles (176 + 12 + 44 * (c.rdmNext port trans r).1.length + 14300)

/-- A port at the crossing that ends its hold (R226). -/
def Chip.resume (c : Chip) (port : LocalPort) (held : Bool) (csn : Nat) : Chip :=
  if held then c.portEvent port 3 (it8 csn) else c

/-- Whether a request has waited through the whole interval that ends, with RDM enabled, and its reservation did not fit the
interval's gap (R213). -/
def Chip.rdmStarves (c : Chip) (n : Nat) : Bool :=
  let x := c.dmxPort n
  match x.interval, x.queue with
  | some t, r :: _ => !x.served && decide (r.accepted ≤ t) &&
      decide (x.frame.period < x.frame.len + c.rdmReserve n x.trans r + guard)
  | _, _ => false

/-- START_LATE of a frame whose selected start was deferred, with the CSN of its crossing. -/
def Chip.startLate (c : Chip) (port : LocalPort) (x : PortStart) (late : Bool) : Chip :=
  if late then c.portEvent port 0 (it8 x.csn ++ it4 ((c.cycle - x.cycle) / 800)) else c

/-- Whether a selected start has fallen while the frame before it was on the pin, and that frame is there still as the next crossing
selects the port (R209). -/
def overtaken (cycle : Nat) (x : Option PortStart) : Bool := match x with | some s => decide (s.cycle ≤ cycle) | none => false

/-- START_LATE of a start that a later crossing's overtakes: the two make one frame (DESIGN CHOICE, log entry 30). -/
def Chip.lateBefore (c : Chip) (port : LocalPort) (x : Option PortStart) : Chip :=
  match x with
  | some s => c.startLate port s (overtaken c.cycle x)
  | none => c

/-- A DMX port at a crossing. One that is off forgets what it was to send; a frame on the pin still ends (R209). -/
def Chip.selectDmx (c : Chip) (csn : Nat) (sel : PulseSel) (n : Nat) : Chip :=
  let cfg := c.lv (Reg.DMX_CFG n)
  let x := c.dmxPort n
  if !bit cfg 0 then c.setDmx n { x with selected := none, held := false, interval := none, frame := { x.frame with period := 0 } }
  else if !pulseSelected (bits cfg 2 4) csn sel then c
  else
    let x := { x with late := x.late || overtaken c.cycle x.selected }
    let c := c.lateBefore (.dmx n) x.selected
    let e := c.dmxEff n
    let trunc := decide (e.1 < bits (c.lv (Reg.DMX_SLOTS n)) 0 10)
    let old := c.rd (Reg.DMX_EFF n)
    let eff := e.1 + trunc.toNat * 1024 + e.2 * 65536
    let c := c.wr (Reg.DMX_EFF n) eff
    let c := if old = eff then c else c.portEvent (.dmx n) 1 (it8 csn ++ it4 e.1 ++ it4 e.2)
    let c := c.resume (.dmx n) x.held csn
    let starved := if c.rdmStarves n then x.starved + 1 else 0
    let s := bits (c.lv (Reg.DMX_RDM n)) 0 8
    let at_ := c.cycle + usCycles e.2
    let x := { x with held := false, served := false, interval := if bit cfg 1 then some c.cycle else none }
    if bit cfg 1 && 0 < s && s ≤ starved then
      (c.inc (Reg.DMX_STEAL_CNT n)).setDmx n { x with
        selected := none, steal := true, starved := 0
        frame := { x.frame with start := at_, period := c.divPeriod (bits cfg 2 4) } }
    else c.setDmx n { x with selected := some ⟨at_, csn, c.drives⟩, steal := false, starved := starved }

/-- A pixel port at a crossing. -/
def Chip.selectPix (c : Chip) (csn : Nat) (sel : PulseSel) (p : Nat) : Chip :=
  let cfg := c.lv (Reg.PIX_CFG p)
  let x := c.pixPort p
  if !bit cfg 0 then c.setPix p { x with selected := none, held := false, frame := { x.frame with period := 0 } }
  else if !pulseSelected (bits cfg 2 4) csn sel then c
  else
    let x := { x with late := x.late || overtaken c.cycle x.selected }
    let c := c.lateBefore (.pix p) x.selected
    let e := c.pixEff p
    let trunc := decide (e.1 < pixCap cfg (bits (c.lv (Reg.PIX_LEN p)) 0 16))
    let eff := e.1 + trunc.toNat * 65536
    let changed := c.rd (Reg.PIX_EFF p) != eff || x.effOff != e.2
    let c := c.wr (Reg.PIX_EFF p) eff
    let c := if changed then c.portEvent (.pix p) 1 (it8 csn ++ it4 e.1 ++ it4 e.2) else c
    (c.resume (.pix p) x.held csn).setPix p { x with
      selected := some ⟨c.cycle + usCycles e.2, csn, c.drives⟩, held := false, effOff := e.2 }

/-- Every local port at a crossing, while PD_PORTS is on. -/
def Chip.selectPorts (c : Chip) (csn : Nat) (sel : PulseSel) : Chip :=
  if !c.domainOn 11 then c
  else
    let c := (List.range 16).foldl (fun c n => c.selectDmx csn sel n) c
    (List.range 32).foldl (fun c p => c.selectPix csn sel p) c

/-! ### Frames -/

/-- The octets of a DMX frame: the start code and the slots in force (R210). -/
def Chip.dmxOctets (c : Chip) (n : Nat) : List Byte :=
  0 :: (List.range (bits (c.rd (Reg.DMX_EFF n)) 0 10)).map fun i => octetAt c.dmxFront (n * 512 + i)

/-- The cells of a mode-1 frame, each behind its prefix. -/
def pixCells (cfg : Nat) (slots : List Byte) : Nat → List Byte
  | 0 => []
  | n + 1 => (if bit cfg 6 then [BitVec.ofNat 8 (bits cfg 24 8)] else []) ++ slots.take (pixCell cfg).1 ++
      pixCells cfg (slots.drop (pixCell cfg).1) n

/-- The octets of a pixel frame (R218, R219). -/
def Chip.pixOctets (c : Chip) (p : Nat) : List Byte :=
  let cfg := c.lv (Reg.PIX_CFG p)
  let clk := c.lv (Reg.PIX_CLK p)
  let len := bits (c.rd (Reg.PIX_EFF p)) 0 16
  let slots := (List.range len).map fun i => octetAt c.pixFront (p * 32768 + i)
  if bit cfg 1 then
    List.replicate (bits clk 8 4) 0 ++ pixCells cfg slots (len / (pixCell cfg).1) ++
      List.replicate (bits clk 16 8) (if bit clk 24 then 0xFF else 0)
  else slots

/-- When a selected start begins, and whether the frame before it defers it (R209). -/
def PortFrame.begins (f : PortFrame) (at_ : Nat) : Nat × Bool :=
  if at_ < f.ends then (f.ends + guard, true) else (at_, false)

/-- The form of a DMX frame's bits (R210). -/
def dmxForm (timing : Nat) : List Nat := [bits timing 0 10, bits timing 16 8, bits timing 24 8]

/-- The form of a pixel frame's bits (R218, R219). -/
def pixForm (cfg nrz clk : Nat) : List Nat :=
  if bit cfg 1 then [bits clk 0 8] else [bits cfg 7 1, bits nrz 16 8, bits nrz 24 8, bits nrz 0 10]

/-- A frame that leaves a DMX port, or its shadow on an isle that does not drive its pins (R322). -/
def Chip.sendDmx (c : Chip) (n : Nat) (f : PortFrame) : Chip :=
  if f.sent && c.drives then (c.toBall (.dmx n f.octets f.form)).incWrap (Reg.DMX_FRAME_CNT n) else c

/-- A frame that leaves a pixel port, or its shadow. -/
def Chip.sendPix (c : Chip) (p : Nat) (f : PortFrame) : Chip :=
  if f.sent && c.drives then (c.toBall (.pix p f.octets f.form)).incWrap (Reg.PIX_FRAME_CNT p) else c

/-- A DMX frame of a selected crossing. -/
def Chip.startDmx (c : Chip) (n : Nat) (s : PortStart) : Chip :=
  let x := c.dmxPort n
  let b := x.frame.begins s.cycle
  let c := c.runToCycle b.1
  let octets := c.dmxOctets n
  let timing := c.lv (Reg.DMX_TIMING n)
  let len := dmxLength timing (octets.length - 1)
  let f : PortFrame :=
    ⟨octets, dmxForm timing, c.cycle, len, c.cycle + len, c.divPeriod (bits (c.lv (Reg.DMX_CFG n)) 2 4), s.sent⟩
  ((c.setDmx n { x with frame := f, selected := none, late := b.2 }).sendDmx n f).startLate (.dmx n) s b.2

/-- A pixel frame of a selected crossing. -/
def Chip.startPix (c : Chip) (p : Nat) (s : PortStart) : Chip :=
  let x := c.pixPort p
  let cfg := c.lv (Reg.PIX_CFG p)
  let b := x.frame.begins s.cycle
  let c := c.runToCycle b.1
  let len := pixLength cfg (c.lv (Reg.PIX_NRZ p)) (c.lv (Reg.PIX_CLK p)) (bits (c.rd (Reg.PIX_EFF p)) 0 16)
  let f : PortFrame :=
    ⟨c.pixOctets p, pixForm cfg (c.lv (Reg.PIX_NRZ p)) (c.lv (Reg.PIX_CLK p)), c.cycle, len, c.cycle + len,
      c.divPeriod (bits cfg 2 4), s.sent⟩
  ((c.setPix p { x with frame := f, selected := none, late := b.2 }).sendPix p f).startLate (.pix p) s b.2

/-- The frame of a local port repeated in HOLD (R226), no earlier than a period after the last start. -/
def PortFrame.repeated (f : PortFrame) (cycle : Nat) : PortFrame :=
  let at_ := max cycle (f.start + f.period)
  { f with start := at_, ends := at_ + f.len }

/-! ### RDM readings -/

/-- A sensor value with its prefix as 8.8 °C, saturating (R142); rounded to the nearest, halves up (DESIGN CHOICE, log entry 19). -/
def sensorReading (pre : Nat) (v : Int) : Int :=
  let powers : List Int := [0, -1, -2, -3, -6, -9, -12, -15, -18, -21, -24]
  let p : Int := if pre < 16 then powers.getD pre 0 else -(powers.getD (pre - 16) 0)
  let k : Rat := ((10 ^ p.natAbs : Nat) : Rat)
  clampI (-32768) 32767 (roundHalfUp ((v : Rat) * 256 * (if p < 0 then 1 / k else k)))

/-! ### RDM results (R215, R216, R285) -/

/-- A record of an RDM transaction. -/
def Chip.rdmRecord (c : Chip) (port : Nat) (r : RdmRequest) (status : Nat) (msg : List Byte) : Chip :=
  c.produce 1 (leBytes 4 (r.ctx + port * 1024 + status * 65536) ++ leBytes 2 r.tag ++ leBytes 2 msg.length ++
    leBytes 8 c.csn ++ msg)

/-- A transaction on a context that failed (R215): the third in a row raises RDM_NO_RESPONSE once. -/
def Chip.rdmFailed (c : Chip) (port : Nat) (r : RdmRequest) (status : Nat) : Chip :=
  let n := natAt c.rdmFails r.ctx + 1
  let c := { c with rdmFails := setNat c.rdmFails r.ctx n }
  if n < 3 || c.rdmTold.contains r.ctx then c
  else (({ c with rdmTold := r.ctx :: c.rdmTold } : Chip).setEvt (Reg.DMX_EVT port) 16).raise (64 + port) 0x1205
    (it4 r.ctx ++ it4 port ++ it4 status)

/-- A valid response on a context. -/
def Chip.rdmAnswered (c : Chip) (r : RdmRequest) : Chip :=
  { c with rdmFails := setNat c.rdmFails r.ctx 0, rdmTold := c.rdmTold.filter (· != r.ctx) }

/-- Whether a DMX port holds DE high while it does not listen (R217, R322): an isle that drives its pins does, DMX15 only while
FPULSE_OUT does not have the ball. -/
def Chip.deRests (c : Chip) (n : Nat) : Bool := c.drives && !(n == 15 && bit (c.lv Reg.FPOUT_CFG) 0)

/-- DMXn_DE: low while the port listens for a response, and otherwise as it rests. -/
def Chip.deHigh (c : Chip) (n : Nat) : Bool := c.deRests n && (c.dmxPort n).active.isNone

/-- DE of the ports whose level differs from what it was, while PD_PORTS drives it. -/
def Chip.tellDe (c old : Chip) : Chip :=
  if !c.domainOn 11 then c
  else ((List.range 16).filter fun n => c.deHigh n != old.deHigh n).foldl (fun c n => c.toBall (.de n (c.deHigh n))) c

/-- The transaction of a port ended: it transmits again (R217). -/
def Chip.rdmIdle (c : Chip) (port : Nat) : Chip := (c.setDmx port { c.dmxPort port with active := none }).tellDe c

/-- Discovery carried on at the front of the queue, or ended when no range is left. -/
def Chip.rdmOn (c : Chip) (port : Nat) (r : RdmRequest) (mute : Option Nat) (todo : List (Nat × Nat)) : Chip :=
  if mute.isNone && todo.isEmpty then c
  else
    let x := c.dmxPort port
    c.setDmx port { x with queue := { r with job := .discover false mute todo, started := true } :: x.queue }

/-- A range of UIDs split after a collision. -/
def splitRange (e : Nat × Nat) : List (Nat × Nat) :=
  let m := (e.1 + e.2) / 2
  if e.1 = e.2 then [] else [(e.1, m), (m + 1, e.2)]

/-- The sensor of a context and number updated. -/
def Chip.mapSensor (c : Chip) (ctx k : Nat) (f : RdmSensor → RdmSensor) : Chip :=
  { c with sensors := c.sensors.map fun x => if x.ctx == ctx && x.sensor == k then f x else x }

/-- A SENSOR_DEFINITION response read (R142): type 0 is temperature, unit 1 degrees centigrade. -/
def Chip.sensorDefined (c : Chip) (ctx k : Nat) (pd : List Byte) : Chip :=
  let o (i : Nat) : Nat := (pd.getD i 0).toNat
  c.mapSensor ctx k fun x => { x with defined := true, isTemp := o 1 == 0 && o 2 == 1, pre := o 3 }

/-- A SENSOR_VALUE response delivered, or discarded (R142). One that comes while the sensor's definition has not been read is dropped with
no event (DESIGN CHOICE, log entry 19). -/
def Chip.sensorRead (c : Chip) (ctx k : Nat) (pd : List Byte) : Chip :=
  match c.sensors.find? fun x => x.ctx == ctx && x.sensor == k with
  | none => c
  | some x =>
    if !x.defined then c
    else if x.isTemp then
      c.mapSensor ctx k fun y => { y with
        reading := sensorReading x.pre (sext 16 (ofBE ((pd.drop 1).take 2))), count := y.count + 1 }
    else if c.sensorsTold.contains (ctx, k) then c
    else (({ c with sensorsTold := (ctx, k) :: c.sensorsTold } : Chip).setEvt Reg.MODEL_EVT 4).raise 27 0x0D04
      (it4 ctx ++ it4 k)

/-- An acknowledged response as its job takes it; an ACK_TIMER states its delay in tenths of a second (PRESUMED from E1.20, log
entry 32). -/
def Chip.rdmDeliver (c : Chip) (r : RdmRequest) (kind : Nat) (pd : List Byte) : Chip :=
  let later (k : Nat) : Chip :=
    c.mapSensor r.ctx k fun x => { x with ackAt := some (c.cycle + ofBE (pd.take 2) * usCycles 100000) }
  match r.job with
  | .definition k => if kind = 1 then later k else c.sensorDefined r.ctx k pd
  | .value k => if kind = 1 then later k else c.sensorRead r.ctx k pd
  | _ => c

/-- A transaction that times out (R212, R495), counted whatever it was (R228). -/
def Chip.rdmTimeout (c : Chip) (port : Nat) (r : RdmRequest) : Chip :=
  let c := (c.rdmIdle port).inc (Reg.DMX_RDM_ERR_CNT port)
  match r.job with
  | .discover _ (some _) todo => c.rdmOn port r none (splitRange (todo.headD (0, 0)) ++ todo.tail)
  | .discover _ none todo => c.rdmOn port r none todo.tail
  | _ => (c.rdmRecord port r 1 []).rdmFailed port r 1

/-- A response whose break A1 does not recognise (R495): a timeout, with its record and its count. The answer to a mute counts and is
recorded likewise, and the UID, which DISC_UNIQUE_BRANCH has found, is returned: discovery is unaffected (DEDUCED, log entry 32). -/
def Chip.shortBreak (c : Chip) (port : Nat) (r : RdmRequest) : Chip :=
  match r.job with
  | .discover _ (some u) todo =>
    let c := ((c.rdmIdle port).inc (Reg.DMX_RDM_ERR_CNT port)).rdmRecord port r 1 []
    ((c.rdmFailed port r 1).rdmRecord port r 5 (beBytes 6 u)).rdmOn port r none todo
  | _ => c.rdmTimeout port r

/-- A response with a break, as its request takes it. -/
def Chip.rdmResponse (c : Chip) (port : Nat) (r : RdmRequest) (m : List Byte) : Chip :=
  let c := c.rdmIdle port
  match r.job with
  | .discover _ (some u) todo =>
    if rdmWhole m then (c.rdmRecord port r 5 (beBytes 6 u)).rdmOn port r none todo
    else (c.inc (Reg.DMX_RDM_ERR_CNT port)).rdmOn port r none (splitRange (todo.headD (0, 0)) ++ todo.tail)
  | .discover _ none todo => c.rdmOn port r none todo
  | _ =>
    if !rdmWhole m then (c.inc (Reg.DMX_RDM_ERR_CNT port)).rdmRecord port r 3 m
    else if (m.getD 16 0).toNat = 2 then
      ((c.inc (Reg.DMX_RDM_ERR_CNT port)).rdmRecord port r 2 m).rdmFailed port r 2
    else ((c.rdmAnswered r).rdmDeliver r (m.getD 16 0).toNat ((m.drop 24).take (m.getD 23 0).toNat)).rdmRecord port r 0 m

/-- An answer to DISC_UNIQUE_BRANCH: a UID to mute, or a collision, which fails its checksum (DEDUCED, log entry 32). -/
def Chip.rdmBranch (c : Chip) (port : Nat) (r : RdmRequest) (todo : List (Nat × Nat)) (m : List Byte) : Chip :=
  let c := c.rdmIdle port
  match rdmBranchUid m with
  | some u => c.rdmOn port r (some u) todo
  | none => (c.inc (Reg.DMX_RDM_ERR_CNT port)).rdmOn port r none (splitRange (todo.headD (0, 0)) ++ todo.tail)

/-- A request queued on a port. -/
def Chip.rdmQueue (c : Chip) (port : Nat) (r : RdmRequest) : Chip :=
  let x := c.dmxPort port
  c.setDmx port { x with queue := x.queue ++ [r] }

/-- The cycle of the next frame's start on a DMX port, as far as it is fixed (R212). -/
def Chip.nextDmx (c : Chip) (n : Nat) : Nat :=
  let x := c.dmxPort n
  let div := bits (c.lv (Reg.DMX_CFG n)) 2 4
  match x.selected with
  | some t => t.cycle
  | none =>
    if c.fg.mode = .running && !x.held then
      match c.fg.nextIdx with
      | some i => c.cycle + c.bound.cyclesTo (c.fg.instant (ceilDiv i div * div)) +
          usCycles (bits (c.rd (Reg.DMX_EFF n)) 16 16)
      | none => c.cycle + c.bound.cyclesTo c.fg.next + usCycles (bits (c.rd (Reg.DMX_EFF n)) 16 16)
    else x.frame.start + x.frame.period

/-- The first request of a port sent, if its reservation fits the gap (R212); DE falls as the port comes to listen. -/
def Chip.rdmStart (c : Chip) (port : Nat) (r : RdmRequest) (rest : List RdmRequest) : Chip :=
  let x := c.dmxPort port
  let trans := (x.trans + 1) % 256
  let m := c.rdmNext port trans r
  let wire := usCycles (176 + 12 + 44 * m.1.length)
  let at_ := max c.cycle (max x.frame.ends x.busyEnd)
  if c.nextDmx port < at_ + c.rdmReserve port trans r + guard then c
  else
    let c := (c.runToCycle at_).toBall (.rdm port m.1)
    let c := (c.setDmx port { x with
      queue := rest, active := if m.2 then some r else none
      busyEnd := at_ + wire, trans := trans, starved := 0, served := true }).tellDe c
    if m.2 then c
    else match r.job with
      | .discover _ _ todo => c.rdmOn port r none todo
      | _ => c.rdmRecord port r 0 []

/-- The sensors that live fixtures name for a context (R122, R215). -/
def Chip.sensorsNamed (c : Chip) (ctx : Nat) : List Nat :=
  ((c.fixtures.filter fun e => FixRec.tempSrc e.2 == 1 && bits (FixRec.tempRef e.2) 0 10 == ctx).map fun e =>
    bits (FixRec.tempRef e.2) 10 8).eraseDups

/-- The sensors no longer named forgotten, and the newly named ones listed, at a fixture commit (R215). -/
def Chip.listSensors (c : Chip) : Chip :=
  let named := ((c.fixtures.filter fun e => FixRec.tempSrc e.2 == 1).map fun e =>
    (bits (FixRec.tempRef e.2) 0 10, bits (FixRec.tempRef e.2) 10 8)).eraseDups
  let kept := c.sensors.filter fun x => named.contains (x.ctx, x.sensor)
  let new := named.filter fun k => !kept.any fun x => x.ctx == k.1 && x.sensor == k.2
  { c with sensors := kept ++ new.map fun k => ⟨k.1, k.2, false, false, 0, 0, 0, none⟩ }

/-- The requests of a poll of one sensor: its definition once, then its value. -/
def Chip.pollSensor (c : Chip) (ctx : Nat) (k : Nat) : Chip :=
  let port := CtxRec.port (c.recAt 14 ctx)
  let q (j : RdmJob) : RdmRequest := ⟨ctx, 0, false, j, c.cycle, false⟩
  let known := (c.sensors.find? fun x => x.ctx == ctx && x.sensor == k).any RdmSensor.defined
  let c := if known then c else c.rdmQueue port (q (.definition k))
  c.rdmQueue port (q (.value k))

/-- A host request removed from its queue with NOT_SENT (R216, R312). -/
def Chip.rdmDrop (c : Chip) (port : Nat) (r : RdmRequest) : Chip :=
  let x := c.dmxPort port
  (c.setDmx port { x with queue := x.queue.erase r }).rdmRecord port r 4 []

/-- A host's request of a tag and context that waits on a port and has not started, with the port: the one that it was queued on, which
the context may have left since. -/
def Chip.rdmWaiting (c : Chip) (ctx tag : Nat) : Option (Nat × RdmRequest) :=
  (List.range 16).findSome? fun n =>
    ((c.dmxPort n).queue.find? fun r => r.host && !r.started && r.ctx == ctx && r.tag == tag).map fun r => (n, r)

/-! ### Meanings of the ports -/

/-- PORT_RDM_REQUEST (R216, R312). -/
def execPortRdmRequest (h : CmdHdr) (p : Nat) (s : State) : Host.Outcome State Fault Refusal :=
  firmware 0x0610 false h p (fun p d c =>
    let ctx := pl p 0 0 10
    let n := min 231 (pl p 0 24 8)
    let data := if n ≤ 24 then recBytes p 0x10 n else c.fetch d (pl p 8 0 64) n
    let r : RdmRequest := ⟨ctx, h.tag, true, .request (pl p 0 16 8) (pl p 4 16 16) (pl p 4 0 16) data, c.cycle, false⟩
    let c := if n ≤ 24 then c else c.noteRead 0 8 (pl p 8 0 64) n
    (c.rdmQueue (CtxRec.port (c.recAt 14 ctx)) r).complete h 0x0610 0 []) s

/-- PORT_RDM_DISCOVER (R216, R312). -/
def execPortRdmDiscover (h : CmdHdr) (p : Nat) (s : State) : Host.Outcome State Fault Refusal :=
  firmware 0x0611 false h p (fun p _ c =>
    let ctx := pl p 0 0 10
    let r : RdmRequest := ⟨ctx, h.tag, true, .discover (bit p 10) none [(0, rdmAll - 1)], c.cycle, false⟩
    (c.rdmQueue (CtxRec.port (c.recAt 14 ctx)) r).complete h 0x0611 0 []) s

/-- PORT_RDM_ABORT (R312). -/
def execPortRdmAbort (h : CmdHdr) (p : Nat) (s : State) : Host.Outcome State Fault Refusal :=
  firmware 0x0612 false h p (fun p _ c =>
    let ctx := pl p 0 16 10
    match c.rdmWaiting ctx (pl p 0 0 16) with
    | none => c.decline h 0x0612 missed
    | some e => (c.rdmDrop e.1 e.2).complete h 0x0612 0 []) s

/-- LP_FRAME_START (R208 to R211, R218 to R220, R226). -/
def execLpFrameStart (port : LocalPort) (s : State) : Host.Outcome State Fault Refusal :=
  within (portWf port) (onChip (fun _ c =>
    if !c.domainOn 11 then c
    else match port with
    | .dmx n => match (c.dmxPort n).selected with | some t => c.startDmx n t | none => c
    | .pix p => match (c.pixPort p).selected with | some t => c.startPix p t | none => c) s)

/-- Whether a port enters HOLD: it has sent a frame, and no selected crossing has come (R226). -/
def mayHold (f : PortFrame) (held : Bool) (selected : Option PortStart) : Bool := 0 < f.period && !held && selected.isNone

/-- LP_HOLD (R226). -/
def execLpHold (port : LocalPort) (s : State) : Host.Outcome State Fault Refusal :=
  within (portWf port) (onChip (fun _ c =>
    if !c.domainOn 11 then c
    else match port with
    | .dmx n =>
      let x := c.dmxPort n
      if mayHold x.frame x.held x.selected then
        ((c.runToCycle (x.frame.start + x.frame.period + 800000)).setDmx n { x with held := true }).portEvent port 2
          (it8 c.csn)
      else c
    | .pix p =>
      let x := c.pixPort p
      if mayHold x.frame x.held x.selected then
        ((c.runToCycle (x.frame.start + x.frame.period + 800000)).setPix p { x with held := true }).portEvent port 2
          (it8 c.csn)
      else c) s)

/-- LP_HOLD_REPEAT (R226). -/
def execLpHoldRepeat (port : LocalPort) (s : State) : Host.Outcome State Fault Refusal :=
  within (portWf port) (onChip (fun _ c =>
    if !c.domainOn 11 then c
    else match port with
    | .dmx n =>
      let x := c.dmxPort n
      if x.held && x.selected.isNone then
        let f := x.frame.repeated c.cycle
        ((c.runToCycle f.start).setDmx n { x with frame := f }).sendDmx n f
      else c
    | .pix p =>
      let x := c.pixPort p
      if x.held && x.selected.isNone then
        let f := x.frame.repeated c.cycle
        ((c.runToCycle f.start).setPix p { x with frame := f }).sendPix p f
      else c) s)

/-- RDM_REQUEST_START (R212, R216): a host's request that is 1 s old is not started. -/
def execRdmRequestStart (port : Nat) (s : State) : Host.Outcome State Fault Refusal :=
  within (port < 16) (onChip (fun _ c =>
    let x := c.dmxPort port
    let cfg := c.lv (Reg.DMX_CFG port)
    match x.queue with
    | [] => c
    | r :: rest =>
      if r.host && !r.started && decide (r.accepted + 800000000 ≤ max c.cycle (max x.frame.ends x.busyEnd)) then c.rdmDrop port r
      else if c.drives && bit cfg 0 && bit cfg 1 && x.active.isNone then c.rdmStart port r rest else c) s)

/-- When a response that has just ended began: its octets and its break before (PRESUMED from E1.20, log entry 32). -/
def Chip.responseBegan (c : Chip) (breakUs n : Nat) : Nat := c.cycle - usCycles (breakUs + 12 + 44 * n)

/-- tRDMW in cycles. -/
def rdmWait : Nat := 2240000

/-- RDM_RESPONSE_RECEIVE (R212, R215, R216, R495): `breakUs` is the response's break. One that began after tRDMW is a timeout. -/
def execRdmResponseReceive (port breakUs : Nat) (octets : List Byte) (s : State) : Host.Outcome State Fault Refusal :=
  within (port < 16 && octets.length ≤ 257) (onChip (fun _ c =>
    match (c.dmxPort port).active with
    | none => c
    | some r =>
      let by_ := (c.dmxPort port).busyEnd + rdmWait
      let c := c.runToCycle (c.dmxPort port).busyEnd
      if by_ < c.responseBegan breakUs octets.length then c.rdmTimeout port r
      else match r.job with
      | .discover _ none todo => c.rdmBranch port r todo octets
      | _ => if breakUs < 96 then (c.runToCycle by_).shortBreak port r else c.rdmResponse port r octets) s)

/-- RDM_RESPONSE_TIMEOUT (R212, R215). -/
def execRdmResponseTimeout (port : Nat) (s : State) : Host.Outcome State Fault Refusal :=
  within (port < 16) (onChip (fun _ c =>
    match (c.dmxPort port).active with
    | none => c
    | some r => (c.runToCycle ((c.dmxPort port).busyEnd + rdmWait)).rdmTimeout port r) s)

/-- When a context is next polled: POLL_S seconds after its last poll, at once where it has had none (R215). -/
def Chip.pollDue (c : Chip) (ctx : Nat) : Nat :=
  match natAt c.rdmPolled ctx with
  | 0 => c.cycle
  | t + 1 => t + CtxRec.pollS (c.recAt 14 ctx) * 800000000

/-- RDM_SENSOR_POLL (R215). -/
def execRdmSensorPoll (ctx : Nat) (s : State) : Host.Outcome State Fault Refusal :=
  within (ctx < 1024) (onChip (fun _ c =>
    if CtxRec.en (c.recAt 14 ctx) && c.domainOn 11 then
      let c := c.runToCycle (c.pollDue ctx)
      let c := { c with rdmPolled := setNat c.rdmPolled ctx (c.cycle + 1) }
      (c.sensorsNamed ctx).foldl (fun c k => c.pollSensor ctx k) c
    else c) s)

/-- The GETs of a context that an ACK_TIMER has put off: the sensor and the cycle of its repeat. -/
def Chip.putOff (c : Chip) (ctx : Nat) : List (Nat × Nat) :=
  (c.sensors.filter fun x => x.ctx == ctx).filterMap fun x => x.ackAt.map fun t => (x.sensor, t)

/-- RDM_ACK_TIMER_EXPIRE (R215): the GETs whose delay has passed repeated, the clock run to the first of them. -/
def execRdmAckTimerExpire (ctx : Nat) (s : State) : Host.Outcome State Fault Refusal :=
  within (ctx < 1024) (onChip (fun _ c =>
    match (c.putOff ctx).map (·.2) with
    | [] => c
    | t :: l =>
      let c := c.runToCycle (l.foldl min t)
      ((c.putOff ctx).filter fun e => e.2 ≤ c.cycle).foldl (fun c e =>
        (c.mapSensor ctx e.1 fun x => { x with ackAt := none }).pollSensor ctx e.1) c) s)

/-- RDM_REQUEST_EXPIRE (R216): 1 s after its acceptance. -/
def execRdmRequestExpire (ctx tag : Nat) (s : State) : Host.Outcome State Fault Refusal :=
  within (ctx < 1024) (onChip (fun _ c =>
    match c.rdmWaiting ctx tag with
    | none => c
    | some e => (c.runToCycle (e.2.accepted + 800000000)).rdmDrop e.1 e.2) s)

/-! ### House channels (R221 to R225) -/

/-- A new LEVEL taken at a crossing (R222). -/
def Chip.houseLevel (c : Chip) (n : Nat) : Chip :=
  let x := c.hc n
  let level := bits (c.lv (Reg.HC_LEVEL n)) 0 16
  if x.target = level then c
  else c.setHc n { x with target := level, fadeLeft := bits (c.lv (Reg.HC_FADE n)) 0 22 * 25 }

/-- V after one PWM period. -/
def House.step (x : House) : House :=
  if x.fadeLeft = 0 then { x with level := x.target }
  else { x with level := x.level + ((x.target : Rat) - x.level) / x.fadeLeft, fadeLeft := x.fadeLeft - 1 }

/-- The curve of a house channel (R222). -/
def houseCurve (k : Nat) (x : Rat) : Rat :=
  match k with
  | 0 => x
  | 1 => x * x
  | _ => rpow x (11 / 5)

/-- The channels of a channel's colour group; itself alone outside any group. -/
def Chip.houseGroup (c : Chip) (n : Nat) : List Nat :=
  let cfg := c.lv (Reg.HC_CFG n)
  if !bit cfg 8 then [n]
  else (List.range 16).filter fun m =>
    bit (c.lv (Reg.HC_CFG m)) 8 && bits (c.lv (Reg.HC_CFG m)) 4 4 == bits cfg 4 4

/-- The ceiling of a channel (R223); 1 without DERATE_EN. -/
def Chip.houseCeiling (c : Chip) (n : Nat) : Rat :=
  let v := c.lv (Reg.HC_DERATE n)
  let t : Rat := ((c.hc n).temp : Rat) / 256
  let knee : Rat := (sext 16 (bits v 0 16) : Rat) / 256
  if !bit (c.lv (Reg.HC_CFG n)) 9 || t ≤ knee then 1
  else max ((bits (c.lv (Reg.HC_FLOOR_TC n)) 0 16 : Rat) / 65536) (1 - (bits v 16 16 : Rat) / 65536 * (t - knee))

/-- The divisor of TCOMP_EN at the temperature of a group (R223). -/
def Chip.houseComp (c : Chip) (n : Nat) (tGroup : Int) : Rat :=
  if bit (c.lv (Reg.HC_CFG n)) 10 then
    1 + (sext 16 (bits (c.lv (Reg.HC_FLOOR_TC n)) 16 16) : Rat) / 65536 * ((tGroup : Rat) / 256 - 25)
  else 1

/-- d of a channel before its ceiling. A divisor that is not positive leaves d open: the free value given (log entry 31). -/
def Chip.houseDrive (c : Chip) (tGroup : Int) (open_ : Rat) (n : Nat) : Rat :=
  let d := houseCurve (bits (c.lv (Reg.HC_CFG n)) 1 2) ((c.hc n).level / 65535)
  let k := c.houseComp n tGroup
  if k ≤ 0 then open_ else d / k

/-- d of a channel after derating and compensation, and whether it is derated (R223). -/
def Chip.houseOut (c : Chip) (n : Nat) : Rat × Bool :=
  let g := c.houseGroup n
  let tg := (g.map fun m => (c.hc m).temp).foldl max ((c.hc n).temp)
  let open_ : Rat := (c.free % 65536 : Nat) / 65535
  let high := (g.map fun m => (c.houseDrive tg open_ m, c.houseCeiling m)).filter fun x => x.2 < x.1
  let s := (high.map fun x => x.2 / x.1).foldl min 1
  (c.houseDrive tg open_ n * s, decide (s < 1))

/-- The voltage in µV of a threshold code of a channel (R485). -/
def Chip.houseVolts (c : Chip) (n code : Nat) : Rat :=
  (code : Rat) * 1171875 / 1000 * (1 + ((bits (c.lv (Reg.HC_TRIM n)) 0 10 : Rat) - 512) / 8192)

/-- Whether a run of `k` true samples stands in a list. -/
def hasRun (k : Nat) (l : List Bool) : Bool :=
  k ≤ (l.foldl (fun (s : Nat × Nat) b => let n := if b then s.1 + 1 else 0; (n, max s.2 n)) (0, 0)).2

/-- A verdict changed: HC_DIAG and its record (R224). -/
def Chip.houseVerdict (c : Chip) (n v : Nat) : Chip :=
  let x := c.hc n
  if x.verdict = v then c
  else
    let c := (c.setHc n { x with verdict := v }).produce 3
      (leBytes 4 (n + v * 16) ++ leBytes 4 x.duty ++ leBytes 8 c.csn)
    (c.setEvt (Reg.HC_EVT n) 1).raise (112 + n) 0x1206 (it4 n ++ it4 v ++ it8 c.csn)

/-- An evaluated pulse of `on` cycles (R224). `sense` holds HCn_SENSE in µV every 0.1 µs from 1 µs after the gate edge;
samples not given are 0. -/
def Chip.evaluatePulse (c : Chip) (n on : Nat) (sense : List Nat) : Chip :=
  let thr := c.lv (Reg.HC_DIAG_THR n)
  let l := (List.range ((on - 800) / 80)).map fun i => (sense.getD i 0 : Rat)
  let isOpen := l.all fun v => decide (v < c.houseVolts n (bits thr 0 10))
  let isShort := hasRun 5 (l.map fun v => decide (c.houseVolts n (bits thr 16 10) < v))
  let x := c.hc n
  let x := { x with
    openRun := if isOpen then x.openRun + 1 else 0
    shortRun := if isShort then x.shortRun + 1 else 0
    okRun := if isOpen || isShort then 0 else x.okRun + 1
    evaluated := true, unevaluated := 0 }
  let c := c.setHc n x
  if 2 ≤ x.shortRun then c.houseVerdict n 2
  else if 4 ≤ x.openRun then c.houseVerdict n 1
  else if 4 ≤ x.okRun then c.houseVerdict n 0
  else c

/-- The house channels at a crossing: the frames without an evaluated pulse, and the diagnostic pulse (R225, R386). -/
def Chip.houseFrame (c : Chip) (csn n : Nat) : Chip :=
  let x := c.hc n
  let cfg := c.lv (Reg.HC_CFG n)
  let x := if x.calHold then x
    else { x with unevaluated := if bit cfg 11 && x.diag && !x.evaluated then x.unevaluated + 1 else 0, evaluated := false }
  c.setHc n { x with diag := bit cfg 11, pulseDue := x.pulseDue || (bit cfg 12 && csn % 64 == n) }

/-- HC_PWM_PERIOD (R221, R222, R224, R230): the fade stepped, the duty formed, the pulse dithered and driven with the gate's
polarity. At D 3,275 and 3,276 the dither lengthens some periods to 2 µs; as R225 has it, they are not evaluated (DEDUCED, log
entry 31). -/
def execHcPwmPeriod (n : Nat) (sense : List Nat) (s : State) : Host.Outcome State Fault Refusal :=
  within (n < 16) (onChip (fun _ c =>
    if !c.domainOn 11 then c
    else
      let c := match (c.hc n).pwmAt with | some t => c.runToCycle (t + 32000) | none => c
      let c := c.setHc n (c.hc n).step
      let cfg := c.lv (Reg.HC_CFG n)
      let o := c.houseOut n
      let c := c.drew
      let duty := if bit cfg 0 then (clampI 0 65535 (roundHalfUp (o.1 * 65535))).toNat else 0
      let x := c.hc n
      let acc := x.remainder + duty * 32000 % 65535
      let least := duty * 32000 / 65535
      let on := least + acc / 65535
      let on := if x.pulseDue then max 1600 on else on
      let drives := c.drives && bit cfg 0
      let on := if drives then on else 0
      let c := (c.toBall (.gate n on (bit cfg 13))).setHc n { x with
        duty := duty, remainder := acc % 65535, derated := o.2, pulseDue := false, pwmAt := some c.cycle }
      if bit cfg 11 && drives && (x.pulseDue || decide (1600 ≤ least)) && !x.calHold then c.evaluatePulse n on sense else c) s)

/-- HC_DIAG_STARVED (R225). -/
def execHcDiagStarved (n : Nat) (s : State) : Host.Outcome State Fault Refusal :=
  within (n < 16) (onChip (fun _ c =>
    if c.domainOn 11 && bit (c.lv (Reg.HC_CFG n)) 11 && 64 ≤ (c.hc n).unevaluated && !(c.hc n).calHold then c.houseVerdict n 3
    else c) s)

/-- The temperature in 8.8 °C that an NTC code shows, if it lies within −40 °C to 150 °C (R223, R485). -/
def ntcTemp (beta ratio code : Nat) : Option Int :=
  if code = 0 || 4096 ≤ code || ratio = 0 then none
  else
    let r : Rat := (ratio : Rat) / 4096 * code / (4096 - code : Nat)
    let inv : Rat := 100 / 29815 + ln r / beta
    if inv ≤ 0 then none
    else
      let t : Rat := 1 / inv - 27315 / 100
      if -40 ≤ t && t ≤ 150 then some (roundHalfUp (t * 256)) else none

/-- HC_NTC_REFRESH (R223): `code` is the 12-bit reading of HCn_NTC against HC_VREF. -/
def execHcNtcRefresh (n code : Nat) (s : State) : Host.Outcome State Fault Refusal :=
  within (n < 16) (onChip (fun _ c =>
    let v := c.lv (Reg.HC_NTC n)
    let x := c.hc n
    if !c.domainOn 11 then c
    else match ntcTemp (bits v 0 16) (bits v 16 16) code with
    | some t => c.setHc n { x with temp := t, ntcFault := false }
    | none =>
      if x.ntcFault then c
      else ((c.setHc n { x with ntcFault := true }).setEvt (Reg.HC_EVT n) 2).raise (112 + n) 0x1207 (it4 n ++ itI4 (clampI (-32768) 32767 x.temp))) s)

end Sys2Proof.Machine
end

