-- ==== Sys2Proof/Machine/Arbiter.lean ====
section
/-! DEFINITION. The maintenance arbiter (R458): requests, what an activity does as it starts (R370, R381, R388, R397, R344),
and the meanings of PATROL_BURST, MAINT_ACTIVITY_START and METER_JOURNAL_FLUSH. -/

namespace Sys2Proof.Machine

open Sys2Proof

/-- The work of the running activity ended with its report. -/
def Chip.finish (c : Chip) (status detail result : Nat) : Chip :=
  { c with arbiter := { c.arbiter with running := c.arbiter.running.map fun a =>
      { a with status := status, detail := detail, result := result, finished := true } } }

/-! ### The totals journal (R370, R420) -/

/-- The octets of a journal record below its CRC-32C (R420): the header, 224 entries of TOTAL, WRAP_CNT and the internal fraction, and
eight of residue and backlog. That WRAP_CNT and the fraction have a word each is a DESIGN CHOICE (log entry 36). -/
def Journal.octets (j : Journal) : List Byte :=
  let e (i : Nat) : Nat × Nat := ((j.entries.find? fun x => x.1 == i).map (·.2)).getD (0, 0)
  padTo 0x40 (leBytes 4 0x524A4B58 ++ leBytes 4 j.cause ++ leBytes 8 j.seq ++ leBytes 8 j.csn ++
    leBytes 4 (j.instant % 1000000000) ++ leBytes 6 (j.instant / 1000000000)) ++
  ((List.range 224).map fun i => leBytes 8 ((e i).1 / 2 ^ 24) ++ leBytes 4 ((e i).2 % 2 ^ 24) ++ leBytes 4 ((e i).1 % 2 ^ 24)).flatten ++
  ((List.range 8).map fun n => leBytes 8 (j.pulses.getD n (0, 0)).1 ++ leBytes 8 (j.pulses.getD n (0, 0)).2).flatten ++
  List.replicate 0x13C 0

/-- Whether a record's CRC-32C holds. -/
def Journal.ok (j : Journal) : Bool := j.crc == crc32c j.octets

/-- The journal record of the present totals. -/
def Chip.journalNow (c : Chip) (cause : Nat) : Journal :=
  let j : Journal :=
    { cause := cause
      seq := ((c.warning.journals.map Journal.seq).foldl max 0) + 1
      csn := c.csn, instant := c.now
      entries := c.energy.map fun e => (e.1, e.2.acc, e.2.wraps)
      pulses := (List.range 8).map fun n => ((c.pulse n).residue, (c.pulse n).backlog)
      crc := 0 }
  { j with crc := crc32c j.octets }

/-- A journal write begun: flash work in progress is suspended for one that an early warning caused. -/
def Chip.beginJournal (c : Chip) (cause : Nat) : Chip :=
  if c.warning.writing.isSome then c
  else
    let c := { c with warning := { c.warning with writing := some (c.journalNow cause), began := c.cycle } }
    if cause = 0 then { c with arbiter := { c.arbiter with suspended := true } } else c

/-! ### Calibration runs (R381, R386, R387) -/

/-- Units of an item (R379). -/
def calUnits : CalItem → Nat
  | .houseTrim => 16
  | .dieSensor => 8
  | .showLane => 4
  | .straitLane => 3

/-- The bit of an item in the masks of R381. -/
def calBit : CalItem → Nat
  | .houseTrim => 1
  | .dieSensor => 2
  | .showLane => 4
  | .straitLane => 8

/-- The items that CAL_RUN names, in their order. -/
def calItems (mask : Nat) : List CalItem :=
  [CalItem.houseTrim, .dieSensor, .showLane, .straitLane].filter fun i => (mask &&& calBit i) != 0

/-- Whether a unit is skipped for its domain, or for HALF_RATE on the Strait link (R381, R387). -/
def Chip.calSkips (c : Chip) (i : CalItem) (unit : Nat) : Bool :=
  match i with
  | .houseTrim => !c.domainOn 11
  | .dieSensor => false
  | .showLane => !c.domainOn (portDomain unit)
  | .straitLane => !c.domainOn 10 || c.pair.halfRate

/-- An item noted among the skipped. -/
def Calib.skip (k : Calib) (i : CalItem) : Calib := { k with skipped := i :: k.skipped.filter (· != i) }

/-- The next unit of the run that is not skipped, from unit `k.unit` of its first item; `fuel` bounds the units. -/
def Chip.calSeek : Nat → Chip → Chip
  | 0, c => c
  | fuel + 1, c =>
    let k := c.calib
    match k.items with
    | [] => c
    | i :: rest =>
      if calUnits i ≤ k.unit then Chip.calSeek fuel { c with calib := { k with items := rest, unit := 0 } }
      else if c.calSkips i k.unit then Chip.calSeek fuel { c with calib := { k.skip i with unit := k.unit + 1 } }
      else c

/-- The house channel whose trim is being calibrated has its comparators switched away (R386). -/
def Chip.calHolds (c : Chip) : Chip :=
  let busy := match c.calib.items with | .houseTrim :: _ => some c.calib.unit | _ => none
  (List.range 16).foldl (fun c n =>
    let h := busy == some n
    if (c.hc n).calHold == h then c else c.setHc n { c.hc n with calHold := h }) c

/-- A mask of items as CAL_RUN numbers them. -/
def calMask (l : List CalItem) : Nat := (l.eraseDups.map calBit).sum

/-- A run with no item left to do ended: the readings become the references, and the report is made up (R381 to R383). -/
def Chip.calEnd (c : Chip) : Chip :=
  let k := c.calib
  ({ c with calib := { k with refs := k.temps.map some } } : Chip).finish (if k.timedOut.isEmpty then 0 else 7) 0
    (calMask k.timedOut + calMask k.skipped * 16)

/-- The run taken on to its next unit, or ended. -/
def Chip.calNext (c : Chip) : Chip :=
  let c := (Chip.calSeek 40 c).calHolds
  if c.calib.items.isEmpty then c.calEnd else c

/-- A calibration run begun over the items of a mask. -/
def Chip.calStart (c : Chip) (mask : Nat) : Chip :=
  ({ c with calib := { c.calib with
      items := calItems mask, unit := 0, timedOut := [], skipped := [], straitDone := [], straitLast := [] } }).calNext

/-- The span of CAL_METER_REF begun, with the cycle by which it must have ended: 2 × N nominal cycles plus 1 s from now (R388). -/
def Chip.spanStart (c : Chip) (args : List Nat) : Chip :=
  let x := c.feed (args.getD 0 0)
  let need := args.getD 4 0
  { c with calib := { c.calib with
      span := some ⟨args.getD 0 0, args.getD 1 0, 0, 0, 0, 0, 0, x.freqOk, need, 0,
        c.cycle + ceilDiv (2 * need * 100 * 800000000) (max 1 x.nominal) + 800000000⟩ } }

/-! ### The patrol (R397) -/

/-- Bursts of 64 KiB in a memory. -/
def Chip.patrolBursts (c : Chip) (m : Nat) : Nat := if m = 0 then c.usable / 65536 else 1024

/-- A burst read and the position moved on. -/
def Chip.patrol (c : Chip) (m : Nat) : Chip :=
  if c.patrolBursts m = 0 || !c.domainOn (if m = 0 then 4 else 3) then c
  else
    let pos := c.rd (Reg.ECC_SCRUB_POS m)
    let c := c.noteRead m 7 (pos * 65536) 65536
    if pos + 1 < c.patrolBursts m then c.wr (Reg.ECC_SCRUB_POS m) (pos + 1)
    else (c.wr (Reg.ECC_SCRUB_POS m) 0).incWrap (Reg.ECC_SCRUB_PASSES m)

/-! ### The arbiter -/

/-- The header of a type's inactive slot erased (R407). -/
def Chip.eraseInactive (c : Chip) (t : Nat) : Chip := c.setType t ((c.imageType t).setInactive .erased)

/-- What an activity does as it starts. -/
def Chip.startActivity (c : Chip) (a : Activity) : Chip :=
  let c := { c with arbiter := { c.arbiter with running := some a } }
  match a.prec with
  | 1 => if a.opcode = 0x0704 then c.beginJournal 1 else c
  | 3 => ({ c with pair := { c.pair with resync := true, bulkSent := false } } : Chip).sendLink .bulkStart
  | 4 => c.spanStart a.args
  | 5 => c.calStart (a.args.getD 0 0)
  | 6 => if a.opcode = 0x0901 && a.args.getD 4 0 = 0 then c.eraseInactive (a.args.getD 0 0) else c
  | 7 => { c.patrol (a.args.getD 0 0) with arbiter := { c.arbiter with running := none } }
  | _ => c

/-- The package of an UPD_STAGE that has just started read from LPDDR5X (R407), where UPD_STAGE is not denied for its size. -/
def Chip.readPackage (c : Chip) (d : List Host.Cell) : Chip :=
  match c.arbiter.running with
  | some a =>
    if a.opcode = 0x0901 && a.args.getD 4 0 = 0 then
      let k := c.fetch d (a.args.getD 2 0) (a.args.getD 3 0)
      let c := c.noteRead 0 8 (a.args.getD 2 0) (a.args.getD 3 0)
      { c with update := { c.update with package := k } }
    else c
  | none => c

/-- Whether no activity runs or waits. -/
def Chip.arbiterFree (c : Chip) : Bool := c.arbiter.running.isNone && c.arbiter.waiting.isEmpty

/-- Whether an automatic run waits for the arbiter (R382). -/
def Chip.autoWaits (c : Chip) : Bool := c.arbiter.waiting.any fun a => a.prec == 5 && a.opcode == 0

/-- A request of an activity: started, or left to wait. -/
def Chip.request (c : Chip) (a : Activity) : Chip :=
  if c.arbiterFree then c.startActivity a
  else { c with arbiter := { c.arbiter with waiting := c.arbiter.waiting ++ [a] } }.inc Reg.MAINT_DEFER_CNT

/-- A maintenance command (R296, R458): answered OK or DEFERRED, or refused where sixteen wait. -/
def Chip.maintain (c : Chip) (h : CmdHdr) (op prec : Nat) (args : List Nat) : Chip :=
  let free_ := c.arbiterFree
  if !free_ && 16 ≤ (c.arbiter.waiting.filter fun a => a.opcode != 0).length then c.decline h op (denied 14)
  else
    (c.request ⟨prec, op, some h.chan, h.tag, args, 0, 0, 0, false⟩).complete h op (if free_ then 0 else 6) []

/-- CMD_COMPLETE of an activity that serves a command (R300). -/
def Chip.reportActivity (c : Chip) (a : Activity) : Chip :=
  match a.chan with
  | none => c
  | some ch => c.raise (Chan.source ch) 0x0403
      (it4 (a.opcode + a.tag * 65536) ++ it4 (Chan.number ch) ++ it4 (a.status + a.detail * 65536) ++ it4 a.result)

/-- The waiting activity that goes first: the highest precedence, then the earliest. -/
def firstWaiting : List Activity → Option Activity
  | [] => none
  | a :: r => match firstWaiting r with
    | none => some a
    | some b => if a.prec ≤ b.prec then some a else some b

/-! ### Meanings -/

/-- METER_JOURNAL_FLUSH (R313, R370). -/
def execMeterJournalFlush (h : CmdHdr) (p : Nat) (s : State) : Host.Outcome State Fault Refusal :=
  firmware 0x0704 false h p (fun _ _ c => c.maintain h 0x0704 1 []) s

/-- PATROL_BURST (R397): a burst that finds the arbiter busy waits. -/
def execPatrolBurst (mem : Nat) (s : State) : Host.Outcome State Fault Refusal :=
  within (mem < 2) (onChip (fun _ c =>
    if (c.arbiter.waiting.any fun a => a.prec == 7 && a.args == [mem]) then c
    else c.request ⟨7, 0, none, 0, [mem], 0, 0, 0, false⟩) s)

/-- MAINT_ACTIVITY_START (R458). -/
def execMaintActivityStart (s : State) : Host.Outcome State Fault Refusal :=
  onChip (fun d c =>
    if c.arbiter.running.isSome then c
    else match firstWaiting c.arbiter.waiting with
    | none => c
    | some a =>
      (({ c with arbiter := { c.arbiter with waiting := c.arbiter.waiting.erase a } }).startActivity a).readPackage d) s

end Sys2Proof.Machine
end

