-- ==== Sys2Proof/Machine/Bar2.lean ====
section
/-! DEFINITION. Host accesses to LPDDR5X through BAR2 and to the peer's through the peer aperture (R258 to R265), with staging
records and their locks (R34, R302) and AtomicOps (R261, R262). -/

namespace Sys2Proof.Machine

open Sys2Proof

/-- The BAR2 space offset of an offset of BAR2 (R258). -/
def Chip.spaceOf (c : Chip) (off : Nat) : Nat :=
  let base := bits (c.rd Reg.HB_WIN_BASE_LO) 28 4 * 2 ^ 28 + bits (c.rd Reg.HB_WIN_BASE_HI) 0 3 * 2 ^ 32
  base / Config.bar2Octets * Config.bar2Octets + off

/-- Where the peer aperture begins. -/
def aperture : Nat := 28 * 2 ^ 30

/-- The peer's BAR2 space offset for an offset in the aperture. -/
def Chip.peerOffset (c : Chip) (a : Nat) : Nat := a - aperture + bits (c.rd Reg.HB_PEER_BASE) 0 5 * 2 ^ 30

/-- Whether the peer can be reached. -/
def Chip.peerUp (c : Chip) : Bool := c.domainOn 10 && c.pair.linkUp

/-- Whether the endpoint serves BAR2. -/
def Chip.bar2Ready (c : Chip) : Bool := c.domainOn 2 && !c.power.perst && c.power.stage == 8

/-- Whether a BAR2 space offset maps LPDDR5X for the host: below the working region, or in a staging area (R258, R302,
R303). -/
def Chip.mapsTo (c : Chip) (a : Nat) : Bool :=
  a < c.workBase || c.tblBase ≤ a && a < c.usable && (stagingAt (a - c.tblBase)).isSome

/-- The locked staging record that a mapped address lies in. -/
def Chip.lockAt (c : Chip) (a : Nat) : Option (Nat × Nat) :=
  if a < c.tblBase then none
  else match stagingAt (a - c.tblBase) with
  | some (t, i) => if t != 0 && c.locked t i then some (t, i) else none
  | none => none

/-- A write's octets with their addresses. -/
def withAddresses (a : Nat) (bs : List Byte) : List (Nat × Byte) := (List.range bs.length).map fun i => (a + i, bs.getD i 0)

/-- Octets stored word by word: what a write may store of one word is a run of it. -/
def Chip.storeWords (c : Chip) (d : List Host.Cell) (cls : Nat) (l : List (Nat × Byte)) : List Host.Cell × Chip :=
  ((l.map fun e => e.1 / 8).eraseDups).foldl (fun x w =>
    let run := l.filter fun e => e.1 / 8 == w
    x.2.store x.1 cls (run.headD (0, 0)).1 (run.map (·.2))) (d, c)

/-- TBL_WRITE_LOCKED (R34, R501). -/
def Chip.writeLocked (c : Chip) (k : Nat × Nat) : Chip :=
  c.raise 2 0x0302 (it4 k.1 ++ it4 k.2 ++ it8 (c.lockCsn k.1 k.2))

/-- A posted write at a BAR2 space offset below the aperture, for a requester class: what fails goes to `fail` with its
cause, the first octet dropped and how many (R34, R263, R302). -/
def Chip.applyWrite (c : Chip) (d : List Host.Cell) (cls a : Nat) (bs : List Byte) (fail : Nat → Nat → Nat → Chip → Chip) :
    List Host.Cell × Chip :=
  if !c.domainOn 4 then (d, fail 1 a bs.length c)
  else
    let l := withAddresses a bs
    let good := l.filter fun e => c.mapsTo e.1
    let bad := l.filter fun e => !c.mapsTo e.1
    let held := good.filter fun e => (c.lockAt e.1).isSome
    let x := c.storeWords d cls (good.filter fun e => (c.lockAt e.1).isNone)
    let c := match held with
      | [] => x.2
      | e :: _ =>
        let c := fail 2 e.1 held.length x.2
        (c.lockAt e.1).elim c c.writeLocked
    (x.1, match bad with | [] => c | e :: _ => fail 4 e.1 bad.length c)

/-- Whether a read can be served. -/
def Chip.readable (c : Chip) (a n : Nat) : Bool :=
  c.domainOn 4 && (List.range n).all fun i => c.mapsTo (a + i)

/-- A read served below the aperture: the octets with the poison bit, or Completer Abort (R260, R394). -/
def Chip.serveRead (c : Chip) (d : List Host.Cell) (cls a n : Nat) : Chip :=
  if c.readable a n then
    let bad := c.poisoned 0 a n
    let bs := c.fetch d a n
    (c.noteRead 0 cls a n).emit (.readData bs bad)
  else c.emit .completerAbort

/-- The endpoint while it serves BAR2, for an access of `n` octets at an offset of BAR2. -/
def onBar2 (off n : Nat) (f : Nat → List Host.Cell → Chip → List Host.Cell × Chip) (s : State) :
    Host.Outcome State Fault Refusal :=
  within (off + n ≤ Config.bar2Octets) (onBoth (fun d c => if c.bar2Ready then f (c.spaceOf off) d c else (d, c)) s)

/-- A posted write forwarded to the peer, acknowledged as it is sent, or failed (R258, R263). -/
def Chip.forwardWrite (c : Chip) (off a req : Nat) (bs : List Byte) : Chip :=
  if c.peerUp then c.emit (.forward (c.peerOffset a) bs)
  else c.writeFailed true off req (c.rd Reg.HB_EPOCH) 6 0 bs.length

/-! ### AtomicOps (R261) -/

/-- What an AtomicOp leaves in its target. -/
def atomicResult (op : AtomicOp) (width old operand compare : Nat) : Nat :=
  match op with
  | .fetchAdd => (old + operand) % 2 ^ width
  | .swap => operand % 2 ^ width
  | .cas => if old = compare % 2 ^ width then operand % 2 ^ width else old

/-- Whether the completer supports an AtomicOp of a width (R257). -/
def atomicSupported (op : AtomicOp) (width : Nat) : Bool :=
  width == 32 || width == 64 || (op == .cas && width == 128)

/-- The target of an AtomicOp written in its line: words that it covers are whole, and one that it covers in part stays poisoned if
it was read so (R396). -/
def Chip.writeTarget (c : Chip) (d : List Host.Cell) (a : Nat) (bs : List Byte) : List Host.Cell × Chip :=
  let c := c.rewritten 0 a bs.length
  (Memory.write d a ((List.range bs.length).map fun i => (bs.getD i 0) ^^^ c.eccDram.octet (a + i)), c)

/-- An AtomicOp on LPDDR5X for a requester class: its line is read, and the octets of the target before it are its completion.
One that is not naturally aligned is malformed and has no effect; one on a locked staging record is aborted (log entry 27). -/
def Chip.atomic (c : Chip) (d : List Host.Cell) (cls : Nat) (op : AtomicOp) (a width operand compare : Nat) :
    List Host.Cell × Chip :=
  let n := width / 8
  if !atomicSupported op width then (d, c.emit .unsupported)
  else if a % n ≠ 0 then (d, c)
  else if !c.readable a n || (c.lockAt a).isSome then (d, c.emit .completerAbort)
  else
    let old := c.fetch d a n
    let bad := c.poisoned 0 a n
    let x := (c.noteRead 0 cls (a / 64 * 64) 64).writeTarget d a (leBytes n (atomicResult op width (ofLE old) operand compare))
    (x.1, x.2.emit (.readData old bad))

/-! ### Meanings -/

/-- HOST_BAR2_WRITE (R263). -/
def execHostBar2Write (off : Nat) (octets : List Byte) (req : Nat) (s : State) : Host.Outcome State Fault Refusal :=
  onBar2 off octets.length (fun a d c =>
    if aperture ≤ a then (d, c.forwardWrite off a req octets)
    else c.applyWrite d 5 a octets fun cause at_ n c =>
      c.writeFailed true (off + (at_ - a)) req (c.rd Reg.HB_EPOCH) cause 0 n) s

/-- HOST_BAR2_READ (R260); one of the aperture is forwarded, and PEER_ATOMIC_OP completes it (R258). -/
def execHostBar2Read (off len : Nat) (s : State) : Host.Outcome State Fault Refusal :=
  onBar2 off len (fun a d c =>
    (d, if a < aperture then c.serveRead d 5 a len
      else if c.peerUp then c.emit (.forwardRead (c.peerOffset a) len) else c.emit .completerAbort)) s

/-- HOST_ATOMIC_OP (R261); aimed at BAR0 it is not supported (R260), and one of the aperture is forwarded, and PEER_ATOMIC_OP
completes it (R262). -/
def execHostAtomicOp (op : AtomicOp) (at_ : AtomicTarget) (width operand compare : Nat) (s : State) :
    Host.Outcome State Fault Refusal :=
  match at_ with
  | .bar0 off => within (off + width / 8 ≤ 0x2000000) (onChip (fun _ c =>
      if c.domainOn 2 && !c.power.perst then c.emit .unsupported else c) s)
  | .bar2 off => onBar2 off (width / 8) (fun a d c =>
      if a < aperture then c.atomic d 5 op a width operand compare
      else (d, if c.peerUp then c.emit (.forwardAtomic (c.peerOffset a) op width operand compare)
        else c.emit .completerAbort)) s

/-- PEER_ATOMIC_OP (R262): an AtomicOp or a read of the aperture, with what the peer completes it with and whether that is
poisoned (R260), none for Completer Abort. -/
def execPeerAtomicOp (off _req : Nat) (_atomic : Bool) (answer : Option (List Byte × Bool)) (s : State) :
    Host.Outcome State Fault Refusal :=
  onBar2 off 0 (fun a d c =>
    if a < aperture then (d, c)
    else (d, match answer with
      | some r => if c.peerUp then c.emit (.readData r.1 r.2) else c.emit .completerAbort
      | none => c.emit .completerAbort)) s

/-- HOST_PEER_TIMEOUT (R262). -/
def execHostPeerTimeout (off req : Nat) (atomic : Bool) (s : State) : Host.Outcome State Fault Refusal :=
  onBar2 off 0 (fun a d c =>
    if a < aperture then (d, c)
    else (d, ((c.emit .completerAbort).setEvt Reg.HB_EVT 2).raise 4 0x0502
      (it8 (a + 2 ^ 63) ++ it4 req ++ it4 atomic.toNat))) s

/-- PEER_WRITE_FORWARD (R258, R265). -/
def execPeerWriteForward (off : Nat) (octets : List Byte) (req : Nat) (s : State) : Host.Outcome State Fault Refusal :=
  onBar2 off octets.length (fun a d c => (d, if aperture ≤ a then c.forwardWrite off a req octets else c)) s

/-- PEER_WRITE_FAILURE_MSG (R265). -/
def execPeerWriteFailureMsg (off req epoch cause len : Nat) (s : State) : Host.Outcome State Fault Refusal :=
  onChip (fun _ c => if c.domainOn 2 then c.writeFailed true off req epoch 5 cause len else c) s

/-- FORWARDED_ACCESS_SERVE (R258, R262): the peer's access at an offset of this isle's BAR2 space. -/
def execForwardedAccessServe (off : Nat) (access : Forwarded) (len : Nat) (s : State) :
    Host.Outcome State Fault Refusal :=
  within (off < aperture) (onBoth (fun d c =>
    if !c.peerUp then (d, c)
    else match access with
    | .write bs => c.applyWrite d 6 off bs fun cause at_ _ c => c.emit (.peerFailure at_ cause)
    | .read => (d, c.serveRead d 6 off len)
    | .atomic op width operand compare => c.atomic d 6 op off width operand compare) s)

end Sys2Proof.Machine
end

