-- ==== Sys2Proof/Machine/Metering.lean ====
section
/-! DEFINITION. Feed metering: calibrated samples and power (R349 to R353), energy registers, snapshots and presets (R354 to
R360), pulse outputs (R361 to R363), the windows of R355, power quality (R364 to R368), and the early warning with its journal
(R369 to R372). An output sample comes as the seven bitstreams of its 128 µs (R349, R350). -/

namespace Sys2Proof.Machine

open Sys2Proof

/-! ### Samples -/

/-- Output samples a second. -/
def sampleRate : Rat := 15625 / 2

/-- The frequency that a feed computes with (R353). -/
def Feed.rate (x : Feed) : Rat := if x.freqOk && 0 < x.freq then x.freq else (x.nominal : Rat) / 100

/-- The voltage and current channels of a phase, and whether it is in use (R352). -/
def Feed.phases (x : Feed) : List Nat := if x.wiring = 2 then [0] else [0, 1, 2]

/-- Full scale of a metering channel in volts or amperes. -/
def Feed.fullScale (x : Feed) (ch : Nat) : Rat := ((if ch < 3 then x.vfs else x.afs : Nat) : Rat) / 1000

/-- Channel `ch` of the sample `k` back in a history of parts of full scale, 0 before its first sample. -/
def partBack (l : List (List Rat)) (k ch : Nat) : Rat := (l.getD k []).getD ch 0

/-- Values a time of `s` samples back, interpolated linearly between samples (log entry 33). -/
def between (v : Nat → Rat) (s : Rat) : Rat :=
  let i := s.floor.toNat
  v i + (v (i + 1) - v i) * (s - i)

/-- Channel `ch` of the sample `k` back in volts or amperes, by the scaling in force: a new one applies to every power sample
after its crossing (R352). -/
def Feed.back (x : Feed) (k ch : Nat) : Rat := partBack x.hist k ch * x.fullScale ch

/-- Channel `ch` a time of `s` samples back. -/
def Feed.interp (x : Feed) (s : Rat) (ch : Nat) : Rat := between (fun k => x.back k ch) s

/-- A quarter of the period in samples. -/
def Feed.quarter (x : Feed) : Rat := sampleRate / (4 * x.rate)

/-- L of R353. -/
def Feed.cycleLen (x : Feed) : Nat := (roundHalfUp (sampleRate / x.rate)).toNat

/-- p and q of a phase at the latest sample. -/
def Feed.power (x : Feed) (ph : Nat) : Rat × Rat :=
  let n := x.cycleLen
  let r := List.range n
  ((r.map fun (k : Nat) => x.back k ph * x.back k (3 + ph)).sum / n,
   (r.map fun (k : Nat) => x.interp ((k : Rat) + x.quarter) ph * x.back k (3 + ph)).sum / n)

/-- A level of a bitstream into the integrators of the sinc3 stage: a one counts 1 and a zero −1 (R349). -/
def Sinc.bit (x : Sinc) (b : Bool) : Sinc :=
  let i1 := x.i1 + if b then 1 else -1
  let i2 := x.i2 + i1
  { x with i1 := i1, i2 := i2, i3 := x.i3 + i2 }

/-- An output of the sinc3 stage through its combs, into the 65 places of the FIR stage (DEDUCED from tMGD, log entry 33). -/
def Sinc.comb (x : Sinc) : Sinc :=
  let d1 := x.i3 - x.c1
  let d2 := d1 - x.c2
  let d3 := d2 - x.c3
  { x with c1 := x.i3, c2 := d1, c3 := d2, line := (d3 :: x.line).take 65 }

/-- The 2,560 levels of an output sample's time, the first in bit 0: four outputs of the sinc3 stage, which decimates by 640 (R350). -/
def Sinc.stream (x : Sinc) (w : BitVec 2560) : Sinc :=
  (List.range 4).foldl (fun x j => ((List.range 640).foldl (fun x k => x.bit (w.getLsbD (640 * j + k))) x).comb) x

/-- The output of the FIR stage, in parts of full scale (R350). -/
def Sinc.out (x : Sinc) : Rat :=
  ((List.range 65).map fun k => Config.firTap k * x.line.getD k 0).sum / (2 ^ 31 * 640 ^ 3 : Nat)

/-- Whether the last 1,024 levels of a bitstream are one and the same (R351). -/
def heldLevel (w : BitVec 2560) : Bool :=
  let last := w.toNat / 2 ^ 1536
  last == 0 || last == 2 ^ 1024 - 1

/-- An output sample calibrated, gain and then offset, in parts of full scale (R350, R388); a faulted channel reads 0. -/
def Chip.calibrated (c : Chip) (f : Nat) (x : Feed) : List Rat :=
  (List.range 7).map fun ch =>
    if x.faulted.getD ch false then 0
    else
      let g : Rat := (c.lv (Reg.MCAL_GAIN f ch) : Rat) / 4194304
      let o : Rat := (sext 32 (c.lv (Reg.MCAL_OFFSET f ch)) : Rat)
      (x.filters.getD ch .reset).out * g + o / 2 ^ 31

/-- A calibrated sample with each channel's phase advanced at the measured frequency (R388): the channel and its value a
quarter period late, in quadrature (DESIGN CHOICE, log entry 33). -/
def Chip.phased (c : Chip) (f : Nat) (x : Feed) : List Rat :=
  (List.range 7).map fun ch =>
    let a := sext 16 (bits (c.lv (Reg.MCAL_PHASE f ch)) 0 16)
    let v (k : Nat) : Rat := partBack x.plain k ch
    if ch = 0 || a = 0 || x.faulted.getD ch false then v 0
    else
      let t : Rat := (a : Rat) / 360000
      let t := t - t.floor
      v 0 * cosTurn t - between v x.quarter * sinTurn t

/-! ### Energy (R354, R356) -/

/-- The key of an energy register. -/
def energyKey (feed pos q : Nat) : Nat := feed * 28 + pos * 7 + q

/-- Energy of a power in watts over one sample, in 2⁻⁴⁴ Wh, truncated. -/
def sampleEnergy (w : Rat) : Nat := (w * (128 / 1000000) / 3600 * 2 ^ 44).floor.toNat

/-- A register with energy added; each wrap counted. -/
def Energy.gain (e : Energy) (n : Nat) : Energy :=
  let t := e.acc + n
  { e with acc := t % 2 ^ 88, wraps := (e.wraps + t / 2 ^ 88) % 2 ^ 24, wrapped := e.wrapped || decide (2 ^ 88 ≤ t) }

/-- The quantities that a power sample adds to, with their energies. -/
def energyParts (p q : Rat) : List (Nat × Nat) :=
  let a (x : Rat) : Nat := sampleEnergy (if x < 0 then -x else x)
  [if 0 ≤ p then (0, a p) else (1, a p),
   (match decide (0 ≤ p), decide (0 ≤ q) with | true, true => 2 | false, true => 3 | false, false => 4 | true, false => 5, a q),
   (6, sampleEnergy (sqrtQ (p * p + q * q)))]

/-- A power sample added at a position of a feed. -/
def Chip.addPower (c : Chip) (f pos : Nat) (p q : Rat) : Chip :=
  (energyParts p q).foldl (fun c e =>
    if e.2 = 0 then c else c.setEnergy (energyKey f pos e.1) ((c.energyOf (energyKey f pos e.1)).gain e.2)) c

/-! ### Pulses (R361, R362) -/

/-- Energy of a pulse output: whole pulses go to the backlog. -/
def Pulse.gain (x : Pulse) (n : Nat) : Pulse :=
  let ep := max 1 x.ep * 2 ^ 24
  let t := x.residue + n
  { x with residue := t % ep, backlog := (x.backlog + t / ep) % 2 ^ 64 }

/-- The energy that a pulse output's quantity takes from a feed's power sample. -/
def pulseEnergy (quantity : Nat) (parts : List (Nat × Nat)) : Nat :=
  let q := if quantity = 2 then 6 else quantity
  ((parts.filter fun e => e.1 == q).map (·.2)).sum

/-- The pulse outputs of a feed after a power sample. -/
def Chip.addPulses (c : Chip) (f : Nat) (parts : List (Nat × Nat)) : Chip :=
  (List.range 8).foldl (fun c n =>
    let x := c.pulse n
    if !(x.en && x.feed == f) then c
    else
      let y := x.gain (pulseEnergy x.quantity parts)
      if 2 ≤ y.backlog && !y.told then
        ((c.setPulse n { y with told := true }).setEvt Reg.MTR_EVT 32).raise 129 0x1404 (it4 n ++ it8 c.csn)
      else c.setPulse n y) c

/-! ### Windows (R355, R375) -/

/-- Whether a channel crosses zero upwards between the sample `k + 1` back and the sample `k` back. -/
def Feed.rises (x : Feed) (k ch : Nat) : Bool := x.back (k + 1) ch < 0 && 0 ≤ x.back k ch

/-- The instants of the upward crossings of a channel in the window, in samples back, oldest last; the crossing that ended the
window before begins this one. -/
def Feed.crossings (x : Feed) (ch : Nat) : List Rat :=
  ((List.range (x.winCount + 1)).filter fun k => x.rises k ch).map fun k =>
    let a := x.back (k + 1) ch
    let b := x.back k ch
    (k : Rat) + b / (b - a)

/-- The RMS of a channel over the last `n` samples. -/
def Feed.rms (x : Feed) (n ch : Nat) : Rat :=
  sqrtQ (((List.range n).map fun k => x.back k ch * x.back k ch).sum / max 1 n)

/-- Cycles of the window. -/
def Feed.winCycles (x : Feed) : Nat := if x.nominal < 5500 then 10 else 12

/-- Whether the zero crossings have stopped: none in the last two cycles (DESIGN CHOICE, log entry 33). -/
def Feed.crossLost (x : Feed) : Bool := (List.range (2 * x.cycleLen)).all fun k => !x.rises k 0

/-- The window with a new sample in it: one that began between two crossings, when the frequency is valid, begins anew at the first
(DESIGN CHOICE, log entry 33). -/
def Feed.windowOn (x : Feed) : Feed :=
  if x.freqOk && !x.aligned && x.rises 0 0 then { x with winCount := 0, aligned := true }
  else { x with winCount := x.winCount + 1 }

/-- Whether the window has ended: on the last zero crossing of its 10 or 12 cycles, or after its nominal length while no frequency
is valid or the crossings have stopped. -/
def Feed.winEnds (x : Feed) : Bool :=
  if x.freqOk && !x.crossLost then x.aligned && x.winCycles < (x.crossings 0).length
  else (roundHalfUp (x.winCycles * sampleRate * 100 / x.nominal)).toNat ≤ x.winCount

/-- P and Q of a phase over the last `n` samples. -/
def Feed.winPower (x : Feed) (n ph : Nat) : Rat × Rat :=
  let r := List.range n
  ((r.map fun (k : Nat) => x.back k ph * x.back k (3 + ph)).sum / max 1 n,
   (r.map fun (k : Nat) => x.interp ((k : Rat) + x.quarter) ph * x.back k (3 + ph)).sum / max 1 n)

/-- The word of a power factor: P/S in signed 1.14, and LEAD (R375). -/
def factorWord (p q : Rat) : Nat :=
  let s := sqrtQ (p * p + q * q)
  let r : Int := if s = 0 then 0 else (p / s * 16384).floor
  twos 16 r + (if q < 0 then 65536 else 0)

/-- Thousandths, saturating. -/
def milli (v : Rat) : Nat := sat32 (v * 1000).floor.toNat

/-- The registers of a feed at the end of a window. -/
def Chip.endWindow (c : Chip) (f : Nat) : Chip :=
  let x := c.feed f
  let n := x.winCount
  let ts := x.crossings 0
  let freq : Rat := match ts.head?, ts.getLast? with
    | some a, some b => if a < b then ((ts.length - 1 : Nat) : Rat) * sampleRate / (b - a) else 0
    | _, _ => 0
  let ok := decide (0 < freq) && decide ((x.declared : Rat) / 100 ≤ 10 * x.rms n 0)
  let ps := x.phases
  let pq := ps.map fun ph => x.winPower n ph
  let c := c.wr (Reg.MF_FREQ f) (min 0xFFFFFF (freq * 1000).floor.toNat)
  let c := (List.range 3).foldl (fun c w =>
    if ps.contains w then
      ((c.wr (Reg.MF_VRMS f w) (milli (x.rms n w))).wr (Reg.MF_IRMS f w) (milli (x.rms n (3 + w)))).wr (Reg.MF_PF f w)
        (factorWord (pq.getD w (0, 0)).1 (pq.getD w (0, 0)).2)
    else ((c.wr (Reg.MF_VRMS f w) 0).wr (Reg.MF_IRMS f w) 0).wr (Reg.MF_PF f w) 0) c
  let c := c.wr (Reg.MF_INRMS f) (if x.wiring = 1 then 0 else milli (x.rms n 6))
  let c := c.wr (Reg.MF_PF_FEED f) (factorWord (pq.map (·.1)).sum (pq.map (·.2)).sum)
  c.setFeed f { x with winCount := 0, aligned := x.rises 0 0, freq := freq, freqOk := ok }

/-! ### The early warning (R369, R370) -/

/-- Whether a feed has a recorded sag or interruption open. -/
def Chip.feedWarns (c : Chip) (f : Nat) : Bool := (c.feed f).en && (c.feed f).events.any fun e => e.recorded && e.kind != 1

/-- Whether an enabled warning source is active: MTR_STATUS.WARNING. -/
def Chip.warns (c : Chip) : Bool :=
  let cfg := c.lv Reg.MTR_EW_CFG
  bit cfg 0 && c.warning.pin || bit cfg 1 && !c.warning.vaonA || bit cfg 2 && !c.warning.vaonB ||
    (List.range 8).any fun f => bit cfg (8 + f) && c.feedWarns f

/-- The instant kept at which an enabled source was last active. -/
def Chip.noteWarn (c : Chip) (before : Bool) : Chip :=
  if before || c.warns then { c with warning := { c.warning with lastCycle := c.cycle } } else c

/-- METER_EARLY_WARNING of a source that has become active, and its journal, at most one a second. -/
def Chip.earlyWarning (c : Chip) (source : Nat) : Chip :=
  let c := ({ c with warning := { c.warning with active := true, lastCycle := c.cycle } }).setEvt Reg.MTR_EVT 1
  let c := c.raise 0 0x0101 (it4 source ++ it8 c.csn)
  let recent := match c.warning.lastJournal with | some t => decide (c.cycle < t + 800000000) | none => false
  if recent || !c.domainOn 1 || c.power.held then c else c.beginJournal 0

/-! ### Power quality (R364 to R368) -/

/-- Thresholds of a kind: whether a value starts an event, and whether a value lets it end. -/
def PqCfg.starts (t : PqCfg) (kind : Nat) (v : Rat) : Bool :=
  match kind with
  | 0 => decide (v < t.sag)
  | 1 => decide ((t.swell : Rat) < v)
  | _ => decide (v < t.intr)

def PqCfg.clears (t : PqCfg) (kind : Nat) (v : Rat) : Bool :=
  match kind with
  | 0 => decide (((t.sag + t.hyst : Nat) : Rat) ≤ v)
  | 1 => decide (v ≤ (t.swell : Rat) - t.hyst)
  | _ => decide (((t.intr + t.hyst : Nat) : Rat) ≤ v)

/-- A power-quality record (R368). -/
def Chip.pqRecord (c : Chip) (f : Nat) (e : PqOpen) (ended : Bool) : Chip :=
  let x := c.feed f
  let ms := min 0xFFFFFFFF ((c.now - e.startNs) * 1024 / 1000000)
  let ext := min 65535 (e.extreme * 10).floor.toNat
  let c := c.inc (Reg.MF_PQ_REC_CNT f)
  c.produce 2 (leBytes 4 (f + e.kind * 8 + ended.toNat * 32 + e.phases * 64) ++
    leBytes 4 (if ended then e.durHc else x.pq.minHc) ++ leBytes 4 ms ++ leBytes 4 (ext + e.extPhase * 65536) ++
    itInstant e.startNs ++ leBytes 8 c.csn)

/-- An event that has reached MIN half cycles. -/
def Chip.pqStart (c : Chip) (f : Nat) (e : PqOpen) : Chip :=
  let c := (c.pqRecord f e false).setEvt (Reg.MF_EVT f) (1 <<< e.kind)
  let c := c.raise 129 0x1406 (it4 f ++ it4 e.kind ++ it8 c.csn)
  if e.kind != 1 && bit (c.lv Reg.MTR_EW_CFG) (8 + f) then c.earlyWarning (3 + f) else c

/-- An open event brought up to date by a value of a phase. -/
def PqOpen.see (e : PqOpen) (t : PqCfg) (ph : Nat) (v : Rat) : PqOpen :=
  let worse := if e.kind = 1 then decide (e.extreme < v) else decide (v < e.extreme)
  { e with
    durHc := if ph = e.phase then e.durHc + 1 else e.durHc
    phases := if t.starts e.kind v then e.phases ||| (1 <<< ph) else e.phases
    extreme := if worse then v else e.extreme
    extPhase := if worse then ph else e.extPhase }

/-- One kind of event at a refresh of a phase: `vals` the values of all phases in use, in 0.1 % of the declared voltage. -/
def Chip.pqKind (c : Chip) (f ph : Nat) (vals : List (Nat × Rat)) (v : Rat) (kind : Nat) : Chip :=
  let x := c.feed f
  let rest := x.events.filter fun e => e.kind != kind
  match x.events.find? fun e => e.kind == kind with
  | none =>
    let on := if kind = 2 then vals.length == x.phases.length && vals.all fun y => x.pq.starts 2 y.2 else x.pq.starts kind v
    if !on then c
    else
      let seen := (vals.filter fun y => x.pq.starts kind y.2).foldl (fun m y => m ||| (1 <<< y.1)) 0
      let e : PqOpen := ⟨kind, c.now, ph, 0, seen, v, ph, false⟩
      c.setFeed f { x with events := rest ++ [e] }
  | some e =>
    let e := e.see x.pq ph v
    let e' := { e with recorded := e.recorded || decide (x.pq.minHc ≤ e.durHc) }
    let c := c.setFeed f { x with events := rest ++ [e'] }
    let c := if e'.recorded && !e.recorded then c.pqStart f e' else c
    let over_ := if kind = 2 then vals.any fun y => x.pq.clears 2 y.2 else vals.all fun y => x.pq.clears kind y.2
    if !over_ then c
    else
      let c := if e'.recorded then c.pqRecord f e' true else c.inc (Reg.MF_PQ_SHORT_CNT f)
      c.setFeed f { c.feed f with events := rest }

/-- The voltage whose half-cycle RMS a phase has: to the next phase with WIRING 1. -/
def Feed.lineVolt (x : Feed) (k ph : Nat) : Rat :=
  if x.wiring = 1 then x.back k ph - x.back k ((ph + 1) % 3) else x.back k ph

/-- A refresh of a phase's half-cycle RMS, over the last `n` samples, and the detection on it. -/
def Chip.refresh (c : Chip) (f ph n : Nat) : Chip :=
  let x := c.feed f
  let v := sqrtQ (((List.range n).map fun k => x.lineVolt k ph * x.lineVolt k ph).sum / max 1 n)
  let x := { x with half := x.half.set ph (some v) }
  let c := c.setFeed f x
  if x.declared = 0 then c
  else
    let scale (v : Rat) : Rat := v * 100000 / x.declared
    let vals := x.phases.filterMap fun k => (x.half.getD k none).map fun y => (k, scale y)
    [0, 1, 2].foldl (fun c kind => c.pqKind f ph vals (scale v) kind) c

/-- A phase at a sample: its zero crossing, or half a nominal period while the frequency is not valid. The value is over one cycle of
the frequency in force, to the nearest sample, and there is none before a whole cycle of samples has come (log entry 33). -/
def Chip.halfCycle (c : Chip) (f ph : Nat) : Chip :=
  let x := c.feed f
  let positive := decide (0 ≤ x.back 0 ph)
  let m := x.marks.getD ph 0 + 1
  let half := (roundHalfUp (sampleRate * 50 / x.nominal)).toNat
  let due := if x.freqOk then x.sign.getD ph false != positive else decide (half ≤ m)
  let c := c.setFeed f { x with sign := x.sign.set ph positive, marks := x.marks.set ph (if due then 0 else m) }
  if due && x.cycleLen ≤ x.hist.length then c.refresh f ph x.cycleLen else c

/-! ### A sample -/

/-- A sample added to the span of CAL_METER_REF, until the span has its N cycles of the measured frequency (R388). -/
def Chip.spanSample (c : Chip) (f : Nat) : Chip :=
  match c.calib.span with
  | none => c
  | some k =>
    if k.feed ≠ f || decide ((k.need : Rat) ≤ k.cycles) then c
    else
      let x := c.feed f
      let ref := if k.ch < 3 || k.ch = 6 then 0 else k.ch - 3
      let v := x.back 0 k.ch
      { c with calib := { c.calib with span := some { k with
          count := k.count + 1, sum := k.sum + v, sumSq := k.sumSq + v * v
          corC := k.corC + v * x.back 0 ref, corS := k.corS + v * x.interp x.quarter ref
          ok := k.ok && x.freqOk, cycles := k.cycles + x.rate / sampleRate } } }

/-- A channel's bitstream faulted (R351). -/
def Chip.modFault (c : Chip) (f ch : Nat) : Chip :=
  let x := c.feed f
  if !x.en || x.faulted.getD ch false then c
  else ((c.setFeed f { x with faulted := x.faulted.set ch true }).setEvt (Reg.MF_EVT f) 8).raise 129 0x1407 (it4 f ++ it4 ch)

/-- The levels of an output sample's time taken by a feed's filters. A fault stands at the sample's instant while the last 1,024
levels are one, and has cleared where they are not (R351). -/
def Chip.takeLevels (c : Chip) (f : Nat) (streams : List (BitVec 2560)) : Chip :=
  let x := c.feed f
  let w (ch : Nat) : BitVec 2560 := streams.getD ch 0
  let c := c.setFeed f { x with
    filters := (List.range 7).map fun ch => (x.filters.getD ch .reset).stream (w ch)
    faulted := (List.range 7).map fun ch => x.faulted.getD ch false && heldLevel (w ch) }
  ((List.range 7).filter fun ch => heldLevel (w ch)).foldl (fun c ch => c.modFault f ch) c

/-- The power of a sample added to the registers and the pulse outputs. -/
def Chip.accumulate (c : Chip) (f : Nat) : Chip :=
  let x := c.feed f
  let pq := x.phases.map fun ph => (ph, x.power ph)
  let c := pq.foldl (fun c e => c.addPower f e.1 e.2.1 e.2.2) c
  let p := (pq.map fun e => e.2.1).sum
  let q := (pq.map fun e => e.2.2).sum
  (c.addPower f 3 p q).addPulses f (energyParts p q)

/-- An output sample of an enabled feed (R350 to R355, R364). The first 64 after enabling are discarded, and enter no later power
or window (DEDUCED, log entry 33). -/
def Chip.sample (c : Chip) (f : Nat) (streams : List (BitVec 2560)) : Chip :=
  let c := c.takeLevels f streams
  let x := c.feed f
  if 0 < x.settle then c.setFeed f { x with settle := x.settle - 1 }
  else
    let x := { x with plain := (c.calibrated f x :: x.plain).take 8192 }
    let x := { x with hist := (c.phased f x :: x.hist).take 8192 }
    let c := c.setFeed f x.windowOn
    let before := c.warns
    let c := (c.accumulate f).spanSample f
    let c := x.phases.foldl (fun c ph => c.halfCycle f ph) c
    let c := if (c.feed f).winEnds then c.endWindow f else c
    c.noteWarn before

/-! ### Crossings -/

/-- The snapshot of one energy register (R357, R359). -/
def Energy.snapshot (e : Energy) : Energy :=
  let total := e.acc / 2 ^ 24
  let d := (total + 2 ^ 64 - e.snapTotal) % 2 ^ 64
  let d := if e.preset then 0 else d
  let sat := decide (0xFFFFFFFF < d)
  { e with
    snapTotal := total, snapWraps := e.wraps, snapDelta := sat32 d
    snapFlags := (e.wrapped && !e.preset).toNat + 2 * sat.toNat + 4 * e.preset.toNat
    wrapped := false, preset := false }

/-- The energy snapshot of a crossing (R357). -/
def Chip.snapEnergy (c : Chip) (csn : Nat) : Chip :=
  let c := (c.energy.map (·.1)).foldl (fun c k => c.setEnergy k (c.energyOf k).snapshot) c
  let c := { c with snapCsn := csn }
  let sat := (c.energy.filter fun e => bit e.2.snapFlags 1).map (·.1)
  let c := ((sat.map fun k => k / 28).eraseDups).foldl (fun c f => c.setEvt (Reg.MF_EVT f) 16) c
  match sat with
  | [] => c
  | k :: _ => (c.setEvt Reg.MTR_EVT 8).raise 129 0x1403 (it4 (k / 28) ++ it4 (k % 28 / 7 * 8 + k % 7) ++ it4 sat.length)

/-- METER_FEED_SET at its crossing (R352). A feed that is disabled keeps what it holds; one that is enabled begins anew, and an
event open from before ends with no record (DESIGN CHOICE, log entry 33). -/
def Chip.applyFeed (c : Chip) (f : Nat) (en : Bool) (wiring declared nominal vfs afs : Nat) : Chip :=
  let x := c.feed f
  let y := { x with en := en, wiring := wiring, declared := declared, nominal := nominal, vfs := vfs, afs := afs }
  let c := if x.en && !en then c.toBall (.balls [(.modClk f, .low)]) else c
  c.setFeed f (if x.en || !en then y
    else { y with
      settle := 64, plain := [], hist := [], winCount := 0, aligned := false, freqOk := false, events := []
      half := Feed.reset.half, sign := Feed.reset.sign, marks := Feed.reset.marks })

/-- METER_PULSE_SET at its crossing (R363), also of an output that was off: the feed and the quantity that it had, 0 and 0 at reset
(R376), are what a change is a change of. -/
def Chip.applyPulse (c : Chip) (n feed quantity : Nat) (en : Bool) (ep width : Nat) : Chip :=
  let x := c.pulse n
  let y := { x with en := en, feed := feed, quantity := quantity, ep := ep, width := width }
  if en && x.feed = feed && x.quantity = quantity then c.setPulse n y
  else
    ((c.setPulse n { y with residue := 0, backlog := 0, told := false }).setEvt Reg.MTR_EVT 64).raise 129 0x1405
      (it4 n ++ it8 (x.residue / 2 ^ 24) ++ it8 x.backlog)

/-! ### Meanings -/

/-- Whether the metering sequencer is held in reset, for want of an image that verifies (R438). -/
def Chip.meterHeld (c : Chip) : Bool := bit c.power.fail 2

/-- METER_FEED_SET (R313, R352). -/
def execMeterFeedSet (h : CmdHdr) (p : Nat) (s : State) : Host.Outcome State Fault Refusal :=
  firmware 0x0701 false h p (fun p _ c =>
    c.commitCommand 0x0701 h p true fun _ _ =>
      if c.meterHeld then .error (denied 12) else
      .ok ([.feedSet (pl p 0 0 3) (bit p 3) (min 2 (pl p 0 4 2)) (pl p 4 0 32) (clampN 4500 6500 (pl p 8 0 16))
        (pl p 0xC 0 32) (pl p 0x10 0 32)], [])) s

/-- METER_PQ_SET (R313, R367). -/
def execMeterPqSet (h : CmdHdr) (p : Nat) (s : State) : Host.Outcome State Fault Refusal :=
  firmware 0x0702 false h p (fun p _ c =>
    c.commitCommand 0x0702 h p true fun _ _ =>
      if c.meterHeld then .error (denied 12) else
      let intr := clampN 1 998 (pl p 8 0 16)
      .ok ([.pqSet (pl p 0 0 3) (clampN (intr + 1) 999 (pl p 4 0 16)) (clampN 1001 2000 (pl p 4 16 16)) intr
        (min 100 (pl p 8 16 16)) (max 1 (pl p 0xC 0 16))], [])) s

/-- METER_PULSE_SET (R313, R361). -/
def execMeterPulseSet (h : CmdHdr) (p : Nat) (s : State) : Host.Outcome State Fault Refusal :=
  firmware 0x0703 false h p (fun p _ c =>
    c.commitCommand 0x0703 h p true fun _ _ =>
      if c.meterHeld then .error (denied 12) else
      .ok ([.pulseSet (pl p 0 0 3) (pl p 0 3 3) (min 2 (pl p 0 6 2)) (bit p 8) (max 1 (pl p 8 0 64))
        (clampN 20 1000 (pl p 0x10 0 16))], [])) s

/-- METER_TOTALS_PRESET (R359). -/
def execMeterTotalsPreset (h : CmdHdr) (p : Nat) (s : State) : Host.Outcome State Fault Refusal :=
  firmware 0x0705 false h p (fun p _ c =>
    let k := energyKey (pl p 0 0 3) (pl p 0 8 2) (min 6 (pl p 0 3 5))
    (c.setEnergy k { c.energyOf k with
      acc := pl p 8 0 64 * 2 ^ 24, wraps := 0, preset := true, wrapped := false }).complete h 0x0705 0 []) s

/-- MTR_HOST_SNAP (R360). -/
def execMtrHostSnap (v : Word) (s : State) : Host.Outcome State Fault Refusal :=
  regCommand Reg.MTR_HOST_SNAP (fun c =>
    if bit v.toNat 0 then
      let c := (c.energy.map (·.1)).foldl (fun c k =>
        let e := c.energyOf k
        c.setEnergy k { e with hostTotal := e.acc / 2 ^ 24, hostWraps := e.wraps }) c
      { c with hostSnapNs := c.now, hostSnapCsn := c.csn }
    else c) s

/-- METER_SAMPLE (R350, R353). -/
def execMeterSample (feed : Nat) (streams : List (BitVec 2560)) (s : State) : Host.Outcome State Fault Refusal :=
  within (feed < 8 && streams.length == 7) (onChip (fun _ c =>
    if (c.feed feed).en && !c.meterHeld then c.inCycle fun c => c.sample feed streams else c) s)

/-- METER_MOD_FAULT (R351). -/
def execMeterModFault (feed ch : Nat) (s : State) : Host.Outcome State Fault Refusal :=
  within (feed < 8 && ch < 7) (onChip (fun _ c => c.modFault feed ch) s)

/-- METER_PULSE_START (R362), while the output is on and the sequencer runs (R438). -/
def execMeterPulseStart (n : Nat) (s : State) : Host.Outcome State Fault Refusal :=
  within (n < 8) (onChip (fun _ c =>
    let x := c.pulse n
    if !x.en || x.high || x.backlog = 0 || c.meterHeld then c
    else
      let c := c.runToCycle (x.lowSince + usCycles (1000 * x.width))
      c.setPulse n { x with
        high := true, backlog := x.backlog - 1, endAt := c.cycle + usCycles (1000 * x.width)
        told := x.told && 1 < x.backlog }) s)

/-- METER_PULSE_END (R362). -/
def execMeterPulseEnd (n : Nat) (s : State) : Host.Outcome State Fault Refusal :=
  within (n < 8) (onChip (fun _ c =>
    let x := c.pulse n
    if x.high then
      let c := c.runToCycle x.endAt
      c.setPulse n { x with high := false, lowSince := c.cycle }
    else c) s)

/-- PWR_WARN_ASSERT (R369): PWR_WARN_N has been low for tPWF. -/
def execPwrWarnAssert (s : State) : Host.Outcome State Fault Refusal :=
  onChip (fun _ c =>
    if c.warning.pin then c
    else
      let c := { c with warning := { c.warning with pin := true } }
      if bit (c.lv Reg.MTR_EW_CFG) 0 then c.earlyWarning 0 else c) s

/-- PWR_WARN_N_RELEASE (R369). -/
def execPwrWarnNRelease (s : State) : Host.Outcome State Fault Refusal :=
  onChip (fun _ c =>
    ({ c with warning := { c.warning with pin := false } }).noteWarn c.warns) s

/-- VAON_FEED_CHANGE (R369, R427, R449): a feed monitor reports its feed absent or present. -/
def execVaonFeedChange (feedB present : Bool) (s : State) : Host.Outcome State Fault Refusal :=
  onChip (fun _ c =>
    let was := if feedB then c.warning.vaonB else c.warning.vaonA
    let before := c.warns
    let c := if was == present then c else c.setEvt Reg.PWR_EVT (if feedB then 8 else 4)
    let c := { c with warning := if feedB then { c.warning with vaonB := present } else { c.warning with vaonA := present } }
    if was && !present && bit (c.lv Reg.MTR_EW_CFG) (if feedB then 2 else 1) then
      c.earlyWarning (if feedB then 2 else 1)
    else c.noteWarn before) s

/-- METER_WARN_CLEAR (R369): no enabled source has been active for 100 ms. -/
def execMeterWarnClear (s : State) : Host.Outcome State Fault Refusal :=
  onChip (fun _ c =>
    if c.warning.active && !c.warns then
      let c := c.runToCycle (c.warning.lastCycle + 80000000)
      (({ c with warning := { c.warning with active := false } }).setEvt Reg.MTR_EVT 2).raise 0 0x0102 (it8 c.csn)
    else c) s

/-- JOURNAL_WRITE_DONE (R370, R420): the record is in flash, while PD_CTRL is on (R372); the first of a half has the other half erased as
maintenance. -/
def execJournalWriteDone (durationUs : Nat) (s : State) : Host.Outcome State Fault Refusal :=
  onChip (fun _ c =>
    match if c.domainOn 1 then c.warning.writing else none with
    | none => c
    | some j =>
      let c := c.runToCycle (c.warning.began + usCycles durationUs)
      let c := { c with
        warning := { c.warning with writing := none, lastJournal := some c.cycle, journals := c.warning.journals ++ [j] }
        arbiter := { c.arbiter with suspended := c.update.handover } }
      let c := ((c.inc Reg.MTR_JOURNAL_CNT).wr Reg.MTR_JOURNAL_LAST_US (sat32 durationUs)).setEvt Reg.MTR_EVT 4
      let c := c.raise 129 0x1401 (it4 j.cause ++ it4 (sat32 durationUs) ++ it8 c.csn)
      let flush := match c.arbiter.running with | some a => a.opcode == 0x0704 && !a.finished | none => false
      let c := if j.cause = 1 then c.finish 0 0 0 else if flush then c.beginJournal 1 else c
      if j.seq % 256 = 1 then c.request ⟨1, 0, none, 0, [j.seq], 0, 0, 0, true⟩ else c) s

end Sys2Proof.Machine
end

