-- ==== Sys2Proof/Machine/Calibration.lean ====
section
/-! DEFINITION. The calibration controller (R379 to R388): its commands, the die sensors and the automatic run, the units of a
run, the Strait rotation, and the span of CAL_METER_REF. -/

namespace Sys2Proof.Machine

open Sys2Proof

/-! ### Commits of calibration (R384) -/

/-- A commit of calibration values, which the open crossing takes. -/
def Chip.calCommit (c : Chip) (changes : List Change) : Chip :=
  (c.accept ⟨none, 0, 0, c.openCsn, changes, none⟩).wr Reg.CAL_LAST_CSN_LO (c.openCsn % 2 ^ 32)

/-- A change of one register to the value that its clamps leave. -/
def Chip.regChange (c : Chip) (off v : Nat) : Change := .reg off (BitVec.ofNat 32 (clampReg c off v))

/-- The register that a unit's calibration changes (R379). -/
def calReg (i : CalItem) (unit : Nat) : Nat :=
  match i with
  | .houseTrim => Reg.HC_TRIM unit
  | .dieSensor => Reg.TSENS_TRIM unit
  | .showLane => Reg.LANE_SEL unit
  | .straitLane => Reg.LANE_SEL (4 + unit)

/-- The lane of LANEl_MARGIN that a unit is. -/
def calLane (i : CalItem) (unit : Nat) : Option Nat :=
  match i with
  | .showLane => some unit
  | .straitLane => some (4 + unit)
  | _ => none

/-- The changes of a unit that has converged: its register and, for a lane, its eye (R385). -/
def Chip.calChanges (c : Chip) (i : CalItem) (unit value width height : Nat) : List Change :=
  c.regChange (calReg i unit) value :: (match calLane i unit with | some l => [.laneMargin l width height] | none => [])

/-! ### Units (R381 to R387) -/

/-- A unit that timed out counted (R383). -/
def Chip.countTimeout (c : Chip) : Chip := (c.inc Reg.CAL_TIMEOUT_CNT).setEvt Reg.CAL_EVT 2

/-- A unit of a run timed out: counted, and its item noted (R383). -/
def Chip.calTimedOut (c : Chip) (i : CalItem) : Chip :=
  let k := c.calib
  ({ c with calib := { k with timedOut := if k.timedOut.contains i then k.timedOut else i :: k.timedOut } } : Chip).countTimeout

/-- The Strait lane under calibration: the spare while the link is up, otherwise the lanes in order (R387). -/
def Chip.straitUnit (c : Chip) : Nat :=
  if c.pair.linkUp then c.pair.spare
  else ((List.range 3).find? fun l => !c.calib.straitDone.contains l).getD 0

/-- Whether a unit is the one under way. -/
def Chip.calCurrent (c : Chip) (i : CalItem) (unit : Nat) : Bool :=
  let run := match c.arbiter.running with | some a => a.prec == 5 && !a.finished | none => false
  run && !c.update.handover && c.calib.items.head? == some i &&
    (if i = .straitLane then unit == c.straitUnit && !c.calib.straitDone.contains unit else unit == c.calib.unit)

/-- A Strait lane's calibration ended, with the changes it would commit. With the link up each lane commits as it ends, and
all but the last give way to the next at the crossing, where the peer switches too; with it down the item commits once, at its end (R387).
Where a traffic lane has failed the spare is for that one (R496), and what is left of the item is skipped (R387). -/
def Chip.straitEnded (c : Chip) (unit : Nat) (changes : List Change) : Chip :=
  let k := c.calib
  let done := k.straitDone ++ [unit]
  let last := done.length = 3
  if c.pair.linkUp then
    let next := ((List.range 3).find? fun l => !done.contains l).getD unit
    let off := Reg.LANE_SEL (4 + unit)
    let sel := changes.foldl (fun v ch => Change.onReg off v ch) (c.lv off)
    let c := { c with calib := { k with straitDone := done, unit := done.length } }
    let stays := last || c.pair.failedLane.isSome
    let c := c.sendLink (.laneSwitch c.openCsn unit sel (if stays then none else some next))
    if stays then (if changes.isEmpty then c else c.calCommit changes).calNext else c.calCommit (changes ++ [.straitRotate next])
  else
    let held := k.straitLast ++ changes
    let c := { c with calib := { k with straitDone := done, unit := done.length, straitLast := held } }
    if last then (if held.isEmpty then c else c.calCommit held).calNext else c

/-! ### The metering reference (R388) -/

/-- What a phase difference in 0.001° is within half a turn of 0. -/
def halfTurn (d : Int) : Int := (d + 180000) % 360000 - 180000

/-- The new coefficients of a channel, none where one falls outside its clamps or the signal is too small; values are
rounded to the nearest step (log entry 33). -/
def Chip.spanResult (c : Chip) (k : CalSpan) (refRms : Nat) (refPhase : Int) : Option (List Change) :=
  let x := c.feed k.feed
  let n : Rat := (max 1 k.count : Nat)
  let mean := k.sum / n
  let rms := sqrtQ (max 0 (k.sumSq / n - mean * mean))
  let fs := x.fullScale k.ch
  let offset := sext 32 (c.lv (Reg.MCAL_OFFSET k.feed k.ch)) - roundHalfUp (mean / fs * 2 ^ 31)
  let gain := roundHalfUp ((c.lv (Reg.MCAL_GAIN k.feed k.ch) : Rat) * ((refRms : Rat) / 1000) / rms)
  let measured := roundHalfUp (atanTurn (-k.corS) k.corC * 360000)
  let phase := if k.ch = 0 then 0
    else sext 16 (bits (c.lv (Reg.MCAL_PHASE k.feed k.ch)) 0 16) + halfTurn (refPhase - measured)
  if fs ≤ 0 || rms * 100 < fs || gain < 0x200000 || 0x800000 < gain || offset.natAbs > 2 ^ 27 || 5000 < phase.natAbs then none
  else some [.reg (Reg.MCAL_GAIN k.feed k.ch) (BitVec.ofInt 32 gain), .reg (Reg.MCAL_OFFSET k.feed k.ch) (BitVec.ofInt 32 offset),
    .reg (Reg.MCAL_PHASE k.feed k.ch) (BitVec.ofNat 32 (twos 16 phase))]

/-! ### Die sensors (R382) -/

/-- Whether an automatic run waits or runs. -/
def Chip.autoBusy (c : Chip) : Bool :=
  let auto (a : Activity) : Bool := a.prec == 5 && a.opcode == 0
  c.autoWaits || (match c.arbiter.running with | some a => auto a | none => false)

/-- The automatic run as an activity: every item. -/
def autoRun : Activity := ⟨5, 0, none, 0, [15], 0, 0, 0, false⟩

/-- Drift beyond ΔT: an automatic run waits for the arbiter, which it has at CAL_AUTO_START where nothing else goes first, and is
counted as deferred only where another activity stands before it. While one waits or runs, only the largest movement is kept. -/
def Chip.callAuto (c : Chip) (movement : Int) : Chip :=
  if c.autoBusy then
    (if c.calib.movement.natAbs < movement.natAbs then { c with calib := { c.calib with movement := movement } } else c)
  else
    let c := { c with calib := { c.calib with movement := movement } }
    if c.arbiterFree then { c with arbiter := { c.arbiter with waiting := [autoRun] } } else c.request autoRun

/-- A reading of a die sensor: the trim applied, the register, and the comparison with the reference. -/
def Chip.dieReading (c : Chip) (s : Nat) (raw : Int) : Chip :=
  let t := clampI (-32768) 32767 (raw + sext 8 (bits (c.lv (Reg.TSENS_TRIM s)) 0 8) * 16)
  let k := c.calib
  let c := { c with calib := { k with temps := k.temps.set s t } }.wr (Reg.DIE_TEMP s) (twos 16 t)
  match k.refs.getD s none with
  | none => { c with calib := { c.calib with refs := c.calib.refs.set s (some t) } }
  | some r => if k.deltaT * 256 < (t - r).natAbs then c.callAuto (t - r) else c

/-! ### Meanings -/

/-- CAL_RUN (R316, R381). -/
def execCalRun (h : CmdHdr) (p : Nat) (s : State) : Host.Outcome State Fault Refusal :=
  firmware 0x0A01 false h p (fun p _ c => c.maintain h 0x0A01 5 [pl p 0 0 4]) s

/-- CAL_METER_REF (R316, R388). -/
def execCalMeterRef (h : CmdHdr) (p : Nat) (s : State) : Host.Outcome State Fault Refusal :=
  firmware 0x0A02 false h p (fun p _ c =>
    if c.meterHeld then c.decline h 0x0A02 (denied 12)
    else c.maintain h 0x0A02 4 [pl p 0 0 3, min 6 (pl p 0 3 3), pl p 4 0 32, pl p 8 0 32, clampN 1 1000 (pl p 0xC 0 16)]) s

/-- CAL_AUTO_SET (R316, R382). -/
def execCalAutoSet (h : CmdHdr) (p : Nat) (s : State) : Host.Outcome State Fault Refusal :=
  firmware 0x0A03 false h p (fun p _ c =>
    let c := { c with calib := { c.calib with auto := bit p 0, deltaT := clampN 2 40 (pl p 0 8 8) } }
    c.complete h 0x0A03 0 []) s

/-- DIE_SENSOR_SAMPLE (R382): a reading before its trim, in signed 8.8 °C. The die has that temperature also where the part does not
read it. -/
def execDieSensorSample (sensor : Nat) (raw : Int) (s : State) : Host.Outcome State Fault Refusal :=
  within (sensor < 8) (onChip (fun _ c =>
    let c := { c with calib := { c.calib with junction := c.calib.junction.set sensor (some raw) } }
    if c.calib.auto && c.domainOn 1 then c.dieReading sensor raw else c) s)

/-- CAL_AUTO_START (R382): a run called for starts when nothing runs and nothing goes before it. -/
def execCalAutoStart (s : State) : Host.Outcome State Fault Refusal :=
  onChip (fun _ c =>
    if c.arbiter.running.isSome || firstWaiting c.arbiter.waiting != some autoRun then c
    else ({ c with arbiter := { c.arbiter with waiting := c.arbiter.waiting.erase autoRun } }).startActivity autoRun) s

/-- CAL_UNIT_DONE (R384): the unit under way converges. -/
def execCalUnitDone (item : CalItem) (unit value eyeWidth eyeHeight : Nat) (s : State) : Host.Outcome State Fault Refusal :=
  within (unit < calUnits item) (onChip (fun _ c =>
    if !c.calCurrent item unit then c
    else
      let changes := c.calChanges item unit value eyeWidth eyeHeight
      if item = .straitLane then c.straitEnded unit changes
      else
        let c := c.calCommit changes
        ({ c with calib := { c.calib with unit := unit + 1 } }).calNext) s)

/-- CAL_UNIT_TIMEOUT (R383): the unit under way keeps its values; a Strait lane with the link up still gives way to the next
by a commit that carries the old values (R387). -/
def execCalUnitTimeout (item : CalItem) (unit : Nat) (s : State) : Host.Outcome State Fault Refusal :=
  within (unit < calUnits item) (onChip (fun _ c =>
    if !c.calCurrent item unit then c
    else
      let c := c.calTimedOut item
      if item = .straitLane then
        c.straitEnded unit (if c.pair.linkUp then [c.regChange (calReg item unit) (c.lv (calReg item unit))] else [])
      else ({ c with calib := { c.calib with unit := unit + 1 } }).calNext) s)

/-- The span of CAL_METER_REF ended: its new values, or none where a case of R388 keeps the old ones. A span whose N cycles have not
come by its limit is timed out at it, and counted (R383). -/
def Chip.endSpan (c : Chip) (a : Activity) (k : CalSpan) : Chip :=
  let whole := decide ((k.need : Rat) ≤ k.cycles) && decide (c.cycle ≤ k.dueAt)
  let new := if whole && k.ok && (c.feed k.feed).freqOk then
      c.spanResult k (a.args.getD 2 0) (sext 32 (a.args.getD 3 0)) else none
  let c := { c with calib := { c.calib with span := none } }
  let c := if whole then c else (c.runToCycle k.dueAt).countTimeout
  match new with
  | none => c.finish 7 0 0
  | some changes => (c.calCommit changes).finish 0 0 0

/-- METER_CAL_SPAN_END (R388): the span of a feed ends, after its N cycles or at its limit; a handover of CTRL suspends it (R413). -/
def execMeterCalSpanEnd (feed : Nat) (s : State) : Host.Outcome State Fault Refusal :=
  within (feed < 8) (onChip (fun _ c =>
    match c.arbiter.running, c.calib.span with
    | some a, some k => if a.prec ≠ 4 || a.finished || c.update.handover || k.feed ≠ feed then c else c.endSpan a k
    | _, _ => c) s)

end Sys2Proof.Machine
end

