-- ==== Sys2Proof/Machine/Integrity.lean ====
section
/-! DEFINITION. The check units (R389 to R391, R400), the injection of errors and the patrol's pass times (R317, R396, R397,
R401), and the other diagnostic commands that act at once (R317). -/

namespace Sys2Proof.Machine

open Sys2Proof

/-! ### Algorithms (R389) -/

/-- Octets of a check. -/
def algBytes : Nat → Nat
  | 2 => 8
  | 3 => 2
  | _ => 4

/-- The low bits of a number that a check uses. -/
def algMask (alg x : Nat) : Nat := x % 256 ^ algBytes alg

/-- The initial value. -/
def algInit : Nat → Nat
  | 2 => 0
  | 3 => 0xFFFF
  | _ => 0xFFFFFFFF

/-- The final exclusive-or. -/
def algFinal : Nat → Nat
  | 2 => 0
  | 3 => 0
  | _ => 0xFFFFFFFF

/-- Octets fed to a running value. -/
def algFeed (alg run : Nat) (l : List Byte) : Nat :=
  match alg with
  | 0 => crcRun 0x82F63B78 run l
  | 1 => crcRun 0xEDB88320 run l
  | 2 => l.foldl (fun s b => crcByteMsb 64 0x42F0E1EBA9EA3693 s b.toNat) run
  | _ => l.foldl (fun s b => crcByteMsb 16 0x1021 s b.toNat) run

/-! ### A context (R390) -/

/-- ALG of a context. -/
def Chip.algOf (c : Chip) (x : Nat) : Nat := bits (c.rd (Reg.CK_CFG x)) 0 2

/-- Octets fed to a context. -/
def Chip.checkFeed (c : Chip) (x : Nat) (l : List Byte) : Chip :=
  let u := c.check x
  c.setCheck x { u with run := algFeed (c.algOf x) u.run l, count := (u.count + l.length) % 2 ^ 32 }

/-- What the fold feeds: the address, or the sequence number. -/
def Chip.foldOctets (c : Chip) (x : Nat) : List Byte :=
  let cfg := c.rd (Reg.CK_CFG x)
  if !bit cfg 2 then []
  else if bit cfg 3 then leBytes 4 (c.rd (Reg.CK_FOLD_LO x))
  else leBytes 4 (c.rd (Reg.CK_FOLD_LO x)) ++ leBytes 4 (c.rd (Reg.CK_FOLD_HI x))

/-- START. What it does to DONE, MATCH and COLLIDE is not given: they are cleared (DESIGN CHOICE, log entry 34). -/
def Chip.checkStart (c : Chip) (x : Nat) : Chip :=
  (c.setCheck x { c.check x with
    run := algInit (c.algOf x), count := 0, done := false, isEqual := false, collide := false }).checkFeed x (c.foldOctets x)

/-- FINISH: the result, its comparison, and CHECK_UNIT_MISMATCH. -/
def Chip.checkFinish (c : Chip) (x : Nat) : Chip :=
  let cfg := c.rd (Reg.CK_CFG x)
  let alg := c.algOf x
  let u := c.check x
  let result := algMask alg (u.run ^^^ algFinal alg)
  let expect := algMask alg (c.rd (Reg.CK_EXPECT_LO x) + c.rd (Reg.CK_EXPECT_HI x) * 2 ^ 32)
  let same := bit cfg 4 && result == expect
  let c := c.setCheck x { u with done := true, result := result, isEqual := same }
  if bit cfg 4 && !same then
    let c := c.setEvt (Reg.CK_EVT x) 1
    if bit cfg 5 then c.raise 6 0x0702 (it4 x ++ it4 (result % 2 ^ 32) ++ it4 (expect % 2 ^ 32)) else c
  else c

/-- A host write to a context that runs a command: ignored, and COLLIDE set (R391). -/
def Chip.checkCollide (c : Chip) (x : Nat) : Chip :=
  (c.setCheck x { c.check x with collide := true }).setEvt (Reg.CK_EVT x) 2

/-- A host write to a register of a context, unless it runs a command. -/
def Chip.onCheck (c : Chip) (x : Nat) (f : Chip → Chip) : Chip :=
  if (c.check x).busy.isSome then c.checkCollide x else f c

/-- A write of CKx_CTRL: START before FINISH. -/
def Chip.checkCtrl (c : Chip) (x v : Nat) : Chip :=
  c.onCheck x fun c =>
    let c := if bit v 0 then c.checkStart x else c
    if bit v 1 then c.checkFinish x else c

/-- The enabled octets of a data write, lowest first. -/
def enabledOctets (v be : Nat) : List Byte :=
  ((List.range 4).filter fun i => bit be i).map fun i => BitVec.ofNat 8 (v >>> (8 * i))

/-- A half of the running register loaded. -/
def Chip.checkLoad (c : Chip) (x : Nat) (hi : Bool) (v : Nat) : Chip :=
  let u := c.check x
  c.setCheck x { u with run := algMask (c.algOf x) (if hi then setBits u.run 32 32 v else setBits u.run 0 32 v) }

/-! ### DIAG_CHECK_RUN (R391) -/

/-- Octets of Lagoon, or of LPDDR5X where the part keeps its own (R302, R303), that a check feeds come to a free value: in what form
the part keeps what it has there is not given (log entry 34). -/
def Chip.feedHidden (c : Chip) (x len : Nat) : Chip :=
  let u := c.check x
  (c.setCheck x { u with run := algMask (c.algOf x) c.free, count := (u.count + len) % 2 ^ 32 }).drew

/-- The range of a DIAG_CHECK_RUN read and fed. -/
def Chip.feedRange (c : Chip) (d : List Host.Cell) (x mem addr len : Nat) : Chip :=
  let c := c.noteRead mem 8 addr len
  if mem = 0 && ((List.range len).all fun i => c.mapsTo (addr + i)) then c.checkFeed x (c.fetch d addr len)
  else c.feedHidden x len

/-! ### Meanings -/

/-- CKX_START (R390). -/
def execCkxStart (x : Nat) (v : Word) (s : State) : Host.Outcome State Fault Refusal :=
  within (x < 16) (regCommand (Reg.CK_CTRL x) (fun c => c.checkCtrl x v.toNat) s)

/-- CKX_FINISH (R390). -/
def execCkxFinish (x : Nat) (v : Word) (s : State) : Host.Outcome State Fault Refusal :=
  within (x < 16) (regCommand (Reg.CK_CTRL x) (fun c => c.checkCtrl x v.toNat) s)

/-- CKX_DATA_WRITE (R390); one that enables no bytes has no effect (R463). -/
def execCkxDataWrite (x : Nat) (hi : Bool) (v : Word) (be : Nat) (s : State) : Host.Outcome State Fault Refusal :=
  within (x < 16) (if be = 0 then .next s else regCommand (Reg.CK_DATA x hi.toNat) (fun c =>
    c.onCheck x fun c => c.checkFeed x (enabledOctets v.toNat be)) s)

/-- CKX_RUN_WRITE (R390). -/
def execCkxRunWrite (x : Nat) (hi : Bool) (v : Word) (s : State) : Host.Outcome State Fault Refusal :=
  within (x < 16) (regCommand (if hi then Reg.CK_RUN_HI x else Reg.CK_RUN_LO x) (fun c =>
    c.onCheck x fun c => c.checkLoad x hi v.toNat) s)

/-- ECCM_EVT_CLEAR (R401). -/
def execEccmEvtClear (m : Nat) (v : Word) (s : State) : Host.Outcome State Fault Refusal :=
  within (m < 2) (regCommand (Reg.ECC_EVT m) (fun c =>
    let c := c.clearEvt (Reg.ECC_EVT m) v.toNat
    if bit v.toNat 0 then c.wr (Reg.ECC_UE_ADDR_HI m) (setBit (c.rd (Reg.ECC_UE_ADDR_HI m)) 31 false) else c) s)

/-- DIAG_SCRUB_SET (R317, R397). -/
def execDiagScrubSet (h : CmdHdr) (p : Nat) (s : State) : Host.Outcome State Fault Refusal :=
  firmware 0x0B01 false h p (fun p _ c =>
    let t := clampN 60 604800 (pl p 4 0 32)
    let c := if bit p 0 then c.wr (Reg.ECC_SCRUB_PASS_S 0) t else c
    let c := if bit p 1 then c.wr (Reg.ECC_SCRUB_PASS_S 1) t else c
    c.complete h 0x0B01 0 []) s

/-- The octets of a memory. -/
def Chip.memSize (c : Chip) (m : Nat) : Nat := if m = 0 then c.usable else 2 ^ 26

/-- DIAG_ECC_INJECT (R317, R396): which bits of the word are flipped is a free value (log entry 34). A word that the memory
does not have has no bits. -/
def execDiagEccInject (h : CmdHdr) (p : Nat) (s : State) : Host.Outcome State Fault Refusal :=
  firmware 0x0B02 false h p (fun p _ c =>
    let m := pl p 0 0 1
    let w := pl p 8 0 64 / 8 * 8
    let b1 : Nat := c.free % 64
    let b2 : Nat := (b1 + 1 + c.drew.free % 63) % 64
    let flip : BitVec 64 := BitVec.twoPow 64 b1 ^^^ (if bit p 1 then BitVec.twoPow 64 b2 else 0)
    let c := c.drew.drew
    let c := if w < c.memSize m then c.setEcc m ((c.ecc m).put w ((c.ecc m).at w ^^^ flip)) else c
    c.complete h 0x0B02 0 []) s

/-- DIAG_CHECK_RUN (R317, R391): the context is busy until CHECK_RUN_FINISH, which answers. A busy context is resource 8 of R457,
whose refusal counts. -/
def execDiagCheckRun (h : CmdHdr) (p : Nat) (s : State) : Host.Outcome State Fault Refusal :=
  firmware 0x0B03 false h p (fun p _ c =>
    let x := pl p 0 0 4
    if (c.check x).busy.isSome then
      ((c.inc Reg.CONFLICT_CNT).wr Reg.CONFLICT_LAST (8 + 2 ^ 31)).decline h 0x0B03 (denied 13)
    else
      let addr := pl p 8 0 64
      let c := if bit (c.rd (Reg.CK_CFG x)) 3 then c
        else (c.wr (Reg.CK_FOLD_LO x) (addr % 2 ^ 32)).wr (Reg.CK_FOLD_HI x) (addr / 2 ^ 32)
      let c := c.checkStart x
      c.setCheck x { c.check x with busy := some (some h.chan, h.tag, pl p 0 4 1, addr, pl p 0x10 0 32) }) s

/-- CHECK_RUN_FINISH (R391): the range fed, FINISH, and the response, DATA_CORRUPT where a word was read as poisoned. -/
def execCheckRunFinish (x : Nat) (s : State) : Host.Outcome State Fault Refusal :=
  within (x < 16) (onChip (fun d c =>
    match (c.check x).busy with
    | none => c
    | some (ch, tag, mem, addr, len) =>
      let bad := c.poisoned mem addr len
      let c := (c.feedRange d x mem addr len).checkFinish x
      let u := c.check x
      let c := c.setCheck x { u with busy := none }
      c.respondTo ch 0x0B03 tag ⟨if bad then 4 else 0, 0, c.csn, leBytes 8 u.run ++ leBytes 1 u.isEqual.toNat⟩) s)

/-- DIAG_LOOPBACK (R317). -/
def execDiagLoopback (h : CmdHdr) (p : Nat) (s : State) : Host.Outcome State Fault Refusal :=
  firmware 0x0B04 false h p (fun p _ c =>
    c.commitCommand 0x0B04 h p true fun _ _ => .ok ([.loopback (min 4 (pl p 0 0 3)) (min 2 (pl p 0 3 2))], [])) s

/-- DIAG_TEMP_READ (R317). -/
def execDiagTempRead (h : CmdHdr) (p : Nat) (s : State) : Host.Outcome State Fault Refusal :=
  firmware 0x0B06 true h p (fun _ _ c =>
    c.complete h 0x0B06 0 ((c.calib.temps.map fun t => leBytes 2 (twos 16 t)).flatten)) s

/-- DIAG_EVENT_TEST (R317). -/
def execDiagEventTest (h : CmdHdr) (p : Nat) (s : State) : Host.Outcome State Fault Refusal :=
  firmware 0x0B07 false h p (fun p _ c =>
    (c.raise (pl p 0 16 8) 0xFF01 (it4 (pl p 0 0 24))).complete h 0x0B07 0 []) s

end Sys2Proof.Machine
end

