-- ==== Sys2Proof/Machine/Hash.lean ====
section
/-! DEFINITION. SHA-384 (FIPS 180-4), with which image bodies and operation streams are checked (R405, R406). -/

namespace Sys2Proof.Machine

open Sys2Proof

/-- A 64-bit word of the hash. -/
abbrev HashWord := BitVec 64

/-- Constants of rounds 0 to 15. -/
def Sha.k0 : List HashWord :=
  [ 0x428A2F98D728AE22, 0x7137449123EF65CD, 0xB5C0FBCFEC4D3B2F, 0xE9B5DBA58189DBBC,
    0x3956C25BF348B538, 0x59F111F1B605D019, 0x923F82A4AF194F9B, 0xAB1C5ED5DA6D8118,
    0xD807AA98A3030242, 0x12835B0145706FBE, 0x243185BE4EE4B28C, 0x550C7DC3D5FFB4E2,
    0x72BE5D74F27B896F, 0x80DEB1FE3B1696B1, 0x9BDC06A725C71235, 0xC19BF174CF692694 ]

/-- Constants of rounds 16 to 31. -/
def Sha.k1 : List HashWord :=
  [ 0xE49B69C19EF14AD2, 0xEFBE4786384F25E3, 0x0FC19DC68B8CD5B5, 0x240CA1CC77AC9C65,
    0x2DE92C6F592B0275, 0x4A7484AA6EA6E483, 0x5CB0A9DCBD41FBD4, 0x76F988DA831153B5,
    0x983E5152EE66DFAB, 0xA831C66D2DB43210, 0xB00327C898FB213F, 0xBF597FC7BEEF0EE4,
    0xC6E00BF33DA88FC2, 0xD5A79147930AA725, 0x06CA6351E003826F, 0x142929670A0E6E70 ]

/-- Constants of rounds 32 to 47. -/
def Sha.k2 : List HashWord :=
  [ 0x27B70A8546D22FFC, 0x2E1B21385C26C926, 0x4D2C6DFC5AC42AED, 0x53380D139D95B3DF,
    0x650A73548BAF63DE, 0x766A0ABB3C77B2A8, 0x81C2C92E47EDAEE6, 0x92722C851482353B,
    0xA2BFE8A14CF10364, 0xA81A664BBC423001, 0xC24B8B70D0F89791, 0xC76C51A30654BE30,
    0xD192E819D6EF5218, 0xD69906245565A910, 0xF40E35855771202A, 0x106AA07032BBD1B8 ]

/-- Constants of rounds 48 to 63. -/
def Sha.k3 : List HashWord :=
  [ 0x19A4C116B8D2D0C8, 0x1E376C085141AB53, 0x2748774CDF8EEB99, 0x34B0BCB5E19B48A8,
    0x391C0CB3C5C95A63, 0x4ED8AA4AE3418ACB, 0x5B9CCA4F7763E373, 0x682E6FF3D6B2B8A3,
    0x748F82EE5DEFB2FC, 0x78A5636F43172F60, 0x84C87814A1F0AB72, 0x8CC702081A6439EC,
    0x90BEFFFA23631E28, 0xA4506CEBDE82BDE9, 0xBEF9A3F7B2C67915, 0xC67178F2E372532B ]

/-- Constants of rounds 64 to 79. -/
def Sha.k4 : List HashWord :=
  [ 0xCA273ECEEA26619C, 0xD186B8C721C0C207, 0xEADA7DD6CDE0EB1E, 0xF57D4F7FEE6ED178,
    0x06F067AA72176FBA, 0x0A637DC5A2C898A6, 0x113F9804BEF90DAE, 0x1B710B35131C471B,
    0x28DB77F523047D84, 0x32CAAB7B40C72493, 0x3C9EBE0A15C9BEBC, 0x431D67C49C100D4C,
    0x4CC5D4BECB3E42B6, 0x597F299CFC657E2A, 0x5FCB6FAB3AD6FAEC, 0x6C44198C4A475817 ]

/-- The constants of the rounds. -/
def Sha.ks : List HashWord := Sha.k0 ++ Sha.k1 ++ Sha.k2 ++ Sha.k3 ++ Sha.k4

/-- The initial hash value of SHA-384. -/
def Sha.start : List HashWord :=
  [ 0xCBBB9D5DC1059ED8, 0x629A292A367CD507, 0x9159015A3070DD17, 0x152FECD8F70E5939,
    0x67332667FFC00B31, 0x8EB44A8768581511, 0xDB0C2E0D64F98FA7, 0x47B5481DBEFA4FA4 ]

/-- One round, from the eight working words, the round's constant and its message word. -/
def Sha.round (h : List HashWord) (kw : HashWord × HashWord) : List HashWord :=
  match h with
  | [a, b, c, d, e, f, g, x] =>
    let s1 := e.rotateRight 14 ^^^ e.rotateRight 18 ^^^ e.rotateRight 41
    let ch := (e &&& f) ^^^ (~~~e &&& g)
    let t1 := x + s1 + ch + kw.1 + kw.2
    let s0 := a.rotateRight 28 ^^^ a.rotateRight 34 ^^^ a.rotateRight 39
    let maj := (a &&& b) ^^^ (a &&& c) ^^^ (b &&& c)
    [t1 + (s0 + maj), a, b, c, d + t1, e, f, g]
  | _ => h

/-- The message words of the rounds still to come: the last sixteen words lead to the next. -/
def Sha.schedule : Nat → List HashWord → List HashWord
  | 0, _ => []
  | n + 1, w =>
    let w1 := w.getD 1 0
    let w14 := w.getD 14 0
    let next := (w14.rotateRight 19 ^^^ w14.rotateRight 61 ^^^ (w14 >>> 6)) + w.getD 9 0 +
      (w1.rotateRight 1 ^^^ w1.rotateRight 8 ^^^ (w1 >>> 7)) + w.getD 0 0
    w.getD 0 0 :: Sha.schedule n (w.drop 1 ++ [next])

/-- The big-endian words of octets. -/
def Sha.words : Nat → List Byte → List HashWord
  | 0, _ => []
  | n + 1, l => BitVec.ofNat 64 (ofBE (l.take 8)) :: Sha.words n (l.drop 8)

/-- The hash value after a block of 128 octets. -/
def Sha.block (h : List HashWord) (l : List Byte) : List HashWord :=
  List.zipWith (· + ·) h ((List.zip Sha.ks (Sha.schedule 80 (Sha.words 16 l))).foldl Sha.round h)

/-- The hash value after `n` blocks. -/
def Sha.blocks : Nat → List HashWord → List Byte → List HashWord
  | 0, h, _ => h
  | n + 1, h, l => Sha.blocks n (Sha.block h (l.take 128)) (l.drop 128)

/-- The message with its padding. -/
def Sha.padded (l : List Byte) : List Byte :=
  l ++ [0x80] ++ List.replicate ((239 - l.length % 128) % 128) 0 ++ beBytes 16 (l.length * 8)

/-- SHA-384 of octets. -/
def sha384 (l : List Byte) : List Byte :=
  let m := Sha.padded l
  (((Sha.blocks (m.length / 128) Sha.start m).take 6).map fun w => beBytes 8 w.toNat).flatten

/-! ### ECDSA over the curve P-384 (R405), whose constants are those of its standard (PRESUMED, log entry 10) -/

/-- The prime of the field, the coefficient b, the order of the base point, and that point. -/
def P384.p : Nat := 2 ^ 384 - 2 ^ 128 - 2 ^ 96 + 2 ^ 32 - 1
def P384.b : Nat := 0xB3312FA7E23EE7E4988E056BE3F82D19181D9C6EFE8141120314088F5013875AC656398D8A2ED19D2A85C8EDD3EC2AEF
def P384.n : Nat := 0xFFFFFFFFFFFFFFFFFFFFFFFFFFFFFFFFFFFFFFFFFFFFFFFFC7634D81F4372DDF581A0DB248B0A77AECEC196ACCC52973
def P384.g : Nat × Nat :=
  (0xAA87CA22BE8B05378EB1C71EF320AD746E1D3B628BA79B9859F741E082542A385502F25DBF55296C3A545E3872760AB7,
   0x3617DE4A96262C6F5D9E98BF9292DC29F8F41DBD289A147CE9DA3113B5F0B8C00A60B1CE1D7E819D7A431D7C90EA0E5F)

/-- A power modulo `m`; the first argument bounds the bits of the exponent. -/
def powMod (m : Nat) : Nat → Nat → Nat → Nat → Nat
  | 0, _, _, r => r
  | k + 1, b, e, r => powMod m k (b * b % m) (e / 2) (if e % 2 = 1 then r * b % m else r)

/-- The inverse modulo a prime of at most 384 bits. -/
def invMod (m x : Nat) : Nat := powMod m 384 (x % m) (m - 2) 1

/-- The sum of two points of the curve, none being the point at infinity. -/
def P384.add : Option (Nat × Nat) → Option (Nat × Nat) → Option (Nat × Nat)
  | none, q => q
  | q, none => q
  | some (x1, y1), some (x2, y2) =>
    let p := P384.p
    if x1 = x2 && (y1 + y2) % p = 0 then none
    else
      let m := if x1 = x2 then (3 * x1 * x1 + (p - 3)) * invMod p (2 * y1) % p else (y2 + p - y1) * invMod p (x2 + p - x1) % p
      let x3 := (m * m + 2 * p - x1 - x2) % p
      some (x3, (m * (x1 + p - x3) + p - y1) % p)

/-- A multiple of a point; the first argument bounds the bits of the factor. -/
def P384.mul : Nat → Nat → Option (Nat × Nat) → Option (Nat × Nat)
  | 0, _, _ => none
  | k + 1, s, q =>
    let r := P384.mul k (s / 2) (P384.add q q)
    if s % 2 = 1 then P384.add q r else r

/-- Whether a signature, r then s of 48 octets each, over SHA-384 of octets holds under a public key. -/
def ecdsaHolds (key : Nat × Nat) (l sig : List Byte) : Bool :=
  let n := P384.n
  let r := ofBE (sig.take 48)
  let s := ofBE ((sig.drop 48).take 48)
  let w := invMod n s
  let u := P384.mul 384 (ofBE (sha384 l) * w % n) (some P384.g)
  let v := P384.mul 384 (r * w % n) (some key)
  sig.length == 96 && 0 < r && r < n && 0 < s && s < n && (match P384.add u v with
    | some (x, _) => x % n == r
    | none => false)

/-- Whether a signature over octets holds under a key of the key store: 0 to 3 the image verification keys, 4 to 7 the debug
authority keys (R405, R443). -/
def signatureOk (k : Nat) (l sig : List Byte) : Bool := ecdsaHolds ((Config.publicX k).toNat, (Config.publicY k).toNat) l sig

end Sys2Proof.Machine
end

