-- ==== Sys2Proof/Machine/Flags.lean ====
section
/-! DEFINITION. Every status, flag and summary word that the part forms from its state rather than keeps: FG_STATUS, the time
bases, the scheduler, the packer, the health word of the pair (R336), the arbiter, and GLB_EVT_SUMMARY (R471). -/

namespace Sys2Proof.Machine

open Sys2Proof

/-- A word from bits, lowest first. -/
def flagWord (l : List Bool) : Nat := l.foldr (fun b x => b.toNat + 2 * x) 0

/-! ### Codes -/

/-- MODE of FG_STATUS (R53). -/
def FgMode.code : FgMode → Nat
  | .stopped => 0
  | .running => 1
  | .held => 2

/-- STATE of TBn_STATUS (R79). -/
def TbMode.code : TbMode → Nat
  | .free => 0
  | .acquiring => 1
  | .locked => 2
  | .holdover => 3

/-- STATE of ISLE_STATUS (R347). -/
def IsleState.code : IsleState → Nat
  | .solo => 0
  | .standby => 1
  | .standbyStale => 2
  | .standbySync => 3
  | .active => 4

/-- The number of a role's cause among COMMAND, SELF, SWAP and YIELD: as an event item tells it (log entry 22). -/
def RoleCause.code : RoleCause → Nat
  | .command => 20
  | .self => 21
  | .swap => 22
  | .yield => 23

/-! ### The generator and the arbiter -/

/-- FG_STATUS (R53): SEALED also while explicit crossings are called, whose acceptance seals them (R47). -/
def Chip.fgStatus (c : Chip) : Nat :=
  c.fg.mode.code + c.fg.tb * 4 + (c.sealed || !c.fg.explicit.isEmpty).toNat * 16 + (!c.copyFwd.isEmpty).toNat * 32

/-- MAINT_STATUS (R461). -/
def Chip.maintStatus (c : Chip) : Nat :=
  (match c.arbiter.running with | some a => a.prec | none => 0) +
    (c.arbiter.waiting.filter fun a => a.chan.isSome).length * 16

/-- CAL_STATUS (R399). -/
def Chip.calStatus (c : Chip) : Nat :=
  let busy := match c.arbiter.running with | some a => (a.prec == 4 || a.prec == 5) && !a.finished | none => false
  busy.toNat + c.autoWaits.toNat * 2 + calMask c.calib.items * 4

/-! ### The pair (R336, R347) -/

/-- ISLE_STATUS. -/
def Chip.isleStatus (c : Chip) : Nat :=
  c.pair.isle.code + c.pair.rank * 8 + c.pair.linkUp.toNat * 16 + (c.beaconSince c.csn).toNat * 32 +
    c.pair.selfPromoted.toNat * 64

/-- LINK_STATUS. -/
def Chip.linkStatus (c : Chip) : Nat := flagWord c.pair.laneGood + c.pair.spare * 8 + c.pair.halfRate.toNat * 32

/-- Whether a standby's state is one of the two that stand for STALE. -/
def IsleState.stale (s : IsleState) : Bool := s == .standbyStale || s == .standbySync

/-- Whether an isle stands by. -/
def IsleState.standing (s : IsleState) : Bool := s == .standby || s.stale

/-- The health word (R336). -/
def Chip.healthWord (c : Chip) : Nat :=
  let p := c.pair
  flagWord [p.isle == .active || p.isle == .standby, p.isle.stale, p.linkUp, p.spareUsed, p.halfRate, p.mismatch,
      p.eccRun.any (·.1), decide (16 < (p.eccRun.map (·.2)).sum),
      (List.range 7).any fun l => bit (c.rd (Reg.LANE_MARGIN l)) 16,
      !c.warning.vaonA, !c.warning.vaonB, c.warning.pin, p.skew, p.schemaBad, p.cidClash, p.diverged] +
    (p.mismatchRun.filter id).length * 65536

/-! ### GLB_EVT_SUMMARY (R471) -/

/-- The W1C registers that each bit of the summary names, and the domain that each is held in. -/
def summarySources : List (List Nat) :=
  let each (n : Nat) (f : Nat → Nat) : List Nat := (List.range n).map f
  [each 4 Reg.TB_EVT, each 5 Reg.TXTS_STATUS, [Reg.FPOUT_STATUS], [Reg.COMP_EVT], [Reg.MAP_EVT], [Reg.MODEL_EVT],
    [Reg.SCHED_EVT], [Reg.IN_EVT], [Reg.PK_EVT], each 16 Reg.DMX_EVT, each 32 Reg.PIX_EVT, each 16 Reg.HC_EVT,
    each 5 Reg.NET_EVT, each 16 Reg.STR_EVT, [Reg.HB_EVT], each 256 Reg.RING_EVT, each 8 Reg.TF_EVT, [Reg.PAIR_EVT],
    [Reg.MTR_EVT], each 8 Reg.MF_EVT, [Reg.CAL_EVT], each 16 Reg.CK_EVT, each 2 Reg.ECC_EVT, [Reg.UPD_EVT], [Reg.PWR_EVT]]

/-- Whether a W1C register stands in a domain that is on and holds a bit. -/
def Chip.eventSet (c : Chip) (off : Nat) : Bool :=
  (match blockAt off with | some (b, _) => c.domainOn b.domain | none => false) && c.rd off != 0

/-- GLB_EVT_SUMMARY. -/
def Chip.eventSummary (c : Chip) : Nat := flagWord (summarySources.map fun l => l.any c.eventSet)

end Sys2Proof.Machine
end

