-- ==== Sys2Proof/Machine/Pair.lean ====
section
/-! DEFINITION. The pair and the Strait link (R319 to R347): the link and its lanes, mirrored commits, the ferry with its
comparison and its adoption, the roles, beacons, and the PAIR commands (R314). -/

namespace Sys2Proof.Machine

open Sys2Proof

/-- PAIR_EVT's bit and the event at the same place of the group, with its items. -/
def Chip.pairEvent (c : Chip) (i : Nat) (items : List Byte) : Chip :=
  (c.setEvt Reg.PAIR_EVT (1 <<< i)).raise 128 (0x1301 + i) items

/-! ### Conflicts (R327, R331) -/

/-- PAIR_CONFLICT with a cause (24 RANK_OR_ID, 25 SCHEMA, 26 CID, as log entry 22 numbers them) and the peer's value. -/
def Chip.pairConflict (c : Chip) (cause value : Nat) : Chip := c.pairEvent 7 (itCause cause ++ it4 (value % 2 ^ 32))

/-- The CIDs of the isle's own source table; entries of zeros name no source. -/
def Chip.ownCids (c : Chip) : List Nat := ((c.recsOf 12).map fun e => bits e.2 0 128).filter (· != 0)

/-- The CIDs compared with the peer's: CID_CLASH and PAIR_CONFLICT for one that both use. -/
def Chip.compareCids (c : Chip) : Chip :=
  match c.ownCids.find? fun x => c.pair.peerCids.contains x with
  | none => c.setPair { c.pair with cidClash := false }
  | some x => (c.setPair { c.pair with cidClash := true }).pairConflict 26 x

/-- The CIDs that the peer's source table is found to have, compared. -/
def Chip.peerHas (c : Chip) (l : List Nat) : Chip := (c.setPair { c.pair with peerCids := l }).compareCids

/-- A source commit of the isle's own: its CIDs sent to the peer and compared (R327). -/
def Chip.sourcesChanged (c : Chip) : Chip :=
  if c.pair.inPair && c.pair.linkUp then (c.sendLink (.cids c.ownCids)).compareCids else c

/-- The ferry schema major of the part's CTRL image. -/
def Chip.schemaMajor (c : Chip) : Nat := (c.image 0).ferry

/-- What the isle tells of itself at link-up (R331), with that it has taken commits alone (R325). -/
def Chip.ownInfo (c : Chip) : PeerInfo :=
  { pairId := c.lv Reg.PAIR_ID, rank := c.pair.rank, active := c.pair.isle == .active, csn := c.csn, health := c.rd Reg.HEALTH_OWN
    prioAdj := c.pair.prioAdj, schema := c.schemaMajor, missed := c.pair.peerStale, macs := (List.range 4).map c.macOf
    cids := c.ownCids }

/-- The exchange at link-up sent, in a frame of no number: those that carry data begin at 1 (DEDUCED, log entry 35). -/
def Chip.sendExchange (c : Chip) : Chip :=
  let k : LinkPayload := .exchange c.ownInfo
  c.emit (.link 0 (linkOctets 0 (Config.linkType k).toNat (Config.linkBody k)))

/-- What the exchange at link-up shows, for an isle in the pair. -/
def Chip.judgePeer (c : Chip) (k : PeerInfo) : Chip :=
  let idBad := k.rank == c.pair.rank || k.pairId != c.lv Reg.PAIR_ID
  let schemaBad := k.schema != c.schemaMajor
  let c := c.setPair { c.pair with mirrorOk := !idBad && !schemaBad, schemaBad := schemaBad }
  let c := if idBad then c.pairConflict 24 (if k.rank == c.pair.rank then k.rank else k.pairId) else c
  let c := if schemaBad then c.pairConflict 25 k.schema else c
  c.compareCids

/-- The received MAC addresses loaded into the registers that the host has not written. -/
def Chip.loadMacs (c : Chip) (k : PeerInfo) : Chip :=
  (List.range 4).foldl (fun c p =>
    let m := k.macs.getD p 0
    let put (c : Chip) (off v : Nat) : Chip := if c.pair.macWritten.contains off then c else (c.wr off v).wrLive off v
    put (put c (Reg.PEER_MAC_LO p) (m % 2 ^ 32)) (Reg.PEER_MAC_HI p) (m / 2 ^ 32)) c

/-! ### Roles (R338 to R343) -/

/-- A change of role, with PAIR_ROLE_CHANGE. -/
def Chip.changeRole (c : Chip) (role : IsleState) (cause : RoleCause) : Chip :=
  (c.setPair { c.pair with isle := role }).pairEvent 0 (it4 role.code ++ itCause cause.code ++ it8 c.csn)

/-- Landfall (R340). What is forced into emission is found at the same crossing from the universes that enter service. -/
def Chip.landfall (c : Chip) (cause : RoleCause) : Chip :=
  let self := cause == .self
  (c.setPair { c.pair with
    selfPromoted := self, prioAdj := self.toNat, promoteAt := none, ferrySending := [], ferryLate := false, lateOwed := 0
    peerStale := false, received := none }).changeRole .active cause

/-- An active isle that hands its role over at a crossing: its state was the reference, so it is not stale (R341). -/
def Chip.handOver (c : Chip) (cause : RoleCause) : Chip :=
  (c.setPair { c.pair with
    bulkGot := true, armed := true, staleAt := none, readyNext := false, peerActive := true
    selfPromoted := false, ferrySending := [], received := none }).changeRole .standby cause

/-- The yield of an active isle of rank 1 (R343). -/
def Chip.yieldRole (c : Chip) : Chip :=
  (c.setPair { c.pair with
    bulkGot := false, armed := false, staleAt := none, readyNext := false, yieldAt := none
    selfPromoted := false, ferrySending := [], received := none }).changeRole .standbyStale .yield

/-- A yield called for at the open crossing when an active isle of rank 1 learns of an active peer, by a beacon of its pair or at link-up (R343). -/
def Chip.noteActivePeer (c : Chip) (k : PeerInfo) : Chip :=
  if c.pair.isle == .active && c.pair.rank = 1 && k.active && c.pair.yieldAt.isNone then
    c.setPair { c.pair with yieldAt := some c.openCsn }
  else c

/-- A standby to be made stale at a crossing, or at an earlier one that is due already; a bulk ferry has to come again. -/
def Chip.staleFrom (c : Chip) (csn : Nat) : Chip :=
  c.setPair { c.pair with staleAt := some (match c.pair.staleAt with | some n => min n csn | none => csn), bulkGot := false }

/-- Whether a standby is to be stale at this crossing. -/
def Chip.staleNow (c : Chip) : Bool := c.pair.staleAt.any fun n => decide (n ≤ c.csn)

/-- A standby made stale at a crossing. -/
def Chip.makeStale (c : Chip) : Chip :=
  (c.setPair { c.pair with isle := .standbyStale, armed := false, staleAt := none, readyNext := false }).pairEvent 1
    (it8 c.csn ++ it8 c.pair.ferryCsn)

/-- A standby made ready at a crossing. -/
def Chip.makeReady (c : Chip) : Chip :=
  (c.setPair { c.pair with isle := .standby, armed := true, readyNext := false }).pairEvent 2
    (it8 c.csn ++ it8 c.pair.ferryCsn)

/-- Whether the link or a beacon shows an active peer. -/
def Chip.activeSeen (c : Chip) : Bool := c.pair.peerActive && (c.pair.linkUp || c.pair.beaconSeen)

/-- Whether both engines that the shadow checks need are on. -/
def Chip.shadowOn (c : Chip) : Bool := c.domainOn 6 && c.domainOn 7

/-- What makes a standby stale at this crossing: a late ferry, no bulk ferry from its active peer, or a shadow engine off (R459);
with the link up a missed commit (R325) or a link for host accesses only (R331); with the link silent an active beacon that
has come since it fell silent (R339). -/
def Chip.staleDue (c : Chip) : Bool :=
  c.activeSeen && (c.pair.ferryLate || !c.pair.bulkGot || !c.shadowOn ||
    (if c.pair.linkUp then c.staleNow || !c.pair.mirrorOk else c.pair.beaconSilent))

/-- The state of a standby at a crossing (R321, R325, R333, R339, R344). A resync is a command's, and PAIR_ROLE_CHANGE tells it so; a
standby that turns stale or ready is told by the events of those alone, for none of the causes of PAIR_ROLE_CHANGE is theirs
(DEDUCED from R346, log entry 35). -/
def Chip.settleStandby (c : Chip) : Chip :=
  let p := c.pair
  if !p.isle.standing then c
  else if p.resync then (if p.isle == .standbySync then c else (c.setPair { p with armed := false }).changeRole .standbySync .command)
  else if p.isle == .standby then (if c.staleDue then c.makeStale else c)
  else if !c.activeSeen then c.setPair { p with isle := .standby, staleAt := none, readyNext := false }
  else if p.readyNext && p.bulkGot && p.linkUp && !c.staleNow && c.shadowOn then c.makeReady
  else if c.staleNow then c.setPair { p with staleAt := none } else c

/-- Beacons that have lapsed forgotten at a crossing. -/
def Chip.expireBeacon (c : Chip) : Chip := c.setPair { c.pair with beaconSeen := c.beaconSince c.csn }

/-- PAIR_CONFIG at its crossing (R319, R340). -/
def Chip.applyPairConfig (c : Chip) (rank policy tPromote : Nat) : Chip :=
  let c := c.setPair { c.pair with rank := rank, policy := policy, tPromote := tPromote }
  let c := if c.pair.isle == .active then c.setPair { c.pair with prioAdj := 0 } else c
  if c.pair.inPair then c
  else
    let c := (c.setPair { c.pair with inPair := true, armed := false, bulkGot := false }).changeRole .standby .command
    match c.pair.peer with
    | some k => if c.pair.linkUp then c.judgePeer k else c
    | none => c

/-- PAIR_PROMOTE at its crossing on the isle that it was given to: landfall if that is not stale (R338). -/
def Chip.applyPromote (c : Chip) : Chip := if c.pair.isle == .standby then c.landfall .command else c

/-- PAIR_PROMOTE at its crossing on the peer: an active isle hands over, and a standby stays one (R338). -/
def Chip.applyDemote (c : Chip) : Chip := if c.pair.isle == .active then c.handOver .command else c

/-- PAIR_SWAP at its crossing (R341). -/
def Chip.applySwap (c : Chip) : Chip :=
  if c.pair.isle == .active then c.handOver .swap
  else if c.pair.isle.standing then c.landfall .swap else c

/-- The isle leaves the pair as PD_STRAIT goes off (R319). -/
def Chip.leavePair (c : Chip) : Chip :=
  c.setPair { c.pair with
    beaconSilent := false, lastFerry := none, isle := .solo, inPair := false, linkUp := false, mirrorOk := false, resync := false, ferrySending := [], received := none
    promoteAt := none, yieldAt := none, armed := false, bulkGot := false, peer := none, peerActive := false
    beaconSeen := false, selfPromoted := false, prioAdj := 0, mirrorWait := [], laneGood := [false, false, false]
    halfRate := false, failedLane := none, spareUsed := false, keep := [] }

/-! ### The link (R328 to R331) -/

/-- Lanes that carry traffic. -/
def Chip.lanesInUse (c : Chip) : Nat := if !c.pair.linkUp then 0 else if c.pair.halfRate then 1 else 2

/-- The link down (R329). -/
def Chip.linkLost (c : Chip) : Chip :=
  let c := (c.pairEvent 3 (it4 c.lanesInUse ++ it8 c.csn)).inc Reg.LINK_DOWN_CNT
  let x := c.imageType 4
  let c := if x.linkHeld = some true then c.setType 4 { x with linkHeld := some false } else c
  c.setPair { c.pair with
    linkUp := false, mirrorOk := false, ferrySending := [], lateOwed := 0, bulkSent := false, keep := [], halfRate := false, failedLane := none
    spareUsed := false }

/-- Whether sequence number `a` is not later than `b`. -/
def seqUpTo (a b : Nat) : Bool := (b + 2 ^ 32 - a) % 2 ^ 32 < 2 ^ 31

/-- Whether the Strait item calibrates the spare now. -/
def Chip.spareCalibrates (c : Chip) : Bool :=
  c.calib.items.head? == some .straitLane && (match c.arbiter.running with | some a => a.prec == 5 && !a.finished | none => false) &&
    !c.calib.straitDone.contains c.pair.spare

/-- Whether it does under a CTRL image that puts lane events off (R496). -/
def Chip.spareBusy (c : Chip) : Bool := c.spareCalibrates && (c.image 0).version < 0x02050000

/-- At a crossing the spare replaces a failed lane (R328). -/
def Chip.spareLane (c : Chip) : Chip :=
  match c.pair.failedLane with
  | none => c
  | some l =>
    if !c.pair.linkUp || !c.pair.laneGood.getD c.pair.spare false || c.spareBusy then c
    else
      (c.setPair { c.pair with spare := l, halfRate := false, failedLane := none, spareUsed := true }).pairEvent 5
        (it4 l ++ it8 c.csn)

/-- A traffic lane fails while the spare is under calibration, with a CTRL image of 2.5.0 or later: the unit stops as one that has timed
out, and the rest of the item is skipped at half rate (R387, R496). -/
def Chip.stopSpare (c : Chip) : Chip :=
  if c.spareCalibrates && 0x02050000 ≤ (c.image 0).version then (c.calTimedOut .straitLane).straitEnded c.pair.spare [] else c

/-- A lane fails while the link is up. -/
def Chip.laneFails (c : Chip) (l : Nat) : Chip :=
  let p := c.pair
  if !p.laneGood.getD l false then c
  else
    let alone := p.laneGood.all id
    let c := c.setPair { p with laneGood := p.laneGood.set l false }
    if l = p.spare then c
    else if alone then (c.setPair { c.pair with halfRate := true, failedLane := some l }).stopSpare
    else c.linkLost

/-! ### Explicit crossings as they are called (R47, R48) -/

/-- P in cycles of 800 MHz, rounded up: the clock on which explicit crossings are spaced (DESIGN CHOICE, log entry 28). -/
def Chip.periodCycles (c : Chip) : Nat := ceilDiv (c.fg.rateD * 800000000) c.fg.rateN

/-- An explicit crossing called: asserted tXC after its acceptance, a free value; one called earlier than a period after the
crossing before it is held to the end of that period (R48, log entry 28). -/
def Chip.callExplicit (c : Chip) (chan : Option Chan) (tag : Nat) : Chip :=
  let wait : Nat := c.free % 20001
  let c := c.drew
  let prev := match c.fg.explicit.getLast? with
    | some x => x.instant + c.periodCycles
    | none => if c.csn = 0 then 0 else c.fg.crossCycle + c.periodCycles
  let at_ : Nat := if c.cycle < prev then prev else c.cycle + wait
  let n := c.csn + 1 + c.fg.explicit.length
  { c with fg := { c.fg with explicit := c.fg.explicit ++ ([⟨chan, tag, n, at_⟩] : List ExplicitCall) } }.fixPulse n
    (c.bound.advance (at_ - c.cycle)).ns .byCsn

/-! ### Mirrored commits (R324, R325) -/

/-- The standby told that it has not what the active takes at a crossing: of a commit that the active has taken alone, or under
another CSN, or not at all (R325). -/
def Chip.tellMissed (c : Chip) (csn : Nat) : Chip :=
  let c := c.setPair { c.pair with peerStale := true }
  if c.pair.linkUp then c.sendLink (.missed csn) else c

/-- What refuses a commit at its acceptance, which falls after the standby's acknowledgement (R40, R324): a full queue (R44), or the
configuration of its crossing with what is accepted before it (R18). -/
def Chip.refusedNow (c : Chip) (csn : Nat) (l : List Change) : Option Refuse :=
  let a := c.acceptedOnly
  if a.openCsn < csn && 1024 ≤ a.queueLevel then some (denied 14) else a.refusal (a.projected csn) csn l

/-- A commit of a channel that has waited for the standby accepted or refused: it is targeted anew at this instant (R40 to R42). -/
def Chip.acceptWaited (c : Chip) (w : MirrorWait) (h : CmdHdr) : Chip :=
  match c.target h w.payload true with
  | .error r => (c.tellMissed w.commit.target).refuse h w.commit.opcode r
  | .ok (csn, status) =>
    let c := if csn = w.commit.target then c else c.tellMissed w.commit.target
    match c.refusedNow csn w.commit.changes with
    | some r => (c.tellMissed w.commit.target).refuse h w.commit.opcode r
    | none => c.acceptHost h w.commit.opcode csn status w.commit.changes w.result

/-- A SHOW_CROSS that has waited for the standby accepted, while the generator is still stopped (R47). -/
def Chip.crossWaited (c : Chip) (w : MirrorWait) : Chip :=
  if c.fg.mode = .stopped then c.callExplicit (w.header.map CmdHdr.chan) w.commit.tag
  else
    let c := c.tellMissed w.commit.target
    match w.header with
    | some h => c.refuse h 0x0202 (denied 12)
    | none => c

/-- A commit that has waited for the standby accepted. A standby that holds it for a crossing which has sealed meanwhile is told. A
commit whose command has lost its channel (R433) is checked as any is, and goes on without a response. -/
def Chip.acceptMirrored (c : Chip) (w : MirrorWait) : Chip :=
  if w.commit.opcode = 0x0202 then c.crossWaited w
  else match w.header with
  | some h => c.acceptWaited w h
  | none =>
    let c := if w.commit.target < c.openCsn then c.tellMissed w.commit.target else c
    match w.commit.slot with
    | none =>
      let m := { w.commit with target := max w.commit.target c.openCsn }
      if (c.refusedNow m.target m.changes).isSome then c.tellMissed w.commit.target else c.accept m
    | some s => { c with dispatching := none }.acceptTask s w.commit.changes

/-- The commits that an acknowledgement covers accepted one by one, in order. -/
def Chip.ackMirrored (c : Chip) (seq : Nat) : Chip :=
  (c.pair.mirrorWait.takeWhile fun w => seqUpTo w.seq seq).foldl (fun c w =>
    (c.setPair { c.pair with mirrorWait := c.pair.mirrorWait.drop 1 }).acceptMirrored w) c

/-- A forwarded commit recorded on the standby for a crossing: what is local to an isle is not taken from a peer (R323). -/
def Chip.takeMirrored (c : Chip) (m : MirrorCommit) (csn : Nat) : Chip :=
  let l := m.changes.filter fun ch => ch.mirrored || ch == .demote
  ((c.accept ⟨none, 0, m.opcode, csn, l, none⟩).writePending l).notePeak

/-- A forwarded commit taken up by the standby, its registers' pending values with it. One whose crossing has sealed, or that
finds the queue full, it cannot apply, and it is stale (R325). -/
def Chip.applyMirrored (c : Chip) (m : MirrorCommit) : Chip :=
  if m.changes.contains .cross then c.callExplicit none 0
  else if m.csn < c.openCsn || c.openCsn < m.csn && 1024 ≤ c.queueLevel then c.staleFrom m.csn
  else c.takeMirrored m m.csn

/-- A commit mirrored during a bulk ferry, which is applied after it (R344): one whose crossing the active has sealed meanwhile at
the next that is not. `now` is the active's CSN, which the isle takes at its next crossing. -/
def Chip.applyHeld (c : Chip) (now : Nat) (m : MirrorCommit) : Chip :=
  if m.changes.contains .cross then c.callExplicit none 0
  else c.takeMirrored m (max m.csn (now + (c.openCsn - c.csn)))

/-- A payload of a link frame delivered. Commits and ferries that have come whole are rows of their own. -/
def Chip.deliverLink (c : Chip) (k : LinkPayload) : Chip :=
  match k with
  | .missed csn => if c.pair.isle.standing then c.staleFrom csn else c
  | .cids l => if c.pair.inPair then c.peerHas l else c
  | .bulkStart => if c.pair.isle.standing then c.setPair { c.pair with resync := true } else c
  | .laneSwitch csn lane sel spare =>
    c.accept ⟨none, 0, 0, max csn c.openCsn, .reg (Reg.LANE_SEL (4 + lane)) (BitVec.ofNat 32 (clampReg c (Reg.LANE_SEL (4 + lane)) sel)) ::
      (match spare with | some l => [.straitRotate l] | none => []), none⟩
  | _ => c

/-- A frame from the peer marked as heard. -/
def Chip.heardLink (c : Chip) : Chip := c.setPair { c.pair with frameCsn := c.csn }

/-- Whether the octets of a link frame stand up to their check: the header with its number and its length, at most 2,048 octets of
payload, and the CRC-64 (R329). -/
def linkCheck (seq : Nat) (l : List Byte) : Bool :=
  let n := l.length - 24
  24 ≤ l.length && n ≤ 2048 && le l 4 4 == seq && le l 8 2 == n &&
    le l (16 + n) 8 == crc64 (leBytes 4 seq ++ l.take (16 + n))

/-- A link frame received (R329). Frames that carry data are numbered and acknowledged; keepalives, acknowledgements and
NAKs are not (DEDUCED, log entry 35). -/
def Chip.linkFrame (c : Chip) (seq : Nat) (ok : Bool) (k : LinkPayload) : Chip :=
  if !ok then (c.inc Reg.LINK_CRC_ERR).emit (.linkNak ((c.pair.rxSeq + 1) % 2 ^ 32))
  else
    let c := c.heardLink
    match k with
    | .keepalive => c
    | .ack q =>
      (c.setPair { c.pair with acked := q, keep := c.pair.keep.filter fun x => !seqUpTo x.1 q }).ackMirrored q
    | .nak q =>
      (c.pair.keep.reverse.filter fun x => seqUpTo q x.1).foldl (fun c x =>
        (c.emit (.link x.1 x.2)).inc Reg.LINK_RETRY_CNT) c
    | k =>
      if seq ≠ (c.pair.rxSeq + 1) % 2 ^ 32 then c.emit (.linkNak ((c.pair.rxSeq + 1) % 2 ^ 32))
      else ((c.setPair { c.pair with rxSeq := seq }).emit (.linkAck seq)).deliverLink k

/-! ### The ferry (R332 to R335) -/

/-- Whether the engines of a standby compare with an active peer's. -/
def Chip.shadows (c : Chip) : Bool := c.pair.isle.standing && c.pair.linkUp && c.pair.mirrorOk

/-- Whether two lists of numbered values differ at a number that either has. -/
def differAt (a b : List (Nat × Nat)) (i : Nat) : Bool :=
  ((a.find? fun e => e.1 == i).map (·.2)) != ((b.find? fun e => e.1 == i).map (·.2))

/-- Whether a mismatch of universe `u` is excused (R335): a measured reading in the frame or the one before, an input universe of
another content, a stream at another frame, or an overrun. -/
def Chip.excused (c : Chip) (d : FerryData) (u : Nat) : Bool :=
  let fs := (c.fixtures.map (·.1)).filter fun f => c.writesTo f u
  let fixed := d.corrected ++ (if c.pair.correctedPrev.1 + 1 = d.csn then c.pair.correctedPrev.2 else [])
  let own := ((c.pair.ownLatch.find? fun e => e.1 == d.csn).map (·.2)).getD ([], [])
  fs.any (fun f =>
    fixed.contains f ||
    (InPatchRec.en (c.recAt 11 f) && differAt own.1 d.digests (InPatchRec.idx (c.recAt 11 f))) ||
    (c.layersOf (FixRec.canvas (c.recAt 1 f))).any fun l =>
      LayerRec.source l.2 == 1 && differAt own.2 d.streams (LayerRec.stream l.2)) ||
  d.overrun.contains u || c.pair.ownOverrun.contains (d.csn, u)

/-- The universes whose checks differ, in ascending order. -/
def Chip.differing (c : Chip) (d : FerryData) : List Nat :=
  ((d.checks.filter fun e => c.pair.ownChecks.any fun o => o.1 == d.csn && o.2.1 == e.1 && o.2.2 != e.2).map (·.1)).insertionSort
    fun a b => a ≤ b

/-- The comparison of a completed ferry (R335). -/
def Chip.compareChecks (c : Chip) (d : FerryData) : Chip :=
  let diff := c.differing d
  let bad := diff.filter fun u => !c.excused d u
  let c := (c.add Reg.CHECK_EXCUSED_CNT (diff.length - bad.length)).add Reg.CHECK_MISMATCH_CNT bad.length
  let c := c.setPair { c.pair with
    mismatch := !bad.isEmpty, mismatchRun := ((!bad.isEmpty) :: c.pair.mismatchRun).take 64, correctedPrev := (d.csn, d.corrected)
    ownChecks := c.pair.ownChecks.filter fun o => d.csn < o.1
    ownOverrun := c.pair.ownOverrun.filter fun o => d.csn < o.1 }
  match bad with
  | [] => c
  | u :: _ => (c.wr Reg.MISMATCH_FIRST (u + 2 ^ 31)).pairEvent 6
      (it8 d.csn ++ it4 u ++ it4 bad.length ++ it4 (diff.length - bad.length))

/-- The registers that a completed ferry sets (R333); its time counts from the crossing at which it began. -/
def Chip.noteFerry (c : Chip) (csn octets : Nat) : Chip :=
  let from_ := ((c.pair.crossAt.find? fun e => e.1 == csn + 1).map (·.2)).getD c.fg.crossCycle
  c.setPair { c.pair with ferryCsn := csn, ferryOctets := octets, ferryUs := (c.cycle - from_) / 800 }

/-- A ferry complete on the standby. A late one is still carried to its end, but makes the standby ready no more; one that ends
after the crossing that was to adopt it is not adopted. -/
def Chip.ferryIn (c : Chip) (d : FerryData) : Chip :=
  let c := (c.noteFerry d.csn d.octets).compareChecks d
  let p := c.pair
  let skew := 1000 < ((d.instant : Int) - p.crossPrev).natAbs
  let older := p.ferryLate.toNat < p.lateOwed
  c.setPair { p with
    received := if older then p.received else some (d, d.csn + 1)
    readyNext := if p.lateOwed = 0 then c.shadowOn else p.readyNext
    lateOwed := p.lateOwed - 1, peerActive := true, peerHealth := d.health, skew := skew }

/-- A ferry complete on the active: its last frame has been acknowledged, and its octets are those sent. -/
def Chip.ferryOut (c : Chip) (d : FerryData) : Chip :=
  match c.pair.ferrySending.find? fun e => e.1 == d.csn with
  | none => c
  | some e =>
    let c := c.noteFerry e.1 e.2
    c.setPair { c.pair with ferrySending := c.pair.ferrySending.filter fun x => x.1 != d.csn }

/-- The digest of each input universe of which the frame has a snapshot (R332): CRC-64 over the CID, the priority and the data of its
sources, in the order of their CIDs (the octets are a DESIGN CHOICE, log entry 35). -/
def Chip.inputDigests (c : Chip) : List (Nat × Nat) :=
  (((c.frame.sources.map Source.entry).eraseDups).insertionSort fun a b => a ≤ b).map fun i =>
    (i, crc64 (((c.frame.sources.filter fun x => x.entry == i).insertionSort fun a b => a.cid ≤ b.cid).map fun x =>
      beBytes 16 x.cid ++ BitVec.ofNat 8 x.snapPrio :: x.snap).flatten)

/-- The timestamp that each stream has taken (R332). -/
def Chip.streamLatch (c : Chip) : List (Nat × Nat) := c.streams.filterMap fun e => e.2.taken.map fun t => (e.1, t.1)

/-- The universes of the frame that were overrun: not emitted, or in service and not decided. -/
def Chip.overrunNow (c : Chip) : List Nat :=
  (c.frame.unemitted ++ (c.services.filter fun e => !c.frame.decided.contains e.1).map (·.1)).eraseDups

/-- The ferry of the frame that ends, as its engines leave it (R332), every item whole. Its octets are counted as it is sent. -/
def Chip.gather (c : Chip) : FerryData :=
  let k := c.frame.csn
  { csn := k, instant := c.fg.last, health := c.rd Reg.HEALTH_OWN, prioAdj := c.pair.prioAdj, scales := c.limiters.map Limiter.scale
    checks := (c.pair.ownChecks.filter fun o => o.1 == k).map (·.2)
    overrun := c.overrunNow
    univs := c.univs.map fun e =>
      { index := e.1, lastCheck := e.2.lastCheck, lastPar := e.2.lastPar, seq := e.2.seq, repeatLeft := e.2.repeatLeft
        force := e.2.force, termLeft := e.2.termLeft, base := c.cycle - e.2.base }
    syncSeqs := c.syncSeqs
    cueVals := c.cueVals
    fades := c.fades.map fun e =>
      { key := e.1, v0 := e.2.v0, v1 := e.2.v1, len := e.2.len, curve := e.2.curve, slot := e.2.slot, start := k - e.2.n }
    effects := c.effects.map fun e =>
      { index := e.1, wave := e.2.wave, attr := e.2.attr, amp := e.2.amp, fixFirst := e.2.fixFirst, fixCount := e.2.fixCount
        period := e.2.period, phaseStep := e.2.phaseStep, start := k - e.2.n, stop := e.2.stop }
    tasks := c.tasks.map fun e =>
      { slot := e.1, record := e.2.record, gen := e.2.gen, state := e.2.state.code, flag := e.2.flag, toFired := e.2.toFired
        result := e.2.result.code, csnLo := e.2.csnLo, waited := c.cycle - e.2.loaded, aimed := e.2.aimed, fades := e.2.fades
        serial := e.2.serial }
    tEst := c.tEst, corrected := c.pair.correctedNow, digests := c.inputDigests, streams := c.streamLatch, octets := 0 }

/-- The live records that a bulk ferry carries (R344): of every mirrored table, the cell positions inside the blocks of enabled
fixtures with PLACE 1. -/
def Chip.bulkTables (c : Chip) : List (Nat × List (Nat × Nat)) :=
  let inBlock (i : Nat) : Bool := c.fixtures.any fun f =>
    FixRec.place f.2 == 1 && FixRec.cellBase f.2 ≤ i && i < FixRec.cellBase f.2 + FixRec.cellCount f.2
  (((List.range 16).drop 1).filter (· != 12)).map fun t => (t, (c.recsOf t).filter fun e => t != 7 || inBlock e.1)

/-- The 64-byte blocks in which two lists of numbered items differ, items of `size` octets laid one after another (R332). Which octets
of an item stand for what is not given: a block counts where an item that it meets has changed (DESIGN CHOICE, log entry 35). -/
def dirtyBlocks {α : Type} [BEq α] (size : Nat) (old new : List (Nat × α)) : List Nat :=
  let keys := ((old.map (·.1)) ++ new.map (·.1)).eraseDups.filter fun k =>
    ((old.find? fun e => e.1 == k).map (·.2)) != ((new.find? fun e => e.1 == k).map (·.2))
  ((keys.map fun k => (List.range ((k * size % 64 + size + 63) / 64)).map fun i => k * size / 64 + i).flatten).eraseDups

/-- Whether an item of `size` octets meets one of the blocks. -/
def inBlocks (size : Nat) (l : List Nat) (k : Nat) : Bool :=
  (List.range ((k * size % 64 + size + 63) / 64)).any fun i => l.contains (k * size / 64 + i)

/-- The changed blocks of the dirty items of a ferry since the one before: universe state of 12 octets, cue values of 2, fades of 16 by
their place, generators of 32, and task records of 72. -/
structure FerryDirty where
  univs   : List Nat
  cueVals : List Nat
  fades   : List Nat
  effects : List Nat
  tasks   : List Nat
  deriving DecidableEq, Repr

/-- What has changed since the last ferry; for the first one, what is not as at reset. -/
def ferryDirty (d : FerryData) (old : Option FerryData) : FerryDirty :=
  let of (f : FerryData → List (Nat × Nat)) := (old.map f).getD []
  { univs := dirtyBlocks 12 (((old.map FerryData.univs).getD []).map fun x => (x.index, x)) (d.univs.map fun x => (x.index, x))
    cueVals := dirtyBlocks 2 (of FerryData.cueVals) d.cueVals
    fades := dirtyBlocks 16 ((((old.map FerryData.fades).getD []).zipIdx).map fun e => (e.2, e.1)) (d.fades.zipIdx.map fun e => (e.2, e.1))
    effects := dirtyBlocks 32 (((old.map FerryData.effects).getD []).map fun x => (x.index, x)) (d.effects.map fun x => (x.index, x))
    tasks := dirtyBlocks 72 (((old.map FerryData.tasks).getD []).map fun x => (x.slot, x)) (d.tasks.map fun x => (x.slot, x)) }

/-- The octets of a ferry: the whole items, 1,573,504, and its dirty blocks (R332). -/
def FerryDirty.octets (x : FerryDirty) : Nat :=
  1573504 + 64 * (x.univs.length + x.cueVals.length + x.fades.length + x.effects.length + x.tasks.length)

/-- A ferry as it is sent: of the dirty items, those in the changed blocks. -/
def ferrySend (d : FerryData) (x : FerryDirty) : FerryData :=
  { d with
    univs := d.univs.filter fun e => inBlocks 12 x.univs e.index
    cueVals := d.cueVals.filter fun e => inBlocks 2 x.cueVals e.1
    fades := (d.fades.zipIdx.filter fun e => inBlocks 16 x.fades e.2).map (·.1)
    effects := d.effects.filter fun e => inBlocks 32 x.effects e.index
    tasks := d.tasks.filter fun e => inBlocks 72 x.tasks e.slot
    octets := x.octets }

/-- The ferry of a frame sent (R332, R333): what it takes from LPDDR5X it reads there, the cue values, fades and generators from their
bank of the frame and the rest from its half of the buffer. -/
def Chip.sendFerry (c : Chip) (d : FerryData) : Chip :=
  let x := ferryDirty d c.pair.lastFerry
  let c := x.cueVals.foldl (fun c b => c.noteRead 0 6 (c.valueAt d.csn 0 + 64 * b) 64) c
  let c := x.fades.foldl (fun c b => c.noteRead 0 6 (c.fadeAt d.csn 0 + 64 * b) 64) c
  let c := d.effects.foldl (fun c e => if inBlocks 32 x.effects e.index then c.noteRead 0 6 (c.effectAt d.csn e.index) 2048 else c) c
  let c := c.noteRead 0 6 (c.ferryAt d.csn) 0x400000
  (c.setPair { c.pair with
    ferrySending := c.pair.ferrySending ++ [(d.csn, x.octets)], lastFerry := some { d with octets := x.octets } }).sendLink (.ferry (ferrySend d x))

/-- The octets of a bulk ferry (R344): 39,154,336, and 8 for each cell position. -/
def bulkOctets (tables : List (Nat × List (Nat × Nat))) : Nat :=
  39154336 + 8 * (((tables.find? fun t => t.1 == 7).map fun t => t.2.length).getD 0)

/-- The ferry of the frame before begun at a crossing by an active isle; the bulk ferry of a resync instead, and none while that
runs (R333, R344). -/
def Chip.startFerry (c : Chip) : Chip :=
  let p := c.pair
  let c := c.setPair { p with
    ferryLate := false, correctedNow := [], gathered := none, crossAt := ((c.csn, c.cycle) :: p.crossAt).take 8 }
  match p.gathered with
  | none => c
  | some d =>
    if !(p.isle == .active && p.linkUp && p.mirrorOk && 0 < d.csn) then c
    else if !p.resync then c.sendFerry d
    else if p.bulkSent then c
    else
      let l := c.bulkTables
      let d := { d with octets := bulkOctets l }
      (c.setPair { c.pair with bulkSent := true, lastFerry := some d }).sendLink (.bulk ⟨d, l, c.csn⟩)

/-! ### Adoption (R334) -/

/-- STATE of a task from its code. -/
def taskStateOf : Nat → TaskState
  | 1 => .waiting
  | 2 => .ready
  | 3 => .dispatching
  | 4 => .accepted
  | 5 => .ended
  | _ => .free

/-- RESULT of a task from its code. -/
def taskResultOf : Nat → TaskResult
  | 1 => .done
  | 2 => .late
  | 3 => .timedOut
  | 4 => .cancelled
  | 5 => .cancelledBeforeDispatch
  | 6 => .resourceDenied
  | 7 => .depInvalid
  | 8 => .missed
  | _ => .none

/-- A ferried fade as it stands in frame `k` + 1. -/
def FerryFade.fade (x : FerryFade) (k : Nat) : Fade := ⟨x.v0, x.v1, x.len, k + 1 - x.start, x.curve, x.slot⟩

/-- A ferried generator as it stands in frame `k` + 1. A stop has run one frame more. -/
def FerryEffect.effect (x : FerryEffect) (k : Nat) : Effect :=
  ⟨x.wave, x.attr, x.amp, x.fixFirst, x.fixCount, x.period, x.phaseStep, k + 1 - x.start, x.stop.map fun m => (m.1, m.2 + 1)⟩

/-- A ferried task, with the time it has waited. -/
def FerryTask.task (x : FerryTask) (cycle : Nat) : Task :=
  { record := x.record, gen := x.gen, state := taskStateOf x.state, flag := x.flag, toFired := x.toFired
    result := taskResultOf x.result, csnLo := x.csnLo, loaded := cycle - x.waited, order := cycle, aimed := x.aimed
    fades := x.fades, serial := x.serial }

/-- A universe with its ferried state; the base comes as its age. While the isle itself still sends its termination, as one that
has left ACTIVE does (R195, R320), the count and the numbers of its packets stay its own. -/
def FerryUniv.onto (x : FerryUniv) (cycle : Nat) (s : UnivState) : UnivState :=
  let own := s.termSpec.isSome && 0 < s.termLeft
  { s with lastCheck := x.lastCheck, lastPar := x.lastPar, seq := if own then s.seq else x.seq, repeatLeft := x.repeatLeft
           force := x.force, termLeft := if own then s.termLeft else x.termLeft, base := cycle - x.base }

/-- Fades that a standby has started at the crossing after the ferried frame stand beside the ferried ones. -/
def mergeFades (k : Nat) (own : Sparse Fade) (l : List FerryFade) : Sparse Fade :=
  l.foldl (fun m x => if own.any fun e => e.1 == x.key && e.2.n = 0 then m else insertFade x.key (FerryFade.fade x k) m)
    (own.filter fun e => e.2.n = 0)

/-- Generators likewise. -/
def mergeEffects (k : Nat) (own : Sparse Effect) (l : List FerryEffect) : Sparse Effect :=
  let fresh := own.filter fun e => e.2.n = 0
  (l.filter fun x => !fresh.any fun e => e.1 == x.index).foldl (fun m x =>
    (m.filter fun e => e.1 < x.index) ++ [(x.index, FerryEffect.effect x k)] ++ m.filter fun e => x.index < e.1) fresh

/-- The numbers at which either of two lists has an item. -/
def keysOf {α β : Type} (a : List (Nat × α)) (b : List (Nat × β)) : List Nat := ((a.map (·.1)) ++ b.map (·.1)).eraseDups

/-- The value that a ferried list gives a number; what it does not list is as at reset. -/
def ferried {α : Type} (dflt : α) (l : List (Nat × α)) (i : Nat) : α := ((l.find? fun e => e.1 == i).map (·.2)).getD dflt

/-- The ferried state of a universe, that at reset where the ferry lists none. -/
def ferryUniv (d : FerryData) (cycle i : Nat) : FerryUniv :=
  let u := UnivState.reset
  ferried { index := i, lastCheck := u.lastCheck, lastPar := u.lastPar, seq := u.seq, repeatLeft := u.repeatLeft, force := u.force
            termLeft := u.termLeft, base := cycle - u.base } (d.univs.map fun x => (x.index, x)) i

/-- Whether a ferry differs from what the standby's own engines had produced for its frame. -/
def Produced.differs (p : Produced) (d : FerryData) : Bool :=
  (keysOf p.cueVals d.cueVals).any (fun i => natAt p.cueVals i != ferried 0 d.cueVals i) ||
  d.fades.any (fun x => !p.fades.any fun e =>
    e.1 == x.key && e.2 == ⟨x.v0, x.v1, x.len, d.csn - x.start, x.curve, x.slot⟩) ||
  p.fades.any (fun e => !d.fades.any fun x => x.key == e.1) ||
  d.effects.any (fun x => !p.effects.any fun e => e.1 == x.index && e.2.n == d.csn - x.start) ||
  p.effects.any (fun e => !d.effects.any fun x => x.index == e.1) ||
  (keysOf p.syncSeqs d.syncSeqs).any (fun i => natAt p.syncSeqs i != ferried 0 d.syncSeqs i) ||
  (keysOf p.tEst d.tEst).any (fun i => Store.get (fun _ => 25) p.tEst i != ferried 25 d.tEst i) ||
  (keysOf p.univs (d.univs.map fun x => (x.index, x))).any fun i =>
    let x := ferryUniv d 0 i
    let u := Store.get (fun _ => UnivState.reset) p.univs i
    u.lastCheck != x.lastCheck || u.lastPar != x.lastPar || u.seq != x.seq || u.repeatLeft != x.repeatLeft ||
      u.force != x.force || u.termLeft != x.termLeft

/-- The ferried state taken over, but for the CSN, as it stands in frame `k` + 1: what the ferry does not list is as at reset (R334). -/
def Chip.takeState (c : Chip) (d : FerryData) (k : Nat) : Chip :=
  let c : Chip := { c with
    fades := mergeFades k c.fades d.fades
    effects := mergeEffects k c.effects d.effects
    cueVals := (keysOf c.cueVals d.cueVals).foldl (fun m i =>
      if c.fades.any fun x => x.1 == i && x.2.n = 0 then m else setNat m i (ferried 0 d.cueVals i)) c.cueVals
    syncSeqs := (keysOf c.syncSeqs d.syncSeqs).foldl (fun m i => setNat m i (ferried 0 d.syncSeqs i)) c.syncSeqs
    tasks := [] }
  let c := c.notePeak
  let c := d.tasks.foldl (fun c x => c.setTask x.slot (FerryTask.task x c.cycle)) c
  let c := (keysOf c.univs (d.univs.map fun x => (x.index, x))).foldl (fun c i =>
    c.setUniv i (FerryUniv.onto (ferryUniv d c.cycle i) c.cycle (c.univ i))) c
  (keysOf c.tEst d.tEst).foldl (fun c i => (c.setEstimate i (ferried 25 d.tEst i)).heat i (Store.get (fun _ => 0) c.drawn i)) c

/-- The CSN taken from the active: everything that counts from the isle's own moves with it. -/
def Chip.moveCsn (c : Chip) (n : Nat) : Chip :=
  let by_ : Int := (n : Int) - c.csn
  let mv (x : Nat) : Nat := ((x : Int) + by_).toNat
  { c with
    csn := n
    commits := c.commits.map fun m => if m.chan.isSome then { m with target := mv m.target } else m
    fg := { c.fg with explicit := c.fg.explicit.map fun x => { x with csn := mv x.csn } }
    pulses := { c.pulses with
      outDone := mv c.pulses.outDone, outDue := c.pulses.outDue.map fun x => { x with csn := mv x.csn } }
    pair := { c.pair with
      frameCsn := mv c.pair.frameCsn, beaconCsn := mv c.pair.beaconCsn, staleAt := c.pair.staleAt.map fun x => max x (n + 1)
      crossAt := c.pair.crossAt.map fun e => (mv e.1, e.2) } }

/-- The adoption at crossing k + 2 of the ferry of frame k: the part as it stands before that crossing, with the CSN of
frame k + 1, which the active has then. A bulk ferry brings that CSN with it. -/
def Chip.adopt (c : Chip) : Chip :=
  match c.pair.received with
  | none => c
  | some (d, n) =>
    let c := c.setPair { c.pair with received := none }
    if !c.pair.isle.standing then c
    else
      let differs := d.csn + 1 == c.csn && c.pair.produced.differs d
      let c := if n == c.csn then c else c.moveCsn n
      (c.takeState d (n - 1)).setPair { c.pair with diverged := differs }

/-- What an isle of the pair has produced by the end of a frame: a standby keeps it for the comparison and for the next adoption,
and an active isle for its ferry. -/
def Chip.keepProduced (c : Chip) : Chip :=
  let k := c.frame.csn
  let p := c.pair
  if p.isle == .active then
    (c.setPair { p with gathered := some c.gather, ownChecks := [] }).rewritten 0 (c.ferryAt k) 0x400000
  else if !p.isle.standing then c
  else c.setPair { p with
    produced := ⟨c.univs, c.syncSeqs, c.cueVals, c.fades, c.effects, c.tEst⟩, crossPrev := c.fg.last
    ownChecks := p.ownChecks.filter fun o => k ≤ o.1 + 3
    ownOverrun := (c.overrunNow.map fun u => (k, u)) ++ p.ownOverrun.filter fun o => k ≤ o.1 + 3
    ownLatch := (k, (c.inputDigests, c.streamLatch)) :: p.ownLatch.take 3 }

/-! ### Beacons (R337) and the health word -/

/-- The health of the frame that ends, counted into the last 64 (R336). -/
def Chip.countHealth (c : Chip) : Chip :=
  let ce := c.eccDram.ceHere + c.eccLagoon.ceHere
  let ue := c.eccDram.raised || c.eccLagoon.raised
  { c with
    eccDram := { c.eccDram with ceHere := 0, raised := false, ueCount := 0 }
    eccLagoon := { c.eccLagoon with ceHere := 0, raised := false, ueCount := 0 }
    pair := { c.pair with eccRun := ((ue, ce) :: c.pair.eccRun).take 64 } }

/-- HEALTH_OWN at a crossing. -/
def Chip.noteHealth (c : Chip) : Chip := c.wr Reg.HEALTH_OWN c.healthWord

/-- One TLV of LLDP (PRESUMED from IEEE 802.1AB, log entry 24). -/
def lldpTlv (type : Nat) (l : List Byte) : List Byte := beBytes 2 (type * 512 + l.length) ++ l

/-- The beacon of a port (R337): an LLDP frame to PEER_MACp with the chassis ID and the port ID, of the subtypes of a MAC address and
of a local name (PRESUMED), a TTL of 1 s, the pair's TLV under Trelwald's OUI, and the end. -/
def Chip.beaconOctets (c : Chip) (p : Nat) : List Byte :=
  let mac := beBytes 6 (c.macOf p)
  beBytes 2 (bits (c.lv (Reg.PEER_MAC_HI p)) 0 16) ++ beBytes 4 (c.lv (Reg.PEER_MAC_LO p)) ++ mac ++ beBytes 2 0x88CC ++
    lldpTlv 1 (4 :: mac) ++ lldpTlv 2 [7, BitVec.ofNat 8 p] ++ lldpTlv 3 (beBytes 2 1) ++
    lldpTlv 127 (beBytes 3 0x5CE831 ++ Config.beaconTlv (c.lv Reg.PAIR_ID) c.pair.rank (c.pair.isle == .active) c.csn
      (c.rd Reg.HEALTH_OWN) c.pair.prioAdj) ++ lldpTlv 0 []

/-- The beacons of a crossing, from an isle in the pair. -/
def Chip.sendBeacons (c : Chip) : Chip :=
  if !c.pair.inPair then c
  else ((List.range 4).filter fun p => c.portUp p && bit (c.lv Reg.PAIR_BEACON_PORTS) p).foldl (fun c p =>
    let l := c.beaconOctets p
    c.sendBehind p (max 60 l.length) (.beacon p l)) c

/-! ### Meanings of the link -/

/-- A meaning of the link, while PD_STRAIT is on and the link is as it must be. -/
def onLink (up : Bool) (f : Chip → Chip) (s : State) : Host.Outcome State Fault Refusal :=
  onChip (fun _ c => if c.domainOn 10 && c.pair.linkUp == up then c.inCycle f else c) s

/-- STRAIT_LINK_FRAME_RECEIVE (R329): the octets of a frame, and what they bring, whose layout the spec does not give. -/
def execStraitLinkFrameReceive (seq : Nat) (octets : List Byte) (payload : LinkPayload) (s : State) :
    Host.Outcome State Fault Refusal :=
  onLink true (fun c => c.linkFrame seq (linkCheck seq octets) payload) s

/-- STRAIT_LINK_SILENT (R329). -/
def execStraitLinkSilent (s : State) : Host.Outcome State Fault Refusal := onLink true (fun c => c.linkLost) s

/-- STRAIT_LINK_UP (R331): the link trained, on all three lanes with lane 2 or the last spare to spare. -/
def execStraitLinkUp (peer : PeerInfo) (s : State) : Host.Outcome State Fault Refusal :=
  onLink false (fun c =>
    let c := c.setPair { c.pair with
      linkUp := true, beaconSilent := false, lastFerry := none, mirrorOk := false, laneGood := [true, true, true], halfRate := false, failedLane := none
      spareUsed := false, peer := some peer, peerActive := peer.active, peerHealth := peer.health, peerCids := peer.cids
      txSeq := 0, rxSeq := 0, keep := [], acked := 0, frameCsn := c.csn, linkAt := c.cycle }
    let c := if peer.missed && peer.active then c.staleFrom (c.csn + 1) else c
    let c := ((c.pairEvent 4 (it4 c.lanesInUse ++ it8 c.csn)).sendExchange).loadMacs peer
    if c.pair.inPair then (c.judgePeer peer).noteActivePeer peer else c) s

/-- STRAIT_LANE_FAIL (R328). -/
def execStraitLaneFail (lane : Nat) (s : State) : Host.Outcome State Fault Refusal :=
  within (lane < 3) (onLink true (fun c => c.laneFails lane) s)

/-- STRAIT_KEEPALIVE (R329). -/
def execStraitKeepalive (s : State) : Host.Outcome State Fault Refusal := onLink true (fun c => c.emit .linkKeepalive) s

/-- MIRROR_COMMIT_RECEIVE (R324, R344): while a bulk ferry runs, applied after it; during a handover of the control cores neither
acknowledged nor applied (R421). -/
def execMirrorCommitReceive (m : MirrorCommit) (s : State) : Host.Outcome State Fault Refusal :=
  onLink true (fun c =>
    if !(c.pair.inPair && c.pair.mirrorOk && (c.pair.isle.standing || m.changes.contains .demote)) || c.update.handover then c
    else
      let c := c.heardLink.emit (.linkAck c.pair.rxSeq)
      if c.pair.resync then c.setPair { c.pair with pending := c.pair.pending ++ [m] } else c.applyMirrored m) s

/-- MIRROR_ACK_TIMEOUT (R325): the first commit that waits is accepted alone. -/
def execMirrorAckTimeout (s : State) : Host.Outcome State Fault Refusal :=
  onChip (fun _ c =>
    match c.pair.mirrorWait with
    | [] => c
    | w :: rest => ((c.setPair { c.pair with mirrorWait := rest }).tellMissed w.commit.target).acceptMirrored w) s

/-- FERRY_COMPLETE (R333, R335). -/
def execFerryComplete (d : FerryData) (s : State) : Host.Outcome State Fault Refusal :=
  onLink true (fun c =>
    if c.pair.isle == .active then c.ferryOut d
    else if c.shadows && !c.pair.resync then c.ferryIn d else c) s

/-- FERRY_LATE (R333): P/4 after the crossing the ferry has not completed, and the link has been up throughout. -/
def execFerryLate (s : State) : Host.Outcome State Fault Refusal :=
  onLink true (fun c =>
    let awaited := if c.pair.isle == .active then c.pair.ferrySending.any fun e => e.1 == c.csn - 1
      else c.shadows && !c.pair.resync && c.activeSeen && c.pair.received.isNone
    if c.pair.ferryLate || !awaited || c.csn = 0 || c.fg.crossCycle < c.pair.linkAt then c
    else
      let c := (c.runToCycle (c.fg.crossCycle + c.fg.rateD * 200000000 / c.fg.rateN)).inc Reg.FERRY_LATE_CNT
      c.setPair { c.pair with ferryLate := true, lateOwed := c.pair.lateOwed + c.pair.isle.standing.toNat }) s

/-- BEACON_RECEIVE (R337, R343): one with another PAIR_ID is ignored. -/
def execBeaconReceive (port : Nat) (peer : PeerInfo) (s : State) : Host.Outcome State Fault Refusal :=
  within (port < 4) (onChip (fun _ c =>
    if !(c.portUp port && c.domainOn 1 && c.pair.inPair && peer.pairId == c.lv Reg.PAIR_ID) then c
    else
      let c := c.setPair { c.pair with
        peerHealth := peer.health, peerActive := peer.active, beaconSeen := peer.active || c.pair.beaconSeen
        beaconCsn := if peer.active then c.csn else c.pair.beaconCsn
        beaconSilent := c.pair.beaconSilent || peer.active && !c.pair.linkUp }
      c.noteActivePeer peer) s)

/-- The live records of the mirrored tables as a bulk ferry brings them: whole banks, but for the cell positions (R344). -/
def Chip.takeTables (c : Chip) (l : List (Nat × List (Nat × Nat))) : Chip :=
  l.foldl (fun c t =>
    let gone := if t.1 = 7 then [] else (c.recsOf t.1).map fun e => (e.1, 0)
    (c.setRecs t.1 gone).setRecs t.1 t.2) c

/-- BULK_FERRY_COMPLETE (R344): on the active the activity ends; the standby has everything, and applies what was mirrored
meanwhile. -/
def execBulkFerryComplete (bulk : Option BulkFerry) (s : State) : Host.Outcome State Fault Refusal :=
  onLink true (fun c =>
    if !c.pair.resync || c.update.handover then c
    else if c.pair.isle == .active then
      let mine := match c.arbiter.running with | some a => a.prec == 3 && !a.finished | none => false
      (if mine then c.finish 0 0 0 else c).setPair { (if mine then c.finish 0 0 0 else c).pair with
        resync := false, bulkSent := false, peerStale := false }
    else match bulk with
    | none => c
    | some b =>
      let held := c.pair.pending
      let c := (c.takeTables b.tables).setPair { c.pair with
        resync := false, bulkGot := true, staleAt := none, readyNext := false, lateOwed := 0, received := some (b.items, b.now)
        pending := [] }
      held.foldl (fun c m => c.applyHeld b.now m) c) s

/-! ### Meanings of the PAIR commands (R314) -/

/-- PAIR_CONFIG (R319). -/
def execPairConfig (h : CmdHdr) (p : Nat) (s : State) : Host.Outcome State Fault Refusal :=
  firmware 0x0801 false h p (fun p _ c =>
    if !c.domainOn 10 then c.refuse h 0x0801 (denied 16)
    else c.commitCommand 0x0801 h p true fun _ _ =>
      .ok ([.pairConfig (pl p 0 0 1) (pl p 0 1 1) (clampN 2 255 (pl p 0 8 8))], [])) s

/-- PAIR_PROMOTE (R338). -/
def execPairPromote (h : CmdHdr) (p : Nat) (s : State) : Host.Outcome State Fault Refusal :=
  firmware 0x0802 false h p (fun p _ c =>
    if !c.pair.isle.standing then c.refuse h 0x0802 (denied 12)
    else if c.pair.isle.stale then c.refuse h 0x0802 (denied 17)
    else c.commitCommand 0x0802 h p true fun _ _ => .ok ([.promote], [])) s

/-- Whether the standby of an active isle is stale, as far as the isle knows. -/
def Chip.standbyStale (c : Chip) : Bool := c.pair.peerStale || bit c.pair.peerHealth 1

/-- PAIR_SWAP (R341). A link for host accesses only has a stale standby at its other end (R331). -/
def execPairSwap (h : CmdHdr) (p : Nat) (s : State) : Host.Outcome State Fault Refusal :=
  firmware 0x0803 false h p (fun p _ c =>
    if c.pair.isle != .active then c.refuse h 0x0803 (denied 12)
    else if !(c.domainOn 10 && c.pair.linkUp) then c.refuse h 0x0803 ⟨0xE, 0, 0⟩
    else if c.standbyStale || !c.pair.mirrorOk then c.refuse h 0x0803 (denied 17)
    else c.commitCommand 0x0803 h p true fun _ _ => .ok ([.swap], [])) s

/-- PAIR_RESYNC (R344). -/
def execPairResync (h : CmdHdr) (p : Nat) (s : State) : Host.Outcome State Fault Refusal :=
  firmware 0x0804 false h p (fun _ _ c =>
    if c.pair.isle != .active then c.decline h 0x0804 (denied 12)
    else if !(c.domainOn 10 && c.pair.linkUp && c.pair.mirrorOk) then c.decline h 0x0804 ⟨0xE, 0, 0⟩
    else c.maintain h 0x0804 3 []) s

/-- PAIR_STATUS (R314): the flags stand in the first four octets (log entry 35). -/
def execPairStatus (h : CmdHdr) (p : Nat) (s : State) : Host.Outcome State Fault Refusal :=
  firmware 0x0805 true h p (fun _ _ c =>
    let flags := flagWord [c.pair.isle == .active, c.pair.isle.stale, c.pair.linkUp, c.pair.rank == 1]
    c.complete h 0x0805 0 (leBytes 4 flags ++ leBytes 4 (c.rd Reg.HEALTH_OWN) ++ leBytes 8 c.pair.ferryCsn ++
      leBytes 4 c.pair.ferryOctets ++ leBytes 4 (c.rd Reg.CHECK_MISMATCH_CNT))) s

end Sys2Proof.Machine
end

