-- ==== Sys2Proof/Machine/Images.lean ====
section
/-! DEFINITION. Images, their staging, verification, activation, trial and fallback (R403 to R416), the settings stores
(R417 to R419, R498), the end of maintenance work (R296, R300), and the UPD and settings commands (R307, R315). -/

namespace Sys2Proof.Machine

open Sys2Proof

/-! ### Image layouts (R405, R406) -/

/-- Octets of a slot (R403). -/
def slotSize : Nat → Nat
  | 0 => 8 * 2 ^ 20
  | 1 => 4 * 2 ^ 20
  | _ => 2 ^ 20

/-- The areas of the serial NOR device. -/
inductive FlashArea where
  | directory (copy : Nat)
  | slot (type n : Nat)
  | settings (store : Nat)
  | journal
  | staging
  deriving DecidableEq, Repr

/-- The offset of an area and its octets (R403). -/
def FlashArea.place : FlashArea → Nat × Nat
  | .directory k => (k * 0x10000, 0x10000)
  | .slot 0 n => (0x100000 + n * slotSize 0, slotSize 0)
  | .slot 1 n => (0x1100000 + n * slotSize 1, slotSize 1)
  | .slot t n => (0x1900000 + (t - 2) * 0x200000 + n * slotSize t, slotSize t)
  | .settings i => (0x1F00000 + i * 0x100000, 0x100000)
  | .journal => (0x2100000, 0x200000)
  | .staging => (0x3000000, 0x1000000)

/-- Where a record of the journal stands, by its SEQ: 512 records of 4,096 octets, appended in order (R420). -/
def journalAt (seq : Nat) : Nat := 0x2100000 + (seq - 1) % 512 * 4096

/-- Octets written to an area of flash: what it holds below them stays, and what lies beyond it is not written. -/
def flashWrite (a : FlashArea) (old l : List Byte) : List Byte := (l ++ old.drop l.length).take a.place.2

/-! ### The boot directory (R404) -/

/-- A copy of the directory with a SEQ: MAGIC, SEQ, an entry of each type, and the CRC-32C. -/
def dirOctets (seq : Nat) (types : List ImageType) : List Byte :=
  let l := leBytes 4 0x52444B58 ++ leBytes 4 0 ++ leBytes 8 seq ++
    (types.map fun x => leBytes 4 (x.confirmed + x.trialBit.toNat * 2 + x.failed.toNat * 4)).flatten
  l ++ leBytes 4 (crc32c l)

/-- Whether a copy's CRC holds. -/
def dirOk (l : List Byte) : Bool := l.length == 40 && le l 0x24 4 == crc32c (l.take 0x24)

/-- The copy that the boot ROM uses, by its number: of those whose CRC holds the one with the higher SEQ. -/
def dirInUse (l : List (List Byte)) : Option Nat :=
  let seq (k : Nat) : Nat := le (l.getD k []) 8 8
  match dirOk (l.getD 0 []), dirOk (l.getD 1 []) with
  | true, true => some (if seq 0 < seq 1 then 1 else 0)
  | true, false => some 0
  | false, true => some 1
  | false, false => none

/-- The directory written after a change of what it holds: the copies alternate, with SEQ one higher. -/
def Chip.saveDirectory (c : Chip) : Chip :=
  let dirs := c.update.dirs
  let k := dirInUse dirs
  let old := match k with | some k => dirs.getD k [] | none => []
  let new := dirOctets (le old 8 8 + 1) c.update.types
  if k.isSome && (old.drop 16).take 20 == (new.drop 16).take 20 then c
  else { c with update := { c.update with dirs := dirs.set (match k with | some 0 => 1 | _ => 0) new } }

/-- The directory as the boot ROM finds it. Where neither copy's CRC holds, the spec says nothing: what the types held stays (DESIGN
CHOICE, log entry 36). -/
def Chip.readDirectory (c : Chip) : Chip :=
  match dirInUse c.update.dirs with
  | none => c
  | some k =>
    let l := c.update.dirs.getD k []
    { c with update := { c.update with types := c.update.types.zipIdx.map fun e =>
        let v := le l (0x10 + 4 * e.2) 4
        { e.1 with confirmed := v % 2, trialBit := bit v 1, failed := bit v 2 } } }

/-- The image of a header and a body, valid when they hold for the type. -/
def imageOf (type : Nat) (hdr body : List Byte) : Image :=
  { valid := le hdr 0 4 == 0x4D494B58 && bits (le hdr 4 1) 0 3 == type && le hdr 0x74 1 < 4 &&
      signatureOk (le hdr 0x74 1) (hdr.take 0xA0) ((hdr.drop 0xA0).take 96) &&
      body.length == le hdr 0x18 4 && sha384 body == (hdr.drop 0x20).take 48
    version := le hdr 8 4, secVer := le hdr 0x10 8, keyId := le hdr 0x74 1
    compat := (List.range 8).map fun i => le hdr (0x50 + 4 * i) 4
    ferry := le hdr 0x70 2, settings := le hdr 0x72 2, body := body }

/-- The body that an operation stream builds from a base body; `fuel` bounds the descriptors. -/
def deltaBody : Nat → List Byte → List Byte → List Byte
  | 0, _, _ => []
  | fuel + 1, base, ops =>
    let n := le ops 4 4
    let rest := ops.drop 16
    if ops.length < 16 then []
    else match le ops 0 1 with
      | 0 => (base.drop (le ops 8 8)).take n ++ deltaBody fuel base rest
      | 1 => rest.take n ++ deltaBody fuel base (rest.drop (ceilDiv n 8 * 8))
      | _ => []

/-- BODY_LEN of what a package holds. -/
def packageBody (full : Bool) (k : List Byte) : Nat := le k (if full then 0x18 else 0x118) 4

/-- Whether UPD_STAGE denies a package by its size (R407). -/
def packageTooLong (type len : Nat) (full : Bool) (k : List Byte) : Bool :=
  2 ^ 24 < len || slotSize type - 256 < packageBody full k

/-- Whether a delta package's header signature and OPS_HASH hold (R406, R407). -/
def deltaHolds (k : List Byte) : Bool :=
  let ops := (k.drop 512).take (le k 0x40 4)
  le k 0 4 == 0x50444B58 && le k 0x78 1 < 4 && signatureOk (le k 0x78 1) (k.take 0xA0) ((k.drop 0xA0).take 96) &&
    ops.length == le k 0x40 4 && sha384 ops == (k.drop 0x48).take 48

/-- A package built against the running image: STATUS, and the image for the slot (R407). -/
def stagePackage (type : Nat) (full : Bool) (running : Image) (k : List Byte) : Nat × Image :=
  let typeOk := bits (le k 4 1) 0 3 == type
  if full then
    let m := imageOf type (k.take 256) ((k.drop 256).take (le k 0x18 4))
    if !typeOk then (0xB, .erased) else if m.valid then (0, m) else (9, .erased)
  else
    let ops := (k.drop 512).take (le k 0x40 4)
    if !deltaHolds k then (9, .erased)
    else if !typeOk || le k 8 4 != running.version || sha384 running.body != (k.drop 0x10).take 48 then (0xB, .erased)
    else
      let m := imageOf type ((k.drop 256).take 256) (deltaBody (ops.length / 16 + 1) running.body ops)
      if m.valid then (0, m) else (9, .erased)

/-! ### Types and their slots -/

/-- A type field of a payload; a value above 4 names no type and is clamped (R294). -/
def typeArg (p : Nat) : Nat := min 4 (pl p 0 0 3)

/-- An activation or reversion of a type that a change carries. -/
def Change.activates : Change → Option Nat
  | .activate t => some t
  | .revert t _ => some t
  | _ => none

/-- The types with an accepted activation or reversion not yet taken. -/
def Chip.pendingTypes (c : Chip) : List Nat := (c.commits.map Commit.changes).flatten.filterMap Change.activates

/-- Whether the trial of a type can confirm no more: a reversion has been accepted, or its window has expired (R414, R415). -/
def Chip.reverting (c : Chip) (t : Nat) : Bool :=
  c.commits.any fun m => m.changes.any fun ch => match ch with | .revert u k => u == t && (k != 0 || (c.imageType t).trialEnd < c.cycle) | _ => false

/-- The types that UPD_STAGE runs for, from its acceptance on (log entry 36). -/
def Chip.stagingTypes (c : Chip) : List Nat :=
  ((c.arbiter.running.toList ++ c.arbiter.waiting).filter fun a => a.opcode == 0x0901).map fun a => a.args.getD 0 0

/-- The types on trial. -/
def Chip.trialTypes (c : Chip) : List Nat := (List.range 5).filter fun t => (c.imageType t).onTrial

/-- The type in update (R411). -/
def Chip.inUpdate (c : Chip) : Option Nat := (c.stagingTypes ++ c.pendingTypes ++ c.trialTypes).head?

/-- Whether another type than `t` is in update. -/
def Chip.otherInUpdate (c : Chip) (t : Nat) : Bool := match c.inUpdate with | some u => u != t | none => false

/-- Whether the compatibility matrix holds for the set with image `m` in place of the running one of type `t` (R410), but
for the counter. -/
def Chip.matrixHolds (c : Chip) (t : Nat) (m : Image) : Bool :=
  let img (u : Nat) : Image := if u = t then m else c.image u
  let k := img 0
  ((List.range 4).all fun i =>
    k.compat.getD (2 * i) 0 ≤ (img (i + 1)).version && (img (i + 1)).version ≤ k.compat.getD (2 * i + 1) 0) &&
  (!(c.pair.inPair && c.pair.linkUp) || (match c.pair.peer with | some q => k.ferry == q.schema | none => true))

/-- STATUS of UPD_VERIFY (R408). -/
def Chip.verifyStatus (c : Chip) (t : Nat) : Nat :=
  let x := c.imageType t
  let m := x.inactive
  if !m.valid then 9
  else if m.secVer < x.counter || 64 < m.secVer then 0xA
  else if !c.matrixHolds t m then 0xB else 0

/-! ### Events (R422) -/

/-- UPD_EVT's bit and the event at its place. -/
def Chip.updEvent (c : Chip) (i : Nat) (items : List Byte) : Chip := (c.setEvt Reg.UPD_EVT (1 <<< i)).raise 7 (0x0803 + i) items

/-- UPD_TRIAL_START. -/
def Chip.trialStarts (c : Chip) (t : Nat) : Chip := c.updEvent 0 (it4 t ++ it4 (c.image t).version ++ it8 c.csn)

/-- UPD_FALLBACK. -/
def Chip.fallbackTold (c : Chip) (t failed cause : Nat) : Chip := c.updEvent 2 (it4 t ++ it4 failed ++ it4 cause ++ it8 c.csn)

/-! ### Settings stores -/

/-- A settings store. -/
def Chip.storeAt (c : Chip) (i : Nat) : List StoreCopy := c.update.stores.getD i [.empty, .empty]

/-- The octets of a copy over which its CRC-32C stands; their places are not given (DESIGN CHOICE, log entry 36). -/
def StoreCopy.octets (k : StoreCopy) : List Byte :=
  leBytes 4 k.magic ++ leBytes 2 k.format ++ leBytes 4 k.version ++ leBytes 8 k.seq ++ leBytes 4 k.len ++
    (k.values.map fun e => leBytes 4 e.1 ++ leBytes 4 e.2.toNat).flatten

/-- Whether a copy is other than empty: its CRC holds. -/
def StoreCopy.present (k : StoreCopy) : Bool := k.magic == 0x54534B58 && k.crc == crc32c k.octets

/-- A copy with its header made up. -/
def StoreCopy.make (format version seq : Nat) (values : List (Nat × Word)) : StoreCopy :=
  let k : StoreCopy := { magic := 0x54534B58, format := format, version := version, seq := seq, len := 8 * values.length, crc := 0, values := values }
  { k with crc := crc32c k.octets }

/-- A copy of a store in a format, if it has one. -/
def copyIn (l : List StoreCopy) (format : Nat) : Option StoreCopy := l.find? fun k => k.present && k.format == format

/-- SEQ of a copy, 0 of an empty one. -/
def StoreCopy.seqOf (k : StoreCopy) : Nat := if k.present then k.seq else 0

/-- The number of the copy that is written first: an empty one, otherwise the older. -/
def olderCopy (l : List StoreCopy) : Nat :=
  if (l.getD 0 .empty).seqOf ≤ (l.getD 1 .empty).seqOf then 0 else 1

/-- A copy of a store written, its SEQ one higher than any. -/
def Chip.writeCopy (c : Chip) (i copy format version : Nat) (values : List (Nat × Word)) : Chip :=
  let l := c.storeAt i
  let k := StoreCopy.make format version (((l.map StoreCopy.seqOf).foldl max 0) + 1) values
  { c with update := { c.update with stores := c.update.stores.set i (l.set copy k) } }

/-- The registers that Olulon 2.4.0 to 2.4.2 omit (R498). -/
def omitted (version off : Nat) : Bool :=
  (0x02040000 ≤ version && version ≤ 0x02040002) &&
    (off == Reg.PAIR_ID || (List.range 4).any fun p => off == Reg.PEER_MAC_LO p || off == Reg.PEER_MAC_HI p)

/-- The registers of a settings store. -/
def Chip.storedRegs (c : Chip) : List Nat :=
  rwbOffsets.filter fun o => !(0x9000 ≤ o && o < 0x9800) && !omitted (c.image 0).version o

/-- SYS_SETTINGS_SAVE's work (R417). Where neither copy holds the running CTRL's format nor that of the one before, the older is written
(DESIGN CHOICE, log entry 36). -/
def Chip.saveSettings (c : Chip) (i : Nat) : Chip :=
  let m := c.image 0
  let l := c.storeAt i
  let copy := match l.findIdx? fun k => k.present && k.format == m.settings with
    | some j => j
    | none => match l.findIdx? fun k => k.present && c.update.prevFormat == some k.format with
      | some j => 1 - j
      | none => olderCopy l
  c.writeCopy i copy m.settings m.version (c.storedRegs.map fun o => (o, BitVec.ofNat 32 (c.lv o)))

/-- What the running CTRL makes of a store: its values, none for one it cannot read (R419). -/
def Chip.storeValues (c : Chip) (i : Nat) : Option (List (Nat × Word)) :=
  let m := c.image 0
  let l := c.storeAt i
  if c.update.unreadable.contains i then none
  else match copyIn l m.settings with
    | some k => some k.values
    | none =>
      if !l.any StoreCopy.present then some []
      else
        let k := l.getD (1 - olderCopy l) .empty
        Config.settingsConvert m.version k.format k.values

/-- Stored values written to the pending values of the registers whose domains are on. -/
def Chip.loadValues (c : Chip) (l : List (Nat × Word)) : Chip :=
  l.foldl (fun c e =>
    let on := match blockAt e.1 with | some (b, _) => c.domainOn b.domain | none => false
    if rwbOffsets.contains e.1 && on && !omitted (c.image 0).version e.1 then c.wr e.1 (clampReg c e.1 e.2.toNat) else c) c

/-- One store examined at the start of a CTRL trial (R418, R419): of two copies in other formats the newer is converted, and the older
overwritten. -/
def Chip.examineStore (c : Chip) (i : Nat) : Chip :=
  let m := c.image 0
  let l := c.storeAt i
  if (copyIn l m.settings).isSome || !l.any StoreCopy.present then c
  else
    let old := olderCopy l
    let k := l.getD (1 - old) .empty
    match Config.settingsConvert m.version k.format k.values with
      | some vs => c.writeCopy i old m.settings m.version vs
      | none =>
        ({ c with update := { c.update with unreadable := c.update.unreadable ++ [i] } } : Chip).updEvent 3
          (it4 i ++ it4 k.format ++ it8 c.csn)

/-! ### Activation, fallback and confirmation -/

/-- UPD_ACTIVATE at its crossing (R412, R414): the image in the second program store runs. One accepted while another of the type was
pending has that image's load in common with it, and finds it running (DEDUCED, log entry 36). -/
def Chip.applyActivate (c : Chip) (t : Nat) : Chip :=
  let x := c.imageType t
  match x.second with
  | none => c
  | some m =>
    let c := if t = 0 then { c with update := { c.update with prevFormat := some (c.image 0).settings } } else c
    let c := c.setType t { x with
      running := 1 - x.running, program := some m, second := none, onTrial := true, trialBit := true, verified := false
      failed := false, trialEnd := c.cycle + c.update.trialWin * 800000000, heldFrom := c.cycle
      linkHeld := if t = 4 && c.pair.linkUp then some true else none }
    let c := ({ c with power := { c.power with fail := setBit c.power.fail t false } } : Chip).saveDirectory
    if t = 0 then { c with update := { c.update with handover := true, recovered := none } } else c.trialStarts t

/-- The previous slot of a type on trial put back, and the failed one marked (R415). -/
def Chip.putBack (c : Chip) (t : Nat) : Chip :=
  let x := c.imageType t
  let c := if t = 0 then { c with update := { c.update with prevFormat := some (c.image 0).settings } } else c
  (c.setType t { x with
    running := 1 - x.running, program := none, second := none, onTrial := false, trialBit := false, verified := false
    failed := true, linkHeld := none }).saveDirectory

/-- The fallback of a type on trial; that of CTRL is told once the previous image runs. -/
def Chip.fallBack (c : Chip) (t cause : Nat) : Chip :=
  let v := (c.image t).version
  let c := c.putBack t
  if t = 0 then { c with update := { c.update with handover := true, fallen := some (v, cause), unreadable := [] } }
  else c.fallbackTold t v cause

/-- UPD_REVERT at its crossing, or the fallback of a window that has expired: a trial that is on ends; otherwise a reversion exchanges
confirmed slots (R415, R416). -/
def Chip.applyRevert (c : Chip) (t cause : Nat) : Chip :=
  let x := c.imageType t
  if x.onTrial then c.fallBack t (min 1 cause)
  else if cause < 2 then c
  else
    let c := if t = 0 then { c with update := { c.update with prevFormat := some (c.image 0).settings } } else c
    let c := (c.setType t { x with
      running := 1 - x.running, confirmed := 1 - x.running, verified := false, program := none, second := none }).saveDirectory
    if t = 0 then { c with update := { c.update with handover := true, recovered := none } } else c

/-- Every trial ended by a reset (R415): its slot is marked, and the fallback is told once the previous image runs. -/
def Chip.endTrials (c : Chip) : Chip :=
  (List.range 5).foldl (fun c t =>
    if !(c.imageType t).onTrial then c
    else
      let v := (c.image t).version
      let c := c.putBack t
      { c with update := { c.update with owed := c.update.owed ++ [(t, v)] } }) c

/-- The fallbacks that a reset has brought told (R415, R422). -/
def Chip.tellOwed (c : Chip) : Chip :=
  c.update.owed.foldl (fun c e => c.fallbackTold e.1 e.2 3) { c with update := { c.update with owed := [] } }

/-- The incoming CTRL image at work (R412, R415, R418, R422): the heartbeats of a trial begin anew with it (R414). -/
def Chip.ctrlRuns (c : Chip) : Chip :=
  let c := { c with update := { c.update with handover := false, fallen := none } , arbiter := { c.arbiter with suspended := c.warning.writing.isSome && c.arbiter.suspended } }
  let c := (List.range 5).foldl (fun c t => let x := c.imageType t; if x.onTrial then c.setType t { x with heldFrom := c.cycle } else c) c
  if (c.imageType 0).onTrial then
    (List.range 2).foldl Chip.examineStore (({ c with update := { c.update with unreadable := [] } } : Chip).trialStarts 0)
  else c

/-! ### Meanings of the UPD commands (R315) -/

/-- UPD_STAGE (R407, R411). -/
def execUpdStage (h : CmdHdr) (p : Nat) (s : State) : Host.Outcome State Fault Refusal :=
  firmware 0x0901 false h p (fun p d c =>
    let t := typeArg p
    let full := pl p 0 3 1 == 1
    let addr := pl p 8 0 64
    let len := pl p 0x10 0 32
    if c.otherInUpdate t || (c.imageType t).onTrial then c.decline h 0x0901 (denied 12)
    else
      let long := packageTooLong t len full (c.fetch d addr (min len 512))
      let went := c.arbiterFree
      let c := c.maintain h 0x0901 6 [t, full.toNat, addr, len, long.toNat]
      if went then c.readPackage d else c) s

/-- UPD_VERIFY (R408). -/
def execUpdVerify (h : CmdHdr) (p : Nat) (s : State) : Host.Outcome State Fault Refusal :=
  firmware 0x0902 false h p (fun p _ c =>
    let t := typeArg p
    let x := c.imageType t
    let st := c.verifyStatus t
    if st = 0 then (c.setType t { x with verified := true }).complete h 0x0902 0 (leBytes 4 x.inactive.version)
    else c.complete h 0x0902 st (leBytes 4 x.inactive.version)) s

/-- UPD_ACTIVATE (R411, R412). -/
def execUpdActivate (h : CmdHdr) (p : Nat) (s : State) : Host.Outcome State Fault Refusal :=
  firmware 0x0903 false h p (fun p _ c =>
    let t := typeArg p
    let r := c.commitTry 0x0903 h p true fun _ _ =>
      if c.otherInUpdate t || !(c.imageType t).verified then .error (denied 12)
      else if !c.matrixHolds t (c.imageType t).inactive then .error ⟨0xB, 0, 0⟩
      else .ok ([.activate t], [])
    -- the verified image is loaded before acceptance
    match r.2 with
    | some _ => r.1.setType t { c.imageType t with second := some (c.imageType t).inactive }
    | none => r.1) s

/-- UPD_STATUS (R315). -/
def execUpdStatus (h : CmdHdr) (p : Nat) (s : State) : Host.Outcome State Fault Refusal :=
  firmware 0x0904 true h p (fun p _ c =>
    let x := c.imageType (typeArg p)
    let ver (m : Image) : Nat := if m.valid then m.version else 0
    c.complete h 0x0904 0 (leBytes 4 (x.running + x.onTrial.toNat * 2) ++
      leBytes 4 (if x.onTrial then ceilDiv (x.trialEnd - c.cycle) 800000000 else 0) ++
      leBytes 4 (ver x.slot0) ++ leBytes 4 (ver x.slot1) ++ leBytes 8 x.counter)) s

/-- UPD_REVERT (R410, R411, R415, R416). An image that has failed is activated again only after a new UPD_VERIFY: until then it is refused
as an activation of what is not verified is (DEDUCED from R415, log entry 36). -/
def execUpdRevert (h : CmdHdr) (p : Nat) (s : State) : Host.Outcome State Fault Refusal :=
  firmware 0x0905 false h p (fun p _ c =>
    let t := typeArg p
    let x := c.imageType t
    c.commitCommand 0x0905 h p true fun _ _ =>
      if c.otherInUpdate t || !x.inactive.valid || !x.onTrial && x.failed && !x.verified then .error (denied 12)
      else if x.inactive.secVer < x.counter then .error ⟨0xA, 0, 0⟩
      else if !c.matrixHolds t x.inactive then .error ⟨0xB, 0, 0⟩
      else .ok ([.revert t (if x.onTrial then 1 else 2)], [])) s

/-- UPD_TRIAL_SET (R315). -/
def execUpdTrialSet (h : CmdHdr) (p : Nat) (s : State) : Host.Outcome State Fault Refusal :=
  firmware 0x0906 false h p (fun p _ c =>
    ({ c with update := { c.update with trialWin := clampN 10 3600 (pl p 0 0 16) } } : Chip).complete h 0x0906 0 []) s

/-- UPD_COUNTER_ADVANCE (R409). -/
def execUpdCounterAdvance (h : CmdHdr) (p : Nat) (s : State) : Host.Outcome State Fault Refusal :=
  firmware 0x0907 false h p (fun p _ c =>
    let t := typeArg p
    if (c.imageType t).onTrial then c.decline h 0x0907 (denied 12) else c.maintain h 0x0907 6 [t]) s

/-! ### Meanings of the trial's events -/

/-- CTRL_HANDOVER_DONE (R412, R413): it waits for a journal write. -/
def execCtrlHandoverDone (s : State) : Host.Outcome State Fault Refusal :=
  onChip (fun _ c =>
    if !c.update.handover || c.warning.writing.isSome || c.power.held || !c.domainOn 1 then c
    else c.inCycle fun c =>
      let told := c.update.fallen
      let c := c.ctrlRuns
      match told with
      | some (v, cause) => c.fallbackTold 0 v cause
      | none => c) s

/-- The fallback of a window that has expired in this cycle withdrawn: a confirmation of the same cycle stands (R414, R456). -/
def Chip.dropExpiry (c : Chip) (t : Nat) : Chip :=
  { c with commits := c.commits.filter fun m => !m.changes.contains (.revert t 0) }

/-- UPD_CONFIRMED (R414): the criteria have held for tCONF. Those that the part's state shows are asked of it: the control cores serve, which
the heartbeats need, the stores can be read, the lanes are powered, and the link has stayed up. That the heartbeats, the
self-tests and the test cell have passed, and that no command has waited over 100 ms, the row itself says (log entry 36). -/
def execUpdConfirmed (type : Nat) (s : State) : Host.Outcome State Fault Refusal :=
  within (type < 5) (onChip (fun _ c =>
    let x := c.imageType type
    let at_ := max c.cycle (x.heldFrom + 4000000000)
    if !x.onTrial || c.reverting type || x.trialEnd < at_ || c.update.handover || c.power.held || !c.domainOn 1 ||
        type = 0 && !c.update.unreadable.isEmpty || type = 1 && !c.domainOn 6 || type = 4 && x.linkHeld == some false then c
    else
      let c := (c.runToCycle at_).dropExpiry type
      ((c.setType type { x with onTrial := false, trialBit := false, confirmed := x.running }).saveDirectory).updEvent 1
        (it4 type ++ it4 (c.image type).version ++ it8 c.csn)) s)

/-- TRIAL_WINDOW_EXPIRE (R414, R415): the fallback is taken by the open crossing. -/
def execTrialWindowExpire (type : Nat) (s : State) : Host.Outcome State Fault Refusal :=
  within (type < 5) (onChip (fun _ c =>
    let x := c.imageType type
    let told := c.commits.any fun m => m.changes.contains (.revert type 0)
    if !x.onTrial || told then c
    else
      let c := c.runToCycle x.trialEnd
      c.accept ⟨none, 0, 0, c.openCsn, [.revert type 0], none⟩) s)

/-! ### Settings commands (R307) -/

/-- SYS_SETTINGS_SAVE (R417): the store is written when the work ends. -/
def execSysSettingsSave (h : CmdHdr) (p : Nat) (s : State) : Host.Outcome State Fault Refusal :=
  firmware 0x0106 false h p (fun p _ c => c.maintain h 0x0106 2 [pl p 0 0 1]) s

/-- SYS_SETTINGS_LOAD (R307, R419, R498). -/
def execSysSettingsLoad (h : CmdHdr) (p : Nat) (s : State) : Host.Outcome State Fault Refusal :=
  firmware 0x0107 false h p (fun p _ c =>
    match c.storeValues (pl p 0 0 1) with
    | none => c.decline h 0x0107 ⟨0xC, 0, 0⟩
    | some l => (c.loadValues l).complete h 0x0107 0 []) s

/-! ### The end of maintenance work (R296, R300, R458) -/

/-- Whether the running activity stands still: during a CTRL handover, or for flash work while a journal is written. -/
def Chip.activityHeld (c : Chip) (a : Activity) : Bool :=
  c.update.handover || c.arbiter.suspended && (a.prec = 1 || a.prec = 2 || a.prec = 6)

/-- Whether an activity's end is another row's. -/
def Activity.endsElsewhere (a : Activity) : Bool := a.prec == 1 || a.prec == 3 || a.prec == 4 || a.prec == 5

/-- A half of the journal erased (R420): the records of the other half than that of the newest. -/
def Chip.eraseHalf (c : Chip) (seq : Nat) : Chip :=
  { c with warning := { c.warning with journals := c.warning.journals.filter fun j => (j.seq - 1) / 256 == (seq - 1) / 256 } }

/-- CAL_AUTO_DONE (R398). The movement, signed 8.8, saturates at the range of that format and comes sign-extended in its item of
four octets (DESIGN CHOICE, log entry 33). -/
def Chip.autoDone (c : Chip) (a : Activity) : Chip :=
  (c.setEvt Reg.CAL_EVT 1).raise 7 0x0801
    (it4 15 ++ it4 (a.result % 16) ++ it4 (a.result / 16) ++ itI4 (clampI (-32768) 32767 c.calib.movement) ++ it8 c.csn)

/-- What an activity has done when its work ends: STATUS, DETAIL and result. Whether flash reads back what was written is a
free value (R407). -/
def Chip.activityDone (c : Chip) (a : Activity) : Chip × Activity :=
  let t := a.args.getD 0 0
  match a.opcode with
  | 0x0106 => (c.saveSettings t, a)
  | 0x0901 =>
    let full := a.args.getD 1 0 == 1
    -- a package whose header and stream hold is written to delta staging, and built from there
    let c := if !full && a.args.getD 4 0 != 1 && deltaHolds c.update.package then
        { c with update := { c.update with staging := flashWrite .staging c.update.staging c.update.package } } else c
    let k := c.update.package
    if a.args.getD 4 0 = 1 then (c, { a with status := 3, detail := 14, result := 0 })
    else
      let r := stagePackage t full (c.image t) k
      let flashOk := c.free % 2 == 0
      let c := c.drew
      let r := if r.1 = 0 && !flashOk then (4, Image.erased) else r
      (c.setType t ((c.imageType t).setInactive r.2),
        { a with status := r.1, result := if r.1 = 0 then 256 + r.2.body.length else 0 })
  | 0x0907 =>
    let x := c.imageType t
    let n := max x.counter (min 64 (c.image t).secVer)
    (c.setType t { x with counter := n }, { a with result := n })
  | _ => (if a.prec = 1 && a.opcode = 0 then c.eraseHalf t else c, a)

/-- CMD_COMPLETE (R300): the running activity ends, and reports. -/
def execCmdComplete (s : State) : Host.Outcome State Fault Refusal :=
  onChip (fun _ c =>
    match c.arbiter.running with
    | none => c
    | some a =>
      if !c.domainOn 1 || c.power.held || c.activityHeld a || a.endsElsewhere && !a.finished then c
      else c.inCycle fun c =>
        let r := c.activityDone a
        let c := { r.1 with arbiter := { r.1.arbiter with running := none } }
        if a.prec = 5 && a.opcode = 0 then c.autoDone r.2 else c.reportActivity r.2) s

end Sys2Proof.Machine
end

