-- ==== Sys2Proof/Machine/Resets.lean ====
section
/-! DEFINITION. What a domain loses as it goes off (R23, R429, R430), what each reset clears (R432 to R435), and the boot of
each image (R437, R438). -/

namespace Sys2Proof.Machine

open Sys2Proof

/-! ### Balls at rest (R479) -/

/-- The local ports' balls at rest: `tx` where DMXn_TX rests, `rest` where the driven-low ones do, `gate` HCn_GATE. PIX31_CLK shares its
ball with LTC_IN, an input, and DMX15_DE the always-on one of FPULSE_OUT. -/
def portBalls (tx rest gate : Level) : List (Ball × Level) :=
  (List.range 16).map (fun n => (.dmxTx n, tx)) ++ (List.range 15).map (fun n => (.dmxDe n, rest)) ++
    (List.range 32).map (fun p => (.pixDat p, rest)) ++ (List.range 31).map (fun p => (.pixClk p, rest)) ++
    (List.range 16).map (fun n => (.gate n, gate)) ++ [(.vref, rest)]

/-- The balls whose function a domain drives, as they rest while it is off and MAIN_PG is high. -/
def idleBalls : Nat → List (Ball × Level)
  | 1 => [(.spiCsN, .high), (.spiClk, .low)]
  | 11 => portBalls .high .low .hiZ ++ [(.fpulse, .low)]
  | _ => []

/-- The balls of the main banks, which the fall of MAIN_PG leaves at high impedance. -/
def unpoweredBalls : List (Ball × Level) :=
  portBalls .hiZ .hiZ .hiZ ++ [(.isleActive, .hiZ), (.spiCsN, .hiZ), (.spiClk, .hiZ)]

/-- A domain's balls driven to rest as it goes off (R430). FPULSE_OUT keeps its ball while it is the one that drives it. -/
def Chip.restBalls (c : Chip) (d : Nat) : Chip :=
  let l := (idleBalls d).filter fun e => !(e.1 == .fpulse && (bit (c.lv Reg.FPOUT_CFG) 0 || !bit (c.lv (Reg.DMX_CFG 15)) 1))
  if !c.domainOn d || l.isEmpty then c else c.toBall (.balls l)

/-! ### What each domain holds -/

/-- Both banks of the registers that a domain holds, at their reset values (R429). -/
def Chip.clearRegs (c : Chip) (d : Nat) : Chip :=
  let keep (e : Nat × Word) : Bool := match blockAt e.1 with | some (b, _) => b.domain != d | none => true
  { c with regs := c.regs.filter keep, live := c.live.filter keep }

/-- The compositor's state. -/
def Chip.clearCompose (c : Chip) : Chip :=
  { c with streams := [], retired := [], frame := { c.frame with bands := [], lanes := List.replicate 8 none, urgent := List.replicate 8 false, layers := [], fetchPxl := 0, cullPxl := 0 } }

/-- The state of the mapper, the model, the cue engine, the scheduler and the input merge. -/
def Chip.clearRender (c : Chip) : Chip :=
  { c with
    limiters := List.replicate 8 Limiter.reset, sources := [], exceeded := [], applied := [], drawn := []
    dispatching := none, cueChanged := [], patched := []
    triggers := c.triggers.map fun t => { t with filter := none, edge := false }
    frame := { c.frame with walk := [], parked := [], issued := [], done := [], skipped := [], stalled := false, unrendered := 0 } }

/-- The packer's state. -/
def Chip.clearPack (c : Chip) : Chip :=
  let c := { c with frame := { c.frame with
    corrupt := [], decided := [], unemitted := [], windowOpen := false, windowDone := true } }
  (List.range 4).foldl (fun c p => c.setPort p { c.port p with
    queue := [], sentCount := 0, kaCount := 0 }) c

/-- What Lagoon holds: tables, ring and telemetry memory, universes, tasks, estimates and payloads. -/
def Chip.clearLagoon (c : Chip) : Chip :=
  { c with
    tables := c.tables.filter fun e => let t := e.1 / 2 ^ 32; t == 1 || t == 7 || t == 9
    dmxBack := [], dmxFront := [], pixBack := [], pixFront := [], ringMem := [], fifos := [], univs := [], syncSeqs := [], tasks := [], tEst := [], slots := [], copyFwd := []
    eccLagoon := .reset }

/-- What LPDDR5X holds beside its octets: the tables whose banks it holds, the cue engine's values, and DRAM_CFG (R472). -/
def Chip.clearDram (c : Chip) : Chip :=
  { c with
    tables := c.tables.filter fun e => let t := e.1 / 2 ^ 32; !(t == 1 || t == 7 || t == 9)
    cueVals := [], cueChanged := [], patched := [], fades := [], effects := [], lastCanvas := [], eccDram := .reset, dramCfg := 0 }

/-- What PD_CTRL holds: the work of firmware, a journal write among it (R372), and the control ports. A servo's time base goes to HOLDOVER. -/
def Chip.clearCtrl (c : Chip) : Chip :=
  { c with
    checks := [], rdmTold := [], rdmFails := [], rdmPolled := [], sensors := [], sensorsTold := [], cnt := [], ports := []
    arbiter := { running := none, waiting := [], suspended := false }
    calib := { c.calib with items := [], unit := 0, span := none }
    update := { c.update with handover := false, fallen := none, package := [] }
    warning := { c.warning with writing := none }
    power := { c.power with held := false }
    pair := { c.pair with mirrorWait := [] }
    tbs := (List.range 4).map fun n =>
      let t := { c.tb n with ptp := (c.tb n).ptp.forget }
      let src := bits (c.lv (Reg.TB_CFG n)) 0 3
      if 1 ≤ src && src ≤ 3 then { t with mode := .holdover, inBand := 0, outBand := 0 } else t }

/-- The host's side of the endpoint (R432): rings, mailboxes, messages, telemetry consumers. -/
def Chip.clearHost (c : Chip) : Chip :=
  { c with rings := [], mboxes := [], fifos := [], msixPend := [], produced := [0, 0, 0] }

/-- The links of two show ports down, with what they hold (R251, R253). -/
def Chip.clearPorts (c : Chip) (l : List Nat) : Chip :=
  l.foldl (fun c p =>
    let c := c.linkDown p
    let x := c.port p
    c.setPort p { NetPort.reset with groups := x.groups, lastPause := x.lastPause }) c

/-- The state that a domain loses as it goes off, by its place in R23. -/
def Chip.clearState (c : Chip) (d : Nat) : Chip :=
  match d with
  | 1 => c.clearCtrl
  | 2 => c.clearHost
  | 3 => c.clearLagoon
  | 4 => c.clearDram
  | 5 => c.clearCompose
  | 6 => c.clearRender
  | 7 => c.clearPack
  | 8 => c.clearPorts [0, 1]
  | 9 => c.clearPorts [2, 3]
  | 10 => c.leavePair
  | 11 => { c with dmx := [], pix := [], house := [] }
  | _ => c

/-- A domain's contents lost. -/
def Chip.clearDomain (c : Chip) (d : Nat) : Chip := (c.clearState d).clearRegs d

/-- A domain's switch. -/
def Chip.setDomain (c : Chip) (d : Nat) (on : Bool) : Chip := { c with power := { c.power with on := c.power.on.set d on } }

/-- Domains switched off at once: their balls rest, and their contents are lost, those of LPDDR5X among them. -/
def Chip.dropDomains (c : Chip) (d : List Host.Cell) (l : List Nat) : List Host.Cell × Chip :=
  (if l.contains 4 then [] else d, l.foldl (fun c k => ((c.restBalls k).setDomain k false).clearDomain k) c)

/-! ### The pair-coordinated reset (R435) -/

/-- The standby's render pipeline and its mirrored tables cleared as a bulk ferry starts. -/
def Chip.pairReset (c : Chip) : Chip :=
  let c := c.clearCompose.clearRender.clearPack
  ({ c with
    tables := c.tables.filter fun e => e.1 / 2 ^ 32 == 12
    univs := [], syncSeqs := [], tasks := [], tEst := [], slots := [], copyFwd := [], cueVals := [], fades := [], effects := []
    lastCanvas := [], frame := { Frame.reset with csn := c.frame.csn } } : Chip).setEvt Reg.RESET_CAUSE 8

/-! ### Images at boot (R437, R438) -/

/-- Whether an image verifies. -/
def ImageType.verifies (x : ImageType) (m : Image) : Bool := m.valid && x.counter ≤ m.secVer && m.keyId < 4

/-- The image of a slot loaded: what UPD_VERIFY has found of the inactive slot holds while that stays the inactive one (R408). -/
def ImageType.load (x : ImageType) (n : Nat) : ImageType :=
  { x with running := n, verified := x.verified && x.running == n, program := none, second := none }

/-- A type booted from its confirmed slot, or from the other, or failed. -/
def Chip.bootType (c : Chip) (t : Nat) : Chip :=
  let x := c.imageType t
  let p := c.power
  let n := x.confirmed
  if x.verifies (x.slot n) then { c.setType t (x.load n) with power := { p with alt := setBit p.alt t false, fail := setBit p.fail t false } }
  else if x.verifies (x.slot (1 - n)) then
    { c.setType t (x.load (1 - n)) with power := { p with alt := setBit p.alt t true, fail := setBit p.fail t false } }
  else { c with power := { p with alt := setBit p.alt t false, fail := setBit p.fail t true } }

/-- The type whose image a domain loads, if any (R429). -/
def domainImage : Nat → Option Nat
  | 6 => some 1
  | 10 => some 4
  | 11 => some 3
  | _ => none

/-- The image of a domain that is to come on, verified as at boot; whether it can come on. -/
def Chip.loadDomain (c : Chip) (d : Nat) : Chip × Bool :=
  match domainImage d with
  | none => (c, true)
  | some t =>
    let x := c.imageType t
    if x.verifies (x.slot x.running) then (c.setType t (x.load x.running), true)
    else let c := c.bootType t; (c, !bit c.power.fail t)

/-- The switched-on domains of a list whose images verify, in the order of R23. -/
def Chip.loadDomains (c : Chip) (l : List Nat) : Chip × List Nat :=
  l.foldl (fun r d => let q := r.1.loadDomain d; (q.1, if q.2 then r.2 ++ [d] else r.2)) (c, [])

/-- The switched domains from PD_LAGOON on. -/
def showDomains : List Nat := [3, 4, 5, 6, 7, 8, 9, 10, 11]

/-- Changes of domains begun, in their order, behind those that run (R428). -/
def Chip.queueDomains (c : Chip) (l : List (Nat × Bool)) : Chip :=
  { c with power := { c.power with queue := c.power.queue ++ l.map fun e => (e.1, e.2, c.csn) } }

/-- What the wake of the control cores does before they serve commands (R437 stage 7): after a power-on reset metering is
restored, and the factory MAC addresses are written to both banks (R235, R372). -/
def Chip.restoreTotals (c : Chip) : Chip :=
  let good := c.warning.journals.filter Journal.ok
  let newest := good.foldl (fun m j => match m with
    | none => some j
    | some k => if k.seq < j.seq then some j else some k) none
  match newest with
  | none => (c.setEvt Reg.MTR_EVT 16).raise 129 0x1402 (it8 0 ++ itInstant 0)
  | some j =>
    let c := j.entries.foldl (fun c e => c.setEnergy e.1 { c.energyOf e.1 with acc := e.2.1, wraps := e.2.2 }) c
    let c := (List.range 8).foldl (fun c n =>
      let e := j.pulses.getD n (0, 0)
      c.setPulse n { c.pulse n with residue := e.1, backlog := e.2 }) c
    (c.setEvt Reg.MTR_EVT 16).raise 129 0x1402 (it8 j.csn ++ itInstant j.instant)

/-- The factory MAC addresses in both banks of NETp_MAC (R235). -/
def Chip.writeMacs (c : Chip) : Chip :=
  (List.range 5).foldl (fun c p =>
    let m := Config.macBase.toNat / 8 * 8 + p
    let put (c : Chip) (off v : Nat) : Chip := (c.wr off v).wrLive off v
    put (put c (Reg.NET_MAC_LO p) (m % 2 ^ 32)) (Reg.NET_MAC_HI p) (m / 2 ^ 32)) c

/-- The path latencies of a port's mode in sixteenths of a nanosecond, transmit and receive (R69). -/
def pathLatency (p mode : Nat) : Nat × Nat :=
  if p = 4 then (3392, 5440)
  else match bits mode 0 2, bits mode 2 2 with
  | 0, 0 => (672, 904)
  | 0, 1 => (928, 1936)
  | 0, _ => (984, 3968)
  | _, 0 => (1056, 1416)
  | _, _ => (1272, 2608)

/-- The path latencies of a port's mode committed by firmware for the next crossing (R69), as its mode goes live and as its time-stamp
unit comes on, whose registers have lost them. The module term is 0: the part has no register of it, and a host that adds one writes the sum (DEDUCED, log entry 44). -/
def Chip.loadLatency (c : Chip) (p : Nat) : Chip :=
  let l := pathLatency p (c.lv (Reg.NET_MODE p))
  c.accept ⟨none, 0, 0, c.openCsn,
    [.reg (Reg.TSU_TX_LAT p) (BitVec.ofNat 32 l.1), .reg (Reg.TSU_RX_LAT p) (BitVec.ofNat 32 l.2)], none⟩

/-- The control cores started: stage 7 (R437). The management port has one mode, whose latencies are not those that the registers
reset to: firmware commits them as it starts (DEDUCED from R69, log entry 44). -/
def Chip.startCores (c : Chip) : Chip :=
  let c := if c.power.cold then c.restoreTotals else c
  let c := c.writeMacs.loadLatency 4
  let r := c.loadDomains (showDomains.filter fun d => !c.domainOn d)
  ({ r.1 with power := { r.1.power with stage := 7, cold := false } } : Chip).queueDomains (r.2.map fun d => (d, true))

/-- Recovery entered: the boot ROM powers PD_LAGOON (R439). -/
def Chip.recover (c : Chip) : Chip :=
  ({ c with power := { c.power with recovery := true, stage := 6, warm := false } } : Chip).queueDomains [(3, true)]

/-- The boot at the point where PD_HOST is on: stage 6, and stage 7 or recovery (R437 to R439). -/
def Chip.bootCtrl (c : Chip) : Chip :=
  let c := ({ c with power := { c.power with stage := 6 } } : Chip).bootType 0
  if bit c.power.fail 0 then c.recover else c.startCores

/-- Stage 8 once every domain is on (R437, R440), with the fallbacks that the reset brought told. -/
def Chip.bootReady (c : Chip) : Chip :=
  if c.power.stage = 7 && c.power.queue.isEmpty then
    ({ c with power := { c.power with stage := 8, bootUs := (c.cycle - c.power.mainUpAt.getD c.cycle) / 800 } } : Chip).tellOwed
  else if c.power.warm && c.power.queue.isEmpty then ({ c with power := { c.power with warm := false } } : Chip).tellOwed
  else c

/-! ### Training of LPDDR5X (R472, R493) -/

/-- Whether the junction is below −20 °C: the coldest of the temperatures that the board has given for the eight die sensors stands for
it, and a free value where it has given none (DESIGN CHOICE, log entry 40). -/
def Chip.coldJunction (c : Chip) : Bool × Chip :=
  match c.calib.junction.filterMap id with
  | [] => (bit c.free 0, c.drew)
  | t :: l => (decide (l.foldl min t < -5120), c)

/-- PD_DRAM comes on: DRAM_CFG as training leaves it, and whether any rate passed. What the devices report is Config's, and the
highest rate that passes a free value; with the junction below −20 °C on revision A1 it is 7,500 MT/s (R493). -/
def Chip.train (c : Chip) : Chip × Bool :=
  let fitted := Config.dramFitted.toNat
  let k := c.free % 4
  let r := c.drew.coldJunction
  let c := r.2
  let rate := if r.1 then 1 else k
  if fitted = 3 || rate = 3 then (c, false) else ({ c with dramCfg := fitted + rate * 4 + 16 }, true)

/-! ### Domain changes (R428, R429) -/

/-- PWR_DOMAIN_CHANGE with the CSN of the crossing that took the change (DEDUCED, log entry 42); the boot raises none before
commands are served. -/
def Chip.domainTold (c : Chip) (d : Nat) (on : Bool) (csn : Nat) : Chip :=
  (c.setEvt Reg.PWR_EVT 1).raise 5 0x0601 (it4 d ++ it4 on.toNat ++ it8 csn)

/-- The change at the head of the queue ended. -/
def Chip.endChange (c : Chip) (d : Nat) (on : Bool) (csn : Nat) : Chip :=
  let c := { c with power := { c.power with queue := c.power.queue.drop 1 } }
  let boot := c.power.stage != 8
  let c := if on && d = 10 then c.setPair { c.pair with straitEver := true } else c
  let r := if on && d = 4 then c.train else (c, on)
  let c := r.1.setDomain d r.2
  -- a domain that cannot work without LPDDR5X stays off with it (R23)
  let c := if on && !r.2 then
      { c with power := { c.power with queue := c.power.queue.filter fun e => !(e.2.1 && (e.1 == 5 || e.1 == 6)) } } else c
  let c := if boot then c else c.domainTold d r.2 csn
  let c := if on && d = 8 then (c.loadLatency 0).loadLatency 1 else if on && d = 9 then (c.loadLatency 2).loadLatency 3 else c
  let c := if d = 2 && c.power.stage = 5 then c.bootCtrl else c
  c.bootReady

end Sys2Proof.Machine
end

