-- ==== Sys2Proof/Machine/Power.lean ====
section
/-! DEFINITION. Power, reset, boot and debug (R23, R24, R425 to R449): SYS_POWER_SET and SYS_WARM_RESET, the rails, PERST_N, the
control-core watchdog, recovery, the key epochs and boundary scan. -/

namespace Sys2Proof.Machine

open Sys2Proof

/-! ### Dependencies (R23, R24) -/

/-- The domains that a domain depends on. -/
def dependsOn : Nat → List Nat
  | 0 => []
  | 1 => [0]
  | 2 => [1]
  | 3 => [1]
  | 4 => [1]
  | 5 => [3, 4]
  | 6 => [3, 4]
  | _ => [3]

/-- Whether a SYS_POWER_SET keeps every dependency of the domains that it names (R24). -/
def powerAllowed (mask : Nat) (l : List Bool) : Bool :=
  (List.range 12).all fun d => !bit mask d ||
    (if l.getD d false then (dependsOn d).all fun e => l.getD e false
     else (List.range 12).all fun e => !(l.getD e false && (dependsOn e).contains d))

/-- SYS_POWER_SET at its crossing (R428): the domains to be off are off at once, and the changes end one by one. -/
def Chip.applyPower (c : Chip) (d : List Host.Cell) (mask on : Nat) : List Host.Cell × Chip :=
  let now := c.power.settled
  let after := powerAfter mask on now
  let offs := ((List.range 12).filter fun k => now.getD k false && !after.getD k false).reverse
  let r := c.dropDomains d offs
  let r := (r.1, if offs.contains 10 && c.pair.inPair then r.2.changeRole .solo .command else r.2)
  let q := r.2.loadDomains ((List.range 12).filter fun k => !now.getD k false && after.getD k false)
  (r.1, q.1.queueDomains (offs.map (fun k => (k, false)) ++ q.2.map fun k => (k, true)))

/-! ### Resets -/

/-- The accepted commits forgotten: what they wait in is lost with the switched domains (log entry 37). -/
def Chip.forgetCommits (c : Chip) : Chip :=
  { c with commits := [], copyFwd := [], fg := { c.fg with explicit := [] }, pair := { c.pair with mirrorWait := [] } }

/-- The boot directory read, trials ended, and every image booted from its confirmed slot (R404, R415). -/
def Chip.bootImages (c : Chip) : Chip :=
  let c := c.readDirectory.endTrials
  let c := { c with update := { c.update with recovered := none, unreadable := [] } }
  [0, 1, 2, 3, 4].foldl Chip.bootType { c with power := { c.power with recovery := false } }

/-- A warm reset at its crossing (R432, R434): every switched domain is initialised anew, PD_CTRL and PD_HOST in place, and
all come on; where no CTRL slot verifies the boot enters recovery (R438). -/
def Chip.warmReset (c : Chip) (d : List Host.Cell) : List Host.Cell × Chip :=
  let c := c.forgetCommits
  let r := c.dropDomains d showDomains.reverse
  let r := (r.1, if c.pair.inPair then r.2.setEvt Reg.PAIR_EVT 1 else r.2)
  let c := ((r.2.clearDomain 2).clearDomain 1).setEvt Reg.RESET_CAUSE 4
  let c := ({ c with power := { c.power with warm := true, queue := [] } } : Chip).bootImages
  if bit c.power.fail 0 then (r.1, c.recover)
  else
    let q := c.writeMacs.loadDomains showDomains
    (r.1, (q.1.queueDomains (q.2.map fun k => (k, true))).bootReady)

/-- The current epoch's secrets as the key store unwraps them. -/
def Power.secrets (p : Power) : List Byte :=
  match (List.range 8).find? fun e => !p.revoked.getD e false with
  | some e => if p.provisioned.getD e false then Config.unwrapSecrets (p.keyRows.getD e 0) (p.wrapped.getD e []) else []
  | none => []

/-- The part as a power-on reset leaves it, at stage 4: fuses and flash are kept (R432, R437). -/
def Chip.powerOn (c : Chip) : Chip :=
  let r := Chip.reset
  let k := c.power
  let c := { r with
    freeCtr := c.freeCtr, out := c.out, cycle := c.cycle
    update := { r.update with
      types := c.update.types.map fun (x : ImageType) => { x with verified := false }, stores := c.update.stores, dirs := c.update.dirs
      staging := c.update.staging, prevFormat := c.update.prevFormat, owed := c.update.owed }
    warning := { r.warning with journals := c.warning.journals }
    power := { r.power with
      revoked := k.revoked, provisioned := k.provisioned, keyRows := k.keyRows, wrapped := k.wrapped
      unwrapped := k.secrets, keyWord := keyEpochWord k.revoked k.provisioned, mainPg := false, perst := k.perst } }
  let c := c.bootImages
  { c with power := { c.power with stage := 4 } }

/-! ### Key epochs (R441, R444) -/

/-- The current epoch, none when all are revoked. -/
def Power.epoch (p : Power) : Option Nat := (List.range 8).find? fun e => !p.revoked.getD e false

/-- Whether an unlock token holds for an epoch (R443). -/
def tokenHolds (epoch : Nat) (k : List Byte) : Bool :=
  le k 0 4 == 0x4E554B58 && bits (le k 4 4) 0 3 == epoch && (k.drop 8).take 16 == beBytes 16 Config.partUid.toNat &&
    le k 0x18 1 < 4 && signatureOk (4 + le k 0x18 1) (k.take 0xA0) ((k.drop 0xA0).take 96)

/-! ### Meanings of the commands -/

/-- SYS_WARM_RESET (R434). -/
def execSysWarmReset (h : CmdHdr) (p : Nat) (s : State) : Host.Outcome State Fault Refusal :=
  firmware 0x0103 false h p (fun p _ c => c.commitCommand 0x0103 h p true fun _ _ => .ok ([.warmReset], [])) s

/-- SYS_POWER_SET (R24, R428). -/
def execSysPowerSet (h : CmdHdr) (p : Nat) (s : State) : Host.Outcome State Fault Refusal :=
  firmware 0x0104 false h p (fun p _ c =>
    let mask := pl p 0 0 12
    let on := pl p 0 16 12
    c.commitCommand 0x0104 h p true fun _ csn =>
      if powerAllowed mask (powerAfter mask on (c.powerAt csn)) then .ok ([.powerSet mask on], [])
      else .error (denied 16)) s

/-- 256 free bits, of four words. -/
def Chip.free256 (c : Chip) : BitVec 256 :=
  BitVec.ofNat 256 (c.free + c.drew.free * 2 ^ 64 + c.drew.drew.free * 2 ^ 128 + c.drew.drew.drew.free * 2 ^ 192)

/-- DIAG_DEBUG_UNLOCK (R444). Whether the fuses read back blown is a free value, and which of them have blown where they do not. -/
def execDiagDebugUnlock (h : CmdHdr) (p : Nat) (s : State) : Host.Outcome State Fault Refusal :=
  firmware 0x0B05 false h p (fun p d c =>
    let e := pl p 0 0 3
    let k := c.fetch d (pl p 8 0 64) (min 256 (pl p 0x10 0 32))
    let c := if c.power.epoch = some e then c.noteRead 0 8 (pl p 8 0 64) (min 256 (pl p 0x10 0 32)) else c
    if c.power.epoch != some e then c.decline h 0x0B05 (denied 12)
    else if k.length ≠ 256 || !tokenHolds e k then c.decline h 0x0B05 ⟨9, 0, 0⟩
    else
      let blown := c.free % 2 == 0
      let row := if blown then BitVec.allOnes 256 else c.drew.free256 ||| c.power.keyRows.getD e 0
      let c := { c.drew.drew.drew.drew.drew with power := { c.power with
        revoked := c.power.revoked.set e true, provisioned := c.power.provisioned.set e false
        keyRows := c.power.keyRows.set e row, unwrapped := [] } }
      if !blown then c.complete h 0x0B05 4 []
      else
        let c := ({ c with power := { c.power with debug := true } } : Chip).setEvt Reg.PWR_EVT 16
        (c.raise 5 0x0603 (it4 e ++ it8 c.csn)).complete h 0x0B05 0 []) s

/-! ### Meanings of the supplies and resets -/

/-- POWER_ON_RESET (R437): stages 0 to 4. It comes when the combined supply has fallen, or first of all. -/
def execPowerOnReset (s : State) : Host.Outcome State Fault Refusal :=
  onBoth (fun d c => if c.power.supply && c.power.stage != 0 then (d, c) else ([], c.powerOn)) s

/-- COMBINED_SUPPLY_FALL (R427): everything is lost but fuses and flash; the pins of the always-on bank read low. -/
def execCombinedSupplyFall (s : State) : Host.Outcome State Fault Refusal :=
  onBoth (fun d c =>
    if !c.power.supply then (d, c)
    else
      let r := c.powerOn
      ([], { r with power := { r.power with supply := false, stage := 0, perst := true } })) s

/-- MAIN_PG_FALL (R431). -/
def execMainPgFall (s : State) : Host.Outcome State Fault Refusal :=
  onBoth (fun d c =>
    if !c.power.mainPg then (d, c)
    else
      let r := c.forgetCommits.dropDomains d (showDomains.reverse ++ [2, 1])
      let c := r.2.toBall (.balls unpoweredBalls)
      (r.1, { c with power := { c.power with mainPg := false, queue := [], stage := 4, warm := false } })) s

/-- The levels on the balls of the main banks with MAIN_PG high: what no domain drives rests (R479), ISLE_ACTIVE is the pair
block's, and the ports' DE is their functions'. -/
def Chip.showMain (c : Chip) : Chip :=
  let off := (([1, 11].filter fun k => !c.domainOn k).map idleBalls).flatten.filter fun e => e.1 != .fpulse
  let c := if off.isEmpty then c else c.toBall (.balls off)
  let c := c.toBall (.isleActive c.pair.pin)
  if !c.domainOn 11 then c else (List.range 16).foldl (fun c n => c.toBall (.de n (c.deHigh n))) c

/-- MAIN_PG_RISE (R431, R437): stage 5. After a first rise it is a main-rail restart. -/
def execMainPgRise (s : State) : Host.Outcome State Fault Refusal :=
  onChip (fun _ c =>
    if c.power.mainPg || !c.power.supply || c.power.stage != 4 then c
    else c.inCycle fun c =>
      let c := if c.power.mainUpAt.isNone then c else (c.setEvt Reg.RESET_CAUSE 32).bootImages
      let c : Chip := { c with power := { c.power with mainPg := true, mainUpAt := some c.cycle, stage := 5 } }
      (if c.power.pins then c else c.showMain).queueDomains [(1, true), (2, true)]) s

/-- The consumer's side of a telemetry FIFO at reset. -/
def Fifo.fresh (x : Fifo) : Fifo := { x with rd := 0, mark := 0, closeReq := false }

/-- A check unit's run without the channel that asked for it. -/
def CheckUnit.orphan (x : CheckUnit) : CheckUnit := { x with busy := x.busy.map fun b => (none, b.2) }

/-- A maintenance activity without the channel that asked for it: its work completes, and nothing is posted (R459). -/
def Activity.orphan (a : Activity) : Activity := { a with chan := none }

/-- A port's neighbour resolutions without the channels that asked for them. -/
def NetPort.orphan (x : NetPort) : NetPort := { x with solicits := x.solicits.map fun q => { q with chan := none } }

/-- PERST_N, or a hot reset (R432, R433): what firmware has begun goes on without a response. -/
def execPerstN (s : State) : Host.Outcome State Fault Refusal :=
  onChip (fun _ c =>
    if c.power.perst then c
    else
      let held (e : Nat × Word) : Bool :=
        !(0x200 ≤ e.1 && e.1 < 0x400 || 0x4000 ≤ e.1 && e.1 < 0x4800 || 0xE000 ≤ e.1 && e.1 < 0xE400 ||
          0x100000 ≤ e.1 && e.1 < 0x104000 || 0x200000 ≤ e.1 && e.1 < 0x202000)
      let c : Chip := { c with
        regs := c.regs.filter held, rings := [], mboxes := [], msixPend := []
        fifos := c.fifos.map fun e => (e.1, Fifo.fresh e.2)
        checks := c.checks.map fun e => (e.1, CheckUnit.orphan e.2)
        ports := c.ports.map fun e => (e.1, NetPort.orphan e.2)
        arbiter := { c.arbiter with running := c.arbiter.running.map Activity.orphan, waiting := c.arbiter.waiting.map Activity.orphan }
        fg := { c.fg with explicit := c.fg.explicit.map fun x => { x with chan := none } }
        pair := { c.pair with mirrorWait := c.pair.mirrorWait.map fun w => { w with header := none } }
        power := { c.power with perst := true } }
      c.setEvt Reg.RESET_CAUSE 2) s

/-- PERST_N_RELEASE (R440). -/
def execPerstNRelease (s : State) : Host.Outcome State Fault Refusal :=
  onChip (fun _ c => if c.power.supply then { c with power := { c.power with perst := false } } else c) s

/-- PWR_DOMAIN_CHANGE (R428): the change at the head of the queue ends. -/
def execPwrDomainChange (domain : Nat) (s : State) : Host.Outcome State Fault Refusal :=
  within (domain < 12) (onChip (fun _ c =>
    match c.power.queue with
    | [] => c
    | e :: _ => if e.1 = domain && c.power.mainPg then c.inCycle fun c => c.endChange domain e.2.1 e.2.2 else c) s)

/-! ### The control cores (R415, R436, R439) -/

/-- CTRL_WATCHDOG: a control restart on trial; otherwise the cores are held. While debug is open the debugger may have halted the
cores, a free value (log entry 40), and the watchdog then does not count (R459). -/
def execCtrlWatchdog (s : State) : Host.Outcome State Fault Refusal :=
  onChip (fun _ c =>
    if !c.domainOn 1 || c.power.held || c.power.stage < 7 || c.power.debug && Config.coreHalted c.cycle then c
    else c.inCycle fun c =>
      if (c.imageType 0).onTrial then (c.fallBack 0 2).setEvt Reg.RESET_CAUSE 16
      else
        let c := ({ c with power := { c.power with held := true } } : Chip).setEvt Reg.PWR_EVT 2
        c.raise 5 0x0602 (it4 (c.image 0).version ++ it8 c.csn)) s

/-- CTRL_RESTART (R436): ignored while WD_EXPIRED is clear. -/
def execCtrlRestart (v : Word) (s : State) : Host.Outcome State Fault Refusal :=
  regCommand Reg.CTRL_RESTART (fun c =>
    if !(v.getLsbD 0 && bit (c.rd Reg.PWR_EVT) 1) then c
    else
      let x := c.imageType 0
      let c := (c.setType 0 (if c.power.recovery then x else x.load x.confirmed)).setEvt Reg.RESET_CAUSE 16
      { c with power := { c.power with held := false }, update := { c.update with handover := true } }) s

/-- Octets of the ring window, from its start on. -/
def Chip.windowOctets (c : Chip) (off n : Nat) : List Byte :=
  ((((List.range (ceilDiv (off % 64 + n) 64)).map fun i => leBytes 64 (natAt c.ringMem (off / 64 + i))).flatten).drop (off % 64)).take n

/-- BOOT_RECOVER (R439): a CTRL image that does not verify leaves the boot ROM waiting. -/
def execBootRecover (v : Word) (s : State) : Host.Outcome State Fault Refusal :=
  regCommand Reg.BOOT_RECOVER (fun c =>
    if !(v.getLsbD 0 && c.power.recovery && c.power.stage == 6 && c.power.queue.isEmpty) then c
    else
      let m := imageOf 0 (c.windowOctets 0 256) (c.windowOctets 256 (min (2 ^ 23 - 256) (le (c.windowOctets 0 256) 0x18 4)))
      if (c.imageType 0).verifies m then c.inCycle fun c => ({ c with update := { c.update with recovered := some m } } : Chip).startCores
      else c) s

/-! ### Boundary scan and provisioning (R442, R445 to R447) -/

/-- The instructions that take the covered balls. -/
def takesPins (code : Nat) : Bool := code == 3 || code == 4 || code == 5

/-- The levels that functions drive on the balls as boundary scan returns them (R447). -/
def Chip.showLevels (c : Chip) : Chip :=
  let c := if bit (c.lv Reg.FPOUT_CFG) 0 then c.toBall (.fpulse c.fpulseLevel) else c
  if !c.power.mainPg then c else c.showMain

/-- An instruction of boundary scan in force, with JTAG_PIN_CONTROL where it takes or returns the balls. Under HIGHZ the covered
balls are at high impedance; under EXTEST and CLAMP they carry the boundary register's cells, with MAIN_PG low none of the main
banks (R447). -/
def Chip.scan (c : Chip) (code : Nat) : Chip :=
  let pins := takesPins code
  let changed := c.power.pins != pins
  let taken := if code == 5 then Out.balls unpoweredBalls else Out.boundary
  let c := if pins && c.power.jtag != code then c.emit taken else c
  let c := { c with power := { c.power with jtag := code, pins := pins } }
  if changed then (c.showLevels.setEvt Reg.PWR_EVT 32).raise 5 0x0604 (it4 code ++ it8 c.csn) else c

/-- JTAG_UPDATE_IR (R446): while debug is locked, DEBUG and PROVISION act as BYPASS, as every code without an instruction does. -/
def execJtagUpdateIr (code : Nat) (s : State) : Host.Outcome State Fault Refusal :=
  within (code < 256) (onChip (fun _ c =>
    let known := [1, 2, 3, 4, 5].contains code || (code == 0x40 || code == 0x41) && c.power.debug
    if c.power.supply then c.scan (if known then code else 0xFF) else c) s)

/-- TEST_LOGIC_RESET (R446). -/
def execTestLogicReset (s : State) : Host.Outcome State Fault Refusal :=
  onChip (fun _ c => if c.power.supply then c.scan 1 else c) s

/-- JTAG_PROVISION (R445): the current epoch's key-encryption key is drawn and written to its row, and the package's secrets are wrapped
under it; they take effect at the next power-on reset. -/
def execJtagProvision (package : List Byte) (s : State) : Host.Outcome State Fault Refusal :=
  onChip (fun _ c =>
    if c.power.debug && c.power.jtag == 0x41 && c.power.epoch.isSome && Config.provisionOk package then
      let e := c.power.epoch.getD 0
      let key := c.free256
      { c.drew.drew.drew.drew with power := { c.power with
        provisioned := c.power.provisioned.set e true, keyRows := c.power.keyRows.set e key
        wrapped := c.power.wrapped.set e (Config.wrapSecrets key (Config.packageSecrets package)) } }
    else c) s

end Sys2Proof.Machine
end

