-- ==== Sys2Proof/Machine/Tables.lean ====
section
/-! DEFINITION. The table commits and TBL_REVERT (R302 to R306), and the SYS and SHOW commands that are no other file's
(R307 to R309, R47, R90, R294). -/

namespace Sys2Proof.Machine

open Sys2Proof

/-! ### Tables -/

/-- FIRST and COUNT of a payload as a table clamps them (R305, R306). -/
def tableRange (t p : Nat) : Nat × Nat :=
  let first := min (pl p 0 0 32) (recCount t - 1)
  let n := max 1 (pl p 4 0 32)
  (first, min n (recCount t - first))

/-- The staging records of a range, with what reading them finds in LPDDR5X. -/
def Chip.readStaging (c : Chip) (d : List Host.Cell) (t first n : Nat) : Chip × List (Nat × Nat) :=
  (c.noteRead 0 8 (c.stagingAddr t first) (n * recSize t),
    (List.range n).map fun k => (first + k, c.fetchLE d (c.stagingAddr t (first + k)) (recSize t)))

/-- The first record of a range that fails its check (R88). -/
def failingRecord (t : Nat) (l : List (Nat × Nat)) : Option Refuse :=
  (l.find? fun e => recStatus t e.1 e.2 != 0).map fun e => ⟨recStatus t e.1 e.2, 0, e.1⟩

/-- The records of a range as acceptance clamps and seals them (R87). -/
def clampRange (t : Nat) (l : List (Nat × Nat)) : List (Nat × Nat) := l.map fun e => (e.1, reseal t e.1 (clampRecord t e.2))

/-- The octets of a table's staging records that acceptance and copy-forward write: all but the packer's state (R182). -/
def stagingRuns (t : Nat) : List (Nat × Nat) := if t = 3 then [(0, 0x10), (0x1B, 5)] else [(0, recSize t)]

/-- Runs of octets of records written into staging. -/
def Chip.writeRuns (c : Chip) (d : List Host.Cell) (t : Nat) (runs : List (Nat × Nat)) (l : List (Nat × Nat)) :
    List Host.Cell × Chip :=
  l.foldl (fun s e => runs.foldl (fun s k =>
    Chip.store s.2 s.1 8 (c.stagingAddr t e.1 + k.1) (recBytes e.2 k.1 k.2)) s) (d, c)

/-- Records written into staging. -/
def Chip.writeStaging (c : Chip) (d : List Host.Cell) (t : Nat) (l : List (Nat × Nat)) : List Host.Cell × Chip :=
  c.writeRuns d t (stagingRuns t) l

/-- A live record whole: a descriptor with the packer's state in it (R180, R182). -/
def Chip.liveRec (c : Chip) (t i : Nat) : Nat :=
  if t = 3 then setFld (c.recAt t i) 0x10 0 88 (c.univ i).octets else c.recAt t i

/-- A table commit (R304, R305): the named staging records checked, clamped, written back and carried;
the RESULT of a MISSED one gives their number too. -/
def Chip.tableCommit (c : Chip) (d : List Host.Cell) (t : Nat) (h : CmdHdr) (p : Nat) : List Host.Cell × Chip :=
  let k := tableRange t (pl p 0 0 64)
  let q := if c.domainOn 4 then c.readStaging d t k.1 k.2 else (c, [])
  let l := clampRange t q.2
  let r := q.1.commitTry (0x0300 + t) h p true fun _ _ =>
    if !c.domainOn 4 then .error (denied 16)
    else match failingRecord t q.2 with
    | some e => .error e
    | none => .ok ([.recs t l (t == 3 && pl p 8 0 1 == 1)], leBytes 4 k.2)
  match q.1.target h p true, r.2 with
  | .error e, _ => (d, if e = missed then q.1.respond h.chan (0x0300 + t) h.tag ⟨2, 0, c.openCsn, leBytes 4 k.2⟩ else r.1)
  | .ok _, none => (d, r.1)
  | .ok _, some _ => r.1.writeStaging d t l

/-- The meaning of a table commit. -/
def tableCommand (t : Nat) (h : CmdHdr) (p : Nat) (s : State) : Host.Outcome State Fault Refusal :=
  firmwareBoth (0x0300 + t) h p (fun p d c => c.tableCommit d t h p) s

/-- TBL_FIXTURE_COMMIT (R302, R305). -/
def execTblFixtureCommit (h : CmdHdr) (p : Nat) (s : State) : Host.Outcome State Fault Refusal := tableCommand 1 h p s
/-- TBL_PROFILE_COMMIT (R302, R305). -/
def execTblProfileCommit (h : CmdHdr) (p : Nat) (s : State) : Host.Outcome State Fault Refusal := tableCommand 2 h p s
/-- TBL_UNIVERSE_COMMIT (R302, R305). -/
def execTblUniverseCommit (h : CmdHdr) (p : Nat) (s : State) : Host.Outcome State Fault Refusal := tableCommand 3 h p s
/-- TBL_RUN_COMMIT (R302, R305). -/
def execTblRunCommit (h : CmdHdr) (p : Nat) (s : State) : Host.Outcome State Fault Refusal := tableCommand 4 h p s
/-- TBL_CANVAS_COMMIT (R302, R305). -/
def execTblCanvasCommit (h : CmdHdr) (p : Nat) (s : State) : Host.Outcome State Fault Refusal := tableCommand 5 h p s
/-- TBL_LAYER_COMMIT (R302, R305). -/
def execTblLayerCommit (h : CmdHdr) (p : Nat) (s : State) : Host.Outcome State Fault Refusal := tableCommand 6 h p s
/-- TBL_CELLPOS_COMMIT (R302, R305). -/
def execTblCellposCommit (h : CmdHdr) (p : Nat) (s : State) : Host.Outcome State Fault Refusal := tableCommand 7 h p s
/-- TBL_CURVE_COMMIT (R302, R305). -/
def execTblCurveCommit (h : CmdHdr) (p : Nat) (s : State) : Host.Outcome State Fault Refusal := tableCommand 8 h p s
/-- TBL_CUE_COMMIT (R302, R305). -/
def execTblCueCommit (h : CmdHdr) (p : Nat) (s : State) : Host.Outcome State Fault Refusal := tableCommand 9 h p s
/-- TBL_INUNIV_COMMIT (R302, R305). -/
def execTblInunivCommit (h : CmdHdr) (p : Nat) (s : State) : Host.Outcome State Fault Refusal := tableCommand 10 h p s
/-- TBL_INPATCH_COMMIT (R302, R305). -/
def execTblInpatchCommit (h : CmdHdr) (p : Nat) (s : State) : Host.Outcome State Fault Refusal := tableCommand 11 h p s
/-- TBL_SOURCE_COMMIT (R302, R305). -/
def execTblSourceCommit (h : CmdHdr) (p : Nat) (s : State) : Host.Outcome State Fault Refusal := tableCommand 12 h p s
/-- TBL_UCAST_COMMIT (R302, R305). -/
def execTblUcastCommit (h : CmdHdr) (p : Nat) (s : State) : Host.Outcome State Fault Refusal := tableCommand 13 h p s
/-- TBL_RDMCTX_COMMIT (R302, R305). -/
def execTblRdmctxCommit (h : CmdHdr) (p : Nat) (s : State) : Host.Outcome State Fault Refusal := tableCommand 14 h p s
/-- TBL_STREAM_COMMIT (R302, R305). -/
def execTblStreamCommit (h : CmdHdr) (p : Nat) (s : State) : Host.Outcome State Fault Refusal := tableCommand 15 h p s

/-- TBL_REVERT (R306): a descriptor's staging record takes the packer's state too, as the live record has it. With the staging areas or the table's banks off it is denied (log entry 37): the banks of fixtures, cell positions and cues
are in LPDDR5X (R302). -/
def execTblRevert (h : CmdHdr) (p : Nat) (s : State) : Host.Outcome State Fault Refusal :=
  firmwareBoth 0x0310 h p (fun p d c =>
    let t := clampN 1 15 (pl p 0 0 8)
    let k := tableRange t (p >>> 32)
    if !(c.domainOn 4 && (c.domainOn 3 || (bankAt t).1 = 0)) then (d, c.decline h 0x0310 (denied 16))
    else
      let all := (List.range k.2).map (k.1 + ·)
      let go := all.filter fun i => !c.locked t i
      let r := c.writeRuns d t [(0, recSize t)] (go.map fun i => (i, c.liveRec t i))
      (r.1, r.2.complete h 0x0310 0 (leBytes 4 go.length ++ leBytes 4 (all.length - go.length)))) s

/-! ### SYS (R307) -/

/-- SYS_INFO. -/
def execSysInfo (h : CmdHdr) (p : Nat) (s : State) : Host.Outcome State Fault Refusal :=
  firmware 0x0101 false h p (fun p _ c =>
    let ver (t : Nat) : List Byte := leBytes 4 (c.image t).version
    c.complete h 0x0101 0
      (if pl p 0 0 1 = 0 then ver 0 ++ ver 1 ++ leBytes 4 (0x11 + (c.image 0).ferry % 256 * 256) else ver 2 ++ ver 3 ++ ver 4)) s

/-- SYS_PING. -/
def execSysPing (h : CmdHdr) (p : Nat) (s : State) : Host.Outcome State Fault Refusal :=
  firmware 0x0102 false h p (fun p _ c => c.complete h 0x0102 0 (leBytes 8 p)) s

/-- SYS_EVENT_ROUTE (R452): the MASKED bit of source 0 clamps to 0. -/
def execSysEventRoute (h : CmdHdr) (p : Nat) (s : State) : Host.Outcome State Fault Refusal :=
  firmware 0x0105 false h p (fun p _ c =>
    let src := pl p 0 0 8
    (c.wr (Reg.EVT_ROUTE src) (pl p 0 8 16 * 256 + (if src = 0 then 0 else pl p 0 24 1 * 2 ^ 24))).complete h 0x0105 0 []) s

/-! ### SHOW (R308, R309) -/

/-- SHOW_COMMIT (R32). -/
def execShowCommit (h : CmdHdr) (p : Nat) (s : State) : Host.Outcome State Fault Refusal :=
  firmware 0x0201 false h p (fun p _ c => c.commitCommand 0x0201 h p true fun _ _ => .ok (c.dirtyRegs, [])) s

/-- SHOW_CROSS (R47, R308, R324). -/
def execShowCross (h : CmdHdr) (p : Nat) (s : State) : Host.Outcome State Fault Refusal :=
  firmware 0x0202 false h p (fun p _ c =>
    if c.fg.mode != .stopped || c.underActive then c.refuse h 0x0202 (denied 12)
    else if c.mirrors [.cross] then
      c.forwardCommit ⟨0, ⟨some h.chan, h.tag, 0x0202, c.openCsn, [.cross], none⟩, some h, p, []⟩
    else c.callExplicit (some h.chan) h.tag) s

/-- SHOW_UNCOMMIT (R309): a standby that has been sent a commit withdrawn is told (log entry 35). -/
def execShowUncommit (h : CmdHdr) (p : Nat) (s : State) : Host.Outcome State Fault Refusal :=
  firmware 0x0203 false h p (fun p _ c =>
    let csn := pl p 8 0 64
    let named (m : Commit) : Bool :=
      (match m.chan with | some ch => Chan.number ch == pl p 0 16 9 | none => false) && m.tag == pl p 0 0 16 && m.target == csn
    let gone := if c.openCsn ≤ csn then c.commits.filter named else []
    if gone.isEmpty then c.decline h 0x0203 missed
    else
      let told := c.pair.isle == .active && c.pair.linkUp && c.pair.mirrorOk && gone.any fun m => m.changes.any Change.mirrored
      let c := { c with commits := c.commits.filter fun m => !named m }
      (if told then c.tellMissed csn else c).complete h 0x0203 0 (leBytes 4 gone.length)) s

/-- SHOW_LAYER_FLIP (R90). -/
def execShowLayerFlip (h : CmdHdr) (p : Nat) (s : State) : Host.Outcome State Fault Refusal :=
  firmware 0x0204 false h p (fun p _ c =>
    let i := pl p 0 0 4 * 64 + pl p 0 4 6
    let r := setFld (setFld (c.latestLayer i) 0 0 64 (pl p 8 0 64)) 0xC 0 32 (pl p 4 0 32)
    c.commitCommand 0x0204 h p true fun _ _ => .ok ([.layer i (reseal 6 i (clampLayer r))], [])) s

/-- COMMAND_BAD (R294): the part finds for itself which condition comes first; a command that meets none is not bad. -/
def execCommandBad (h : CmdHdr) (opcode : Nat) (_kind : BadKind) (s : State) : Host.Outcome State Fault Refusal :=
  whenTaken opcode h 0 (fun _ c => match badDetail h opcode with
    | some detail => c.badCommand h opcode detail
    | none => c) s

end Sys2Proof.Machine
end

