-- ==== Sys2Proof/Machine/RegWrites.lean ====
section
/-! DEFINITION. Register writes (R7, R8, R38, R455, R463, R466): the write of a register by its access code, the registers
whose writes do more, and the counter clears and epochs that have rows of their own. -/

namespace Sys2Proof.Machine

open Sys2Proof

/-! ### Writes by access code -/

/-- A write of the enabled octets of `v` to a register: merged and clamped for RW and RWB, its ones clearing for W1C, and
ignored for the others (R7, R463). -/
def Chip.writeReg (c : Chip) (off v be : Nat) : Chip :=
  match rowAt off with
  | none => c
  | some r =>
    match r.access with
    | .rw => c.wr off (clampReg c off (mergeBytes (c.rd off) v be))
    | .rwb => c.wr off (clampReg c off (mergeBytes (c.rd off) v be))
    | .w1c => c.clearEvt off (v &&& enableMask be)
    | .ro => c
    | .wo => c

/-- A write of TBn_RATE, which acts with SOURCE 4 only (R56, R79). -/
def Chip.writeRate (c : Chip) (n v be : Nat) : Chip :=
  let t := c.tb n
  if bits (c.lv (Reg.TB_CFG n)) 0 3 = 4 then
    c.setTb n { t.noted c.cycle with rate := clampI (-512000000) 512000000 (sext 32 (mergeBytes (twos 32 t.rate) v be)) }
  else c

/-- A write to a mailbox's command area, which fails while the mailbox is busy (R263, R279). -/
def Chip.writeMailbox (c : Chip) (m off v be : Nat) : Chip :=
  if (c.mbox m).busy then c.writeFailed false off hostReq (c.rd Reg.HB_EPOCH) 3 0 4 else c.writeReg off v be

/-- A write to a ring's base or buffer register: it acts while the ring is disabled, and BASE_HI reads 0 for LOC 0 (R267, R268). -/
def Chip.writeRingBase (c : Chip) (r off v be : Nat) : Chip :=
  if c.ringOn r then c
  else if off = Reg.RING_BASE_HI r && c.inWindow r then c.wr off 0 else c.writeReg off v be

/-- A write to the peer's MAC address, which the link no longer loads (R331). -/
def Chip.writePeerMac (c : Chip) (off v be : Nat) : Chip :=
  let c := c.writeReg off v be
  c.setPair { c.pair with macWritten := if c.pair.macWritten.contains off then c.pair.macWritten else off :: c.pair.macWritten }

/-- The runs of enabled octets of a write of some dwords with their byte enables, each with its first octet's place. -/
def enabledRuns (w : List (Nat × Nat)) : List (Nat × List Byte) :=
  (List.range (4 * w.length)).foldl (fun l i =>
    let x := w.getD (i / 4) (0, 0)
    if !bit x.2 (i % 4) then l
    else
      let b : Byte := BitVec.ofNat 8 (x.1 >>> (8 * (i % 4)))
      match l.getLast? with
      | some (k, bs) => if k + bs.length = i then l.dropLast ++ [(k, bs ++ [b])] else l ++ [(i, [b])]
      | none => [(i, [b])]) []

/-- A whole write to the ring window stored (R270, R462). -/
def Chip.storeWindow (c : Chip) (off : Nat) (w : List (Nat × Nat)) : Chip :=
  (enabledRuns w).foldl (fun c e => c.writeWindow 9 (off - 0x1000000 + e.1) e.2) c

/-! ### Meanings of the clears and the epoch -/

/-- LANEN_CLR (R109). -/
def execLanenClr (lane : Nat) (v : Word) (s : State) : Host.Outcome State Fault Refusal :=
  within (lane < 8) (regCommand (Reg.LANE_CLR lane) (fun c =>
    if v.getLsbD 0 then (c.wr (Reg.LANE_MIN_LEVEL lane) (c.rd (Reg.LANE_LEVEL lane))).wr (Reg.LANE_URGENT_CNT lane) 0 else c) s)

/-- SCHED_CLR (R174). -/
def execSchedClr (v : Word) (s : State) : Host.Outcome State Fault Refusal :=
  regCommand Reg.SCHED_CLR (fun c =>
    if v.getLsbD 0 then ((c.wr Reg.FADE_PEAK c.fadesInUse).wr Reg.TASK_LATE_CNT 0).wr Reg.TASK_FAIL_CNT 0 else c) s

/-- EVT_CLR (R461). -/
def execEvtClr (v : Word) (s : State) : Host.Outcome State Fault Refusal :=
  regCommand Reg.EVT_CLR (fun c =>
    if v.getLsbD 0 then
      (((c.wr Reg.EVT_UNROUTED_CNT 0).wr Reg.MAINT_DEFER_CNT 0).wr Reg.CONFLICT_CNT 0).wr Reg.CONFLICT_LAST
        (setBit (c.rd Reg.CONFLICT_LAST) 31 false)
    else c) s

/-- HB_EPOCH_WRITE (R264); one that enables no bytes has no effect (R463). -/
def execHbEpochWrite (v : Word) (be : Nat) (s : State) : Host.Outcome State Fault Refusal :=
  within (be < 16) (if be = 0 then .next s else regCommand Reg.HB_EPOCH (fun c => c.writeReg Reg.HB_EPOCH v.toNat be) s)

/-- HB_EVT_WFAIL_CLEAR (R264, R286): the latch is armed again. -/
def execHbEvtWfailClear (v : Word) (s : State) : Host.Outcome State Fault Refusal :=
  regCommand Reg.HB_EVT (fun c =>
    let c := c.clearEvt Reg.HB_EVT v.toNat
    if v.getLsbD 0 then c.wr Reg.HB_WFAIL_ADDR_HI (setBit (c.rd Reg.HB_WFAIL_ADDR_HI) 31 false) else c) s

/-! ### The register write -/

/-- The registers whose writes do more than their access code says: what a write of the word `w` (its disabled octets 0), or
of the enabled octets of `v`, means, by the base of the block, the instance and the offset in it. -/
def ownWrite (c : Chip) (base i l off v be : Nat) (w : Word) : Option (State → Host.Outcome State Fault Refusal) :=
  match base with
  | 0x800 => if l = 0 then some (execTbSnap w) else none
  | 0x840 => if l = 0x14 then some (regCommand off fun c => c.writeRate i v be) else none
  | 0xA00 => if l = 0x20 then some (execTxtsRelease i w) else if l = 0x24 then some (execTxtsStatusClear i w) else none
  | 0xA80 => if l = 0x20 then some (execTxtsRelease (i + 2) w) else if l = 0x24 then some (execTxtsStatusClear (i + 2) w) else none
  | 0xB00 => if l = 0x20 then some (execTxtsRelease 4 w) else if l = 0x24 then some (execTxtsStatusClear 4 w) else none
  | 0x1100 => if l = 0xC then some (execLanenClr i w) else none
  | 0x1200 => if l = 0x28 then some (execMapClr w) else none
  | 0x1400 => if l = 0x14 then some (execModelClr w) else none
  | 0x1600 => if l = 0x24 then some (execSchedClr w) else none
  | 0x3300 => if l = 0 then some (execNetCntSnap w) else if l = 4 then some (execNetCntClr w) else none
  | 0x200 => if l = 4 then some (execHbEpochWrite (BitVec.ofNat 32 v) be)
      else if l = 0x28 then some (execHbEvtWfailClear w) else none
  | 0x4000 => if l < 0x40 then some (regCommand off fun c => c.writeMailbox i off v be)
      else if l = 0x80 then some (execMbmDoorbell i w) else none
  | 0x4800 =>
    match l with
    | 0x10 => some (execTffAdvance i w)
    | 0x14 => some (execTffMark i w)
    | 0x18 => some (execTffRewind i w)
    | 0x1C => some (execTffRelease i w)
    | 0x20 => some (execTffClose i w)
    | 0x24 => some (execTffFlush i w)
    | _ => none
  | 0x5000 => if 0x50 ≤ l && l < 0x70 then some (regCommand off fun c => c.writePeerMac off v be) else none
  | 0x6000 => if l = 0x10 then some (execMtrHostSnap w) else none
  | 0xA000 =>
    if l = 4 then some (execCkxStart i w)
    else if l = 0x18 || l = 0x1C then
      some (execCkxRunWrite i (l == 0x1C)
        (BitVec.ofNat 32 (mergeBytes (bits (c.check i).run (if l = 0x1C then 32 else 0) 32) v be)))
    else if l = 0x20 || l = 0x24 then some (execCkxDataWrite i (l == 0x24) (BitVec.ofNat 32 v) be)
    else if l < 0x38 then some (regCommand off fun c => c.onCheck i fun c => c.writeReg off v be)
    else none
  | 0xB000 => if l = 0x24 then some (execEccmEvtClear i w) else none
  | 0xD000 => if l = 0x10 then some (execCtrlRestart w) else if l = 0x18 then some (execBootRecover w) else none
  | 0xE400 => if l = 0x14 then some (execEvtClr w) else none
  | 0x100000 =>
    if l = 0 then some (execRingEnable i (BitVec.ofNat 32 (mergeBytes (c.rd off) v be)))
    else if l < 0x14 then some (regCommand off fun c => c.writeRingBase i off v be)
    else if l = 0x14 then some (execRingProdWrite i (BitVec.ofNat 32 (mergeBytes (c.ring i).prod v be)))
    else if l = 0x18 then some (execRingConsWrite i (BitVec.ofNat 32 (mergeBytes (c.ring i).cons v be)))
    else if l = 0x1C then some (if c.hostProduces i then execRingFlushHost i w else execRingFlushDevice i w)
    else none
  | 0x200000 =>
    if off % 16 = 12 && bit be 0 && v % 2 = 0 && bit (c.rd off) 0 then some (execMsixUnmask ((off - 0x200000) / 16)) else none
  | 0x1000000 =>
    some (onChip fun _ c => c.barWrite off 4 fun c => c.storeWindow off [(v, be)])
  | _ => none

/-- A write of one dword at an offset of BAR0 with byte enables. One that enables none has no effect (R463). -/
def writeDword (off : Nat) (v : Word) (be : Nat) (s : State) : Host.Outcome State Fault Refusal :=
  if be = 0 then .next s
  else
    let plain := onChip (fun _ c => c.barWrite off 4 fun c => c.writeReg off v.toNat be)
    match blockAt off with
    | none => plain s
    | some (b, i) =>
      ((ownWrite s.chip b.base i ((off - b.base) % b.stride) off v.toNat be
        (BitVec.ofNat 32 (v.toNat &&& enableMask be))).getD plain) s

/-- The cause for which a dword of a write fails: that of its offset, or a mailbox that is busy, for its command area and its doorbell
(R263). -/
def Chip.dwordCause (c : Chip) (off : Nat) : Option Nat :=
  match c.barCause off with
  | some k => some k
  | none =>
    match blockAt off with
    | some (b, m) =>
      let l := (off - b.base) % b.stride
      if b.base = 0x4000 && (l < 0x40 || l = 0x80) && (c.mbox m).busy then some 3 else none
    | none => none

/-- The dwords of a write from number `n` on applied in ascending order, each a cycle after the one before but for a pair (R462), with
the cause of the first that has failed. -/
def writeRest (off : Nat) : Nat → List (Word × Nat) → Option Nat → State → Host.Outcome State Fault Refusal × Option Nat
  | _, [], k, s => (.next s, k)
  | n, (v, be) :: rest, k, s =>
    let o := off + 4 * n
    let s := if n = 0 || pairsDown o then s else { s with chip := s.chip.runToCycle (s.chip.cycle + 1) }
    match if be = 0 then none else s.chip.dwordCause o with
    | some f => writeRest off (n + 1) rest (k.orElse fun _ => some f) s
    | none =>
      match writeDword o v be s with
      | .next t => writeRest off (n + 1) rest k t
      | r => (r, k)

/-- A write of several dwords: to the ring window one store, and elsewhere dword by dword. What of it fails is dropped, and the write
is logged once, with its length and the first cause (DEDUCED from R263, log entry 15). -/
def writeDwords (off : Nat) (l : List (Word × Nat)) (s : State) : Host.Outcome State Fault Refusal :=
  let len := 4 * l.length
  if !s.chip.barReady off || l.all fun e => e.2 = 0 then .next s
  else if 0x1000000 ≤ off then
    onChip (fun _ c => c.barWrite off len fun c => c.storeWindow off (l.map fun e => (e.1.toNat, e.2))) s
  else
    let epoch := s.chip.rd Reg.HB_EPOCH
    match writeRest off 0 l none s with
    | (.next t, some k) => onChip (fun _ c => c.writeFailed false off hostReq epoch k 0 len) t
    | (r, _) => r

/-- REGISTER_WRITE (R462, R463): a write at an offset of BAR0 of a first dword with its byte enables, and of those that follow it in one
access of at most 512 octets. -/
def execRegisterWrite (off : Nat) (first : Word × Nat) (rest : List (Word × Nat)) (s : State) : Host.Outcome State Fault Refusal :=
  within (off % 4 == 0 && off + 4 * rest.length < 0x2000000 && first.2 < 16 && rest.length < 128 && rest.all fun e => e.2 < 16)
    (if rest.isEmpty then writeDword off first.1 first.2 s else writeDwords off (first :: rest) s)

end Sys2Proof.Machine
end

