-- ==== Sys2Proof/Machine/Crossing.lean ====
section
/-! DEFINITION. The crossing (R11, R18, R19, R25 to R50, R457): the seal point, what a crossing refuses, how the settings go
live, how the last frame ends and the next begins, and the three ways in which a crossing comes about. -/

namespace Sys2Proof.Machine

open Sys2Proof

/-! ### Held resources (R457) -/

/-- A claim on a resource of R457: its code, which of its kind, and the party that claims it. -/
structure Claim where
  code  : Nat
  unit  : Nat
  party : Nat
  deriving DecidableEq, Repr

/-- A commit that its crossing refuses: its place among the commits of the crossing, why, and the claims that failed. -/
structure Refused where
  place : Nat
  why   : Refuse
  claims : List Claim
  deriving DecidableEq, Repr

/-- The registers whose settings claim resources. -/
def claimRegs : List Nat :=
  [Reg.LTC_CFG, Reg.FPOUT_CFG, Reg.DMX_CFG 15, Reg.PIX_CFG 31] ++ (List.range 4).map Reg.TB_CFG ++
    (List.range 8).map Reg.TF_CFG

/-- The claims that a register's value makes: LTC_IN by LTC_CFG.EN or a time base (party 0) or by PIX31 in mode 1, FPULSE_OUT
by FPOUT_CFG.EN or by DMX15 with RDM_EN, the discipline sources by time bases, a producer by a FIFO. -/
def claimsAt (off v : Nat) : List Claim :=
  if off = Reg.LTC_CFG then (if bit v 0 then [⟨1, 0, 0⟩] else [])
  else if off = Reg.PIX_CFG 31 then (if bit v 1 then [⟨1, 0, 1⟩] else [])
  else if off = Reg.FPOUT_CFG then (if bit v 0 then [⟨2, 0, 0⟩] else [])
  else if off = Reg.DMX_CFG 15 then (if bit v 1 then [⟨2, 0, 1⟩] else [])
  else match (List.range 4).find? fun n => off == Reg.TB_CFG n with
  | some n =>
    match bits v 0 3 with
    | 1 => [⟨3, bits v 8 3 * 256 + bits v 16 8, n⟩]
    | 2 => [⟨1, 0, 0⟩, ⟨4, 0, n⟩]
    | 3 => [⟨5, 0, n⟩]
    | _ => []
  | none =>
    match (List.range 8).find? fun f => off == Reg.TF_CFG f with
    | some f => if bits v 0 2 = 0 then [] else [⟨7, bits v 0 2, f⟩]
    | none => []

/-- The claims of the live configuration. -/
def Chip.claims (c : Chip) : List Claim := (claimRegs.map fun o => claimsAt o (c.lv o)).flatten

/-- The claims that a commit carries. -/
def Commit.claims (m : Commit) : List Claim :=
  (m.changes.map fun ch => match ch with
    | .reg o v => claimsAt o v.toNat
    | _ => []).flatten

/-- Whether two claims are of different parties on one resource. -/
def Claim.against (a b : Claim) : Bool := a.code == b.code && a.unit == b.unit && a.party != b.party

/-- The claims of a list that a held resource refuses; the others hold theirs for those after them. -/
def conflicts (held : List Claim) : List Claim → List Claim
  | [] => []
  | k :: l => if held.any k.against then k :: conflicts held l else conflicts (held ++ [k]) l

/-- Whether a place is among the refused. -/
def refusedAt (bad : List Refused) (n : Nat) : Bool := bad.any fun r => r.place == n

/-- The commits of a crossing, with their places, that are not refused. -/
def standing (s : List (Nat × Commit)) (bad : List Refused) : List (Nat × Commit) := s.filter fun e => !refusedAt bad e.1

/-- The part with the settings of a list of commits live. -/
def Chip.configured (c : Chip) (s : List (Nat × Commit)) : Chip := s.foldl (fun c e => c.configureAll e.2.changes) c

/-- One resolution of steps 1 to 3 of R457, without the commits already refused: those it refuses. -/
def Chip.claimRound (c : Chip) (s : List (Nat × Commit)) (bad : List Refused) : List Refused :=
  let go := standing s bad
  let kept := (c.configured go).claims
  let held := c.claims.filter fun k => kept.contains k
  let new := (go.foldl (fun (a : List Claim × List Refused) e =>
    match conflicts a.1 e.2.claims with
    | [] => (a.1 ++ e.2.claims, a.2)
    | bad => (a.1, a.2 ++ [⟨e.1, denied 13, bad⟩])) (held, [])).2
  let lost := ((s.filter fun e => (new ++ bad).any fun r => r.place == e.1 && !r.claims.isEmpty).map fun e =>
    (e.2.claims.filter fun k => 3 ≤ k.code && k.code ≤ 5).map Claim.party).flatten
  let unbound := (standing go new).filterMap fun e =>
    (e.2.changes.findSome? fun ch => match ch with
      | .frameGen tb _ _ _ _ => if lost.contains tb then some tb else none
      | _ => none).map fun tb => (⟨e.1, denied 13, [⟨6, tb, 0⟩]⟩ : Refused)
  new ++ unbound

/-- The resolution repeated until it refuses no further commit. -/
def Chip.claimsFail (c : Chip) (s : List (Nat × Commit)) : Nat → List Refused → List Refused
  | 0, bad => bad
  | n + 1, bad =>
    match c.claimRound s bad with
    | [] => bad
    | new => Chip.claimsFail c s n (bad ++ new)

/-! ### Admission at the crossing (R19, R430) -/

/-- The commits of the crossing that switch a domain whose dependencies are not as R24 wants them once the commits before are
applied: one was accepted, and has been lost since (DEDUCED, log entry 43). -/
def Chip.powerRound (c : Chip) (s : List (Nat × Commit)) : List Refused :=
  (s.foldl (fun (a : List Bool × List Refused) e =>
    if e.2.changes.all fun ch => match ch with
        | .powerSet mask on => powerAllowed mask (powerAfter mask on a.1)
        | _ => true
    then (powerThrough a.1 e.2.changes, a.2) else (a.1, a.2 ++ [⟨e.1, denied 16, []⟩])) (c.power.settled, [])).2

/-- The commits that the configuration of the crossing refuses, in their order: beyond a budget or a rule of admission, or of
a domain that is off. -/
def Chip.admitRound (c : Chip) (s : List (Nat × Commit)) : List Refused :=
  let on := powerThrough c.power.settled ((s.map fun e => e.2.changes).flatten)
  (s.foldl (fun (a : Chip × List Refused) e =>
    match a.1.whyTooMuch e.2.changes with
    | some r => (a.1, a.2 ++ [⟨e.1, r, []⟩])
    | none =>
      if domainOff on e.2.changes then (a.1, a.2 ++ [⟨e.1, denied 16, []⟩])
      else (a.1.configureAll e.2.changes, a.2)) (c, [])).2

/-- Every commit that a crossing refuses: the claims first, then admission, and the claims again without what it refuses
(DEDUCED, log entry 38). -/
def Chip.refusals (c : Chip) (s : List (Nat × Commit)) : Nat → List Refused → List Refused
  | 0, bad => bad
  | n + 1, bad =>
    let bad := c.claimsFail s (s.length + 1) bad
    let off := c.powerRound (standing s bad)
    match off ++ c.admitRound (standing s (bad ++ off)) with
    | [] => bad
    | new => Chip.refusals c s n (bad ++ new)

/-- Whether a change is of a register in a range of offsets. -/
def Change.inBlock (lo hi : Nat) : Change → Bool
  | .reg o _ => lo ≤ o && o < hi
  | _ => false

/-- A refused commit told (R300, R457): nothing of it is applied. It counts once, with the first of its claims that failed; each
port that a failed claim is of is denied (R217). A task ends RESOURCE_DENIED; a standby that refuses what its active had
accepted is stale. -/
def Chip.tellRefused (c : Chip) (csn : Nat) (m : Commit) (r : Refused) : Chip :=
  let c := match r.claims with
    | [] => c
    | k :: _ => (c.inc Reg.CONFLICT_CNT).wr Reg.CONFLICT_LAST (k.code + 2 ^ 31)
  let c := if r.claims.contains ⟨2, 0, 1⟩ then c.setDmx 15 { c.dmxPort 15 with denied := true } else c
  let c := if r.claims.contains ⟨1, 0, 1⟩ then c.setPix 31 { c.pixPort 31 with denied := true } else c
  match m.chan, m.slot with
  | some ch, _ =>
    c.raise (Chan.source ch) 0x0402 (it4 (m.opcode + m.tag * 65536) ++ it4 (Chan.number ch) ++
      it4 (r.why.status + r.why.detail * 65536) ++ it4 r.why.index ++ it8 csn)
  | none, some s => c.failTask s .resourceDenied
  | none, none =>
    if c.pair.isle.standing && m.changes.any Change.mirrored then
      c.staleFrom csn
    else c

/-! ### The generator at a crossing (R28) -/

/-- A change of the generator's settings at a crossing with instant `at_` on the base `was` that it is asserted on. -/
def Chip.setGenerator (c : Chip) (was at_ : Nat) (ch : Change) : Chip :=
  { c with fg := c.fg.takes (fun tb => if tb = was then at_ else (c.tb tb).ns) ch }

/-- The reading of the crossing's instant on the bound time base as the settings leave it. -/
def Chip.instantNow (c : Chip) (oldTb at_ : Nat) : Nat := if c.fg.tb = oldTb then at_ else c.now

/-- How a crossing on the grid is selected once its settings are live: by its index on the grid that it leaves, on which one
that becomes the origin has index 0 (R28, R76, R208). -/
def FrameGen.selNow (g : FrameGen) : PulseSel → PulseSel
  | .grid _ => if g.lastGrid then .grid g.lastIdx else .single
  | sel => sel

/-- The pulse of the crossing in force read on the base that the crossing binds. -/
def Chip.rebasePulse (c : Chip) (last : Nat) : Chip :=
  { c with pulses := { c.pulses with
      outDue := c.pulses.outDue.map fun d => if d.csn = c.csn then { d with instant := last, fixed := min d.fixed last } else d } }

/-- The pulse of the crossing in force selected by the index that its settings leave it. -/
def Chip.reselectPulse (c : Chip) : Chip :=
  { c with pulses := { c.pulses with
      outDue := c.pulses.outDue.map fun d => if d.csn = c.csn then { d with sel := c.fg.selNow d.sel } else d } }

/-- L and the next crossing once crossing `c` has been asserted. An explicit crossing called before the generator was started moves
none of its crossings (log entry 44). -/
def Chip.placeNext (c : Chip) (old : FrameGen) (last : Nat) (sel : PulseSel) (idx : Option Nat) : Chip :=
  let c := if c.fg.tb = old.tb then c else c.rebasePulse last
  let g := c.fg.placed old last idx
  let same := g.tb == old.tb && g.rateN == old.rateN && g.rateD == old.rateD && g.origin == old.origin
  if sel == .byCsn && same && g.mode == .running then
    { c with fg := { g with next := old.next, nextIdx := old.nextIdx } }
  else
    let c := { c with fg := { g with immediate := none } }
    if c.fg.mode = .running && !c.fg.stopping then c.fixNext else c

/-- The explicit crossings still called spaced anew from the crossing just asserted, a period of the rate now configured apart: each
was called earlier than one period after the crossing before it (R48). -/
def Chip.respaceCalls (c : Chip) : Chip :=
  let l := c.fg.explicit.zipIdx.map fun e => { e.1 with instant := c.fg.crossCycle + (e.2 + 1) * c.periodCycles }
  if l == c.fg.explicit then c
  else l.foldl (fun c x => c.fixPulse x.csn (c.bound.advance (x.instant - c.cycle)).ns .byCsn)
    { c with fg := { c.fg with explicit := l } }

/-! ### What the commits of a crossing start -/

/-- What a change starts beside the configuration that it sets; switching of domains comes last. -/
def Chip.startChange (c : Chip) (was : FgMode) : Change → Chip
  | .recs t rs resetState => if t = 3 && resetState then rs.foldl (fun c e => c.resetUniv e.1) c else c
  | .fgStop => if was = .running then { c with fg := { c.fg with stopping := true } } else c
  | .ptpSet n a s d p1 p2 to_ =>
    let t := c.tb n
    c.setTb n { t with ptp := { t.ptp with
      logAnnounce := a, logSync := s, logDelay := d, priority1 := p1, priority2 := p2, announceTo := to_ } }
  | .feedSet f en w dec nom vfs afs => c.applyFeed f en w dec nom vfs afs
  | .pqSet f sag swell intr hyst minHc => c.setFeed f { c.feed f with pq := ⟨sag, swell, intr, hyst, minHc⟩ }
  | .pulseSet n f q en ep w => c.applyPulse n f q en ep w
  | .pairConfig r p t => c.applyPairConfig r p t
  | .promote => c.applyPromote
  | .demote => c.applyDemote
  | .swap => c.applySwap
  | .activate t => c.applyActivate t
  | .revert t cause => c.applyRevert t cause
  | .loopback p mode => c.setPort p { c.port p with loopback := mode }
  | .laneMargin l w h =>
    let low := decide (w * 10 < 3 * 256)
    let c := c.wr (Reg.LANE_MARGIN l) (w % 256 + h % 256 * 256 + low.toNat * 65536)
    if low then (c.setEvt Reg.CAL_EVT 4).raise 7 0x0802 (it4 l ++ it4 w ++ it8 c.csn) else c
  | .straitRotate s => if c.pair.failedLane == some s then c else c.setPair { c.pair with spare := s }
  | .effectStart e w a amp ff fc per ph => c.setEffect e ⟨w, a, amp, ff, fc, per, ph, 0, none⟩
  | .effectStop e ms => c.stopEffect e ms
  | _ => c

/-- The fades of a cue started, from the values of the frame before. -/
def Chip.startCue (c : Chip) (vals : Sparse Nat) (owner : Nat) : Change → Chip
  | .cueGo es => es.foldl (fun c e => c.startFade owner (natAt vals e.key) e) c
  | _ => c

/-- Fades that a commit starts. -/
def Commit.starts (m : Commit) : Nat :=
  (m.changes.map fun ch => match ch with | .cueGo es => es.length | _ => 0).sum

/-- What one commit starts, with the end of its task (R157, R158). -/
def Chip.startCommit (c : Chip) (vals : Sparse Nat) (was : FgMode) (m : Commit) : Chip :=
  let owner := match m.slot with | some s => fadeOwner s (c.task s).serial | none => 0
  let c := match m.slot with | some s => if c.domainOn 3 then c.taskTaken s c.csn m.starts else c | none => c
  let c := m.changes.foldl (fun c ch => (c.startChange was ch).startCue vals owner ch) c
  let c := if m.changes.any (Change.inBlock (Reg.DMX_CFG 15) (Reg.DMX_CFG 15 + 0x40)) then
    c.setDmx 15 { c.dmxPort 15 with denied := false } else c
  if m.changes.any (Change.inBlock (Reg.PIX_CFG 31) (Reg.PIX_CFG 31 + 0x40)) then
    c.setPix 31 { c.pixPort 31 with denied := false } else c

/-- The copy-forwards of the tables whose commits a crossing takes (R35). -/
def copyForwards (csn : Nat) (l : List Commit) : List CopyForward :=
  let named := ((l.filter fun m => m.opcode / 256 == 3).map fun m => m.changes.filterMap fun ch => match ch with
    | .recs t rs _ => some (t, rs.map (·.1))
    | _ => none).flatten
  ((named.map (·.1)).eraseDups).map fun t => ⟨t, ((named.filter fun e => e.1 == t).map (·.2)).flatten.eraseDups, csn⟩

/-! ### What a change of the tables brings (R140, R165, R178, R246) -/

/-- The indices of a table whose records differ from what they were. -/
def Chip.changedRecs (c old : Chip) (t : Nat) : List Nat :=
  (((old.recsOf t).map (·.1) ++ (c.recsOf t).map (·.1)).eraseDups).filter fun i => c.recAt t i != old.recAt t i

/-- The slots of descriptors that no enabled fixture maps to any more set to 0 (R178). While PD_RENDER is off no slot changes
(R201): they are cleared at the first crossing with it on. -/
def Chip.clearUnmapped (c : Chip) : Chip :=
  if !c.domainOn 6 || c.slots.isEmpty then c
  else
    let now := (c.fixtures.map fun e => c.unitsOf e.1).flatten
    { c with slots := c.slots.filter fun e =>
        now.any fun y => y.space == e.1 / 512 && y.slot ≤ e.1 % 512 + 1 && e.1 % 512 + 1 < y.slot + y.width }

/-- Fixtures that become enabled or change their profile or their temperature source (R140, R141, R165). -/
def Chip.renewFixtures (c old : Chip) : Chip :=
  (c.changedRecs old 1).foldl (fun c i =>
    let a := old.recAt 1 i
    let b := c.recAt 1 i
    let new := FixRec.en b && !FixRec.en a || FixRec.profile a != FixRec.profile b
    let moved := FixRec.tempSrc a != FixRec.tempSrc b || FixRec.tempRef a != FixRec.tempRef b
    let c := if new then (c.resetFixture i).resetEstimate i else c
    if moved then { c with applied := setNat c.applied i 0 } else c) c

/-- The fixtures whose input units go live anew, by their patch or their profile, marked with the cycle (R172). -/
def Chip.markPatches (c old : Chip) : Chip :=
  let units (c : Chip) (f : Nat) : List (Nat × Nat) :=
    patchUnits (c.recAt 2 (FixRec.profile (c.recAt 1 f))) (InPatchRec.slot (c.recAt 11 f))
  let new := (c.recsOf 11).filter fun e => InPatchRec.en e.2 &&
    (c.recAt 11 e.1 != old.recAt 11 e.1 || units c e.1 != units old e.1)
  { c with patched := new.foldl (fun m e => setNat m e.1 (c.cycle + 1)) c.patched }

/-- The cue values of patched fixtures that differ from the frame before's, marked with the cycle (R172). -/
def Chip.markCues (c old : Chip) : Chip :=
  let both := ((c.recsOf 11).filter fun e => InPatchRec.en e.2 && InPatchRec.en (old.recAt 11 e.1)).map (·.1)
  let kept := c.cueChanged.filter fun e => InPatchRec.en (c.recAt 11 (e.1 / 32))
  { c with cueChanged := both.foldl (fun m f => (List.range 32).foldl (fun m a =>
      if c.cueSource f a = old.cueSource f a then m else setNat m (f * 32 + a) (c.cycle + 1)) m) kept }

/-- The ports whose mode goes live with a change: the link retrains, and firmware commits the path latencies of the new mode
for the next crossing (R69, R232). -/
def Chip.retrain (c old : Chip) : Chip :=
  ((List.range 5).filter fun p => c.lv (Reg.NET_MODE p) != old.lv (Reg.NET_MODE p)).foldl (fun c p =>
    let c := c.linkDown p
    if c.domainOn 1 && bits (c.lv (Reg.NET_MODE p)) 0 4 != bits (old.lv (Reg.NET_MODE p)) 0 4 then c.loadLatency p else c) c

/-- TSU_LAT_SET for the latencies that firmware's own commits make live (R69). -/
def Chip.tellLatencies (c : Chip) (l : List Commit) : Chip :=
  ((List.range 5).filter fun p => l.any fun m => m.chan.isNone && m.slot.isNone && m.changes.any
      (Change.inBlock (Reg.TSU_TX_LAT p) (Reg.TSU_TX_LAT p + 1))).foldl (fun c p =>
    c.raise (21 + p) 0x0B01 (it4 p ++ it4 (c.lv (Reg.TSU_TX_LAT p)) ++ it4 (c.lv (Reg.TSU_RX_LAT p)))) c

/-- The pins that a crossing's roles and settings drive: ISLE_ACTIVE, and DE of the DMX ports (R217, R322). -/
def Chip.tellRole (c old : Chip) : Chip := (c.driveIsle !c.pair.isle.standing).tellDe old

/-! ### The frame that ends -/

/-- The end of the frame at the crossing that follows it (R11, R12, R124, R334): what it left undone is reported, and a standby
adopts the ferry it holds. -/
def Chip.endFrame (c : Chip) : Chip :=
  let c := c.settleLpi.closeWindow
  let kept := c.keepProduced.pair
  let c := c.adopt
  let c := c.setPair { c.pair with
    produced := kept.produced, crossPrev := kept.crossPrev, gathered := kept.gathered, ownChecks := kept.ownChecks
    ownOverrun := kept.ownOverrun, ownLatch := kept.ownLatch }
  c.reportFrame.abandonBands

/-! ### Roles at a crossing (R338 to R344) -/

/-- The role that the crossing brings of itself, and the state of a standby. -/
def Chip.settleRole (c : Chip) : Chip :=
  let c : Chip := match c.pair.promoteAt with
    | some cause => if c.pair.isle == .standby then c.landfall cause else c.setPair { c.pair with promoteAt := none }
    | none => c
  let c : Chip := match c.pair.yieldAt with
    | some n => if n ≤ c.csn then (if c.pair.isle == .active then c.yieldRole else c.setPair { c.pair with yieldAt := none }) else c
    | none => c
  let c := c.expireBeacon
  let was := c.pair.isle
  let c := c.settleStandby
  if c.pair.isle == .standbySync && was != .standbySync then c.pairReset else c

/-- What the pair does at a crossing once the roles stand: the spare lane, the ferry of the frame that has ended, the health word and the
beacons (R328, R333, R336, R337), behind the frames that the crossing held up (R199). -/
def Chip.pairFrame (c : Chip) : Chip :=
  let c := (List.range 5).foldl Chip.releaseGap ((((c.spareLane).startFerry).countHealth).noteHealth)
  c.sendBeacons

/-! ### The frame that begins -/

/-- The local ports at a crossing (R207, R208, R222, R225). -/
def Chip.crossPorts (c : Chip) (sel : PulseSel) : Chip :=
  if !c.domainOn 11 then c
  else
    let c := { c with dmxFront := c.dmxBack, pixFront := c.pixBack }
    (List.range 16).foldl (fun c n => (c.houseLevel n).houseFrame c.csn n) (c.selectPorts c.csn sel)

/-- The engine's state taken from the bank of the frame before to the bank of frame `k` (R303, R394): what its reads find is
counted, a value with a double-bit error goes on as read, and the words of the new bank are whole. What the octets of a fade
slot or a generator mean is not given: such an error leaves the ends of its fade, or its amplitude, free (log entry 46). -/
def Chip.carryWork (c : Chip) (k : Nat) : Chip :=
  if !c.domainOn 6 || c.eccDram.flips.isEmpty then c
  else
    let a := c.valueAt (k - 1) 0
    let vals := ((c.eccDram.within a 0x800000).filter fun w => doubleBit (c.eccDram.at w)).foldl (fun m w =>
      (List.range 4).foldl (fun m j =>
        let place : Nat := (w - a) / 2 + j
        setNat m place (c.asRead 0 (w + 2 * j) 2 (natAt m place))) m) c.cueVals
    let fades := c.fades.zipIdx.map fun e =>
      if c.poisoned 0 (c.fadeAt (k - 1) e.2) 16 then
        (e.1.1, { e.1.2 with v0 := c.free % 65536, v1 := c.drew.free % 65536 }) else e.1
    let effects := c.effects.map fun e =>
      if c.poisoned 0 (c.effectAt (k - 1) e.1) 2048 then (e.1, { e.2 with amp := c.free / 65536 % 65536 }) else e
    let c := ({ c with cueVals := vals, fades := fades, effects := effects } : Chip).drew.drew
    let c := ((c.noteRead 0 2 a 0x800000).noteRead 0 2 (c.fadeAt (k - 1) 0) (16 * c.fades.length))
    let c := c.effects.foldl (fun c e => c.noteRead 0 2 (c.effectAt (k - 1) e.1) 2048) c
    ((c.rewritten 0 (c.valueAt k 0) 0x800000).rewritten 0 (c.fadeAt k 0) 0x400000).rewritten 0 (c.effectAt k 0) 0x80000

/-- The synchronisation packets of the frame that ends (R200): a standby sends none, nor does an isle that the crossing makes one,
unless it leaves ACTIVE (R320). Ports in low-power idle have been woken (R199). -/
def Chip.crossSyncs (c : Chip) (l : List Change) : Chip :=
  let c := (List.range 4).foldl (fun c p => if (c.port p).lpiTx then c.setPort p { c.port p with lpiTx := false } else c) c
  let joins := c.pair.isle == .solo && l.any fun ch => match ch with | .pairConfig _ _ _ => true | _ => false
  if joins then c else c.sendSyncs

/-- Fades and effects one frame on (R164, R166). -/
def Chip.advanceCues (c : Chip) : Chip :=
  if c.domainOn 6 then (c.fades.foldl Chip.advanceFade c).advanceEffects else c

/-- The frame that a crossing begins, from the settings now live; `old` is the part before them (R46, R84, R123, R143, R172,
R191, R195, R196). -/
def Chip.beginFrame (c old : Chip) (d : List Host.Cell) : Chip :=
  let streams := c.streams.map fun (e : Nat × Stream) => (e.1, { e.2 with discardSeen := false })
  let c := { c with
    frame := { Frame.reset with csn := c.csn, urgent := c.frame.urgent, portsDown := (List.range 4).filter fun p => !c.portUp p }, streams := streams }
  let c := (c.latchFrame d c.csn).fixScales c.csn
  let c := ((c.dropSyncs.snapInputs).markPatches old).markCues old
  let c := c.serveUnivs old old.emits c.emits
  (c.placeWindow.checkUniverses).startWalk.termsDue

/-- FPULSE_OUT as its settings go live (R76): a crossing whose pulse was to begin before them is not theirs to select, and POL
gives the level of the pin. -/
def Chip.fpulseSet (c old : Chip) : Chip :=
  let on := bit (c.lv Reg.FPOUT_CFG) 0
  let c := if c.lv Reg.FPOUT_CFG = old.lv Reg.FPOUT_CFG then c
    else { c with pulses := { c.pulses with
      outDue := c.pulses.outDue.filter fun d => decide ((old.now : Int) ≤ max (old.pulseStart d) (c.pulseStart d)) } }
  if on && c.fpulseLevel != old.fpulseLevel then c.toBall (.fpulse c.fpulseLevel) else c

/-- What goes live with a crossing beside registers and records: time bases, streams, sensors, groups, ports. -/
def Chip.applyDiffs (c old : Chip) (before : Nat → List Group) : Chip :=
  let c := (List.range 4).foldl (fun c n => c.selectSource n (old.lv (Reg.TB_CFG n))) c
  let c := c.fpulseSet old
  let c := (c.changedRecs old 15).foldl Chip.restartStream c
  let c := if (c.changedRecs old 1).isEmpty then c else c.listSensors
  let c := if (c.changedRecs old 12).isEmpty then c else c.sourcesChanged
  ((c.retrain old).reportChanges before).freeGroups

/-! ### The crossing -/

/-- The domains that a crossing's commits switch (R428): those to be off take no part in the frame that begins. A warm reset overrides
a SYS_POWER_SET (R434). -/
def Chip.switchDomains (c : Chip) (d : List Host.Cell) (l : List Change) : List Host.Cell × Chip :=
  if l.contains .warmReset then (d, c)
  else l.foldl (fun s ch => match ch with
    | .powerSet mask on => s.2.applyPower s.1 mask on
    | _ => s) (d, c)

/-- The settings of a crossing live in its one step (R50), after the end of the last frame: `at_` is its instant, `s` its commits with
their places and `bad` those that it refuses. -/
def Chip.takeSettings (old : Chip) (at_ : Nat) (sel : PulseSel) (s : List (Nat × Commit)) (bad : List Refused) : Chip :=
  let csn := old.csn + 1
  let taken := (standing s bad).map (·.2)
  let changes := (taken.map Commit.changes).flatten
  let g := old.fg
  let c := { old with
    csn := csn, sealed := sel == PulseSel.byCsn && old.sealed, commits := old.commits.filter fun m => csn < m.target
    fg := { old.fg with crossCycle := old.cycle } }
  let c := bad.foldl (fun c r => match s.find? fun e => e.1 == r.place with
    | some e => c.tellRefused csn e.2 r
    | none => c) c
  -- the settings
  let c := changes.foldl (fun c ch => match ch with | .frameGen _ _ _ _ _ => c.setGenerator g.tb at_ ch | _ => c.configure ch) c
  let last := c.instantNow g.tb at_
  let c := { c with crossTime := last, copyFwd := c.copyFwd ++ copyForwards csn taken }
  (c.applyDiffs old old.members).tellLatencies taken

/-- The frame of a crossing begun with its settings live and its domains off: what its commits start, the roles, and the engines.
`sel` is how FPULSE_OUT and the local ports select it, `idx` its grid index if it stands on the live grid. -/
def Chip.takeFrame (c old : Chip) (d : List Host.Cell) (sel : PulseSel) (idx : Option Nat) (taken : List Commit) : Chip :=
  let csn := c.csn
  let changes := (taken.map Commit.changes).flatten
  let g := old.fg
  let last := c.crossTime
  let c := ((((c.rewriteBanks changes).clearUnmapped).carryWork csn).renewFixtures old).advanceCues
  let c := taken.foldl (fun c m => c.startCommit old.cueVals g.mode m) c
  let c := (c.settleRole).tellRole old
  let c := if c.pair.isle == .active && !c.pair.linkUp && changes.any Change.mirrored then c.tellMissed csn else c
  -- the frame
  let c := c.announceRetired
  let c := { c with retired := retiredAt csn (old.recsOf 6) (c.recAt 6) (changes.map Change.layerContents).flatten }
  let c := ((c.snapEnergy csn).placeNext g last sel idx).respaceCalls
  let c := c.reselectPulse
  let c := (c.beginFrame old d).crossPorts (c.fg.selNow sel)
  let c := c.pairFrame.readyWhere fun t => TaskRec.wait t.record == 2 && TaskRec.csn t.record ≤ csn + 1
  (c.raise 1 0x0201 (it8 csn ++ itInstant last)).noteWarn old.warns

/-- A crossing in its one step, but for a warm reset. -/
def Chip.takeCrossing (old : Chip) (d : List Host.Cell) (at_ : Nat) (sel : PulseSel) (idx : Option Nat)
    (s : List (Nat × Commit)) (bad : List Refused) : List Host.Cell × Chip :=
  let taken := (standing s bad).map (·.2)
  let r := (old.takeSettings at_ sel s bad).switchDomains d (taken.map Commit.changes).flatten
  (r.1, r.2.takeFrame old r.1 sel idx taken)

/-- A warm reset at its crossing (R434), whose roles ISLE_ACTIVE follows (R322). -/
def Chip.crossReset (c : Chip) (d : List Host.Cell) (l : List Change) : List Host.Cell × Chip :=
  if l.contains .warmReset then
    let r := c.warmReset d
    (r.1, r.2.driveIsle !r.2.pair.isle.standing)
  else (d, c)

/-- The commits of a crossing in their order, with their places. -/
def Chip.placed (c : Chip) (csn : Nat) : List (Nat × Commit) := (c.commitsTo csn).zipIdx.map fun e => (e.2, e.1)

/-- A crossing, whole, in one cycle; `f` is what else happens at its instant. -/
def Chip.cross (c : Chip) (d : List Host.Cell) (at_ : Nat) (sel : PulseSel) (idx : Option Nat) (f : Chip → Chip) :
    List Host.Cell × Chip :=
  let r := Chip.leaveBands { c with batch := some [] } d
  let d := r.1
  let c := r.2.endFrame
  let s := c.placed (c.csn + 1)
  let bad := c.refusals s (s.length + 1) []
  let changes := ((standing s bad).map fun e => e.2.changes).flatten
  let r := (c.crossSyncs changes).takeCrossing d at_ sel idx s bad
  (f r.2).postBatch.crossReset r.1 changes

/-! ### Meanings -/

/-- The seal point of the next crossing of the generator (R39, R339). -/
def Chip.seal (c : Chip) : Chip :=
  (c.runTo (c.fg.next - bits (c.lv Reg.SEAL_OFFSET) 0 11 * 1000)).sealNow

/-- SEAL_POINT (R39). -/
def execSealPoint (s : State) : Host.Outcome State Fault Refusal :=
  onChip (fun _ c => if c.fg.issues && !c.sealed then c.seal else c) s

/-- The generator's next crossing numbered before the explicit crossings still called. A commit accepted after a call, which was
the seal point of the crossing called, keeps behind that crossing (DEDUCED from R40 and R47, log entry 44). -/
def Chip.generatorFirst (c : Chip) : Chip :=
  let n := c.fg.explicit.length
  { c with
    commits := c.commits.map fun m =>
      if c.csn + 1 < m.target && m.target ≤ c.csn + 1 + n then { m with target := m.target + 1 } else m
    fg := { c.fg with explicit := c.fg.explicit.map fun x => { x with csn := x.csn + 1 } }
    pulses := { c.pulses with outDue := c.pulses.outDue.map fun d =>
      if d.csn = c.csn + 1 + n then { d with csn := c.csn + 1 }
      else if c.csn < d.csn && d.csn ≤ c.csn + n then { d with csn := d.csn + 1 } else d } }

/-- CROSSING (R25, R50): the generator's next crossing at its instant. -/
def execCrossing (s : State) : Host.Outcome State Fault Refusal :=
  onBoth (fun d c =>
    if !c.fg.issues then (d, c)
    else
      let c := if c.sealed then c else c.seal
      let g := c.fg
      ((c.runTo g.next).generatorFirst).cross d g.next (match g.nextIdx with | some i => .grid i | none => .single) g.nextIdx id) s

/-- EXPLICIT_CROSSING (R48): the response names the crossing, and its instant on the time base that the crossing leaves bound. A
crossing called is asserted and answered although TIME_FRAMEGEN_START has been taken meanwhile (DEDUCED, log entry 44). -/
def execExplicitCrossing (s : State) : Host.Outcome State Fault Refusal :=
  onBoth (fun d c =>
    match c.fg.explicit with
    | x :: rest =>
      let c := c.runToCycle x.instant
      let at_ := c.now
      let c := { c with fg := { c.fg with explicit := rest } }
      c.cross d at_ .byCsn none fun c => c.respondTo x.chan 0x0202 x.tag ⟨0, 0, c.csn, instantBlock c.fg.last c.fg.tb⟩
    | [] => (d, c)) s

/-- IMMEDIATE_CROSSING (R67): asserted once, with the grid instants passed over counted. -/
def execImmediateCrossing (s : State) : Host.Outcome State Fault Refusal :=
  onBoth (fun d c =>
    match c.fg.immediate with
    | none => (d, c)
    | some (passed, _, due) =>
      let c := (c.runToCycle due).generatorFirst
      c.cross d c.now .single none fun c =>
        ((c.wr Reg.FG_LAST_SKIP (sat32 (passed - 1))).add Reg.FG_SKIP_TOTAL (passed - 1)).raise 1 0x0204
          (it8 c.csn ++ it4 (passed - 1))) s

/-- The records of a copy-forward that no later accepted commit names. -/
def Chip.copiedRecs (c : Chip) (f : CopyForward) : List (Nat × Nat) :=
  let later := c.commits.filter fun m => m.opcode / 256 == 3
  (f.indices.filter fun i => !(later.any fun m => m.changes.any fun ch => match ch with
    | .recs t rs _ => t == f.table && rs.any fun e => e.1 == i
    | _ => false)).map fun i => (i, c.recAt f.table i)

/-- COPY_FORWARD_DONE (R35): the records of a table equal their live ones in staging, unlock, and TBL_OPEN
is posted with the number of records copied forward. -/
def execCopyForwardDone (table : Nat) (s : State) : Host.Outcome State Fault Refusal :=
  within (1 ≤ table && table ≤ 15) (onBoth (fun d c =>
    match c.copyFwd.find? fun f => f.table == table with
    | none => (d, c)
    | some f =>
      let rs := if c.domainOn 4 then c.copiedRecs f else []
      let r := if c.domainOn 4 then c.writeStaging d table rs else (d, c)
      let c := { r.2 with copyFwd := r.2.copyFwd.erase f }
      (r.1, c.raise 2 0x0301 (it4 table ++ it8 f.csn ++ it4 rs.length))) s)

end Sys2Proof.Machine
end

