-- ==== Sys2Proof/Machine/Dispatch.lean ====
section
/-! DEFINITION. One arm for each command of the block. -/

namespace Sys2Proof.Machine

open Sys2Proof

def exec (i : Instr) (s : State) : Host.Outcome State Fault Refusal :=
  match i with
  | .sysInfo h p => Sys2Proof.Machine.execSysInfo h p s
  | .sysPing h p => Sys2Proof.Machine.execSysPing h p s
  | .sysWarmReset h p => Sys2Proof.Machine.execSysWarmReset h p s
  | .sysPowerSet h p => Sys2Proof.Machine.execSysPowerSet h p s
  | .sysEventRoute h p => Sys2Proof.Machine.execSysEventRoute h p s
  | .sysSettingsSave h p => Sys2Proof.Machine.execSysSettingsSave h p s
  | .sysSettingsLoad h p => Sys2Proof.Machine.execSysSettingsLoad h p s
  | .showCommit h p => Sys2Proof.Machine.execShowCommit h p s
  | .showCross h p => Sys2Proof.Machine.execShowCross h p s
  | .showUncommit h p => Sys2Proof.Machine.execShowUncommit h p s
  | .showLayerFlip h p => Sys2Proof.Machine.execShowLayerFlip h p s
  | .showTaskLoad h p => Sys2Proof.Machine.execShowTaskLoad h p s
  | .showTaskCancel h p => Sys2Proof.Machine.execShowTaskCancel h p s
  | .showTaskFree h p => Sys2Proof.Machine.execShowTaskFree h p s
  | .tblFixtureCommit h p => Sys2Proof.Machine.execTblFixtureCommit h p s
  | .tblProfileCommit h p => Sys2Proof.Machine.execTblProfileCommit h p s
  | .tblUniverseCommit h p => Sys2Proof.Machine.execTblUniverseCommit h p s
  | .tblRunCommit h p => Sys2Proof.Machine.execTblRunCommit h p s
  | .tblCanvasCommit h p => Sys2Proof.Machine.execTblCanvasCommit h p s
  | .tblLayerCommit h p => Sys2Proof.Machine.execTblLayerCommit h p s
  | .tblCellposCommit h p => Sys2Proof.Machine.execTblCellposCommit h p s
  | .tblCurveCommit h p => Sys2Proof.Machine.execTblCurveCommit h p s
  | .tblCueCommit h p => Sys2Proof.Machine.execTblCueCommit h p s
  | .tblInunivCommit h p => Sys2Proof.Machine.execTblInunivCommit h p s
  | .tblInpatchCommit h p => Sys2Proof.Machine.execTblInpatchCommit h p s
  | .tblSourceCommit h p => Sys2Proof.Machine.execTblSourceCommit h p s
  | .tblUcastCommit h p => Sys2Proof.Machine.execTblUcastCommit h p s
  | .tblRdmctxCommit h p => Sys2Proof.Machine.execTblRdmctxCommit h p s
  | .tblStreamCommit h p => Sys2Proof.Machine.execTblStreamCommit h p s
  | .tblRevert h p => Sys2Proof.Machine.execTblRevert h p s
  | .timePtpStatus h p => Sys2Proof.Machine.execTimePtpStatus h p s
  | .timePtpSet h p => Sys2Proof.Machine.execTimePtpSet h p s
  | .timeTbStep h p => Sys2Proof.Machine.execTimeTbStep h p s
  | .timeFramegenSet h p => Sys2Proof.Machine.execTimeFramegenSet h p s
  | .timeFramegenStart h p => Sys2Proof.Machine.execTimeFramegenStart h p s
  | .timeFramegenStop h p => Sys2Proof.Machine.execTimeFramegenStop h p s
  | .timeFramegenRephase h p => Sys2Proof.Machine.execTimeFramegenRephase h p s
  | .netGroupJoin h p => Sys2Proof.Machine.execNetGroupJoin h p s
  | .netGroupLeave h p => Sys2Proof.Machine.execNetGroupLeave h p s
  | .netNeighbourResolve h p => Sys2Proof.Machine.execNetNeighbourResolve h p s
  | .portRdmRequest h p => Sys2Proof.Machine.execPortRdmRequest h p s
  | .portRdmDiscover h p => Sys2Proof.Machine.execPortRdmDiscover h p s
  | .portRdmAbort h p => Sys2Proof.Machine.execPortRdmAbort h p s
  | .meterFeedSet h p => Sys2Proof.Machine.execMeterFeedSet h p s
  | .meterPqSet h p => Sys2Proof.Machine.execMeterPqSet h p s
  | .meterPulseSet h p => Sys2Proof.Machine.execMeterPulseSet h p s
  | .meterJournalFlush h p => Sys2Proof.Machine.execMeterJournalFlush h p s
  | .meterTotalsPreset h p => Sys2Proof.Machine.execMeterTotalsPreset h p s
  | .pairConfig h p => Sys2Proof.Machine.execPairConfig h p s
  | .pairPromote h p => Sys2Proof.Machine.execPairPromote h p s
  | .pairSwap h p => Sys2Proof.Machine.execPairSwap h p s
  | .pairResync h p => Sys2Proof.Machine.execPairResync h p s
  | .pairStatus h p => Sys2Proof.Machine.execPairStatus h p s
  | .updStage h p => Sys2Proof.Machine.execUpdStage h p s
  | .updVerify h p => Sys2Proof.Machine.execUpdVerify h p s
  | .updActivate h p => Sys2Proof.Machine.execUpdActivate h p s
  | .updStatus h p => Sys2Proof.Machine.execUpdStatus h p s
  | .updRevert h p => Sys2Proof.Machine.execUpdRevert h p s
  | .updTrialSet h p => Sys2Proof.Machine.execUpdTrialSet h p s
  | .updCounterAdvance h p => Sys2Proof.Machine.execUpdCounterAdvance h p s
  | .calRun h p => Sys2Proof.Machine.execCalRun h p s
  | .calMeterRef h p => Sys2Proof.Machine.execCalMeterRef h p s
  | .calAutoSet h p => Sys2Proof.Machine.execCalAutoSet h p s
  | .diagScrubSet h p => Sys2Proof.Machine.execDiagScrubSet h p s
  | .diagEccInject h p => Sys2Proof.Machine.execDiagEccInject h p s
  | .diagCheckRun h p => Sys2Proof.Machine.execDiagCheckRun h p s
  | .diagLoopback h p => Sys2Proof.Machine.execDiagLoopback h p s
  | .diagDebugUnlock h p => Sys2Proof.Machine.execDiagDebugUnlock h p s
  | .diagTempRead h p => Sys2Proof.Machine.execDiagTempRead h p s
  | .diagEventTest h p => Sys2Proof.Machine.execDiagEventTest h p s
  | .commandBad h opcode kind => Sys2Proof.Machine.execCommandBad h opcode kind s
  | .registerWrite off first rest => Sys2Proof.Machine.execRegisterWrite off first rest s
  | .tbSnap v => Sys2Proof.Machine.execTbSnap v s
  | .txtsRelease unit v => Sys2Proof.Machine.execTxtsRelease unit v s
  | .txtsStatusClear unit v => Sys2Proof.Machine.execTxtsStatusClear unit v s
  | .lanenClr lane v => Sys2Proof.Machine.execLanenClr lane v s
  | .mapClr v => Sys2Proof.Machine.execMapClr v s
  | .modelClr v => Sys2Proof.Machine.execModelClr v s
  | .schedClr v => Sys2Proof.Machine.execSchedClr v s
  | .netCntSnap v => Sys2Proof.Machine.execNetCntSnap v s
  | .netCntClr v => Sys2Proof.Machine.execNetCntClr v s
  | .hbEpochWrite v be => Sys2Proof.Machine.execHbEpochWrite v be s
  | .hbEvtWfailClear v => Sys2Proof.Machine.execHbEvtWfailClear v s
  | .evtLegacyPop be => Sys2Proof.Machine.execEvtLegacyPop be s
  | .ringEnable r v => Sys2Proof.Machine.execRingEnable r v s
  | .ringProdWrite r v => Sys2Proof.Machine.execRingProdWrite r v s
  | .ringConsWrite r v => Sys2Proof.Machine.execRingConsWrite r v s
  | .ringFlushHost r v => Sys2Proof.Machine.execRingFlushHost r v s
  | .ringFlushDevice r v => Sys2Proof.Machine.execRingFlushDevice r v s
  | .ringSlotWrite off octets => Sys2Proof.Machine.execRingSlotWrite off octets s
  | .ringEntryTake r => Sys2Proof.Machine.execRingEntryTake r s
  | .ringStall r => Sys2Proof.Machine.execRingStall r s
  | .mbmDoorbell m v => Sys2Proof.Machine.execMbmDoorbell m v s
  | .tffAdvance f v => Sys2Proof.Machine.execTffAdvance f v s
  | .tffMark f v => Sys2Proof.Machine.execTffMark f v s
  | .tffRewind f v => Sys2Proof.Machine.execTffRewind f v s
  | .tffRelease f v => Sys2Proof.Machine.execTffRelease f v s
  | .tffClose f v => Sys2Proof.Machine.execTffClose f v s
  | .tffFlush f v => Sys2Proof.Machine.execTffFlush f v s
  | .telemAgeClose f => Sys2Proof.Machine.execTelemAgeClose f s
  | .telemRecordProduce producer part => Sys2Proof.Machine.execTelemRecordProduce producer part s
  | .mtrHostSnap v => Sys2Proof.Machine.execMtrHostSnap v s
  | .ckxStart x v => Sys2Proof.Machine.execCkxStart x v s
  | .ckxDataWrite x hi v be => Sys2Proof.Machine.execCkxDataWrite x hi v be s
  | .ckxRunWrite x hi v => Sys2Proof.Machine.execCkxRunWrite x hi v s
  | .ckxFinish x v => Sys2Proof.Machine.execCkxFinish x v s
  | .eccmEvtClear m v => Sys2Proof.Machine.execEccmEvtClear m v s
  | .evtClr v => Sys2Proof.Machine.execEvtClr v s
  | .ctrlRestart v => Sys2Proof.Machine.execCtrlRestart v s
  | .bootRecover v => Sys2Proof.Machine.execBootRecover v s
  | .msixUnmask vector => Sys2Proof.Machine.execMsixUnmask vector s
  | .hostBar2Write off octets req => Sys2Proof.Machine.execHostBar2Write off octets req s
  | .hostBar2Read off len => Sys2Proof.Machine.execHostBar2Read off len s
  | .hostAtomicOp op at_ width operand compare => Sys2Proof.Machine.execHostAtomicOp op at_ width operand compare s
  | .peerAtomicOp off req atomic answer => Sys2Proof.Machine.execPeerAtomicOp off req atomic answer s
  | .hostPeerTimeout off req atomic => Sys2Proof.Machine.execHostPeerTimeout off req atomic s
  | .peerWriteForward off octets req => Sys2Proof.Machine.execPeerWriteForward off octets req s
  | .peerWriteFailureMsg off req epoch cause len => Sys2Proof.Machine.execPeerWriteFailureMsg off req epoch cause len s
  | .forwardedAccessServe off access len => Sys2Proof.Machine.execForwardedAccessServe off access len s
  | .sealPoint => Sys2Proof.Machine.execSealPoint s
  | .crossing => Sys2Proof.Machine.execCrossing s
  | .explicitCrossing => Sys2Proof.Machine.execExplicitCrossing s
  | .immediateCrossing => Sys2Proof.Machine.execImmediateCrossing s
  | .fgResume => Sys2Proof.Machine.execFgResume s
  | .generatorStopEffect => Sys2Proof.Machine.execGeneratorStopEffect s
  | .copyForwardDone table => Sys2Proof.Machine.execCopyForwardDone table s
  | .timeBaseStep tb offsetNs => Sys2Proof.Machine.execTimeBaseStep tb offsetNs s
  | .ptpMessageReceive tb m => Sys2Proof.Machine.execPtpMessageReceive tb m s
  | .ptpMessageSend tb k => Sys2Proof.Machine.execPtpMessageSend tb k s
  | .tbSourceLost tb => Sys2Proof.Machine.execTbSourceLost tb s
  | .ltcFrame tc ubits reverse dropFrame colourFrame bit0Cycles => Sys2Proof.Machine.execLtcFrame tc ubits reverse dropFrame colourFrame bit0Cycles s
  | .ltcLost noFrame => Sys2Proof.Machine.execLtcLost noFrame s
  | .fpulseInEdge rising => Sys2Proof.Machine.execFpulseInEdge rising s
  | .fpulseInLoss => Sys2Proof.Machine.execFpulseInLoss s
  | .fpulseOutStart => Sys2Proof.Machine.execFpulseOutStart s
  | .fpulseOutEnd => Sys2Proof.Machine.execFpulseOutEnd s
  | .bandWritten canvas band => Sys2Proof.Machine.execBandWritten canvas band s
  | .fixtureHandover f => Sys2Proof.Machine.execFixtureHandover f s
  | .universeDecide u => Sys2Proof.Machine.execUniverseDecide u s
  | .emissionWindowOpen => Sys2Proof.Machine.execEmissionWindowOpen s
  | .packetStart port => Sys2Proof.Machine.execPacketStart port s
  | .emissionWindowClose => Sys2Proof.Machine.execEmissionWindowClose s
  | .holdKeepalive u => Sys2Proof.Machine.execHoldKeepalive u s
  | .taskWaitInstant slot => Sys2Proof.Machine.execTaskWaitInstant slot s
  | .trigInEdge pin rising => Sys2Proof.Machine.execTrigInEdge pin rising s
  | .trigFilterExpire pin => Sys2Proof.Machine.execTrigFilterExpire pin s
  | .taskTimeout slot => Sys2Proof.Machine.execTaskTimeout slot s
  | .taskDispatch => Sys2Proof.Machine.execTaskDispatch s
  | .e131DataReceive port pkt => Sys2Proof.Machine.execE131DataReceive port pkt s
  | .e131SyncReceive port cid addr => Sys2Proof.Machine.execE131SyncReceive port cid addr s
  | .inputSourceTimeout entry cid => Sys2Proof.Machine.execInputSourceTimeout entry cid s
  | .inputSyncTimeout entry cid => Sys2Proof.Machine.execInputSyncTimeout entry cid s
  | .lpFrameStart port => Sys2Proof.Machine.execLpFrameStart port s
  | .lpHold port => Sys2Proof.Machine.execLpHold port s
  | .lpHoldRepeat port => Sys2Proof.Machine.execLpHoldRepeat port s
  | .rdmRequestStart port => Sys2Proof.Machine.execRdmRequestStart port s
  | .rdmResponseReceive port breakUs octets => Sys2Proof.Machine.execRdmResponseReceive port breakUs octets s
  | .rdmResponseTimeout port => Sys2Proof.Machine.execRdmResponseTimeout port s
  | .rdmSensorPoll ctx => Sys2Proof.Machine.execRdmSensorPoll ctx s
  | .rdmAckTimerExpire ctx => Sys2Proof.Machine.execRdmAckTimerExpire ctx s
  | .rdmRequestExpire ctx tag => Sys2Proof.Machine.execRdmRequestExpire ctx tag s
  | .hcPwmPeriod n sense => Sys2Proof.Machine.execHcPwmPeriod n sense s
  | .hcDiagStarved n => Sys2Proof.Machine.execHcDiagStarved n s
  | .hcNtcRefresh n code => Sys2Proof.Machine.execHcNtcRefresh n code s
  | .netFrameReceive port frame => Sys2Proof.Machine.execNetFrameReceive port frame s
  | .pauseReceive port quanta => Sys2Proof.Machine.execPauseReceive port quanta s
  | .pauseExpire port => Sys2Proof.Machine.execPauseExpire port s
  | .netPauseWatchdog port => Sys2Proof.Machine.execNetPauseWatchdog port s
  | .netPauseRearm port => Sys2Proof.Machine.execNetPauseRearm port s
  | .netLinkChange port up eeeResolved => Sys2Proof.Machine.execNetLinkChange port up eeeResolved s
  | .membershipReportRepeat port => Sys2Proof.Machine.execMembershipReportRepeat port s
  | .lldpSend port => Sys2Proof.Machine.execLldpSend port s
  | .lpiEnter port => Sys2Proof.Machine.execLpiEnter port s
  | .txJobSend r fetched => Sys2Proof.Machine.execTxJobSend r fetched s
  | .videoPacketReceive stream pathB pkt => Sys2Proof.Machine.execVideoPacketReceive stream pathB pkt s
  | .streamMergeTimeout stream => Sys2Proof.Machine.execStreamMergeTimeout stream s
  | .streamPathDown stream pathB => Sys2Proof.Machine.execStreamPathDown stream pathB s
  | .straitLinkFrameReceive seq octets payload => Sys2Proof.Machine.execStraitLinkFrameReceive seq octets payload s
  | .straitLinkSilent => Sys2Proof.Machine.execStraitLinkSilent s
  | .straitLinkUp peer => Sys2Proof.Machine.execStraitLinkUp peer s
  | .straitLaneFail lane => Sys2Proof.Machine.execStraitLaneFail lane s
  | .straitKeepalive => Sys2Proof.Machine.execStraitKeepalive s
  | .mirrorCommitReceive m => Sys2Proof.Machine.execMirrorCommitReceive m s
  | .mirrorAckTimeout => Sys2Proof.Machine.execMirrorAckTimeout s
  | .ferryComplete d => Sys2Proof.Machine.execFerryComplete d s
  | .ferryLate => Sys2Proof.Machine.execFerryLate s
  | .beaconReceive port peer => Sys2Proof.Machine.execBeaconReceive port peer s
  | .bulkFerryComplete bulk => Sys2Proof.Machine.execBulkFerryComplete bulk s
  | .meterSample feed streams => Sys2Proof.Machine.execMeterSample feed streams s
  | .meterModFault feed ch => Sys2Proof.Machine.execMeterModFault feed ch s
  | .meterPulseStart n => Sys2Proof.Machine.execMeterPulseStart n s
  | .meterPulseEnd n => Sys2Proof.Machine.execMeterPulseEnd n s
  | .pwrWarnAssert => Sys2Proof.Machine.execPwrWarnAssert s
  | .vaonFeedChange feedB present => Sys2Proof.Machine.execVaonFeedChange feedB present s
  | .meterWarnClear => Sys2Proof.Machine.execMeterWarnClear s
  | .journalWriteDone durationUs => Sys2Proof.Machine.execJournalWriteDone durationUs s
  | .dieSensorSample sensor raw => Sys2Proof.Machine.execDieSensorSample sensor raw s
  | .calAutoStart => Sys2Proof.Machine.execCalAutoStart s
  | .calUnitDone item unit value eyeWidth eyeHeight => Sys2Proof.Machine.execCalUnitDone item unit value eyeWidth eyeHeight s
  | .calUnitTimeout item unit => Sys2Proof.Machine.execCalUnitTimeout item unit s
  | .meterCalSpanEnd feed => Sys2Proof.Machine.execMeterCalSpanEnd feed s
  | .patrolBurst mem => Sys2Proof.Machine.execPatrolBurst mem s
  | .maintActivityStart => Sys2Proof.Machine.execMaintActivityStart s
  | .cmdComplete => Sys2Proof.Machine.execCmdComplete s
  | .ctrlHandoverDone => Sys2Proof.Machine.execCtrlHandoverDone s
  | .updConfirmed type => Sys2Proof.Machine.execUpdConfirmed type s
  | .trialWindowExpire type => Sys2Proof.Machine.execTrialWindowExpire type s
  | .ctrlWatchdog => Sys2Proof.Machine.execCtrlWatchdog s
  | .powerOnReset => Sys2Proof.Machine.execPowerOnReset s
  | .mainPgFall => Sys2Proof.Machine.execMainPgFall s
  | .mainPgRise => Sys2Proof.Machine.execMainPgRise s
  | .perstN => Sys2Proof.Machine.execPerstN s
  | .pwrDomainChange domain => Sys2Proof.Machine.execPwrDomainChange domain s
  | .jtagUpdateIr code => Sys2Proof.Machine.execJtagUpdateIr code s
  | .jtagProvision package => Sys2Proof.Machine.execJtagProvision package s
  | .combinedSupplyFall => Sys2Proof.Machine.execCombinedSupplyFall s
  | .perstNRelease => Sys2Proof.Machine.execPerstNRelease s
  | .testLogicReset => Sys2Proof.Machine.execTestLogicReset s
  | .lpiWake port => Sys2Proof.Machine.execLpiWake port s
  | .pwrWarnNRelease => Sys2Proof.Machine.execPwrWarnNRelease s
  | .neighbourSolicitRetry port => Sys2Proof.Machine.execNeighbourSolicitRetry port s
  | .checkRunFinish x => Sys2Proof.Machine.execCheckRunFinish x s

end Sys2Proof.Machine
end

