-- ==== Sys2Proof/Machine/Serve.lean ====
section
/-! DEFINITION. Firmware takes the next command of its channels (R291, R293): which command an opcode names, and what a mailbox or a
ring presents. -/

namespace Sys2Proof.Machine

open Sys2Proof

/-- The command of an opcode (R306 to R317); an opcode that the chapter does not list makes a bad one (R294). -/
def commandOf (op : Nat) (h : CmdHdr) (p : Nat) : Instr :=
  match op with
  | 0x0101 => .sysInfo h p
  | 0x0102 => .sysPing h p
  | 0x0103 => .sysWarmReset h p
  | 0x0104 => .sysPowerSet h p
  | 0x0105 => .sysEventRoute h p
  | 0x0106 => .sysSettingsSave h p
  | 0x0107 => .sysSettingsLoad h p
  | 0x0201 => .showCommit h p
  | 0x0202 => .showCross h p
  | 0x0203 => .showUncommit h p
  | 0x0204 => .showLayerFlip h p
  | 0x0210 => .showTaskLoad h p
  | 0x0211 => .showTaskCancel h p
  | 0x0212 => .showTaskFree h p
  | 0x0301 => .tblFixtureCommit h p
  | 0x0302 => .tblProfileCommit h p
  | 0x0303 => .tblUniverseCommit h p
  | 0x0304 => .tblRunCommit h p
  | 0x0305 => .tblCanvasCommit h p
  | 0x0306 => .tblLayerCommit h p
  | 0x0307 => .tblCellposCommit h p
  | 0x0308 => .tblCurveCommit h p
  | 0x0309 => .tblCueCommit h p
  | 0x030A => .tblInunivCommit h p
  | 0x030B => .tblInpatchCommit h p
  | 0x030C => .tblSourceCommit h p
  | 0x030D => .tblUcastCommit h p
  | 0x030E => .tblRdmctxCommit h p
  | 0x030F => .tblStreamCommit h p
  | 0x0310 => .tblRevert h p
  | 0x0401 => .timePtpStatus h p
  | 0x0402 => .timePtpSet h p
  | 0x0403 => .timeTbStep h p
  | 0x0420 => .timeFramegenSet h p
  | 0x0421 => .timeFramegenStart h p
  | 0x0422 => .timeFramegenStop h p
  | 0x0423 => .timeFramegenRephase h p
  | 0x0510 => .netGroupJoin h p
  | 0x0511 => .netGroupLeave h p
  | 0x0512 => .netNeighbourResolve h p
  | 0x0610 => .portRdmRequest h p
  | 0x0611 => .portRdmDiscover h p
  | 0x0612 => .portRdmAbort h p
  | 0x0701 => .meterFeedSet h p
  | 0x0702 => .meterPqSet h p
  | 0x0703 => .meterPulseSet h p
  | 0x0704 => .meterJournalFlush h p
  | 0x0705 => .meterTotalsPreset h p
  | 0x0801 => .pairConfig h p
  | 0x0802 => .pairPromote h p
  | 0x0803 => .pairSwap h p
  | 0x0804 => .pairResync h p
  | 0x0805 => .pairStatus h p
  | 0x0901 => .updStage h p
  | 0x0902 => .updVerify h p
  | 0x0903 => .updActivate h p
  | 0x0904 => .updStatus h p
  | 0x0905 => .updRevert h p
  | 0x0906 => .updTrialSet h p
  | 0x0907 => .updCounterAdvance h p
  | 0x0A01 => .calRun h p
  | 0x0A02 => .calMeterRef h p
  | 0x0A03 => .calAutoSet h p
  | 0x0B01 => .diagScrubSet h p
  | 0x0B02 => .diagEccInject h p
  | 0x0B03 => .diagCheckRun h p
  | 0x0B04 => .diagLoopback h p
  | 0x0B05 => .diagDebugUnlock h p
  | 0x0B06 => .diagTempRead h p
  | 0x0B07 => .diagEventTest h p
  | _ => .commandBad h op .unknownOpcode

/-- The command that 64 octets spell in a channel (R293). -/
def readCommand (ch : Chan) (w : Nat) : Instr := commandOf (cmdOpcode w) (cmdHeader ch w) (cmdPayload ch w)

/-- The octets of a mailbox's command area. -/
def Chip.mboxWord (c : Chip) (m : Nat) : Nat := ofLE (((List.range 16).map fun i => leBytes 4 (c.rd (Reg.MB_CMD m i))).flatten)

/-- The command ring whose turn it is, of those that present a command. -/
def Chip.ringNext (c : Chip) : Option Nat :=
  ((c.rings.filter fun e => c.ringWaits e.1).map (·.1)).foldl (fun b r => match b with
    | none => some r
    | some q => if c.turn r < c.turn q then some r else some q) none

/-- The command that firmware takes next from its channels, and the part with its entry taken: of the mailboxes that wait the
lowest, then a ring. -/
def Chip.nextCommand (c : Chip) : Option (Chip × Instr) :=
  if !c.served then none
  else match (List.range 8).find? c.mboxWaits with
  | some m => some (c, readCommand (.mbox m) (c.mboxWord m))
  | none => c.ringNext.map fun r => (if (c.ring r).taken then c else c.takeEntry r, readCommand (.ring r) ((c.frontEntry r 0).getD 0))

end Sys2Proof.Machine
end

