-- ==== Sys2Proof/Machine/Step.lean ====
section
/-! DEFINITION. One step: the command at the front of the queue; while none waits, the next command of the part's own channels, or
one 800 MHz cycle. -/

namespace Sys2Proof.Machine

/-- The command at the front acts, with the rest of the queue left waiting. On an empty queue firmware takes the next command that
waits in a channel (R291), and without one a cycle of 800 MHz passes (DESIGN CHOICE, log entry 1). -/
def step (s : State) : Host.Outcome State Fault Refusal :=
  match s.pending with
  | [] =>
    match s.chip.nextCommand with
    | some r => exec r.2 { s with chip := r.1 }
    | none => .next { s with chip := s.chip.ticks 1 }
  | i :: rest => exec i { s with pending := rest }

/-- The state with the command that a table word spells put at the front of its queue. -/
def State.withFetchWord (s : State) (nbits w : Nat) : State :=
  match decodeTableWord nbits w with
  | none => s
  | some i => { s with pending := i :: s.pending }

end Sys2Proof.Machine
end

