-- ==== Sys2Proof/Machine/Operands.lean ====
section
/-! DEFINITION. What the host reads of a register of BAR0, as R460 to R473 lay it out: from the register files, or formed from
the state, and through the windows and the live view. -/

namespace Sys2Proof.Machine

open Sys2Proof

/-! ### Registers formed from the state -/

/-- A word of a number, the lowest first. -/
def wordOf (v i : Nat) : Nat := bits v (32 * i) 32

/-- Words of a time in nanoseconds: nanoseconds, seconds [31:0], seconds [47:32]. -/
def timeWord (ns i : Nat) : Nat :=
  match i with
  | 0 => ns % 1000000000
  | 1 => ns / 1000000000 % 2 ^ 32
  | _ => ns / 1000000000 / 2 ^ 32 % 65536

/-- The crossing status block (R52, R53). -/
def Chip.readCrossing (c : Chip) : Nat → Option Nat
  | 0x00 => some (wordOf c.csn 0)
  | 0x04 => some (wordOf c.csn 1)
  | 0x08 => some (timeWord c.crossTime 0)
  | 0x0C => some (timeWord c.crossTime 1)
  | 0x10 => some (timeWord c.crossTime 2)
  | 0x14 => some c.fgStatus
  | 0x18 => some c.fg.rateN
  | 0x1C => some c.fg.rateD
  | 0x24 => some c.queueLevel
  | _ => none

/-- A time base's block (R79). -/
def Chip.readTb (c : Chip) (n : Nat) : Nat → Option Nat
  | 0x00 => some ((c.tb n).snap % nsUnits * 65536 / nsUnits)
  | 0x04 => some (timeWord ((c.tb n).snap / nsUnits) 0)
  | 0x08 => some (timeWord ((c.tb n).snap / nsUnits) 1)
  | 0x0C => some (timeWord ((c.tb n).snap / nsUnits) 2)
  | 0x14 => some (twos 32 (c.tb n).rate)
  | 0x1C => some ((c.tb n).mode.code + (c.ptpMaster n).toNat * 4)
  | 0x20 => some (twos 32 (clampI (-2147483648) 2147483647 (c.tb n).offset))
  | _ => none

/-- A time-stamp unit's block (R71, R81). -/
def Chip.readStamp (c : Chip) (p l : Nat) : Option Nat :=
  let q := (c.port p).stamps
  match l, q.head? with
  | 0x0C, some s => some (s.ident % 65536 + s.tb * 65536 + 2 ^ 31)
  | 0x10, some s => some (timeWord s.time 0)
  | 0x14, some s => some (timeWord s.time 1)
  | 0x18, some s => some (timeWord s.time 2)
  | 0x1C, _ => some q.length
  | _, _ => none

/-- Tasks in a state. -/
def Chip.tasksIn (c : Chip) (s : TaskState) : Nat := (c.tasks.filter fun e => e.2.state == s).length

/-- The compositor's, mapper's, model's, scheduler's and input merge's words (R108, R127, R148, R174, R176). The walk counts as in
progress until every fixture is handed over or abandoned (DEDUCED, log entry 45). -/
def Chip.readRender (c : Chip) (off : Nat) : Option Nat :=
  let busy := !(c.frame.walk.isEmpty && c.frame.parked.isEmpty && c.frame.issued.isEmpty)
  if off = 0x1004 then some (setBit (c.rd 0x1004) 0 (c.domainOn 5 && !c.frame.bands.isEmpty))
  else if off = 0x1010 then some (sat32 c.pixelLayers)
  else if off = 0x1014 then some (sat32 c.canvasPixels)
  else if off = 0x1200 then some (busy.toNat + 2 * (decide (1024 ≤ c.frame.parked.length)).toNat)
  else if off = 0x1204 then some c.fixHigh
  else if off = 0x1208 then some (sat32 c.cells)
  else if off = 0x120C then some (sat32 c.samples)
  else if off = 0x1404 then some busy.toNat
  else if off = 0x1600 then some (flagWord [c.dispatching.isSome, c.dispatching.any fun s => TaskRec.kind (c.task s).record == 0])
  else if off = 0x1604 then some (c.tasksIn .waiting)
  else if off = 0x1608 then some (c.tasksIn .ready)
  else if off = 0x160C then some (4096 - c.tasks.length + c.tasksIn .free)
  else if off = 0x1610 then some c.fadesInUse
  else if off = 0x1804 then some c.sources.length
  else none

/-- The packer's words (R203, R204). -/
def Chip.readPacker (c : Chip) (off : Nat) : Option Nat :=
  if off = 0x1A08 then some c.pair.prioAdj
  else if off = 0x1A0C then some (c.frame.windowOpen.toNat + 2 * (c.fg.mode == .held && c.frame.windowDone).toNat)
  else if off = 0x1A10 then some c.services.length
  else if off < 0x1B00 then none
  else
    let p := (off - 0x1B00) / 0x40
    match (off - 0x1B00) % 0x40 with
    | 0x04 => some (c.portLoad p)
    | 0x08 => some (sat32 (c.delta p))
    | 0x14 => some (c.syncPairs p).length
    | _ => none

/-- The words of the local ports (R228 to R230). HCn_TEMP, signed 8.8, saturates where the channel's T lies above 127.996 °C
(DESIGN CHOICE, log entry 31). -/
def Chip.readLocal (c : Chip) (base i l : Nat) : Option Nat :=
  if base = 0x2100 && l = 0x18 then
    let x := c.dmxPort i
    some (flagWord [x.held, x.late, x.active.isSome, x.denied])
  else if base = 0x2500 && l = 0x18 then
    let x := c.pixPort i
    some (flagWord [x.held, x.late, x.denied])
  else if base = 0x2D00 && l = 0x1C then
    let x := c.hc i
    some (x.duty + x.verdict * 65536 + flagWord [decide (0 < x.fadeLeft), x.derated, x.ntcFault] * 2 ^ 18)
  else if base = 0x2D00 && l = 0x20 then some (twos 16 (clampI (-32768) 32767 (c.hc i).temp))
  else none

/-- The words of the network ports (R252, R253) and of the streams (R255). -/
def Chip.readNet (c : Chip) (base i l : Nat) : Option Nat :=
  let used (p : Nat) : Nat := (c.exactGroups p).length
  if base = 0x3300 && l = 8 then some (used 0 + used 1 * 2 ^ 9 + used 2 * 2 ^ 18)
  else if base = 0x3300 && l = 0xC then some (used 3)
  else if base = 0x3400 && l = 0x38 then
    let x := c.port i
    some (flagWord [x.link, x.pauseEnd.isSome, x.tripped.isSome, c.lpiNow i,
      x.link && x.eeeAn && Config.partnerIdle i c.cycle, x.eeeAn])
  else if base = 0x3A00 && l = 0 then
    let x := c.stream i
    let buf (f : Option (Nat × Nat)) : Nat := match f with | some e => e.2 | none => 0
    some (flagWord [x.upA, x.upB, x.latest.isSome] + buf x.latest * 8 + buf x.taken * 32)
  else none

/-- The words of the endpoint: the bridge, rings, mailboxes, telemetry FIFOs (R286 to R289). -/
def Chip.readHost (c : Chip) (base i l : Nat) : Option Nat :=
  if base = 0x200 then (if l = 0 then some (Config.hostLink.toNat % 128 + Config.bar2Size.toNat % 8 * 256) else none)
  else if base = 0x4000 then
    let x := c.mbox i
    (if l = 0x84 then some (x.busy.toNat + 2 * x.done.toNat + x.seq * 65536) else none)
  else if base = 0x4800 then
    let x := c.fifo i
    match l with
    | 0x04 => some (flagWord [!x.draining.isEmpty, !x.draining.isEmpty && x.fillBank == 0, x.fillBank == 1, !x.draining.isEmpty && !x.filling.isEmpty, x.sinking])
    | 0x08 => some x.draining.length
    | 0x0C => some x.rd
    | 0x28 => some x.mark
    | _ => none
  else
    let x := c.ring i
    match l with
    | 0x14 => some x.prod
    | 0x18 => some x.cons
    | 0x20 => some (flagWord [x.active, x.rejected, x.stalled, x.full])
    | _ => none

/-- The words of the pair (R347). -/
def Chip.readPair (c : Chip) : Nat → Option Nat
  | 0x00 => some c.isleStatus
  | 0x04 => some (c.pair.rank + c.pair.policy * 2 + c.pair.tPromote * 256 + c.pair.inPair.toNat * 65536)
  | 0x14 => some c.pair.peerHealth
  | 0x18 => some (wordOf c.pair.ferryCsn 0)
  | 0x1C => some (wordOf c.pair.ferryCsn 1)
  | 0x20 => some (sat32 c.pair.ferryOctets)
  | 0x24 => some (sat32 c.pair.ferryUs)
  | 0x38 => some c.linkStatus
  | _ => none

/-- An entry of an energy window (R377): the snapshot's, or the host's without delta and flags. Those of phases b and c read 0 while
the feed has WIRING 2 (R352). -/
def Chip.readEnergy (c : Chip) (host : Bool) (l : Nat) : Nat :=
  let q := l / 0x10 % 8
  let pos := l / 0x80 % 4
  if q = 7 || (c.feed (l / 0x200)).wiring = 2 && (pos = 1 || pos = 2) then 0
  else
    let e := c.energyOf (energyKey (l / 0x200) pos q)
    let total := if host then e.hostTotal else e.snapTotal
    match l % 0x10 with
    | 0x0 => wordOf total 0
    | 0x4 => wordOf total 1
    | 0x8 => (if host then e.hostWraps else e.snapWraps) % 2 ^ 24 + (if host then 0 else e.snapFlags * 2 ^ 24)
    | _ => if host then 0 else e.snapDelta

/-- The words of metering (R374 to R376). -/
def Chip.readMeter (c : Chip) (base i l : Nat) : Option Nat :=
  if base = 0x6000 then
    match l with
    | 0x00 => some (flagWord ((List.range 8).map fun f => (c.feed f).en) +
        flagWord [c.warning.pin, c.warning.vaonA, c.warning.vaonB, c.warns, c.warning.writing.isSome] * 256)
    | 0x08 => some (wordOf c.snapCsn 0)
    | 0x0C => some (wordOf c.snapCsn 1)
    | 0x14 => some (timeWord c.hostSnapNs 0)
    | 0x18 => some (timeWord c.hostSnapNs 1)
    | 0x1C => some (wordOf c.hostSnapCsn 0)
    | _ => none
  else if base = 0x6100 then
    let x := c.feed i
    let isIn (k : Nat) : Bool := x.events.any fun e => e.recorded && e.kind == k
    (if l = 0 then some (x.en.toNat + x.wiring * 2 + flagWord ([x.freqOk, isIn 0, isIn 1, isIn 2, x.faulted.any id] ++ x.faulted) * 8)
     else none)
  else
    let x := c.pulse i
    match l with
    | 0x00 => some (flagWord [x.en, x.high] + x.feed * 4 + x.quantity * 32)
    | 0x04 => some x.width
    | 0x08 => some (wordOf x.ep 0)
    | 0x0C => some (wordOf x.ep 1)
    | 0x10 => some (wordOf (x.residue / 2 ^ 24) 0)
    | 0x14 => some (wordOf (x.residue / 2 ^ 24) 1)
    | 0x18 => some (wordOf x.backlog 0)
    | 0x1C => some (wordOf x.backlog 1)
    | _ => none

/-- The words of a check unit (R400). -/
def Chip.readCheck (c : Chip) (x l : Nat) : Option Nat :=
  let k := c.check x
  match l with
  | 0x18 => some (wordOf k.run 0)
  | 0x1C => some (wordOf k.run 1)
  | 0x28 => some (wordOf k.result 0)
  | 0x2C => some (wordOf k.result 1)
  | 0x30 => some (flagWord [k.busy.isSome, k.done, k.isEqual, k.collide])
  | 0x34 => some (k.count % 2 ^ 32)
  | _ => none

/-- The words of the update block (R423). -/
def Chip.readUpdate (c : Chip) (base i l : Nat) : Option Nat :=
  if base = 0xC000 then
    match l with
    | 0x00 => some ((match c.inUpdate with | some t => t | none => 7) +
        flagWord [!c.trialTypes.isEmpty, !c.stagingTypes.isEmpty, !c.pendingTypes.isEmpty] * 8)
    | 0x04 => some c.update.trialWin
    | 0x08 => some (match c.trialTypes with | t :: _ => ceilDiv ((c.imageType t).trialEnd - c.cycle) 800000000 | [] => 0)
    | _ => none
  else
    let x := c.imageType i
    let ver (m : Image) : Nat := if m.valid then m.version else 0
    -- the boot ROM loads them at stage 2
    if c.power.stage = 0 then (if l ≤ 0x10 then some 0 else none)
    else match l with
    | 0x00 => some (x.running + flagWord [x.slot0.valid, x.slot1.valid, x.verified, x.failed] * 2)
    | 0x04 => some (c.image i).version
    | 0x08 => some (ver x.slot0)
    | 0x0C => some (ver x.slot1)
    | 0x10 => some x.counter
    | _ => none

/-- The words of power, boot and debug (R449). -/
def Chip.readPower (c : Chip) (l : Nat) : Option Nat :=
  let p := c.power
  let uid (w : Nat) : Nat := ofBE ((beBytes 16 Config.partUid.toNat).drop (4 * w) |>.take 4)
  match l with
  -- the monitors report from the release of the power-on reset on (DEDUCED, log entry 9)
  | 0x00 => some (flagWord (p.on ++ [p.mainPg, p.stage != 0 && c.warning.vaonA, p.stage != 0 && c.warning.vaonB, !p.queue.isEmpty]))
  | 0x08 => some (p.stage + p.alt * 16 + p.fail * 2 ^ 9 + flagWord [p.recovery, p.debug] * 2 ^ 14)
  | 0x0C => some p.keyWord
  | 0x1C => some (sat32 p.bootUs)
  | 0x20 => some (uid 0)
  | 0x24 => some (uid 1)
  | 0x28 => some (uid 2)
  | 0x2C => some (uid 3)
  | _ => none

/-- The capabilities of the configuration space in the table's order: offset, capability ID and version field of the PCI Express
layout (R473; the IDs are that specification's, PRESUMED, log entry 15). -/
def capabilities : List (Nat × Nat) :=
  [(0x040, 0x01), (0x050, 0x11), (0x070, 0x10), (0x100, 0x01), (0x148, 0x15), (0x158, 0x03), (0x168, 0x19), (0x180, 0x25), (0x190, 0x26),
   (0x1C0, 0x27)]

/-- The capability that follows one; 0 after the last, and after the last of those that the header's list can reach. -/
def nextCapability (off : Nat) : Nat :=
  match (capabilities.map Prod.fst).filter fun o => decide (off < o) && (decide (off < 0x100) == decide (o < 0x100)) with
  | o :: _ => o
  | [] => 0

/-- The dwords of the configuration space that R473 fixes: identifiers, BAR1, BAR4, BAR5 and the expansion ROM unimplemented, the
MSI-X table and pending-bit array in BAR0, the serial number. For a capability's header the answer is its ID and link (bits 15:8 in
the header's list, bits 31:20 in the extended one, DEDUCED). No command of the table reads it. -/
def configWord (off : Nat) : Option Nat :=
  match capabilities.find? fun e => e.1 == off with
  | some e => some (e.2 + nextCapability off * (if off < 0x100 then 2 ^ 8 else 2 ^ 20))
  | none => match off with
    | 0x00 => some 0x0B411E5A
    | 0x08 => some 0x11800011
    | 0x14 => some 0
    | 0x20 => some 0
    | 0x24 => some 0
    | 0x2C => some 0x00001E5A
    | 0x30 => some 0
    | 0x34 => some 0x40
    | 0x54 => some 0x00200000
    | 0x58 => some 0x00201000
    | 0x15C => some (ofLE (((beBytes 16 Config.partUid.toNat).drop 8).take 4))
    | 0x160 => some (ofLE (((beBytes 16 Config.partUid.toNat).drop 12).take 4))
    | _ => none

/-- The words of the global block (R470 to R472). -/
def Chip.readGlobal (c : Chip) : Nat → Option Nat
  | 0x00 => some 0x0B411E5A
  | 0x04 => some (0x11 + Config.grade.toNat % 2 * 256)
  | 0x08 => some 0x10B41D5D
  | 0x0C => some 0x005CE831
  | 0x10 => some (Config.macBase.toNat / 8 * 8 % 2 ^ 32)
  | 0x14 => some (Config.macBase.toNat / 2 ^ 32 % 65536)
  | 0x18 => some c.dramCfg
  | 0x1C => some (c.usable / 2 ^ 30)
  | 0x20 => some (wordOf c.tblBase 0)
  | 0x24 => some (wordOf c.tblBase 1)
  | 0x2C => some c.eventSummary
  | _ => none

/-- A word of the thermal estimate window (R150): two estimates, truncated to 8.8 °C. -/
def Chip.readThermal (c : Chip) (l : Nat) : Nat :=
  let half (f : Nat) : Nat :=
    let t := c.estimate f * 256
    twos 16 (if t < 0 then -((-t).floor) else t.floor)
  half (l / 2) + half (l / 2 + 1) * 65536

/-- A word of the task status window (R175). -/
def Chip.readTask (c : Chip) (l : Nat) : Nat :=
  let t := c.task (l / 8)
  if l % 8 = 4 then t.csnLo
  else t.state.code + flagWord [t.flag, t.toFired] * 8 + t.result.code * 256 + t.gen * 65536

/-- A word of the universe status window (R205). -/
def Chip.readUniv (c : Chip) (l : Nat) : Nat :=
  let x := c.univ (l / 8)
  if l % 8 = 4 then x.seq + x.repeatLeft * 256 + flagWord [x.force, x.overrun] * 1024 else wordOf x.lastCsn 0

/-- A word of the telemetry bank windows (R282): the octets of the draining bank, and 0 elsewhere. -/
def Chip.readBank (c : Chip) (l : Nat) : Nat :=
  let x := c.fifo (l / 0x8000)
  if l / 0x4000 % 2 = 1 - x.fillBank then ofLE (padTo 4 ((x.draining.drop (l % 0x4000)).take 4)) else 0

/-- The register at an offset as the state forms it; none for one that the register file holds. -/
def Chip.formed (c : Chip) (base i l off : Nat) : Option Nat :=
  match base with
  | 0x0 => c.readGlobal l
  | 0x400 => c.readCrossing l
  | 0x840 => c.readTb i l
  | 0xA00 => c.readStamp i l
  | 0xA80 => c.readStamp (i + 2) l
  | 0xB00 => c.readStamp 4 l
  | 0x1000 => c.readRender off
  | 0x1200 => c.readRender off
  | 0x1400 => c.readRender off
  | 0x1600 => c.readRender off
  | 0x1800 => c.readRender off
  | 0x1A00 => c.readPacker off
  | 0x1B00 => c.readPacker off
  | 0x2100 => c.readLocal base i l
  | 0x2500 => c.readLocal base i l
  | 0x2D00 => c.readLocal base i l
  | 0x3300 => c.readNet base i l
  | 0x3400 => c.readNet base i l
  | 0x3A00 => c.readNet base i l
  | 0x200 => c.readHost base i l
  | 0x4000 => c.readHost base i l
  | 0x4800 => c.readHost base i l
  | 0x100000 => c.readHost base i l
  | 0x5000 => c.readPair l
  | 0x6000 => c.readMeter base i l
  | 0x6100 => c.readMeter base i l
  | 0x6400 => c.readMeter base i l
  | 0x7000 => some (c.readEnergy false l)
  | 0x8000 => some (c.readEnergy true l)
  | 0x9000 => if l = 0 then some c.calStatus else if l = 4 then some (c.calib.auto.toNat + c.calib.deltaT * 256) else none
  | 0xA000 => c.readCheck i l
  | 0xC000 => c.readUpdate base i l
  | 0xC040 => c.readUpdate base i l
  | 0xD000 => c.readPower l
  | 0xE400 => if l = 4 then some c.maintStatus else none
  | 0x80000 => some (c.readThermal l)
  | 0xC0000 => some (c.readTask l)
  | 0x400000 => some (c.readUniv l)
  | 0x800000 => some (c.readBank l)
  | 0x201000 => some (flagWord ((List.range 32).map fun b => c.msixPend.contains (l * 8 + b)))
  | 0x1000000 => some (wordOf (natAt c.ringMem (l / 64)) (l % 64 / 4))
  | _ => none

/-- A register of a block, or a reserved offset of it: `view` asks for the live value of an RWB register (R469). The pair block reads
0 while PD_STRAIT has never been on (R347). -/
def Chip.readIn (c : Chip) (view : Bool) (b : Block) (i off : Nat) : Nat :=
  let l := (off - b.base) % b.stride
  if off / 0x1000 = 5 && !c.pair.straitEver then 0
  else match c.formed b.base i l off, (rowAt off).map Row.access with
  | some v, _ => v
  | none, some .wo => 0
  | none, some .rwb => if view then c.lv off else c.rd off
  | none, some _ => c.rd off
  | none, none => 0

/-- A 32-bit read of BAR0 at an offset, but for EVT_LEGACY_POP: none for Completer Abort, which an unmapped offset, a block
whose domain is off, and a warm reset under way bring (R434, R466, R467, R469). In recovery the same answers what the boot ROM does
not serve (R439; DEDUCED, log entry 37). -/
def Chip.readWord (c : Chip) (off : Nat) : Option Nat :=
  if c.power.warm && !inPowerBlock off || c.power.recovery && c.power.stage != 8 && !inRecovery off then none
  else if 0x1F000 ≤ off && off < 0x20000 then some 0
  else
    let view := liveView off
    let o := if view then off - 0x10000 else off
    match blockAt o with
    | none => none
    | some (b, i) => if c.domainOn b.domain then some (c.readIn view b i o) else none

/-- A read of BAR0 by dwords with their byte enables, outside the page of R266: each from the part as it stands in the cycle in which
that dword is read, the octets not enabled 0. -/
def readDwords (at_ : Nat → Chip) (off : Nat) (be : List Nat) : List (Option Nat) :=
  be.zipIdx.map fun e => ((at_ (dwordCycle off e.2)).readWord (off + 4 * e.2)).map fun v => v &&& enableMask e.1

end Sys2Proof.Machine
end

