-- ==== Sys2Proof/WellFormed.lean ====
section
/-! DEFINITION. The well-formed commands: those whose operands lie in the ranges that the spec gives them and name
resources that the part has (R5, R13). -/

namespace Sys2Proof

/-- A channel of R292. -/
def Chan.wf : Chan → Bool
  | .mbox m => decide (m < 8)
  | .ring r => decide (r < 256)

/-- The header of a command in a channel, whatever its LEN. -/
def CmdHdr.wfChannel (h : CmdHdr) : Bool :=
  h.chan.wf && decide (h.tag < 65536) && decide (h.len < 65536) && decide (h.target < 2 ^ 64)

/-- The header of a command whose payload its channel holds: 48 octets in a mailbox, 47 on a ring (R293). -/
def CmdHdr.wf (h : CmdHdr) : Bool :=
  h.wfChannel && (match h.chan with | .mbox _ => decide (h.len ≤ 48) | .ring _ => decide (h.len ≤ 47))

/-- A local port of the part. -/
def LocalPort.wf : LocalPort → Bool
  | .dmx n => decide (n < 16)
  | .pix p => decide (p < 32)

/-- The units of a calibration item (R379). -/
def CalItem.units : CalItem → Nat
  | .houseTrim => 16
  | .dieSensor => 8
  | .showLane => 4
  | .straitLane => 3

/-- An E1.31 data packet's fields in their widths (R170). -/
def E131Packet.wf (k : E131Packet) : Bool :=
  decide (k.univ < 65536) && decide (k.cid < 2 ^ 128) && decide (k.prio < 256) && decide (k.seq < 256) &&
  decide (k.syncAddr < 65536) && decide (k.startCode < 256) && decide (k.slots.length ≤ 512)

/-- A well-formed command. -/
def Instr.wf : Instr → Bool
  | .sysInfo h p => h.wf && decide (p < 256 ^ 48)
  | .sysPing h p => h.wf && decide (p < 256 ^ 48)
  | .sysWarmReset h p => h.wf && decide (p < 256 ^ 48)
  | .sysPowerSet h p => h.wf && decide (p < 256 ^ 48)
  | .sysEventRoute h p => h.wf && decide (p < 256 ^ 48)
  | .sysSettingsSave h p => h.wf && decide (p < 256 ^ 48)
  | .sysSettingsLoad h p => h.wf && decide (p < 256 ^ 48)
  | .showCommit h p => h.wf && decide (p < 256 ^ 48)
  | .showCross h p => h.wf && decide (p < 256 ^ 48)
  | .showUncommit h p => h.wf && decide (p < 256 ^ 48)
  | .showLayerFlip h p => h.wf && decide (p < 256 ^ 48)
  | .showTaskLoad h p => h.wf && decide (p < 256 ^ 48)
  | .showTaskCancel h p => h.wf && decide (p < 256 ^ 48)
  | .showTaskFree h p => h.wf && decide (p < 256 ^ 48)
  | .tblFixtureCommit h p => h.wf && decide (p < 256 ^ 48)
  | .tblProfileCommit h p => h.wf && decide (p < 256 ^ 48)
  | .tblUniverseCommit h p => h.wf && decide (p < 256 ^ 48)
  | .tblRunCommit h p => h.wf && decide (p < 256 ^ 48)
  | .tblCanvasCommit h p => h.wf && decide (p < 256 ^ 48)
  | .tblLayerCommit h p => h.wf && decide (p < 256 ^ 48)
  | .tblCellposCommit h p => h.wf && decide (p < 256 ^ 48)
  | .tblCurveCommit h p => h.wf && decide (p < 256 ^ 48)
  | .tblCueCommit h p => h.wf && decide (p < 256 ^ 48)
  | .tblInunivCommit h p => h.wf && decide (p < 256 ^ 48)
  | .tblInpatchCommit h p => h.wf && decide (p < 256 ^ 48)
  | .tblSourceCommit h p => h.wf && decide (p < 256 ^ 48)
  | .tblUcastCommit h p => h.wf && decide (p < 256 ^ 48)
  | .tblRdmctxCommit h p => h.wf && decide (p < 256 ^ 48)
  | .tblStreamCommit h p => h.wf && decide (p < 256 ^ 48)
  | .tblRevert h p => h.wf && decide (p < 256 ^ 48)
  | .timePtpStatus h p => h.wf && decide (p < 256 ^ 48)
  | .timePtpSet h p => h.wf && decide (p < 256 ^ 48)
  | .timeTbStep h p => h.wf && decide (p < 256 ^ 48)
  | .timeFramegenSet h p => h.wf && decide (p < 256 ^ 48)
  | .timeFramegenStart h p => h.wf && decide (p < 256 ^ 48)
  | .timeFramegenStop h p => h.wf && decide (p < 256 ^ 48)
  | .timeFramegenRephase h p => h.wf && decide (p < 256 ^ 48)
  | .netGroupJoin h p => h.wf && decide (p < 256 ^ 48)
  | .netGroupLeave h p => h.wf && decide (p < 256 ^ 48)
  | .netNeighbourResolve h p => h.wf && decide (p < 256 ^ 48)
  | .portRdmRequest h p => h.wf && decide (p < 256 ^ 48)
  | .portRdmDiscover h p => h.wf && decide (p < 256 ^ 48)
  | .portRdmAbort h p => h.wf && decide (p < 256 ^ 48)
  | .meterFeedSet h p => h.wf && decide (p < 256 ^ 48)
  | .meterPqSet h p => h.wf && decide (p < 256 ^ 48)
  | .meterPulseSet h p => h.wf && decide (p < 256 ^ 48)
  | .meterJournalFlush h p => h.wf && decide (p < 256 ^ 48)
  | .meterTotalsPreset h p => h.wf && decide (p < 256 ^ 48)
  | .pairConfig h p => h.wf && decide (p < 256 ^ 48)
  | .pairPromote h p => h.wf && decide (p < 256 ^ 48)
  | .pairSwap h p => h.wf && decide (p < 256 ^ 48)
  | .pairResync h p => h.wf && decide (p < 256 ^ 48)
  | .pairStatus h p => h.wf && decide (p < 256 ^ 48)
  | .updStage h p => h.wf && decide (p < 256 ^ 48)
  | .updVerify h p => h.wf && decide (p < 256 ^ 48)
  | .updActivate h p => h.wf && decide (p < 256 ^ 48)
  | .updStatus h p => h.wf && decide (p < 256 ^ 48)
  | .updRevert h p => h.wf && decide (p < 256 ^ 48)
  | .updTrialSet h p => h.wf && decide (p < 256 ^ 48)
  | .updCounterAdvance h p => h.wf && decide (p < 256 ^ 48)
  | .calRun h p => h.wf && decide (p < 256 ^ 48)
  | .calMeterRef h p => h.wf && decide (p < 256 ^ 48)
  | .calAutoSet h p => h.wf && decide (p < 256 ^ 48)
  | .diagScrubSet h p => h.wf && decide (p < 256 ^ 48)
  | .diagEccInject h p => h.wf && decide (p < 256 ^ 48)
  | .diagCheckRun h p => h.wf && decide (p < 256 ^ 48)
  | .diagLoopback h p => h.wf && decide (p < 256 ^ 48)
  | .diagDebugUnlock h p => h.wf && decide (p < 256 ^ 48)
  | .diagTempRead h p => h.wf && decide (p < 256 ^ 48)
  | .diagEventTest h p => h.wf && decide (p < 256 ^ 48)
  | .commandBad h opcode _ => h.wfChannel && decide (opcode < 65536)
  | .registerWrite off first rest => decide (off % 4 = 0 ∧ off + 4 * rest.length < 0x2000000 ∧ first.2 < 16 ∧ rest.length < 128) &&
    rest.all fun e => decide (e.2 < 16)
  | .tbSnap _ => true
  | .txtsRelease unit _ => decide (unit < 5)
  | .txtsStatusClear unit _ => decide (unit < 5)
  | .lanenClr lane _ => decide (lane < 8)
  | .mapClr _ => true
  | .modelClr _ => true
  | .schedClr _ => true
  | .netCntSnap _ => true
  | .netCntClr _ => true
  | .hbEpochWrite _ be => decide (be < 16)
  | .hbEvtWfailClear _ => true
  | .evtLegacyPop be => decide (be < 16)
  | .ringEnable r _ => decide (r < 256)
  | .ringProdWrite r _ => decide (r < 256)
  | .ringConsWrite r _ => decide (r < 256)
  | .ringFlushHost r _ => decide (r < 256)
  | .ringFlushDevice r _ => decide (r < 256)
  | .ringSlotWrite off octets => decide (off + octets.length ≤ 0x1000000) && decide (0 < octets.length ∧ octets.length ≤ 512)
  | .ringEntryTake r => decide (r < 256)
  | .ringStall r => decide (r < 256)
  | .mbmDoorbell m _ => decide (m < 8)
  | .tffAdvance f _ => decide (f < 8)
  | .tffMark f _ => decide (f < 8)
  | .tffRewind f _ => decide (f < 8)
  | .tffRelease f _ => decide (f < 8)
  | .tffClose f _ => decide (f < 8)
  | .tffFlush f _ => decide (f < 8)
  | .telemAgeClose f => decide (f < 8)
  | .telemRecordProduce producer part => decide (1 ≤ producer ∧ producer ≤ 3) && (match part with
    | .whole body => decide (body.length % 8 = 0 ∧ body.length ≤ 16376)
    | .begins body => decide (body.length % 8 = 0 ∧ body.length ≤ 16376)
    | .ends => true)
  | .mtrHostSnap _ => true
  | .ckxStart x _ => decide (x < 16)
  | .ckxDataWrite x _ _ be => decide (x < 16) && decide (be < 16)
  | .ckxRunWrite x _ _ => decide (x < 16)
  | .ckxFinish x _ => decide (x < 16)
  | .eccmEvtClear m _ => decide (m < 2)
  | .evtClr _ => true
  | .ctrlRestart _ => true
  | .bootRecover _ => true
  | .msixUnmask vector => decide (vector < 256)
  | .hostBar2Write off octets req => decide (octets.length ≤ 512) && decide (req < 65536) && decide (off + octets.length ≤ Config.bar2Octets)
  | .hostBar2Read off len => decide (len ≤ 4096) && decide (off + len ≤ Config.bar2Octets)
  | .hostAtomicOp _ at_ width _ _ => decide (width = 32 ∨ width = 64 ∨ width = 128) && (match at_ with
    | .bar0 off => decide (off + width / 8 ≤ 0x2000000)
    | .bar2 off => decide (off + width / 8 ≤ Config.bar2Octets))
  | .peerAtomicOp off req _ _ => decide (req < 65536) && decide (off ≤ Config.bar2Octets)
  | .hostPeerTimeout off req _ => decide (req < 65536) && decide (off ≤ Config.bar2Octets)
  | .peerWriteForward off octets req => decide (req < 65536) && decide (off + octets.length ≤ Config.bar2Octets)
  | .peerWriteFailureMsg _ req _ cause _ => decide (req < 65536) && decide (1 ≤ cause ∧ cause ≤ 4)
  | .forwardedAccessServe off access len => decide (off < 28 * 2 ^ 30) && decide (len ≤ 4096) && (match access with
    | .atomic _ width _ _ => decide (width = 32 ∨ width = 64 ∨ width = 128)
    | _ => true)
  | .sealPoint => true
  | .crossing => true
  | .explicitCrossing => true
  | .immediateCrossing => true
  | .fgResume => true
  | .generatorStopEffect => true
  | .copyForwardDone table => decide (1 ≤ table ∧ table ≤ 15)
  | .timeBaseStep tb _ => decide (tb < 4)
  | .ptpMessageReceive tb _ => decide (tb < 4)
  | .ptpMessageSend tb _ => decide (tb < 4)
  | .tbSourceLost tb => decide (tb < 4)
  | .ltcFrame _ _ _ _ _ _ => true
  | .ltcLost _ => true
  | .fpulseInEdge _ => true
  | .fpulseInLoss => true
  | .fpulseOutStart => true
  | .fpulseOutEnd => true
  | .bandWritten canvas band => decide (canvas < 16) && decide (band < 512)
  | .fixtureHandover f => decide (f < 131072)
  | .universeDecide u => decide (u < 49152)
  | .emissionWindowOpen => true
  | .packetStart port => decide (port < 4)
  | .emissionWindowClose => true
  | .holdKeepalive u => decide (u < 49152)
  | .taskWaitInstant slot => decide (slot < 4096)
  | .trigInEdge pin _ => decide (pin < 4)
  | .trigFilterExpire pin => decide (pin < 4)
  | .taskTimeout slot => decide (slot < 4096)
  | .taskDispatch => true
  | .e131DataReceive port pkt => decide (port < 4) && pkt.wf
  | .e131SyncReceive port _ _ => decide (port < 4)
  | .inputSourceTimeout entry _ => decide (entry < 16384)
  | .inputSyncTimeout entry _ => decide (entry < 16384)
  | .lpFrameStart port => port.wf
  | .lpHold port => port.wf
  | .lpHoldRepeat port => port.wf
  | .rdmRequestStart port => decide (port < 16)
  | .rdmResponseReceive port _ octets => decide (port < 16) && decide (octets.length ≤ 257)
  | .rdmResponseTimeout port => decide (port < 16)
  | .rdmSensorPoll ctx => decide (ctx < 1024)
  | .rdmAckTimerExpire ctx => decide (ctx < 1024)
  | .rdmRequestExpire ctx _ => decide (ctx < 1024)
  | .hcPwmPeriod n _ => decide (n < 16)
  | .hcDiagStarved n => decide (n < 16)
  | .hcNtcRefresh n _ => decide (n < 16)
  | .netFrameReceive port _ => decide (port < 5)
  | .pauseReceive port quanta => decide (port < 5) && decide (quanta < 65536)
  | .pauseExpire port => decide (port < 4)
  | .netPauseWatchdog port => decide (port < 4)
  | .netPauseRearm port => decide (port < 4)
  | .netLinkChange port _ _ => decide (port < 5)
  | .membershipReportRepeat port => decide (port < 5)
  | .lldpSend port => decide (port < 5)
  | .lpiEnter port => decide (port < 4)
  | .txJobSend r fetched => decide (r < 256) && (match fetched with | none => true | some l => decide (l.length ≤ 9216))
  | .videoPacketReceive stream _ _ => decide (stream < 16)
  | .streamMergeTimeout stream => decide (stream < 16)
  | .streamPathDown stream _ => decide (stream < 16)
  | .straitLinkFrameReceive seq octets _ => decide (seq < 2 ^ 32) && decide (octets.length ≤ 2072)
  | .straitLinkSilent => true
  | .straitLinkUp _ => true
  | .straitLaneFail lane => decide (lane < 3)
  | .straitKeepalive => true
  | .mirrorCommitReceive _ => true
  | .mirrorAckTimeout => true
  | .ferryComplete _ => true
  | .ferryLate => true
  | .beaconReceive port _ => decide (port < 4)
  | .bulkFerryComplete _ => true
  | .meterSample feed streams => decide (feed < 8) && decide (streams.length = 7)
  | .meterModFault feed ch => decide (feed < 8) && decide (ch < 7)
  | .meterPulseStart n => decide (n < 8)
  | .meterPulseEnd n => decide (n < 8)
  | .pwrWarnAssert => true
  | .vaonFeedChange _ _ => true
  | .meterWarnClear => true
  | .journalWriteDone _ => true
  | .dieSensorSample sensor _ => decide (sensor < 8)
  | .calAutoStart => true
  | .calUnitDone item unit _ _ _ => decide (unit < item.units)
  | .calUnitTimeout item unit => decide (unit < item.units)
  | .meterCalSpanEnd feed => decide (feed < 8)
  | .patrolBurst mem => decide (mem < 2)
  | .maintActivityStart => true
  | .cmdComplete => true
  | .ctrlHandoverDone => true
  | .updConfirmed type => decide (type < 5)
  | .trialWindowExpire type => decide (type < 5)
  | .ctrlWatchdog => true
  | .powerOnReset => true
  | .mainPgFall => true
  | .mainPgRise => true
  | .perstN => true
  | .pwrDomainChange domain => decide (domain < 12)
  | .jtagUpdateIr code => decide (code < 256)
  | .jtagProvision _ => true
  | .combinedSupplyFall => true
  | .perstNRelease => true
  | .testLogicReset => true
  | .lpiWake port => decide (port < 4)
  | .pwrWarnNRelease => true
  | .neighbourSolicitRetry port => decide (port < 5)
  | .checkRunFinish x => decide (x < 16)

end Sys2Proof
end

