-- ==== Sys2Proof/Safety.lean ====
section
/-! DEFINITION. The terms in which the statements speak: a state with its part replaced, when the part takes a host write
and when firmware takes a command and a commit, and what counts as a safe run. -/

namespace Sys2Proof.Machine

open Sys2Proof

/-- The state with its part replaced. -/
def State.onto (s : State) (c : Chip) : State := { s with chip := c }

/-- The state with its part and its LPDDR5X replaced. -/
def State.ontoBoth (s : State) (x : List Host.Cell × Chip) : State := { s with dram := x.1, chip := x.2 }

/-- A state in which nothing can be wrong with LPDDR5X as data: strictly rising addresses, no octet listed at the value it
reads as unlisted. -/
def State.wf (s : State) : Bool := Memory.wf s.dram

/-- A run of at most `k` steps stops nowhere. -/
def State.safe : Nat → State → Bool
  | 0, _ => true
  | k + 1, s =>
    match step s with
    | .next t => State.safe k t
    | .fault _ => false
    | .refused _ => false

/-- Whether a host write at an offset of BAR0 reaches a block that takes it: the endpoint serves it, it lies in a block
outside the live view, and the block's domain is on and in no warm reset (R434, R437, R466, R467). -/
def Chip.takesWrite (c : Chip) (off : Nat) : Bool :=
  c.barReady off && !liveView off && (c.barCause off).isNone

/-- The effect that a write of a register has as a row of its own, where it has one: the write that REGISTER_WRITE then is. -/
def Chip.ownEffect (c : Chip) (off : Nat) (v : Word) (be : Nat) : Option (State → Host.Outcome State Fault Refusal) :=
  match blockAt off with
  | none => none
  | some (b, i) => ownWrite c b.base i ((off - b.base) % b.stride) off v.toNat be (BitVec.ofNat 32 (v.toNat &&& enableMask be))

/-- Whether firmware takes a command of a channel now, in the order of R279 and R291, and its channel can carry it: LEN within the
channel, and for a result longer than 12 octets a mailbox (R293, R294, R297). -/
def Chip.takes (c : Chip) (h : CmdHdr) (long : Bool) : Bool :=
  c.takesFrom h.chan && (match h.chan with
    | .mbox _ => decide (h.len ≤ 48)
    | .ring _ => decide (h.len ≤ 47) && !long)

/-- The payload as firmware reads it: octets at and beyond LEN are 0 (R294). -/
def payloadOf (h : CmdHdr) (p : Nat) : Nat := p % 256 ^ h.len

/-- Whether a commit of these changes is admitted for a crossing, with this status: targeting
names the crossing (R41, R43), the queue has room, the commits that await the standby among them (R44), the isle may change mirrored settings (R323), and the
configuration at that crossing admits them (R18, R24, R430). -/
def Chip.accepts (c : Chip) (h : CmdHdr) (p : Nat) (csn status : Nat) (l : List Change) : Bool :=
  (match c.target h p true with | .ok e => e == (csn, status) | .error _ => false) &&
    !(decide (c.openCsn < csn) && decide (1024 ≤ c.beyond (c.commits ++ c.forwarded))) &&
    !(c.underActive && (l.any fun ch => ch.mirrored && ch != .promote)) &&
    (c.refusal (c.projected csn) csn l).isNone

/-- The part after a commit command that is admitted: accepted and answered (R40, R296), or, where an active isle mirrors what it
sets, forwarded to the standby, whose acknowledgement it awaits (R324). -/
def Chip.accepted (c : Chip) (h : CmdHdr) (op q csn status : Nat) (l : List Change) (result : List Byte) : Chip :=
  if c.mirrors l then c.forwardCommit ⟨0, ⟨some h.chan, h.tag, op, csn, l, none⟩, some h, q, result⟩
  else c.acceptHost h op csn status l result

/-- Whether a command can change no octet of LPDDR5X: it is neither a table commit or revert, a host or peer write or AtomicOp,
a crossing or the end of a copy-forward, a band or a video packet written, a received frame, nor a loss of power. -/
def storesNothing : Instr → Bool
  | .tblFixtureCommit _ _ => false
  | .tblProfileCommit _ _ => false
  | .tblUniverseCommit _ _ => false
  | .tblRunCommit _ _ => false
  | .tblCanvasCommit _ _ => false
  | .tblLayerCommit _ _ => false
  | .tblCellposCommit _ _ => false
  | .tblCurveCommit _ _ => false
  | .tblCueCommit _ _ => false
  | .tblInunivCommit _ _ => false
  | .tblInpatchCommit _ _ => false
  | .tblSourceCommit _ _ => false
  | .tblUcastCommit _ _ => false
  | .tblRdmctxCommit _ _ => false
  | .tblStreamCommit _ _ => false
  | .tblRevert _ _ => false
  | .hostBar2Write _ _ _ => false
  | .hostAtomicOp _ _ _ _ _ => false
  | .forwardedAccessServe _ _ _ => false
  | .crossing => false
  | .explicitCrossing => false
  | .immediateCrossing => false
  | .copyForwardDone _ => false
  | .bandWritten _ _ => false
  | .netFrameReceive _ _ => false
  | .videoPacketReceive _ _ _ => false
  | .powerOnReset => false
  | .mainPgFall => false
  | .combinedSupplyFall => false
  | _ => true

/-- The commands of the host: firmware commands, register writes and accesses of BAR2. BOOT_RECOVER, which resumes the boot, is
not among them. -/
def hostCommand : Instr → Bool
  | .sysInfo _ _ => true
  | .sysPing _ _ => true
  | .sysWarmReset _ _ => true
  | .sysPowerSet _ _ => true
  | .sysEventRoute _ _ => true
  | .sysSettingsSave _ _ => true
  | .sysSettingsLoad _ _ => true
  | .showCommit _ _ => true
  | .showCross _ _ => true
  | .showUncommit _ _ => true
  | .showLayerFlip _ _ => true
  | .showTaskLoad _ _ => true
  | .showTaskCancel _ _ => true
  | .showTaskFree _ _ => true
  | .tblFixtureCommit _ _ => true
  | .tblProfileCommit _ _ => true
  | .tblUniverseCommit _ _ => true
  | .tblRunCommit _ _ => true
  | .tblCanvasCommit _ _ => true
  | .tblLayerCommit _ _ => true
  | .tblCellposCommit _ _ => true
  | .tblCurveCommit _ _ => true
  | .tblCueCommit _ _ => true
  | .tblInunivCommit _ _ => true
  | .tblInpatchCommit _ _ => true
  | .tblSourceCommit _ _ => true
  | .tblUcastCommit _ _ => true
  | .tblRdmctxCommit _ _ => true
  | .tblStreamCommit _ _ => true
  | .tblRevert _ _ => true
  | .timePtpStatus _ _ => true
  | .timePtpSet _ _ => true
  | .timeTbStep _ _ => true
  | .timeFramegenSet _ _ => true
  | .timeFramegenStart _ _ => true
  | .timeFramegenStop _ _ => true
  | .timeFramegenRephase _ _ => true
  | .netGroupJoin _ _ => true
  | .netGroupLeave _ _ => true
  | .netNeighbourResolve _ _ => true
  | .portRdmRequest _ _ => true
  | .portRdmDiscover _ _ => true
  | .portRdmAbort _ _ => true
  | .meterFeedSet _ _ => true
  | .meterPqSet _ _ => true
  | .meterPulseSet _ _ => true
  | .meterJournalFlush _ _ => true
  | .meterTotalsPreset _ _ => true
  | .pairConfig _ _ => true
  | .pairPromote _ _ => true
  | .pairSwap _ _ => true
  | .pairResync _ _ => true
  | .pairStatus _ _ => true
  | .updStage _ _ => true
  | .updVerify _ _ => true
  | .updActivate _ _ => true
  | .updStatus _ _ => true
  | .updRevert _ _ => true
  | .updTrialSet _ _ => true
  | .updCounterAdvance _ _ => true
  | .calRun _ _ => true
  | .calMeterRef _ _ => true
  | .calAutoSet _ _ => true
  | .diagScrubSet _ _ => true
  | .diagEccInject _ _ => true
  | .diagCheckRun _ _ => true
  | .diagLoopback _ _ => true
  | .diagDebugUnlock _ _ => true
  | .diagTempRead _ _ => true
  | .diagEventTest _ _ => true
  | .commandBad _ _ _ => true
  | .registerWrite off _ rest => !(off ≤ Reg.BOOT_RECOVER && Reg.BOOT_RECOVER ≤ off + 4 * rest.length)
  | .tbSnap _ => true
  | .txtsRelease _ _ => true
  | .txtsStatusClear _ _ => true
  | .lanenClr _ _ => true
  | .mapClr _ => true
  | .modelClr _ => true
  | .schedClr _ => true
  | .netCntSnap _ => true
  | .netCntClr _ => true
  | .hbEpochWrite _ _ => true
  | .hbEvtWfailClear _ => true
  | .evtLegacyPop _ => true
  | .ringEnable _ _ => true
  | .ringProdWrite _ _ => true
  | .ringConsWrite _ _ => true
  | .ringFlushHost _ _ => true
  | .ringFlushDevice _ _ => true
  | .ringSlotWrite _ _ => true
  | .mbmDoorbell _ _ => true
  | .tffAdvance _ _ => true
  | .tffMark _ _ => true
  | .tffRewind _ _ => true
  | .tffRelease _ _ => true
  | .tffClose _ _ => true
  | .tffFlush _ _ => true
  | .mtrHostSnap _ => true
  | .ckxStart _ _ => true
  | .ckxDataWrite _ _ _ _ => true
  | .ckxRunWrite _ _ _ => true
  | .ckxFinish _ _ => true
  | .eccmEvtClear _ _ => true
  | .evtClr _ => true
  | .ctrlRestart _ => true
  | .msixUnmask _ => true
  | .hostBar2Write _ _ _ => true
  | .hostBar2Read _ _ => true
  | .hostAtomicOp _ _ _ _ _ => true
  | .peerAtomicOp _ _ _ _ => true
  | .peerWriteForward _ _ _ => true
  | _ => false

end Sys2Proof.Machine
end

