-- ==== Sys2Proof/Certificates/Slice0/Obligations.lean ====
section
/-! DEFINITION. The statements for the provers. In every statement of what a command does, the state that it answers is
written out whole, so that what the equation does not name is unchanged: registers, collections, LPDDR5X and the queue. -/

open Sys2Proof Sys2Proof.Machine

/-! ### The queue, the step and the whole machine -/

/-- A step with a command at the front of its queue is that command's effect on the state with the queue's rest. -/
def Obligations.StepRunsFrontCommand : Prop :=
  ∀ (s : State) (i : Instr) (rest : List Instr), step { s with pending := i :: rest } = exec i { s with pending := rest }

/-- With nothing in the queue, firmware takes the command that its channels present next, and a step is that command's effect
(R279, R291, R293). With none there either, one 800 MHz cycle passes and nothing else changes: each time base gains
1.25 ns × (1 + a), a in 2⁻¹⁰ ppb (R56). What a step is on an empty queue is the model's choice (log entry 1). -/
def Obligations.EmptyQueueServesChannelsOrLetsOneCyclePass : Prop :=
  ∀ s : State, s.pending = [] →
    (∀ c i, s.chip.nextCommand = some (c, i) → step s = exec i (s.onto c)) ∧
    (s.chip.nextCommand = none → step s = .next (s.onto { s.chip with
      cycle := s.chip.cycle + 1
      tbs := s.chip.tbs.map fun t =>
        { t with time := (t.time + (5 * (1024 * 1000000000 + t.rate)).toNat) % (2 ^ 48 * 1000000000 * (4096 * 1000000000)) } })) ∧
    (∀ m, s.chip.served = true → m < 8 → (s.chip.mbox m).busy = true → s.chip.unanswered (.mbox m) = false →
      (∀ j, j < m → (s.chip.mbox j).busy = false) →
      step s = exec (readCommand (.mbox m) (s.chip.mboxWord m)) s)

/-- Every step that goes on takes exactly the front command off the queue and puts none on it. No step refuses: every command of the table has a meaning in every state. -/
def Obligations.StepsTakeTheFrontCommandAndNeverRefuse : Prop :=
  (∀ s t : State, step s = .next t → t.pending = s.pending.tail) ∧
  (∀ (s : State) (r : Refusal), step s ≠ .refused r)

/-- A well-formed command at the front of the queue never stops the machine, whatever the state. -/
def Obligations.WellFormedCommandsNeverStop : Prop :=
  ∀ (s : State) (i : Instr) (rest : List Instr), s.pending = i :: rest → i.wf = true → ∃ t, step s = .next t

/-- LPDDR5X as data keeps its canonical form (strictly rising addresses, no octet listed at what it reads as unlisted)
through every step. -/
def Obligations.StepKeepsMemoryCanonical : Prop :=
  ∀ s t : State, s.wf = true → step s = .next t → t.wf = true

/-- The reset state: canonical memory, nothing waiting, the generator stopped on TB0 at 60/1 with origin 0 (R54), every time
base free-running at zero, only PD_AON on, boot stage 0, CSN 0. -/
def Obligations.ResetStateIsAsGiven : Prop :=
  State.reset.wf = true ∧ State.reset.pending = [] ∧
  State.reset.chip.fg.mode = .stopped ∧ State.reset.chip.fg.tb = 0 ∧ State.reset.chip.fg.rateN = 60 ∧
  State.reset.chip.fg.rateD = 1 ∧ State.reset.chip.fg.origin = 0 ∧ State.reset.chip.csn = 0 ∧
  (∀ n, n < 4 → State.reset.chip.tb n = TimeBase.reset ∧ (State.reset.chip.tb n).mode = .free ∧ (State.reset.chip.tb n).time = 0) ∧
  (∀ d, State.reset.chip.domainOn d = true ↔ d = 0) ∧ State.reset.chip.power.stage = 0 ∧
  State.reset.chip.commits = [] ∧ State.reset.chip.tasks = [] ∧ State.reset.chip.regs = []

/-- A command that is none of the table commits, TBL_REVERT, writes and AtomicOps to LPDDR5X, crossings, ends of
copy-forwards, bands, received frames, video packets and losses of power leaves every octet of LPDDR5X as it is. A host write to BAR2 leaves every octet outside the range it names as it is: the range starts at the BAR2 space offset of
R258. -/
def Obligations.OnlyStoringCommandsChangeMemory : Prop :=
  (∀ (i : Instr) (s t : State), storesNothing i = true → exec i s = .next t →
      ∀ a, Memory.read8 t.dram a = Memory.read8 s.dram a) ∧
  (∀ (s t : State) (off : Nat) (octets : List Byte) (req a : Nat),
      exec (.hostBar2Write off octets req) s = .next t →
      a < s.chip.spaceOf off ∨ s.chip.spaceOf off + octets.length ≤ a →
      Memory.read8 t.dram a = Memory.read8 s.dram a)

/-! ### Registers -/

/-- REGISTER_WRITE by access code (R7, R8, R455, R463): one that enables no octet, and one of the live view, has no effect; RO
and WO registers and offsets at which a block has none ignore it; RW and RWB take the enabled octets over the others,
clamped field by field; W1C clears the bits written as 1; a register whose write has a row of its own acts as that row. A write
that no block takes fails with cause 4 at a reserved address, and with cause 1 in a block whose domain is off or under a warm
reset (R263, R434, R467); before the endpoint serves BAR0 nothing happens (R437). What a register reads
after a write of it is the value written, and every other register reads as before. An access of two dwords applies them in
ascending order, the second a cycle after the first, or in the same cycle where it is the X_HI of a pair (R462); one of which both
fail is logged once, with its length (the model's reading, log entry 15). -/
def Obligations.RegisterWriteFollowsItsAccessCode : Prop :=
  (∀ (c : Chip) (off off' v : Nat), ((c.wr off v).rd off = v % 2 ^ 32) ∧
     (off' ≠ off → (c.wr off v).rd off' = c.rd off') ∧ (∀ o, (c.wr off v).lv o = c.lv o)) ∧
  (∀ (s : State) (off : Nat) (v : Word) (be : Nat), off % 4 = 0 → off < 0x2000000 → be < 16 →
     (be = 0 → exec (.registerWrite off (v, be) []) s = .next s) ∧
     (∀ f, 0 < be → s.chip.ownEffect off v be = some f → exec (.registerWrite off (v, be) []) s = f s) ∧
     (0 < be → (s.chip.ownEffect off v be).isNone = true →
       (s.chip.barReady off = false → exec (.registerWrite off (v, be) []) s = .next s) ∧
       (s.chip.barReady off = true → s.chip.power.warm = true → ¬ (0xD000 ≤ off ∧ off < 0xD100) →
         exec (.registerWrite off (v, be) []) s =
           .next (s.onto (s.chip.writeFailed false off hostReq (s.chip.rd Reg.HB_EPOCH) 1 0 4))) ∧
       (s.chip.barReady off = true → s.chip.power.warm = false →
         (0x10000 ≤ off → off < 0x20000 → exec (.registerWrite off (v, be) []) s = .next s) ∧
         (¬ (0x10000 ≤ off ∧ off < 0x20000) →
           (blockAt off = none → exec (.registerWrite off (v, be) []) s =
             .next (s.onto (s.chip.writeFailed false off hostReq (s.chip.rd Reg.HB_EPOCH) 4 0 4))) ∧
           (∀ e, blockAt off = some e → s.chip.domainOn e.1.domain = false → exec (.registerWrite off (v, be) []) s =
             .next (s.onto (s.chip.writeFailed false off hostReq (s.chip.rd Reg.HB_EPOCH) 1 0 4))))) ∧
       (s.chip.takesWrite off = true →
         (rowAt off = none → exec (.registerWrite off (v, be) []) s = .next s) ∧
         (∀ r, rowAt off = some r →
           ((r.access = .ro ∨ r.access = .wo) → exec (.registerWrite off (v, be) []) s = .next s) ∧
           ((r.access = .rw ∨ r.access = .rwb) → exec (.registerWrite off (v, be) []) s =
             .next (s.onto (s.chip.wr off (clampReg s.chip off (mergeBytes (s.chip.rd off) v.toNat be))))) ∧
           (r.access = .w1c → exec (.registerWrite off (v, be) []) s =
             .next (s.onto (s.chip.wr off (s.chip.rd off - (s.chip.rd off &&& (v.toNat &&& enableMask be)))))))))) ∧
  (∀ (s : State) (off : Nat) (v w : Word) (be bf : Nat), off % 4 = 0 → off + 4 < 0x1000000 → 0 < be → be < 16 → 0 < bf → bf < 16 →
     s.chip.barReady off = true →
     (∀ t u, s.chip.dwordCause off = none → exec (.registerWrite off (v, be) []) s = .next t →
       u = (if pairsDown (off + 4) then t else t.onto (t.chip.runToCycle (t.chip.cycle + 1))) →
       u.chip.dwordCause (off + 4) = none →
       exec (.registerWrite off (v, be) [(w, bf)]) s = exec (.registerWrite (off + 4) (w, bf) []) u) ∧
     (∀ k l u, s.chip.dwordCause off = some k →
       u = (if pairsDown (off + 4) then s else s.onto (s.chip.runToCycle (s.chip.cycle + 1))) →
       u.chip.dwordCause (off + 4) = some l →
       exec (.registerWrite off (v, be) [(w, bf)]) s =
         .next (u.onto (u.chip.writeFailed false off hostReq (s.chip.rd Reg.HB_EPOCH) k 0 8))))

/-- A write of 1 to a clear register clears its counters and peaks, and a write that names none changes nothing (R109, R127, R148,
R174, R252, R264, R286, R401, R461, R72): LANEn_MIN_LEVEL takes LEVEL, FADE_PEAK the fade slots in use, and each latch is armed
again where the rule says so. NET_CNT_CLR clears the live counters of the ports named; a hold by PAUSE under way counts on from
the write. -/
def Obligations.ClearsResetTheirCounters : Prop :=
  ∀ (s : State) (v : Word),
    (∀ lane, lane < 8 → s.chip.takesWrite (Reg.LANE_CLR lane) = true →
      (v.getLsbD 0 = true → exec (.lanenClr lane v) s =
        .next (s.onto ((s.chip.wr (Reg.LANE_MIN_LEVEL lane) (s.chip.rd (Reg.LANE_LEVEL lane))).wr (Reg.LANE_URGENT_CNT lane) 0))) ∧
      (v.getLsbD 0 = false → exec (.lanenClr lane v) s = .next s)) ∧
    (s.chip.takesWrite Reg.MAP_CLR = true →
      (v.getLsbD 0 = true → exec (.mapClr v) s = .next (s.onto ((s.chip.wr Reg.MAP_PARK_PEAK 0).wr Reg.MAP_STALL_CNT 0))) ∧
      (v.getLsbD 0 = false → exec (.mapClr v) s = .next s)) ∧
    (s.chip.takesWrite Reg.MODEL_CLR = true →
      (v.getLsbD 0 = true → exec (.modelClr v) s =
        .next (s.onto { s.chip with regs := s.chip.regs.filter fun e => e.1 < 0x70000 || 0x78000 ≤ e.1 })) ∧
      (v.getLsbD 0 = false → exec (.modelClr v) s = .next s)) ∧
    (s.chip.takesWrite Reg.SCHED_CLR = true →
      (v.getLsbD 0 = true → exec (.schedClr v) s =
        .next (s.onto (((s.chip.wr Reg.FADE_PEAK s.chip.fadesInUse).wr Reg.TASK_LATE_CNT 0).wr Reg.TASK_FAIL_CNT 0))) ∧
      (v.getLsbD 0 = false → exec (.schedClr v) s = .next s)) ∧
    (s.chip.takesWrite Reg.EVT_CLR = true →
      (v.getLsbD 0 = true → exec (.evtClr v) s =
        .next (s.onto ((((s.chip.wr Reg.EVT_UNROUTED_CNT 0).wr Reg.MAINT_DEFER_CNT 0).wr Reg.CONFLICT_CNT 0).wr Reg.CONFLICT_LAST
          (setBit (s.chip.rd Reg.CONFLICT_LAST) 31 false)))) ∧
      (v.getLsbD 0 = false → exec (.evtClr v) s = .next s)) ∧
    (s.chip.takesWrite Reg.NET_CNT_CLR = true → ∃ t, exec (.netCntClr v) s = .next t ∧ t.dram = s.dram ∧
      t.chip.regs = s.chip.regs ∧
      (∀ p o, p < 5 → o < 0x100 → v.getLsbD p = true → t.chip.cntOf p o = 0) ∧
      (∀ p o, p < 5 → o < 0x100 → v.getLsbD p = false → t.chip.cntOf p o = s.chip.cntOf p o) ∧
      (∀ p, (v.getLsbD p = false ∨ (s.chip.port p).pauseEnd = none) → t.chip.port p = s.chip.port p) ∧
      (∀ p, p < 5 → v.getLsbD p = true → (s.chip.port p).pauseEnd ≠ none →
        t.chip.port p = { s.chip.port p with heldAt := max (s.chip.port p).heldAt s.chip.cycle })) ∧
    (∀ m, m < 2 → s.chip.takesWrite (Reg.ECC_EVT m) = true →
      (v.getLsbD 0 = true → exec (.eccmEvtClear m v) s =
        .next (s.onto ((s.chip.clearEvt (Reg.ECC_EVT m) v.toNat).wr (Reg.ECC_UE_ADDR_HI m)
          (setBit (s.chip.rd (Reg.ECC_UE_ADDR_HI m)) 31 false)))) ∧
      (v.getLsbD 0 = false → exec (.eccmEvtClear m v) s = .next (s.onto (s.chip.clearEvt (Reg.ECC_EVT m) v.toNat)))) ∧
    (s.chip.takesWrite Reg.HB_EVT = true →
      (v.getLsbD 0 = true → exec (.hbEvtWfailClear v) s =
        .next (s.onto ((s.chip.clearEvt Reg.HB_EVT v.toNat).wr Reg.HB_WFAIL_ADDR_HI
          (setBit (s.chip.rd Reg.HB_WFAIL_ADDR_HI) 31 false)))) ∧
      (v.getLsbD 0 = false → exec (.hbEvtWfailClear v) s = .next (s.onto (s.chip.clearEvt Reg.HB_EVT v.toNat)))) ∧
    (∀ u, u < 5 → s.chip.takesWrite (Reg.TXTS_STATUS u) = true →
      (v.getLsbD 0 = true → exec (.txtsStatusClear u v) s =
        .next (s.onto (((s.chip.clearEvt (Reg.TXTS_STATUS u) 1).wr (Reg.TXTS_DROP_CNT u) 0).wr (Reg.TXTS_FIRST_DROP_ID u)
          (setBit (s.chip.rd (Reg.TXTS_FIRST_DROP_ID u)) 31 false)))) ∧
      (v.getLsbD 0 = false → exec (.txtsStatusClear u v) s = .next s))

/-- The commands that latch or release at a write of 1, and do nothing at a write of 0: TB_SNAP latches all four time bases at once
(R57), MTR_HOST_SNAP every energy register with the instant and CSN_LIVE (R360), TXTSp_RELEASE drops the oldest time stamp of the
port's queue, and nothing from an empty one (R71), NET_CNT_SNAP copies each counter of each port into its registers (R252, R253);
HB_EPOCH takes the enabled octets (R264), and a write that enables none has no effect (R463). -/
def Obligations.SnapshotsLatchTheirSources : Prop :=
  ∀ (s : State) (v : Word),
    (s.chip.takesWrite Reg.TB_SNAP = true →
      (v.getLsbD 0 = true → exec (.tbSnap v) s =
        .next (s.onto { s.chip with tbs := s.chip.tbs.map fun t => { t with snap := t.time } })) ∧
      (v.getLsbD 0 = false → exec (.tbSnap v) s = .next s)) ∧
    (s.chip.takesWrite Reg.MTR_HOST_SNAP = true →
      (v.getLsbD 0 = true → ∃ t, exec (.mtrHostSnap v) s = .next t ∧ t.dram = s.dram ∧
        t.chip.hostSnapNs = s.chip.now ∧ t.chip.hostSnapCsn = s.chip.csn ∧ t.chip.csn = s.chip.csn ∧
        ∀ k, t.chip.energyOf k = { s.chip.energyOf k with
          hostTotal := (s.chip.energyOf k).acc / 2 ^ 24, hostWraps := (s.chip.energyOf k).wraps }) ∧
      (v.getLsbD 0 = false → exec (.mtrHostSnap v) s = .next s)) ∧
    (∀ u, u < 5 → s.chip.takesWrite (Reg.TXTS_RELEASE u) = true →
      (v.getLsbD 0 = true → exec (.txtsRelease u v) s =
        .next (s.onto (s.chip.setPort u { s.chip.port u with stamps := (s.chip.port u).stamps.drop 1 }))) ∧
      (v.getLsbD 0 = false → exec (.txtsRelease u v) s = .next s)) ∧
    (s.chip.takesWrite Reg.NET_CNT_SNAP = true →
      (v.getLsbD 0 = true → ∃ t, exec (.netCntSnap v) s = .next t ∧ t.dram = s.dram ∧
        (∀ p o, p < 5 → o ∈ [0x80, 0x88, 0x90, 0x98] → t.chip.rd (0x3400 + 0x100 * p + o) = s.chip.cntOf p o % 2 ^ 32 ∧
          t.chip.rd (0x3400 + 0x100 * p + o + 4) = s.chip.cntOf p o / 2 ^ 32 % 2 ^ 32) ∧
        (∀ p i, p < 5 → i < 14 → i ≠ 11 →
          t.chip.rd (0x3400 + 0x100 * p + (0xA0 + 4 * i)) = s.chip.cntOf p (0xA0 + 4 * i) % 2 ^ 32) ∧
        (∀ p o, p < 5 → o < 0x100 → o ≠ 0xCC → t.chip.cntOf p o = s.chip.cntOf p o) ∧
        (∀ p, p < 5 → (s.chip.port p).pauseEnd = none →
          t.chip.rd (0x3400 + 0x100 * p + 0xCC) = sat32 (s.chip.cntOf p 0xCC / 800)) ∧
        (∀ p, p < 5 → (s.chip.port p).pauseEnd ≠ none → t.chip.rd (0x3400 + 0x100 * p + 0xCC) =
          sat32 ((s.chip.cntOf p 0xCC + (s.chip.cycle - (s.chip.port p).heldAt)) / 800))) ∧
      (v.getLsbD 0 = false → exec (.netCntSnap v) s = .next s)) ∧
    exec (.hbEpochWrite v 0) s = .next s ∧
    (∀ be, 0 < be → be < 16 → s.chip.takesWrite Reg.HB_EPOCH = true → exec (.hbEpochWrite v be) s =
      .next (s.onto (s.chip.wr Reg.HB_EPOCH (clampReg s.chip Reg.HB_EPOCH (mergeBytes (s.chip.rd Reg.HB_EPOCH) v.toNat be)))))

/-! ### Rings, mailboxes and telemetry -/

/-- A ring's registers as the host writes them (R267, R268, R269, R271, R272). RINGr_CFG of a disabled ring takes the value, and with
EN enables the ring with both indices at 0, or is refused with a cause that holds; of an enabled one only the clearing of EN acts. PROD of
a host-produced ring and CONS of one that the XK1 produces move forward only, clamped to what the ring can hold; a flush of the
first discards its entries and fences its slots from CONS to PROD, a flush of the second brings CONS to PROD; every other such
write is ignored. -/
def Obligations.RingRegistersMoveAsWritten : Prop :=
  ∀ (s : State) (r : Nat) (v : Word) (g : Ring), r < 256 → g = s.chip.ring r →
    (s.chip.takesWrite (Reg.RING_CFG r) = true →
      (s.chip.ringOn r = true →
        (v.getLsbD 0 = true → exec (.ringEnable r v) s = .next s) ∧
        (v.getLsbD 0 = false → exec (.ringEnable r v) s = .next (s.onto
          ((s.chip.wr (Reg.RING_CFG r) (setBit (s.chip.rd (Reg.RING_CFG r)) 0 false)).setRing r { g with active := false })))) ∧
      (s.chip.ringOn r = false → ∀ b c : Chip, b = s.chip.wr (Reg.RING_CFG r) (clampReg s.chip (Reg.RING_CFG r) v.toNat) →
        c = (if b.inWindow r then b.wr (Reg.RING_BASE_HI r) 0 else b) →
        (v.getLsbD 0 = false → exec (.ringEnable r v) s = .next (s.onto c)) ∧
        (v.getLsbD 0 = true → c.ringFaults r = [] →
          exec (.ringEnable r v) s = .next (s.onto (c.setRing r { Ring.reset with active := true }))) ∧
        (v.getLsbD 0 = true → c.ringFaults r ≠ [] → ∃ k, k ∈ c.ringFaults r ∧ exec (.ringEnable r v) s = .next (s.onto
          (((c.drew.wr (Reg.RING_CFG r) (setBit (c.rd (Reg.RING_CFG r)) 0 false)).setRing r
            { g with rejected := true, active := false }).raise 4 0x0503 (it4 r ++ it4 k)))))) ∧
    (s.chip.takesWrite (Reg.RING_PROD r) = true →
      (s.chip.hostProduces r = true → backward g.prod v.toNat = false →
        exec (.ringProdWrite r v) s = .next (s.onto (s.chip.setRing r { g with
          prod := if (v.toNat + 2 ^ 32 - g.cons) % 2 ^ 32 ≤ s.chip.ringSize r - 1 then v.toNat
            else (g.cons + (s.chip.ringSize r - 1)) % 2 ^ 32 }))) ∧
      ((s.chip.hostProduces r = false ∨ backward g.prod v.toNat = true) → exec (.ringProdWrite r v) s = .next s)) ∧
    (s.chip.takesWrite (Reg.RING_CONS r) = true →
      (s.chip.hostProduces r = false → backward g.cons v.toNat = false → ∀ n,
        n = (if (v.toNat + 2 ^ 32 - g.cons) % 2 ^ 32 ≤ g.unread then v.toNat else g.prod) →
        exec (.ringConsWrite r v) s = .next (s.onto (s.chip.setRing r { g with cons := n, full := g.full && n == g.cons }))) ∧
      ((s.chip.hostProduces r = true ∨ backward g.cons v.toNat = true) → exec (.ringConsWrite r v) s = .next s)) ∧
    (s.chip.takesWrite (Reg.RING_FLUSH r) = true →
      (s.chip.hostProduces r = true → v.getLsbD 0 = true → exec (.ringFlushHost r v) s = .next (s.onto (s.chip.setRing r { g with
        prod := g.cons, stalled := false, cut := g.taken
        fences := (g.fences ++ (List.range (g.unread + 1)).map fun i => (g.cons + i) % s.chip.ringSize r).eraseDups }))) ∧
      (s.chip.hostProduces r = false → v.getLsbD 0 = true → exec (.ringFlushDevice r v) s =
        .next (s.onto (s.chip.setRing r { g with cons := g.prod, full := false }))) ∧
      ((s.chip.hostProduces r = false ∨ v.getLsbD 0 = false) → exec (.ringFlushHost r v) s = .next s) ∧
      ((s.chip.hostProduces r = true ∨ v.getLsbD 0 = false) → exec (.ringFlushDevice r v) s = .next s))

/-- Slots and entries of rings (R266, R270, R271, R396): octets written into a slot of the window stand there, merged with those
beside them, unless the slot holds a valid entry, or is fenced and they do not cover it: such a write is ignored and counted. An
entry of the right GEN below PROD is taken, once, a command ring's in its turn (R291), and a transmit job's fetches its octets from
host memory (R277); an entry of the wrong GEN stalls the ring and raises its event. The legacy pop is aborted while the endpoint or
a warm reset keeps BAR0 from it, answers 0 while its ring is empty, disabled or not named, and otherwise the octets that it enables
(R464) of the entry's code, type and sequence bits, moving CONS on. -/
def Obligations.RingEntriesAreWrittenTakenAndPopped : Prop :=
  (∀ (s : State) (k at_ : Nat) (octets : List Byte), k < 0x40000 → octets ≠ [] → at_ + octets.length ≤ 64 →
      s.chip.takesWrite (0x1000000 + (k * 64 + at_)) = true →
      natAt (s.chip.storeSlot k at_ octets).ringMem k =
        ofLE (putAt (leBytes 64 (natAt s.chip.ringMem k)) at_ octets) ∧
      (s.chip.eccLagoon.flips = [] → s.chip.storeSlot k at_ octets = { s.chip with
        ringMem := setNat s.chip.ringMem k (ofLE (putAt (leBytes 64 (natAt s.chip.ringMem k)) at_ octets)) }) ∧
      (s.chip.slotRing k = none →
        exec (.ringSlotWrite (k * 64 + at_) octets) s = .next (s.onto (s.chip.storeSlot k at_ octets))) ∧
      (∀ r i, s.chip.slotRing k = some (r, i) →
        ((s.chip.slotHeld r i k = true ∨ (s.chip.ring r).fences.contains i = true ∧ octets.length ≠ 64) →
          exec (.ringSlotWrite (k * 64 + at_) octets) s =
            .next (s.onto ((s.chip.inc (Reg.RING_DROP_CNT r)).setEvt (Reg.RING_EVT r) 4))) ∧
        (s.chip.slotHeld r i k = false → (s.chip.ring r).fences.contains i = false →
          exec (.ringSlotWrite (k * 64 + at_) octets) s = .next (s.onto (s.chip.storeSlot k at_ octets))) ∧
        (s.chip.slotHeld r i k = false → (s.chip.ring r).fences.contains i = true → octets.length = 64 →
          exec (.ringSlotWrite (k * 64 + at_) octets) s = .next (s.onto ((s.chip.setRing r { s.chip.ring r with
            fences := (s.chip.ring r).fences.filter (· != i) }).storeSlot k at_ octets))))) ∧
  (∀ (s : State) (r : Nat) (c : Chip), r < 256 → c = s.chip →
    (∀ e d : Chip, c.hostProduces r = true → c.frontEntry r (c.ringType r) ≠ none → (c.ring r).taken = false →
      d = c.noteEntry (if c.ringType r = 0 then 8 else 5) r →
      e = d.setRing r { d.ring r with taken := true, held := c.entryAt r, cut := false, stalled := false } →
      (c.ringType r = 2 → exec (.ringEntryTake r) s =
        .next (s.onto (e.emit (.hostRead (bits (c.entryAt r) 0 64) (d.jobLen (c.entryAt r)))))) ∧
      (c.ringType r = 0 → c.takesFrom (.ring r) = true → exec (.ringEntryTake r) s = .next (s.onto { e with lastRing := r }))) ∧
    ((c.hostProduces r = false ∨ c.frontEntry r (c.ringType r) = none ∨ (c.ring r).taken = true ∨
      c.ringType r = 0 ∧ c.takesFrom (.ring r) = false) → exec (.ringEntryTake r) s = .next s) ∧
    (c.hostProduces r = true → c.ringOn r = true → 0 < (c.ring r).unread → (c.ring r).taken = false → (c.ring r).stalled = false →
      c.frontEntry r (c.ringType r) = none → exec (.ringStall r) s = .next (s.onto
        (((c.setRing r { c.ring r with stalled := true }).setEvt (Reg.RING_EVT r) 2).raise 4 0x0504
          (it4 r ++ it4 (c.ring r).cons)))) ∧
    ((c.hostProduces r = false ∨ c.ringOn r = false ∨ (c.ring r).unread = 0 ∨ (c.ring r).taken = true ∨
      (c.ring r).stalled = true ∨ c.frontEntry r (c.ringType r) ≠ none) → exec (.ringStall r) s = .next s)) ∧
  (∀ (s : State) (be r : Nat), r = bits (s.chip.rd Reg.EVT_LEGACY_CFG) 0 8 →
    ((s.chip.barReady 0xF000 = false ∨ s.chip.power.warm = true) →
      exec (.evtLegacyPop be) s = .next (s.onto (s.chip.emit .completerAbort))) ∧
    (s.chip.barReady 0xF000 = true → s.chip.power.warm = false →
      (((s.chip.ring r).unread = 0 ∨ be % 16 = 0 ∨ bit (s.chip.rd Reg.EVT_LEGACY_CFG) 8 = false ∨ s.chip.isEventRing r = false ∨
        s.chip.inWindow r = false ∨ s.chip.domainOn 3 = false) →
          exec (.evtLegacyPop be) s = .next (s.onto (s.chip.emit (.legacyPop 0)))) ∧
      (be % 16 ≠ 0 → bit (s.chip.rd Reg.EVT_LEGACY_CFG) 8 = true → s.chip.isEventRing r = true → s.chip.inWindow r = true →
        s.chip.domainOn 3 = true → 0 < (s.chip.ring r).unread → ∀ e c, e = s.chip.entryAt r → c = s.chip.noteEntry 5 r →
        exec (.evtLegacyPop be) s = .next (s.onto ((c.setRing r { c.ring r with
          cons := ((s.chip.ring r).cons + 1) % 2 ^ 32, full := false }).emit
            (.legacyPop (BitVec.ofNat 32 ((bits e 0 24 + bits e 32 7 * 2 ^ 24 + 2 ^ 31) &&& enableMask be))))))))

/-- A write to a ring's indices never leaves more entries between CONS and PROD than there were, or than the ring's size less one,
and touches no other ring (R269, R271, R272). Indices are 32 bits wide, and stay so. -/
def Obligations.RingNeverHoldsMoreThanItsSize : Prop :=
  ∀ (s t : State) (r : Nat) (v : Word), (s.chip.ring r).cons < 2 ^ 32 → (s.chip.ring r).prod < 2 ^ 32 →
    s.chip.takesWrite (Reg.RING_PROD r) = true → s.chip.takesWrite (Reg.RING_CONS r) = true →
    s.chip.takesWrite (Reg.RING_FLUSH r) = true →
    (exec (.ringProdWrite r v) s = .next t ∨ exec (.ringConsWrite r v) s = .next t ∨
      exec (.ringFlushHost r v) s = .next t ∨ exec (.ringFlushDevice r v) s = .next t) →
    (t.chip.ring r).unread ≤ max (s.chip.ring r).unread (s.chip.ringSize r - 1) ∧
    (t.chip.ring r).cons < 2 ^ 32 ∧ (t.chip.ring r).prod < 2 ^ 32 ∧ ∀ q, q ≠ r → t.chip.ring q = s.chip.ring q

/-- A write of 1 to a doorbell of an idle mailbox makes it busy, and one of 0 does nothing; one to a busy mailbox fails, and is logged
with its cause (R263, R279). Unmasking a vector sends the message that its pending bit holds (R275). A mailbox response (R279,
R297): the sixteen words of MBm_RESP spell OPCODE, TAG, STATUS, DETAIL, CSN and RESULT, padded with zeros; BUSY clears, DONE sets
and SEQ counts. A response on a command ring has the entry of its command consumed (R270), unless a flush has discarded it meanwhile (R271). -/
def Obligations.MailboxesAndVectorsAct : Prop :=
  ((∀ (s : State) (m : Nat) (v : Word), m < 8 → s.chip.takesWrite (Reg.MB_DOORBELL m) = true →
      ((s.chip.mbox m).busy = false → v.getLsbD 0 = true →
        exec (.mbmDoorbell m v) s = .next (s.onto (s.chip.setMbox m { s.chip.mbox m with busy := true, done := false }))) ∧
      ((s.chip.mbox m).busy = false → v.getLsbD 0 = false → exec (.mbmDoorbell m v) s = .next s) ∧
      ((s.chip.mbox m).busy = true → exec (.mbmDoorbell m v) s =
        .next (s.onto (s.chip.writeFailed false (Reg.MB_DOORBELL m) hostReq (s.chip.rd Reg.HB_EPOCH) 3 0 4)))) ∧
    (∀ (s : State) (k : Nat), k < 256 → s.chip.takesWrite (Reg.MSIX_CTRL k) = true →
      (k ∉ s.chip.msixPend → exec (.msixUnmask k) s = .next (s.onto (s.chip.wr (Reg.MSIX_CTRL k) 0))) ∧
      (k ∈ s.chip.msixPend → exec (.msixUnmask k) s = .next (s.onto (Chip.emit
        { s.chip.wr (Reg.MSIX_CTRL k) 0 with msixPend := s.chip.msixPend.filter (· != k) }
        (.msix k (s.chip.rd (Reg.MSIX_ADDR_LO k) + s.chip.rd (Reg.MSIX_ADDR_HI k) * 2 ^ 32)
          (s.chip.rd (Reg.MSIX_DATA k)))))))) ∧
  (∀ (c : Chip) (m op tag : Nat) (a : Answer), m < 8 → op < 65536 → tag < 65536 → a.status < 65536 →
      a.detail < 65536 → a.csn < 2 ^ 64 →
      (c.respond (.mbox m) op tag a).rd (Reg.MB_RESP m 0) = op + tag * 65536 ∧
      (c.respond (.mbox m) op tag a).rd (Reg.MB_RESP m 1) = a.status + a.detail * 65536 ∧
      (c.respond (.mbox m) op tag a).rd (Reg.MB_RESP m 2) = a.csn % 2 ^ 32 ∧
      (c.respond (.mbox m) op tag a).rd (Reg.MB_RESP m 3) = a.csn / 2 ^ 32 ∧
      (∀ k, k < 12 → (c.respond (.mbox m) op tag a).rd (Reg.MB_RESP m (4 + k)) = ofLE (padTo 4 (a.result.drop (4 * k)))) ∧
      (c.respond (.mbox m) op tag a).mbox m = ⟨false, true, ((c.mbox m).seq + 1) % 65536⟩ ∧
      ∀ j, j ≠ m → (c.respond (.mbox m) op tag a).mbox j = c.mbox j) ∧
  (∀ (c : Chip) (r op tag : Nat) (a : Answer), c.ringType r = 0 → (c.ring r).taken = true → 0 < (c.ring r).unread →
    (c.respond (.ring r) op tag a).ring r = { c.ring r with
      cons := if (c.ring r).cut then (c.ring r).cons else ((c.ring r).cons + 1) % 2 ^ 32, taken := false, cut := false, stalled := false })

/-- What the consumer's writes do to a telemetry FIFO (R281, R282, R284): ADVANCE moves RD by n, down to a multiple of 8 and no
further than DRAIN_LEN; MARK and REWIND copy RD and MARK; RELEASE below DRAIN_LEN raises MARK to RD, and at DRAIN_LEN empties the
bank, whereupon a filling bank that is due closes; CLOSE asks for the closure of a filling bank that holds something, which comes
at once if the other is empty and no record is under way; FLUSH empties both banks and sends the rest of a record under way to
the discard sink, counted. A write of 0 to any but ADVANCE does nothing. A bank closed is drained from its start. -/
def Obligations.TelemetryConsumerWritesAct : Prop :=
  (∀ (c : Chip) (f : Nat), f < 8 → (c.closeBank f).fifo f = { c.fifo f with
      filling := [], draining := (c.fifo f).filling, fillBank := 1 - (c.fifo f).fillBank, rd := 0, mark := 0, closeReq := false } ∧
    bit ((c.closeBank f).rd (Reg.TF_EVT f)) 1 = true ∧ (c.closeBank f).csn = c.csn) ∧
  (∀ (s : State) (f : Nat) (v : Word) (x : Fifo), f < 8 → x = s.chip.fifo f →
    (s.chip.takesWrite (Reg.TF_ADVANCE f) = true → exec (.tffAdvance f v) s = .next (s.onto (s.chip.setFifo f { x with
      rd := min x.draining.length ((x.rd + v.toNat % 2 ^ 15) / 8 * 8) }))) ∧
    (s.chip.takesWrite (Reg.TF_MARK f) = true →
      (v.getLsbD 0 = true → exec (.tffMark f v) s = .next (s.onto (s.chip.setFifo f { x with mark := x.rd }))) ∧
      (v.getLsbD 0 = false → exec (.tffMark f v) s = .next s)) ∧
    (s.chip.takesWrite (Reg.TF_REWIND f) = true →
      (v.getLsbD 0 = true → exec (.tffRewind f v) s = .next (s.onto (s.chip.setFifo f { x with rd := x.mark }))) ∧
      (v.getLsbD 0 = false → exec (.tffRewind f v) s = .next s)) ∧
    (s.chip.takesWrite (Reg.TF_RELEASE f) = true →
      (v.getLsbD 0 = true → x.rd ≠ x.draining.length → exec (.tffRelease f v) s =
        .next (s.onto (s.chip.setFifo f { x with mark := max x.mark x.rd }))) ∧
      (v.getLsbD 0 = true → x.rd = x.draining.length → ∀ c : Chip,
        c = s.chip.setFifo f { x with draining := [], rd := 0, mark := 0 } → exec (.tffRelease f v) s =
          .next (s.onto (if c.closeDue f then c.closeBank f else c))) ∧
      (v.getLsbD 0 = false → exec (.tffRelease f v) s = .next s)) ∧
    (s.chip.takesWrite (Reg.TF_CLOSE f) = true →
      (v.getLsbD 0 = true → x.filling ≠ [] → ∀ c : Chip, c = s.chip.setFifo f { x with closeReq := true } →
        exec (.tffClose f v) s = .next (s.onto (if x.draining = [] ∧ x.begun = none then c.closeBank f else c))) ∧
      ((v.getLsbD 0 = false ∨ x.filling = []) → exec (.tffClose f v) s = .next s)) ∧
    (s.chip.takesWrite (Reg.TF_FLUSH f) = true →
      (v.getLsbD 0 = true → x.begun = none → exec (.tffFlush f v) s = .next (s.onto (s.chip.setFifo f { x with
        filling := [], draining := [], rd := 0, mark := 0, closeReq := false }))) ∧
      (v.getLsbD 0 = true → x.begun ≠ none → exec (.tffFlush f v) s =
        .next (s.onto ((s.chip.inc (Reg.TF_SINK_CNT f)).setFifo f { x with
          filling := [], draining := [], rd := 0, mark := 0, closeReq := false, begun := none, sinking := true }))) ∧
      (v.getLsbD 0 = false → exec (.tffFlush f v) s = .next s)))

/-- A producer's record (R280, R281, R283, R284): counted for its producer whatever becomes of it; its header spells LEN, a multiple
of 8, TYPE and SEQ; it stands whole at the end of its FIFO's filling bank where it fits, in a bank just opened where the other is
empty, and is lost and counted otherwise; without a FIFO, or with the host bridge or Lagoon off, it goes nowhere. A record begun
is in no bank until it ends; the end of one that a flush cut leaves the sink. No bank ever holds more than 16 KiB. A bank whose
first record has waited AGE_MS closes once the other is empty and no record is under way. -/
def Obligations.TelemetryRecordsFillBanks : Prop :=
  (∀ (s : State) (producer f seq : Nat) (body rec_ : List Byte) (c : Chip) (x : Fifo), 1 ≤ producer → producer ≤ 3 →
      body.length ≤ 16376 → seq = (s.chip.produced.getD (producer - 1) 0 + 1) % 2 ^ 32 →
      c = { s.chip with produced := s.chip.produced.set (producer - 1) seq } → rec_ = telemRecord producer seq body →
      (body.length % 8 = 0 → rec_ = leBytes 2 (8 + body.length) ++ [BitVec.ofNat 8 producer, 0] ++ leBytes 4 seq ++ body) ∧
      ((s.chip.fifoOf producer = none ∨ s.chip.domainOn 2 = false ∨ s.chip.domainOn 3 = false) →
        exec (.telemRecordProduce producer (.whole body)) s = .next (s.onto c)) ∧
      (s.chip.domainOn 2 = true → s.chip.domainOn 3 = true → s.chip.fifoOf producer = some f → x = s.chip.fifo f →
        (x.filling.length + ((x.begun.getD []).length + rec_.length) ≤ 16384 →
          ((c.putRecord f rec_).fifo f = { x with
            filling := x.filling ++ rec_, firstAt := if x.filling = [] then s.chip.cycle else x.firstAt }) ∧
          exec (.telemRecordProduce producer (.whole body)) s = .next (s.onto ((c.putRecord f rec_).tryClose f)) ∧
          (x.begun = none → x.sinking = false → exec (.telemRecordProduce producer (.begins body)) s =
            .next (s.onto (c.setFifo f { x with begun := some rec_ })))) ∧
        (16384 < x.filling.length + ((x.begun.getD []).length + rec_.length) →
          (x.draining = [] → x.begun = none → exec (.telemRecordProduce producer (.whole body)) s =
            .next (s.onto (((c.closeBank f).putRecord f rec_).tryClose f))) ∧
          ((x.draining ≠ [] ∨ x.begun ≠ none) → exec (.telemRecordProduce producer (.whole body)) s =
            .next (s.onto (c.loseRecord f))) ∧
          (x.draining = [] → x.begun = none → x.sinking = false → exec (.telemRecordProduce producer (.begins body)) s =
            .next (s.onto ((c.closeBank f).setFifo f { (c.closeBank f).fifo f with begun := some rec_ }))) ∧
          (x.draining ≠ [] → x.begun = none → x.sinking = false → exec (.telemRecordProduce producer (.begins body)) s =
            .next (s.onto (c.loseRecord f)))) ∧
        ((x.begun ≠ none ∨ x.sinking = true) → exec (.telemRecordProduce producer (.begins body)) s = .next s) ∧
        (∀ r, x.begun = some r → exec (.telemRecordProduce producer .ends) s =
          .next (s.onto (((s.chip.setFifo f { x with begun := none }).putRecord f r).tryClose f))) ∧
        (x.begun = none → exec (.telemRecordProduce producer .ends) s =
          .next (s.onto (s.chip.setFifo f { x with sinking := false })))) ∧
      (s.chip.fifoOf producer = none → exec (.telemRecordProduce producer (.begins body)) s = .next (s.onto c) ∧
        exec (.telemRecordProduce producer .ends) s = .next s)) ∧
  (∀ (s t : State) (producer : Nat) (part : RecordPart),
      (∀ f, (s.chip.fifo f).filling.length + ((s.chip.fifo f).begun.getD []).length ≤ 16384 ∧
        (s.chip.fifo f).draining.length ≤ 16384) →
      exec (.telemRecordProduce producer part) s = .next t →
      ∀ f, (t.chip.fifo f).filling.length + ((t.chip.fifo f).begun.getD []).length ≤ 16384 ∧
        (t.chip.fifo f).draining.length ≤ 16384) ∧
  (∀ (s : State) (f : Nat) (x : Fifo) (c : Chip), f < 8 → x = s.chip.fifo f →
      c = s.chip.runToCycle (x.firstAt + 800000 * bits (s.chip.lv (Reg.TF_CFG f)) 8 8) →
      (x.filling = [] → exec (.telemAgeClose f) s = .next s) ∧
      (x.filling ≠ [] → exec (.telemAgeClose f) s =
        .next (s.onto (if x.draining = [] ∧ x.begun = none then c.closeBank f else c))))

/-! ### LPDDR5X through BAR2 -/

/-- A host write through BAR2 (R34, R258, R263, R302): while the endpoint serves BAR2 and PD_DRAM is on, octets that are mapped and
in no locked staging record are stored and change nothing else; those of a locked staging record store nothing, are logged with
cause 2 and raise TBL_WRITE_LOCKED; those of addresses that map nothing are logged with cause 4, and any while PD_DRAM is off with
cause 1. A host read that BAR2 maps answers the octets, poisoned where a word has a double-bit error, and any other is aborted
(R260, R394), but that one of the peer aperture is forwarded while the peer can be reached (R258); nothing happens before the endpoint
serves BAR2. -/
def Obligations.HostAccessesOfDramAreServed : Prop :=
  (∀ (s : State) (off a : Nat) (octets : List Byte) (req : Nat), off + octets.length ≤ Config.bar2Octets →
      a = s.chip.spaceOf off →
      (s.chip.bar2Ready = false → exec (.hostBar2Write off octets req) s = .next s) ∧
      (s.chip.bar2Ready = true → a + octets.length ≤ aperture → octets ≠ [] →
        (s.chip.domainOn 4 = true → (∀ i, i < octets.length → s.chip.mapsTo (a + i) = true ∧ s.chip.lockAt (a + i) = none) →
          exec (.hostBar2Write off octets req) s = .next (s.ontoBoth (s.chip.storeWords s.dram 5 (withAddresses a octets))) ∧
          (s.chip.eccDram.flips = [] → ∃ t, exec (.hostBar2Write off octets req) s = .next t ∧ t.chip = s.chip ∧
            t.pending = s.pending ∧ (∀ i (h : i < octets.length), Memory.read8 t.dram (a + i) = octets[i]) ∧
            ∀ b, b < a ∨ a + octets.length ≤ b → Memory.read8 t.dram b = Memory.read8 s.dram b)) ∧
        (∀ k, s.chip.domainOn 4 = true → (∀ i, i < octets.length → s.chip.mapsTo (a + i) = true ∧ s.chip.lockAt (a + i) ≠ none) →
          s.chip.lockAt a = some k → exec (.hostBar2Write off octets req) s =
            .next (s.onto ((s.chip.writeFailed true off req (s.chip.rd Reg.HB_EPOCH) 2 0 octets.length).writeLocked k))) ∧
        (s.chip.domainOn 4 = false → exec (.hostBar2Write off octets req) s =
          .next (s.onto (s.chip.writeFailed true off req (s.chip.rd Reg.HB_EPOCH) 1 0 octets.length))) ∧
        (s.chip.domainOn 4 = true → (∀ i, i < octets.length → s.chip.mapsTo (a + i) = false) →
          exec (.hostBar2Write off octets req) s =
            .next (s.onto (s.chip.writeFailed true off req (s.chip.rd Reg.HB_EPOCH) 4 0 octets.length))))) ∧
  (∀ (s : State) (off len a : Nat), off + len ≤ Config.bar2Octets → a = s.chip.spaceOf off →
    (s.chip.bar2Ready = false → exec (.hostBar2Read off len) s = .next s) ∧
    (s.chip.bar2Ready = true → a < aperture →
      (s.chip.readable a len = true →
        exec (.hostBar2Read off len) s = .next (s.onto ((s.chip.noteRead 0 5 a len).emit
          (.readData (s.chip.fetch s.dram a len) (s.chip.poisoned 0 a len)))) ∧
        (s.chip.eccDram.flips = [] → exec (.hostBar2Read off len) s =
          .next (s.onto (s.chip.emit (.readData (Memory.read s.dram a len) false))))) ∧
      (s.chip.readable a len = false → exec (.hostBar2Read off len) s = .next (s.onto (s.chip.emit .completerAbort)))) ∧
    (s.chip.bar2Ready = true → aperture ≤ a →
      (s.chip.peerUp = false → exec (.hostBar2Read off len) s = .next (s.onto (s.chip.emit .completerAbort))) ∧
      (s.chip.peerUp = true → exec (.hostBar2Read off len) s =
        .next (s.onto (s.chip.emit (.forwardRead (s.chip.peerOffset a) len))))))

/-- AtomicOps on LPDDR5X (R257, R261, R396): FetchAdd adds modulo the width, Swap replaces, CAS replaces where the old value equals
the comparand; the completion carries what stood there before, poisoned where a word of the target had a double-bit error; the
line is read as any read is. CAS of 128 bits is supported, FetchAdd and Swap of 128 bits, and any AtomicOp at BAR0 (R260), are
answered Unsupported Request. One that maps nothing readable or meets a locked staging record is aborted, and one that is not
naturally aligned has no effect: both are the model's reading (log entry 27). One at the peer aperture is forwarded while the peer can
be reached, and aborted while not (R262). -/
def Obligations.AtomicOpsReadModifyWrite : Prop :=
  (∀ (s : State) (op : AtomicOp) (off w operand compare a : Nat), (w = 32 ∨ w = 64 ∨ (w = 128 ∧ op = .cas)) →
    off + w / 8 ≤ Config.bar2Octets → s.chip.bar2Ready = true → a = s.chip.spaceOf off → a < aperture →
    (a % (w / 8) = 0 → s.chip.readable a (w / 8) = true → s.chip.lockAt a = none →
      ∀ old new : Nat, old = ofLE (s.chip.fetch s.dram a (w / 8)) → new = (match op with
        | .fetchAdd => (old + operand) % 2 ^ w
        | .swap => operand % 2 ^ w
        | .cas => if old = compare % 2 ^ w then operand % 2 ^ w else old) →
      (∀ x, x = (s.chip.noteRead 0 5 (a / 64 * 64) 64).writeTarget s.dram a (leBytes (w / 8) new) →
        exec (.hostAtomicOp op (.bar2 off) w operand compare) s = .next (s.ontoBoth
          (x.1, x.2.emit (.readData (s.chip.fetch s.dram a (w / 8)) (s.chip.poisoned 0 a (w / 8)))))) ∧
      (s.chip.eccDram.flips = [] → exec (.hostAtomicOp op (.bar2 off) w operand compare) s = .next (s.ontoBoth
        (Memory.write s.dram a (leBytes (w / 8) new),
          s.chip.emit (.readData (Memory.read s.dram a (w / 8)) false))))) ∧
    (a % (w / 8) ≠ 0 → exec (.hostAtomicOp op (.bar2 off) w operand compare) s = .next s) ∧
    (a % (w / 8) = 0 → (s.chip.readable a (w / 8) = false ∨ s.chip.lockAt a ≠ none) →
      exec (.hostAtomicOp op (.bar2 off) w operand compare) s = .next (s.onto (s.chip.emit .completerAbort)))) ∧
  (∀ (s : State) (op : AtomicOp) (off operand compare : Nat), op ≠ .cas → off + 16 ≤ Config.bar2Octets →
    s.chip.bar2Ready = true → s.chip.spaceOf off < aperture →
    exec (.hostAtomicOp op (.bar2 off) 128 operand compare) s = .next (s.onto (s.chip.emit .unsupported))) ∧
  (∀ (s : State) (op : AtomicOp) (off w operand compare : Nat), off + w / 8 ≤ 0x2000000 → s.chip.domainOn 2 = true →
    s.chip.power.perst = false →
    exec (.hostAtomicOp op (.bar0 off) w operand compare) s = .next (s.onto (s.chip.emit .unsupported))) ∧
  (∀ (s : State) (op : AtomicOp) (off w operand compare : Nat), off + w / 8 ≤ Config.bar2Octets → s.chip.bar2Ready = true →
    aperture ≤ s.chip.spaceOf off →
    (s.chip.peerUp = true → exec (.hostAtomicOp op (.bar2 off) w operand compare) s =
      .next (s.onto (s.chip.emit (.forwardAtomic (s.chip.peerOffset (s.chip.spaceOf off)) op w operand compare)))) ∧
    (s.chip.peerUp = false → exec (.hostAtomicOp op (.bar2 off) w operand compare) s = .next (s.onto (s.chip.emit .completerAbort))))

/-- Accesses of the peer aperture and of the peer (R258, R262, R263, R265): a write is forwarded while the peer can be reached
and logged with cause 6 while not; what the peer answers completes a read or an AtomicOp, with its poison; one that the peer does
not answer is aborted, sets PEER_TIMEOUT and raises its event; a failure that the peer reports is logged with cause 5 and its own.
The peer's read, write and AtomicOp of this isle's memory are served as the host's are, and the failures of its writes reported
to it. -/
def Obligations.PeerAccessesAreServed : Prop :=
  (∀ (s : State) (off : Nat) (octets : List Byte) (req : Nat), off + octets.length ≤ Config.bar2Octets → s.chip.bar2Ready = true →
    aperture ≤ s.chip.spaceOf off → ∀ i, i ∈ [Instr.peerWriteForward off octets req, .hostBar2Write off octets req] →
    (s.chip.peerUp = true → exec i s = .next (s.onto (s.chip.emit (.forward (s.chip.peerOffset (s.chip.spaceOf off)) octets)))) ∧
    (s.chip.peerUp = false → exec i s =
      .next (s.onto (s.chip.writeFailed true off req (s.chip.rd Reg.HB_EPOCH) 6 0 octets.length)))) ∧
  (∀ (s : State) (off req : Nat) (atomic : Bool), off ≤ Config.bar2Octets → s.chip.bar2Ready = true → aperture ≤ s.chip.spaceOf off →
    (∀ bs poison, s.chip.peerUp = true → exec (.peerAtomicOp off req atomic (some (bs, poison))) s =
      .next (s.onto (s.chip.emit (.readData bs poison)))) ∧
    (∀ x, s.chip.peerUp = false → exec (.peerAtomicOp off req atomic x) s = .next (s.onto (s.chip.emit .completerAbort))) ∧
    exec (.peerAtomicOp off req atomic none) s = .next (s.onto (s.chip.emit .completerAbort)) ∧
    exec (.hostPeerTimeout off req atomic) s = .next (s.onto (((s.chip.emit .completerAbort).setEvt Reg.HB_EVT 2).raise 4 0x0502
      (it8 (s.chip.spaceOf off + 2 ^ 63) ++ it4 req ++ it4 atomic.toNat)))) ∧
  (∀ (s : State) (off req epoch cause len : Nat),
    (s.chip.domainOn 2 = true → exec (.peerWriteFailureMsg off req epoch cause len) s =
      .next (s.onto (s.chip.writeFailed true off req epoch 5 cause len))) ∧
    (s.chip.domainOn 2 = false → exec (.peerWriteFailureMsg off req epoch cause len) s = .next s)) ∧
  (∀ (s : State) (off len : Nat), off < aperture →
    (∀ x, s.chip.peerUp = false → exec (.forwardedAccessServe off x len) s = .next s) ∧
    (s.chip.peerUp = true →
      (s.chip.readable off len = true → exec (.forwardedAccessServe off .read len) s = .next (s.onto
        ((s.chip.noteRead 0 6 off len).emit (.readData (s.chip.fetch s.dram off len) (s.chip.poisoned 0 off len))))) ∧
      (s.chip.readable off len = false →
        exec (.forwardedAccessServe off .read len) s = .next (s.onto (s.chip.emit .completerAbort))) ∧
      (∀ octets, octets ≠ [] → s.chip.domainOn 4 = true →
        (∀ i, i < octets.length → s.chip.mapsTo (off + i) = true ∧ s.chip.lockAt (off + i) = none) →
        exec (.forwardedAccessServe off (.write octets) len) s =
          .next (s.ontoBoth (s.chip.storeWords s.dram 6 (withAddresses off octets)))) ∧
      (∀ octets, octets ≠ [] → s.chip.domainOn 4 = false → exec (.forwardedAccessServe off (.write octets) len) s =
        .next (s.onto (s.chip.emit (.peerFailure off 1)))) ∧
      (∀ op w operand compare, exec (.forwardedAccessServe off (.atomic op w operand compare) len) s =
        .next (s.ontoBoth (s.chip.atomic s.dram 6 op off w operand compare)))))

/-- A failed posted write (R263, R264): counted; latched with its address, requester, cause and epoch while the latch is armed, and
not while it holds another. A single-bit error of a stored word is counted and put right by the read that finds it; a double-bit error stays, is counted
and poisons the read (R394, R395). Its event, where it goes to a ring of the window, is stored with a new code, so that of Lagoon
the words outside the window are spoken of. -/
def Obligations.FailuresAndErrorsAreCountedAndLatched : Prop :=
  (∀ (c : Chip) (bar2 : Bool) (off req epoch cause peerCause len : Nat), req < 65536 → cause < 16 →
     peerCause < 16 → epoch < 2 ^ 32 → off < 2 ^ 35 →
     (c.writeFailed bar2 off req epoch cause peerCause len).rd Reg.HB_WFAIL_CNT =
       (if c.rd Reg.HB_WFAIL_CNT = 0xFFFFFFFF then 0xFFFFFFFF else c.rd Reg.HB_WFAIL_CNT + 1) ∧
     bit ((c.writeFailed bar2 off req epoch cause peerCause len).rd Reg.HB_EVT) 0 = true ∧
     (bit (c.rd Reg.HB_WFAIL_ADDR_HI) 31 = true →
       (c.writeFailed bar2 off req epoch cause peerCause len).rd Reg.HB_WFAIL_ADDR_HI = c.rd Reg.HB_WFAIL_ADDR_HI ∧
       (c.writeFailed bar2 off req epoch cause peerCause len).rd Reg.HB_WFAIL_REQ = c.rd Reg.HB_WFAIL_REQ) ∧
     (bit (c.rd Reg.HB_WFAIL_ADDR_HI) 31 = false →
       (c.writeFailed bar2 off req epoch cause peerCause len).rd Reg.HB_WFAIL_ADDR_LO = off % 2 ^ 32 ∧
       (c.writeFailed bar2 off req epoch cause peerCause len).rd Reg.HB_WFAIL_ADDR_HI = off / 2 ^ 32 + bar2.toNat * 2 ^ 30 + 2 ^ 31 ∧
       (c.writeFailed bar2 off req epoch cause peerCause len).rd Reg.HB_WFAIL_REQ = req + cause * 65536 + peerCause * 2 ^ 20 ∧
       (c.writeFailed bar2 off req epoch cause peerCause len).rd Reg.HB_WFAIL_EPOCH = epoch)) ∧
  (∀ (c : Chip) (m cls w : Nat), m < 2 → (c.ecc m).at w ≠ 0 →
     (doubleBit ((c.ecc m).at w) = false →
       ((c.noteWord m cls w).ecc m).at w = 0 ∧
       (c.noteWord m cls w).rd (Reg.ECC_CE_CNT m) =
         (if c.rd (Reg.ECC_CE_CNT m) = 0xFFFFFFFF then 0xFFFFFFFF else c.rd (Reg.ECC_CE_CNT m) + 1)) ∧
     (doubleBit ((c.ecc m).at w) = true →
       (m = 0 ∨ w < lagoonRings → ((c.noteWord m cls w).ecc m).at w = (c.ecc m).at w) ∧ bit ((c.noteWord m cls w).rd (Reg.ECC_EVT m)) 0 = true ∧
       (c.noteWord m cls w).rd (Reg.ECC_UE_CNT m) =
         (if c.rd (Reg.ECC_UE_CNT m) = 0xFFFFFFFF then 0xFFFFFFFF else c.rd (Reg.ECC_UE_CNT m) + 1) ∧
       (∀ a n, a ≤ w → w + 8 ≤ a + n → c.poisoned m a n = true)) ∧
     ∀ x, x ≠ w → (m = 0 ∨ x < lagoonRings ∨ doubleBit ((c.ecc m).at w) = false) → ((c.noteWord m cls w).ecc m).at x = (c.ecc m).at x)

/-! ### Check units -/

/-- The four algorithms give their check values on the octets of "123456789": CRC-32C, CRC-32, CRC-64/ECMA-182 and CRC-16/CCITT (R389). The
check units' registers (R389, R390): START loads the algorithm's initial value and feeds the fold that the context is
set to, FINISH takes the final exclusive-or, compares where EXPECT is in use, and reports what differs; one write may do both, in
this order, and one of neither does nothing; a data write feeds the enabled octets, lowest first, and a RUN write loads a half.
What START does to DONE, MATCH and COLLIDE is the model's choice (log entry 34). A context that runs a command ignores the host
and sets COLLIDE (R391). A data write that enables no octet has no effect (R463). -/
def Obligations.CheckUnitsFollowTheirAlgorithm : Prop :=
  (∀ l : List Byte, l = [0x31, 0x32, 0x33, 0x34, 0x35, 0x36, 0x37, 0x38, 0x39] →
     algMask 0 (algFeed 0 (algInit 0) l ^^^ algFinal 0) = 0xE3069283 ∧
     algMask 1 (algFeed 1 (algInit 1) l ^^^ algFinal 1) = 0xCBF43926 ∧
     algMask 2 (algFeed 2 (algInit 2) l ^^^ algFinal 2) = 0x6C40DF5F0B497347 ∧
     algMask 3 (algFeed 3 (algInit 3) l ^^^ algFinal 3) = 0x29B1) ∧
  (∀ (s : State) (x alg cfg : Nat) (v : Word) (u : CheckUnit), x < 16 → u = s.chip.check x → alg = s.chip.algOf x →
     cfg = s.chip.rd (Reg.CK_CFG x) →
     (u.busy = none →
       (s.chip.takesWrite (Reg.CK_CTRL x) = true → ∀ i, i ∈ [Instr.ckxStart x v, .ckxFinish x v] →
         (∀ fold, fold = (if bit cfg 2 then leBytes 4 (s.chip.rd (Reg.CK_FOLD_LO x)) ++
             (if bit cfg 3 then [] else leBytes 4 (s.chip.rd (Reg.CK_FOLD_HI x))) else []) →
           v.getLsbD 0 = true → v.getLsbD 1 = false → exec i s = .next (s.onto (s.chip.setCheck x { u with
             run := algFeed alg (algInit alg) fold, count := fold.length, done := false, isEqual := false, collide := false }))) ∧
         (∀ result expect same, result = algMask alg (u.run ^^^ algFinal alg) →
           expect = algMask alg (s.chip.rd (Reg.CK_EXPECT_LO x) + s.chip.rd (Reg.CK_EXPECT_HI x) * 2 ^ 32) →
           same = (bit cfg 4 && result == expect) → v.getLsbD 0 = false → v.getLsbD 1 = true →
           ∀ c : Chip, c = s.chip.setCheck x { u with done := true, result := result, isEqual := same } →
           ((bit cfg 4 = false ∨ same = true) → exec i s = .next (s.onto c)) ∧
           (bit cfg 4 = true → same = false → bit cfg 5 = false → exec i s = .next (s.onto (c.setEvt (Reg.CK_EVT x) 1))) ∧
           (bit cfg 4 = true → same = false → bit cfg 5 = true → exec i s = .next (s.onto
             ((c.setEvt (Reg.CK_EVT x) 1).raise 6 0x0702
               (it4 x ++ it4 (result % 2 ^ 32) ++ it4 (expect % 2 ^ 32)))))) ∧
         (v.getLsbD 0 = true → v.getLsbD 1 = true → exec i s = .next (s.onto ((s.chip.checkStart x).checkFinish x))) ∧
         (v.getLsbD 0 = false → v.getLsbD 1 = false → exec i s = .next s)) ∧
       (∀ (hi : Bool) (be : Nat), 0 < be → s.chip.takesWrite (Reg.CK_DATA x hi.toNat) = true →
         exec (.ckxDataWrite x hi v be) s = .next (s.onto (s.chip.setCheck x { u with
           run := algFeed alg u.run (enabledOctets v.toNat be)
           count := (u.count + (enabledOctets v.toNat be).length) % 2 ^ 32 }))) ∧
       (s.chip.takesWrite (Reg.CK_RUN_LO x) = true → exec (.ckxRunWrite x false v) s =
         .next (s.onto (s.chip.setCheck x { u with run := algMask alg (setBits u.run 0 32 v.toNat) }))) ∧
       (s.chip.takesWrite (Reg.CK_RUN_HI x) = true → exec (.ckxRunWrite x true v) s =
         .next (s.onto (s.chip.setCheck x { u with run := algMask alg (setBits u.run 32 32 v.toNat) })))) ∧
     (∀ hi, exec (.ckxDataWrite x hi v 0) s = .next s) ∧
     (u.busy ≠ none → ∀ c : Chip, c = (s.chip.setCheck x { u with collide := true }).setEvt (Reg.CK_EVT x) 2 →
       (s.chip.takesWrite (Reg.CK_CTRL x) = true →
         exec (.ckxStart x v) s = .next (s.onto c) ∧ exec (.ckxFinish x v) s = .next (s.onto c)) ∧
       (∀ (hi : Bool) (be : Nat), 0 < be → s.chip.takesWrite (Reg.CK_DATA x hi.toNat) = true →
         exec (.ckxDataWrite x hi v be) s = .next (s.onto c)) ∧
       (s.chip.takesWrite (Reg.CK_RUN_LO x) = true → exec (.ckxRunWrite x false v) s = .next (s.onto c)) ∧
       (s.chip.takesWrite (Reg.CK_RUN_HI x) = true → exec (.ckxRunWrite x true v) s = .next (s.onto c))))

/-- DIAG_CHECK_RUN (R317, R391, R457): of an idle context, it starts the context, with the address in its fold where FOLD_KIND is 0, and keeps it until the range has been read; of a busy one it is RESOURCE_DENIED, detail 13, and a conflict counted.
The read done, the range is fed, FINISH compares, and the command is answered with the running value and MATCH, DATA_CORRUPT where
a word was poisoned. Octets that the part keeps for itself feed a free value (log entry 34). -/
def Obligations.CheckRunsReadTheirRange : Prop :=
  (∀ (s : State) (h : CmdHdr) (p q x addr : Nat), s.chip.takes h false = true → q = payloadOf h p → x = pl q 0 0 4 →
    addr = pl q 8 0 64 →
    ((s.chip.check x).busy = none → ∀ c d : Chip,
      c = (if bit (s.chip.rd (Reg.CK_CFG x)) 3 then s.chip
        else (s.chip.wr (Reg.CK_FOLD_LO x) (addr % 2 ^ 32)).wr (Reg.CK_FOLD_HI x) (addr / 2 ^ 32)) →
      d = c.checkStart x →
      exec (.diagCheckRun h p) s = .next (s.onto (d.setCheck x { d.check x with
        busy := some (some h.chan, h.tag, pl q 0 4 1, addr, pl q 0x10 0 32) }))) ∧
    ((s.chip.check x).busy ≠ none → exec (.diagCheckRun h p) s = .next (s.onto
      (((s.chip.inc Reg.CONFLICT_CNT).wr Reg.CONFLICT_LAST (8 + 2 ^ 31)).decline h 0x0B03 (denied 13))))) ∧
  (∀ (s : State) (x mem addr len tag : Nat) (ch : Option Chan), x < 16 →
    ((s.chip.check x).busy = none → exec (.checkRunFinish x) s = .next s) ∧
    ((s.chip.check x).busy = some (ch, tag, mem, addr, len) →
      (∀ c : Chip, c = (s.chip.feedRange s.dram x mem addr len).checkFinish x → exec (.checkRunFinish x) s = .next (s.onto
        ((c.setCheck x { c.check x with busy := none }).respondTo ch 0x0B03 tag
          ⟨if s.chip.poisoned mem addr len then 4 else 0, 0, c.csn,
            leBytes 8 (c.check x).run ++ leBytes 1 (c.check x).isEqual.toNat⟩))) ∧
      (mem = 0 → (∀ i, i < len → s.chip.mapsTo (addr + i) = true) → s.chip.eccDram.flips = [] →
        bit (s.chip.rd (Reg.CK_CFG x)) 4 = false → ∀ run alg, alg = s.chip.algOf x →
        run = algFeed alg (s.chip.check x).run (Memory.read s.dram addr len) →
        exec (.checkRunFinish x) s = .next (s.onto ((s.chip.setCheck x { s.chip.check x with
          run := run, count := ((s.chip.check x).count + len) % 2 ^ 32, busy := none, done := true, isEqual := false
          result := algMask alg (run ^^^ algFinal alg) }).respondTo ch 0x0B03 tag
            ⟨0, 0, s.chip.csn, leBytes 8 run ++ [0]⟩)))))
/-! ### Commands of firmware -/

/-- The queries of SYS, TIME, PAIR, UPD and DIAG answer at once with STATUS OK and their values, and change nothing else (R296,
R307, R310, R314, R315, R317, R336). The answers of TIME_PTP_STATUS, PAIR_STATUS, UPD_STATUS and DIAG_TEMP_READ need a mailbox. -/
def Obligations.QueriesAnswerWithTheirValues : Prop :=
  ∀ (s : State) (h : CmdHdr) (p q : Nat), payloadOf h p = q →
    (s.chip.takes h false = true →
      exec (.sysPing h p) s = .next (s.onto (s.chip.complete h 0x0102 0 (leBytes 8 q))) ∧
      (pl q 0 0 1 = 0 → exec (.sysInfo h p) s = .next (s.onto (s.chip.complete h 0x0101 0
        (leBytes 4 (s.chip.image 0).version ++ leBytes 4 (s.chip.image 1).version ++
          leBytes 4 (0x11 + (s.chip.image 0).ferry % 256 * 256))))) ∧
      (pl q 0 0 1 = 1 → exec (.sysInfo h p) s = .next (s.onto (s.chip.complete h 0x0101 0
        (leBytes 4 (s.chip.image 2).version ++ leBytes 4 (s.chip.image 3).version ++ leBytes 4 (s.chip.image 4).version))))) ∧
    (s.chip.takes h true = true →
      (∀ t g, t = s.chip.tb (pl q 0 0 2) → g = t.ptp.grand → exec (.timePtpStatus h p) s = .next (s.onto (s.chip.complete h 0x0401 0
        (beBytes 8 g.grandmaster ++ leBytes 2 g.stepsRemoved ++ leBytes 1 g.clockClass ++ leBytes 1 g.accuracy ++
          itI4 (clampI (-2147483648) 2147483647 t.ptp.pathDelayNs) ++
          itI4 (clampI (-2147483648) 2147483647 t.offset))))) ∧
      exec (.pairStatus h p) s = .next (s.onto (s.chip.complete h 0x0805 0
        (leBytes 4 (flagWord [s.chip.pair.isle == .active, s.chip.pair.isle.stale, s.chip.pair.linkUp, s.chip.pair.rank == 1]) ++
          leBytes 4 (s.chip.rd Reg.HEALTH_OWN) ++ leBytes 8 s.chip.pair.ferryCsn ++ leBytes 4 s.chip.pair.ferryOctets ++
          leBytes 4 (s.chip.rd Reg.CHECK_MISMATCH_CNT)))) ∧
      (∀ x, x = s.chip.imageType (min 4 (pl q 0 0 3)) → exec (.updStatus h p) s = .next (s.onto (s.chip.complete h 0x0904 0
        (leBytes 4 (x.running + x.onTrial.toNat * 2) ++
          leBytes 4 (if x.onTrial then ceilDiv (x.trialEnd - s.chip.cycle) 800000000 else 0) ++
          leBytes 4 (if x.slot0.valid then x.slot0.version else 0) ++ leBytes 4 (if x.slot1.valid then x.slot1.version else 0) ++
          leBytes 8 x.counter)))) ∧
      exec (.diagTempRead h p) s = .next (s.onto (s.chip.complete h 0x0B06 0
        ((s.chip.calib.temps.map fun t => leBytes 2 (twos 16 t)).flatten))))

/-- Commands that set something at once and answer (R296): SYS_EVENT_ROUTE (R452: source 0 stays unmasked), UPD_TRIAL_SET
and CAL_AUTO_SET within their clamps (R315, R316), DIAG_SCRUB_SET of the memories it names (R317), DIAG_EVENT_TEST (R317),
SYS_SETTINGS_LOAD, refused for a store that the image cannot read (R307, R419), METER_TOTALS_PRESET (R359), UPD_VERIFY, which
answers the outcome of the tests of R408, and TIME_TB_STEP, refused for a time base with a servo (R57). -/
def Obligations.ImmediateCommandsTakeEffectAndAnswer : Prop :=
  ∀ (s : State) (h : CmdHdr) (p q : Nat), payloadOf h p = q → s.chip.takes h false = true →
    (∀ src, src = pl q 0 0 8 → exec (.sysEventRoute h p) s = .next (s.onto
      ((s.chip.wr (Reg.EVT_ROUTE src) (pl q 0 8 16 * 256 + (if src = 0 then 0 else pl q 0 24 1 * 2 ^ 24))).complete h 0x0105 0 []))) ∧
    exec (.updTrialSet h p) s = .next (s.onto (Chip.complete { s.chip with
      update := { s.chip.update with trialWin := clampN 10 3600 (pl q 0 0 16) } } h 0x0906 0 [])) ∧
    exec (.calAutoSet h p) s = .next (s.onto (Chip.complete { s.chip with
      calib := { s.chip.calib with auto := bit q 0, deltaT := clampN 2 40 (pl q 0 8 8) } } h 0x0A03 0 [])) ∧
    (∀ c d : Chip, ∀ k, k = clampN 60 604800 (pl q 4 0 32) →
      c = (if bit q 0 then s.chip.wr (Reg.ECC_SCRUB_PASS_S 0) k else s.chip) →
      d = (if bit q 1 then c.wr (Reg.ECC_SCRUB_PASS_S 1) k else c) →
      exec (.diagScrubSet h p) s = .next (s.onto (d.complete h 0x0B01 0 []))) ∧
    exec (.diagEventTest h p) s = .next (s.onto
      ((s.chip.raise (pl q 0 16 8) 0xFF01 (it4 (pl q 0 0 24))).complete h 0x0B07 0 [])) ∧
    (∀ l, s.chip.storeValues (pl q 0 0 1) = some l →
      exec (.sysSettingsLoad h p) s = .next (s.onto ((s.chip.loadValues l).complete h 0x0107 0 []))) ∧
    (s.chip.storeValues (pl q 0 0 1) = none →
      exec (.sysSettingsLoad h p) s = .next (s.onto (s.chip.decline h 0x0107 ⟨0xC, 0, 0⟩))) ∧
    (∀ k, k = energyKey (pl q 0 0 3) (pl q 0 8 2) (min 6 (pl q 0 3 5)) → exec (.meterTotalsPreset h p) s = .next (s.onto
      ((s.chip.setEnergy k { s.chip.energyOf k with
        acc := pl q 8 0 64 * 2 ^ 24, wraps := 0, preset := true, wrapped := false }).complete h 0x0705 0 []))) ∧
    (∀ t x m, t = min 4 (pl q 0 0 3) → x = s.chip.imageType t → m = x.inactive →
      (m.valid = true → x.counter ≤ m.secVer → m.secVer ≤ 64 → s.chip.matrixHolds t m = true →
        exec (.updVerify h p) s = .next (s.onto
          ((s.chip.setType t { x with verified := true }).complete h 0x0902 0 (leBytes 4 m.version)))) ∧
      (m.valid = false → exec (.updVerify h p) s = .next (s.onto (s.chip.complete h 0x0902 9 (leBytes 4 m.version)))) ∧
      (m.valid = true → (m.secVer < x.counter ∨ 64 < m.secVer) →
        exec (.updVerify h p) s = .next (s.onto (s.chip.complete h 0x0902 0xA (leBytes 4 m.version)))) ∧
      (m.valid = true → x.counter ≤ m.secVer → m.secVer ≤ 64 → s.chip.matrixHolds t m = false →
        exec (.updVerify h p) s = .next (s.onto (s.chip.complete h 0x0902 0xB (leBytes 4 m.version))))) ∧
    (∀ n, n = pl q 0 0 2 → (s.chip.sourceTb n = 0 ∨ s.chip.sourceTb n = 4) → exec (.timeTbStep h p) s = .next (s.onto
      ((s.chip.stepTb n (sext 64 (pl q 8 0 64) * (nsUnits : Int) + (pl q 0x10 0 16 * (nsUnits / 65536) : Nat))).complete
        h 0x0403 0 []))) ∧
    (∀ n, n = pl q 0 0 2 → s.chip.sourceTb n ≠ 0 → s.chip.sourceTb n ≠ 4 →
      exec (.timeTbStep h p) s = .next (s.onto (s.chip.decline h 0x0403 (denied 12))))

/-- A command that firmware does not take yet waits in its channel, where it is served later (R291): in an idle mailbox its words are
written and BUSY is set. A command that its channel cannot carry is answered BAD_COMMAND with DETAIL 3 for LEN beyond the
channel, else 1 for an opcode that does not exist, else 2 for a result longer than a ring carries; with CSN_LIVE where it is no
commit (R294, R297, R298). -/
def Obligations.WaitingAndBadCommandsAreKeptAndAnswered : Prop :=
  (∀ (s : State) (h : CmdHdr) (op p : Nat), s.chip.takesFrom h.chan = false →
    (listedOpcode op = true → exec (commandOf op h p) s = .next (s.onto (s.chip.keepWaiting op h p))) ∧
    (∀ k, exec (.commandBad h op k) s = .next (s.onto (s.chip.keepWaiting op h 0))) ∧
    (∀ m, h.chan = .mbox m → m < 8 → s.chip.barReady (Reg.MB_DOORBELL m) = true → s.chip.power.warm = false →
      (s.chip.mbox m).busy = false → s.chip.unanswered (.mbox m) = false →
      ((s.chip.keepWaiting op h p).mbox m) = { s.chip.mbox m with busy := true, done := false } ∧
      (s.chip.keepWaiting op h p).mboxWord m = cmdWord op h p % 2 ^ 512 ∧ (s.chip.keepWaiting op h p).csn = s.chip.csn)) ∧
  (∀ (s : State) (h : CmdHdr) (op most : Nat) (k : BadKind), s.chip.takesFrom h.chan = true →
    most = (match h.chan with | .mbox _ => 48 | .ring _ => 47) → ∀ c : Nat → Chip,
    c = (fun detail => s.chip.respond h.chan op h.tag ⟨8, detail, if commitOpcode op then s.chip.openCsn else s.chip.csn, []⟩) →
    (most < h.len → exec (.commandBad h op k) s = .next (s.onto (c 3)) ∧
      ∀ p, listedOpcode op = true → exec (commandOf op h p) s = .next (s.onto (c 3))) ∧
    (h.len ≤ most → listedOpcode op = false → exec (.commandBad h op k) s = .next (s.onto (c 1))) ∧
    (∀ r, h.chan = .ring r → h.len ≤ most → op ∈ [0x0401, 0x0805, 0x0904, 0x0B06] →
      exec (.commandBad h op k) s = .next (s.onto (c 2)) ∧ ∀ p, exec (commandOf op h p) s = .next (s.onto (c 2))) ∧
    (h.len ≤ most → listedOpcode op = true → (longOpcode op = false ∨ ∃ m, h.chan = .mbox m) →
      exec (.commandBad h op k) s = .next s))

/-- DIAG_ECC_INJECT flips one stored bit of the word named of either memory, or two (R317, R396); which bits is free (log
entry 34). DIAG_DEBUG_UNLOCK with a token that does not hold is SIG_INVALID, and
with one that names another epoch RESOURCE_DENIED; the token is read as any word of LPDDR5X is (R394); one that holds revokes the epoch
whatever follows, and opens debug only with the epoch's row blown to all ones (R444). -/
def Obligations.DiagnosticsActOnWhatTheyName : Prop :=
  ∀ (s : State) (h : CmdHdr) (p q : Nat), payloadOf h p = q → s.chip.takes h false = true →
    (∀ w m, w = pl q 8 0 64 / 8 * 8 → m = pl q 0 0 1 → w < s.chip.memSize m → (m = 0 ∨ w < lagoonRings) → (s.chip.ecc m).at w = 0 →
      ∃ t, exec (.diagEccInject h p) s = .next t ∧ t.dram = s.dram ∧
        (bit q 1 = false → popcount ((t.chip.ecc m).at w) = 1) ∧ (bit q 1 = true → popcount ((t.chip.ecc m).at w) = 2) ∧
        (∀ x, x ≠ w → (m = 0 ∨ x < lagoonRings) → (t.chip.ecc m).at x = (s.chip.ecc m).at x) ∧ t.chip.csn = s.chip.csn) ∧
    (s.chip.power.epoch ≠ some (pl q 0 0 3) →
      exec (.diagDebugUnlock h p) s = .next (s.onto (s.chip.decline h 0x0B05 (denied 12)))) ∧
    (∀ k, k = s.chip.fetch s.dram (pl q 8 0 64) (min 256 (pl q 0x10 0 32)) → s.chip.power.epoch = some (pl q 0 0 3) →
      ((k.length ≠ 256 ∨ tokenHolds (pl q 0 0 3) k = false) → exec (.diagDebugUnlock h p) s = .next (s.onto
        ((s.chip.noteRead 0 8 (pl q 8 0 64) (min 256 (pl q 0x10 0 32))).decline h 0x0B05 ⟨9, 0, 0⟩))) ∧
      (k.length = 256 → tokenHolds (pl q 0 0 3) k = true → ∃ t, exec (.diagDebugUnlock h p) s = .next t ∧
        t.dram = s.dram ∧ t.chip.power.revoked = s.chip.power.revoked.set (pl q 0 0 3) true ∧
        t.chip.power.provisioned = s.chip.power.provisioned.set (pl q 0 0 3) false ∧
        (t.chip.power.debug = true ∧ t.chip.power.keyRows = s.chip.power.keyRows.set (pl q 0 0 3) (BitVec.allOnes 256) ∨
          t.chip.power.debug = s.chip.power.debug) ∧
        t.chip.power.on = s.chip.power.on ∧ t.chip.csn = s.chip.csn))

/-! ### Commits -/

/-- The fifteen table commits (R304, R305, R88, R430): while PD_DRAM is on, the staging records of the range that FIRST and COUNT
name are read, and where every one passes its check the commit that carries them, clamped, is admitted for its crossing, answered
with their number, and written back to staging, but for the packer's octets of a descriptor (R182); a record that fails refuses
the commit and leaves LPDDR5X as it is, as PD_DRAM off does. TBL_REVERT writes the live records over the staging records of the
range that no accepted commit and no copy-forward locks, and answers how many it wrote and how many it left (R306); with the table's
banks (R302: those of tables 1, 7 and 9 are in LPDDR5X) or the staging areas off it is denied (log entry 37). -/
def Obligations.TableCommitsAndRevertsMoveRecords : Prop :=
  (∀ (s : State) (h : CmdHdr) (p q : Nat), payloadOf h p = q → s.chip.takes h false = true →
      ∀ e, e ∈ ([(1, .tblFixtureCommit h p), (2, .tblProfileCommit h p), (3, .tblUniverseCommit h p), (4, .tblRunCommit h p),
        (5, .tblCanvasCommit h p), (6, .tblLayerCommit h p), (7, .tblCellposCommit h p), (8, .tblCurveCommit h p),
        (9, .tblCueCommit h p), (10, .tblInunivCommit h p), (11, .tblInpatchCommit h p), (12, .tblSourceCommit h p),
        (13, .tblUcastCommit h p), (14, .tblRdmctxCommit h p), (15, .tblStreamCommit h p)] : List (Nat × Instr)) →
      ∀ (first n : Nat) (c : Chip) (l : List (Nat × Nat)), tableRange e.1 (pl q 0 0 64) = (first, n) →
        (s.chip.domainOn 4 = true → s.chip.readStaging s.dram e.1 first n = (c, l) →
          (s.chip.eccDram.flips = [] → c = s.chip ∧ l = ((List.range n).map fun k =>
            (first + k, Memory.readLE s.dram (s.chip.stagingAddr e.1 (first + k)) (recSize e.1)))) ∧
          (∀ csn status, failingRecord e.1 l = none →
            c.accepts h q csn status [.recs e.1 (clampRange e.1 l) (e.1 == 3 && pl q 8 0 1 == 1)] = true →
            exec e.2 s = .next (s.ontoBoth ((c.accepted h (0x0300 + e.1) q csn status
              [.recs e.1 (clampRange e.1 l) (e.1 == 3 && pl q 8 0 1 == 1)] (leBytes 4 n)).writeStaging s.dram e.1 (clampRange e.1 l)))) ∧
          (∀ r x, failingRecord e.1 l = some r → c.target h q true = .ok x →
            exec e.2 s = .next (s.onto (c.refuse h (0x0300 + e.1) r))) ∧
          (c.target h q true = .error missed → exec e.2 s =
            .next (s.onto (c.respond h.chan (0x0300 + e.1) h.tag ⟨2, 0, s.chip.openCsn, leBytes 4 n⟩)))) ∧
        (∀ x, s.chip.domainOn 4 = false → s.chip.target h q true = .ok x →
          exec e.2 s = .next (s.onto (s.chip.refuse h (0x0300 + e.1) (denied 16))))) ∧
  (∀ (s : State) (h : CmdHdr) (p q t first n : Nat), payloadOf h p = q → s.chip.takes h false = true →
      t = clampN 1 15 (pl q 0 0 8) → tableRange t (q >>> 32) = (first, n) →
      (s.chip.domainOn 4 = true → (s.chip.domainOn 3 = true ∨ t = 1 ∨ t = 7 ∨ t = 9) →
        ∀ go, go = ((List.range n).map (first + ·)).filter (fun i => !s.chip.locked t i) →
        ∀ r, r = s.chip.writeRuns s.dram t [(0, recSize t)] (go.map fun i => (i, s.chip.liveRec t i)) →
        exec (.tblRevert h p) s = .next (s.ontoBoth (r.1,
          r.2.complete h 0x0310 0 (leBytes 4 go.length ++ leBytes 4 (n - go.length))))) ∧
      ((s.chip.domainOn 4 = false ∨ s.chip.domainOn 3 = false ∧ t ≠ 1 ∧ t ≠ 7 ∧ t ≠ 9) →
        exec (.tblRevert h p) s = .next (s.onto (s.chip.decline h 0x0310 (denied 16)))))

/-- The commands that are commits (R40, R296, R324): where the commit that the payload spells is admitted for a crossing, it is
recorded for it, its registers are written to their pending values (SHOW_COMMIT apart), and the answer carries STATUS and the
CSN, or, mirrored, it is forwarded to the standby; nothing else changes (SYS_WARM_RESET, SYS_POWER_SET, SHOW_COMMIT,
SHOW_LAYER_FLIP, DIAG_LOOPBACK, TIME_FRAMEGEN_SET, TIME_FRAMEGEN_STOP while not held, TIME_PTP_SET). TIME_FRAMEGEN_STOP while held
stops the generator at once with CSN L (R66), but on an isle under an active one. A SYS_POWER_SET that breaks a dependency is
denied (R24). -/
def Obligations.CommitsAreAcceptedForTheirCrossing : Prop :=
  ∀ (s : State) (h : CmdHdr) (p q csn status : Nat), payloadOf h p = q → s.chip.takes h false = true →
    (s.chip.accepts h q csn status [.warmReset] = true →
      exec (.sysWarmReset h p) s = .next (s.onto (s.chip.accepted h 0x0103 q csn status [.warmReset] []))) ∧
    (powerAllowed (pl q 0 0 12) (powerAfter (pl q 0 0 12) (pl q 0 16 12) (s.chip.powerAt csn)) = true →
      s.chip.accepts h q csn status [.powerSet (pl q 0 0 12) (pl q 0 16 12)] = true →
      exec (.sysPowerSet h p) s = .next (s.onto (s.chip.accepted h 0x0104 q csn status
        [.powerSet (pl q 0 0 12) (pl q 0 16 12)] []))) ∧
    (s.chip.target h q true = .ok (csn, status) →
      powerAllowed (pl q 0 0 12) (powerAfter (pl q 0 0 12) (pl q 0 16 12) (s.chip.powerAt csn)) = false →
      exec (.sysPowerSet h p) s = .next (s.onto (s.chip.refuse h 0x0104 (denied 16)))) ∧
    (s.chip.accepts h q csn status s.chip.dirtyRegs = true →
      exec (.showCommit h p) s = .next (s.onto (s.chip.accepted h 0x0201 q csn status s.chip.dirtyRegs []))) ∧
    (∀ i r, i = pl q 0 0 4 * 64 + pl q 0 4 6 →
      r = reseal 6 i (clampLayer (setFld (setFld (s.chip.latestLayer i) 0 0 64 (pl q 8 0 64)) 0xC 0 32 (pl q 4 0 32))) →
      s.chip.accepts h q csn status [.layer i r] = true →
      exec (.showLayerFlip h p) s = .next (s.onto (s.chip.accepted h 0x0204 q csn status [.layer i r] []))) ∧
    (∀ port mode, port = min 4 (pl q 0 0 3) → mode = min 2 (pl q 0 3 2) →
      s.chip.accepts h q csn status [.loopback port mode] = true →
      exec (.diagLoopback h p) s = .next (s.onto (s.chip.accepted h 0x0B04 q csn status [.loopback port mode] []))) ∧
    (∀ l nd, nd = clampRate (pl q 4 0 32) (pl q 8 0 32) →
      l = (Change.frameGen (pl q 0 0 2) (bit q 2) nd.1 nd.2 (instantArg q 0xC).1 ::
        if bit q 3 then [.reg Reg.SEAL_OFFSET (BitVec.ofNat 32 (clampN 10 2000 (pl q 0 16 16)))] else []) →
      s.chip.accepts h q csn status l = true →
      exec (.timeFramegenSet h p) s = .next (s.onto (s.chip.accepted h 0x0420 q csn status l []))) ∧
    (s.chip.fg.mode ≠ .held → s.chip.accepts h q csn status [.fgStop] = true →
      exec (.timeFramegenStop h p) s = .next (s.onto (s.chip.accepted h 0x0422 q csn status [.fgStop] []))) ∧
    (s.chip.fg.mode = .held → s.chip.underActive = false → exec (.timeFramegenStop h p) s = .next (s.onto
      (Chip.respond { s.chip with
        sealed := false
        fg := { s.chip.fg with mode := .stopped }
        pulses := { s.chip.pulses with outDue := s.chip.pulses.outDue.filter fun d => d.csn ≤ s.chip.csn } }
        h.chan 0x0422 h.tag ⟨0, 0, s.chip.csn, []⟩))) ∧
    (s.chip.fg.mode = .held → s.chip.underActive = true →
      exec (.timeFramegenStop h p) s = .next (s.onto (s.chip.refuse h 0x0422 (denied 12)))) ∧
    (∀ n k, n = pl q 0 0 2 → k = ptpClamp (bits ((s.chip.projected csn).lv (Reg.TB_CFG n)) 4 2) (sext 8 (pl q 1 0 8))
        (sext 8 (pl q 2 0 8)) (sext 8 (pl q 3 0 8)) →
      ∀ l, l = [Change.ptpSet n k.1 k.2.1 k.2.2 (pl q 4 0 8) (pl q 4 8 8) (clampN 2 10 (pl q 4 16 8))] →
      s.chip.accepts h q csn status l = true →
      exec (.timePtpSet h p) s = .next (s.onto (s.chip.accepted h 0x0402 q csn status l [])))

/-- The commits of metering, the pair and updates, admitted likewise, or refused with what stands against them (R313 to R315, R319,
R338, R341, R352, R361, R388, R410, R411, R412, R415): UPD_ACTIVATE loads the verified image into the second program store; and NET_GROUP_JOIN and NET_GROUP_LEAVE, which name no instant and answer how many exact
groups the port then holds (R239, R311). -/
def Obligations.FamilyCommitsAreAcceptedForTheirCrossing : Prop :=
  ∀ (s : State) (h : CmdHdr) (p q csn status : Nat), payloadOf h p = q → s.chip.takes h false = true →
    (s.chip.meterHeld = false →
      (∀ l, l = [Change.feedSet (pl q 0 0 3) (bit q 3) (min 2 (pl q 0 4 2)) (pl q 4 0 32) (clampN 4500 6500 (pl q 8 0 16))
          (pl q 0xC 0 32) (pl q 0x10 0 32)] → s.chip.accepts h q csn status l = true →
        exec (.meterFeedSet h p) s = .next (s.onto (s.chip.accepted h 0x0701 q csn status l []))) ∧
      (∀ intr l, intr = clampN 1 998 (pl q 8 0 16) →
        l = [Change.pqSet (pl q 0 0 3) (clampN (intr + 1) 999 (pl q 4 0 16)) (clampN 1001 2000 (pl q 4 16 16)) intr
          (min 100 (pl q 8 16 16)) (max 1 (pl q 0xC 0 16))] → s.chip.accepts h q csn status l = true →
        exec (.meterPqSet h p) s = .next (s.onto (s.chip.accepted h 0x0702 q csn status l []))) ∧
      (∀ l, l = [Change.pulseSet (pl q 0 0 3) (pl q 0 3 3) (min 2 (pl q 0 6 2)) (bit q 8) (max 1 (pl q 8 0 64))
          (clampN 20 1000 (pl q 0x10 0 16))] → s.chip.accepts h q csn status l = true →
        exec (.meterPulseSet h p) s = .next (s.onto (s.chip.accepted h 0x0703 q csn status l [])))) ∧
    (s.chip.meterHeld = true → s.chip.target h q true = .ok (csn, status) →
      exec (.meterFeedSet h p) s = .next (s.onto (s.chip.refuse h 0x0701 (denied 12))) ∧
      exec (.meterPqSet h p) s = .next (s.onto (s.chip.refuse h 0x0702 (denied 12))) ∧
      exec (.meterPulseSet h p) s = .next (s.onto (s.chip.refuse h 0x0703 (denied 12)))) ∧
    (s.chip.domainOn 10 = true → ∀ l, l = [Change.pairConfig (pl q 0 0 1) (pl q 0 1 1) (clampN 2 255 (pl q 0 8 8))] →
      s.chip.accepts h q csn status l = true →
      exec (.pairConfig h p) s = .next (s.onto (s.chip.accepted h 0x0801 q csn status l []))) ∧
    (s.chip.domainOn 10 = false → exec (.pairConfig h p) s = .next (s.onto (s.chip.refuse h 0x0801 (denied 16)))) ∧
    (s.chip.pair.isle.standing = true → s.chip.pair.isle.stale = false → s.chip.accepts h q csn status [.promote] = true →
      exec (.pairPromote h p) s = .next (s.onto (s.chip.accepted h 0x0802 q csn status [.promote] []))) ∧
    (s.chip.pair.isle.standing = false → exec (.pairPromote h p) s = .next (s.onto (s.chip.refuse h 0x0802 (denied 12)))) ∧
    (s.chip.pair.isle.standing = true → s.chip.pair.isle.stale = true →
      exec (.pairPromote h p) s = .next (s.onto (s.chip.refuse h 0x0802 (denied 17)))) ∧
    (∀ up stale, up = (s.chip.domainOn 10 && s.chip.pair.linkUp) → stale = (s.chip.standbyStale || !s.chip.pair.mirrorOk) →
      (s.chip.pair.isle ≠ .active → exec (.pairSwap h p) s = .next (s.onto (s.chip.refuse h 0x0803 (denied 12)))) ∧
      (s.chip.pair.isle = .active → up = false → exec (.pairSwap h p) s = .next (s.onto (s.chip.refuse h 0x0803 ⟨0xE, 0, 0⟩))) ∧
      (s.chip.pair.isle = .active → up = true → stale = true →
        exec (.pairSwap h p) s = .next (s.onto (s.chip.refuse h 0x0803 (denied 17)))) ∧
      (s.chip.pair.isle = .active → up = true → stale = false → s.chip.accepts h q csn status [.swap] = true →
        exec (.pairSwap h p) s = .next (s.onto (s.chip.accepted h 0x0803 q csn status [.swap] [])))) ∧
    (∀ t x m, t = min 4 (pl q 0 0 3) → x = s.chip.imageType t → m = x.inactive →
      (s.chip.otherInUpdate t = false → s.chip.matrixHolds t m = true →
        (x.verified = true → s.chip.accepts h q csn status [.activate t] = true →
          exec (.updActivate h p) s = .next (s.onto
            ((s.chip.accepted h 0x0903 q csn status [.activate t] []).setType t { x with second := some m }))) ∧
        (∀ l, m.valid = true → (x.onTrial = true ∨ x.failed = false ∨ x.verified = true) → x.counter ≤ m.secVer → l = [Change.revert t (if x.onTrial then 1 else 2)] →
          s.chip.accepts h q csn status l = true →
          exec (.updRevert h p) s = .next (s.onto (s.chip.accepted h 0x0905 q csn status l [])))) ∧
      (s.chip.target h q true = .ok (csn, status) →
        ((s.chip.otherInUpdate t = true ∨ x.verified = false) →
          exec (.updActivate h p) s = .next (s.onto (s.chip.refuse h 0x0903 (denied 12)))) ∧
        (s.chip.otherInUpdate t = false → x.verified = true → s.chip.matrixHolds t m = false →
          exec (.updActivate h p) s = .next (s.onto (s.chip.refuse h 0x0903 ⟨0xB, 0, 0⟩))) ∧
        ((s.chip.otherInUpdate t = true ∨ m.valid = false ∨ x.onTrial = false ∧ x.failed = true ∧ x.verified = false) →
          exec (.updRevert h p) s = .next (s.onto (s.chip.refuse h 0x0905 (denied 12)))) ∧
        (s.chip.otherInUpdate t = false → m.valid = true → (x.onTrial = true ∨ x.failed = false ∨ x.verified = true) →
          m.secVer < x.counter →
          exec (.updRevert h p) s = .next (s.onto (s.chip.refuse h 0x0905 ⟨0xA, 0, 0⟩))) ∧
        (s.chip.otherInUpdate t = false → m.valid = true → (x.onTrial = true ∨ x.failed = false ∨ x.verified = true) →
          x.counter ≤ m.secVer → s.chip.matrixHolds t m = false →
          exec (.updRevert h p) s = .next (s.onto (s.chip.refuse h 0x0905 ⟨0xB, 0, 0⟩))))) ∧
    (∀ port g, port = min 4 (pl q 0 0 3) → g = groupArg q → ∀ named, named = { h with atTime := false } →
      (s.chip.accepts named q csn status [.groupJoin port g] = true →
        exec (.netGroupJoin h p) s = .next (s.onto (s.chip.accepted h 0x0510 q csn status [.groupJoin port g]
          (leBytes 4 (((s.chip.projected csn).configure (.groupJoin port g)).exactGroups port).length)))) ∧
      (((s.chip.projected csn).port port).groups.contains g = true →
        s.chip.accepts named q csn status [.groupLeave port g] = true →
        exec (.netGroupLeave h p) s = .next (s.onto (s.chip.accepted h 0x0511 q csn status [.groupLeave port g]
          (leBytes 4 (((s.chip.projected csn).configure (.groupLeave port g)).exactGroups port).length)))) ∧
      (((s.chip.projected csn).port port).groups.contains g = false → s.chip.target named q true = .ok (csn, status) →
        exec (.netGroupLeave h p) s = .next (s.onto (s.chip.refuse h 0x0511 missed))))

/-- Which crossing takes a commit (R41, R44): without AT_CSN the open one, whatever STRICT and NEXT say; with it the crossing named,
if its seal point has not passed; else the open crossing, LATE, or with STRICT none, and nothing is applied. One beyond the open
crossing is RESOURCE_DENIED (detail 14, R299) while 1,024 wait, those that await the standby among them; commits for the open
crossing are never refused so. Stated of three commits that carry different things, where the isle may change what they set and
the configuration of their crossing admits them. -/
def Obligations.CommitsTakeTheCrossingThatTheyName : Prop :=
  ∀ (s : State) (h : CmdHdr) (p q : Nat), payloadOf h p = q → s.chip.takes h false = true → h.atTime = false →
    ∀ e, e ∈ ([(.sysWarmReset h p, 0x0103, [.warmReset]), (.showCommit h p, 0x0201, s.chip.dirtyRegs),
        (.diagLoopback h p, 0x0B04, [.loopback (min 4 (pl q 0 0 3)) (min 2 (pl q 0 3 2))])] : List (Instr × Nat × List Change)) →
    ∀ admits : Nat → Bool, admits = (fun csn => (s.chip.refusal (s.chip.projected csn) csn e.2.2).isNone) →
    s.chip.underActive = false → ∀ level, level = s.chip.beyond (s.chip.commits ++ s.chip.forwarded) →
    (h.atCsn = false → admits s.chip.openCsn = true →
      exec e.1 s = .next (s.onto (s.chip.accepted h e.2.1 q s.chip.openCsn 0 e.2.2 []))) ∧
    (h.atCsn = true → h.target = s.chip.openCsn → admits h.target = true →
      exec e.1 s = .next (s.onto (s.chip.accepted h e.2.1 q h.target 0 e.2.2 []))) ∧
    (h.atCsn = true → s.chip.openCsn < h.target → level < 1024 → admits h.target = true →
      exec e.1 s = .next (s.onto (s.chip.accepted h e.2.1 q h.target 0 e.2.2 []))) ∧
    (h.atCsn = true → h.target < s.chip.openCsn → h.strict = false → admits s.chip.openCsn = true →
      exec e.1 s = .next (s.onto (s.chip.accepted h e.2.1 q s.chip.openCsn 1 e.2.2 []))) ∧
    (h.atCsn = true → h.target < s.chip.openCsn → h.strict = true →
      exec e.1 s = .next (s.onto (s.chip.refuse h e.2.1 ⟨2, 0, 0⟩))) ∧
    (h.atCsn = true → s.chip.openCsn < h.target → 1024 ≤ level →
      exec e.1 s = .next (s.onto (s.chip.refuse h e.2.1 (denied 14))))

/-- Maintenance commands (R296, R458): with nothing running or waiting the activity starts and OK is answered; behind others it
waits, MAINT_DEFER_CNT counts it, and DEFERRED is answered; behind sixteen it is RESOURCE_DENIED, detail 14. The activity is
what the payload spells (R300, R313 to R316, R370, R381, R388, R407, R409, R417), UPD_STAGE reading its package as it starts; the command is refused on an isle that cannot
resynchronise, for another type than the one in update or one on trial, and while metering is being calibrated. -/
def Obligations.MaintenanceCommandsWaitTheirTurn : Prop :=
  ∀ (s : State) (h : CmdHdr) (p q : Nat), payloadOf h p = q → s.chip.takes h false = true →
    (∀ e, e ∈ ([(.sysSettingsSave h p, 0x0106, 2, [pl q 0 0 1]), (.meterJournalFlush h p, 0x0704, 1, []),
        (.calRun h p, 0x0A01, 5, [pl q 0 0 4]),
        (.pairResync h p, 0x0804, 3, []),
        (.updStage h p, 0x0901, 6, [min 4 (pl q 0 0 3), pl q 0 3 1, pl q 8 0 64, pl q 0x10 0 32,
          (packageTooLong (min 4 (pl q 0 0 3)) (pl q 0x10 0 32) (pl q 0 3 1 == 1)
            (s.chip.fetch s.dram (pl q 8 0 64) (min (pl q 0x10 0 32) 512))).toNat]),
        (.updCounterAdvance h p, 0x0907, 6, [min 4 (pl q 0 0 3)]),
        (.calMeterRef h p, 0x0A02, 4, [pl q 0 0 3, min 6 (pl q 0 3 3), pl q 4 0 32, pl q 8 0 32,
          clampN 1 1000 (pl q 0xC 0 16)])] : List (Instr × Nat × Nat × List Nat)) →
      (e.2.1 = 0x0804 → s.chip.pair.isle = .active ∧ s.chip.domainOn 10 = true ∧ s.chip.pair.linkUp = true ∧
        s.chip.pair.mirrorOk = true) →
      (e.2.1 = 0x0901 → s.chip.otherInUpdate (min 4 (pl q 0 0 3)) = false) →
      (e.2.1 = 0x0901 ∨ e.2.1 = 0x0907 → (s.chip.imageType (min 4 (pl q 0 0 3))).onTrial = false) →
      (e.2.1 = 0x0A02 → s.chip.meterHeld = false) →
      ∀ a : Activity, a = ⟨e.2.2.1, e.2.1, some h.chan, h.tag, e.2.2.2, 0, 0, 0, false⟩ →
        (s.chip.arbiterFree = true → ∀ c : Chip, c = (s.chip.startActivity a).complete h e.2.1 0 [] →
          exec e.1 s = .next (s.onto (if e.2.1 = 0x0901 then c.readPackage s.dram else c))) ∧
        (s.chip.arbiterFree = false → (s.chip.arbiter.waiting.filter fun a => a.opcode != 0).length < 16 →
          exec e.1 s = .next (s.onto ((Chip.inc { s.chip with
            arbiter := { s.chip.arbiter with waiting := s.chip.arbiter.waiting ++ [a] } } Reg.MAINT_DEFER_CNT).complete
            h e.2.1 6 []))) ∧
        (s.chip.arbiterFree = false → 16 ≤ (s.chip.arbiter.waiting.filter fun a => a.opcode != 0).length →
          exec e.1 s = .next (s.onto (s.chip.decline h e.2.1 (denied 14))))) ∧
    (s.chip.pair.isle ≠ .active → exec (.pairResync h p) s = .next (s.onto (s.chip.decline h 0x0804 (denied 12)))) ∧
    (s.chip.pair.isle = .active → (s.chip.domainOn 10 && s.chip.pair.linkUp && s.chip.pair.mirrorOk) = false →
      exec (.pairResync h p) s = .next (s.onto (s.chip.decline h 0x0804 ⟨0xE, 0, 0⟩))) ∧
    (∀ t, t = min 4 (pl q 0 0 3) →
      ((s.chip.otherInUpdate t = true ∨ (s.chip.imageType t).onTrial = true) →
        exec (.updStage h p) s = .next (s.onto (s.chip.decline h 0x0901 (denied 12)))) ∧
      ((s.chip.imageType t).onTrial = true →
        exec (.updCounterAdvance h p) s = .next (s.onto (s.chip.decline h 0x0907 (denied 12))))) ∧
    (s.chip.meterHeld = true → exec (.calMeterRef h p) s = .next (s.onto (s.chip.decline h 0x0A02 (denied 12))))

/-! ### The show: crossings, the generator, tasks -/

/-- SHOW_CROSS (R47, R48, R324): while the generator runs or is held, or under an active isle, it is RESOURCE_DENIED, detail 12; an
active isle forwards it; otherwise it calls the next crossing in the row, which carries the next CSN not yet called, comes no earlier
than its acceptance and one period after the crossing before it, and at the latest 25 µs after its acceptance or at the end of
that period (how much of tXC passes is free, log entry 28), and is answered when it comes. SHOW_UNCOMMIT withdraws the accepted
commits of a channel and tag for a crossing whose seal point has not passed, tells a standby that has had one of them, and is
MISSED where there are none (R309). -/
def Obligations.ShowCommandsActOnTheQueue : Prop :=
  ∀ (s : State) (h : CmdHdr) (p q : Nat), payloadOf h p = q → s.chip.takes h false = true →
    ((s.chip.fg.mode ≠ .stopped ∨ s.chip.underActive = true) →
      exec (.showCross h p) s = .next (s.onto (s.chip.refuse h 0x0202 (denied 12)))) ∧
    (s.chip.fg.mode = .stopped → s.chip.underActive = false →
      (s.chip.mirrors [.cross] = true → exec (.showCross h p) s = .next (s.onto (s.chip.forwardCommit
        ⟨0, ⟨some h.chan, h.tag, 0x0202, s.chip.openCsn, [.cross], none⟩, some h, q, []⟩))) ∧
      (s.chip.mirrors [.cross] = false → ∀ before, before = (match s.chip.fg.explicit.getLast? with
          | some y => y.instant + s.chip.periodCycles
          | none => if s.chip.csn = 0 then 0 else s.chip.fg.crossCycle + s.chip.periodCycles) →
        ∃ t x, exec (.showCross h p) s = .next t ∧ t.chip.fg.explicit = s.chip.fg.explicit ++ [x] ∧
          x.chan = some h.chan ∧ x.tag = h.tag ∧ x.csn = s.chip.csn + 1 + s.chip.fg.explicit.length ∧
          s.chip.cycle ≤ x.instant ∧ before ≤ x.instant ∧ x.instant ≤ max (s.chip.cycle + 20000) before ∧
          (s.chip.cycle < before → x.instant = before) ∧ t.chip.openCsn = s.chip.openCsn + 1 ∧
          t.chip.mboxes = s.chip.mboxes ∧ t.chip.rings = s.chip.rings ∧ t.chip.regs = s.chip.regs ∧
          t.chip.live = s.chip.live ∧ t.chip.commits = s.chip.commits ∧ t.chip.csn = s.chip.csn ∧ t.dram = s.dram)) ∧
    (∀ (csn : Nat) (named : Commit → Bool) (c : Chip) (told : Bool), csn = pl q 8 0 64 →
      named = (fun m : Commit => (match m.chan with | some ch => Chan.number ch == pl q 0 16 9 | none => false) &&
        m.tag == pl q 0 0 16 && m.target == csn) →
      c = { s.chip with commits := s.chip.commits.filter fun m => !named m } →
      told = (s.chip.pair.isle == .active && s.chip.pair.linkUp && s.chip.pair.mirrorOk &&
        (s.chip.commits.filter named).any fun m => m.changes.any Change.mirrored) →
      (s.chip.openCsn ≤ csn → s.chip.commits.filter named ≠ [] →
        exec (.showUncommit h p) s = .next (s.onto ((if told then c.tellMissed csn else c).complete h 0x0203 0
          (leBytes 4 (s.chip.commits.filter named).length)))) ∧
      ((csn < s.chip.openCsn ∨ s.chip.commits.filter named = []) →
        exec (.showUncommit h p) s = .next (s.onto (s.chip.decline h 0x0203 ⟨2, 0, 0⟩))))

/-- The tasks' commands (R152, R157, R159, R160): SHOW_TASK_LOAD of a free slot loads the staged record, clamped, under the next
GEN, which it answers, ready at once with WAIT 0; a slot in use, or an isle under an active one, is RESOURCE_DENIED, detail 12.
SHOW_TASK_CANCEL ends a waiting task CANCELLED and a ready one CANCELLED_BEFORE_DISPATCH, and is MISSED for any other.
SHOW_TASK_FREE frees an ended task's slot, and what awaited that task ends DEP_INVALID; fades and effects run on. -/
def Obligations.TaskCommandsActByTheTasksState : Prop :=
  ∀ (s : State) (h : CmdHdr) (p q k a : Nat), payloadOf h p = q → s.chip.takes h false = true → k = pl q 0 0 12 →
    a = s.chip.tblBase + 0xF10000 + k * 64 →
    (s.chip.underActive = false → (s.chip.task k).state = .free → ∃ t c, exec (.showTaskLoad h p) s = .next t ∧
      t = s.onto (Chip.complete c h 0x0210 0 (leBytes 1 (((s.chip.task k).gen + 1) % 256))) ∧
      (c.task k).gen = ((s.chip.task k).gen + 1) % 256 ∧ (c.task k).record = clampTask (s.chip.fetchLE s.dram a 64) ∧
      (c.task k).state ≠ .free ∧ (c.task k).loaded = s.chip.cycle ∧ c.csn = s.chip.csn ∧ c.commits = s.chip.commits ∧
      (TaskRec.wait (c.task k).record = 0 → (c.task k).state = .ready)) ∧
    (s.chip.underActive = false → (s.chip.task k).state ≠ .free →
      exec (.showTaskLoad h p) s = .next (s.onto (s.chip.decline h 0x0210 ⟨3, 12, k⟩))) ∧
    (s.chip.underActive = true → exec (.showTaskLoad h p) s = .next (s.onto (s.chip.decline h 0x0210 (denied 12)))) ∧
    ((s.chip.task k).gen = pl q 0 16 8 →
      ((s.chip.task k).state = .waiting → exec (.showTaskCancel h p) s =
        .next (s.onto ((s.chip.failTask k .cancelled).complete h 0x0211 0 []))) ∧
      ((s.chip.task k).state = .ready → exec (.showTaskCancel h p) s =
        .next (s.onto ((s.chip.failTask k .cancelledBeforeDispatch).complete h 0x0211 0 []))) ∧
      ((s.chip.task k).state ≠ .waiting → (s.chip.task k).state ≠ .ready → exec (.showTaskCancel h p) s =
        .next (s.onto (s.chip.decline h 0x0211 ⟨2, 0, 0⟩))) ∧
      ((s.chip.task k).state = .ended → ∃ c : Chip, exec (.showTaskFree h p) s = .next (s.onto (c.complete h 0x0212 0 [])) ∧
        (c.task k).state = .free ∧ (c.task k).gen = (s.chip.task k).gen ∧
        c.fades = s.chip.fades ∧ c.effects = s.chip.effects ∧ c.csn = s.chip.csn ∧
        ∀ j, (s.chip.task j).state = .waiting → TaskRec.wait (s.chip.task j).record = 5 →
          TaskRec.depSlot (s.chip.task j).record = k → (c.task j).state = .ended ∧ (c.task j).result = .depInvalid) ∧
      ((s.chip.task k).state = .free → exec (.showTaskFree h p) s =
        .next (s.onto (s.chip.decline h 0x0212 ⟨2, 0, 0⟩))) ∧
      ((s.chip.task k).state ≠ .ended → (s.chip.task k).state ≠ .free → exec (.showTaskFree h p) s =
        .next (s.onto (s.chip.decline h 0x0212 ⟨3, 12, k⟩)))) ∧
    ((s.chip.task k).gen ≠ pl q 0 16 8 →
      exec (.showTaskCancel h p) s = .next (s.onto (s.chip.decline h 0x0211 ⟨2, 0, 0⟩)) ∧
      exec (.showTaskFree h p) s = .next (s.onto (s.chip.decline h 0x0212 ⟨2, 0, 0⟩)))

/-- What readies a task (R155, R156): the instant that it awaits; the expiry of its timeout, which makes it ready with TO_FIRED or
ends it TIMED_OUT, unless what it awaits has come; a trigger edge at once with FILT 0, and otherwise once the pin has held its
level for FILT µs. The dispatcher takes the ready task that goes first (R158, R164, R324): a cue without fade slots ends it, as does a
commit that its acceptance refuses; an active isle forwards its commit; otherwise the commit, for the open crossing, is
accepted. A budget refuses it only at the crossing (the model's reading, log entry 42). -/
def Obligations.TasksBecomeReadyAndAreDispatched : Prop :=
  ∀ (s : State) (k : Nat), k < 4096 →
    ((s.chip.task k).state = .waiting → TaskRec.wait (s.chip.task k).record = 1 → ∃ t, exec (.taskWaitInstant k) s = .next t ∧
      (t.chip.task k).state = .ready ∧ (t.chip.task k).toFired = false ∧ t.dram = s.dram ∧
      t.chip.cycle = s.chip.cycle + (s.chip.tb (TaskRec.tb (s.chip.task k).record)).cyclesTo
        (TaskRec.instant (s.chip.task k).record)) ∧
    ((s.chip.task k).state ≠ .waiting ∨ TaskRec.wait (s.chip.task k).record ≠ 1 →
      exec (.taskWaitInstant k) s = .next s) ∧
    ((s.chip.task k).state = .waiting → ∀ c : Chip, c = s.chip.runToCycle ((s.chip.task k).loaded +
        800000 * TaskRec.timeoutMs (s.chip.task k).record) →
      (c.waitMet (s.chip.task k) = true → exec (.taskTimeout k) s = .next (s.onto (c.readyTask k false))) ∧
      (c.waitMet (s.chip.task k) = false → TaskRec.toAct (s.chip.task k).record = true →
        exec (.taskTimeout k) s = .next (s.onto (c.readyTask k true))) ∧
      (c.waitMet (s.chip.task k) = false → TaskRec.toAct (s.chip.task k).record = false →
        exec (.taskTimeout k) s = .next (s.onto (c.failTask k .timedOut)))) ∧
    ((s.chip.task k).state ≠ .waiting → exec (.taskTimeout k) s = .next s) ∧
    (s.chip.dispatches = true → s.chip.dispatching = none → s.chip.nextTask = some k →
      ∀ (r : Nat) (l : List Change) (c : Chip), r = (s.chip.task k).record → l = s.chip.taskChanges r →
      c = (if TaskRec.kind r = 0 then
        s.chip.noteRead 0 2 (s.chip.liveAt 9 (fld r 0x20 0 20)).2 (8 * fld r 0x24 0 19) else s.chip) →
      (c.noFadeSlots l = true → exec .taskDispatch s = .next (s.onto (c.failTask k .resourceDenied))) ∧
      (∀ e, c.noFadeSlots l = false → c.taskRefusal k l = some e →
        exec .taskDispatch s = .next (s.onto (c.failTask k e))) ∧
      (c.noFadeSlots l = false → c.taskRefusal k l = none → c.mirrors l = true → exec .taskDispatch s =
        .next (s.onto (Chip.forwardCommit { c.setTask k { c.task k with state := .dispatching } with dispatching := some k }
          ⟨0, ⟨none, 0, 0, c.openCsn, l, some k⟩, none, 0, []⟩))) ∧
      (c.noFadeSlots l = false → c.taskRefusal k l = none → c.mirrors l = false →
        ∃ t, exec .taskDispatch s = .next t ∧ (t.chip.task k).state = .accepted ∧ t.dram = s.dram ∧
        t.chip.commits = s.chip.commits ++ [⟨none, 0, 0, s.chip.openCsn, l, some k⟩] ∧ t.chip.csn = s.chip.csn ∧
        (TaskRec.completeOn r = 0 → (t.chip.task k).flag = true))) ∧
    ((s.chip.dispatches = false ∨ s.chip.dispatching ≠ none ∨ s.chip.nextTask = none) →
      exec .taskDispatch s = .next s) ∧
    (∀ (pin : Nat) (g : Trigger) (rising : Bool), pin < 4 → s.chip.triggers[pin]? = some g →
      (g.high = rising → exec (.trigInEdge pin rising) s = .next s) ∧
      (g.high ≠ rising → ∀ filt, filt = bits (s.chip.lv Reg.TRIG_CFG) 8 8 →
        (filt = 0 → exec (.trigInEdge pin rising) s = .next (s.onto (Chip.triggered { s.chip with
          triggers := s.chip.triggers.set pin ⟨rising, s.chip.cycle, none, !rising⟩ } pin (!rising) s.chip.cycle))) ∧
        (0 < filt → exec (.trigInEdge pin rising) s = .next (s.onto { s.chip with
          triggers := s.chip.triggers.set pin ⟨rising, s.chip.cycle,
            if bit (s.chip.lv Reg.TRIG_CFG) pin then some (s.chip.cycle + 800 * filt) else none, !rising⟩ }))) ∧
      (∀ due, g.filter = some due →
        exec (.trigFilterExpire pin) s = .next (s.onto (let c := (s.chip.runToCycle due).triggered pin g.edge g.since
          { c with triggers := c.triggers.set pin { g with filter := none } }))) ∧
      (g.filter = none → exec (.trigFilterExpire pin) s = .next s))

/-- The generator (R27, R29, R64 to R66): a start places the first crossing on the first instant of the grid at least 100 µs ahead, and
answers it; one that is already running, or held, is RESOURCE_DENIED. A rephase does so on the grid of the origin that it
names, or keeps, and ends the hold; it is RESOURCE_DENIED while there is none, and for another time base. A hold ends as the
counter passes L; a stop takes effect at the instant at which the next crossing would have come. -/
def Obligations.GeneratorStartsHoldsAndStops : Prop :=
  (∀ (s : State) (h : CmdHdr) (p q : Nat), payloadOf h p = q → s.chip.takes h false = true →
    (s.chip.fg.mode = .stopped → 0 < s.chip.fg.rateN → 0 < s.chip.fg.rateD → ∃ i first, first = s.chip.fg.instant i ∧
      s.chip.now + 100000 ≤ first ∧ (∀ j, s.chip.now + 100000 ≤ s.chip.fg.instant j → first ≤ s.chip.fg.instant j) ∧
      exec (.timeFramegenStart h p) s = .next (s.onto (Chip.complete (Chip.fixNext { s.chip with
        fg := { s.chip.fg with mode := .running, next := first, nextIdx := some i } }) h 0x0421 0
        (instantBlock first s.chip.fg.tb)))) ∧
    (s.chip.fg.mode = .stopped → exec (.timeFramegenStart h p) s = .next (s.onto (s.chip.startGrid.complete h 0x0421 0
      (instantBlock s.chip.startGrid.fg.next s.chip.fg.tb)))) ∧
    (s.chip.fg.mode ≠ .stopped →
      exec (.timeFramegenStart h p) s = .next (s.onto (s.chip.decline h 0x0421 (denied 12)))) ∧
    (s.chip.fg.mode = .held → (bits q 0 96 = 0 ∨ (instantArg q 0).2 = s.chip.fg.tb) → ∀ (g : FrameGen) (c : Chip),
      g = { s.chip.fg with origin := if bits q 0 96 = 0 then s.chip.fg.origin else (instantArg q 0).1 } →
      c = (Chip.leaveHold { s.chip with fg := { g with lastGrid := g.onGrid g.last, lastIdx := g.indexFrom g.last } } 1).startGrid →
      exec (.timeFramegenRephase h p) s = .next (s.onto (c.complete h 0x0423 0 (instantBlock c.fg.next c.fg.tb))) ∧
      c.fg.mode = .running ∧ c.fg.origin = g.origin ∧ c.csn = s.chip.csn ∧
      (0 < g.rateN → 0 < g.rateD → s.chip.now + 100000 ≤ c.fg.next ∧
        ∀ j, s.chip.now + 100000 ≤ g.instant j → c.fg.next ≤ g.instant j)) ∧
    (s.chip.fg.mode = .held → bits q 0 96 ≠ 0 → (instantArg q 0).2 ≠ s.chip.fg.tb →
      exec (.timeFramegenRephase h p) s = .next (s.onto (s.chip.decline h 0x0423 (denied 18)))) ∧
    (s.chip.fg.mode ≠ .held →
      exec (.timeFramegenRephase h p) s = .next (s.onto (s.chip.decline h 0x0423 (denied 12))))) ∧
  (∀ s : State,
    (s.chip.fg.mode = .held → ∀ c : Chip, c = s.chip.runTo s.chip.fg.last → exec .fgResume s = .next (s.onto
      ((if c.bound.time ≤ s.chip.fg.last * nsUnits then c.ticks 1 else c).leaveHold 0))) ∧
    (s.chip.fg.mode ≠ .held → exec .fgResume s = .next s) ∧
    (s.chip.fg.stopping = true → ∀ c : Chip, c = s.chip.runTo s.chip.fg.next →
      exec .generatorStopEffect s = .next (s.onto { c with fg := { c.fg with mode := .stopped, stopping := false } })) ∧
    (s.chip.fg.stopping = false → exec .generatorStopEffect s = .next s))

/-- The instants of the grid (R25): crossing i stands at T0 + i × D/N s, in whole nanoseconds, and the first index at or after an
instant is found exactly, for every rate and origin. Each instant is rounded from i itself, so that no error builds up. -/
def Obligations.GridIndexIsTheFirstAtOrAfter : Prop :=
  ∀ (g : FrameGen) (t : Nat), 0 < g.rateN → 0 < g.rateD →
    (∀ i, g.instant i = g.origin + i * g.rateD * 1000000000 / g.rateN) ∧
    (∀ i, g.instant (i + g.rateN) = g.instant i + g.rateD * 1000000000) ∧
    t ≤ g.instant (g.indexFrom t) ∧ ∀ i, i < g.indexFrom t → g.instant i < t

/-- The seal point closes S[c] at SEAL_OFFSET before the crossing (R39, R40); the generator's crossing comes at its instant,
sealed before it if it was not, an explicit one in its turn, with its response, and the immediate crossing that a step calls for
once, with the grid instants passed over counted (R25, R48, R50, R67). Each is the model's one operation `cross` at that instant; where no
such crossing stands ahead, the event changes nothing. -/
def Obligations.CrossingsComeAtTheirInstants : Prop :=
  ∀ s : State,
    (s.chip.fg.issues = true → s.chip.sealed = false → ∃ t, exec .sealPoint s = .next t ∧ t.chip.sealed = true ∧
      t.chip.openCsn = s.chip.openCsn + 1 ∧ t.chip.csn = s.chip.csn ∧ t.chip.commits = s.chip.commits ∧ t.dram = s.dram ∧
      t.chip.cycle = s.chip.cycle + s.chip.bound.cyclesTo
        (s.chip.fg.next - bits (s.chip.lv Reg.SEAL_OFFSET) 0 11 * 1000)) ∧
    ((s.chip.fg.issues = false ∨ s.chip.sealed = true) → exec .sealPoint s = .next s) ∧
    (s.chip.fg.issues = true → ∀ c : Chip, c = (if s.chip.sealed then s.chip else s.chip.seal) →
      exec .crossing s = .next (s.ontoBoth ((c.runTo s.chip.fg.next).generatorFirst.cross s.dram s.chip.fg.next
        (match s.chip.fg.nextIdx with | some i => .grid i | none => .single) s.chip.fg.nextIdx id))) ∧
    (s.chip.fg.issues = false → exec .crossing s = .next s) ∧
    (∀ x rest c, s.chip.fg.explicit = x :: rest → c = s.chip.runToCycle x.instant →
      exec .explicitCrossing s = .next (s.ontoBoth (Chip.cross { c with fg := { c.fg with explicit := rest } } s.dram c.now
        .byCsn none fun e => e.respondTo x.chan 0x0202 x.tag ⟨0, 0, e.csn, instantBlock e.fg.last e.fg.tb⟩))) ∧
    (s.chip.fg.explicit = [] → exec .explicitCrossing s = .next s) ∧
    (∀ passed hi due c, s.chip.fg.immediate = some (passed, hi, due) → c = (s.chip.runToCycle due).generatorFirst →
      exec .immediateCrossing s = .next (s.ontoBoth (c.cross s.dram c.now .single none fun e =>
        ((e.wr Reg.FG_LAST_SKIP (sat32 (passed - 1))).add Reg.FG_SKIP_TOTAL (passed - 1)).raise 1 0x0204
          (it8 e.csn ++ it4 (passed - 1))))) ∧
    (s.chip.fg.immediate = none → exec .immediateCrossing s = .next s)

/-- Crossings take consecutive numbers (R31): on an isle that is no standby, each crossing that comes has the CSN of the one
before plus 1, whatever its source and whatever its commits do. -/
def Obligations.CrossingsTakeConsecutiveNumbers : Prop :=
  ∀ s : State, s.chip.pair.isle.standing = false →
    (s.chip.fg.issues = true → ∃ t, exec .crossing s = .next t ∧ t.chip.csn = s.chip.csn + 1) ∧
    (s.chip.fg.explicit ≠ [] → ∃ t, exec .explicitCrossing s = .next t ∧ t.chip.csn = s.chip.csn + 1) ∧
    (s.chip.fg.immediate ≠ none → ∃ t, exec .immediateCrossing s = .next t ∧ t.chip.csn = s.chip.csn + 1)

/-- The end of a copy-forward (R35): while PD_DRAM is on, the live records of the indices that no later accepted table commit names
are written into staging; the records unlock, and TBL_OPEN is raised with their number (R501). Where a table has none, nothing changes. -/
def Obligations.CopyForwardLeavesStagingEqualToLive : Prop :=
  ∀ (s : State) (t : Nat), 1 ≤ t → t ≤ 15 →
    (∀ f rs r, (s.chip.copyFwd.find? fun f => f.table == t) = some f →
      rs = (if s.chip.domainOn 4 then s.chip.copiedRecs f else []) →
      r = (if s.chip.domainOn 4 then s.chip.writeStaging s.dram t rs else (s.dram, s.chip)) →
      exec (.copyForwardDone t) s = .next (s.ontoBoth (r.1,
        Chip.raise { r.2 with copyFwd := r.2.copyFwd.erase f } 2 0x0301 (it4 t ++ it8 f.csn ++ it4 rs.length)))) ∧
    ((s.chip.copyFwd.find? fun f => f.table == t) = none → exec (.copyForwardDone t) s = .next s)

/-- Nothing that the host commands changes the live configuration or the CSN (R31, R32, R39): registers written, commits accepted,
maintenance begun and queries answered leave every live register value, every live record and CSN_LIVE as they are until a
crossing. -/
def Obligations.NoHostCommandChangesTheLiveConfiguration : Prop :=
  ∀ (i : Instr) (s t : State), hostCommand i = true → exec i s = .next t →
    t.chip.live = s.chip.live ∧ t.chip.tables = s.chip.tables ∧ t.chip.csn = s.chip.csn

/-! ### Time bases and external time -/

/-- The servos (R59, R60): a measurement is kept as the offset; beyond TB_STEP_THR it steps its time base by exactly that, counted in
TBn_STEP_CNT, and otherwise leaves the time alone and sets a rate within ±500 ppm (which one is free, log entry 29); without a
servo, or during a handover of the control cores (R413), it does nothing. Every other time base stays. A lost source puts an
acquiring or locked time base with a source in HOLDOVER, with its event bit; a clock follows no master any more, and a full ordinary
clock becomes one (R61); in any other state nothing is lost. -/
def Obligations.ServosStepOrSlewTheirTimeBase : Prop :=
  ∀ (s : State) (n : Nat), n < 4 → ∀ x, x = s.chip.tb n →
    (∀ off : Int, s.chip.servoOn n = true →
      (off.natAbs ≤ s.chip.lv (Reg.TB_STEP_THR n) * 1000 → ∃ t r, exec (.timeBaseStep n off) s = .next t ∧
        -512000000 ≤ r ∧ r ≤ 512000000 ∧
        t.chip.tbs = s.chip.tbs.set n { (x.measure off).noted s.chip.cycle with rate := r } ∧
        t.chip.csn = s.chip.csn ∧ t.chip.fg = s.chip.fg ∧ t.dram = s.dram) ∧
      (s.chip.lv (Reg.TB_STEP_THR n) * 1000 < off.natAbs → ∃ t, exec (.timeBaseStep n off) s = .next t ∧
        t.chip.tbs = s.chip.tbs.set n { (x.measure off).noted s.chip.cycle with
          time := ((x.time + off * (nsUnits : Int)) % (timeSpan : Int)).toNat } ∧
        t.chip.rd (Reg.TB_STEP_CNT n) = sat32 (s.chip.rd (Reg.TB_STEP_CNT n) + 1) ∧ t.chip.csn = s.chip.csn ∧
        t.dram = s.dram)) ∧
    (s.chip.servoOn n = false → ∀ off, exec (.timeBaseStep n off) s = .next s) ∧
    (∀ (clock : Bool) (ptp : PtpClock), clock = (s.chip.sourceTb n == 1 && s.chip.domainOn 1) →
      ptp = (if clock then { x.ptp with parent := none, master := !bit (s.chip.lv (Reg.TB_CFG n)) 24 } else x.ptp) →
      ((x.mode = .acquiring ∨ x.mode = .locked) → 1 ≤ s.chip.sourceTb n → s.chip.sourceTb n ≤ 3 →
        ∃ t, exec (.tbSourceLost n) s = .next t ∧ t.dram = s.dram ∧ bit (t.chip.rd (Reg.TB_EVT n)) 2 = true ∧
        t.chip.csn = s.chip.csn ∧ t.chip.cycle = s.chip.cycle ∧
        t.chip.tbs = s.chip.tbs.set n { x with mode := .holdover, inBand := 0, outBand := 0, ptp := ptp }) ∧
      (clock = true → x.mode = .holdover → exec (.tbSourceLost n) s = .next (s.onto (s.chip.setTb n { x with ptp := ptp }))) ∧
      (((x.mode ≠ .acquiring ∧ x.mode ≠ .locked) ∨ s.chip.sourceTb n = 0 ∨ 3 < s.chip.sourceTb n) →
        (clock = false ∨ x.mode ≠ .holdover) → exec (.tbSourceLost n) s = .next s))

/-- The ordinary clock of a time base with SOURCE 1 while PD_CTRL is on, on a port that is up (R61, R80, R199, R310): an announce names the
better of the master followed and the one announced, and the clock is master where, not slave-only, its own data set is better than
both (their order is the model's, log entry 29); a slave takes a synchronisation into its servo and a delay response as its
path delay, a master answers a delay request; a changed ST 2059-2 TLV is kept; a management message changes nothing. What the clock
sends, announces and synchronisations as master and delay requests as slave, goes out of its port under the next sequence
number when it falls due, and the next falls due an interval later. Without a clock, nothing. -/
def Obligations.OrdinaryClocksFollowTheirMessages : Prop :=
  ∀ (s : State) (n : Nat) (x : TimeBase) (port : Nat), n < 4 → x = s.chip.tb n → port = s.chip.ptpPort n →
    (s.chip.ptpRuns n = true → s.chip.portUp port = true →
      (∀ d best, (x.ptp.parent = none → best = d) →
        (∀ b, x.ptp.parent = some b → best = if b.grandmaster = d.grandmaster || ptpBetter d b then d else b) →
        exec (.ptpMessageReceive n (.announce d)) s = .next (s.onto (s.chip.setTb n { x with ptp := { x.ptp with
          parent := some best
          master := !bit (s.chip.lv (Reg.TB_CFG n)) 24 && ptpBetter x.ptp.own best } }))) ∧
      (∀ d, exec (.ptpMessageReceive n (.delayResp d)) s =
        .next (s.onto (s.chip.setTb n { x with ptp := { x.ptp with pathDelayNs := d } }))) ∧
      (∀ off, x.ptp.master = false → exec (.ptpMessageReceive n (.sync off)) s = .next (s.onto (s.chip.servo n off))) ∧
      (∀ off, x.ptp.master = true → exec (.ptpMessageReceive n (.sync off)) s = .next s) ∧
      (x.ptp.master = true → exec (.ptpMessageReceive n .delayReq) s = .next (s.onto (s.chip.sendPtp n .delayResp))) ∧
      (x.ptp.master = false → exec (.ptpMessageReceive n .delayReq) s = .next s) ∧
      exec (.ptpMessageReceive n .management) s = .next s ∧
      (∀ tlv, bits (s.chip.lv (Reg.TB_CFG n)) 4 2 = 1 → x.ptp.tlv ≠ tlv → ∃ t,
        exec (.ptpMessageReceive n (.metadata tlv)) s = .next t ∧ t.dram = s.dram ∧ t.chip.csn = s.chip.csn ∧
        t.chip.tbs = s.chip.tbs.set n { x with ptp := { x.ptp with tlv := tlv } }) ∧
      (∀ tlv, (bits (s.chip.lv (Reg.TB_CFG n)) 4 2 ≠ 1 ∨ x.ptp.tlv = tlv) →
        exec (.ptpMessageReceive n (.metadata tlv)) s = .next s)) ∧
    (∀ m, (s.chip.ptpRuns n = false ∨ s.chip.portUp port = false) → exec (.ptpMessageReceive n m) s = .next s) ∧
    (∀ k, s.chip.ptpSends n k = true → exec (.ptpMessageSend n k) s = .next (s.onto (s.chip.sendScheduled n k))) ∧
    (∀ k, s.chip.ptpSends n k = true → n < s.chip.tbs.length → s.chip.portUp port = true → s.chip.paused port = false →
      (s.chip.port port).backlog = [] → x.ptp.sched.find? (fun e => e.1 == k) = none →
      s.chip.nextCross = none → ∃ t w, exec (.ptpMessageSend n k) s = .next t ∧ t.dram = s.dram ∧
        t.chip.out = .ptp n k w (k == .delayReq && bit (s.chip.lv (Reg.TB_CFG n)) 25) :: s.chip.out ∧
        (k ≠ .followUp → w = (x.ptp.seq + 1) % 65536) ∧ (k = .followUp → w = x.ptp.syncSeq) ∧
        (k, s.chip.cycle + ptpCycles (x.ptp.interval k)) ∈ (t.chip.tb n).ptp.sched) ∧
    (∀ k, s.chip.ptpSends n k = false → exec (.ptpMessageSend n k) s = .next s)

/-- LTC_IN and the pulses (R73 to R77): a decoded frame gives LTC_TC, LTC_UBITS, the direction, the flags and the next UPD_CNT; without a
frame for two frame periods LTC_STATUS.VALID clears, and REVERSE is set as play turns; an active edge of FPULSE_IN is stamped; four
periods without one put every time base on FPULSE_IN in HOLDOVER; FPULSE_OUT is asserted for the first crossing that its
settings select, at its instant plus FPOUT_OFFSET, and let go at its end. With the input or output off, nothing. -/
def Obligations.TimecodeAndPulsesAreStamped : Prop :=
  ∀ s : State,
    (∀ (tc ub ago : Nat) (rev drop colour : Bool),
      (s.chip.ltcOn = true → tc < 2 ^ 32 → ub < 2 ^ 32 →
        ∃ t, exec (.ltcFrame tc ub rev drop colour ago) s = .next t ∧ t.dram = s.dram ∧ t.chip.rd Reg.LTC_TC = tc ∧
          t.chip.rd Reg.LTC_UBITS = ub ∧ t.chip.rd Reg.LTC_STATUS = 1 + 2 * rev.toNat + 4 * drop.toNat + 8 * colour.toNat +
            (bits (s.chip.rd Reg.LTC_STATUS) 16 16 + 1) % 65536 * 65536 ∧ t.chip.csn = s.chip.csn) ∧
      (s.chip.ltcOn = false → exec (.ltcFrame tc ub rev drop colour ago) s = .next s)) ∧
    (∀ st, st = s.chip.rd Reg.LTC_STATUS → s.chip.ltcOn = true →
      (∃ t, exec (.ltcLost true) s = .next t ∧ t.dram = s.dram ∧ t.chip.rd Reg.LTC_STATUS = setBit st 0 false) ∧
      exec (.ltcLost false) s = .next (s.onto ((if bit st 0 then s.chip.wr Reg.LTC_STATUS (setBit st 1 true)
        else s.chip).loseLtc 0 (bit st 0 && !bit st 1)))) ∧
    (∀ b, s.chip.ltcOn = false → exec (.ltcLost b) s = .next s) ∧
    (∀ rising ns, ns = (s.chip.tb (bits (s.chip.lv Reg.FPIN_CFG) 2 2)).ns →
      (bit (s.chip.lv Reg.FPIN_CFG) 0 = true → bit (s.chip.lv Reg.FPIN_CFG) 1 ≠ rising →
        ∃ t, exec (.fpulseInEdge rising) s = .next t ∧
          t.dram = s.dram ∧ t.chip.rd Reg.FPIN_LAST_NS = ns % 1000000000 ∧
          t.chip.rd Reg.FPIN_LAST_SEC_LO = ns / 1000000000 % 2 ^ 32 ∧ t.chip.pulses.edgeLast = some s.chip.cycle) ∧
      ((bit (s.chip.lv Reg.FPIN_CFG) 0 = false ∨ bit (s.chip.lv Reg.FPIN_CFG) 1 = rising) →
        exec (.fpulseInEdge rising) s = .next s)) ∧
    (∃ t, exec .fpulseInLoss s = .next t ∧ t.dram = s.dram ∧ t.chip.csn = s.chip.csn ∧
      ∀ n, n < 4 → n < s.chip.tbs.length → s.chip.sourceTb n = 3 →
        ((s.chip.tb n).mode = .acquiring ∨ (s.chip.tb n).mode = .locked) → (t.chip.tb n).mode = .holdover) ∧
    (∀ due, due = (s.chip.pulses.outDue.dropWhile fun d => !s.chip.pulseComes d) →
      (∀ d rest at_, bit (s.chip.lv Reg.FPOUT_CFG) 0 = true → due = d :: rest →
        at_ = ((d.instant : Int) + sext 32 (s.chip.lv Reg.FPOUT_OFFSET)).toNat →
        ∃ t, exec .fpulseOutStart s = .next t ∧ t.dram = s.dram ∧ t.chip.pulses.outHigh = true ∧ t.chip.pulses.outDone = d.csn ∧
          t.chip.pulses.outDue = rest ∧ t.chip.cycle = s.chip.cycle + s.chip.bound.cyclesTo at_ ∧
          t.chip.cycle + 800 * bits (s.chip.lv Reg.FPOUT_WIDTH) 0 10 ≤ t.chip.pulses.outEnd ∧
          (s.chip.pulses.outHigh = false → s.chip.power.pins = false →
            t.chip.out = .fpulse (!bit (s.chip.lv Reg.FPOUT_CFG) 1) :: s.chip.out)) ∧
      ((bit (s.chip.lv Reg.FPOUT_CFG) 0 = false ∨ due = []) → exec .fpulseOutStart s = .next s)) ∧
    (s.chip.pulses.outHigh = true →
      exec .fpulseOutEnd s = .next (s.onto ((s.chip.runToCycle s.chip.pulses.outEnd).drivePulse false))) ∧
    (s.chip.pulses.outHigh = false → exec .fpulseOutEnd s = .next s)

/-! ### Composition, mapping, the model and the packer -/

/-- The band that a lane has is composed and written, the lane is given another, and what waits for the band goes on (R99, R100,
R124); a band that no lane has is not finished. A fixture handed over is rendered, or not rendered where its profile fails its
check, and either way no longer under way (R134, R140); one that is not under way is not. -/
def Obligations.BandsAndFixturesAreServed : Prop :=
  ∀ s : State,
    (∀ canvas band, canvas < 16 →
      (∀ n, s.chip.frame.lanes.findIdx? (· == some (canvas, band)) = some n → ∀ r, r = s.chip.writeBand s.dram n canvas band →
        exec (.bandWritten canvas band) s = .next (s.ontoBoth (r.1, r.2.unpark)) ∧
        (canvas, band) ∉ r.2.unpark.frame.bands ∧ r.2.unpark.csn = s.chip.csn) ∧
      (s.chip.frame.lanes.findIdx? (· == some (canvas, band)) = none → exec (.bandWritten canvas band) s = .next s)) ∧
    (∀ f p, f < 131072 → p = FixRec.profile (s.chip.recAt 1 f) →
      (s.chip.domainOn 6 = true → s.chip.frame.issued.contains f = true →
        (s.chip.recState 2 p = 0 → ∃ t, exec (.fixtureHandover f) s = .next t ∧
          t = s.onto ((s.chip.noteRec 2 2 p).render s.dram f) ∧
          f ∈ t.chip.frame.done ∧ f ∉ t.chip.frame.issued ∧ t.chip.csn = s.chip.csn) ∧
        (s.chip.recState 2 p ≠ 0 → ∃ t, exec (.fixtureHandover f) s = .next t ∧
          t = s.onto ((s.chip.noteRec 2 2 p).profileFails f) ∧
          f ∈ t.chip.frame.skipped ∧ f ∉ t.chip.frame.issued ∧ t.chip.slots = s.chip.slots)) ∧
      ((s.chip.domainOn 6 = false ∨ s.chip.frame.issued.contains f = false) → exec (.fixtureHandover f) s = .next s))

/-- The packer (R191, R195 to R197, R199, R201): a universe in service that is ready is decided once in a frame, and takes the next
sequence number where its check has changed, its result is forced, its parity does not hold, a repetition is left, or its
keepalive is due; otherwise nothing is sent; terminations that were waiting for the last decision follow it. The window opens and
closes at its instants; a packet leaves its port whole, no sooner than its floor, unless a PAUSE holds the port or the window or the next crossing would
come first; while the generator is held the last packet goes out again as its keepalive falls due. -/
def Obligations.UniversesAreDecidedAndPaced : Prop :=
  ∀ s : State,
    (∀ u may, u < 49152 → may = (s.chip.domainOn 7 && decide (0 < s.chip.frame.csn) && !s.chip.frame.windowDone &&
        !s.chip.frame.decided.contains u && !s.chip.frame.corrupt.contains u && s.chip.univReady u) →
      (∀ v x chk, s.chip.serviceOf u = some v → may = true → x = s.chip.univ u →
        chk = univCheck v.univ (s.chip.slotsOf u v.slots) →
        ∃ c : Chip, exec (.universeDecide u) s = .next (s.onto c.termsDue) ∧ u ∈ c.frame.decided ∧ c.csn = s.chip.csn ∧
          ((parity8 x.lastCheck ≠ x.lastPar ∨ chk ≠ x.lastCheck ∨ x.force = true ∨ 0 < x.repeatLeft ∨
            x.base + v.kaMs * 800000 ≤ s.chip.fg.crossCycle) → (c.univ u).seq = (x.seq + 1) % 256) ∧
          (parity8 x.lastCheck = x.lastPar → chk = x.lastCheck → x.force = false → x.repeatLeft = 0 →
            s.chip.fg.crossCycle < x.base + v.kaMs * 800000 → c.univs = s.chip.univs ∧ c.ports = s.chip.ports ∧
              c.out = s.chip.out)) ∧
      ((s.chip.serviceOf u = none ∨ may = false) → exec (.universeDecide u) s = .next s)) ∧
    (s.chip.domainOn 7 = true → 0 < s.chip.frame.csn → s.chip.frame.windowDone = false →
      (s.chip.frame.windowOpen = false → ∀ c : Chip, c = s.chip.runToCycle s.chip.frame.openCycle →
        exec .emissionWindowOpen s = .next (s.onto { c with frame := { c.frame with windowOpen := true } })) ∧
      (∃ t, exec .emissionWindowClose s = .next t ∧ t = s.onto (s.chip.runToCycle s.chip.frame.closeCycle).closeWindow ∧
        t.chip.frame.windowOpen = false ∧ t.chip.frame.windowDone = true ∧ t.chip.frame.issued = [] ∧
        t.chip.frame.parked = [] ∧ t.chip.cycle = max s.chip.cycle s.chip.frame.closeCycle)) ∧
    ((s.chip.domainOn 7 = false ∨ s.chip.frame.csn = 0 ∨ s.chip.frame.windowDone = true) →
      exec .emissionWindowOpen s = .next s ∧ exec .emissionWindowClose s = .next s) ∧
    (s.chip.frame.windowOpen = true → exec .emissionWindowOpen s = .next s) ∧
    (∀ p, p < 4 →
      (∀ q at_ c goes, s.chip.nextPacket p = some q → at_ = max (s.chip.startOf p) (s.chip.floorOf p q) →
        c = s.chip.runToCycle at_ →
        goes = (s.chip.portUp p && !s.chip.paused p && s.chip.domainOn 7 && !c.meetsCrossing p q.octets.length &&
          (q.kind == .hold || s.chip.frame.windowOpen && decide (at_ < s.chip.frame.closeCycle))) →
        (goes = true → ∃ t, exec (.packetStart p) s = .next t ∧ t = s.onto (c.startPacket p q) ∧
          t.chip.out = .frame p q.octets :: s.chip.out ∧ t.chip.cycle = at_ ∧
          (t.chip.port p).queue = (s.chip.port p).queue.erase q ∧ (t.chip.port p).prevStart = at_) ∧
        (goes = false → exec (.packetStart p) s = .next s)) ∧
      (s.chip.nextPacket p = none → exec (.packetStart p) s = .next s)) ∧
    (∀ u may, u < 49152 → may = (decide (s.chip.fg.mode = .held) && s.chip.emits && s.chip.domainOn 7 &&
        s.chip.frame.windowDone && !s.chip.stillQueued u) →
      (∀ v k due c, s.chip.serviceOf u = some v → (s.chip.univ u).lastSpec = some k → may = true →
        due = (s.chip.univ u).base + v.kaMs * 800000 → c = (s.chip.runToCycle due).queuePacket u .hold due k →
        exec (.holdKeepalive u) s = .next (s.onto (if c.stillQueued u then c else c.emitted u .hold due))) ∧
      ((s.chip.serviceOf u = none ∨ (s.chip.univ u).lastSpec = none ∨ may = false) →
        exec (.holdKeepalive u) s = .next s))

/-! ### Input -/

/-- The input merge (R169 to R171): on a port that is up, for an enabled universe, a data packet with the preview flag or another start code is
discarded and counted; a first packet of a CID is tracked with its data, priority and sequence number, unless four sources
are; its data waits where it names a synchronisation address; one out of sequence is discarded; one that terminates its stream loses
its source, as 2.5 s of silence do; a synchronisation packet, or 2.5 s without one, makes the data that wait for it current.
Elsewhere nothing. -/
def Obligations.InputSourcesAreTracked : Prop :=
  ∀ (s : State),
    (∀ (p : Nat) (k : E131Packet), p < 4 → k.slots.length ≤ 512 →
      (∀ e, s.chip.domainOn 6 = true → s.chip.portUp p = true → s.chip.inputEntry p k.univ = some e →
        ((k.preview = true ∨ k.startCode ≠ 0) →
          exec (.e131DataReceive p k) s = .next (s.onto (s.chip.inc Reg.IN_DISCARD_CNT))) ∧
        (k.preview = false → k.startCode = 0 →
          (s.chip.sourceOf e k.cid = none → ∀ n, n = (s.chip.sources.filter fun x => x.entry == e && x.univ == k.univ).length →
            (n < 4 → k.terminated = false → ∃ t x, exec (.e131DataReceive p k) s = .next t ∧ t.dram = s.dram ∧
              x ∈ t.chip.sources ∧ x.entry = e ∧ x.cid = k.cid ∧ x.univ = k.univ ∧ x.prio = k.prio ∧ x.seq = k.seq ∧
              x.cycle = s.chip.cycle ∧ (k.syncAddr = 0 → x.current = k.slots ∧ x.waiting = none) ∧
              (k.syncAddr ≠ 0 → x.current = [] ∧ x.waiting = some k.slots) ∧
              t.chip.sources.length = s.chip.sources.length + 1 ∧ t.chip.csn = s.chip.csn) ∧
            (n < 4 → k.terminated = true → exec (.e131DataReceive p k) s = .next s) ∧
            (4 ≤ n → exec (.e131DataReceive p k) s = .next (s.onto (s.chip.fifthSource e k.cid)))) ∧
          (∀ x, s.chip.sourceOf e k.cid = some x →
            (staleSeq x.seq k.seq = true →
              exec (.e131DataReceive p k) s = .next (s.onto (s.chip.inc Reg.IN_DISCARD_CNT))) ∧
            (staleSeq x.seq k.seq = false → k.terminated = true → ∃ t, exec (.e131DataReceive p k) s = .next t ∧
              t = s.onto (s.chip.loseSource x 1) ∧ t.chip.sourceOf e k.cid = none) ∧
            (staleSeq x.seq k.seq = false → k.terminated = false →
              exec (.e131DataReceive p k) s = .next (s.onto (s.chip.takeData x k)))))) ∧
      ((s.chip.domainOn 6 = false ∨ s.chip.portUp p = false ∨ s.chip.inputEntry p k.univ = none) →
        exec (.e131DataReceive p k) s = .next s)) ∧
    (∀ p cid addr, p < 4 →
      (s.chip.domainOn 6 = true → s.chip.portUp p = true → exec (.e131SyncReceive p cid addr) s = .next (s.onto
        { s.chip with sources := s.chip.sources.map fun x => if x.cid == cid && x.syncAddr == addr && addr != 0 then
          { x with current := x.waiting.getD x.current, waiting := none, syncCyc := s.chip.cycle } else x })) ∧
      ((s.chip.domainOn 6 = false ∨ s.chip.portUp p = false) → exec (.e131SyncReceive p cid addr) s = .next s)) ∧
    (∀ e cid,
      (∀ x, s.chip.oldestSource e cid = some x →
        (∃ t, exec (.inputSourceTimeout e cid) s = .next t ∧ t.dram = s.dram ∧
          t.chip.cycle = max s.chip.cycle (x.cycle + 2000000000) ∧
          (∀ y, y ∈ t.chip.sources ↔ y ∈ s.chip.sources ∧ y.same x = false) ∧
          t.chip.rd Reg.IN_SRC_LOST_CNT = sat32 (s.chip.rd Reg.IN_SRC_LOST_CNT + 1)) ∧
        (x.syncAddr ≠ 0 → exec (.inputSyncTimeout e cid) s = .next (s.onto
          ((s.chip.runToCycle (x.syncCyc + 2000000000)).setSource { x with
            current := x.waiting.getD x.current, waiting := none }))) ∧
        (x.syncAddr = 0 → exec (.inputSyncTimeout e cid) s = .next s)) ∧
      (s.chip.oldestSource e cid = none →
        exec (.inputSourceTimeout e cid) s = .next s ∧ exec (.inputSyncTimeout e cid) s = .next s))

/-! ### Local ports and RDM -/

/-- The local ports (R208 to R211, R217 to R226, R322): while PD_PORTS is on, a selected frame leaves at its start, deferred and
reported behind the frame before it, with the octets in force, on an isle that drove the pins at its crossing and drives them now; without a
selected crossing for a period and 1 ms the port enters HOLD with its event, and repeats its last frame. A house channel steps
its fade once a PWM period and drives its gate, which stays low while the channel is disabled or the isle does not drive;
64 frames without an evaluated pulse give the verdict STARVED, but not while calibration holds the channel (R386); a reading of the NTC in range is taken, and one out of range
leaves the temperature and sets the fault. Otherwise nothing changes. -/
def Obligations.LocalPortsSendHoldAndRepeat : Prop :=
  ∀ s : State,
    (∀ n x, n < 16 → x = s.chip.dmxPort n →
      (∀ st goes, s.chip.domainOn 11 = true → x.selected = some st → goes = (st.sent && s.chip.drives) →
        ∃ t, exec (.lpFrameStart (.dmx n)) s = .next t ∧ t.dram = s.dram ∧
        (goes = true → s.chip.power.pins = false →
          .dmx n (s.chip.dmxOctets n) (dmxForm (s.chip.lv (Reg.DMX_TIMING n))) ∈ t.chip.out) ∧
        (t.chip.dmxPort n).selected = none ∧ (t.chip.dmxPort n).frame.octets = s.chip.dmxOctets n ∧
        t.chip.cycle = max s.chip.cycle (if st.cycle < x.frame.ends then x.frame.ends + 40000 else st.cycle) ∧
        (st.cycle < x.frame.ends → bit (t.chip.rd (Reg.DMX_EVT n)) 0 = true) ∧
        (goes = true → t.chip.rd (Reg.DMX_FRAME_CNT n) = (s.chip.rd (Reg.DMX_FRAME_CNT n) + 1) % 2 ^ 32) ∧
        (goes = false → t.chip.rd (Reg.DMX_FRAME_CNT n) = s.chip.rd (Reg.DMX_FRAME_CNT n))) ∧
      ((s.chip.domainOn 11 = false ∨ x.selected = none) → exec (.lpFrameStart (.dmx n)) s = .next s) ∧
      (s.chip.domainOn 11 = true → 0 < x.frame.period → x.held = false → x.selected = none →
        ∃ t, exec (.lpHold (.dmx n)) s = .next t ∧ t.dram = s.dram ∧
        (t.chip.dmxPort n).held = true ∧ bit (t.chip.rd (Reg.DMX_EVT n)) 2 = true ∧
        t.chip.cycle = max s.chip.cycle (x.frame.start + x.frame.period + 800000)) ∧
      ((s.chip.domainOn 11 = false ∨ x.frame.period = 0 ∨ x.held = true ∨ x.selected ≠ none) →
        exec (.lpHold (.dmx n)) s = .next s) ∧
      (s.chip.domainOn 11 = true → x.held = true → x.selected = none → ∀ f, f = x.frame.repeated s.chip.cycle →
        exec (.lpHoldRepeat (.dmx n)) s = .next (s.onto
          (((s.chip.runToCycle (x.frame.start + x.frame.period)).setDmx n { x with frame := f }).sendDmx n f))) ∧
      ((s.chip.domainOn 11 = false ∨ x.held = false ∨ x.selected ≠ none) →
        exec (.lpHoldRepeat (.dmx n)) s = .next s)) ∧
    (∀ n x, n < 32 → x = s.chip.pixPort n →
      (∀ st goes, s.chip.domainOn 11 = true → x.selected = some st → goes = (st.sent && s.chip.drives) →
        ∃ t, exec (.lpFrameStart (.pix n)) s = .next t ∧ t.dram = s.dram ∧
        (goes = true → s.chip.power.pins = false → ∃ form, .pix n (s.chip.pixOctets n) form ∈ t.chip.out) ∧
        (t.chip.pixPort n).selected = none ∧ (t.chip.pixPort n).frame.octets = s.chip.pixOctets n ∧
        t.chip.cycle = max s.chip.cycle (if st.cycle < x.frame.ends then x.frame.ends + 40000 else st.cycle) ∧
        (st.cycle < x.frame.ends → bit (t.chip.rd (Reg.PIX_EVT n)) 0 = true) ∧
        (goes = true → t.chip.rd (Reg.PIX_FRAME_CNT n) = (s.chip.rd (Reg.PIX_FRAME_CNT n) + 1) % 2 ^ 32) ∧
        (goes = false → t.chip.rd (Reg.PIX_FRAME_CNT n) = s.chip.rd (Reg.PIX_FRAME_CNT n))) ∧
      ((s.chip.domainOn 11 = false ∨ x.selected = none) → exec (.lpFrameStart (.pix n)) s = .next s) ∧
      (s.chip.domainOn 11 = true → 0 < x.frame.period → x.held = false → x.selected = none →
        ∃ t, exec (.lpHold (.pix n)) s = .next t ∧ t.dram = s.dram ∧
        (t.chip.pixPort n).held = true ∧ bit (t.chip.rd (Reg.PIX_EVT n)) 2 = true ∧
        t.chip.cycle = max s.chip.cycle (x.frame.start + x.frame.period + 800000)) ∧
      ((s.chip.domainOn 11 = false ∨ x.frame.period = 0 ∨ x.held = true ∨ x.selected ≠ none) →
        exec (.lpHold (.pix n)) s = .next s) ∧
      (s.chip.domainOn 11 = true → x.held = true → x.selected = none → ∀ f, f = x.frame.repeated s.chip.cycle →
        exec (.lpHoldRepeat (.pix n)) s = .next (s.onto
          (((s.chip.runToCycle (x.frame.start + x.frame.period)).setPix n { x with frame := f }).sendPix n f))) ∧
      ((s.chip.domainOn 11 = false ∨ x.held = false ∨ x.selected ≠ none) →
        exec (.lpHoldRepeat (.pix n)) s = .next s)) ∧
    (∀ n x cfg, n < 16 → x = s.chip.hc n → cfg = s.chip.lv (Reg.HC_CFG n) →
      (∀ sense, s.chip.domainOn 11 = true → ∃ t on, exec (.hcPwmPeriod n sense) s = .next t ∧ t.dram = s.dram ∧
        (s.chip.power.pins = false → .gate n on (bit cfg 13) ∈ t.chip.out) ∧ (t.chip.hc n).fadeLeft = x.fadeLeft - 1 ∧
        (t.chip.hc n).level =
          (if x.fadeLeft = 0 then (x.target : Rat) else x.level + ((x.target : Rat) - x.level) / x.fadeLeft) ∧
        (bit cfg 0 = false → on = 0 ∧ (t.chip.hc n).duty = 0) ∧ (s.chip.drives = false → on = 0) ∧
        (∀ at_, x.pwmAt = some at_ → t.chip.cycle = max s.chip.cycle (at_ + 32000))) ∧
      (∀ sense, s.chip.domainOn 11 = false → exec (.hcPwmPeriod n sense) s = .next s) ∧
      (s.chip.domainOn 11 = true → bit cfg 11 = true → 64 ≤ x.unevaluated → x.calHold = false →
        ∃ t, exec (.hcDiagStarved n) s = .next t ∧ t.dram = s.dram ∧ (t.chip.hc n).verdict = 3 ∧
          (t.chip.hc n).duty = x.duty) ∧
      ((s.chip.domainOn 11 = false ∨ bit cfg 11 = false ∨ x.unevaluated < 64 ∨ x.calHold = true) →
        exec (.hcDiagStarved n) s = .next s) ∧
      (∀ code r, r = ntcTemp (bits (s.chip.lv (Reg.HC_NTC n)) 0 16) (bits (s.chip.lv (Reg.HC_NTC n)) 16 16) code →
        s.chip.domainOn 11 = true →
        (∀ k, r = some k → exec (.hcNtcRefresh n code) s =
          .next (s.onto (s.chip.setHc n { x with temp := k, ntcFault := false }))) ∧
        (r = none → x.ntcFault = false → ∃ t, exec (.hcNtcRefresh n code) s = .next t ∧ t.dram = s.dram ∧
          (t.chip.hc n).ntcFault = true ∧ (t.chip.hc n).temp = x.temp ∧ bit (t.chip.rd (Reg.HC_EVT n)) 1 = true) ∧
        (r = none → x.ntcFault = true → exec (.hcNtcRefresh n code) s = .next s)) ∧
      (∀ code, s.chip.domainOn 11 = false → exec (.hcNtcRefresh n code) s = .next s))

/-- RDM (R212, R215, R216, R312, R495): the commands queue a request on the context's port, its parameter data from the payload or,
beyond 24 octets, from LPDDR5X, or withdraw one that waits; a host's request 1 s old is dropped, also where it would start; a request starts only on a
port in use and free, and where its reservation fits before the next frame; its response ends it, as does none, or one that
begins too late or behind a short break, which counts likewise for the answer to a mute but leaves discovery as it is; a request
that waits is found on the port that it was queued on; a sensor poll comes POLL_S after the last and queues its GETs, and an ACK_TIMER puts
one off. -/
def Obligations.RdmRequestsRunInTheirGaps : Prop :=
  (∀ (s : State) (h : CmdHdr) (p q : Nat), payloadOf h p = q → s.chip.takes h false = true →
    (∀ ctx n c data, ctx = pl q 0 0 10 → n = min 231 (pl q 0 24 8) →
      c = (if n ≤ 24 then s.chip else s.chip.noteRead 0 8 (pl q 8 0 64) n) →
      data = (if n ≤ 24 then recBytes q 0x10 n else s.chip.fetch s.dram (pl q 8 0 64) n) →
      exec (.portRdmRequest h p) s = .next (s.onto ((c.rdmQueue (CtxRec.port (s.chip.recAt 14 ctx))
        ⟨ctx, h.tag, true, .request (pl q 0 16 8) (pl q 4 16 16) (pl q 4 0 16) data, s.chip.cycle, false⟩).complete
        h 0x0610 0 []))) ∧
    (∀ ctx, ctx = pl q 0 0 10 → exec (.portRdmDiscover h p) s = .next (s.onto
      ((s.chip.rdmQueue (CtxRec.port (s.chip.recAt 14 ctx))
        ⟨ctx, h.tag, true, .discover (bit q 10) none [(0, 2 ^ 48 - 2)], s.chip.cycle, false⟩).complete h 0x0611 0 []))) ∧
    (∀ ctx, ctx = pl q 0 16 10 →
      (∀ r, s.chip.rdmWaiting ctx (pl q 0 0 16) = some r → exec (.portRdmAbort h p) s = .next (s.onto
        ((s.chip.rdmDrop r.1 r.2).complete h 0x0612 0 []))) ∧
      (s.chip.rdmWaiting ctx (pl q 0 0 16) = none →
        exec (.portRdmAbort h p) s = .next (s.onto (s.chip.decline h 0x0612 ⟨2, 0, 0⟩))))) ∧
  (∀ (s : State) (n : Nat) (x : DmxPort), n < 16 → x = s.chip.dmxPort n →
    (∀ r rest m at_ old may, x.queue = r :: rest → m = s.chip.rdmNext n ((x.trans + 1) % 256) r →
      at_ = max s.chip.cycle (max x.frame.ends x.busyEnd) →
      old = (r.host && !r.started && decide (r.accepted + 800000000 ≤ at_)) →
      may = (s.chip.drives && bit (s.chip.lv (Reg.DMX_CFG n)) 0 && bit (s.chip.lv (Reg.DMX_CFG n)) 1 && x.active.isNone) →
      (old = true → exec (.rdmRequestStart n) s = .next (s.onto (s.chip.rdmDrop n r))) ∧
      (old = false → may = false → exec (.rdmRequestStart n) s = .next s) ∧
      (old = false → may = true → s.chip.nextDmx n < at_ + 800 * (188 + 44 * m.1.length) + 11440000 + 40000 →
        exec (.rdmRequestStart n) s = .next s) ∧
      (old = false → may = true → at_ + 800 * (188 + 44 * m.1.length) + 11440000 + 40000 ≤ s.chip.nextDmx n → ∃ t,
        exec (.rdmRequestStart n) s = .next t ∧ t.dram = s.dram ∧
        (s.chip.power.pins = false → .rdm n m.1 ∈ t.chip.out) ∧ t.chip.cycle = at_ ∧
        (t.chip.dmxPort n).active = (if m.2 then some r else none) ∧
        (t.chip.dmxPort n).busyEnd = at_ + 800 * (188 + 44 * m.1.length))) ∧
    (x.queue = [] → exec (.rdmRequestStart n) s = .next s) ∧
    (∀ r by_, x.active = some r → by_ = x.busyEnd + 2240000 →
      exec (.rdmResponseTimeout n) s = .next (s.onto ((s.chip.runToCycle by_).rdmTimeout n r)) ∧
      (∀ (brk : Nat) (octets : List Byte), octets.length ≤ 257 → ∀ c : Chip, c = s.chip.runToCycle x.busyEnd →
        (by_ < c.responseBegan brk octets.length →
          exec (.rdmResponseReceive n brk octets) s = .next (s.onto (c.rdmTimeout n r))) ∧
        (c.responseBegan brk octets.length ≤ by_ →
          (∀ b todo, r.job = .discover b none todo →
            exec (.rdmResponseReceive n brk octets) s = .next (s.onto (c.rdmBranch n r todo octets))) ∧
          ((∀ b todo, r.job ≠ .discover b none todo) →
            (brk < 96 → (∀ b u todo, r.job ≠ .discover b (some u) todo) →
              exec (.rdmResponseReceive n brk octets) s = .next (s.onto ((c.runToCycle by_).rdmTimeout n r))) ∧
            (∀ b u todo d, brk < 96 → r.job = .discover b (some u) todo → d = c.runToCycle by_ →
              exec (.rdmResponseReceive n brk octets) s = .next (s.onto
                ((((((d.rdmIdle n).inc (Reg.DMX_RDM_ERR_CNT n)).rdmRecord n r 1 []).rdmFailed n r 1).rdmRecord n r 5
                  (beBytes 6 u)).rdmOn n r none todo))) ∧
            (96 ≤ brk → exec (.rdmResponseReceive n brk octets) s = .next (s.onto (c.rdmResponse n r octets))))) ∧
        ∃ t, exec (.rdmResponseReceive n brk octets) s = .next t ∧ (t.chip.dmxPort n).active = none)) ∧
    (x.active = none → exec (.rdmResponseTimeout n) s = .next s ∧ ∀ (brk : Nat) (octets : List Byte), octets.length ≤ 257 →
      exec (.rdmResponseReceive n brk octets) s = .next s)) ∧
  (∀ (s : State) (ctx : Nat), ctx < 1024 →
    (CtxRec.en (s.chip.recAt 14 ctx) = true → s.chip.domainOn 11 = true → ∀ c d : Chip,
      c = s.chip.runToCycle (s.chip.pollDue ctx) → d = { c with rdmPolled := setNat c.rdmPolled ctx (c.cycle + 1) } →
      exec (.rdmSensorPoll ctx) s = .next (s.onto ((s.chip.sensorsNamed ctx).foldl (fun c k => c.pollSensor ctx k) d))) ∧
    ((CtxRec.en (s.chip.recAt 14 ctx) = false ∨ s.chip.domainOn 11 = false) → exec (.rdmSensorPoll ctx) s = .next s) ∧
    (∀ t l c, (s.chip.putOff ctx).map (·.2) = t :: l → c = s.chip.runToCycle (l.foldl min t) →
      exec (.rdmAckTimerExpire ctx) s = .next (s.onto (((s.chip.putOff ctx).filter fun e => e.2 ≤ c.cycle).foldl (fun c e =>
        (c.mapSensor ctx e.1 fun x => { x with ackAt := none }).pollSensor ctx e.1) c))) ∧
    (s.chip.putOff ctx = [] → exec (.rdmAckTimerExpire ctx) s = .next s) ∧
    (∀ tag,
      (∀ r, s.chip.rdmWaiting ctx tag = some r → exec (.rdmRequestExpire ctx tag) s = .next (s.onto
        ((s.chip.runToCycle (r.2.accepted + 800000000)).rdmDrop r.1 r.2))) ∧
      (s.chip.rdmWaiting ctx tag = none → exec (.rdmRequestExpire ctx tag) s = .next s)))

/-! ### Network ports and streams -/

/-- A frame received while its port is up meets the tests of R237 in their order, and the first that it fails counts it: shorter
than 64 octets, longer than NETp_MAXLEN, FCS, tag, destination; one that passes is counted with its octets and delivered to its
row. A PAUSE holds the port from the end of the frame on the wire for its quanta, a further one from its receipt, one of no time ends it and re-arms the
watchdog, as one that ends before the frame on the wire does ends it, and one while that is tripped is counted only; the pause ends at its instant, the watchdog ends it after LIMIT and
re-arms after LIMIT without one (R243, R244). A change of the link sets its event bit and loses what waited (R199, R251). Where the link, the
domain or the pause is not there, nothing changes. -/
def Obligations.ReceivedFramesAndPausesAreServed : Prop :=
  ∀ (s : State) (p : Nat) (x : NetPort), p < 5 → x = s.chip.port p →
    (∀ f body, body = f.take (f.length - 4) →
      (s.chip.portUp p = false → exec (.netFrameReceive p f) s = .next s) ∧
      (s.chip.portUp p = true →
        (f.length < 64 → exec (.netFrameReceive p f) s = .next (s.onto (s.chip.cntAdd p 0xA0 1))) ∧
        (64 ≤ f.length → bits (s.chip.lv (Reg.NET_MAXLEN p)) 0 14 < f.length →
          exec (.netFrameReceive p f) s = .next (s.onto (s.chip.cntAdd p 0xA4 1))) ∧
        (64 ≤ f.length → f.length ≤ bits (s.chip.lv (Reg.NET_MAXLEN p)) 0 14 →
          (ofLE (f.drop (f.length - 4)) ≠ crc32 body →
            exec (.netFrameReceive p f) s = .next (s.onto (s.chip.cntAdd p 0xA8 1))) ∧
          (ofLE (f.drop (f.length - 4)) = crc32 body →
            (s.chip.vlanPasses p (frameHead body) = false →
              exec (.netFrameReceive p f) s = .next (s.onto (s.chip.cntAdd p 0xAC 1))) ∧
            (s.chip.vlanPasses p (frameHead body) = true → s.chip.dstPasses p (frameHead body).dst = false →
              exec (.netFrameReceive p f) s = .next (s.onto (s.chip.cntAdd p 0xB0 1))) ∧
            (s.chip.vlanPasses p (frameHead body) = true → s.chip.dstPasses p (frameHead body).dst = true →
              exec (.netFrameReceive p f) s =
                .next (s.ontoBoth (((s.chip.cntAdd p 0x80 1).cntAdd p 0x88 f.length).deliver s.dram p f.length body))))))) ∧
    (∀ quanta ends starts, quanta < 65536 → ends = s.chip.cycle + ceilDiv (quanta * 4096) (s.chip.portRate p) →
      starts = max s.chip.cycle x.txEnd →
      (s.chip.portUp p = false → exec (.pauseReceive p quanta) s = .next s) ∧
      (s.chip.portUp p = true → quanta = 0 → ∃ t, exec (.pauseReceive p quanta) s = .next t ∧
        t = s.onto (((s.chip.endPause p).rearm p 0).cntAdd p 0xC0 1) ∧ (t.chip.port p).pauseEnd = none ∧
        (t.chip.port p).tripped = none) ∧
      (s.chip.portUp p = true → 0 < quanta → x.tripped ≠ none → exec (.pauseReceive p quanta) s =
        .next (s.onto ((s.chip.setPort p { x with lastPause := s.chip.cycle }).cntAdd p 0xC4 1))) ∧
      (s.chip.portUp p = true → 0 < quanta → x.tripped = none → x.pauseEnd ≠ none →
        ((x.heldAt < ends ∨ x.heldAt ≤ s.chip.cycle) → exec (.pauseReceive p quanta) s =
          .next (s.onto ((s.chip.cntAdd p 0xC0 1).setPort p { x with pauseEnd := some ends, lastPause := s.chip.cycle }))) ∧
        (ends ≤ x.heldAt → s.chip.cycle < x.heldAt →
          exec (.pauseReceive p quanta) s = .next (s.onto ((s.chip.cntAdd p 0xC0 1).endPause p)))) ∧
      (s.chip.portUp p = true → 0 < quanta → x.tripped = none → x.pauseEnd = none →
        (ends ≤ starts → exec (.pauseReceive p quanta) s = .next (s.onto (s.chip.cntAdd p 0xC0 1))) ∧
        (starts < ends → ∃ t, exec (.pauseReceive p quanta) s = .next t ∧ t.dram = s.dram ∧
          (t.chip.port p).pauseEnd = some ends ∧ (t.chip.port p).heldAt = starts ∧
          t.chip.cntOf p 0xC0 = sat32 (s.chip.cntOf p 0xC0 + 1) ∧ t.chip.csn = s.chip.csn))) ∧
    (∀ e, x.pauseEnd = some e →
      (∃ t, exec (.pauseExpire p) s = .next t ∧ t.dram = s.dram ∧ (t.chip.port p).pauseEnd = none ∧
        t.chip.cycle = max s.chip.cycle e) ∧
      (∀ n f, s.chip.limitOf p = some n → x.pauseFrom = some f →
        (f + n ≤ e → ∃ t, exec (.netPauseWatchdog p) s = .next t ∧ t.dram = s.dram ∧ (t.chip.port p).pauseEnd = none ∧
          (t.chip.port p).tripped = some (max s.chip.cycle (f + n)) ∧ bit (t.chip.rd (Reg.NET_EVT p)) 1 = true) ∧
        (e < f + n → exec (.netPauseWatchdog p) s = .next s))) ∧
    (x.pauseEnd = none → exec (.pauseExpire p) s = .next s) ∧
    ((s.chip.limitOf p = none ∨ x.pauseFrom = none ∨ x.pauseEnd = none) → exec (.netPauseWatchdog p) s = .next s) ∧
    (x.tripped ≠ none → ∃ t, exec (.netPauseRearm p) s = .next t ∧ t.dram = s.dram ∧
      (t.chip.port p).tripped = none ∧ bit (t.chip.rd (Reg.NET_EVT p)) 2 = true) ∧
    (x.tripped = none → exec (.netPauseRearm p) s = .next s) ∧
    (∀ eee may an, may = (!x.link && bit (s.chip.lv (Reg.NET_MODE p)) 5 && s.chip.domainOn (portDomain p)) →
      an = (eee && decide (p < 4) && bit (s.chip.lv (Reg.NET_MODE p)) 4 && bit (s.chip.lv (Reg.NET_EEE p)) 0) →
      (may = true → exec (.netLinkChange p true eee) s = .next (s.onto (s.chip.inCycle fun c =>
        ((c.setPort p { x with link := true, eeeAn := an, lldpAt := s.chip.cycle }).setEvt (Reg.NET_EVT p) 1).raise
          (32 + p) 0x1001 (it4 p ++ it4 1 ++ it8 s.chip.csn)))) ∧
      (may = false → exec (.netLinkChange p true eee) s = .next s) ∧
      (x.link = true → ∃ t, exec (.netLinkChange p false eee) s = .next t ∧ t.dram = s.dram ∧
        (t.chip.port p).link = false ∧ (t.chip.port p).pauseEnd = none ∧ (t.chip.port p).queue = [] ∧
        (t.chip.port p).tripped = none ∧ bit (t.chip.rd (Reg.NET_EVT p)) 0 = true) ∧
      (x.link = false → exec (.netLinkChange p false eee) s = .next s))

/-- What a port sends beside the show (R199, R239, R241, R242, R254, R277, R311): on a port that is up the membership reports that are
due again, and LLDP, 30 s after the one before; the frame of a transmit job, whose entry is taken first, or TX_JOB_FAILED with cause 1 where its port is
down and 2 where its frame cannot be fetched; a solicitation, up to three 100 ms apart and then NO_RESPONSE. A port that
may use low-power idle enters it where nothing waits and nothing that it knows of is due within its wake time and 2 µs, and leaves it.
Otherwise nothing. -/
def Obligations.PortsSendReportsJobsAndSolicitations : Prop :=
  (∀ (s : State) (p : Nat) (x : NetPort), p < 5 → x = s.chip.port p →
    (s.chip.portUp p = true → exec (.membershipReportRepeat p) s = .next (s.onto
      (x.reports.foldl (fun c e => c.sendReport p e.1 e.2) (s.chip.setPort p { x with reports := [] })))) ∧
    (s.chip.portUp p = false → exec (.membershipReportRepeat p) s = .next s) ∧
    (∀ c, s.chip.portUp p = true → bit (s.chip.lv (Reg.NET_MODE p)) 8 = true → c = s.chip.runToCycle x.lldpAt →
      exec (.lldpSend p) s = .next (s.onto ((c.setPort p { x with lldpAt := c.cycle + 24000000000 }).sendBehind p 60
        (.lldp p 120 (s.chip.lldpWake p))))) ∧
    ((s.chip.portUp p = false ∨ bit (s.chip.lv (Reg.NET_MODE p)) 8 = false) → exec (.lldpSend p) s = .next s) ∧
    (∀ may c free, may = (s.chip.lpiAllowed p && !s.chip.lpiNow p && x.queue.isEmpty && x.backlog.isEmpty) →
      c = s.chip.runToCycle (x.txEnd + 800 * bits (s.chip.lv (Reg.NET_EEE p)) 8 8) →
      free = (match c.nextSend p with | none => true | some t => decide (c.cycle + c.wakeCycles p + 1600 ≤ t)) →
      (may = true → free = true →
        exec (.lpiEnter p) s = .next (s.onto ((c.setPort p { x with lpiTx := true }).cntAdd p 0xD0 1))) ∧
      (may = true → free = false → exec (.lpiEnter p) s = .next (s.onto c)) ∧
      (may = false → exec (.lpiEnter p) s = .next s)) ∧
    exec (.lpiWake p) s = .next (s.onto (s.chip.setPort p { x with lpiTx := false })) ∧
    (∀ q r c, x.solicits = q :: r → c = s.chip.runToCycle (q.since + 80000000) →
      (q.tries < 3 → ∀ q', q' = { q with tries := q.tries + 1, since := c.cycle } → exec (.neighbourSolicitRetry p) s =
        .next (s.onto ((c.setPort p { x with solicits := r ++ [q'] }).solicit p q'))) ∧
      (3 ≤ q.tries → exec (.neighbourSolicitRetry p) s = .next (s.onto
        ((c.setPort p { x with solicits := r }).respondTo q.chan 0x0512 q.tag ⟨0xD, 0, s.chip.csn, []⟩)))) ∧
    (x.solicits = [] → exec (.neighbourSolicitRetry p) s = .next s)) ∧
  (∀ (s : State) (h : CmdHdr) (p q port : Nat) (v6 : Bool) (k : Solicit), payloadOf h p = q → s.chip.takes h false = true →
    port = min 4 (pl q 0 0 3) → v6 = bit (pl q 0 0 32) 3 →
    k = ⟨some h.chan, h.tag, v6, ofBE (leBytes (if v6 then 16 else 4) (q / 2 ^ 32)), 1, s.chip.cycle⟩ →
    exec (.netNeighbourResolve h p) s = .next (s.onto
      ((s.chip.setPort port { s.chip.port port with solicits := (s.chip.port port).solicits ++ [k] }).solicit port k))) ∧
  (∀ (s : State) (r : Nat), r < 256 →
    (∀ e p c, s.chip.frontEntry r 2 = some e → p = min 4 (bits e 78 3) →
      c = (if (s.chip.ring r).taken then s.chip else s.chip.takeEntry r) →
      (c.portUp p = false → ∀ l, exec (.txJobSend r l) s = .next (s.onto (c.jobFailed r p 1))) ∧
      (c.portUp p = true → exec (.txJobSend r none) s = .next (s.onto (c.jobFailed r p 2))) ∧
      (∀ l, c.portUp p = true → exec (.txJobSend r (some l)) s = .next (s.onto (c.sendJob r p e l)))) ∧
    (s.chip.frontEntry r 2 = none → ∀ l, exec (.txJobSend r l) s = .next s))

/-- A stream's packets (R247 to R250): one of a path in use that fails a test is dropped and counted, and only the first of a frame
raises its event; one that passes is counted on its path, which it brings up, and written into the frame of its timestamp, whose
last packet makes it the stream's latest. The older of two open frames is discarded MERGE_US after the newer began; a path in use
that is silent for 100 ms is down. A path not in use, or whose port is down (R23), takes nothing. -/
def Obligations.StreamsTakeTheirPackets : Prop :=
  ∀ (s : State) (i : Nat) (b : Bool) (x : Stream), i < 16 → x = s.chip.stream i →
    (∀ k, s.chip.pathOn i b = true → s.chip.portUp (StreamRec.port (s.chip.recAt 15 i) b) = true →
      (∀ n, packetFault (s.chip.recAt 15 i) k = some n →
        exec (.videoPacketReceive i b k) s = .next (s.onto (s.chip.formatDrop i b n))) ∧
      (packetFault (s.chip.recAt 15 i) k = none → ∃ t, exec (.videoPacketReceive i b k) s = .next t ∧
        t = s.ontoBoth (s.chip.ingest s.dram i b k) ∧
        t.chip.rd (if b then Reg.STR_B_PKTS i else Reg.STR_A_PKTS i) =
          (s.chip.rd (if b then Reg.STR_B_PKTS i else Reg.STR_A_PKTS i) + 1) % 2 ^ 32 ∧
        (if b then (t.chip.stream i).upB else (t.chip.stream i).upA) = true ∧
        (if b then (t.chip.stream i).downB else (t.chip.stream i).downA) = false ∧
        t.chip.csn = s.chip.csn ∧ t.chip.cycle = s.chip.cycle)) ∧
    (∀ k, (s.chip.pathOn i b = false ∨ s.chip.portUp (StreamRec.port (s.chip.recAt 15 i) b) = false) →
      exec (.videoPacketReceive i b k) s = .next s) ∧
    (∀ n f rest, x.newerFrom = some n → x.frames = f :: rest →
      exec (.streamMergeTimeout i) s = .next (s.onto ((s.chip.runToCycle (n +
        800 * StreamRec.mergeUs (s.chip.recAt 15 i))).discardFrame i f))) ∧
    ((x.newerFrom = none ∨ x.frames = []) → exec (.streamMergeTimeout i) s = .next s) ∧
    (s.chip.pathOn i b = true → (if b then x.downB else x.downA) = false →
      ∃ t, exec (.streamPathDown i b) s = .next t ∧ t.dram = s.dram ∧
        (if b then (t.chip.stream i).downB else (t.chip.stream i).downA) = true ∧
        (if b then (t.chip.stream i).upB else (t.chip.stream i).upA) = false ∧
        bit (t.chip.rd (Reg.STR_EVT i)) 2 = true ∧
        t.chip.cycle = max s.chip.cycle ((if b then x.lastB else x.lastA) + 80000000)) ∧
    ((s.chip.pathOn i b = false ∨ (if b then x.downB else x.downA) = true) → exec (.streamPathDown i b) s = .next s)

/-! ### The pair -/

/-- The Strait link while it is up (R328, R329), its sequence numbers and lanes: a frame whose octets fail their check, or a data
frame out of sequence, is answered with a NAK of the number expected and brings nothing; one in sequence is acknowledged, advances the
number and is delivered; an acknowledgement frees the kept frames and the waiting commits up to its number; a NAK has every kept
frame from its number on sent again, and counted; a silent link goes down with its event and is counted; the first failed
traffic lane leaves one at half rate, stopping a calibration of the spare (R387, R496), and the second takes the link down. With PD_STRAIT off, or the link down, nothing changes.
Which frames are numbered is the model's choice (log entry 35). -/
def Obligations.LinkFollowsItsFrames : Prop :=
  ∀ (s : State) (p : Pair), p = s.chip.pair →
    (s.chip.domainOn 10 = true → p.linkUp = true →
      (∀ seq octets k, linkCheck seq octets = false → ∃ t, exec (.straitLinkFrameReceive seq octets k) s = .next t ∧
        t.dram = s.dram ∧ t.chip.pair = p ∧ t.chip.out = .linkNak ((p.rxSeq + 1) % 2 ^ 32) :: s.chip.out ∧
        t.chip.rd Reg.LINK_CRC_ERR = sat32 (s.chip.rd Reg.LINK_CRC_ERR + 1)) ∧
      (∀ seq octets k, linkCheck seq octets = true → k ≠ .keepalive → (∀ q, k ≠ .ack q) → (∀ q, k ≠ .nak q) →
        (seq ≠ (p.rxSeq + 1) % 2 ^ 32 → ∃ t, exec (.straitLinkFrameReceive seq octets k) s = .next t ∧ t.dram = s.dram ∧
          t.chip.pair = { p with frameCsn := s.chip.csn } ∧
          t.chip.out = .linkNak ((p.rxSeq + 1) % 2 ^ 32) :: s.chip.out) ∧
        (seq = (p.rxSeq + 1) % 2 ^ 32 → exec (.straitLinkFrameReceive seq octets k) s =
          .next (s.onto (s.chip.inCycle fun c =>
            ((c.setPair { p with frameCsn := c.csn, rxSeq := seq }).emit (.linkAck seq)).deliverLink k)))) ∧
      (∀ seq octets, linkCheck seq octets = true → ∃ t, exec (.straitLinkFrameReceive seq octets .keepalive) s = .next t ∧
        t.dram = s.dram ∧ t.chip.pair = { p with frameCsn := s.chip.csn } ∧ t.chip.out = s.chip.out) ∧
      (∀ seq octets q, linkCheck seq octets = true → ∃ t, exec (.straitLinkFrameReceive seq octets (.ack q)) s = .next t ∧
        t.dram = s.dram ∧ t.chip.pair.acked = q ∧
        t.chip.pair.mirrorWait = (p.mirrorWait.dropWhile fun w => seqUpTo w.seq q) ∧
        (p.mirrorWait = [] → t.chip.pair.keep = p.keep.filter fun x => !seqUpTo x.1 q)) ∧
      (∀ seq octets q, linkCheck seq octets = true → ∃ t, exec (.straitLinkFrameReceive seq octets (.nak q)) s = .next t ∧
        t.dram = s.dram ∧ t.chip.pair = { p with frameCsn := s.chip.csn } ∧
        (∀ x, x ∈ p.keep → seqUpTo q x.1 = true → .link x.1 x.2 ∈ t.chip.out) ∧
        t.chip.rd Reg.LINK_RETRY_CNT =
          sat32 (s.chip.rd Reg.LINK_RETRY_CNT + (p.keep.filter fun x => seqUpTo q x.1).length)) ∧
      (∃ t, exec .straitLinkSilent s = .next t ∧ t.dram = s.dram ∧ t.chip.pair.linkUp = false ∧ t.chip.pair.keep = [] ∧
        t.chip.pair.mirrorOk = false ∧ t.chip.pair.isle = p.isle ∧ bit (t.chip.rd Reg.PAIR_EVT) 3 = true ∧
        t.chip.rd Reg.LINK_DOWN_CNT = sat32 (s.chip.rd Reg.LINK_DOWN_CNT + 1)) ∧
      (∃ t, exec .straitKeepalive s = .next t ∧ t.dram = s.dram ∧ t.chip.out = .linkKeepalive :: s.chip.out ∧
        t.chip.pair = p) ∧
      (∀ l, l < 3 → p.laneGood.getD l false = true →
        (l = p.spare → ∃ t, exec (.straitLaneFail l) s = .next t ∧ t.dram = s.dram ∧
          t.chip.pair = { p with laneGood := p.laneGood.set l false }) ∧
        (l ≠ p.spare → p.laneGood.all id = true → ∀ k,
          k = { p with laneGood := p.laneGood.set l false, halfRate := true, failedLane := some l } →
          exec (.straitLaneFail l) s = .next (s.onto (s.chip.inCycle fun c => (c.setPair k).stopSpare)) ∧
          (s.chip.spareCalibrates = false → ∃ t, exec (.straitLaneFail l) s = .next t ∧ t.dram = s.dram ∧ t.chip.pair = k)) ∧
        (l ≠ p.spare → p.laneGood.all id = false → ∃ t, exec (.straitLaneFail l) s = .next t ∧ t.dram = s.dram ∧
          t.chip.pair.linkUp = false ∧ bit (t.chip.rd Reg.PAIR_EVT) 3 = true)) ∧
      (∀ l, l < 3 → p.laneGood.getD l false = false → exec (.straitLaneFail l) s = .next s)) ∧
    (s.chip.domainOn 10 = false ∨ p.linkUp = false →
      (∀ seq octets k, exec (.straitLinkFrameReceive seq octets k) s = .next s) ∧
      exec .straitLinkSilent s = .next s ∧ exec .straitKeepalive s = .next s ∧
      ∀ l, l < 3 → exec (.straitLaneFail l) s = .next s)

/-- The link as it comes up (R325, R331): all three lanes, its event, the isle's own half of the exchange sent, the peer's MAC addresses
in the registers that the host has not written, and, for an isle in the pair, mirroring only where the ranks differ, the PAIR_IDs
agree and the schema majors agree; an active isle of rank 1 that learns of an active peer yields at the open crossing (R343), and a
standby whose active peer has taken commits alone is stale from the next crossing. A link that is up, or off, changes nothing. -/
def Obligations.LinkUpComparesTheIsles : Prop :=
  ∀ (s : State) (k : PeerInfo),
    (s.chip.domainOn 10 = true → s.chip.pair.linkUp = false →
      ∃ t, exec (.straitLinkUp k) s = .next t ∧ t.dram = s.dram ∧ t.chip.pair.linkUp = true ∧ t.chip.pair.peer = some k ∧
        t.chip.pair.laneGood = [true, true, true] ∧ t.chip.pair.isle = s.chip.pair.isle ∧ t.chip.csn = s.chip.csn ∧
        bit (t.chip.rd Reg.PAIR_EVT) 4 = true ∧ (∃ l, .link 0 l ∈ t.chip.out) ∧
        (∀ p, p < 4 → s.chip.pair.macWritten.contains (Reg.PEER_MAC_LO p) = false →
          t.chip.lv (Reg.PEER_MAC_LO p) = k.macs.getD p 0 % 2 ^ 32) ∧
        (s.chip.pair.inPair = true → t.chip.pair.mirrorOk =
          decide (k.rank ≠ s.chip.pair.rank ∧ k.pairId = s.chip.lv Reg.PAIR_ID ∧ k.schema = s.chip.schemaMajor)) ∧
        (s.chip.pair.inPair = false → t.chip.pair.mirrorOk = false) ∧
        (s.chip.pair.inPair = true → s.chip.pair.isle = .active → s.chip.pair.rank = 1 → k.active = true →
          s.chip.pair.yieldAt = none → t.chip.pair.yieldAt = some s.chip.openCsn) ∧
        (s.chip.pair.inPair = true → s.chip.pair.rank = 0 → t.chip.pair.yieldAt = s.chip.pair.yieldAt) ∧
        (k.missed = true → k.active = true → s.chip.pair.staleAt = none →
          t.chip.pair.staleAt = some (s.chip.csn + 1))) ∧
    (s.chip.domainOn 10 = false ∨ s.chip.pair.linkUp = true → exec (.straitLinkUp k) s = .next s)

/-- What the isles send each other (R324, R325, R333, R335, R337, R343, R344): a forwarded commit enters a standby at its crossing
and is acknowledged, one whose crossing has passed leaves it stale from that crossing, and one during a bulk ferry waits; the first
commit not acknowledged in time is taken alone; a complete ferry sets its registers, is compared, and is kept for the next crossing; a
late one is counted and leaves a standby stale; a beacon of the pair is noted, another ignored; a bulk ferry's end brings every
mirrored table and what was mirrored meanwhile. What is local to an isle is not taken from a peer (R323); during a handover of its
control cores an isle acknowledges no forwarded commit and ends no bulk ferry (R413, R421). Otherwise nothing changes. -/
def Obligations.IslesExchangeCommitsFerriesAndBeacons : Prop :=
  ∀ (s : State) (c : Chip) (p : Pair), c = s.chip → p = c.pair →
    (∀ m, (c.domainOn 10 = true → p.linkUp = true → p.inPair = true → p.mirrorOk = true → c.update.handover = false →
      p.isle.standing = true ∨ m.changes.contains .demote = true →
        (p.resync = true → ∃ t, exec (.mirrorCommitReceive m) s = .next t ∧ t.dram = s.dram ∧
          t.chip.pair = { p with frameCsn := c.csn, pending := p.pending ++ [m] } ∧ t.chip.out = .linkAck p.rxSeq :: c.out) ∧
        (p.resync = false → m.changes.contains .cross = false →
          m.csn < c.openCsn ∨ c.openCsn < m.csn ∧ 1024 ≤ c.queueLevel →
          ∃ t, exec (.mirrorCommitReceive m) s = .next t ∧ t.dram = s.dram ∧ t.chip.commits = c.commits ∧
            t.chip.out = .linkAck p.rxSeq :: c.out ∧ t.chip.pair.bulkGot = false ∧
            (p.staleAt = none → t.chip.pair.staleAt = some m.csn)) ∧
        (p.resync = false → m.changes.contains .cross = false → c.openCsn ≤ m.csn →
          m.csn = c.openCsn ∨ c.queueLevel < 1024 →
          ∃ t, exec (.mirrorCommitReceive m) s = .next t ∧ t.dram = s.dram ∧ t.chip.live = c.live ∧
            t.chip.commits = c.commits ++ [⟨none, 0, m.opcode, m.csn, m.changes.filter fun ch => ch.mirrored || ch == .demote, none⟩] ∧
            t.chip.out = .linkAck p.rxSeq :: c.out) ∧
        (p.resync = false → m.changes.contains .cross = true → exec (.mirrorCommitReceive m) s = .next (s.onto
          (c.inCycle fun c => (c.heardLink.emit (.linkAck p.rxSeq)).callExplicit none 0)))) ∧
      (c.domainOn 10 = false ∨ p.linkUp = false ∨ p.inPair = false ∨ p.mirrorOk = false ∨ c.update.handover = true ∨
        p.isle.standing = false ∧ m.changes.contains .demote = false → exec (.mirrorCommitReceive m) s = .next s)) ∧
    (∀ w rest, p.mirrorWait = w :: rest → ∃ t, exec .mirrorAckTimeout s = .next t ∧ t.dram = s.dram ∧
      t.chip.pair.mirrorWait = rest ∧ t.chip.pair.peerStale = true ∧
      (∀ d e m, w.header = none → w.commit.slot = none → w.commit.opcode ≠ 0x0202 →
        d = (c.setPair { p with mirrorWait := rest }).tellMissed w.commit.target →
        e = (if w.commit.target < c.openCsn then d.tellMissed w.commit.target else d) →
        m = { w.commit with target := max w.commit.target c.openCsn } →
        (e.refusedNow m.target m.changes = none → t.chip.commits = c.commits ++ [m]) ∧
        (e.refusedNow m.target m.changes ≠ none → t.chip.commits = c.commits))) ∧
    (p.mirrorWait = [] → exec .mirrorAckTimeout s = .next s) ∧
    (c.domainOn 10 = true → p.linkUp = true →
      (∀ d n, p.isle = .active → p.ferrySending.find? (fun e => e.1 == d.csn) = some (d.csn, n) →
        ∃ t, exec (.ferryComplete d) s = .next t ∧
        t.dram = s.dram ∧ t.chip.pair.ferryCsn = d.csn ∧ t.chip.pair.ferryOctets = n ∧
        t.chip.pair.ferrySending = p.ferrySending.filter (fun e => e.1 != d.csn) ∧
        (∀ at_, p.crossAt.find? (fun e => e.1 == d.csn + 1) = some (d.csn + 1, at_) →
          t.chip.pair.ferryUs = (c.cycle - at_) / 800)) ∧
      (∀ d, p.isle = .active → p.ferrySending.find? (fun e => e.1 == d.csn) = none → exec (.ferryComplete d) s = .next s) ∧
      (∀ d, p.isle ≠ .active → p.isle.standing = false ∨ p.mirrorOk = false ∨ p.resync = true →
        exec (.ferryComplete d) s = .next s) ∧
      (∀ d bad, p.isle.standing = true → p.mirrorOk = true → p.resync = false →
        bad = ((c.differing d).filter fun u => !c.excused d u) → ∃ t, exec (.ferryComplete d) s = .next t ∧ t.dram = s.dram ∧
          t.chip.pair.ferryCsn = d.csn ∧ t.chip.pair.ferryOctets = d.octets ∧
          t.chip.pair.received = (if p.ferryLate.toNat < p.lateOwed then p.received else some (d, d.csn + 1)) ∧
          t.chip.pair.lateOwed = p.lateOwed - 1 ∧
          t.chip.pair.isle = p.isle ∧ t.chip.univs = c.univs ∧ t.chip.pair.mismatch = (!bad.isEmpty) ∧
          t.chip.rd Reg.CHECK_MISMATCH_CNT = sat32 (c.rd Reg.CHECK_MISMATCH_CNT + bad.length) ∧
          t.chip.rd Reg.CHECK_EXCUSED_CNT = sat32 (c.rd Reg.CHECK_EXCUSED_CNT + ((c.differing d).length - bad.length)) ∧
          (bad ≠ [] → bit (t.chip.rd Reg.PAIR_EVT) 6 = true)) ∧
      (∀ awaited, awaited = decide (p.isle = .active ∧ (p.ferrySending.any fun e => e.1 == c.csn - 1) = true ∨
          p.isle ≠ .active ∧ p.isle.standing = true ∧ p.mirrorOk = true ∧ p.resync = false ∧ c.activeSeen = true ∧
            p.received = none) →
        (p.ferryLate = false → awaited = true → c.csn ≠ 0 → p.linkAt ≤ c.fg.crossCycle →
          ∃ t, exec .ferryLate s = .next t ∧ t.dram = s.dram ∧ t.chip.pair.ferryLate = true ∧
            t.chip.pair.lateOwed = p.lateOwed + p.isle.standing.toNat ∧ t.chip.pair.isle = p.isle ∧
            t.chip.cycle = max c.cycle (c.fg.crossCycle + c.fg.rateD * 200000000 / c.fg.rateN) ∧
            t.chip.rd Reg.FERRY_LATE_CNT = sat32 (c.rd Reg.FERRY_LATE_CNT + 1)) ∧
        (p.ferryLate = true ∨ awaited = false ∨ c.csn = 0 ∨ c.fg.crossCycle < p.linkAt →
          exec .ferryLate s = .next s)) ∧
      (∀ b, p.resync = false ∨ c.update.handover = true → exec (.bulkFerryComplete b) s = .next s) ∧
      (∀ b, p.resync = true → c.update.handover = false → p.isle = .active → ∃ t, exec (.bulkFerryComplete b) s = .next t ∧ t.dram = s.dram ∧
        t.chip.pair.resync = false ∧ t.chip.pair.bulkSent = false ∧ t.chip.pair.peerStale = false ∧
        (∀ a, c.arbiter.running = some a → a.prec = 3 → a.finished = false →
          t.chip.arbiter.running = some { a with status := 0, detail := 0, result := 0, finished := true })) ∧
      (p.resync = true → c.update.handover = false → p.isle ≠ .active → exec (.bulkFerryComplete none) s = .next s ∧
        ∀ b, exec (.bulkFerryComplete (some b)) s = .next (s.onto (c.inCycle fun c =>
          p.pending.foldl (fun c m => c.applyHeld b.now m) ((c.takeTables b.tables).setPair { c.pair with
            resync := false, bulkGot := true, staleAt := none, readyNext := false, lateOwed := 0
            received := some (b.items, b.now), pending := [] }))))) ∧
    (c.domainOn 10 = false ∨ p.linkUp = false → (∀ d, exec (.ferryComplete d) s = .next s) ∧ exec .ferryLate s = .next s ∧
      ∀ b, exec (.bulkFerryComplete b) s = .next s) ∧
    (∀ port k, port < 4 →
      (c.portUp port = true → c.domainOn 1 = true → p.inPair = true → k.pairId = c.lv Reg.PAIR_ID →
        exec (.beaconReceive port k) s = .next (s.onto (c.setPair { p with
          peerHealth := k.health, peerActive := k.active, beaconSeen := k.active || p.beaconSeen
          beaconCsn := if k.active then c.csn else p.beaconCsn
          beaconSilent := p.beaconSilent || k.active && !p.linkUp
          yieldAt := if p.isle = .active ∧ p.rank = 1 ∧ k.active = true ∧ p.yieldAt = none then some c.openCsn
            else p.yieldAt }))) ∧
      (c.portUp port = false ∨ c.domainOn 1 = false ∨ p.inPair = false ∨ k.pairId ≠ c.lv Reg.PAIR_ID →
        exec (.beaconReceive port k) s = .next s))

/-! ### Metering and the early warning -/

/-- A sample of a feed (R350, R351, R354, R356, R358, R362): its seven bitstreams go through the filters, and a channel whose last
1,024 levels are one is faulted, with its event where it was not; the first 64 samples after enabling are discarded, add no energy
and enter no window; after them each phase in use adds the energy of its power to its registers, import or export, by quadrant, and
apparent. A feed that is not enabled, or a sequencer without an image, takes none. A modulator fault marks its channel with its
event. A pulse starts while its output is on, energy is waiting and the pin has been low for W, takes one from the backlog, and ends W
later. What the discarded samples enter is the model's choice (log entry 33). -/
def Obligations.SamplesAddEnergyAndPulsesFollow : Prop :=
  ∀ (s : State) (c : Chip), c = s.chip →
    (∀ (f : Nat) (raw : List (BitVec 2560)) (x y z w : Feed), f < 8 → raw.length = 7 → x = c.feed f → x.en = true →
      c.meterHeld = false →
      y = { x with
        filters := (List.range 7).map fun ch => (x.filters.getD ch .reset).stream (raw.getD ch 0)
        faulted := (List.range 7).map fun ch => heldLevel (raw.getD ch 0) } →
      z = { y with plain := (c.calibrated f y :: y.plain).take 8192 } →
      w = { z with hist := (c.phased f z :: z.hist).take 8192 } →
        (0 < x.settle → ∃ t, exec (.meterSample f raw) s = .next t ∧ t.dram = s.dram ∧ t.chip.commits = c.commits ∧
          t.chip.energy = c.energy ∧ t.chip.feed f = { y with settle := x.settle - 1 }) ∧
        (∀ ch, ch < 7 → heldLevel (raw.getD ch 0) = true → x.faulted.getD ch false = false →
          ∃ t, exec (.meterSample f raw) s = .next t ∧ bit (t.chip.rd (Reg.MF_EVT f)) 3 = true) ∧
        (x.settle = 0 → ∃ t, exec (.meterSample f raw) s = .next t ∧ t.dram = s.dram ∧ t.chip.commits = c.commits ∧
          (t.chip.feed f).plain = z.plain ∧ (t.chip.feed f).hist = w.hist ∧ (t.chip.feed f).faulted = y.faulted ∧
          (∀ ph qn e, ph ∈ w.phases → (qn, e) ∈ energyParts (w.power ph).1 (w.power ph).2 → 0 < e →
            t.chip.energyOf (energyKey f ph qn) = (c.energyOf (energyKey f ph qn)).gain e))) ∧
    (∀ f raw, f < 8 → raw.length = 7 → (c.feed f).en = false ∨ c.meterHeld = true →
      exec (.meterSample f raw) s = .next s) ∧
    (∀ f ch, f < 8 → ch < 7 →
      ((c.feed f).en = true → (c.feed f).faulted.getD ch false = false → ∃ t, exec (.meterModFault f ch) s = .next t ∧
        t.dram = s.dram ∧ t.chip.feed f = { c.feed f with faulted := (c.feed f).faulted.set ch true } ∧
        t.chip.energy = c.energy ∧ bit (t.chip.rd (Reg.MF_EVT f)) 3 = true) ∧
      ((c.feed f).en = false ∨ (c.feed f).faulted.getD ch false = true → exec (.meterModFault f ch) s = .next s)) ∧
    (∀ n x, n < 8 → x = c.pulse n →
      (x.en = true → x.high = false → 0 < x.backlog → c.meterHeld = false → ∃ t, exec (.meterPulseStart n) s = .next t ∧
        t.dram = s.dram ∧ t.chip.cycle = max c.cycle (x.lowSince + 800000 * x.width) ∧ t.chip.energy = c.energy ∧
        t.chip.pulse n = { x with high := true, backlog := x.backlog - 1, endAt := t.chip.cycle + 800000 * x.width
                                  told := x.told && decide (1 < x.backlog) }) ∧
      (x.en = false ∨ x.high = true ∨ x.backlog = 0 ∨ c.meterHeld = true → exec (.meterPulseStart n) s = .next s) ∧
      (x.high = true → ∃ t, exec (.meterPulseEnd n) s = .next t ∧ t.dram = s.dram ∧ t.chip.cycle = max c.cycle x.endAt ∧
        t.chip.pulse n = { x with high := false, lowSince := t.chip.cycle }) ∧
      (x.high = false → exec (.meterPulseEnd n) s = .next s))

/-- The early warning (R369, R370, R420, R427): an enabled source that becomes active raises it and, in a control core that runs and
has written none for a second, begins the journal of that instant, which suspends flash work; a source that is not enabled raises
nothing, and a feed monitor's change sets its bit; the warning clears 100 ms after the last enabled source; while PD_CTRL is on a
journal reaches flash, is kept, counted and timed, and one that a command asked for ends its activity. Otherwise nothing changes. -/
def Obligations.EarlyWarningsWriteTheJournal : Prop :=
  ∀ (s : State) (c : Chip), c = s.chip →
    (c.warning.pin = false → (bit (c.lv Reg.MTR_EW_CFG) 0 = true → ∃ t, exec .pwrWarnAssert s = .next t ∧ t.dram = s.dram ∧
        t.chip.warning.pin = true ∧ t.chip.warning.active = true ∧ bit (t.chip.rd Reg.MTR_EVT) 0 = true ∧
        t.chip.energy = c.energy ∧
        (c.domainOn 1 = true → c.power.held = false → c.warning.writing = none →
          (c.warning.lastJournal = none ∨ ∃ at_, c.warning.lastJournal = some at_ ∧ at_ + 800000000 ≤ c.cycle) →
          ∃ j, t.chip.warning.writing = some j ∧ j.cause = 0 ∧ j.csn = c.csn ∧ t.chip.arbiter.suspended = true ∧ j.ok = true ∧
            j.entries = c.energy.map fun e => (e.1, e.2.acc, e.2.wraps)) ∧
        (c.domainOn 1 = false ∨ c.power.held = true ∨ (∃ at_, c.warning.lastJournal = some at_ ∧ c.cycle < at_ + 800000000) →
          t.chip.warning.writing = c.warning.writing)) ∧
      (bit (c.lv Reg.MTR_EW_CFG) 0 = false → exec .pwrWarnAssert s =
        .next (s.onto { c with warning := { c.warning with pin := true } }))) ∧
    (c.warning.pin = true → exec .pwrWarnAssert s = .next s) ∧
    (∃ t, exec .pwrWarnNRelease s = .next t ∧ t.dram = s.dram ∧ t.chip.warning.pin = false ∧ t.chip.regs = c.regs ∧
      (c.warns = true → t.chip.warning.lastCycle = c.cycle)) ∧
    (∀ b here was, was = (if b then c.warning.vaonB else c.warning.vaonA) →
      ∃ t, exec (.vaonFeedChange b here) s = .next t ∧ t.dram = s.dram ∧
        (if b then t.chip.warning.vaonB else t.chip.warning.vaonA) = here ∧
        (if b then t.chip.warning.vaonA else t.chip.warning.vaonB) = (if b then c.warning.vaonA else c.warning.vaonB) ∧
        (was = true → here = false → bit (c.lv Reg.MTR_EW_CFG) (if b then 2 else 1) = true →
          t.chip.warning.active = true ∧ bit (t.chip.rd Reg.MTR_EVT) 0 = true) ∧
        (was ≠ here → bit (t.chip.rd Reg.PWR_EVT) (if b then 3 else 2) = true) ∧
        (was = here → t.chip.regs = c.regs)) ∧
    (c.warning.active = true → c.warns = false → ∃ t, exec .meterWarnClear s = .next t ∧ t.dram = s.dram ∧
      t.chip.warning.active = false ∧ bit (t.chip.rd Reg.MTR_EVT) 1 = true ∧
      t.chip.cycle = max c.cycle (c.warning.lastCycle + 80000000)) ∧
    (c.warning.active = false ∨ c.warns = true → exec .meterWarnClear s = .next s) ∧
    (∀ us j, c.domainOn 1 = true → c.warning.writing = some j → ∃ t, exec (.journalWriteDone us) s = .next t ∧ t.dram = s.dram ∧
      t.chip.warning.journals = c.warning.journals ++ [j] ∧ t.chip.warning.lastJournal = some t.chip.cycle ∧
      t.chip.cycle = max c.cycle (c.warning.began + 800 * us) ∧ bit (t.chip.rd Reg.MTR_EVT) 2 = true ∧
      t.chip.rd Reg.MTR_JOURNAL_LAST_US = sat32 us ∧
      t.chip.rd Reg.MTR_JOURNAL_CNT = sat32 (c.rd Reg.MTR_JOURNAL_CNT + 1) ∧
      (j.cause = 1 → j.seq % 256 ≠ 1 → t.chip.warning.writing = none ∧ ∀ a, c.arbiter.running = some a →
        t.chip.arbiter.running = some { a with status := 0, detail := 0, result := 0, finished := true })) ∧
    (∀ us, c.domainOn 1 = false ∨ c.warning.writing = none → exec (.journalWriteDone us) s = .next s)

/-! ### Calibration and the maintenance arbiter -/

/-- The maintenance arbiter and what it runs (R381 to R384, R387, R388, R397, R458): a burst waits behind work that runs, once for each
memory, else it moves its position on; the waiting activity of highest precedence starts when nothing runs, and an UPD_STAGE reads its package then; a reading beyond ΔT
calls for an automatic run, which waits and starts alike; a unit that converges forms a commit of its value for the open crossing,
and one that times out changes no value and is counted, as is a metering span that has not its cycles by its time, which keeps the
old values, while one that has them commits its results; an activity whose work has ended reports and frees the arbiter. Otherwise nothing changes. -/
def Obligations.MaintenanceRunsOneAtATime : Prop :=
  ∀ (s : State) (c : Chip), c = s.chip →
    (∀ m, m < 2 → (c.arbiter.waiting.any fun a => a.prec == 7 && a.args == [m]) = true → exec (.patrolBurst m) s = .next s) ∧
    (∀ m, m < 2 → c.arbiterFree = true → c.domainOn (if m = 0 then 4 else 3) = true →
      (c.rd (Reg.ECC_SCRUB_POS m) + 1 < c.patrolBursts m → ∃ t, exec (.patrolBurst m) s = .next t ∧ t.dram = s.dram ∧
        t.chip.rd (Reg.ECC_SCRUB_POS m) = c.rd (Reg.ECC_SCRUB_POS m) + 1 ∧ t.chip.arbiter.running = none) ∧
      (0 < c.patrolBursts m → c.patrolBursts m ≤ c.rd (Reg.ECC_SCRUB_POS m) + 1 → ∃ t, exec (.patrolBurst m) s = .next t ∧
        t.dram = s.dram ∧ t.chip.rd (Reg.ECC_SCRUB_POS m) = 0 ∧
        t.chip.rd (Reg.ECC_SCRUB_PASSES m) = (c.rd (Reg.ECC_SCRUB_PASSES m) + 1) % 2 ^ 32)) ∧
    (∀ m, m < 2 → c.arbiterFree = true → c.domainOn (if m = 0 then 4 else 3) = false → exec (.patrolBurst m) s = .next s) ∧
    (∀ m, m < 2 → c.arbiterFree = false → (c.arbiter.waiting.any fun a => a.prec == 7 && a.args == [m]) = false → ∃ t,
      exec (.patrolBurst m) s = .next t ∧ t.dram = s.dram ∧ t.chip.arbiter.running = c.arbiter.running ∧
      t.chip.arbiter.waiting = c.arbiter.waiting ++ [⟨7, 0, none, 0, [m], 0, 0, 0, false⟩] ∧
      t.chip.rd Reg.MAINT_DEFER_CNT = sat32 (c.rd Reg.MAINT_DEFER_CNT + 1)) ∧
    (∀ a, c.arbiter.running = none → a ∈ c.arbiter.waiting → (∀ b, b ∈ c.arbiter.waiting → b = a ∨ a.prec < b.prec) →
      exec .maintActivityStart s = .next (s.onto
        ((({ c with arbiter := { c.arbiter with waiting := c.arbiter.waiting.erase a } } : Chip).startActivity a).readPackage
          s.dram)) ∧
      (a.prec ≠ 7 → a.prec ≠ 5 → ∃ t, exec .maintActivityStart s = .next t ∧ t.chip.arbiter.running = some a)) ∧
    ((∃ a, c.arbiter.running = some a) ∨ c.arbiter.waiting = [] → exec .maintActivityStart s = .next s) ∧
    (∀ n raw, n < 8 →
      (c.calib.auto = false ∨ c.domainOn 1 = false → exec (.dieSensorSample n raw) s =
        .next (s.onto { c with calib := { c.calib with junction := c.calib.junction.set n (some raw) } })) ∧
      (c.calib.auto = true → c.domainOn 1 = true →
        ∀ v, v = clampI (-32768) 32767 (raw + sext 8 (bits (c.lv (Reg.TSENS_TRIM n)) 0 8) * 16) →
        ∃ t, exec (.dieSensorSample n raw) s = .next t ∧ t.dram = s.dram ∧ t.chip.calib.temps = c.calib.temps.set n v ∧
          t.chip.rd (Reg.DIE_TEMP n) = twos 16 v % 2 ^ 32 ∧ t.chip.live = c.live ∧
          (c.calib.refs.getD n none = none → t.chip.calib.refs = c.calib.refs.set n (some v) ∧
            t.chip.arbiter = c.arbiter) ∧
          (∀ r, c.calib.refs.getD n none = some r →
            (c.calib.deltaT * 256 < (v - r).natAbs → c.autoBusy = false → t.chip.arbiter.running = c.arbiter.running ∧
              t.chip.arbiter.waiting = c.arbiter.waiting ++ [autoRun] ∧ t.chip.autoWaits = true) ∧
            ((v - r).natAbs ≤ c.calib.deltaT * 256 ∨ c.autoBusy = true → t.chip.arbiter = c.arbiter)))) ∧
    (c.arbiter.running = none → firstWaiting c.arbiter.waiting = some autoRun → exec .calAutoStart s = .next (s.onto
      (({ c with arbiter := { c.arbiter with waiting := c.arbiter.waiting.erase autoRun } } : Chip).startActivity autoRun))) ∧
    ((∃ a, c.arbiter.running = some a) ∨ firstWaiting c.arbiter.waiting ≠ some autoRun → exec .calAutoStart s = .next s) ∧
    (∀ i u v w h, u < calUnits i → c.calCurrent i u = true → i ≠ .straitLane →
      (∃ t l, exec (.calUnitDone i u v w h) s = .next t ∧ t.dram = s.dram ∧ t.chip.live = c.live ∧
        t.chip.commits = c.commits ++ [⟨none, 0, 0, c.openCsn, .reg (calReg i u) (BitVec.ofNat 32 (clampReg c (calReg i u) v)) :: l, none⟩] ∧
        t.chip.rd Reg.CAL_LAST_CSN_LO = c.openCsn % 2 ^ 32) ∧
      (∃ t, exec (.calUnitTimeout i u) s = .next t ∧ t.dram = s.dram ∧ t.chip.live = c.live ∧ t.chip.commits = c.commits ∧
        i ∈ t.chip.calib.timedOut ∧ t.chip.rd Reg.CAL_TIMEOUT_CNT = sat32 (c.rd Reg.CAL_TIMEOUT_CNT + 1))) ∧
    (∀ u v w h, u < 3 → c.calCurrent .straitLane u = true →
      exec (.calUnitDone .straitLane u v w h) s = .next (s.onto
        (c.straitEnded u (c.calChanges .straitLane u v w h))) ∧
      exec (.calUnitTimeout .straitLane u) s = .next (s.onto ((c.calTimedOut .straitLane).straitEnded u
        (if c.pair.linkUp then [c.regChange (calReg .straitLane u) (c.lv (calReg .straitLane u))] else [])))) ∧
    (∀ i u v w h, u < calUnits i → c.calCurrent i u = false →
      exec (.calUnitDone i u v w h) s = .next s ∧ exec (.calUnitTimeout i u) s = .next s) ∧
    (∀ a k whole, c.arbiter.running = some a → c.calib.span = some k → a.prec = 4 → a.finished = false →
      c.update.handover = false → k.feed < 8 → whole = (decide ((k.need : Rat) ≤ k.cycles) && decide (c.cycle ≤ k.dueAt)) →
      ∃ t, exec (.meterCalSpanEnd k.feed) s = .next t ∧ t.dram = s.dram ∧ t.chip.calib.span = none ∧ t.chip.live = c.live ∧
        (whole = false → t.chip.cycle = max c.cycle k.dueAt ∧ bit (t.chip.rd Reg.CAL_EVT) 1 = true ∧
          t.chip.rd Reg.CAL_TIMEOUT_CNT = sat32 (c.rd Reg.CAL_TIMEOUT_CNT + 1)) ∧
        (whole = false ∨ k.ok = false ∨ (c.feed k.feed).freqOk = false ∨
            c.spanResult k (a.args.getD 2 0) (sext 32 (a.args.getD 3 0)) = none → t.chip.commits = c.commits ∧
          t.chip.arbiter.running = some { a with status := 7, detail := 0, result := 0, finished := true }) ∧
        (∀ l, whole = true → k.ok = true → (c.feed k.feed).freqOk = true →
            c.spanResult k (a.args.getD 2 0) (sext 32 (a.args.getD 3 0)) = some l →
          t.chip.commits = c.commits ++ [⟨none, 0, 0, c.openCsn, l, none⟩] ∧
          t.chip.arbiter.running = some { a with status := 0, detail := 0, result := 0, finished := true })) ∧
    (∀ f, f < 8 → c.arbiter.running = none ∨ c.calib.span = none ∨ c.update.handover = true ∨
      (∃ a, c.arbiter.running = some a ∧ (a.prec ≠ 4 ∨ a.finished = true)) ∨ (∃ k, c.calib.span = some k ∧ k.feed ≠ f) →
      exec (.meterCalSpanEnd f) s = .next s) ∧
    (∀ a, c.arbiter.running = some a →
      (c.domainOn 1 = true → c.power.held = false → c.activityHeld a = false → a.endsElsewhere = false ∨ a.finished = true →
        exec .cmdComplete s = .next (s.onto (c.inCycle fun c =>
          let r := c.activityDone a
          let c : Chip := { r.1 with arbiter := { r.1.arbiter with running := none } }
          if a.prec = 5 ∧ a.opcode = 0 then c.autoDone r.2 else c.reportActivity r.2)) ∧
        ∃ t, exec .cmdComplete s = .next t ∧ t.chip.arbiter.running = none) ∧
      (c.domainOn 1 = false ∨ c.power.held = true ∨ c.activityHeld a = true ∨ a.endsElsewhere = true ∧ a.finished = false →
        exec .cmdComplete s = .next s)) ∧
    (c.arbiter.running = none → exec .cmdComplete s = .next s)

/-! ### Updates, the control cores, power and boundary scan -/

/-- Images on trial and the control cores (R412 to R415, R436, R439): the incoming CTRL image ends its handover once no journal is being
written; a trial confirms 5 s after its criteria hold and within its window, keeping the running slot, and not while a criterion
fails; a window that expires has the open crossing take the fallback; the watchdog puts back the previous slot of a CTRL on trial
and otherwise holds the cores until CTRL_RESTART, but does not count while a debugger has halted them (R459, whether it has is a free
value, log entry 40); BOOT_RECOVER runs an image from the window only where it verifies, and otherwise waits. Otherwise nothing changes. -/
def Obligations.TrialsAndControlCoresEndAsTheyMust : Prop :=
  ∀ (s : State) (c : Chip), c = s.chip →
    (c.update.handover = true → c.warning.writing = none → c.power.held = false → c.domainOn 1 = true →
      ∃ t, exec .ctrlHandoverDone s = .next t ∧ t.dram = s.dram ∧ t.chip.update.handover = false ∧
        t.chip.commits = c.commits ∧ t.chip.csn = c.csn) ∧
    (c.update.handover = false ∨ c.warning.writing ≠ none ∨ c.power.held = true ∨ c.domainOn 1 = false →
      exec .ctrlHandoverDone s = .next s) ∧
    (∀ n x at_ waits, n < 5 → x = c.imageType n → at_ = max c.cycle (x.heldFrom + 4000000000) →
      waits = decide (c.update.handover = true ∨ c.power.held = true ∨ c.domainOn 1 = false ∨ n = 0 ∧ c.update.unreadable ≠ [] ∨
        n = 1 ∧ c.domainOn 6 = false ∨ n = 4 ∧ x.linkHeld = some false) →
      (x.onTrial = true → c.reverting n = false → at_ ≤ x.trialEnd → waits = false →
        ∃ t, exec (.updConfirmed n) s = .next t ∧ t.dram = s.dram ∧
        t.chip.cycle = at_ ∧ bit (t.chip.rd Reg.UPD_EVT) 1 = true ∧
        t.chip.update.types = c.update.types.set n { x with onTrial := false, trialBit := false, confirmed := x.running }) ∧
      (x.onTrial = false ∨ c.reverting n = true ∨ x.trialEnd < at_ ∨ waits = true →
        exec (.updConfirmed n) s = .next s)) ∧
    (∀ n told, n < 5 → told = (c.commits.any fun m => m.changes.contains (.revert n 0)) →
      ((c.imageType n).onTrial = true → told = false → ∃ t, exec (.trialWindowExpire n) s = .next t ∧ t.dram = s.dram ∧
        t.chip.cycle = max c.cycle (c.imageType n).trialEnd ∧
        t.chip.commits = c.commits ++ [⟨none, 0, 0, c.openCsn, [.revert n 0], none⟩] ∧ t.chip.update = c.update) ∧
      ((c.imageType n).onTrial = false ∨ told = true → exec (.trialWindowExpire n) s = .next s)) ∧
    (c.domainOn 1 = true → c.power.held = false → 7 ≤ c.power.stage → (c.power.debug && Config.coreHalted c.cycle) = false →
      (∀ x, x = c.imageType 0 → x.onTrial = true → ∃ t, exec .ctrlWatchdog s = .next t ∧ t.dram = s.dram ∧
        t.chip.update.types = c.update.types.set 0 { x with
          running := 1 - x.running, program := none, second := none, onTrial := false, trialBit := false, verified := false
          failed := true, linkHeld := none } ∧
        t.chip.update.handover = true ∧ t.chip.update.fallen = some ((c.image 0).version, 2) ∧ t.chip.update.unreadable = [] ∧
        t.chip.update.stores = c.update.stores ∧ t.chip.commits = c.commits ∧
        t.chip.power.held = false ∧ bit (t.chip.rd Reg.RESET_CAUSE) 4 = true) ∧
      ((c.imageType 0).onTrial = false → ∃ t, exec .ctrlWatchdog s = .next t ∧ t.dram = s.dram ∧ t.chip.power.held = true ∧
        t.chip.update = c.update ∧ bit (t.chip.rd Reg.PWR_EVT) 1 = true)) ∧
    (c.domainOn 1 = false ∨ c.power.held = true ∨ c.power.stage < 7 ∨ (c.power.debug && Config.coreHalted c.cycle) = true →
      exec .ctrlWatchdog s = .next s) ∧
    (∀ v : Word, c.takesWrite Reg.CTRL_RESTART = true →
      (v.getLsbD 0 = true → bit (c.rd Reg.PWR_EVT) 1 = true → ∃ t, exec (.ctrlRestart v) s = .next t ∧ t.dram = s.dram ∧
        t.chip.power.held = false ∧ t.chip.update.handover = true ∧ bit (t.chip.rd Reg.RESET_CAUSE) 4 = true ∧
        t.chip.commits = c.commits ∧
        (c.power.recovery = false → c.update.types ≠ [] → (t.chip.imageType 0).running = (c.imageType 0).confirmed)) ∧
      (v.getLsbD 0 = false ∨ bit (c.rd Reg.PWR_EVT) 1 = false → exec (.ctrlRestart v) s = .next s)) ∧
    (∀ (v : Word) m, c.takesWrite Reg.BOOT_RECOVER = true →
      m = imageOf 0 (c.windowOctets 0 256) (c.windowOctets 256 (min (2 ^ 23 - 256) (le (c.windowOctets 0 256) 0x18 4))) →
      (v.getLsbD 0 = true → c.power.recovery = true → c.power.stage = 6 → c.power.queue = [] →
        (c.imageType 0).verifies m = true → ∃ t, exec (.bootRecover v) s = .next t ∧ t.dram = s.dram ∧
          t.chip.power.stage = 7 ∧ t.chip.image 0 = m ∧ t.chip.power.recovery = true) ∧
      (v.getLsbD 0 = false ∨ c.power.recovery = false ∨ c.power.stage ≠ 6 ∨ c.power.queue ≠ [] ∨
        (c.imageType 0).verifies m = false → exec (.bootRecover v) s = .next s))

/-- The supplies and resets (R23, R427, R428, R431 to R433, R437, R440): a power-on reset, or the loss of the combined supply, keeps
the fuses (the key rows, which epochs are provisioned or revoked, the anti-rollback counters) and the flash (the image slots, the
boot directory, to which a trial that the reset ends adds its copy, the delta staging, the settings stores and the journal), and
nothing of LPDDR5X; the main rail's fall switches every domain but PD_AON off and keeps the whole generator but the explicit calls,
the time bases, the CSN and the energy registers; its rise starts the boot with PD_CTRL and PD_HOST. That the fall forgets the
accepted commits and the explicit calls, and that a rise after the first one is the main-rail restart of RESET_CAUSE, is the model's
choice (log entry 37). PERST_N discards the
host's rings, mailboxes and notifications, records its cause, and keeps what the show uses; a change of domain at the head of the
queue ends. Otherwise nothing changes. -/
def Obligations.SuppliesAndResetsKeepWhatTheyMust : Prop :=
  ∀ (s : State) (c : Chip), c = s.chip → ∀ kept : Chip → Prop,
    kept = (fun t =>
      t.power.revoked = c.power.revoked ∧ t.power.provisioned = c.power.provisioned ∧ t.power.keyRows = c.power.keyRows ∧
      t.power.wrapped = c.power.wrapped ∧ t.update.types.length = c.update.types.length ∧
      (∀ n, (t.imageType n).slot0 = (c.imageType n).slot0 ∧ (t.imageType n).slot1 = (c.imageType n).slot1 ∧
        (t.imageType n).counter = (c.imageType n).counter) ∧
      t.update.stores = c.update.stores ∧ t.update.staging = c.update.staging ∧
      ((∀ n, n < 5 → (c.imageType n).onTrial = false) → t.update.dirs = c.update.dirs) ∧
      t.warning.journals = c.warning.journals) →
    ((c.power.supply = false ∨ c.power.stage = 0) → ∃ t, exec .powerOnReset s = .next t ∧ t.dram = [] ∧
      t.chip.power.stage = 4 ∧ kept t.chip ∧
      (∀ d, t.chip.domainOn d = true ↔ d = 0) ∧ t.chip.fg = Chip.reset.fg ∧ t.chip.csn = 0 ∧ t.chip.commits = []) ∧
    (c.power.supply = true → c.power.stage ≠ 0 → exec .powerOnReset s = .next s) ∧
    (c.power.supply = true → ∃ t, exec .combinedSupplyFall s = .next t ∧ t.dram = [] ∧ t.chip.power.supply = false ∧
      t.chip.power.stage = 0 ∧ kept t.chip ∧ t.chip.energy = []) ∧
    (c.power.supply = false → exec .combinedSupplyFall s = .next s) ∧
    (c.power.mainPg = true → c.power.on.length = 12 → ∃ t, exec .mainPgFall s = .next t ∧ t.dram = [] ∧ t.chip.power.mainPg = false ∧
      t.chip.power.stage = 4 ∧ (∀ d, 1 ≤ d → d < 12 → t.chip.domainOn d = false) ∧ t.chip.domainOn 0 = c.domainOn 0 ∧
      t.chip.csn = c.csn ∧ t.chip.energy = c.energy ∧ t.chip.commits = [] ∧ t.chip.fg = { c.fg with explicit := [] } ∧
      (∀ n, n < 4 → (t.chip.tb n).time = (c.tb n).time ∨ c.tbs.length ≤ n)) ∧
    (c.power.mainPg = false → exec .mainPgFall s = .next s) ∧
    (c.power.mainPg = false → c.power.supply = true → c.power.stage = 4 → ∃ t, exec .mainPgRise s = .next t ∧ t.dram = s.dram ∧
      t.chip.power.mainPg = true ∧ t.chip.power.stage = 5 ∧ t.chip.power.queue = c.power.queue ++ [(1, true, c.csn), (2, true, c.csn)] ∧
      t.chip.csn = c.csn ∧ t.chip.fg = c.fg ∧ t.chip.commits = c.commits ∧
      t.chip.power.mainUpAt = some c.cycle ∧ (c.power.mainUpAt.isSome = true → bit (t.chip.rd Reg.RESET_CAUSE) 5 = true)) ∧
    (c.power.mainPg = true ∨ c.power.supply = false ∨ c.power.stage ≠ 4 → exec .mainPgRise s = .next s) ∧
    (c.power.perst = false → ∃ t, exec .perstN s = .next t ∧ t.dram = s.dram ∧ t.chip.power = { c.power with perst := true } ∧
      t.chip.rings = [] ∧ t.chip.mboxes = [] ∧ t.chip.msixPend = [] ∧ t.chip.commits = c.commits ∧ t.chip.live = c.live ∧
      t.chip.tables = c.tables ∧ t.chip.univs = c.univs ∧ t.chip.csn = c.csn ∧ t.chip.tbs = c.tbs ∧
      bit (t.chip.rd Reg.RESET_CAUSE) 1 = true ∧ (∀ n, n < 256 → t.chip.rd (Reg.EVT_ROUTE n) = n * 256)) ∧
    (c.power.perst = true → exec .perstN s = .next s) ∧
    (c.power.supply = true → exec .perstNRelease s = .next (s.onto { c with power := { c.power with perst := false } })) ∧
    (c.power.supply = false → exec .perstNRelease s = .next s) ∧
    (∀ d, d < 12 →
      (∀ on n q, c.power.queue = (d, on, n) :: q → c.power.mainPg = true → ∃ t, exec (.pwrDomainChange d) s = .next t ∧
        t = s.onto (c.inCycle fun c => c.endChange d on n) ∧
        (d < c.power.on.length → d ≠ 4 ∨ on = false → t.chip.domainOn d = on) ∧
        (c.power.stage = 8 → bit (t.chip.rd Reg.PWR_EVT) 0 = true)) ∧
      (c.power.queue.head?.map (·.1) ≠ some d ∨ c.power.mainPg = false → exec (.pwrDomainChange d) s = .next s))

/-- Core debug is locked after every power-on reset; while it is locked, the DEBUG and PROVISION instructions act as BYPASS, and
boundary scan itself is never locked: its instructions act whether debug is open or not (R442). Boundary scan (R445, R446,
R447): EXTEST, CLAMP and HIGHZ take the covered balls and every other instruction returns them, with JTAG_PIN_CONTROL at each such
change; taking them, the balls of the main banks are at high impedance under HIGHZ and carry the boundary register's cells under
the others, and returned they show what their functions drive; a code without an instruction acts as BYPASS; a test-logic reset
selects IDCODE; a provisioning package that holds has the current epoch's key drawn and its secrets wrapped, which KEY_EPOCH tells
from the next power-on reset on. Core debug stays open until a power-on reset (R444): the other supply and reset events, which come
to an end in every state, leave it as it is. -/
def Obligations.BoundaryScanTakesAndReturnsTheBalls : Prop :=
  ∀ (s : State) (c : Chip), c = s.chip →
    ((c.power.supply = false ∨ c.power.stage = 0) → ∃ t, exec .powerOnReset s = .next t ∧ t.chip.power.debug = false) ∧
    (∀ i, i ∈ [Instr.powerOnReset, .combinedSupplyFall] → ∃ t, exec i s = .next t ∧
      (t.chip.power.debug = false ∨ t = s)) ∧
    (∀ i, i ∈ [Instr.mainPgFall, .mainPgRise, .perstN, .perstNRelease] → ∃ t, exec i s = .next t ∧
      t.chip.power.debug = c.power.debug) ∧
    (∀ d, d < 12 → ∃ t, exec (.pwrDomainChange d) s = .next t ∧ t.chip.power.debug = c.power.debug) ∧
    (c.power.supply = true →
      (∀ code pins now taken, code < 256 → taken = (if code = 5 then Out.balls unpoweredBalls else Out.boundary) → pins = (code == 3 || code == 4 || code == 5) →
        now = (if code ∈ [1, 2, 3, 4, 5] ∨ code ∈ [0x40, 0x41] ∧ c.power.debug = true then code else 0xFF) →
        (c.power.pins = pins → exec (.jtagUpdateIr code) s = .next (s.onto { c with
          out := if pins && c.power.jtag != now then taken :: c.out else c.out
          power := { c.power with jtag := now } })) ∧
        (c.power.pins ≠ pins → ∃ t, exec (.jtagUpdateIr code) s = .next t ∧ t.dram = s.dram ∧
          t.chip.power = { c.power with jtag := now, pins := pins } ∧ bit (t.chip.rd Reg.PWR_EVT) 5 = true ∧
          t.chip.commits = c.commits ∧ t.chip.live = c.live ∧
          (pins = true → c.power.jtag ≠ now → taken ∈ t.chip.out) ∧
          (pins = false → c.power.mainPg = true → Out.isleActive c.pair.pin ∈ t.chip.out))) ∧
      (∃ t, exec .testLogicReset s = .next t ∧ t.dram = s.dram ∧ t.chip.power = { c.power with jtag := 1, pins := false } ∧
        (c.power.pins = true → bit (t.chip.rd Reg.PWR_EVT) 5 = true))) ∧
    (c.power.supply = false → (∀ code, code < 256 → exec (.jtagUpdateIr code) s = .next s) ∧
      exec .testLogicReset s = .next s) ∧
    (∀ k e, c.power.debug = true → c.power.jtag = 0x41 → c.power.epoch = some e → Config.provisionOk k = true →
      ∃ t key, exec (.jtagProvision k) s = .next t ∧ t.dram = s.dram ∧ t.chip.commits = c.commits ∧ t.chip.live = c.live ∧
        t.chip.regs = c.regs ∧ t.chip.power = { c.power with
          provisioned := c.power.provisioned.set e true, keyRows := c.power.keyRows.set e key
          wrapped := c.power.wrapped.set e (Config.wrapSecrets key (Config.packageSecrets k)) }) ∧
    (∀ k, c.power.debug = false ∨ c.power.jtag ≠ 0x41 ∨ c.power.epoch = none ∨ Config.provisionOk k = false →
      exec (.jtagProvision k) s = .next s)
end

