-- ==== Sys2Proof/Laws/Store.lean ====
section
/-! SUPPORT. The laws of the sparse store and of LPDDR5X: a read after a write, a write beside a read, and the canonical
form that every operation keeps. -/

namespace Sys2Proof.Machine

open Sys2Proof

variable {α : Type} (d : Nat → α)

/-- Entries whose keys all differ from `k` do not decide what `k` reads. -/
theorem Store.get_append_of_ne (l r : Sparse α) (k : Nat) (h : ∀ e ∈ l, e.1 ≠ k) :
    Store.get d (l ++ r) k = Store.get d r k := by
  induction l with
  | nil => rfl
  | cons e l ih =>
    have h1 : k ≠ e.1 := fun x => h e (by simp) x.symm
    simp [Store.get, h1, ih fun x hx => h x (by simp [hx])]

/-- A key that no entry holds reads its default. -/
theorem Store.get_of_ne (l : Sparse α) (k : Nat) (h : ∀ e ∈ l, e.1 ≠ k) : Store.get d l k = d k := by
  simpa [Store.get] using Store.get_append_of_ne d l [] k h

/-- Filtering out entries of other keys does not change what a key reads. -/
theorem Store.get_filter (m : Sparse α) (k : Nat) (q : Nat × α → Bool) (h : ∀ v, q (k, v) = true) :
    Store.get d (m.filter q) k = Store.get d m k := by
  induction m with
  | nil => rfl
  | cons e m ih =>
    obtain ⟨a, v⟩ := e
    by_cases hk : k = a
    · subst hk; simp [h, Store.get]
    · rw [List.filter_cons]
      split <;> simp [Store.get, hk, ih]

variable [DecidableEq α]

/-- A key read after it is written. -/
@[simp] theorem Store.get_set_same (m : Sparse α) (k : Nat) (v : α) : Store.get d (Store.set d m k v) k = v := by
  unfold Store.set
  rw [List.append_assoc, Store.get_append_of_ne d _ _ k (by simp; omega)]
  split
  · next h => simpa [h] using Store.get_of_ne d (m.filter fun e => decide (k < e.1)) k (by simp; omega)
  · simp [Store.get]

/-- Another key read after a key is written. -/
theorem Store.get_set_ne (m : Sparse α) (k j : Nat) (v : α) (h : j ≠ k) :
    Store.get d (Store.set d m k v) j = Store.get d m j := by
  unfold Store.set
  rcases Nat.lt_or_gt_of_ne h with hj | hj
  · have h2 : ∀ l : Sparse α, Store.get d ((m.filter fun e => decide (e.1 < k)) ++ l) j =
        Store.get d ((m.filter fun e => decide (e.1 < k)) ++ l) j := fun _ => rfl
    have key : ∀ (l r : Sparse α), (∀ e ∈ r, e.1 ≠ j) → Store.get d (l ++ r) j = Store.get d l j := by
      intro l r hr
      induction l with
      | nil => simpa [Store.get] using Store.get_of_ne d r j hr
      | cons e l ih => obtain ⟨a, x⟩ := e; simp only [List.cons_append, Store.get, ih]
    rw [List.append_assoc, key _ _ (by
      intro e he
      rcases List.mem_append.mp he with he | he
      · split at he <;> simp at he
        subst he; simpa using h.symm
      · simp at he; omega)]
    exact Store.get_filter d m j _ (fun _ => by simpa using hj)
  · rw [Store.get_append_of_ne d _ _ j (by
      intro e he
      rcases List.mem_append.mp he with he | he
      · simp at he; omega
      · split at he <;> simp at he
        subst he; simpa using h.symm)]
    exact Store.get_filter d m j _ (fun _ => by simpa using hj)

/-- The canonical form above a bound. -/
theorem Store.wfFrom_iff (b : Option Nat) (m : Sparse α) :
    Store.wfFrom d b m = true ↔
      (∀ e ∈ m, (∀ x, b = some x → x < e.1) ∧ e.2 ≠ d e.1) ∧ m.Pairwise (fun a c => a.1 < c.1) := by
  induction m generalizing b with
  | nil => simp [Store.wfFrom]
  | cons e m ih =>
    obtain ⟨k, v⟩ := e
    cases b with
    | none => simp only [Store.wfFrom]; simp [List.pairwise_cons]; grind
    | some x => simp only [Store.wfFrom]; simp [List.pairwise_cons]; grind

/-- The canonical form: keys rise, and no entry is its key's default. -/
theorem Store.wf_iff (m : Sparse α) :
    Store.wf d m = true ↔ (∀ e ∈ m, e.2 ≠ d e.1) ∧ m.Pairwise (fun a c => a.1 < c.1) := by
  simp [Store.wf, Store.wfFrom_iff]

/-- A write keeps the canonical form. -/
theorem Store.wf_set (m : Sparse α) (k : Nat) (v : α) (h : Store.wf d m = true) : Store.wf d (Store.set d m k v) = true := by
  rw [Store.wf_iff] at *
  obtain ⟨h1, h2⟩ := h
  unfold Store.set
  constructor
  · intro e he
    simp only [List.append_assoc, List.mem_append, List.mem_filter] at he
    rcases he with he | he | he
    · exact h1 e he.1
    · split at he
      · simp at he
      · next hv => simp at he; subst he; simpa using hv
    · exact h1 e he.1
  · rw [List.append_assoc, List.pairwise_append, List.pairwise_append]
    refine ⟨h2.filter _, ⟨by split <;> simp, h2.filter _, ?_⟩, ?_⟩
    · intro a ha b hb
      split at ha <;> simp at ha
      subst ha; simp at hb; exact hb.2
    · intro a ha b hb
      simp at ha
      rcases List.mem_append.mp hb with hb | hb
      · split at hb <;> simp at hb
        subst hb; exact ha.2
      · simp at hb; omega

/-- Entries left out keep the canonical form. -/
theorem Store.wf_filter (m : Sparse α) (q : Nat × α → Bool) (h : Store.wf d m = true) : Store.wf d (m.filter q) = true := by
  rw [Store.wf_iff] at *
  exact ⟨fun e he => h.1 e (List.mem_filter.mp he).1, h.2.filter _⟩

/-- An octet read after it is written. -/
@[simp] theorem Memory.read8_write8_same (m : List Host.Cell) (a : Nat) (b : Byte) :
    Memory.read8 (Memory.write8 m a b) a = b := Store.get_set_same _ m a b

/-- Another octet read after an octet is written. -/
theorem Memory.read8_write8_ne (m : List Host.Cell) (a x : Nat) (b : Byte) (h : x ≠ a) :
    Memory.read8 (Memory.write8 m a b) x = Memory.read8 m x := Store.get_set_ne _ m a x b h

/-- An octet outside a range that is written. -/
theorem Memory.read8_write_outside (bs : List Byte) (m : List Host.Cell) (a x : Nat) (h : x < a ∨ a + bs.length ≤ x) :
    Memory.read8 (Memory.write m a bs) x = Memory.read8 m x := by
  induction bs generalizing m a with
  | nil => rfl
  | cons b r ih =>
    simp only [List.length_cons] at h
    rw [Memory.write, ih _ _ (by omega), Memory.read8_write8_ne _ _ _ _ (by omega)]

/-- An octet of a range that is written. -/
theorem Memory.read8_write_inside (bs : List Byte) (m : List Host.Cell) (a i : Nat) (h : i < bs.length) :
    Memory.read8 (Memory.write m a bs) (a + i) = bs[i] := by
  induction bs generalizing m a i with
  | nil => simp at h
  | cons b r ih =>
    cases i with
    | zero => simp [Memory.write, Memory.read8_write_outside]
    | succ i =>
      have := ih (Memory.write8 m a b) (a + 1) i (by simpa using h)
      simpa [Memory.write, Nat.add_assoc, Nat.add_comm 1 i] using this

/-- A write of one octet keeps the canonical form of LPDDR5X. -/
theorem Memory.wf_write8 (m : List Host.Cell) (a : Nat) (b : Byte) (h : Memory.wf m = true) :
    Memory.wf (Memory.write8 m a b) = true := Store.wf_set _ m a b h

/-- A write of octets keeps the canonical form of LPDDR5X. -/
theorem Memory.wf_write (bs : List Byte) (m : List Host.Cell) (a : Nat) (h : Memory.wf m = true) :
    Memory.wf (Memory.write m a bs) = true := by
  induction bs generalizing m a with
  | nil => exact h
  | cons b r ih => exact ih _ _ (Memory.wf_write8 m a b h)

/-- An erasure keeps the canonical form of LPDDR5X. -/
theorem Memory.wf_erase (m : List Host.Cell) (lo hi : Nat) (h : Memory.wf m = true) :
    Memory.wf (Memory.erase m lo hi) = true := Store.wf_filter _ m _ h

/-- Memory that lists nothing is canonical. -/
@[simp] theorem Memory.wf_nil : Memory.wf [] = true := rfl

end Sys2Proof.Machine
end

