-- ==== Sys2Proof/Laws/Ops.lean ====
section
/-! SUPPORT. What the shared shapes of a meaning can do: every one answers a next state, but `within` for operands that name
nothing; the queue stays; and LPDDR5X changes only where a shape acts on it. -/

namespace Sys2Proof.Machine

open Sys2Proof

/-- A meaning on the part alone answers the state with that part. -/
@[simp] theorem onChip_eq (f : List Host.Cell → Chip → Chip) (s : State) :
    onChip f s = .next { s with chip := f s.dram s.chip } := rfl

/-- A meaning on the part and LPDDR5X answers the state with both. -/
@[simp] theorem onBoth_eq (f : List Host.Cell → Chip → List Host.Cell × Chip) (s : State) :
    onBoth f s = .next { s with dram := (f s.dram s.chip).1, chip := (f s.dram s.chip).2 } := rfl

/-- A meaning whose operands name something that exists. -/
@[simp] theorem within_true (r : Host.Outcome State Fault Refusal) : within true r = r := rfl

/-- A meaning whose operands name nothing stops. -/
@[simp] theorem within_false (r : Host.Outcome State Fault Refusal) : within false r = .fault .outsideConditions := rfl

/-- `within` answers a next state only through its meaning, and only for operands that name something. -/
theorem within_next {ok : Bool} {r : Host.Outcome State Fault Refusal} {t : State} :
    within ok r = .next t ↔ ok = true ∧ r = .next t := by cases ok <;> simp

/-- `within` refuses only where its meaning does. -/
theorem within_refused {ok : Bool} {r : Host.Outcome State Fault Refusal} {x : Refusal} :
    within ok r = .refused x ↔ ok = true ∧ r = .refused x := by cases ok <;> simp

/-- A firmware command answers a next state with the queue and LPDDR5X as they were. -/
theorem whenTaken_eq (op : Nat) (h : CmdHdr) (p : Nat) (f : List Host.Cell → Chip → Chip) (s : State) :
    whenTaken op h p f s = .next { s with
      chip := if s.chip.takesFrom h.chan then f s.dram s.chip else s.chip.keepWaiting op h p } := rfl

/-- A firmware command on the part answers a next state with the queue and LPDDR5X as they were. -/
theorem firmware_eq (op : Nat) (long : Bool) (h : CmdHdr) (p : Nat) (f : Nat → List Host.Cell → Chip → Chip) (s : State) :
    firmware op long h p f s = .next { s with
      chip := if s.chip.takesFrom h.chan then s.chip.inChannel op long h p id fun p => f p s.dram s.chip
        else s.chip.keepWaiting op h p } := rfl

/-- A firmware command on the part and LPDDR5X answers a next state with the queue as it was. -/
theorem firmwareBoth_eq (op : Nat) (h : CmdHdr) (p : Nat)
    (f : Nat → List Host.Cell → Chip → List Host.Cell × Chip) (s : State) :
    firmwareBoth op h p f s = onBoth (fun d c =>
      if c.takesFrom h.chan then c.inChannel op false h p (fun c => (d, c)) fun p => f p d c
      else (d, c.keepWaiting op h p)) s := rfl

/-- A register command answers a next state with the queue and LPDDR5X as they were. -/
theorem regCommand_eq (off : Nat) (f : Chip → Chip) (s : State) :
    regCommand off f s = .next { s with chip := s.chip.barWrite off 4 f } := rfl

/-- A meaning of the link answers a next state with the queue and LPDDR5X as they were. -/
theorem onLink_eq (up : Bool) (f : Chip → Chip) (s : State) :
    onLink up f s = .next { s with
      chip := if s.chip.domainOn 10 && s.chip.pair.linkUp == up then s.chip.inCycle f else s.chip } := rfl

/-- A meaning that a set of states holds of every next state it answers: the queue as it was. -/
def KeepsQueue (s : State) (r : Host.Outcome State Fault Refusal) : Prop := ∀ t, r = .next t → t.pending = s.pending

@[simp] theorem keepsQueue_onChip (f : List Host.Cell → Chip → Chip) (s : State) : KeepsQueue s (onChip f s) := by
  intro t h; cases h; rfl

@[simp] theorem keepsQueue_onBoth (f : List Host.Cell → Chip → List Host.Cell × Chip) (s : State) :
    KeepsQueue s (onBoth f s) := by
  intro t h; cases h; rfl

@[simp] theorem keepsQueue_within (ok : Bool) (s : State) (r : Host.Outcome State Fault Refusal) (h : KeepsQueue s r) :
    KeepsQueue s (within ok r) := fun t ht => h t (within_next.mp ht).2

@[simp] theorem keepsQueue_whenTaken (op : Nat) (h : CmdHdr) (p : Nat) (f : List Host.Cell → Chip → Chip) (s : State) :
    KeepsQueue s (whenTaken op h p f s) := keepsQueue_onChip _ s

@[simp] theorem keepsQueue_firmware (op : Nat) (long : Bool) (h : CmdHdr) (p : Nat)
    (f : Nat → List Host.Cell → Chip → Chip) (s : State) : KeepsQueue s (firmware op long h p f s) := by
  intro t ht; cases ht; rfl

@[simp] theorem keepsQueue_firmwareBoth (op : Nat) (h : CmdHdr) (p : Nat)
    (f : Nat → List Host.Cell → Chip → List Host.Cell × Chip) (s : State) : KeepsQueue s (firmwareBoth op h p f s) :=
  keepsQueue_onBoth _ s

@[simp] theorem keepsQueue_regCommand (off : Nat) (f : Chip → Chip) (s : State) : KeepsQueue s (regCommand off f s) :=
  keepsQueue_onChip _ s

@[simp] theorem keepsQueue_onLink (up : Bool) (f : Chip → Chip) (s : State) : KeepsQueue s (onLink up f s) :=
  keepsQueue_onChip _ s

@[simp] theorem keepsQueue_onBar2 (off n : Nat) (f : Nat → List Host.Cell → Chip → List Host.Cell × Chip) (s : State) :
    KeepsQueue s (onBar2 off n f s) := keepsQueue_within _ s _ (keepsQueue_onBoth _ s)

/-! ### LPDDR5X behind its codes -/

/-- Counting an error changes no octet of LPDDR5X: a store keeps the canonical form. -/
theorem Chip.store_wf (c : Chip) (d : List Host.Cell) (cls a : Nat) (bs : List Byte) (h : Memory.wf d = true) :
    Memory.wf (c.store d cls a bs).1 = true := by
  unfold Chip.store
  split
  · exact Memory.wf_write _ _ _ h
  · exact Memory.wf_write _ _ _ h

/-- A store changes no octet outside its range. -/
theorem Chip.store_outside (c : Chip) (d : List Host.Cell) (cls a : Nat) (bs : List Byte) (x : Nat)
    (h : x < a ∨ a + bs.length ≤ x) : Memory.read8 (c.store d cls a bs).1 x = Memory.read8 d x := by
  unfold Chip.store
  split
  · exact Memory.read8_write_outside _ _ _ _ h
  · exact Memory.read8_write_outside _ _ _ _ (by simpa using h)

/-- With no stored difference anywhere, a store writes its octets and changes nothing of the part. -/
theorem Chip.store_clean (c : Chip) (d : List Host.Cell) (cls a : Nat) (bs : List Byte) (h : c.eccDram.flips = []) :
    c.store d cls a bs = (Memory.write d a bs, c) := by simp [Chip.store, h]

/-- With no stored difference anywhere, a fetch reads the octets. -/
theorem Chip.fetch_clean (c : Chip) (d : List Host.Cell) (a n : Nat) (h : c.eccDram.flips = []) :
    c.fetch d a n = Memory.read d a n := by simp [Chip.fetch, h]

/-- With no stored difference anywhere in LPDDR5X, a read of it finds nothing. -/
theorem Chip.noteRead_clean (c : Chip) (cls a n : Nat) (h : c.eccDram.flips = []) : c.noteRead 0 cls a n = c := by
  simp [Chip.noteRead, Chip.ecc, Ecc.within, h]

end Sys2Proof.Machine
end

