-- ==== Sys2Proof/Laws/State.lean ====
section
/-! SUPPORT. What each update of the state changes: one lemma for each field and each update, so that no proof unfolds a
record. -/

namespace Sys2Proof.Machine

open Sys2Proof

/-! ### `Chip.wr` -/

@[simp] theorem Chip.wr_freeCtr (c : Chip) (off v : Nat) : (c.wr off v).freeCtr = c.freeCtr := rfl
@[simp] theorem Chip.wr_out (c : Chip) (off v : Nat) : (c.wr off v).out = c.out := rfl
@[simp] theorem Chip.wr_batch (c : Chip) (off v : Nat) : (c.wr off v).batch = c.batch := rfl
@[simp] theorem Chip.wr_cycle (c : Chip) (off v : Nat) : (c.wr off v).cycle = c.cycle := rfl
@[simp] theorem Chip.wr_live (c : Chip) (off v : Nat) : (c.wr off v).live = c.live := rfl
@[simp] theorem Chip.wr_tbs (c : Chip) (off v : Nat) : (c.wr off v).tbs = c.tbs := rfl
@[simp] theorem Chip.wr_fg (c : Chip) (off v : Nat) : (c.wr off v).fg = c.fg := rfl
@[simp] theorem Chip.wr_pulses (c : Chip) (off v : Nat) : (c.wr off v).pulses = c.pulses := rfl
@[simp] theorem Chip.wr_csn (c : Chip) (off v : Nat) : (c.wr off v).csn = c.csn := rfl
@[simp] theorem Chip.wr_crossTime (c : Chip) (off v : Nat) : (c.wr off v).crossTime = c.crossTime := rfl
@[simp] theorem Chip.wr_sealed (c : Chip) (off v : Nat) : (c.wr off v).sealed = c.sealed := rfl
@[simp] theorem Chip.wr_commits (c : Chip) (off v : Nat) : (c.wr off v).commits = c.commits := rfl
@[simp] theorem Chip.wr_copyFwd (c : Chip) (off v : Nat) : (c.wr off v).copyFwd = c.copyFwd := rfl
@[simp] theorem Chip.wr_tables (c : Chip) (off v : Nat) : (c.wr off v).tables = c.tables := rfl
@[simp] theorem Chip.wr_frame (c : Chip) (off v : Nat) : (c.wr off v).frame = c.frame := rfl
@[simp] theorem Chip.wr_lastCanvas (c : Chip) (off v : Nat) : (c.wr off v).lastCanvas = c.lastCanvas := rfl
@[simp] theorem Chip.wr_retired (c : Chip) (off v : Nat) : (c.wr off v).retired = c.retired := rfl
@[simp] theorem Chip.wr_slots (c : Chip) (off v : Nat) : (c.wr off v).slots = c.slots := rfl
@[simp] theorem Chip.wr_dmxBack (c : Chip) (off v : Nat) : (c.wr off v).dmxBack = c.dmxBack := rfl
@[simp] theorem Chip.wr_dmxFront (c : Chip) (off v : Nat) : (c.wr off v).dmxFront = c.dmxFront := rfl
@[simp] theorem Chip.wr_pixBack (c : Chip) (off v : Nat) : (c.wr off v).pixBack = c.pixBack := rfl
@[simp] theorem Chip.wr_pixFront (c : Chip) (off v : Nat) : (c.wr off v).pixFront = c.pixFront := rfl
@[simp] theorem Chip.wr_univs (c : Chip) (off v : Nat) : (c.wr off v).univs = c.univs := rfl
@[simp] theorem Chip.wr_syncSeqs (c : Chip) (off v : Nat) : (c.wr off v).syncSeqs = c.syncSeqs := rfl
@[simp] theorem Chip.wr_tasks (c : Chip) (off v : Nat) : (c.wr off v).tasks = c.tasks := rfl
@[simp] theorem Chip.wr_dispatching (c : Chip) (off v : Nat) : (c.wr off v).dispatching = c.dispatching := rfl
@[simp] theorem Chip.wr_cueVals (c : Chip) (off v : Nat) : (c.wr off v).cueVals = c.cueVals := rfl
@[simp] theorem Chip.wr_cueChanged (c : Chip) (off v : Nat) : (c.wr off v).cueChanged = c.cueChanged := rfl
@[simp] theorem Chip.wr_fades (c : Chip) (off v : Nat) : (c.wr off v).fades = c.fades := rfl
@[simp] theorem Chip.wr_effects (c : Chip) (off v : Nat) : (c.wr off v).effects = c.effects := rfl
@[simp] theorem Chip.wr_sources (c : Chip) (off v : Nat) : (c.wr off v).sources = c.sources := rfl
@[simp] theorem Chip.wr_exceeded (c : Chip) (off v : Nat) : (c.wr off v).exceeded = c.exceeded := rfl
@[simp] theorem Chip.wr_triggers (c : Chip) (off v : Nat) : (c.wr off v).triggers = c.triggers := rfl
@[simp] theorem Chip.wr_tEst (c : Chip) (off v : Nat) : (c.wr off v).tEst = c.tEst := rfl
@[simp] theorem Chip.wr_applied (c : Chip) (off v : Nat) : (c.wr off v).applied = c.applied := rfl
@[simp] theorem Chip.wr_drawn (c : Chip) (off v : Nat) : (c.wr off v).drawn = c.drawn := rfl
@[simp] theorem Chip.wr_limiters (c : Chip) (off v : Nat) : (c.wr off v).limiters = c.limiters := rfl
@[simp] theorem Chip.wr_dmx (c : Chip) (off v : Nat) : (c.wr off v).dmx = c.dmx := rfl
@[simp] theorem Chip.wr_pix (c : Chip) (off v : Nat) : (c.wr off v).pix = c.pix := rfl
@[simp] theorem Chip.wr_house (c : Chip) (off v : Nat) : (c.wr off v).house = c.house := rfl
@[simp] theorem Chip.wr_sensors (c : Chip) (off v : Nat) : (c.wr off v).sensors = c.sensors := rfl
@[simp] theorem Chip.wr_rdmFails (c : Chip) (off v : Nat) : (c.wr off v).rdmFails = c.rdmFails := rfl
@[simp] theorem Chip.wr_rdmTold (c : Chip) (off v : Nat) : (c.wr off v).rdmTold = c.rdmTold := rfl
@[simp] theorem Chip.wr_ports (c : Chip) (off v : Nat) : (c.wr off v).ports = c.ports := rfl
@[simp] theorem Chip.wr_cnt (c : Chip) (off v : Nat) : (c.wr off v).cnt = c.cnt := rfl
@[simp] theorem Chip.wr_streams (c : Chip) (off v : Nat) : (c.wr off v).streams = c.streams := rfl
@[simp] theorem Chip.wr_rings (c : Chip) (off v : Nat) : (c.wr off v).rings = c.rings := rfl
@[simp] theorem Chip.wr_ringMem (c : Chip) (off v : Nat) : (c.wr off v).ringMem = c.ringMem := rfl
@[simp] theorem Chip.wr_mboxes (c : Chip) (off v : Nat) : (c.wr off v).mboxes = c.mboxes := rfl
@[simp] theorem Chip.wr_fifos (c : Chip) (off v : Nat) : (c.wr off v).fifos = c.fifos := rfl
@[simp] theorem Chip.wr_produced (c : Chip) (off v : Nat) : (c.wr off v).produced = c.produced := rfl
@[simp] theorem Chip.wr_msixPend (c : Chip) (off v : Nat) : (c.wr off v).msixPend = c.msixPend := rfl
@[simp] theorem Chip.wr_pair (c : Chip) (off v : Nat) : (c.wr off v).pair = c.pair := rfl
@[simp] theorem Chip.wr_feeds (c : Chip) (off v : Nat) : (c.wr off v).feeds = c.feeds := rfl
@[simp] theorem Chip.wr_energy (c : Chip) (off v : Nat) : (c.wr off v).energy = c.energy := rfl
@[simp] theorem Chip.wr_pulseOuts (c : Chip) (off v : Nat) : (c.wr off v).pulseOuts = c.pulseOuts := rfl
@[simp] theorem Chip.wr_warning (c : Chip) (off v : Nat) : (c.wr off v).warning = c.warning := rfl
@[simp] theorem Chip.wr_hostSnapNs (c : Chip) (off v : Nat) : (c.wr off v).hostSnapNs = c.hostSnapNs := rfl
@[simp] theorem Chip.wr_hostSnapCsn (c : Chip) (off v : Nat) : (c.wr off v).hostSnapCsn = c.hostSnapCsn := rfl
@[simp] theorem Chip.wr_snapCsn (c : Chip) (off v : Nat) : (c.wr off v).snapCsn = c.snapCsn := rfl
@[simp] theorem Chip.wr_arbiter (c : Chip) (off v : Nat) : (c.wr off v).arbiter = c.arbiter := rfl
@[simp] theorem Chip.wr_calib (c : Chip) (off v : Nat) : (c.wr off v).calib = c.calib := rfl
@[simp] theorem Chip.wr_checks (c : Chip) (off v : Nat) : (c.wr off v).checks = c.checks := rfl
@[simp] theorem Chip.wr_eccDram (c : Chip) (off v : Nat) : (c.wr off v).eccDram = c.eccDram := rfl
@[simp] theorem Chip.wr_eccLagoon (c : Chip) (off v : Nat) : (c.wr off v).eccLagoon = c.eccLagoon := rfl
@[simp] theorem Chip.wr_update (c : Chip) (off v : Nat) : (c.wr off v).update = c.update := rfl
@[simp] theorem Chip.wr_power (c : Chip) (off v : Nat) : (c.wr off v).power = c.power := rfl
@[simp] theorem Chip.wr_dramCfg (c : Chip) (off v : Nat) : (c.wr off v).dramCfg = c.dramCfg := rfl
@[simp] theorem Chip.wr_patched (c : Chip) (off v : Nat) : (c.wr off v).patched = c.patched := rfl
@[simp] theorem Chip.wr_sensorsTold (c : Chip) (off v : Nat) : (c.wr off v).sensorsTold = c.sensorsTold := rfl
@[simp] theorem Chip.wr_rdmPolled (c : Chip) (off v : Nat) : (c.wr off v).rdmPolled = c.rdmPolled := rfl
@[simp] theorem Chip.wr_lastRing (c : Chip) (off v : Nat) : (c.wr off v).lastRing = c.lastRing := rfl

/-! ### `Chip.wrLive` -/

@[simp] theorem Chip.wrLive_freeCtr (c : Chip) (off v : Nat) : (c.wrLive off v).freeCtr = c.freeCtr := rfl
@[simp] theorem Chip.wrLive_out (c : Chip) (off v : Nat) : (c.wrLive off v).out = c.out := rfl
@[simp] theorem Chip.wrLive_batch (c : Chip) (off v : Nat) : (c.wrLive off v).batch = c.batch := rfl
@[simp] theorem Chip.wrLive_cycle (c : Chip) (off v : Nat) : (c.wrLive off v).cycle = c.cycle := rfl
@[simp] theorem Chip.wrLive_regs (c : Chip) (off v : Nat) : (c.wrLive off v).regs = c.regs := rfl
@[simp] theorem Chip.wrLive_tbs (c : Chip) (off v : Nat) : (c.wrLive off v).tbs = c.tbs := rfl
@[simp] theorem Chip.wrLive_fg (c : Chip) (off v : Nat) : (c.wrLive off v).fg = c.fg := rfl
@[simp] theorem Chip.wrLive_pulses (c : Chip) (off v : Nat) : (c.wrLive off v).pulses = c.pulses := rfl
@[simp] theorem Chip.wrLive_csn (c : Chip) (off v : Nat) : (c.wrLive off v).csn = c.csn := rfl
@[simp] theorem Chip.wrLive_crossTime (c : Chip) (off v : Nat) : (c.wrLive off v).crossTime = c.crossTime := rfl
@[simp] theorem Chip.wrLive_sealed (c : Chip) (off v : Nat) : (c.wrLive off v).sealed = c.sealed := rfl
@[simp] theorem Chip.wrLive_commits (c : Chip) (off v : Nat) : (c.wrLive off v).commits = c.commits := rfl
@[simp] theorem Chip.wrLive_copyFwd (c : Chip) (off v : Nat) : (c.wrLive off v).copyFwd = c.copyFwd := rfl
@[simp] theorem Chip.wrLive_tables (c : Chip) (off v : Nat) : (c.wrLive off v).tables = c.tables := rfl
@[simp] theorem Chip.wrLive_frame (c : Chip) (off v : Nat) : (c.wrLive off v).frame = c.frame := rfl
@[simp] theorem Chip.wrLive_lastCanvas (c : Chip) (off v : Nat) : (c.wrLive off v).lastCanvas = c.lastCanvas := rfl
@[simp] theorem Chip.wrLive_retired (c : Chip) (off v : Nat) : (c.wrLive off v).retired = c.retired := rfl
@[simp] theorem Chip.wrLive_slots (c : Chip) (off v : Nat) : (c.wrLive off v).slots = c.slots := rfl
@[simp] theorem Chip.wrLive_dmxBack (c : Chip) (off v : Nat) : (c.wrLive off v).dmxBack = c.dmxBack := rfl
@[simp] theorem Chip.wrLive_dmxFront (c : Chip) (off v : Nat) : (c.wrLive off v).dmxFront = c.dmxFront := rfl
@[simp] theorem Chip.wrLive_pixBack (c : Chip) (off v : Nat) : (c.wrLive off v).pixBack = c.pixBack := rfl
@[simp] theorem Chip.wrLive_pixFront (c : Chip) (off v : Nat) : (c.wrLive off v).pixFront = c.pixFront := rfl
@[simp] theorem Chip.wrLive_univs (c : Chip) (off v : Nat) : (c.wrLive off v).univs = c.univs := rfl
@[simp] theorem Chip.wrLive_syncSeqs (c : Chip) (off v : Nat) : (c.wrLive off v).syncSeqs = c.syncSeqs := rfl
@[simp] theorem Chip.wrLive_tasks (c : Chip) (off v : Nat) : (c.wrLive off v).tasks = c.tasks := rfl
@[simp] theorem Chip.wrLive_dispatching (c : Chip) (off v : Nat) : (c.wrLive off v).dispatching = c.dispatching := rfl
@[simp] theorem Chip.wrLive_cueVals (c : Chip) (off v : Nat) : (c.wrLive off v).cueVals = c.cueVals := rfl
@[simp] theorem Chip.wrLive_cueChanged (c : Chip) (off v : Nat) : (c.wrLive off v).cueChanged = c.cueChanged := rfl
@[simp] theorem Chip.wrLive_fades (c : Chip) (off v : Nat) : (c.wrLive off v).fades = c.fades := rfl
@[simp] theorem Chip.wrLive_effects (c : Chip) (off v : Nat) : (c.wrLive off v).effects = c.effects := rfl
@[simp] theorem Chip.wrLive_sources (c : Chip) (off v : Nat) : (c.wrLive off v).sources = c.sources := rfl
@[simp] theorem Chip.wrLive_exceeded (c : Chip) (off v : Nat) : (c.wrLive off v).exceeded = c.exceeded := rfl
@[simp] theorem Chip.wrLive_triggers (c : Chip) (off v : Nat) : (c.wrLive off v).triggers = c.triggers := rfl
@[simp] theorem Chip.wrLive_tEst (c : Chip) (off v : Nat) : (c.wrLive off v).tEst = c.tEst := rfl
@[simp] theorem Chip.wrLive_applied (c : Chip) (off v : Nat) : (c.wrLive off v).applied = c.applied := rfl
@[simp] theorem Chip.wrLive_drawn (c : Chip) (off v : Nat) : (c.wrLive off v).drawn = c.drawn := rfl
@[simp] theorem Chip.wrLive_limiters (c : Chip) (off v : Nat) : (c.wrLive off v).limiters = c.limiters := rfl
@[simp] theorem Chip.wrLive_dmx (c : Chip) (off v : Nat) : (c.wrLive off v).dmx = c.dmx := rfl
@[simp] theorem Chip.wrLive_pix (c : Chip) (off v : Nat) : (c.wrLive off v).pix = c.pix := rfl
@[simp] theorem Chip.wrLive_house (c : Chip) (off v : Nat) : (c.wrLive off v).house = c.house := rfl
@[simp] theorem Chip.wrLive_sensors (c : Chip) (off v : Nat) : (c.wrLive off v).sensors = c.sensors := rfl
@[simp] theorem Chip.wrLive_rdmFails (c : Chip) (off v : Nat) : (c.wrLive off v).rdmFails = c.rdmFails := rfl
@[simp] theorem Chip.wrLive_rdmTold (c : Chip) (off v : Nat) : (c.wrLive off v).rdmTold = c.rdmTold := rfl
@[simp] theorem Chip.wrLive_ports (c : Chip) (off v : Nat) : (c.wrLive off v).ports = c.ports := rfl
@[simp] theorem Chip.wrLive_cnt (c : Chip) (off v : Nat) : (c.wrLive off v).cnt = c.cnt := rfl
@[simp] theorem Chip.wrLive_streams (c : Chip) (off v : Nat) : (c.wrLive off v).streams = c.streams := rfl
@[simp] theorem Chip.wrLive_rings (c : Chip) (off v : Nat) : (c.wrLive off v).rings = c.rings := rfl
@[simp] theorem Chip.wrLive_ringMem (c : Chip) (off v : Nat) : (c.wrLive off v).ringMem = c.ringMem := rfl
@[simp] theorem Chip.wrLive_mboxes (c : Chip) (off v : Nat) : (c.wrLive off v).mboxes = c.mboxes := rfl
@[simp] theorem Chip.wrLive_fifos (c : Chip) (off v : Nat) : (c.wrLive off v).fifos = c.fifos := rfl
@[simp] theorem Chip.wrLive_produced (c : Chip) (off v : Nat) : (c.wrLive off v).produced = c.produced := rfl
@[simp] theorem Chip.wrLive_msixPend (c : Chip) (off v : Nat) : (c.wrLive off v).msixPend = c.msixPend := rfl
@[simp] theorem Chip.wrLive_pair (c : Chip) (off v : Nat) : (c.wrLive off v).pair = c.pair := rfl
@[simp] theorem Chip.wrLive_feeds (c : Chip) (off v : Nat) : (c.wrLive off v).feeds = c.feeds := rfl
@[simp] theorem Chip.wrLive_energy (c : Chip) (off v : Nat) : (c.wrLive off v).energy = c.energy := rfl
@[simp] theorem Chip.wrLive_pulseOuts (c : Chip) (off v : Nat) : (c.wrLive off v).pulseOuts = c.pulseOuts := rfl
@[simp] theorem Chip.wrLive_warning (c : Chip) (off v : Nat) : (c.wrLive off v).warning = c.warning := rfl
@[simp] theorem Chip.wrLive_hostSnapNs (c : Chip) (off v : Nat) : (c.wrLive off v).hostSnapNs = c.hostSnapNs := rfl
@[simp] theorem Chip.wrLive_hostSnapCsn (c : Chip) (off v : Nat) : (c.wrLive off v).hostSnapCsn = c.hostSnapCsn := rfl
@[simp] theorem Chip.wrLive_snapCsn (c : Chip) (off v : Nat) : (c.wrLive off v).snapCsn = c.snapCsn := rfl
@[simp] theorem Chip.wrLive_arbiter (c : Chip) (off v : Nat) : (c.wrLive off v).arbiter = c.arbiter := rfl
@[simp] theorem Chip.wrLive_calib (c : Chip) (off v : Nat) : (c.wrLive off v).calib = c.calib := rfl
@[simp] theorem Chip.wrLive_checks (c : Chip) (off v : Nat) : (c.wrLive off v).checks = c.checks := rfl
@[simp] theorem Chip.wrLive_eccDram (c : Chip) (off v : Nat) : (c.wrLive off v).eccDram = c.eccDram := rfl
@[simp] theorem Chip.wrLive_eccLagoon (c : Chip) (off v : Nat) : (c.wrLive off v).eccLagoon = c.eccLagoon := rfl
@[simp] theorem Chip.wrLive_update (c : Chip) (off v : Nat) : (c.wrLive off v).update = c.update := rfl
@[simp] theorem Chip.wrLive_power (c : Chip) (off v : Nat) : (c.wrLive off v).power = c.power := rfl
@[simp] theorem Chip.wrLive_dramCfg (c : Chip) (off v : Nat) : (c.wrLive off v).dramCfg = c.dramCfg := rfl
@[simp] theorem Chip.wrLive_patched (c : Chip) (off v : Nat) : (c.wrLive off v).patched = c.patched := rfl
@[simp] theorem Chip.wrLive_sensorsTold (c : Chip) (off v : Nat) : (c.wrLive off v).sensorsTold = c.sensorsTold := rfl
@[simp] theorem Chip.wrLive_rdmPolled (c : Chip) (off v : Nat) : (c.wrLive off v).rdmPolled = c.rdmPolled := rfl
@[simp] theorem Chip.wrLive_lastRing (c : Chip) (off v : Nat) : (c.wrLive off v).lastRing = c.lastRing := rfl

/-! ### `Chip.setRing` -/

@[simp] theorem Chip.setRing_freeCtr (c : Chip) (r : Nat) (x : Ring) : (c.setRing r x).freeCtr = c.freeCtr := rfl
@[simp] theorem Chip.setRing_out (c : Chip) (r : Nat) (x : Ring) : (c.setRing r x).out = c.out := rfl
@[simp] theorem Chip.setRing_batch (c : Chip) (r : Nat) (x : Ring) : (c.setRing r x).batch = c.batch := rfl
@[simp] theorem Chip.setRing_cycle (c : Chip) (r : Nat) (x : Ring) : (c.setRing r x).cycle = c.cycle := rfl
@[simp] theorem Chip.setRing_regs (c : Chip) (r : Nat) (x : Ring) : (c.setRing r x).regs = c.regs := rfl
@[simp] theorem Chip.setRing_live (c : Chip) (r : Nat) (x : Ring) : (c.setRing r x).live = c.live := rfl
@[simp] theorem Chip.setRing_tbs (c : Chip) (r : Nat) (x : Ring) : (c.setRing r x).tbs = c.tbs := rfl
@[simp] theorem Chip.setRing_fg (c : Chip) (r : Nat) (x : Ring) : (c.setRing r x).fg = c.fg := rfl
@[simp] theorem Chip.setRing_pulses (c : Chip) (r : Nat) (x : Ring) : (c.setRing r x).pulses = c.pulses := rfl
@[simp] theorem Chip.setRing_csn (c : Chip) (r : Nat) (x : Ring) : (c.setRing r x).csn = c.csn := rfl
@[simp] theorem Chip.setRing_crossTime (c : Chip) (r : Nat) (x : Ring) : (c.setRing r x).crossTime = c.crossTime := rfl
@[simp] theorem Chip.setRing_sealed (c : Chip) (r : Nat) (x : Ring) : (c.setRing r x).sealed = c.sealed := rfl
@[simp] theorem Chip.setRing_commits (c : Chip) (r : Nat) (x : Ring) : (c.setRing r x).commits = c.commits := rfl
@[simp] theorem Chip.setRing_copyFwd (c : Chip) (r : Nat) (x : Ring) : (c.setRing r x).copyFwd = c.copyFwd := rfl
@[simp] theorem Chip.setRing_tables (c : Chip) (r : Nat) (x : Ring) : (c.setRing r x).tables = c.tables := rfl
@[simp] theorem Chip.setRing_frame (c : Chip) (r : Nat) (x : Ring) : (c.setRing r x).frame = c.frame := rfl
@[simp] theorem Chip.setRing_lastCanvas (c : Chip) (r : Nat) (x : Ring) : (c.setRing r x).lastCanvas = c.lastCanvas := rfl
@[simp] theorem Chip.setRing_retired (c : Chip) (r : Nat) (x : Ring) : (c.setRing r x).retired = c.retired := rfl
@[simp] theorem Chip.setRing_slots (c : Chip) (r : Nat) (x : Ring) : (c.setRing r x).slots = c.slots := rfl
@[simp] theorem Chip.setRing_dmxBack (c : Chip) (r : Nat) (x : Ring) : (c.setRing r x).dmxBack = c.dmxBack := rfl
@[simp] theorem Chip.setRing_dmxFront (c : Chip) (r : Nat) (x : Ring) : (c.setRing r x).dmxFront = c.dmxFront := rfl
@[simp] theorem Chip.setRing_pixBack (c : Chip) (r : Nat) (x : Ring) : (c.setRing r x).pixBack = c.pixBack := rfl
@[simp] theorem Chip.setRing_pixFront (c : Chip) (r : Nat) (x : Ring) : (c.setRing r x).pixFront = c.pixFront := rfl
@[simp] theorem Chip.setRing_univs (c : Chip) (r : Nat) (x : Ring) : (c.setRing r x).univs = c.univs := rfl
@[simp] theorem Chip.setRing_syncSeqs (c : Chip) (r : Nat) (x : Ring) : (c.setRing r x).syncSeqs = c.syncSeqs := rfl
@[simp] theorem Chip.setRing_tasks (c : Chip) (r : Nat) (x : Ring) : (c.setRing r x).tasks = c.tasks := rfl
@[simp] theorem Chip.setRing_dispatching (c : Chip) (r : Nat) (x : Ring) : (c.setRing r x).dispatching = c.dispatching := rfl
@[simp] theorem Chip.setRing_cueVals (c : Chip) (r : Nat) (x : Ring) : (c.setRing r x).cueVals = c.cueVals := rfl
@[simp] theorem Chip.setRing_cueChanged (c : Chip) (r : Nat) (x : Ring) : (c.setRing r x).cueChanged = c.cueChanged := rfl
@[simp] theorem Chip.setRing_fades (c : Chip) (r : Nat) (x : Ring) : (c.setRing r x).fades = c.fades := rfl
@[simp] theorem Chip.setRing_effects (c : Chip) (r : Nat) (x : Ring) : (c.setRing r x).effects = c.effects := rfl
@[simp] theorem Chip.setRing_sources (c : Chip) (r : Nat) (x : Ring) : (c.setRing r x).sources = c.sources := rfl
@[simp] theorem Chip.setRing_exceeded (c : Chip) (r : Nat) (x : Ring) : (c.setRing r x).exceeded = c.exceeded := rfl
@[simp] theorem Chip.setRing_triggers (c : Chip) (r : Nat) (x : Ring) : (c.setRing r x).triggers = c.triggers := rfl
@[simp] theorem Chip.setRing_tEst (c : Chip) (r : Nat) (x : Ring) : (c.setRing r x).tEst = c.tEst := rfl
@[simp] theorem Chip.setRing_applied (c : Chip) (r : Nat) (x : Ring) : (c.setRing r x).applied = c.applied := rfl
@[simp] theorem Chip.setRing_drawn (c : Chip) (r : Nat) (x : Ring) : (c.setRing r x).drawn = c.drawn := rfl
@[simp] theorem Chip.setRing_limiters (c : Chip) (r : Nat) (x : Ring) : (c.setRing r x).limiters = c.limiters := rfl
@[simp] theorem Chip.setRing_dmx (c : Chip) (r : Nat) (x : Ring) : (c.setRing r x).dmx = c.dmx := rfl
@[simp] theorem Chip.setRing_pix (c : Chip) (r : Nat) (x : Ring) : (c.setRing r x).pix = c.pix := rfl
@[simp] theorem Chip.setRing_house (c : Chip) (r : Nat) (x : Ring) : (c.setRing r x).house = c.house := rfl
@[simp] theorem Chip.setRing_sensors (c : Chip) (r : Nat) (x : Ring) : (c.setRing r x).sensors = c.sensors := rfl
@[simp] theorem Chip.setRing_rdmFails (c : Chip) (r : Nat) (x : Ring) : (c.setRing r x).rdmFails = c.rdmFails := rfl
@[simp] theorem Chip.setRing_rdmTold (c : Chip) (r : Nat) (x : Ring) : (c.setRing r x).rdmTold = c.rdmTold := rfl
@[simp] theorem Chip.setRing_ports (c : Chip) (r : Nat) (x : Ring) : (c.setRing r x).ports = c.ports := rfl
@[simp] theorem Chip.setRing_cnt (c : Chip) (r : Nat) (x : Ring) : (c.setRing r x).cnt = c.cnt := rfl
@[simp] theorem Chip.setRing_streams (c : Chip) (r : Nat) (x : Ring) : (c.setRing r x).streams = c.streams := rfl
@[simp] theorem Chip.setRing_ringMem (c : Chip) (r : Nat) (x : Ring) : (c.setRing r x).ringMem = c.ringMem := rfl
@[simp] theorem Chip.setRing_mboxes (c : Chip) (r : Nat) (x : Ring) : (c.setRing r x).mboxes = c.mboxes := rfl
@[simp] theorem Chip.setRing_fifos (c : Chip) (r : Nat) (x : Ring) : (c.setRing r x).fifos = c.fifos := rfl
@[simp] theorem Chip.setRing_produced (c : Chip) (r : Nat) (x : Ring) : (c.setRing r x).produced = c.produced := rfl
@[simp] theorem Chip.setRing_msixPend (c : Chip) (r : Nat) (x : Ring) : (c.setRing r x).msixPend = c.msixPend := rfl
@[simp] theorem Chip.setRing_pair (c : Chip) (r : Nat) (x : Ring) : (c.setRing r x).pair = c.pair := rfl
@[simp] theorem Chip.setRing_feeds (c : Chip) (r : Nat) (x : Ring) : (c.setRing r x).feeds = c.feeds := rfl
@[simp] theorem Chip.setRing_energy (c : Chip) (r : Nat) (x : Ring) : (c.setRing r x).energy = c.energy := rfl
@[simp] theorem Chip.setRing_pulseOuts (c : Chip) (r : Nat) (x : Ring) : (c.setRing r x).pulseOuts = c.pulseOuts := rfl
@[simp] theorem Chip.setRing_warning (c : Chip) (r : Nat) (x : Ring) : (c.setRing r x).warning = c.warning := rfl
@[simp] theorem Chip.setRing_hostSnapNs (c : Chip) (r : Nat) (x : Ring) : (c.setRing r x).hostSnapNs = c.hostSnapNs := rfl
@[simp] theorem Chip.setRing_hostSnapCsn (c : Chip) (r : Nat) (x : Ring) : (c.setRing r x).hostSnapCsn = c.hostSnapCsn := rfl
@[simp] theorem Chip.setRing_snapCsn (c : Chip) (r : Nat) (x : Ring) : (c.setRing r x).snapCsn = c.snapCsn := rfl
@[simp] theorem Chip.setRing_arbiter (c : Chip) (r : Nat) (x : Ring) : (c.setRing r x).arbiter = c.arbiter := rfl
@[simp] theorem Chip.setRing_calib (c : Chip) (r : Nat) (x : Ring) : (c.setRing r x).calib = c.calib := rfl
@[simp] theorem Chip.setRing_checks (c : Chip) (r : Nat) (x : Ring) : (c.setRing r x).checks = c.checks := rfl
@[simp] theorem Chip.setRing_eccDram (c : Chip) (r : Nat) (x : Ring) : (c.setRing r x).eccDram = c.eccDram := rfl
@[simp] theorem Chip.setRing_eccLagoon (c : Chip) (r : Nat) (x : Ring) : (c.setRing r x).eccLagoon = c.eccLagoon := rfl
@[simp] theorem Chip.setRing_update (c : Chip) (r : Nat) (x : Ring) : (c.setRing r x).update = c.update := rfl
@[simp] theorem Chip.setRing_power (c : Chip) (r : Nat) (x : Ring) : (c.setRing r x).power = c.power := rfl
@[simp] theorem Chip.setRing_dramCfg (c : Chip) (r : Nat) (x : Ring) : (c.setRing r x).dramCfg = c.dramCfg := rfl
@[simp] theorem Chip.setRing_patched (c : Chip) (r : Nat) (x : Ring) : (c.setRing r x).patched = c.patched := rfl
@[simp] theorem Chip.setRing_sensorsTold (c : Chip) (r : Nat) (x : Ring) : (c.setRing r x).sensorsTold = c.sensorsTold := rfl
@[simp] theorem Chip.setRing_rdmPolled (c : Chip) (r : Nat) (x : Ring) : (c.setRing r x).rdmPolled = c.rdmPolled := rfl
@[simp] theorem Chip.setRing_lastRing (c : Chip) (r : Nat) (x : Ring) : (c.setRing r x).lastRing = c.lastRing := rfl

/-! ### `Chip.setMbox` -/

@[simp] theorem Chip.setMbox_freeCtr (c : Chip) (r : Nat) (x : Mailbox) : (c.setMbox r x).freeCtr = c.freeCtr := rfl
@[simp] theorem Chip.setMbox_out (c : Chip) (r : Nat) (x : Mailbox) : (c.setMbox r x).out = c.out := rfl
@[simp] theorem Chip.setMbox_batch (c : Chip) (r : Nat) (x : Mailbox) : (c.setMbox r x).batch = c.batch := rfl
@[simp] theorem Chip.setMbox_cycle (c : Chip) (r : Nat) (x : Mailbox) : (c.setMbox r x).cycle = c.cycle := rfl
@[simp] theorem Chip.setMbox_regs (c : Chip) (r : Nat) (x : Mailbox) : (c.setMbox r x).regs = c.regs := rfl
@[simp] theorem Chip.setMbox_live (c : Chip) (r : Nat) (x : Mailbox) : (c.setMbox r x).live = c.live := rfl
@[simp] theorem Chip.setMbox_tbs (c : Chip) (r : Nat) (x : Mailbox) : (c.setMbox r x).tbs = c.tbs := rfl
@[simp] theorem Chip.setMbox_fg (c : Chip) (r : Nat) (x : Mailbox) : (c.setMbox r x).fg = c.fg := rfl
@[simp] theorem Chip.setMbox_pulses (c : Chip) (r : Nat) (x : Mailbox) : (c.setMbox r x).pulses = c.pulses := rfl
@[simp] theorem Chip.setMbox_csn (c : Chip) (r : Nat) (x : Mailbox) : (c.setMbox r x).csn = c.csn := rfl
@[simp] theorem Chip.setMbox_crossTime (c : Chip) (r : Nat) (x : Mailbox) : (c.setMbox r x).crossTime = c.crossTime := rfl
@[simp] theorem Chip.setMbox_sealed (c : Chip) (r : Nat) (x : Mailbox) : (c.setMbox r x).sealed = c.sealed := rfl
@[simp] theorem Chip.setMbox_commits (c : Chip) (r : Nat) (x : Mailbox) : (c.setMbox r x).commits = c.commits := rfl
@[simp] theorem Chip.setMbox_copyFwd (c : Chip) (r : Nat) (x : Mailbox) : (c.setMbox r x).copyFwd = c.copyFwd := rfl
@[simp] theorem Chip.setMbox_tables (c : Chip) (r : Nat) (x : Mailbox) : (c.setMbox r x).tables = c.tables := rfl
@[simp] theorem Chip.setMbox_frame (c : Chip) (r : Nat) (x : Mailbox) : (c.setMbox r x).frame = c.frame := rfl
@[simp] theorem Chip.setMbox_lastCanvas (c : Chip) (r : Nat) (x : Mailbox) : (c.setMbox r x).lastCanvas = c.lastCanvas := rfl
@[simp] theorem Chip.setMbox_retired (c : Chip) (r : Nat) (x : Mailbox) : (c.setMbox r x).retired = c.retired := rfl
@[simp] theorem Chip.setMbox_slots (c : Chip) (r : Nat) (x : Mailbox) : (c.setMbox r x).slots = c.slots := rfl
@[simp] theorem Chip.setMbox_dmxBack (c : Chip) (r : Nat) (x : Mailbox) : (c.setMbox r x).dmxBack = c.dmxBack := rfl
@[simp] theorem Chip.setMbox_dmxFront (c : Chip) (r : Nat) (x : Mailbox) : (c.setMbox r x).dmxFront = c.dmxFront := rfl
@[simp] theorem Chip.setMbox_pixBack (c : Chip) (r : Nat) (x : Mailbox) : (c.setMbox r x).pixBack = c.pixBack := rfl
@[simp] theorem Chip.setMbox_pixFront (c : Chip) (r : Nat) (x : Mailbox) : (c.setMbox r x).pixFront = c.pixFront := rfl
@[simp] theorem Chip.setMbox_univs (c : Chip) (r : Nat) (x : Mailbox) : (c.setMbox r x).univs = c.univs := rfl
@[simp] theorem Chip.setMbox_syncSeqs (c : Chip) (r : Nat) (x : Mailbox) : (c.setMbox r x).syncSeqs = c.syncSeqs := rfl
@[simp] theorem Chip.setMbox_tasks (c : Chip) (r : Nat) (x : Mailbox) : (c.setMbox r x).tasks = c.tasks := rfl
@[simp] theorem Chip.setMbox_dispatching (c : Chip) (r : Nat) (x : Mailbox) : (c.setMbox r x).dispatching = c.dispatching := rfl
@[simp] theorem Chip.setMbox_cueVals (c : Chip) (r : Nat) (x : Mailbox) : (c.setMbox r x).cueVals = c.cueVals := rfl
@[simp] theorem Chip.setMbox_cueChanged (c : Chip) (r : Nat) (x : Mailbox) : (c.setMbox r x).cueChanged = c.cueChanged := rfl
@[simp] theorem Chip.setMbox_fades (c : Chip) (r : Nat) (x : Mailbox) : (c.setMbox r x).fades = c.fades := rfl
@[simp] theorem Chip.setMbox_effects (c : Chip) (r : Nat) (x : Mailbox) : (c.setMbox r x).effects = c.effects := rfl
@[simp] theorem Chip.setMbox_sources (c : Chip) (r : Nat) (x : Mailbox) : (c.setMbox r x).sources = c.sources := rfl
@[simp] theorem Chip.setMbox_exceeded (c : Chip) (r : Nat) (x : Mailbox) : (c.setMbox r x).exceeded = c.exceeded := rfl
@[simp] theorem Chip.setMbox_triggers (c : Chip) (r : Nat) (x : Mailbox) : (c.setMbox r x).triggers = c.triggers := rfl
@[simp] theorem Chip.setMbox_tEst (c : Chip) (r : Nat) (x : Mailbox) : (c.setMbox r x).tEst = c.tEst := rfl
@[simp] theorem Chip.setMbox_applied (c : Chip) (r : Nat) (x : Mailbox) : (c.setMbox r x).applied = c.applied := rfl
@[simp] theorem Chip.setMbox_drawn (c : Chip) (r : Nat) (x : Mailbox) : (c.setMbox r x).drawn = c.drawn := rfl
@[simp] theorem Chip.setMbox_limiters (c : Chip) (r : Nat) (x : Mailbox) : (c.setMbox r x).limiters = c.limiters := rfl
@[simp] theorem Chip.setMbox_dmx (c : Chip) (r : Nat) (x : Mailbox) : (c.setMbox r x).dmx = c.dmx := rfl
@[simp] theorem Chip.setMbox_pix (c : Chip) (r : Nat) (x : Mailbox) : (c.setMbox r x).pix = c.pix := rfl
@[simp] theorem Chip.setMbox_house (c : Chip) (r : Nat) (x : Mailbox) : (c.setMbox r x).house = c.house := rfl
@[simp] theorem Chip.setMbox_sensors (c : Chip) (r : Nat) (x : Mailbox) : (c.setMbox r x).sensors = c.sensors := rfl
@[simp] theorem Chip.setMbox_rdmFails (c : Chip) (r : Nat) (x : Mailbox) : (c.setMbox r x).rdmFails = c.rdmFails := rfl
@[simp] theorem Chip.setMbox_rdmTold (c : Chip) (r : Nat) (x : Mailbox) : (c.setMbox r x).rdmTold = c.rdmTold := rfl
@[simp] theorem Chip.setMbox_ports (c : Chip) (r : Nat) (x : Mailbox) : (c.setMbox r x).ports = c.ports := rfl
@[simp] theorem Chip.setMbox_cnt (c : Chip) (r : Nat) (x : Mailbox) : (c.setMbox r x).cnt = c.cnt := rfl
@[simp] theorem Chip.setMbox_streams (c : Chip) (r : Nat) (x : Mailbox) : (c.setMbox r x).streams = c.streams := rfl
@[simp] theorem Chip.setMbox_rings (c : Chip) (r : Nat) (x : Mailbox) : (c.setMbox r x).rings = c.rings := rfl
@[simp] theorem Chip.setMbox_ringMem (c : Chip) (r : Nat) (x : Mailbox) : (c.setMbox r x).ringMem = c.ringMem := rfl
@[simp] theorem Chip.setMbox_fifos (c : Chip) (r : Nat) (x : Mailbox) : (c.setMbox r x).fifos = c.fifos := rfl
@[simp] theorem Chip.setMbox_produced (c : Chip) (r : Nat) (x : Mailbox) : (c.setMbox r x).produced = c.produced := rfl
@[simp] theorem Chip.setMbox_msixPend (c : Chip) (r : Nat) (x : Mailbox) : (c.setMbox r x).msixPend = c.msixPend := rfl
@[simp] theorem Chip.setMbox_pair (c : Chip) (r : Nat) (x : Mailbox) : (c.setMbox r x).pair = c.pair := rfl
@[simp] theorem Chip.setMbox_feeds (c : Chip) (r : Nat) (x : Mailbox) : (c.setMbox r x).feeds = c.feeds := rfl
@[simp] theorem Chip.setMbox_energy (c : Chip) (r : Nat) (x : Mailbox) : (c.setMbox r x).energy = c.energy := rfl
@[simp] theorem Chip.setMbox_pulseOuts (c : Chip) (r : Nat) (x : Mailbox) : (c.setMbox r x).pulseOuts = c.pulseOuts := rfl
@[simp] theorem Chip.setMbox_warning (c : Chip) (r : Nat) (x : Mailbox) : (c.setMbox r x).warning = c.warning := rfl
@[simp] theorem Chip.setMbox_hostSnapNs (c : Chip) (r : Nat) (x : Mailbox) : (c.setMbox r x).hostSnapNs = c.hostSnapNs := rfl
@[simp] theorem Chip.setMbox_hostSnapCsn (c : Chip) (r : Nat) (x : Mailbox) : (c.setMbox r x).hostSnapCsn = c.hostSnapCsn := rfl
@[simp] theorem Chip.setMbox_snapCsn (c : Chip) (r : Nat) (x : Mailbox) : (c.setMbox r x).snapCsn = c.snapCsn := rfl
@[simp] theorem Chip.setMbox_arbiter (c : Chip) (r : Nat) (x : Mailbox) : (c.setMbox r x).arbiter = c.arbiter := rfl
@[simp] theorem Chip.setMbox_calib (c : Chip) (r : Nat) (x : Mailbox) : (c.setMbox r x).calib = c.calib := rfl
@[simp] theorem Chip.setMbox_checks (c : Chip) (r : Nat) (x : Mailbox) : (c.setMbox r x).checks = c.checks := rfl
@[simp] theorem Chip.setMbox_eccDram (c : Chip) (r : Nat) (x : Mailbox) : (c.setMbox r x).eccDram = c.eccDram := rfl
@[simp] theorem Chip.setMbox_eccLagoon (c : Chip) (r : Nat) (x : Mailbox) : (c.setMbox r x).eccLagoon = c.eccLagoon := rfl
@[simp] theorem Chip.setMbox_update (c : Chip) (r : Nat) (x : Mailbox) : (c.setMbox r x).update = c.update := rfl
@[simp] theorem Chip.setMbox_power (c : Chip) (r : Nat) (x : Mailbox) : (c.setMbox r x).power = c.power := rfl
@[simp] theorem Chip.setMbox_dramCfg (c : Chip) (r : Nat) (x : Mailbox) : (c.setMbox r x).dramCfg = c.dramCfg := rfl
@[simp] theorem Chip.setMbox_patched (c : Chip) (r : Nat) (x : Mailbox) : (c.setMbox r x).patched = c.patched := rfl
@[simp] theorem Chip.setMbox_sensorsTold (c : Chip) (r : Nat) (x : Mailbox) : (c.setMbox r x).sensorsTold = c.sensorsTold := rfl
@[simp] theorem Chip.setMbox_rdmPolled (c : Chip) (r : Nat) (x : Mailbox) : (c.setMbox r x).rdmPolled = c.rdmPolled := rfl
@[simp] theorem Chip.setMbox_lastRing (c : Chip) (r : Nat) (x : Mailbox) : (c.setMbox r x).lastRing = c.lastRing := rfl

/-! ### `Chip.setFifo` -/

@[simp] theorem Chip.setFifo_freeCtr (c : Chip) (r : Nat) (x : Fifo) : (c.setFifo r x).freeCtr = c.freeCtr := rfl
@[simp] theorem Chip.setFifo_out (c : Chip) (r : Nat) (x : Fifo) : (c.setFifo r x).out = c.out := rfl
@[simp] theorem Chip.setFifo_batch (c : Chip) (r : Nat) (x : Fifo) : (c.setFifo r x).batch = c.batch := rfl
@[simp] theorem Chip.setFifo_cycle (c : Chip) (r : Nat) (x : Fifo) : (c.setFifo r x).cycle = c.cycle := rfl
@[simp] theorem Chip.setFifo_regs (c : Chip) (r : Nat) (x : Fifo) : (c.setFifo r x).regs = c.regs := rfl
@[simp] theorem Chip.setFifo_live (c : Chip) (r : Nat) (x : Fifo) : (c.setFifo r x).live = c.live := rfl
@[simp] theorem Chip.setFifo_tbs (c : Chip) (r : Nat) (x : Fifo) : (c.setFifo r x).tbs = c.tbs := rfl
@[simp] theorem Chip.setFifo_fg (c : Chip) (r : Nat) (x : Fifo) : (c.setFifo r x).fg = c.fg := rfl
@[simp] theorem Chip.setFifo_pulses (c : Chip) (r : Nat) (x : Fifo) : (c.setFifo r x).pulses = c.pulses := rfl
@[simp] theorem Chip.setFifo_csn (c : Chip) (r : Nat) (x : Fifo) : (c.setFifo r x).csn = c.csn := rfl
@[simp] theorem Chip.setFifo_crossTime (c : Chip) (r : Nat) (x : Fifo) : (c.setFifo r x).crossTime = c.crossTime := rfl
@[simp] theorem Chip.setFifo_sealed (c : Chip) (r : Nat) (x : Fifo) : (c.setFifo r x).sealed = c.sealed := rfl
@[simp] theorem Chip.setFifo_commits (c : Chip) (r : Nat) (x : Fifo) : (c.setFifo r x).commits = c.commits := rfl
@[simp] theorem Chip.setFifo_copyFwd (c : Chip) (r : Nat) (x : Fifo) : (c.setFifo r x).copyFwd = c.copyFwd := rfl
@[simp] theorem Chip.setFifo_tables (c : Chip) (r : Nat) (x : Fifo) : (c.setFifo r x).tables = c.tables := rfl
@[simp] theorem Chip.setFifo_frame (c : Chip) (r : Nat) (x : Fifo) : (c.setFifo r x).frame = c.frame := rfl
@[simp] theorem Chip.setFifo_lastCanvas (c : Chip) (r : Nat) (x : Fifo) : (c.setFifo r x).lastCanvas = c.lastCanvas := rfl
@[simp] theorem Chip.setFifo_retired (c : Chip) (r : Nat) (x : Fifo) : (c.setFifo r x).retired = c.retired := rfl
@[simp] theorem Chip.setFifo_slots (c : Chip) (r : Nat) (x : Fifo) : (c.setFifo r x).slots = c.slots := rfl
@[simp] theorem Chip.setFifo_dmxBack (c : Chip) (r : Nat) (x : Fifo) : (c.setFifo r x).dmxBack = c.dmxBack := rfl
@[simp] theorem Chip.setFifo_dmxFront (c : Chip) (r : Nat) (x : Fifo) : (c.setFifo r x).dmxFront = c.dmxFront := rfl
@[simp] theorem Chip.setFifo_pixBack (c : Chip) (r : Nat) (x : Fifo) : (c.setFifo r x).pixBack = c.pixBack := rfl
@[simp] theorem Chip.setFifo_pixFront (c : Chip) (r : Nat) (x : Fifo) : (c.setFifo r x).pixFront = c.pixFront := rfl
@[simp] theorem Chip.setFifo_univs (c : Chip) (r : Nat) (x : Fifo) : (c.setFifo r x).univs = c.univs := rfl
@[simp] theorem Chip.setFifo_syncSeqs (c : Chip) (r : Nat) (x : Fifo) : (c.setFifo r x).syncSeqs = c.syncSeqs := rfl
@[simp] theorem Chip.setFifo_tasks (c : Chip) (r : Nat) (x : Fifo) : (c.setFifo r x).tasks = c.tasks := rfl
@[simp] theorem Chip.setFifo_dispatching (c : Chip) (r : Nat) (x : Fifo) : (c.setFifo r x).dispatching = c.dispatching := rfl
@[simp] theorem Chip.setFifo_cueVals (c : Chip) (r : Nat) (x : Fifo) : (c.setFifo r x).cueVals = c.cueVals := rfl
@[simp] theorem Chip.setFifo_cueChanged (c : Chip) (r : Nat) (x : Fifo) : (c.setFifo r x).cueChanged = c.cueChanged := rfl
@[simp] theorem Chip.setFifo_fades (c : Chip) (r : Nat) (x : Fifo) : (c.setFifo r x).fades = c.fades := rfl
@[simp] theorem Chip.setFifo_effects (c : Chip) (r : Nat) (x : Fifo) : (c.setFifo r x).effects = c.effects := rfl
@[simp] theorem Chip.setFifo_sources (c : Chip) (r : Nat) (x : Fifo) : (c.setFifo r x).sources = c.sources := rfl
@[simp] theorem Chip.setFifo_exceeded (c : Chip) (r : Nat) (x : Fifo) : (c.setFifo r x).exceeded = c.exceeded := rfl
@[simp] theorem Chip.setFifo_triggers (c : Chip) (r : Nat) (x : Fifo) : (c.setFifo r x).triggers = c.triggers := rfl
@[simp] theorem Chip.setFifo_tEst (c : Chip) (r : Nat) (x : Fifo) : (c.setFifo r x).tEst = c.tEst := rfl
@[simp] theorem Chip.setFifo_applied (c : Chip) (r : Nat) (x : Fifo) : (c.setFifo r x).applied = c.applied := rfl
@[simp] theorem Chip.setFifo_drawn (c : Chip) (r : Nat) (x : Fifo) : (c.setFifo r x).drawn = c.drawn := rfl
@[simp] theorem Chip.setFifo_limiters (c : Chip) (r : Nat) (x : Fifo) : (c.setFifo r x).limiters = c.limiters := rfl
@[simp] theorem Chip.setFifo_dmx (c : Chip) (r : Nat) (x : Fifo) : (c.setFifo r x).dmx = c.dmx := rfl
@[simp] theorem Chip.setFifo_pix (c : Chip) (r : Nat) (x : Fifo) : (c.setFifo r x).pix = c.pix := rfl
@[simp] theorem Chip.setFifo_house (c : Chip) (r : Nat) (x : Fifo) : (c.setFifo r x).house = c.house := rfl
@[simp] theorem Chip.setFifo_sensors (c : Chip) (r : Nat) (x : Fifo) : (c.setFifo r x).sensors = c.sensors := rfl
@[simp] theorem Chip.setFifo_rdmFails (c : Chip) (r : Nat) (x : Fifo) : (c.setFifo r x).rdmFails = c.rdmFails := rfl
@[simp] theorem Chip.setFifo_rdmTold (c : Chip) (r : Nat) (x : Fifo) : (c.setFifo r x).rdmTold = c.rdmTold := rfl
@[simp] theorem Chip.setFifo_ports (c : Chip) (r : Nat) (x : Fifo) : (c.setFifo r x).ports = c.ports := rfl
@[simp] theorem Chip.setFifo_cnt (c : Chip) (r : Nat) (x : Fifo) : (c.setFifo r x).cnt = c.cnt := rfl
@[simp] theorem Chip.setFifo_streams (c : Chip) (r : Nat) (x : Fifo) : (c.setFifo r x).streams = c.streams := rfl
@[simp] theorem Chip.setFifo_rings (c : Chip) (r : Nat) (x : Fifo) : (c.setFifo r x).rings = c.rings := rfl
@[simp] theorem Chip.setFifo_ringMem (c : Chip) (r : Nat) (x : Fifo) : (c.setFifo r x).ringMem = c.ringMem := rfl
@[simp] theorem Chip.setFifo_mboxes (c : Chip) (r : Nat) (x : Fifo) : (c.setFifo r x).mboxes = c.mboxes := rfl
@[simp] theorem Chip.setFifo_produced (c : Chip) (r : Nat) (x : Fifo) : (c.setFifo r x).produced = c.produced := rfl
@[simp] theorem Chip.setFifo_msixPend (c : Chip) (r : Nat) (x : Fifo) : (c.setFifo r x).msixPend = c.msixPend := rfl
@[simp] theorem Chip.setFifo_pair (c : Chip) (r : Nat) (x : Fifo) : (c.setFifo r x).pair = c.pair := rfl
@[simp] theorem Chip.setFifo_feeds (c : Chip) (r : Nat) (x : Fifo) : (c.setFifo r x).feeds = c.feeds := rfl
@[simp] theorem Chip.setFifo_energy (c : Chip) (r : Nat) (x : Fifo) : (c.setFifo r x).energy = c.energy := rfl
@[simp] theorem Chip.setFifo_pulseOuts (c : Chip) (r : Nat) (x : Fifo) : (c.setFifo r x).pulseOuts = c.pulseOuts := rfl
@[simp] theorem Chip.setFifo_warning (c : Chip) (r : Nat) (x : Fifo) : (c.setFifo r x).warning = c.warning := rfl
@[simp] theorem Chip.setFifo_hostSnapNs (c : Chip) (r : Nat) (x : Fifo) : (c.setFifo r x).hostSnapNs = c.hostSnapNs := rfl
@[simp] theorem Chip.setFifo_hostSnapCsn (c : Chip) (r : Nat) (x : Fifo) : (c.setFifo r x).hostSnapCsn = c.hostSnapCsn := rfl
@[simp] theorem Chip.setFifo_snapCsn (c : Chip) (r : Nat) (x : Fifo) : (c.setFifo r x).snapCsn = c.snapCsn := rfl
@[simp] theorem Chip.setFifo_arbiter (c : Chip) (r : Nat) (x : Fifo) : (c.setFifo r x).arbiter = c.arbiter := rfl
@[simp] theorem Chip.setFifo_calib (c : Chip) (r : Nat) (x : Fifo) : (c.setFifo r x).calib = c.calib := rfl
@[simp] theorem Chip.setFifo_checks (c : Chip) (r : Nat) (x : Fifo) : (c.setFifo r x).checks = c.checks := rfl
@[simp] theorem Chip.setFifo_eccDram (c : Chip) (r : Nat) (x : Fifo) : (c.setFifo r x).eccDram = c.eccDram := rfl
@[simp] theorem Chip.setFifo_eccLagoon (c : Chip) (r : Nat) (x : Fifo) : (c.setFifo r x).eccLagoon = c.eccLagoon := rfl
@[simp] theorem Chip.setFifo_update (c : Chip) (r : Nat) (x : Fifo) : (c.setFifo r x).update = c.update := rfl
@[simp] theorem Chip.setFifo_power (c : Chip) (r : Nat) (x : Fifo) : (c.setFifo r x).power = c.power := rfl
@[simp] theorem Chip.setFifo_dramCfg (c : Chip) (r : Nat) (x : Fifo) : (c.setFifo r x).dramCfg = c.dramCfg := rfl
@[simp] theorem Chip.setFifo_patched (c : Chip) (r : Nat) (x : Fifo) : (c.setFifo r x).patched = c.patched := rfl
@[simp] theorem Chip.setFifo_sensorsTold (c : Chip) (r : Nat) (x : Fifo) : (c.setFifo r x).sensorsTold = c.sensorsTold := rfl
@[simp] theorem Chip.setFifo_rdmPolled (c : Chip) (r : Nat) (x : Fifo) : (c.setFifo r x).rdmPolled = c.rdmPolled := rfl
@[simp] theorem Chip.setFifo_lastRing (c : Chip) (r : Nat) (x : Fifo) : (c.setFifo r x).lastRing = c.lastRing := rfl

/-! ### `Chip.setTask` -/

@[simp] theorem Chip.setTask_freeCtr (c : Chip) (r : Nat) (x : Task) : (c.setTask r x).freeCtr = c.freeCtr := rfl
@[simp] theorem Chip.setTask_out (c : Chip) (r : Nat) (x : Task) : (c.setTask r x).out = c.out := rfl
@[simp] theorem Chip.setTask_batch (c : Chip) (r : Nat) (x : Task) : (c.setTask r x).batch = c.batch := rfl
@[simp] theorem Chip.setTask_cycle (c : Chip) (r : Nat) (x : Task) : (c.setTask r x).cycle = c.cycle := rfl
@[simp] theorem Chip.setTask_regs (c : Chip) (r : Nat) (x : Task) : (c.setTask r x).regs = c.regs := rfl
@[simp] theorem Chip.setTask_live (c : Chip) (r : Nat) (x : Task) : (c.setTask r x).live = c.live := rfl
@[simp] theorem Chip.setTask_tbs (c : Chip) (r : Nat) (x : Task) : (c.setTask r x).tbs = c.tbs := rfl
@[simp] theorem Chip.setTask_fg (c : Chip) (r : Nat) (x : Task) : (c.setTask r x).fg = c.fg := rfl
@[simp] theorem Chip.setTask_pulses (c : Chip) (r : Nat) (x : Task) : (c.setTask r x).pulses = c.pulses := rfl
@[simp] theorem Chip.setTask_csn (c : Chip) (r : Nat) (x : Task) : (c.setTask r x).csn = c.csn := rfl
@[simp] theorem Chip.setTask_crossTime (c : Chip) (r : Nat) (x : Task) : (c.setTask r x).crossTime = c.crossTime := rfl
@[simp] theorem Chip.setTask_sealed (c : Chip) (r : Nat) (x : Task) : (c.setTask r x).sealed = c.sealed := rfl
@[simp] theorem Chip.setTask_commits (c : Chip) (r : Nat) (x : Task) : (c.setTask r x).commits = c.commits := rfl
@[simp] theorem Chip.setTask_copyFwd (c : Chip) (r : Nat) (x : Task) : (c.setTask r x).copyFwd = c.copyFwd := rfl
@[simp] theorem Chip.setTask_tables (c : Chip) (r : Nat) (x : Task) : (c.setTask r x).tables = c.tables := rfl
@[simp] theorem Chip.setTask_frame (c : Chip) (r : Nat) (x : Task) : (c.setTask r x).frame = c.frame := rfl
@[simp] theorem Chip.setTask_lastCanvas (c : Chip) (r : Nat) (x : Task) : (c.setTask r x).lastCanvas = c.lastCanvas := rfl
@[simp] theorem Chip.setTask_retired (c : Chip) (r : Nat) (x : Task) : (c.setTask r x).retired = c.retired := rfl
@[simp] theorem Chip.setTask_slots (c : Chip) (r : Nat) (x : Task) : (c.setTask r x).slots = c.slots := rfl
@[simp] theorem Chip.setTask_dmxBack (c : Chip) (r : Nat) (x : Task) : (c.setTask r x).dmxBack = c.dmxBack := rfl
@[simp] theorem Chip.setTask_dmxFront (c : Chip) (r : Nat) (x : Task) : (c.setTask r x).dmxFront = c.dmxFront := rfl
@[simp] theorem Chip.setTask_pixBack (c : Chip) (r : Nat) (x : Task) : (c.setTask r x).pixBack = c.pixBack := rfl
@[simp] theorem Chip.setTask_pixFront (c : Chip) (r : Nat) (x : Task) : (c.setTask r x).pixFront = c.pixFront := rfl
@[simp] theorem Chip.setTask_univs (c : Chip) (r : Nat) (x : Task) : (c.setTask r x).univs = c.univs := rfl
@[simp] theorem Chip.setTask_syncSeqs (c : Chip) (r : Nat) (x : Task) : (c.setTask r x).syncSeqs = c.syncSeqs := rfl
@[simp] theorem Chip.setTask_dispatching (c : Chip) (r : Nat) (x : Task) : (c.setTask r x).dispatching = c.dispatching := rfl
@[simp] theorem Chip.setTask_cueVals (c : Chip) (r : Nat) (x : Task) : (c.setTask r x).cueVals = c.cueVals := rfl
@[simp] theorem Chip.setTask_cueChanged (c : Chip) (r : Nat) (x : Task) : (c.setTask r x).cueChanged = c.cueChanged := rfl
@[simp] theorem Chip.setTask_fades (c : Chip) (r : Nat) (x : Task) : (c.setTask r x).fades = c.fades := rfl
@[simp] theorem Chip.setTask_effects (c : Chip) (r : Nat) (x : Task) : (c.setTask r x).effects = c.effects := rfl
@[simp] theorem Chip.setTask_sources (c : Chip) (r : Nat) (x : Task) : (c.setTask r x).sources = c.sources := rfl
@[simp] theorem Chip.setTask_exceeded (c : Chip) (r : Nat) (x : Task) : (c.setTask r x).exceeded = c.exceeded := rfl
@[simp] theorem Chip.setTask_triggers (c : Chip) (r : Nat) (x : Task) : (c.setTask r x).triggers = c.triggers := rfl
@[simp] theorem Chip.setTask_tEst (c : Chip) (r : Nat) (x : Task) : (c.setTask r x).tEst = c.tEst := rfl
@[simp] theorem Chip.setTask_applied (c : Chip) (r : Nat) (x : Task) : (c.setTask r x).applied = c.applied := rfl
@[simp] theorem Chip.setTask_drawn (c : Chip) (r : Nat) (x : Task) : (c.setTask r x).drawn = c.drawn := rfl
@[simp] theorem Chip.setTask_limiters (c : Chip) (r : Nat) (x : Task) : (c.setTask r x).limiters = c.limiters := rfl
@[simp] theorem Chip.setTask_dmx (c : Chip) (r : Nat) (x : Task) : (c.setTask r x).dmx = c.dmx := rfl
@[simp] theorem Chip.setTask_pix (c : Chip) (r : Nat) (x : Task) : (c.setTask r x).pix = c.pix := rfl
@[simp] theorem Chip.setTask_house (c : Chip) (r : Nat) (x : Task) : (c.setTask r x).house = c.house := rfl
@[simp] theorem Chip.setTask_sensors (c : Chip) (r : Nat) (x : Task) : (c.setTask r x).sensors = c.sensors := rfl
@[simp] theorem Chip.setTask_rdmFails (c : Chip) (r : Nat) (x : Task) : (c.setTask r x).rdmFails = c.rdmFails := rfl
@[simp] theorem Chip.setTask_rdmTold (c : Chip) (r : Nat) (x : Task) : (c.setTask r x).rdmTold = c.rdmTold := rfl
@[simp] theorem Chip.setTask_ports (c : Chip) (r : Nat) (x : Task) : (c.setTask r x).ports = c.ports := rfl
@[simp] theorem Chip.setTask_cnt (c : Chip) (r : Nat) (x : Task) : (c.setTask r x).cnt = c.cnt := rfl
@[simp] theorem Chip.setTask_streams (c : Chip) (r : Nat) (x : Task) : (c.setTask r x).streams = c.streams := rfl
@[simp] theorem Chip.setTask_rings (c : Chip) (r : Nat) (x : Task) : (c.setTask r x).rings = c.rings := rfl
@[simp] theorem Chip.setTask_ringMem (c : Chip) (r : Nat) (x : Task) : (c.setTask r x).ringMem = c.ringMem := rfl
@[simp] theorem Chip.setTask_mboxes (c : Chip) (r : Nat) (x : Task) : (c.setTask r x).mboxes = c.mboxes := rfl
@[simp] theorem Chip.setTask_fifos (c : Chip) (r : Nat) (x : Task) : (c.setTask r x).fifos = c.fifos := rfl
@[simp] theorem Chip.setTask_produced (c : Chip) (r : Nat) (x : Task) : (c.setTask r x).produced = c.produced := rfl
@[simp] theorem Chip.setTask_msixPend (c : Chip) (r : Nat) (x : Task) : (c.setTask r x).msixPend = c.msixPend := rfl
@[simp] theorem Chip.setTask_pair (c : Chip) (r : Nat) (x : Task) : (c.setTask r x).pair = c.pair := rfl
@[simp] theorem Chip.setTask_feeds (c : Chip) (r : Nat) (x : Task) : (c.setTask r x).feeds = c.feeds := rfl
@[simp] theorem Chip.setTask_energy (c : Chip) (r : Nat) (x : Task) : (c.setTask r x).energy = c.energy := rfl
@[simp] theorem Chip.setTask_pulseOuts (c : Chip) (r : Nat) (x : Task) : (c.setTask r x).pulseOuts = c.pulseOuts := rfl
@[simp] theorem Chip.setTask_warning (c : Chip) (r : Nat) (x : Task) : (c.setTask r x).warning = c.warning := rfl
@[simp] theorem Chip.setTask_hostSnapNs (c : Chip) (r : Nat) (x : Task) : (c.setTask r x).hostSnapNs = c.hostSnapNs := rfl
@[simp] theorem Chip.setTask_hostSnapCsn (c : Chip) (r : Nat) (x : Task) : (c.setTask r x).hostSnapCsn = c.hostSnapCsn := rfl
@[simp] theorem Chip.setTask_snapCsn (c : Chip) (r : Nat) (x : Task) : (c.setTask r x).snapCsn = c.snapCsn := rfl
@[simp] theorem Chip.setTask_arbiter (c : Chip) (r : Nat) (x : Task) : (c.setTask r x).arbiter = c.arbiter := rfl
@[simp] theorem Chip.setTask_calib (c : Chip) (r : Nat) (x : Task) : (c.setTask r x).calib = c.calib := rfl
@[simp] theorem Chip.setTask_checks (c : Chip) (r : Nat) (x : Task) : (c.setTask r x).checks = c.checks := rfl
@[simp] theorem Chip.setTask_eccDram (c : Chip) (r : Nat) (x : Task) : (c.setTask r x).eccDram = c.eccDram := rfl
@[simp] theorem Chip.setTask_eccLagoon (c : Chip) (r : Nat) (x : Task) : (c.setTask r x).eccLagoon = c.eccLagoon := rfl
@[simp] theorem Chip.setTask_update (c : Chip) (r : Nat) (x : Task) : (c.setTask r x).update = c.update := rfl
@[simp] theorem Chip.setTask_power (c : Chip) (r : Nat) (x : Task) : (c.setTask r x).power = c.power := rfl
@[simp] theorem Chip.setTask_dramCfg (c : Chip) (r : Nat) (x : Task) : (c.setTask r x).dramCfg = c.dramCfg := rfl
@[simp] theorem Chip.setTask_patched (c : Chip) (r : Nat) (x : Task) : (c.setTask r x).patched = c.patched := rfl
@[simp] theorem Chip.setTask_sensorsTold (c : Chip) (r : Nat) (x : Task) : (c.setTask r x).sensorsTold = c.sensorsTold := rfl
@[simp] theorem Chip.setTask_rdmPolled (c : Chip) (r : Nat) (x : Task) : (c.setTask r x).rdmPolled = c.rdmPolled := rfl
@[simp] theorem Chip.setTask_lastRing (c : Chip) (r : Nat) (x : Task) : (c.setTask r x).lastRing = c.lastRing := rfl

/-! ### `Chip.setUniv` -/

@[simp] theorem Chip.setUniv_freeCtr (c : Chip) (r : Nat) (x : UnivState) : (c.setUniv r x).freeCtr = c.freeCtr := rfl
@[simp] theorem Chip.setUniv_out (c : Chip) (r : Nat) (x : UnivState) : (c.setUniv r x).out = c.out := rfl
@[simp] theorem Chip.setUniv_batch (c : Chip) (r : Nat) (x : UnivState) : (c.setUniv r x).batch = c.batch := rfl
@[simp] theorem Chip.setUniv_cycle (c : Chip) (r : Nat) (x : UnivState) : (c.setUniv r x).cycle = c.cycle := rfl
@[simp] theorem Chip.setUniv_regs (c : Chip) (r : Nat) (x : UnivState) : (c.setUniv r x).regs = c.regs := rfl
@[simp] theorem Chip.setUniv_live (c : Chip) (r : Nat) (x : UnivState) : (c.setUniv r x).live = c.live := rfl
@[simp] theorem Chip.setUniv_tbs (c : Chip) (r : Nat) (x : UnivState) : (c.setUniv r x).tbs = c.tbs := rfl
@[simp] theorem Chip.setUniv_fg (c : Chip) (r : Nat) (x : UnivState) : (c.setUniv r x).fg = c.fg := rfl
@[simp] theorem Chip.setUniv_pulses (c : Chip) (r : Nat) (x : UnivState) : (c.setUniv r x).pulses = c.pulses := rfl
@[simp] theorem Chip.setUniv_csn (c : Chip) (r : Nat) (x : UnivState) : (c.setUniv r x).csn = c.csn := rfl
@[simp] theorem Chip.setUniv_crossTime (c : Chip) (r : Nat) (x : UnivState) : (c.setUniv r x).crossTime = c.crossTime := rfl
@[simp] theorem Chip.setUniv_sealed (c : Chip) (r : Nat) (x : UnivState) : (c.setUniv r x).sealed = c.sealed := rfl
@[simp] theorem Chip.setUniv_commits (c : Chip) (r : Nat) (x : UnivState) : (c.setUniv r x).commits = c.commits := rfl
@[simp] theorem Chip.setUniv_copyFwd (c : Chip) (r : Nat) (x : UnivState) : (c.setUniv r x).copyFwd = c.copyFwd := rfl
@[simp] theorem Chip.setUniv_tables (c : Chip) (r : Nat) (x : UnivState) : (c.setUniv r x).tables = c.tables := rfl
@[simp] theorem Chip.setUniv_frame (c : Chip) (r : Nat) (x : UnivState) : (c.setUniv r x).frame = c.frame := rfl
@[simp] theorem Chip.setUniv_lastCanvas (c : Chip) (r : Nat) (x : UnivState) : (c.setUniv r x).lastCanvas = c.lastCanvas := rfl
@[simp] theorem Chip.setUniv_retired (c : Chip) (r : Nat) (x : UnivState) : (c.setUniv r x).retired = c.retired := rfl
@[simp] theorem Chip.setUniv_slots (c : Chip) (r : Nat) (x : UnivState) : (c.setUniv r x).slots = c.slots := rfl
@[simp] theorem Chip.setUniv_dmxBack (c : Chip) (r : Nat) (x : UnivState) : (c.setUniv r x).dmxBack = c.dmxBack := rfl
@[simp] theorem Chip.setUniv_dmxFront (c : Chip) (r : Nat) (x : UnivState) : (c.setUniv r x).dmxFront = c.dmxFront := rfl
@[simp] theorem Chip.setUniv_pixBack (c : Chip) (r : Nat) (x : UnivState) : (c.setUniv r x).pixBack = c.pixBack := rfl
@[simp] theorem Chip.setUniv_pixFront (c : Chip) (r : Nat) (x : UnivState) : (c.setUniv r x).pixFront = c.pixFront := rfl
@[simp] theorem Chip.setUniv_syncSeqs (c : Chip) (r : Nat) (x : UnivState) : (c.setUniv r x).syncSeqs = c.syncSeqs := rfl
@[simp] theorem Chip.setUniv_tasks (c : Chip) (r : Nat) (x : UnivState) : (c.setUniv r x).tasks = c.tasks := rfl
@[simp] theorem Chip.setUniv_dispatching (c : Chip) (r : Nat) (x : UnivState) : (c.setUniv r x).dispatching = c.dispatching := rfl
@[simp] theorem Chip.setUniv_cueVals (c : Chip) (r : Nat) (x : UnivState) : (c.setUniv r x).cueVals = c.cueVals := rfl
@[simp] theorem Chip.setUniv_cueChanged (c : Chip) (r : Nat) (x : UnivState) : (c.setUniv r x).cueChanged = c.cueChanged := rfl
@[simp] theorem Chip.setUniv_fades (c : Chip) (r : Nat) (x : UnivState) : (c.setUniv r x).fades = c.fades := rfl
@[simp] theorem Chip.setUniv_effects (c : Chip) (r : Nat) (x : UnivState) : (c.setUniv r x).effects = c.effects := rfl
@[simp] theorem Chip.setUniv_sources (c : Chip) (r : Nat) (x : UnivState) : (c.setUniv r x).sources = c.sources := rfl
@[simp] theorem Chip.setUniv_exceeded (c : Chip) (r : Nat) (x : UnivState) : (c.setUniv r x).exceeded = c.exceeded := rfl
@[simp] theorem Chip.setUniv_triggers (c : Chip) (r : Nat) (x : UnivState) : (c.setUniv r x).triggers = c.triggers := rfl
@[simp] theorem Chip.setUniv_tEst (c : Chip) (r : Nat) (x : UnivState) : (c.setUniv r x).tEst = c.tEst := rfl
@[simp] theorem Chip.setUniv_applied (c : Chip) (r : Nat) (x : UnivState) : (c.setUniv r x).applied = c.applied := rfl
@[simp] theorem Chip.setUniv_drawn (c : Chip) (r : Nat) (x : UnivState) : (c.setUniv r x).drawn = c.drawn := rfl
@[simp] theorem Chip.setUniv_limiters (c : Chip) (r : Nat) (x : UnivState) : (c.setUniv r x).limiters = c.limiters := rfl
@[simp] theorem Chip.setUniv_dmx (c : Chip) (r : Nat) (x : UnivState) : (c.setUniv r x).dmx = c.dmx := rfl
@[simp] theorem Chip.setUniv_pix (c : Chip) (r : Nat) (x : UnivState) : (c.setUniv r x).pix = c.pix := rfl
@[simp] theorem Chip.setUniv_house (c : Chip) (r : Nat) (x : UnivState) : (c.setUniv r x).house = c.house := rfl
@[simp] theorem Chip.setUniv_sensors (c : Chip) (r : Nat) (x : UnivState) : (c.setUniv r x).sensors = c.sensors := rfl
@[simp] theorem Chip.setUniv_rdmFails (c : Chip) (r : Nat) (x : UnivState) : (c.setUniv r x).rdmFails = c.rdmFails := rfl
@[simp] theorem Chip.setUniv_rdmTold (c : Chip) (r : Nat) (x : UnivState) : (c.setUniv r x).rdmTold = c.rdmTold := rfl
@[simp] theorem Chip.setUniv_ports (c : Chip) (r : Nat) (x : UnivState) : (c.setUniv r x).ports = c.ports := rfl
@[simp] theorem Chip.setUniv_cnt (c : Chip) (r : Nat) (x : UnivState) : (c.setUniv r x).cnt = c.cnt := rfl
@[simp] theorem Chip.setUniv_streams (c : Chip) (r : Nat) (x : UnivState) : (c.setUniv r x).streams = c.streams := rfl
@[simp] theorem Chip.setUniv_rings (c : Chip) (r : Nat) (x : UnivState) : (c.setUniv r x).rings = c.rings := rfl
@[simp] theorem Chip.setUniv_ringMem (c : Chip) (r : Nat) (x : UnivState) : (c.setUniv r x).ringMem = c.ringMem := rfl
@[simp] theorem Chip.setUniv_mboxes (c : Chip) (r : Nat) (x : UnivState) : (c.setUniv r x).mboxes = c.mboxes := rfl
@[simp] theorem Chip.setUniv_fifos (c : Chip) (r : Nat) (x : UnivState) : (c.setUniv r x).fifos = c.fifos := rfl
@[simp] theorem Chip.setUniv_produced (c : Chip) (r : Nat) (x : UnivState) : (c.setUniv r x).produced = c.produced := rfl
@[simp] theorem Chip.setUniv_msixPend (c : Chip) (r : Nat) (x : UnivState) : (c.setUniv r x).msixPend = c.msixPend := rfl
@[simp] theorem Chip.setUniv_pair (c : Chip) (r : Nat) (x : UnivState) : (c.setUniv r x).pair = c.pair := rfl
@[simp] theorem Chip.setUniv_feeds (c : Chip) (r : Nat) (x : UnivState) : (c.setUniv r x).feeds = c.feeds := rfl
@[simp] theorem Chip.setUniv_energy (c : Chip) (r : Nat) (x : UnivState) : (c.setUniv r x).energy = c.energy := rfl
@[simp] theorem Chip.setUniv_pulseOuts (c : Chip) (r : Nat) (x : UnivState) : (c.setUniv r x).pulseOuts = c.pulseOuts := rfl
@[simp] theorem Chip.setUniv_warning (c : Chip) (r : Nat) (x : UnivState) : (c.setUniv r x).warning = c.warning := rfl
@[simp] theorem Chip.setUniv_hostSnapNs (c : Chip) (r : Nat) (x : UnivState) : (c.setUniv r x).hostSnapNs = c.hostSnapNs := rfl
@[simp] theorem Chip.setUniv_hostSnapCsn (c : Chip) (r : Nat) (x : UnivState) : (c.setUniv r x).hostSnapCsn = c.hostSnapCsn := rfl
@[simp] theorem Chip.setUniv_snapCsn (c : Chip) (r : Nat) (x : UnivState) : (c.setUniv r x).snapCsn = c.snapCsn := rfl
@[simp] theorem Chip.setUniv_arbiter (c : Chip) (r : Nat) (x : UnivState) : (c.setUniv r x).arbiter = c.arbiter := rfl
@[simp] theorem Chip.setUniv_calib (c : Chip) (r : Nat) (x : UnivState) : (c.setUniv r x).calib = c.calib := rfl
@[simp] theorem Chip.setUniv_checks (c : Chip) (r : Nat) (x : UnivState) : (c.setUniv r x).checks = c.checks := rfl
@[simp] theorem Chip.setUniv_eccDram (c : Chip) (r : Nat) (x : UnivState) : (c.setUniv r x).eccDram = c.eccDram := rfl
@[simp] theorem Chip.setUniv_eccLagoon (c : Chip) (r : Nat) (x : UnivState) : (c.setUniv r x).eccLagoon = c.eccLagoon := rfl
@[simp] theorem Chip.setUniv_update (c : Chip) (r : Nat) (x : UnivState) : (c.setUniv r x).update = c.update := rfl
@[simp] theorem Chip.setUniv_power (c : Chip) (r : Nat) (x : UnivState) : (c.setUniv r x).power = c.power := rfl
@[simp] theorem Chip.setUniv_dramCfg (c : Chip) (r : Nat) (x : UnivState) : (c.setUniv r x).dramCfg = c.dramCfg := rfl
@[simp] theorem Chip.setUniv_patched (c : Chip) (r : Nat) (x : UnivState) : (c.setUniv r x).patched = c.patched := rfl
@[simp] theorem Chip.setUniv_sensorsTold (c : Chip) (r : Nat) (x : UnivState) : (c.setUniv r x).sensorsTold = c.sensorsTold := rfl
@[simp] theorem Chip.setUniv_rdmPolled (c : Chip) (r : Nat) (x : UnivState) : (c.setUniv r x).rdmPolled = c.rdmPolled := rfl
@[simp] theorem Chip.setUniv_lastRing (c : Chip) (r : Nat) (x : UnivState) : (c.setUniv r x).lastRing = c.lastRing := rfl

/-! ### `Chip.setDmx` -/

@[simp] theorem Chip.setDmx_freeCtr (c : Chip) (r : Nat) (x : DmxPort) : (c.setDmx r x).freeCtr = c.freeCtr := rfl
@[simp] theorem Chip.setDmx_out (c : Chip) (r : Nat) (x : DmxPort) : (c.setDmx r x).out = c.out := rfl
@[simp] theorem Chip.setDmx_batch (c : Chip) (r : Nat) (x : DmxPort) : (c.setDmx r x).batch = c.batch := rfl
@[simp] theorem Chip.setDmx_cycle (c : Chip) (r : Nat) (x : DmxPort) : (c.setDmx r x).cycle = c.cycle := rfl
@[simp] theorem Chip.setDmx_regs (c : Chip) (r : Nat) (x : DmxPort) : (c.setDmx r x).regs = c.regs := rfl
@[simp] theorem Chip.setDmx_live (c : Chip) (r : Nat) (x : DmxPort) : (c.setDmx r x).live = c.live := rfl
@[simp] theorem Chip.setDmx_tbs (c : Chip) (r : Nat) (x : DmxPort) : (c.setDmx r x).tbs = c.tbs := rfl
@[simp] theorem Chip.setDmx_fg (c : Chip) (r : Nat) (x : DmxPort) : (c.setDmx r x).fg = c.fg := rfl
@[simp] theorem Chip.setDmx_pulses (c : Chip) (r : Nat) (x : DmxPort) : (c.setDmx r x).pulses = c.pulses := rfl
@[simp] theorem Chip.setDmx_csn (c : Chip) (r : Nat) (x : DmxPort) : (c.setDmx r x).csn = c.csn := rfl
@[simp] theorem Chip.setDmx_crossTime (c : Chip) (r : Nat) (x : DmxPort) : (c.setDmx r x).crossTime = c.crossTime := rfl
@[simp] theorem Chip.setDmx_sealed (c : Chip) (r : Nat) (x : DmxPort) : (c.setDmx r x).sealed = c.sealed := rfl
@[simp] theorem Chip.setDmx_commits (c : Chip) (r : Nat) (x : DmxPort) : (c.setDmx r x).commits = c.commits := rfl
@[simp] theorem Chip.setDmx_copyFwd (c : Chip) (r : Nat) (x : DmxPort) : (c.setDmx r x).copyFwd = c.copyFwd := rfl
@[simp] theorem Chip.setDmx_tables (c : Chip) (r : Nat) (x : DmxPort) : (c.setDmx r x).tables = c.tables := rfl
@[simp] theorem Chip.setDmx_frame (c : Chip) (r : Nat) (x : DmxPort) : (c.setDmx r x).frame = c.frame := rfl
@[simp] theorem Chip.setDmx_lastCanvas (c : Chip) (r : Nat) (x : DmxPort) : (c.setDmx r x).lastCanvas = c.lastCanvas := rfl
@[simp] theorem Chip.setDmx_retired (c : Chip) (r : Nat) (x : DmxPort) : (c.setDmx r x).retired = c.retired := rfl
@[simp] theorem Chip.setDmx_slots (c : Chip) (r : Nat) (x : DmxPort) : (c.setDmx r x).slots = c.slots := rfl
@[simp] theorem Chip.setDmx_dmxBack (c : Chip) (r : Nat) (x : DmxPort) : (c.setDmx r x).dmxBack = c.dmxBack := rfl
@[simp] theorem Chip.setDmx_dmxFront (c : Chip) (r : Nat) (x : DmxPort) : (c.setDmx r x).dmxFront = c.dmxFront := rfl
@[simp] theorem Chip.setDmx_pixBack (c : Chip) (r : Nat) (x : DmxPort) : (c.setDmx r x).pixBack = c.pixBack := rfl
@[simp] theorem Chip.setDmx_pixFront (c : Chip) (r : Nat) (x : DmxPort) : (c.setDmx r x).pixFront = c.pixFront := rfl
@[simp] theorem Chip.setDmx_univs (c : Chip) (r : Nat) (x : DmxPort) : (c.setDmx r x).univs = c.univs := rfl
@[simp] theorem Chip.setDmx_syncSeqs (c : Chip) (r : Nat) (x : DmxPort) : (c.setDmx r x).syncSeqs = c.syncSeqs := rfl
@[simp] theorem Chip.setDmx_tasks (c : Chip) (r : Nat) (x : DmxPort) : (c.setDmx r x).tasks = c.tasks := rfl
@[simp] theorem Chip.setDmx_dispatching (c : Chip) (r : Nat) (x : DmxPort) : (c.setDmx r x).dispatching = c.dispatching := rfl
@[simp] theorem Chip.setDmx_cueVals (c : Chip) (r : Nat) (x : DmxPort) : (c.setDmx r x).cueVals = c.cueVals := rfl
@[simp] theorem Chip.setDmx_cueChanged (c : Chip) (r : Nat) (x : DmxPort) : (c.setDmx r x).cueChanged = c.cueChanged := rfl
@[simp] theorem Chip.setDmx_fades (c : Chip) (r : Nat) (x : DmxPort) : (c.setDmx r x).fades = c.fades := rfl
@[simp] theorem Chip.setDmx_effects (c : Chip) (r : Nat) (x : DmxPort) : (c.setDmx r x).effects = c.effects := rfl
@[simp] theorem Chip.setDmx_sources (c : Chip) (r : Nat) (x : DmxPort) : (c.setDmx r x).sources = c.sources := rfl
@[simp] theorem Chip.setDmx_exceeded (c : Chip) (r : Nat) (x : DmxPort) : (c.setDmx r x).exceeded = c.exceeded := rfl
@[simp] theorem Chip.setDmx_triggers (c : Chip) (r : Nat) (x : DmxPort) : (c.setDmx r x).triggers = c.triggers := rfl
@[simp] theorem Chip.setDmx_tEst (c : Chip) (r : Nat) (x : DmxPort) : (c.setDmx r x).tEst = c.tEst := rfl
@[simp] theorem Chip.setDmx_applied (c : Chip) (r : Nat) (x : DmxPort) : (c.setDmx r x).applied = c.applied := rfl
@[simp] theorem Chip.setDmx_drawn (c : Chip) (r : Nat) (x : DmxPort) : (c.setDmx r x).drawn = c.drawn := rfl
@[simp] theorem Chip.setDmx_limiters (c : Chip) (r : Nat) (x : DmxPort) : (c.setDmx r x).limiters = c.limiters := rfl
@[simp] theorem Chip.setDmx_pix (c : Chip) (r : Nat) (x : DmxPort) : (c.setDmx r x).pix = c.pix := rfl
@[simp] theorem Chip.setDmx_house (c : Chip) (r : Nat) (x : DmxPort) : (c.setDmx r x).house = c.house := rfl
@[simp] theorem Chip.setDmx_sensors (c : Chip) (r : Nat) (x : DmxPort) : (c.setDmx r x).sensors = c.sensors := rfl
@[simp] theorem Chip.setDmx_rdmFails (c : Chip) (r : Nat) (x : DmxPort) : (c.setDmx r x).rdmFails = c.rdmFails := rfl
@[simp] theorem Chip.setDmx_rdmTold (c : Chip) (r : Nat) (x : DmxPort) : (c.setDmx r x).rdmTold = c.rdmTold := rfl
@[simp] theorem Chip.setDmx_ports (c : Chip) (r : Nat) (x : DmxPort) : (c.setDmx r x).ports = c.ports := rfl
@[simp] theorem Chip.setDmx_cnt (c : Chip) (r : Nat) (x : DmxPort) : (c.setDmx r x).cnt = c.cnt := rfl
@[simp] theorem Chip.setDmx_streams (c : Chip) (r : Nat) (x : DmxPort) : (c.setDmx r x).streams = c.streams := rfl
@[simp] theorem Chip.setDmx_rings (c : Chip) (r : Nat) (x : DmxPort) : (c.setDmx r x).rings = c.rings := rfl
@[simp] theorem Chip.setDmx_ringMem (c : Chip) (r : Nat) (x : DmxPort) : (c.setDmx r x).ringMem = c.ringMem := rfl
@[simp] theorem Chip.setDmx_mboxes (c : Chip) (r : Nat) (x : DmxPort) : (c.setDmx r x).mboxes = c.mboxes := rfl
@[simp] theorem Chip.setDmx_fifos (c : Chip) (r : Nat) (x : DmxPort) : (c.setDmx r x).fifos = c.fifos := rfl
@[simp] theorem Chip.setDmx_produced (c : Chip) (r : Nat) (x : DmxPort) : (c.setDmx r x).produced = c.produced := rfl
@[simp] theorem Chip.setDmx_msixPend (c : Chip) (r : Nat) (x : DmxPort) : (c.setDmx r x).msixPend = c.msixPend := rfl
@[simp] theorem Chip.setDmx_pair (c : Chip) (r : Nat) (x : DmxPort) : (c.setDmx r x).pair = c.pair := rfl
@[simp] theorem Chip.setDmx_feeds (c : Chip) (r : Nat) (x : DmxPort) : (c.setDmx r x).feeds = c.feeds := rfl
@[simp] theorem Chip.setDmx_energy (c : Chip) (r : Nat) (x : DmxPort) : (c.setDmx r x).energy = c.energy := rfl
@[simp] theorem Chip.setDmx_pulseOuts (c : Chip) (r : Nat) (x : DmxPort) : (c.setDmx r x).pulseOuts = c.pulseOuts := rfl
@[simp] theorem Chip.setDmx_warning (c : Chip) (r : Nat) (x : DmxPort) : (c.setDmx r x).warning = c.warning := rfl
@[simp] theorem Chip.setDmx_hostSnapNs (c : Chip) (r : Nat) (x : DmxPort) : (c.setDmx r x).hostSnapNs = c.hostSnapNs := rfl
@[simp] theorem Chip.setDmx_hostSnapCsn (c : Chip) (r : Nat) (x : DmxPort) : (c.setDmx r x).hostSnapCsn = c.hostSnapCsn := rfl
@[simp] theorem Chip.setDmx_snapCsn (c : Chip) (r : Nat) (x : DmxPort) : (c.setDmx r x).snapCsn = c.snapCsn := rfl
@[simp] theorem Chip.setDmx_arbiter (c : Chip) (r : Nat) (x : DmxPort) : (c.setDmx r x).arbiter = c.arbiter := rfl
@[simp] theorem Chip.setDmx_calib (c : Chip) (r : Nat) (x : DmxPort) : (c.setDmx r x).calib = c.calib := rfl
@[simp] theorem Chip.setDmx_checks (c : Chip) (r : Nat) (x : DmxPort) : (c.setDmx r x).checks = c.checks := rfl
@[simp] theorem Chip.setDmx_eccDram (c : Chip) (r : Nat) (x : DmxPort) : (c.setDmx r x).eccDram = c.eccDram := rfl
@[simp] theorem Chip.setDmx_eccLagoon (c : Chip) (r : Nat) (x : DmxPort) : (c.setDmx r x).eccLagoon = c.eccLagoon := rfl
@[simp] theorem Chip.setDmx_update (c : Chip) (r : Nat) (x : DmxPort) : (c.setDmx r x).update = c.update := rfl
@[simp] theorem Chip.setDmx_power (c : Chip) (r : Nat) (x : DmxPort) : (c.setDmx r x).power = c.power := rfl
@[simp] theorem Chip.setDmx_dramCfg (c : Chip) (r : Nat) (x : DmxPort) : (c.setDmx r x).dramCfg = c.dramCfg := rfl
@[simp] theorem Chip.setDmx_patched (c : Chip) (r : Nat) (x : DmxPort) : (c.setDmx r x).patched = c.patched := rfl
@[simp] theorem Chip.setDmx_sensorsTold (c : Chip) (r : Nat) (x : DmxPort) : (c.setDmx r x).sensorsTold = c.sensorsTold := rfl
@[simp] theorem Chip.setDmx_rdmPolled (c : Chip) (r : Nat) (x : DmxPort) : (c.setDmx r x).rdmPolled = c.rdmPolled := rfl
@[simp] theorem Chip.setDmx_lastRing (c : Chip) (r : Nat) (x : DmxPort) : (c.setDmx r x).lastRing = c.lastRing := rfl

/-! ### `Chip.setPix` -/

@[simp] theorem Chip.setPix_freeCtr (c : Chip) (r : Nat) (x : PixPort) : (c.setPix r x).freeCtr = c.freeCtr := rfl
@[simp] theorem Chip.setPix_out (c : Chip) (r : Nat) (x : PixPort) : (c.setPix r x).out = c.out := rfl
@[simp] theorem Chip.setPix_batch (c : Chip) (r : Nat) (x : PixPort) : (c.setPix r x).batch = c.batch := rfl
@[simp] theorem Chip.setPix_cycle (c : Chip) (r : Nat) (x : PixPort) : (c.setPix r x).cycle = c.cycle := rfl
@[simp] theorem Chip.setPix_regs (c : Chip) (r : Nat) (x : PixPort) : (c.setPix r x).regs = c.regs := rfl
@[simp] theorem Chip.setPix_live (c : Chip) (r : Nat) (x : PixPort) : (c.setPix r x).live = c.live := rfl
@[simp] theorem Chip.setPix_tbs (c : Chip) (r : Nat) (x : PixPort) : (c.setPix r x).tbs = c.tbs := rfl
@[simp] theorem Chip.setPix_fg (c : Chip) (r : Nat) (x : PixPort) : (c.setPix r x).fg = c.fg := rfl
@[simp] theorem Chip.setPix_pulses (c : Chip) (r : Nat) (x : PixPort) : (c.setPix r x).pulses = c.pulses := rfl
@[simp] theorem Chip.setPix_csn (c : Chip) (r : Nat) (x : PixPort) : (c.setPix r x).csn = c.csn := rfl
@[simp] theorem Chip.setPix_crossTime (c : Chip) (r : Nat) (x : PixPort) : (c.setPix r x).crossTime = c.crossTime := rfl
@[simp] theorem Chip.setPix_sealed (c : Chip) (r : Nat) (x : PixPort) : (c.setPix r x).sealed = c.sealed := rfl
@[simp] theorem Chip.setPix_commits (c : Chip) (r : Nat) (x : PixPort) : (c.setPix r x).commits = c.commits := rfl
@[simp] theorem Chip.setPix_copyFwd (c : Chip) (r : Nat) (x : PixPort) : (c.setPix r x).copyFwd = c.copyFwd := rfl
@[simp] theorem Chip.setPix_tables (c : Chip) (r : Nat) (x : PixPort) : (c.setPix r x).tables = c.tables := rfl
@[simp] theorem Chip.setPix_frame (c : Chip) (r : Nat) (x : PixPort) : (c.setPix r x).frame = c.frame := rfl
@[simp] theorem Chip.setPix_lastCanvas (c : Chip) (r : Nat) (x : PixPort) : (c.setPix r x).lastCanvas = c.lastCanvas := rfl
@[simp] theorem Chip.setPix_retired (c : Chip) (r : Nat) (x : PixPort) : (c.setPix r x).retired = c.retired := rfl
@[simp] theorem Chip.setPix_slots (c : Chip) (r : Nat) (x : PixPort) : (c.setPix r x).slots = c.slots := rfl
@[simp] theorem Chip.setPix_dmxBack (c : Chip) (r : Nat) (x : PixPort) : (c.setPix r x).dmxBack = c.dmxBack := rfl
@[simp] theorem Chip.setPix_dmxFront (c : Chip) (r : Nat) (x : PixPort) : (c.setPix r x).dmxFront = c.dmxFront := rfl
@[simp] theorem Chip.setPix_pixBack (c : Chip) (r : Nat) (x : PixPort) : (c.setPix r x).pixBack = c.pixBack := rfl
@[simp] theorem Chip.setPix_pixFront (c : Chip) (r : Nat) (x : PixPort) : (c.setPix r x).pixFront = c.pixFront := rfl
@[simp] theorem Chip.setPix_univs (c : Chip) (r : Nat) (x : PixPort) : (c.setPix r x).univs = c.univs := rfl
@[simp] theorem Chip.setPix_syncSeqs (c : Chip) (r : Nat) (x : PixPort) : (c.setPix r x).syncSeqs = c.syncSeqs := rfl
@[simp] theorem Chip.setPix_tasks (c : Chip) (r : Nat) (x : PixPort) : (c.setPix r x).tasks = c.tasks := rfl
@[simp] theorem Chip.setPix_dispatching (c : Chip) (r : Nat) (x : PixPort) : (c.setPix r x).dispatching = c.dispatching := rfl
@[simp] theorem Chip.setPix_cueVals (c : Chip) (r : Nat) (x : PixPort) : (c.setPix r x).cueVals = c.cueVals := rfl
@[simp] theorem Chip.setPix_cueChanged (c : Chip) (r : Nat) (x : PixPort) : (c.setPix r x).cueChanged = c.cueChanged := rfl
@[simp] theorem Chip.setPix_fades (c : Chip) (r : Nat) (x : PixPort) : (c.setPix r x).fades = c.fades := rfl
@[simp] theorem Chip.setPix_effects (c : Chip) (r : Nat) (x : PixPort) : (c.setPix r x).effects = c.effects := rfl
@[simp] theorem Chip.setPix_sources (c : Chip) (r : Nat) (x : PixPort) : (c.setPix r x).sources = c.sources := rfl
@[simp] theorem Chip.setPix_exceeded (c : Chip) (r : Nat) (x : PixPort) : (c.setPix r x).exceeded = c.exceeded := rfl
@[simp] theorem Chip.setPix_triggers (c : Chip) (r : Nat) (x : PixPort) : (c.setPix r x).triggers = c.triggers := rfl
@[simp] theorem Chip.setPix_tEst (c : Chip) (r : Nat) (x : PixPort) : (c.setPix r x).tEst = c.tEst := rfl
@[simp] theorem Chip.setPix_applied (c : Chip) (r : Nat) (x : PixPort) : (c.setPix r x).applied = c.applied := rfl
@[simp] theorem Chip.setPix_drawn (c : Chip) (r : Nat) (x : PixPort) : (c.setPix r x).drawn = c.drawn := rfl
@[simp] theorem Chip.setPix_limiters (c : Chip) (r : Nat) (x : PixPort) : (c.setPix r x).limiters = c.limiters := rfl
@[simp] theorem Chip.setPix_dmx (c : Chip) (r : Nat) (x : PixPort) : (c.setPix r x).dmx = c.dmx := rfl
@[simp] theorem Chip.setPix_house (c : Chip) (r : Nat) (x : PixPort) : (c.setPix r x).house = c.house := rfl
@[simp] theorem Chip.setPix_sensors (c : Chip) (r : Nat) (x : PixPort) : (c.setPix r x).sensors = c.sensors := rfl
@[simp] theorem Chip.setPix_rdmFails (c : Chip) (r : Nat) (x : PixPort) : (c.setPix r x).rdmFails = c.rdmFails := rfl
@[simp] theorem Chip.setPix_rdmTold (c : Chip) (r : Nat) (x : PixPort) : (c.setPix r x).rdmTold = c.rdmTold := rfl
@[simp] theorem Chip.setPix_ports (c : Chip) (r : Nat) (x : PixPort) : (c.setPix r x).ports = c.ports := rfl
@[simp] theorem Chip.setPix_cnt (c : Chip) (r : Nat) (x : PixPort) : (c.setPix r x).cnt = c.cnt := rfl
@[simp] theorem Chip.setPix_streams (c : Chip) (r : Nat) (x : PixPort) : (c.setPix r x).streams = c.streams := rfl
@[simp] theorem Chip.setPix_rings (c : Chip) (r : Nat) (x : PixPort) : (c.setPix r x).rings = c.rings := rfl
@[simp] theorem Chip.setPix_ringMem (c : Chip) (r : Nat) (x : PixPort) : (c.setPix r x).ringMem = c.ringMem := rfl
@[simp] theorem Chip.setPix_mboxes (c : Chip) (r : Nat) (x : PixPort) : (c.setPix r x).mboxes = c.mboxes := rfl
@[simp] theorem Chip.setPix_fifos (c : Chip) (r : Nat) (x : PixPort) : (c.setPix r x).fifos = c.fifos := rfl
@[simp] theorem Chip.setPix_produced (c : Chip) (r : Nat) (x : PixPort) : (c.setPix r x).produced = c.produced := rfl
@[simp] theorem Chip.setPix_msixPend (c : Chip) (r : Nat) (x : PixPort) : (c.setPix r x).msixPend = c.msixPend := rfl
@[simp] theorem Chip.setPix_pair (c : Chip) (r : Nat) (x : PixPort) : (c.setPix r x).pair = c.pair := rfl
@[simp] theorem Chip.setPix_feeds (c : Chip) (r : Nat) (x : PixPort) : (c.setPix r x).feeds = c.feeds := rfl
@[simp] theorem Chip.setPix_energy (c : Chip) (r : Nat) (x : PixPort) : (c.setPix r x).energy = c.energy := rfl
@[simp] theorem Chip.setPix_pulseOuts (c : Chip) (r : Nat) (x : PixPort) : (c.setPix r x).pulseOuts = c.pulseOuts := rfl
@[simp] theorem Chip.setPix_warning (c : Chip) (r : Nat) (x : PixPort) : (c.setPix r x).warning = c.warning := rfl
@[simp] theorem Chip.setPix_hostSnapNs (c : Chip) (r : Nat) (x : PixPort) : (c.setPix r x).hostSnapNs = c.hostSnapNs := rfl
@[simp] theorem Chip.setPix_hostSnapCsn (c : Chip) (r : Nat) (x : PixPort) : (c.setPix r x).hostSnapCsn = c.hostSnapCsn := rfl
@[simp] theorem Chip.setPix_snapCsn (c : Chip) (r : Nat) (x : PixPort) : (c.setPix r x).snapCsn = c.snapCsn := rfl
@[simp] theorem Chip.setPix_arbiter (c : Chip) (r : Nat) (x : PixPort) : (c.setPix r x).arbiter = c.arbiter := rfl
@[simp] theorem Chip.setPix_calib (c : Chip) (r : Nat) (x : PixPort) : (c.setPix r x).calib = c.calib := rfl
@[simp] theorem Chip.setPix_checks (c : Chip) (r : Nat) (x : PixPort) : (c.setPix r x).checks = c.checks := rfl
@[simp] theorem Chip.setPix_eccDram (c : Chip) (r : Nat) (x : PixPort) : (c.setPix r x).eccDram = c.eccDram := rfl
@[simp] theorem Chip.setPix_eccLagoon (c : Chip) (r : Nat) (x : PixPort) : (c.setPix r x).eccLagoon = c.eccLagoon := rfl
@[simp] theorem Chip.setPix_update (c : Chip) (r : Nat) (x : PixPort) : (c.setPix r x).update = c.update := rfl
@[simp] theorem Chip.setPix_power (c : Chip) (r : Nat) (x : PixPort) : (c.setPix r x).power = c.power := rfl
@[simp] theorem Chip.setPix_dramCfg (c : Chip) (r : Nat) (x : PixPort) : (c.setPix r x).dramCfg = c.dramCfg := rfl
@[simp] theorem Chip.setPix_patched (c : Chip) (r : Nat) (x : PixPort) : (c.setPix r x).patched = c.patched := rfl
@[simp] theorem Chip.setPix_sensorsTold (c : Chip) (r : Nat) (x : PixPort) : (c.setPix r x).sensorsTold = c.sensorsTold := rfl
@[simp] theorem Chip.setPix_rdmPolled (c : Chip) (r : Nat) (x : PixPort) : (c.setPix r x).rdmPolled = c.rdmPolled := rfl
@[simp] theorem Chip.setPix_lastRing (c : Chip) (r : Nat) (x : PixPort) : (c.setPix r x).lastRing = c.lastRing := rfl

/-! ### `Chip.setHc` -/

@[simp] theorem Chip.setHc_freeCtr (c : Chip) (r : Nat) (x : House) : (c.setHc r x).freeCtr = c.freeCtr := rfl
@[simp] theorem Chip.setHc_out (c : Chip) (r : Nat) (x : House) : (c.setHc r x).out = c.out := rfl
@[simp] theorem Chip.setHc_batch (c : Chip) (r : Nat) (x : House) : (c.setHc r x).batch = c.batch := rfl
@[simp] theorem Chip.setHc_cycle (c : Chip) (r : Nat) (x : House) : (c.setHc r x).cycle = c.cycle := rfl
@[simp] theorem Chip.setHc_regs (c : Chip) (r : Nat) (x : House) : (c.setHc r x).regs = c.regs := rfl
@[simp] theorem Chip.setHc_live (c : Chip) (r : Nat) (x : House) : (c.setHc r x).live = c.live := rfl
@[simp] theorem Chip.setHc_tbs (c : Chip) (r : Nat) (x : House) : (c.setHc r x).tbs = c.tbs := rfl
@[simp] theorem Chip.setHc_fg (c : Chip) (r : Nat) (x : House) : (c.setHc r x).fg = c.fg := rfl
@[simp] theorem Chip.setHc_pulses (c : Chip) (r : Nat) (x : House) : (c.setHc r x).pulses = c.pulses := rfl
@[simp] theorem Chip.setHc_csn (c : Chip) (r : Nat) (x : House) : (c.setHc r x).csn = c.csn := rfl
@[simp] theorem Chip.setHc_crossTime (c : Chip) (r : Nat) (x : House) : (c.setHc r x).crossTime = c.crossTime := rfl
@[simp] theorem Chip.setHc_sealed (c : Chip) (r : Nat) (x : House) : (c.setHc r x).sealed = c.sealed := rfl
@[simp] theorem Chip.setHc_commits (c : Chip) (r : Nat) (x : House) : (c.setHc r x).commits = c.commits := rfl
@[simp] theorem Chip.setHc_copyFwd (c : Chip) (r : Nat) (x : House) : (c.setHc r x).copyFwd = c.copyFwd := rfl
@[simp] theorem Chip.setHc_tables (c : Chip) (r : Nat) (x : House) : (c.setHc r x).tables = c.tables := rfl
@[simp] theorem Chip.setHc_frame (c : Chip) (r : Nat) (x : House) : (c.setHc r x).frame = c.frame := rfl
@[simp] theorem Chip.setHc_lastCanvas (c : Chip) (r : Nat) (x : House) : (c.setHc r x).lastCanvas = c.lastCanvas := rfl
@[simp] theorem Chip.setHc_retired (c : Chip) (r : Nat) (x : House) : (c.setHc r x).retired = c.retired := rfl
@[simp] theorem Chip.setHc_slots (c : Chip) (r : Nat) (x : House) : (c.setHc r x).slots = c.slots := rfl
@[simp] theorem Chip.setHc_dmxBack (c : Chip) (r : Nat) (x : House) : (c.setHc r x).dmxBack = c.dmxBack := rfl
@[simp] theorem Chip.setHc_dmxFront (c : Chip) (r : Nat) (x : House) : (c.setHc r x).dmxFront = c.dmxFront := rfl
@[simp] theorem Chip.setHc_pixBack (c : Chip) (r : Nat) (x : House) : (c.setHc r x).pixBack = c.pixBack := rfl
@[simp] theorem Chip.setHc_pixFront (c : Chip) (r : Nat) (x : House) : (c.setHc r x).pixFront = c.pixFront := rfl
@[simp] theorem Chip.setHc_univs (c : Chip) (r : Nat) (x : House) : (c.setHc r x).univs = c.univs := rfl
@[simp] theorem Chip.setHc_syncSeqs (c : Chip) (r : Nat) (x : House) : (c.setHc r x).syncSeqs = c.syncSeqs := rfl
@[simp] theorem Chip.setHc_tasks (c : Chip) (r : Nat) (x : House) : (c.setHc r x).tasks = c.tasks := rfl
@[simp] theorem Chip.setHc_dispatching (c : Chip) (r : Nat) (x : House) : (c.setHc r x).dispatching = c.dispatching := rfl
@[simp] theorem Chip.setHc_cueVals (c : Chip) (r : Nat) (x : House) : (c.setHc r x).cueVals = c.cueVals := rfl
@[simp] theorem Chip.setHc_cueChanged (c : Chip) (r : Nat) (x : House) : (c.setHc r x).cueChanged = c.cueChanged := rfl
@[simp] theorem Chip.setHc_fades (c : Chip) (r : Nat) (x : House) : (c.setHc r x).fades = c.fades := rfl
@[simp] theorem Chip.setHc_effects (c : Chip) (r : Nat) (x : House) : (c.setHc r x).effects = c.effects := rfl
@[simp] theorem Chip.setHc_sources (c : Chip) (r : Nat) (x : House) : (c.setHc r x).sources = c.sources := rfl
@[simp] theorem Chip.setHc_exceeded (c : Chip) (r : Nat) (x : House) : (c.setHc r x).exceeded = c.exceeded := rfl
@[simp] theorem Chip.setHc_triggers (c : Chip) (r : Nat) (x : House) : (c.setHc r x).triggers = c.triggers := rfl
@[simp] theorem Chip.setHc_tEst (c : Chip) (r : Nat) (x : House) : (c.setHc r x).tEst = c.tEst := rfl
@[simp] theorem Chip.setHc_applied (c : Chip) (r : Nat) (x : House) : (c.setHc r x).applied = c.applied := rfl
@[simp] theorem Chip.setHc_drawn (c : Chip) (r : Nat) (x : House) : (c.setHc r x).drawn = c.drawn := rfl
@[simp] theorem Chip.setHc_limiters (c : Chip) (r : Nat) (x : House) : (c.setHc r x).limiters = c.limiters := rfl
@[simp] theorem Chip.setHc_dmx (c : Chip) (r : Nat) (x : House) : (c.setHc r x).dmx = c.dmx := rfl
@[simp] theorem Chip.setHc_pix (c : Chip) (r : Nat) (x : House) : (c.setHc r x).pix = c.pix := rfl
@[simp] theorem Chip.setHc_sensors (c : Chip) (r : Nat) (x : House) : (c.setHc r x).sensors = c.sensors := rfl
@[simp] theorem Chip.setHc_rdmFails (c : Chip) (r : Nat) (x : House) : (c.setHc r x).rdmFails = c.rdmFails := rfl
@[simp] theorem Chip.setHc_rdmTold (c : Chip) (r : Nat) (x : House) : (c.setHc r x).rdmTold = c.rdmTold := rfl
@[simp] theorem Chip.setHc_ports (c : Chip) (r : Nat) (x : House) : (c.setHc r x).ports = c.ports := rfl
@[simp] theorem Chip.setHc_cnt (c : Chip) (r : Nat) (x : House) : (c.setHc r x).cnt = c.cnt := rfl
@[simp] theorem Chip.setHc_streams (c : Chip) (r : Nat) (x : House) : (c.setHc r x).streams = c.streams := rfl
@[simp] theorem Chip.setHc_rings (c : Chip) (r : Nat) (x : House) : (c.setHc r x).rings = c.rings := rfl
@[simp] theorem Chip.setHc_ringMem (c : Chip) (r : Nat) (x : House) : (c.setHc r x).ringMem = c.ringMem := rfl
@[simp] theorem Chip.setHc_mboxes (c : Chip) (r : Nat) (x : House) : (c.setHc r x).mboxes = c.mboxes := rfl
@[simp] theorem Chip.setHc_fifos (c : Chip) (r : Nat) (x : House) : (c.setHc r x).fifos = c.fifos := rfl
@[simp] theorem Chip.setHc_produced (c : Chip) (r : Nat) (x : House) : (c.setHc r x).produced = c.produced := rfl
@[simp] theorem Chip.setHc_msixPend (c : Chip) (r : Nat) (x : House) : (c.setHc r x).msixPend = c.msixPend := rfl
@[simp] theorem Chip.setHc_pair (c : Chip) (r : Nat) (x : House) : (c.setHc r x).pair = c.pair := rfl
@[simp] theorem Chip.setHc_feeds (c : Chip) (r : Nat) (x : House) : (c.setHc r x).feeds = c.feeds := rfl
@[simp] theorem Chip.setHc_energy (c : Chip) (r : Nat) (x : House) : (c.setHc r x).energy = c.energy := rfl
@[simp] theorem Chip.setHc_pulseOuts (c : Chip) (r : Nat) (x : House) : (c.setHc r x).pulseOuts = c.pulseOuts := rfl
@[simp] theorem Chip.setHc_warning (c : Chip) (r : Nat) (x : House) : (c.setHc r x).warning = c.warning := rfl
@[simp] theorem Chip.setHc_hostSnapNs (c : Chip) (r : Nat) (x : House) : (c.setHc r x).hostSnapNs = c.hostSnapNs := rfl
@[simp] theorem Chip.setHc_hostSnapCsn (c : Chip) (r : Nat) (x : House) : (c.setHc r x).hostSnapCsn = c.hostSnapCsn := rfl
@[simp] theorem Chip.setHc_snapCsn (c : Chip) (r : Nat) (x : House) : (c.setHc r x).snapCsn = c.snapCsn := rfl
@[simp] theorem Chip.setHc_arbiter (c : Chip) (r : Nat) (x : House) : (c.setHc r x).arbiter = c.arbiter := rfl
@[simp] theorem Chip.setHc_calib (c : Chip) (r : Nat) (x : House) : (c.setHc r x).calib = c.calib := rfl
@[simp] theorem Chip.setHc_checks (c : Chip) (r : Nat) (x : House) : (c.setHc r x).checks = c.checks := rfl
@[simp] theorem Chip.setHc_eccDram (c : Chip) (r : Nat) (x : House) : (c.setHc r x).eccDram = c.eccDram := rfl
@[simp] theorem Chip.setHc_eccLagoon (c : Chip) (r : Nat) (x : House) : (c.setHc r x).eccLagoon = c.eccLagoon := rfl
@[simp] theorem Chip.setHc_update (c : Chip) (r : Nat) (x : House) : (c.setHc r x).update = c.update := rfl
@[simp] theorem Chip.setHc_power (c : Chip) (r : Nat) (x : House) : (c.setHc r x).power = c.power := rfl
@[simp] theorem Chip.setHc_dramCfg (c : Chip) (r : Nat) (x : House) : (c.setHc r x).dramCfg = c.dramCfg := rfl
@[simp] theorem Chip.setHc_patched (c : Chip) (r : Nat) (x : House) : (c.setHc r x).patched = c.patched := rfl
@[simp] theorem Chip.setHc_sensorsTold (c : Chip) (r : Nat) (x : House) : (c.setHc r x).sensorsTold = c.sensorsTold := rfl
@[simp] theorem Chip.setHc_rdmPolled (c : Chip) (r : Nat) (x : House) : (c.setHc r x).rdmPolled = c.rdmPolled := rfl
@[simp] theorem Chip.setHc_lastRing (c : Chip) (r : Nat) (x : House) : (c.setHc r x).lastRing = c.lastRing := rfl

/-! ### `Chip.setPort` -/

@[simp] theorem Chip.setPort_freeCtr (c : Chip) (r : Nat) (x : NetPort) : (c.setPort r x).freeCtr = c.freeCtr := rfl
@[simp] theorem Chip.setPort_out (c : Chip) (r : Nat) (x : NetPort) : (c.setPort r x).out = c.out := rfl
@[simp] theorem Chip.setPort_batch (c : Chip) (r : Nat) (x : NetPort) : (c.setPort r x).batch = c.batch := rfl
@[simp] theorem Chip.setPort_cycle (c : Chip) (r : Nat) (x : NetPort) : (c.setPort r x).cycle = c.cycle := rfl
@[simp] theorem Chip.setPort_regs (c : Chip) (r : Nat) (x : NetPort) : (c.setPort r x).regs = c.regs := rfl
@[simp] theorem Chip.setPort_live (c : Chip) (r : Nat) (x : NetPort) : (c.setPort r x).live = c.live := rfl
@[simp] theorem Chip.setPort_tbs (c : Chip) (r : Nat) (x : NetPort) : (c.setPort r x).tbs = c.tbs := rfl
@[simp] theorem Chip.setPort_fg (c : Chip) (r : Nat) (x : NetPort) : (c.setPort r x).fg = c.fg := rfl
@[simp] theorem Chip.setPort_pulses (c : Chip) (r : Nat) (x : NetPort) : (c.setPort r x).pulses = c.pulses := rfl
@[simp] theorem Chip.setPort_csn (c : Chip) (r : Nat) (x : NetPort) : (c.setPort r x).csn = c.csn := rfl
@[simp] theorem Chip.setPort_crossTime (c : Chip) (r : Nat) (x : NetPort) : (c.setPort r x).crossTime = c.crossTime := rfl
@[simp] theorem Chip.setPort_sealed (c : Chip) (r : Nat) (x : NetPort) : (c.setPort r x).sealed = c.sealed := rfl
@[simp] theorem Chip.setPort_commits (c : Chip) (r : Nat) (x : NetPort) : (c.setPort r x).commits = c.commits := rfl
@[simp] theorem Chip.setPort_copyFwd (c : Chip) (r : Nat) (x : NetPort) : (c.setPort r x).copyFwd = c.copyFwd := rfl
@[simp] theorem Chip.setPort_tables (c : Chip) (r : Nat) (x : NetPort) : (c.setPort r x).tables = c.tables := rfl
@[simp] theorem Chip.setPort_frame (c : Chip) (r : Nat) (x : NetPort) : (c.setPort r x).frame = c.frame := rfl
@[simp] theorem Chip.setPort_lastCanvas (c : Chip) (r : Nat) (x : NetPort) : (c.setPort r x).lastCanvas = c.lastCanvas := rfl
@[simp] theorem Chip.setPort_retired (c : Chip) (r : Nat) (x : NetPort) : (c.setPort r x).retired = c.retired := rfl
@[simp] theorem Chip.setPort_slots (c : Chip) (r : Nat) (x : NetPort) : (c.setPort r x).slots = c.slots := rfl
@[simp] theorem Chip.setPort_dmxBack (c : Chip) (r : Nat) (x : NetPort) : (c.setPort r x).dmxBack = c.dmxBack := rfl
@[simp] theorem Chip.setPort_dmxFront (c : Chip) (r : Nat) (x : NetPort) : (c.setPort r x).dmxFront = c.dmxFront := rfl
@[simp] theorem Chip.setPort_pixBack (c : Chip) (r : Nat) (x : NetPort) : (c.setPort r x).pixBack = c.pixBack := rfl
@[simp] theorem Chip.setPort_pixFront (c : Chip) (r : Nat) (x : NetPort) : (c.setPort r x).pixFront = c.pixFront := rfl
@[simp] theorem Chip.setPort_univs (c : Chip) (r : Nat) (x : NetPort) : (c.setPort r x).univs = c.univs := rfl
@[simp] theorem Chip.setPort_syncSeqs (c : Chip) (r : Nat) (x : NetPort) : (c.setPort r x).syncSeqs = c.syncSeqs := rfl
@[simp] theorem Chip.setPort_tasks (c : Chip) (r : Nat) (x : NetPort) : (c.setPort r x).tasks = c.tasks := rfl
@[simp] theorem Chip.setPort_dispatching (c : Chip) (r : Nat) (x : NetPort) : (c.setPort r x).dispatching = c.dispatching := rfl
@[simp] theorem Chip.setPort_cueVals (c : Chip) (r : Nat) (x : NetPort) : (c.setPort r x).cueVals = c.cueVals := rfl
@[simp] theorem Chip.setPort_cueChanged (c : Chip) (r : Nat) (x : NetPort) : (c.setPort r x).cueChanged = c.cueChanged := rfl
@[simp] theorem Chip.setPort_fades (c : Chip) (r : Nat) (x : NetPort) : (c.setPort r x).fades = c.fades := rfl
@[simp] theorem Chip.setPort_effects (c : Chip) (r : Nat) (x : NetPort) : (c.setPort r x).effects = c.effects := rfl
@[simp] theorem Chip.setPort_sources (c : Chip) (r : Nat) (x : NetPort) : (c.setPort r x).sources = c.sources := rfl
@[simp] theorem Chip.setPort_exceeded (c : Chip) (r : Nat) (x : NetPort) : (c.setPort r x).exceeded = c.exceeded := rfl
@[simp] theorem Chip.setPort_triggers (c : Chip) (r : Nat) (x : NetPort) : (c.setPort r x).triggers = c.triggers := rfl
@[simp] theorem Chip.setPort_tEst (c : Chip) (r : Nat) (x : NetPort) : (c.setPort r x).tEst = c.tEst := rfl
@[simp] theorem Chip.setPort_applied (c : Chip) (r : Nat) (x : NetPort) : (c.setPort r x).applied = c.applied := rfl
@[simp] theorem Chip.setPort_drawn (c : Chip) (r : Nat) (x : NetPort) : (c.setPort r x).drawn = c.drawn := rfl
@[simp] theorem Chip.setPort_limiters (c : Chip) (r : Nat) (x : NetPort) : (c.setPort r x).limiters = c.limiters := rfl
@[simp] theorem Chip.setPort_dmx (c : Chip) (r : Nat) (x : NetPort) : (c.setPort r x).dmx = c.dmx := rfl
@[simp] theorem Chip.setPort_pix (c : Chip) (r : Nat) (x : NetPort) : (c.setPort r x).pix = c.pix := rfl
@[simp] theorem Chip.setPort_house (c : Chip) (r : Nat) (x : NetPort) : (c.setPort r x).house = c.house := rfl
@[simp] theorem Chip.setPort_sensors (c : Chip) (r : Nat) (x : NetPort) : (c.setPort r x).sensors = c.sensors := rfl
@[simp] theorem Chip.setPort_rdmFails (c : Chip) (r : Nat) (x : NetPort) : (c.setPort r x).rdmFails = c.rdmFails := rfl
@[simp] theorem Chip.setPort_rdmTold (c : Chip) (r : Nat) (x : NetPort) : (c.setPort r x).rdmTold = c.rdmTold := rfl
@[simp] theorem Chip.setPort_cnt (c : Chip) (r : Nat) (x : NetPort) : (c.setPort r x).cnt = c.cnt := rfl
@[simp] theorem Chip.setPort_streams (c : Chip) (r : Nat) (x : NetPort) : (c.setPort r x).streams = c.streams := rfl
@[simp] theorem Chip.setPort_rings (c : Chip) (r : Nat) (x : NetPort) : (c.setPort r x).rings = c.rings := rfl
@[simp] theorem Chip.setPort_ringMem (c : Chip) (r : Nat) (x : NetPort) : (c.setPort r x).ringMem = c.ringMem := rfl
@[simp] theorem Chip.setPort_mboxes (c : Chip) (r : Nat) (x : NetPort) : (c.setPort r x).mboxes = c.mboxes := rfl
@[simp] theorem Chip.setPort_fifos (c : Chip) (r : Nat) (x : NetPort) : (c.setPort r x).fifos = c.fifos := rfl
@[simp] theorem Chip.setPort_produced (c : Chip) (r : Nat) (x : NetPort) : (c.setPort r x).produced = c.produced := rfl
@[simp] theorem Chip.setPort_msixPend (c : Chip) (r : Nat) (x : NetPort) : (c.setPort r x).msixPend = c.msixPend := rfl
@[simp] theorem Chip.setPort_pair (c : Chip) (r : Nat) (x : NetPort) : (c.setPort r x).pair = c.pair := rfl
@[simp] theorem Chip.setPort_feeds (c : Chip) (r : Nat) (x : NetPort) : (c.setPort r x).feeds = c.feeds := rfl
@[simp] theorem Chip.setPort_energy (c : Chip) (r : Nat) (x : NetPort) : (c.setPort r x).energy = c.energy := rfl
@[simp] theorem Chip.setPort_pulseOuts (c : Chip) (r : Nat) (x : NetPort) : (c.setPort r x).pulseOuts = c.pulseOuts := rfl
@[simp] theorem Chip.setPort_warning (c : Chip) (r : Nat) (x : NetPort) : (c.setPort r x).warning = c.warning := rfl
@[simp] theorem Chip.setPort_hostSnapNs (c : Chip) (r : Nat) (x : NetPort) : (c.setPort r x).hostSnapNs = c.hostSnapNs := rfl
@[simp] theorem Chip.setPort_hostSnapCsn (c : Chip) (r : Nat) (x : NetPort) : (c.setPort r x).hostSnapCsn = c.hostSnapCsn := rfl
@[simp] theorem Chip.setPort_snapCsn (c : Chip) (r : Nat) (x : NetPort) : (c.setPort r x).snapCsn = c.snapCsn := rfl
@[simp] theorem Chip.setPort_arbiter (c : Chip) (r : Nat) (x : NetPort) : (c.setPort r x).arbiter = c.arbiter := rfl
@[simp] theorem Chip.setPort_calib (c : Chip) (r : Nat) (x : NetPort) : (c.setPort r x).calib = c.calib := rfl
@[simp] theorem Chip.setPort_checks (c : Chip) (r : Nat) (x : NetPort) : (c.setPort r x).checks = c.checks := rfl
@[simp] theorem Chip.setPort_eccDram (c : Chip) (r : Nat) (x : NetPort) : (c.setPort r x).eccDram = c.eccDram := rfl
@[simp] theorem Chip.setPort_eccLagoon (c : Chip) (r : Nat) (x : NetPort) : (c.setPort r x).eccLagoon = c.eccLagoon := rfl
@[simp] theorem Chip.setPort_update (c : Chip) (r : Nat) (x : NetPort) : (c.setPort r x).update = c.update := rfl
@[simp] theorem Chip.setPort_power (c : Chip) (r : Nat) (x : NetPort) : (c.setPort r x).power = c.power := rfl
@[simp] theorem Chip.setPort_dramCfg (c : Chip) (r : Nat) (x : NetPort) : (c.setPort r x).dramCfg = c.dramCfg := rfl
@[simp] theorem Chip.setPort_patched (c : Chip) (r : Nat) (x : NetPort) : (c.setPort r x).patched = c.patched := rfl
@[simp] theorem Chip.setPort_sensorsTold (c : Chip) (r : Nat) (x : NetPort) : (c.setPort r x).sensorsTold = c.sensorsTold := rfl
@[simp] theorem Chip.setPort_rdmPolled (c : Chip) (r : Nat) (x : NetPort) : (c.setPort r x).rdmPolled = c.rdmPolled := rfl
@[simp] theorem Chip.setPort_lastRing (c : Chip) (r : Nat) (x : NetPort) : (c.setPort r x).lastRing = c.lastRing := rfl

/-! ### `Chip.setStream` -/

@[simp] theorem Chip.setStream_freeCtr (c : Chip) (r : Nat) (x : Stream) : (c.setStream r x).freeCtr = c.freeCtr := rfl
@[simp] theorem Chip.setStream_out (c : Chip) (r : Nat) (x : Stream) : (c.setStream r x).out = c.out := rfl
@[simp] theorem Chip.setStream_batch (c : Chip) (r : Nat) (x : Stream) : (c.setStream r x).batch = c.batch := rfl
@[simp] theorem Chip.setStream_cycle (c : Chip) (r : Nat) (x : Stream) : (c.setStream r x).cycle = c.cycle := rfl
@[simp] theorem Chip.setStream_regs (c : Chip) (r : Nat) (x : Stream) : (c.setStream r x).regs = c.regs := rfl
@[simp] theorem Chip.setStream_live (c : Chip) (r : Nat) (x : Stream) : (c.setStream r x).live = c.live := rfl
@[simp] theorem Chip.setStream_tbs (c : Chip) (r : Nat) (x : Stream) : (c.setStream r x).tbs = c.tbs := rfl
@[simp] theorem Chip.setStream_fg (c : Chip) (r : Nat) (x : Stream) : (c.setStream r x).fg = c.fg := rfl
@[simp] theorem Chip.setStream_pulses (c : Chip) (r : Nat) (x : Stream) : (c.setStream r x).pulses = c.pulses := rfl
@[simp] theorem Chip.setStream_csn (c : Chip) (r : Nat) (x : Stream) : (c.setStream r x).csn = c.csn := rfl
@[simp] theorem Chip.setStream_crossTime (c : Chip) (r : Nat) (x : Stream) : (c.setStream r x).crossTime = c.crossTime := rfl
@[simp] theorem Chip.setStream_sealed (c : Chip) (r : Nat) (x : Stream) : (c.setStream r x).sealed = c.sealed := rfl
@[simp] theorem Chip.setStream_commits (c : Chip) (r : Nat) (x : Stream) : (c.setStream r x).commits = c.commits := rfl
@[simp] theorem Chip.setStream_copyFwd (c : Chip) (r : Nat) (x : Stream) : (c.setStream r x).copyFwd = c.copyFwd := rfl
@[simp] theorem Chip.setStream_tables (c : Chip) (r : Nat) (x : Stream) : (c.setStream r x).tables = c.tables := rfl
@[simp] theorem Chip.setStream_frame (c : Chip) (r : Nat) (x : Stream) : (c.setStream r x).frame = c.frame := rfl
@[simp] theorem Chip.setStream_lastCanvas (c : Chip) (r : Nat) (x : Stream) : (c.setStream r x).lastCanvas = c.lastCanvas := rfl
@[simp] theorem Chip.setStream_retired (c : Chip) (r : Nat) (x : Stream) : (c.setStream r x).retired = c.retired := rfl
@[simp] theorem Chip.setStream_slots (c : Chip) (r : Nat) (x : Stream) : (c.setStream r x).slots = c.slots := rfl
@[simp] theorem Chip.setStream_dmxBack (c : Chip) (r : Nat) (x : Stream) : (c.setStream r x).dmxBack = c.dmxBack := rfl
@[simp] theorem Chip.setStream_dmxFront (c : Chip) (r : Nat) (x : Stream) : (c.setStream r x).dmxFront = c.dmxFront := rfl
@[simp] theorem Chip.setStream_pixBack (c : Chip) (r : Nat) (x : Stream) : (c.setStream r x).pixBack = c.pixBack := rfl
@[simp] theorem Chip.setStream_pixFront (c : Chip) (r : Nat) (x : Stream) : (c.setStream r x).pixFront = c.pixFront := rfl
@[simp] theorem Chip.setStream_univs (c : Chip) (r : Nat) (x : Stream) : (c.setStream r x).univs = c.univs := rfl
@[simp] theorem Chip.setStream_syncSeqs (c : Chip) (r : Nat) (x : Stream) : (c.setStream r x).syncSeqs = c.syncSeqs := rfl
@[simp] theorem Chip.setStream_tasks (c : Chip) (r : Nat) (x : Stream) : (c.setStream r x).tasks = c.tasks := rfl
@[simp] theorem Chip.setStream_dispatching (c : Chip) (r : Nat) (x : Stream) : (c.setStream r x).dispatching = c.dispatching := rfl
@[simp] theorem Chip.setStream_cueVals (c : Chip) (r : Nat) (x : Stream) : (c.setStream r x).cueVals = c.cueVals := rfl
@[simp] theorem Chip.setStream_cueChanged (c : Chip) (r : Nat) (x : Stream) : (c.setStream r x).cueChanged = c.cueChanged := rfl
@[simp] theorem Chip.setStream_fades (c : Chip) (r : Nat) (x : Stream) : (c.setStream r x).fades = c.fades := rfl
@[simp] theorem Chip.setStream_effects (c : Chip) (r : Nat) (x : Stream) : (c.setStream r x).effects = c.effects := rfl
@[simp] theorem Chip.setStream_sources (c : Chip) (r : Nat) (x : Stream) : (c.setStream r x).sources = c.sources := rfl
@[simp] theorem Chip.setStream_exceeded (c : Chip) (r : Nat) (x : Stream) : (c.setStream r x).exceeded = c.exceeded := rfl
@[simp] theorem Chip.setStream_triggers (c : Chip) (r : Nat) (x : Stream) : (c.setStream r x).triggers = c.triggers := rfl
@[simp] theorem Chip.setStream_tEst (c : Chip) (r : Nat) (x : Stream) : (c.setStream r x).tEst = c.tEst := rfl
@[simp] theorem Chip.setStream_applied (c : Chip) (r : Nat) (x : Stream) : (c.setStream r x).applied = c.applied := rfl
@[simp] theorem Chip.setStream_drawn (c : Chip) (r : Nat) (x : Stream) : (c.setStream r x).drawn = c.drawn := rfl
@[simp] theorem Chip.setStream_limiters (c : Chip) (r : Nat) (x : Stream) : (c.setStream r x).limiters = c.limiters := rfl
@[simp] theorem Chip.setStream_dmx (c : Chip) (r : Nat) (x : Stream) : (c.setStream r x).dmx = c.dmx := rfl
@[simp] theorem Chip.setStream_pix (c : Chip) (r : Nat) (x : Stream) : (c.setStream r x).pix = c.pix := rfl
@[simp] theorem Chip.setStream_house (c : Chip) (r : Nat) (x : Stream) : (c.setStream r x).house = c.house := rfl
@[simp] theorem Chip.setStream_sensors (c : Chip) (r : Nat) (x : Stream) : (c.setStream r x).sensors = c.sensors := rfl
@[simp] theorem Chip.setStream_rdmFails (c : Chip) (r : Nat) (x : Stream) : (c.setStream r x).rdmFails = c.rdmFails := rfl
@[simp] theorem Chip.setStream_rdmTold (c : Chip) (r : Nat) (x : Stream) : (c.setStream r x).rdmTold = c.rdmTold := rfl
@[simp] theorem Chip.setStream_ports (c : Chip) (r : Nat) (x : Stream) : (c.setStream r x).ports = c.ports := rfl
@[simp] theorem Chip.setStream_cnt (c : Chip) (r : Nat) (x : Stream) : (c.setStream r x).cnt = c.cnt := rfl
@[simp] theorem Chip.setStream_rings (c : Chip) (r : Nat) (x : Stream) : (c.setStream r x).rings = c.rings := rfl
@[simp] theorem Chip.setStream_ringMem (c : Chip) (r : Nat) (x : Stream) : (c.setStream r x).ringMem = c.ringMem := rfl
@[simp] theorem Chip.setStream_mboxes (c : Chip) (r : Nat) (x : Stream) : (c.setStream r x).mboxes = c.mboxes := rfl
@[simp] theorem Chip.setStream_fifos (c : Chip) (r : Nat) (x : Stream) : (c.setStream r x).fifos = c.fifos := rfl
@[simp] theorem Chip.setStream_produced (c : Chip) (r : Nat) (x : Stream) : (c.setStream r x).produced = c.produced := rfl
@[simp] theorem Chip.setStream_msixPend (c : Chip) (r : Nat) (x : Stream) : (c.setStream r x).msixPend = c.msixPend := rfl
@[simp] theorem Chip.setStream_pair (c : Chip) (r : Nat) (x : Stream) : (c.setStream r x).pair = c.pair := rfl
@[simp] theorem Chip.setStream_feeds (c : Chip) (r : Nat) (x : Stream) : (c.setStream r x).feeds = c.feeds := rfl
@[simp] theorem Chip.setStream_energy (c : Chip) (r : Nat) (x : Stream) : (c.setStream r x).energy = c.energy := rfl
@[simp] theorem Chip.setStream_pulseOuts (c : Chip) (r : Nat) (x : Stream) : (c.setStream r x).pulseOuts = c.pulseOuts := rfl
@[simp] theorem Chip.setStream_warning (c : Chip) (r : Nat) (x : Stream) : (c.setStream r x).warning = c.warning := rfl
@[simp] theorem Chip.setStream_hostSnapNs (c : Chip) (r : Nat) (x : Stream) : (c.setStream r x).hostSnapNs = c.hostSnapNs := rfl
@[simp] theorem Chip.setStream_hostSnapCsn (c : Chip) (r : Nat) (x : Stream) : (c.setStream r x).hostSnapCsn = c.hostSnapCsn := rfl
@[simp] theorem Chip.setStream_snapCsn (c : Chip) (r : Nat) (x : Stream) : (c.setStream r x).snapCsn = c.snapCsn := rfl
@[simp] theorem Chip.setStream_arbiter (c : Chip) (r : Nat) (x : Stream) : (c.setStream r x).arbiter = c.arbiter := rfl
@[simp] theorem Chip.setStream_calib (c : Chip) (r : Nat) (x : Stream) : (c.setStream r x).calib = c.calib := rfl
@[simp] theorem Chip.setStream_checks (c : Chip) (r : Nat) (x : Stream) : (c.setStream r x).checks = c.checks := rfl
@[simp] theorem Chip.setStream_eccDram (c : Chip) (r : Nat) (x : Stream) : (c.setStream r x).eccDram = c.eccDram := rfl
@[simp] theorem Chip.setStream_eccLagoon (c : Chip) (r : Nat) (x : Stream) : (c.setStream r x).eccLagoon = c.eccLagoon := rfl
@[simp] theorem Chip.setStream_update (c : Chip) (r : Nat) (x : Stream) : (c.setStream r x).update = c.update := rfl
@[simp] theorem Chip.setStream_power (c : Chip) (r : Nat) (x : Stream) : (c.setStream r x).power = c.power := rfl
@[simp] theorem Chip.setStream_dramCfg (c : Chip) (r : Nat) (x : Stream) : (c.setStream r x).dramCfg = c.dramCfg := rfl
@[simp] theorem Chip.setStream_patched (c : Chip) (r : Nat) (x : Stream) : (c.setStream r x).patched = c.patched := rfl
@[simp] theorem Chip.setStream_sensorsTold (c : Chip) (r : Nat) (x : Stream) : (c.setStream r x).sensorsTold = c.sensorsTold := rfl
@[simp] theorem Chip.setStream_rdmPolled (c : Chip) (r : Nat) (x : Stream) : (c.setStream r x).rdmPolled = c.rdmPolled := rfl
@[simp] theorem Chip.setStream_lastRing (c : Chip) (r : Nat) (x : Stream) : (c.setStream r x).lastRing = c.lastRing := rfl

/-! ### `Chip.setFeed` -/

@[simp] theorem Chip.setFeed_freeCtr (c : Chip) (r : Nat) (x : Feed) : (c.setFeed r x).freeCtr = c.freeCtr := rfl
@[simp] theorem Chip.setFeed_out (c : Chip) (r : Nat) (x : Feed) : (c.setFeed r x).out = c.out := rfl
@[simp] theorem Chip.setFeed_batch (c : Chip) (r : Nat) (x : Feed) : (c.setFeed r x).batch = c.batch := rfl
@[simp] theorem Chip.setFeed_cycle (c : Chip) (r : Nat) (x : Feed) : (c.setFeed r x).cycle = c.cycle := rfl
@[simp] theorem Chip.setFeed_regs (c : Chip) (r : Nat) (x : Feed) : (c.setFeed r x).regs = c.regs := rfl
@[simp] theorem Chip.setFeed_live (c : Chip) (r : Nat) (x : Feed) : (c.setFeed r x).live = c.live := rfl
@[simp] theorem Chip.setFeed_tbs (c : Chip) (r : Nat) (x : Feed) : (c.setFeed r x).tbs = c.tbs := rfl
@[simp] theorem Chip.setFeed_fg (c : Chip) (r : Nat) (x : Feed) : (c.setFeed r x).fg = c.fg := rfl
@[simp] theorem Chip.setFeed_pulses (c : Chip) (r : Nat) (x : Feed) : (c.setFeed r x).pulses = c.pulses := rfl
@[simp] theorem Chip.setFeed_csn (c : Chip) (r : Nat) (x : Feed) : (c.setFeed r x).csn = c.csn := rfl
@[simp] theorem Chip.setFeed_crossTime (c : Chip) (r : Nat) (x : Feed) : (c.setFeed r x).crossTime = c.crossTime := rfl
@[simp] theorem Chip.setFeed_sealed (c : Chip) (r : Nat) (x : Feed) : (c.setFeed r x).sealed = c.sealed := rfl
@[simp] theorem Chip.setFeed_commits (c : Chip) (r : Nat) (x : Feed) : (c.setFeed r x).commits = c.commits := rfl
@[simp] theorem Chip.setFeed_copyFwd (c : Chip) (r : Nat) (x : Feed) : (c.setFeed r x).copyFwd = c.copyFwd := rfl
@[simp] theorem Chip.setFeed_tables (c : Chip) (r : Nat) (x : Feed) : (c.setFeed r x).tables = c.tables := rfl
@[simp] theorem Chip.setFeed_frame (c : Chip) (r : Nat) (x : Feed) : (c.setFeed r x).frame = c.frame := rfl
@[simp] theorem Chip.setFeed_lastCanvas (c : Chip) (r : Nat) (x : Feed) : (c.setFeed r x).lastCanvas = c.lastCanvas := rfl
@[simp] theorem Chip.setFeed_retired (c : Chip) (r : Nat) (x : Feed) : (c.setFeed r x).retired = c.retired := rfl
@[simp] theorem Chip.setFeed_slots (c : Chip) (r : Nat) (x : Feed) : (c.setFeed r x).slots = c.slots := rfl
@[simp] theorem Chip.setFeed_dmxBack (c : Chip) (r : Nat) (x : Feed) : (c.setFeed r x).dmxBack = c.dmxBack := rfl
@[simp] theorem Chip.setFeed_dmxFront (c : Chip) (r : Nat) (x : Feed) : (c.setFeed r x).dmxFront = c.dmxFront := rfl
@[simp] theorem Chip.setFeed_pixBack (c : Chip) (r : Nat) (x : Feed) : (c.setFeed r x).pixBack = c.pixBack := rfl
@[simp] theorem Chip.setFeed_pixFront (c : Chip) (r : Nat) (x : Feed) : (c.setFeed r x).pixFront = c.pixFront := rfl
@[simp] theorem Chip.setFeed_univs (c : Chip) (r : Nat) (x : Feed) : (c.setFeed r x).univs = c.univs := rfl
@[simp] theorem Chip.setFeed_syncSeqs (c : Chip) (r : Nat) (x : Feed) : (c.setFeed r x).syncSeqs = c.syncSeqs := rfl
@[simp] theorem Chip.setFeed_tasks (c : Chip) (r : Nat) (x : Feed) : (c.setFeed r x).tasks = c.tasks := rfl
@[simp] theorem Chip.setFeed_dispatching (c : Chip) (r : Nat) (x : Feed) : (c.setFeed r x).dispatching = c.dispatching := rfl
@[simp] theorem Chip.setFeed_cueVals (c : Chip) (r : Nat) (x : Feed) : (c.setFeed r x).cueVals = c.cueVals := rfl
@[simp] theorem Chip.setFeed_cueChanged (c : Chip) (r : Nat) (x : Feed) : (c.setFeed r x).cueChanged = c.cueChanged := rfl
@[simp] theorem Chip.setFeed_fades (c : Chip) (r : Nat) (x : Feed) : (c.setFeed r x).fades = c.fades := rfl
@[simp] theorem Chip.setFeed_effects (c : Chip) (r : Nat) (x : Feed) : (c.setFeed r x).effects = c.effects := rfl
@[simp] theorem Chip.setFeed_sources (c : Chip) (r : Nat) (x : Feed) : (c.setFeed r x).sources = c.sources := rfl
@[simp] theorem Chip.setFeed_exceeded (c : Chip) (r : Nat) (x : Feed) : (c.setFeed r x).exceeded = c.exceeded := rfl
@[simp] theorem Chip.setFeed_triggers (c : Chip) (r : Nat) (x : Feed) : (c.setFeed r x).triggers = c.triggers := rfl
@[simp] theorem Chip.setFeed_tEst (c : Chip) (r : Nat) (x : Feed) : (c.setFeed r x).tEst = c.tEst := rfl
@[simp] theorem Chip.setFeed_applied (c : Chip) (r : Nat) (x : Feed) : (c.setFeed r x).applied = c.applied := rfl
@[simp] theorem Chip.setFeed_drawn (c : Chip) (r : Nat) (x : Feed) : (c.setFeed r x).drawn = c.drawn := rfl
@[simp] theorem Chip.setFeed_limiters (c : Chip) (r : Nat) (x : Feed) : (c.setFeed r x).limiters = c.limiters := rfl
@[simp] theorem Chip.setFeed_dmx (c : Chip) (r : Nat) (x : Feed) : (c.setFeed r x).dmx = c.dmx := rfl
@[simp] theorem Chip.setFeed_pix (c : Chip) (r : Nat) (x : Feed) : (c.setFeed r x).pix = c.pix := rfl
@[simp] theorem Chip.setFeed_house (c : Chip) (r : Nat) (x : Feed) : (c.setFeed r x).house = c.house := rfl
@[simp] theorem Chip.setFeed_sensors (c : Chip) (r : Nat) (x : Feed) : (c.setFeed r x).sensors = c.sensors := rfl
@[simp] theorem Chip.setFeed_rdmFails (c : Chip) (r : Nat) (x : Feed) : (c.setFeed r x).rdmFails = c.rdmFails := rfl
@[simp] theorem Chip.setFeed_rdmTold (c : Chip) (r : Nat) (x : Feed) : (c.setFeed r x).rdmTold = c.rdmTold := rfl
@[simp] theorem Chip.setFeed_ports (c : Chip) (r : Nat) (x : Feed) : (c.setFeed r x).ports = c.ports := rfl
@[simp] theorem Chip.setFeed_cnt (c : Chip) (r : Nat) (x : Feed) : (c.setFeed r x).cnt = c.cnt := rfl
@[simp] theorem Chip.setFeed_streams (c : Chip) (r : Nat) (x : Feed) : (c.setFeed r x).streams = c.streams := rfl
@[simp] theorem Chip.setFeed_rings (c : Chip) (r : Nat) (x : Feed) : (c.setFeed r x).rings = c.rings := rfl
@[simp] theorem Chip.setFeed_ringMem (c : Chip) (r : Nat) (x : Feed) : (c.setFeed r x).ringMem = c.ringMem := rfl
@[simp] theorem Chip.setFeed_mboxes (c : Chip) (r : Nat) (x : Feed) : (c.setFeed r x).mboxes = c.mboxes := rfl
@[simp] theorem Chip.setFeed_fifos (c : Chip) (r : Nat) (x : Feed) : (c.setFeed r x).fifos = c.fifos := rfl
@[simp] theorem Chip.setFeed_produced (c : Chip) (r : Nat) (x : Feed) : (c.setFeed r x).produced = c.produced := rfl
@[simp] theorem Chip.setFeed_msixPend (c : Chip) (r : Nat) (x : Feed) : (c.setFeed r x).msixPend = c.msixPend := rfl
@[simp] theorem Chip.setFeed_pair (c : Chip) (r : Nat) (x : Feed) : (c.setFeed r x).pair = c.pair := rfl
@[simp] theorem Chip.setFeed_energy (c : Chip) (r : Nat) (x : Feed) : (c.setFeed r x).energy = c.energy := rfl
@[simp] theorem Chip.setFeed_pulseOuts (c : Chip) (r : Nat) (x : Feed) : (c.setFeed r x).pulseOuts = c.pulseOuts := rfl
@[simp] theorem Chip.setFeed_warning (c : Chip) (r : Nat) (x : Feed) : (c.setFeed r x).warning = c.warning := rfl
@[simp] theorem Chip.setFeed_hostSnapNs (c : Chip) (r : Nat) (x : Feed) : (c.setFeed r x).hostSnapNs = c.hostSnapNs := rfl
@[simp] theorem Chip.setFeed_hostSnapCsn (c : Chip) (r : Nat) (x : Feed) : (c.setFeed r x).hostSnapCsn = c.hostSnapCsn := rfl
@[simp] theorem Chip.setFeed_snapCsn (c : Chip) (r : Nat) (x : Feed) : (c.setFeed r x).snapCsn = c.snapCsn := rfl
@[simp] theorem Chip.setFeed_arbiter (c : Chip) (r : Nat) (x : Feed) : (c.setFeed r x).arbiter = c.arbiter := rfl
@[simp] theorem Chip.setFeed_calib (c : Chip) (r : Nat) (x : Feed) : (c.setFeed r x).calib = c.calib := rfl
@[simp] theorem Chip.setFeed_checks (c : Chip) (r : Nat) (x : Feed) : (c.setFeed r x).checks = c.checks := rfl
@[simp] theorem Chip.setFeed_eccDram (c : Chip) (r : Nat) (x : Feed) : (c.setFeed r x).eccDram = c.eccDram := rfl
@[simp] theorem Chip.setFeed_eccLagoon (c : Chip) (r : Nat) (x : Feed) : (c.setFeed r x).eccLagoon = c.eccLagoon := rfl
@[simp] theorem Chip.setFeed_update (c : Chip) (r : Nat) (x : Feed) : (c.setFeed r x).update = c.update := rfl
@[simp] theorem Chip.setFeed_power (c : Chip) (r : Nat) (x : Feed) : (c.setFeed r x).power = c.power := rfl
@[simp] theorem Chip.setFeed_dramCfg (c : Chip) (r : Nat) (x : Feed) : (c.setFeed r x).dramCfg = c.dramCfg := rfl
@[simp] theorem Chip.setFeed_patched (c : Chip) (r : Nat) (x : Feed) : (c.setFeed r x).patched = c.patched := rfl
@[simp] theorem Chip.setFeed_sensorsTold (c : Chip) (r : Nat) (x : Feed) : (c.setFeed r x).sensorsTold = c.sensorsTold := rfl
@[simp] theorem Chip.setFeed_rdmPolled (c : Chip) (r : Nat) (x : Feed) : (c.setFeed r x).rdmPolled = c.rdmPolled := rfl
@[simp] theorem Chip.setFeed_lastRing (c : Chip) (r : Nat) (x : Feed) : (c.setFeed r x).lastRing = c.lastRing := rfl

/-! ### `Chip.setEnergy` -/

@[simp] theorem Chip.setEnergy_freeCtr (c : Chip) (r : Nat) (x : Energy) : (c.setEnergy r x).freeCtr = c.freeCtr := rfl
@[simp] theorem Chip.setEnergy_out (c : Chip) (r : Nat) (x : Energy) : (c.setEnergy r x).out = c.out := rfl
@[simp] theorem Chip.setEnergy_batch (c : Chip) (r : Nat) (x : Energy) : (c.setEnergy r x).batch = c.batch := rfl
@[simp] theorem Chip.setEnergy_cycle (c : Chip) (r : Nat) (x : Energy) : (c.setEnergy r x).cycle = c.cycle := rfl
@[simp] theorem Chip.setEnergy_regs (c : Chip) (r : Nat) (x : Energy) : (c.setEnergy r x).regs = c.regs := rfl
@[simp] theorem Chip.setEnergy_live (c : Chip) (r : Nat) (x : Energy) : (c.setEnergy r x).live = c.live := rfl
@[simp] theorem Chip.setEnergy_tbs (c : Chip) (r : Nat) (x : Energy) : (c.setEnergy r x).tbs = c.tbs := rfl
@[simp] theorem Chip.setEnergy_fg (c : Chip) (r : Nat) (x : Energy) : (c.setEnergy r x).fg = c.fg := rfl
@[simp] theorem Chip.setEnergy_pulses (c : Chip) (r : Nat) (x : Energy) : (c.setEnergy r x).pulses = c.pulses := rfl
@[simp] theorem Chip.setEnergy_csn (c : Chip) (r : Nat) (x : Energy) : (c.setEnergy r x).csn = c.csn := rfl
@[simp] theorem Chip.setEnergy_crossTime (c : Chip) (r : Nat) (x : Energy) : (c.setEnergy r x).crossTime = c.crossTime := rfl
@[simp] theorem Chip.setEnergy_sealed (c : Chip) (r : Nat) (x : Energy) : (c.setEnergy r x).sealed = c.sealed := rfl
@[simp] theorem Chip.setEnergy_commits (c : Chip) (r : Nat) (x : Energy) : (c.setEnergy r x).commits = c.commits := rfl
@[simp] theorem Chip.setEnergy_copyFwd (c : Chip) (r : Nat) (x : Energy) : (c.setEnergy r x).copyFwd = c.copyFwd := rfl
@[simp] theorem Chip.setEnergy_tables (c : Chip) (r : Nat) (x : Energy) : (c.setEnergy r x).tables = c.tables := rfl
@[simp] theorem Chip.setEnergy_frame (c : Chip) (r : Nat) (x : Energy) : (c.setEnergy r x).frame = c.frame := rfl
@[simp] theorem Chip.setEnergy_lastCanvas (c : Chip) (r : Nat) (x : Energy) : (c.setEnergy r x).lastCanvas = c.lastCanvas := rfl
@[simp] theorem Chip.setEnergy_retired (c : Chip) (r : Nat) (x : Energy) : (c.setEnergy r x).retired = c.retired := rfl
@[simp] theorem Chip.setEnergy_slots (c : Chip) (r : Nat) (x : Energy) : (c.setEnergy r x).slots = c.slots := rfl
@[simp] theorem Chip.setEnergy_dmxBack (c : Chip) (r : Nat) (x : Energy) : (c.setEnergy r x).dmxBack = c.dmxBack := rfl
@[simp] theorem Chip.setEnergy_dmxFront (c : Chip) (r : Nat) (x : Energy) : (c.setEnergy r x).dmxFront = c.dmxFront := rfl
@[simp] theorem Chip.setEnergy_pixBack (c : Chip) (r : Nat) (x : Energy) : (c.setEnergy r x).pixBack = c.pixBack := rfl
@[simp] theorem Chip.setEnergy_pixFront (c : Chip) (r : Nat) (x : Energy) : (c.setEnergy r x).pixFront = c.pixFront := rfl
@[simp] theorem Chip.setEnergy_univs (c : Chip) (r : Nat) (x : Energy) : (c.setEnergy r x).univs = c.univs := rfl
@[simp] theorem Chip.setEnergy_syncSeqs (c : Chip) (r : Nat) (x : Energy) : (c.setEnergy r x).syncSeqs = c.syncSeqs := rfl
@[simp] theorem Chip.setEnergy_tasks (c : Chip) (r : Nat) (x : Energy) : (c.setEnergy r x).tasks = c.tasks := rfl
@[simp] theorem Chip.setEnergy_dispatching (c : Chip) (r : Nat) (x : Energy) : (c.setEnergy r x).dispatching = c.dispatching := rfl
@[simp] theorem Chip.setEnergy_cueVals (c : Chip) (r : Nat) (x : Energy) : (c.setEnergy r x).cueVals = c.cueVals := rfl
@[simp] theorem Chip.setEnergy_cueChanged (c : Chip) (r : Nat) (x : Energy) : (c.setEnergy r x).cueChanged = c.cueChanged := rfl
@[simp] theorem Chip.setEnergy_fades (c : Chip) (r : Nat) (x : Energy) : (c.setEnergy r x).fades = c.fades := rfl
@[simp] theorem Chip.setEnergy_effects (c : Chip) (r : Nat) (x : Energy) : (c.setEnergy r x).effects = c.effects := rfl
@[simp] theorem Chip.setEnergy_sources (c : Chip) (r : Nat) (x : Energy) : (c.setEnergy r x).sources = c.sources := rfl
@[simp] theorem Chip.setEnergy_exceeded (c : Chip) (r : Nat) (x : Energy) : (c.setEnergy r x).exceeded = c.exceeded := rfl
@[simp] theorem Chip.setEnergy_triggers (c : Chip) (r : Nat) (x : Energy) : (c.setEnergy r x).triggers = c.triggers := rfl
@[simp] theorem Chip.setEnergy_tEst (c : Chip) (r : Nat) (x : Energy) : (c.setEnergy r x).tEst = c.tEst := rfl
@[simp] theorem Chip.setEnergy_applied (c : Chip) (r : Nat) (x : Energy) : (c.setEnergy r x).applied = c.applied := rfl
@[simp] theorem Chip.setEnergy_drawn (c : Chip) (r : Nat) (x : Energy) : (c.setEnergy r x).drawn = c.drawn := rfl
@[simp] theorem Chip.setEnergy_limiters (c : Chip) (r : Nat) (x : Energy) : (c.setEnergy r x).limiters = c.limiters := rfl
@[simp] theorem Chip.setEnergy_dmx (c : Chip) (r : Nat) (x : Energy) : (c.setEnergy r x).dmx = c.dmx := rfl
@[simp] theorem Chip.setEnergy_pix (c : Chip) (r : Nat) (x : Energy) : (c.setEnergy r x).pix = c.pix := rfl
@[simp] theorem Chip.setEnergy_house (c : Chip) (r : Nat) (x : Energy) : (c.setEnergy r x).house = c.house := rfl
@[simp] theorem Chip.setEnergy_sensors (c : Chip) (r : Nat) (x : Energy) : (c.setEnergy r x).sensors = c.sensors := rfl
@[simp] theorem Chip.setEnergy_rdmFails (c : Chip) (r : Nat) (x : Energy) : (c.setEnergy r x).rdmFails = c.rdmFails := rfl
@[simp] theorem Chip.setEnergy_rdmTold (c : Chip) (r : Nat) (x : Energy) : (c.setEnergy r x).rdmTold = c.rdmTold := rfl
@[simp] theorem Chip.setEnergy_ports (c : Chip) (r : Nat) (x : Energy) : (c.setEnergy r x).ports = c.ports := rfl
@[simp] theorem Chip.setEnergy_cnt (c : Chip) (r : Nat) (x : Energy) : (c.setEnergy r x).cnt = c.cnt := rfl
@[simp] theorem Chip.setEnergy_streams (c : Chip) (r : Nat) (x : Energy) : (c.setEnergy r x).streams = c.streams := rfl
@[simp] theorem Chip.setEnergy_rings (c : Chip) (r : Nat) (x : Energy) : (c.setEnergy r x).rings = c.rings := rfl
@[simp] theorem Chip.setEnergy_ringMem (c : Chip) (r : Nat) (x : Energy) : (c.setEnergy r x).ringMem = c.ringMem := rfl
@[simp] theorem Chip.setEnergy_mboxes (c : Chip) (r : Nat) (x : Energy) : (c.setEnergy r x).mboxes = c.mboxes := rfl
@[simp] theorem Chip.setEnergy_fifos (c : Chip) (r : Nat) (x : Energy) : (c.setEnergy r x).fifos = c.fifos := rfl
@[simp] theorem Chip.setEnergy_produced (c : Chip) (r : Nat) (x : Energy) : (c.setEnergy r x).produced = c.produced := rfl
@[simp] theorem Chip.setEnergy_msixPend (c : Chip) (r : Nat) (x : Energy) : (c.setEnergy r x).msixPend = c.msixPend := rfl
@[simp] theorem Chip.setEnergy_pair (c : Chip) (r : Nat) (x : Energy) : (c.setEnergy r x).pair = c.pair := rfl
@[simp] theorem Chip.setEnergy_feeds (c : Chip) (r : Nat) (x : Energy) : (c.setEnergy r x).feeds = c.feeds := rfl
@[simp] theorem Chip.setEnergy_pulseOuts (c : Chip) (r : Nat) (x : Energy) : (c.setEnergy r x).pulseOuts = c.pulseOuts := rfl
@[simp] theorem Chip.setEnergy_warning (c : Chip) (r : Nat) (x : Energy) : (c.setEnergy r x).warning = c.warning := rfl
@[simp] theorem Chip.setEnergy_hostSnapNs (c : Chip) (r : Nat) (x : Energy) : (c.setEnergy r x).hostSnapNs = c.hostSnapNs := rfl
@[simp] theorem Chip.setEnergy_hostSnapCsn (c : Chip) (r : Nat) (x : Energy) : (c.setEnergy r x).hostSnapCsn = c.hostSnapCsn := rfl
@[simp] theorem Chip.setEnergy_snapCsn (c : Chip) (r : Nat) (x : Energy) : (c.setEnergy r x).snapCsn = c.snapCsn := rfl
@[simp] theorem Chip.setEnergy_arbiter (c : Chip) (r : Nat) (x : Energy) : (c.setEnergy r x).arbiter = c.arbiter := rfl
@[simp] theorem Chip.setEnergy_calib (c : Chip) (r : Nat) (x : Energy) : (c.setEnergy r x).calib = c.calib := rfl
@[simp] theorem Chip.setEnergy_checks (c : Chip) (r : Nat) (x : Energy) : (c.setEnergy r x).checks = c.checks := rfl
@[simp] theorem Chip.setEnergy_eccDram (c : Chip) (r : Nat) (x : Energy) : (c.setEnergy r x).eccDram = c.eccDram := rfl
@[simp] theorem Chip.setEnergy_eccLagoon (c : Chip) (r : Nat) (x : Energy) : (c.setEnergy r x).eccLagoon = c.eccLagoon := rfl
@[simp] theorem Chip.setEnergy_update (c : Chip) (r : Nat) (x : Energy) : (c.setEnergy r x).update = c.update := rfl
@[simp] theorem Chip.setEnergy_power (c : Chip) (r : Nat) (x : Energy) : (c.setEnergy r x).power = c.power := rfl
@[simp] theorem Chip.setEnergy_dramCfg (c : Chip) (r : Nat) (x : Energy) : (c.setEnergy r x).dramCfg = c.dramCfg := rfl
@[simp] theorem Chip.setEnergy_patched (c : Chip) (r : Nat) (x : Energy) : (c.setEnergy r x).patched = c.patched := rfl
@[simp] theorem Chip.setEnergy_sensorsTold (c : Chip) (r : Nat) (x : Energy) : (c.setEnergy r x).sensorsTold = c.sensorsTold := rfl
@[simp] theorem Chip.setEnergy_rdmPolled (c : Chip) (r : Nat) (x : Energy) : (c.setEnergy r x).rdmPolled = c.rdmPolled := rfl
@[simp] theorem Chip.setEnergy_lastRing (c : Chip) (r : Nat) (x : Energy) : (c.setEnergy r x).lastRing = c.lastRing := rfl

/-! ### `Chip.setPulse` -/

@[simp] theorem Chip.setPulse_freeCtr (c : Chip) (r : Nat) (x : Pulse) : (c.setPulse r x).freeCtr = c.freeCtr := rfl
@[simp] theorem Chip.setPulse_out (c : Chip) (r : Nat) (x : Pulse) : (c.setPulse r x).out = c.out := rfl
@[simp] theorem Chip.setPulse_batch (c : Chip) (r : Nat) (x : Pulse) : (c.setPulse r x).batch = c.batch := rfl
@[simp] theorem Chip.setPulse_cycle (c : Chip) (r : Nat) (x : Pulse) : (c.setPulse r x).cycle = c.cycle := rfl
@[simp] theorem Chip.setPulse_regs (c : Chip) (r : Nat) (x : Pulse) : (c.setPulse r x).regs = c.regs := rfl
@[simp] theorem Chip.setPulse_live (c : Chip) (r : Nat) (x : Pulse) : (c.setPulse r x).live = c.live := rfl
@[simp] theorem Chip.setPulse_tbs (c : Chip) (r : Nat) (x : Pulse) : (c.setPulse r x).tbs = c.tbs := rfl
@[simp] theorem Chip.setPulse_fg (c : Chip) (r : Nat) (x : Pulse) : (c.setPulse r x).fg = c.fg := rfl
@[simp] theorem Chip.setPulse_pulses (c : Chip) (r : Nat) (x : Pulse) : (c.setPulse r x).pulses = c.pulses := rfl
@[simp] theorem Chip.setPulse_csn (c : Chip) (r : Nat) (x : Pulse) : (c.setPulse r x).csn = c.csn := rfl
@[simp] theorem Chip.setPulse_crossTime (c : Chip) (r : Nat) (x : Pulse) : (c.setPulse r x).crossTime = c.crossTime := rfl
@[simp] theorem Chip.setPulse_sealed (c : Chip) (r : Nat) (x : Pulse) : (c.setPulse r x).sealed = c.sealed := rfl
@[simp] theorem Chip.setPulse_commits (c : Chip) (r : Nat) (x : Pulse) : (c.setPulse r x).commits = c.commits := rfl
@[simp] theorem Chip.setPulse_copyFwd (c : Chip) (r : Nat) (x : Pulse) : (c.setPulse r x).copyFwd = c.copyFwd := rfl
@[simp] theorem Chip.setPulse_tables (c : Chip) (r : Nat) (x : Pulse) : (c.setPulse r x).tables = c.tables := rfl
@[simp] theorem Chip.setPulse_frame (c : Chip) (r : Nat) (x : Pulse) : (c.setPulse r x).frame = c.frame := rfl
@[simp] theorem Chip.setPulse_lastCanvas (c : Chip) (r : Nat) (x : Pulse) : (c.setPulse r x).lastCanvas = c.lastCanvas := rfl
@[simp] theorem Chip.setPulse_retired (c : Chip) (r : Nat) (x : Pulse) : (c.setPulse r x).retired = c.retired := rfl
@[simp] theorem Chip.setPulse_slots (c : Chip) (r : Nat) (x : Pulse) : (c.setPulse r x).slots = c.slots := rfl
@[simp] theorem Chip.setPulse_dmxBack (c : Chip) (r : Nat) (x : Pulse) : (c.setPulse r x).dmxBack = c.dmxBack := rfl
@[simp] theorem Chip.setPulse_dmxFront (c : Chip) (r : Nat) (x : Pulse) : (c.setPulse r x).dmxFront = c.dmxFront := rfl
@[simp] theorem Chip.setPulse_pixBack (c : Chip) (r : Nat) (x : Pulse) : (c.setPulse r x).pixBack = c.pixBack := rfl
@[simp] theorem Chip.setPulse_pixFront (c : Chip) (r : Nat) (x : Pulse) : (c.setPulse r x).pixFront = c.pixFront := rfl
@[simp] theorem Chip.setPulse_univs (c : Chip) (r : Nat) (x : Pulse) : (c.setPulse r x).univs = c.univs := rfl
@[simp] theorem Chip.setPulse_syncSeqs (c : Chip) (r : Nat) (x : Pulse) : (c.setPulse r x).syncSeqs = c.syncSeqs := rfl
@[simp] theorem Chip.setPulse_tasks (c : Chip) (r : Nat) (x : Pulse) : (c.setPulse r x).tasks = c.tasks := rfl
@[simp] theorem Chip.setPulse_dispatching (c : Chip) (r : Nat) (x : Pulse) : (c.setPulse r x).dispatching = c.dispatching := rfl
@[simp] theorem Chip.setPulse_cueVals (c : Chip) (r : Nat) (x : Pulse) : (c.setPulse r x).cueVals = c.cueVals := rfl
@[simp] theorem Chip.setPulse_cueChanged (c : Chip) (r : Nat) (x : Pulse) : (c.setPulse r x).cueChanged = c.cueChanged := rfl
@[simp] theorem Chip.setPulse_fades (c : Chip) (r : Nat) (x : Pulse) : (c.setPulse r x).fades = c.fades := rfl
@[simp] theorem Chip.setPulse_effects (c : Chip) (r : Nat) (x : Pulse) : (c.setPulse r x).effects = c.effects := rfl
@[simp] theorem Chip.setPulse_sources (c : Chip) (r : Nat) (x : Pulse) : (c.setPulse r x).sources = c.sources := rfl
@[simp] theorem Chip.setPulse_exceeded (c : Chip) (r : Nat) (x : Pulse) : (c.setPulse r x).exceeded = c.exceeded := rfl
@[simp] theorem Chip.setPulse_triggers (c : Chip) (r : Nat) (x : Pulse) : (c.setPulse r x).triggers = c.triggers := rfl
@[simp] theorem Chip.setPulse_tEst (c : Chip) (r : Nat) (x : Pulse) : (c.setPulse r x).tEst = c.tEst := rfl
@[simp] theorem Chip.setPulse_applied (c : Chip) (r : Nat) (x : Pulse) : (c.setPulse r x).applied = c.applied := rfl
@[simp] theorem Chip.setPulse_drawn (c : Chip) (r : Nat) (x : Pulse) : (c.setPulse r x).drawn = c.drawn := rfl
@[simp] theorem Chip.setPulse_limiters (c : Chip) (r : Nat) (x : Pulse) : (c.setPulse r x).limiters = c.limiters := rfl
@[simp] theorem Chip.setPulse_dmx (c : Chip) (r : Nat) (x : Pulse) : (c.setPulse r x).dmx = c.dmx := rfl
@[simp] theorem Chip.setPulse_pix (c : Chip) (r : Nat) (x : Pulse) : (c.setPulse r x).pix = c.pix := rfl
@[simp] theorem Chip.setPulse_house (c : Chip) (r : Nat) (x : Pulse) : (c.setPulse r x).house = c.house := rfl
@[simp] theorem Chip.setPulse_sensors (c : Chip) (r : Nat) (x : Pulse) : (c.setPulse r x).sensors = c.sensors := rfl
@[simp] theorem Chip.setPulse_rdmFails (c : Chip) (r : Nat) (x : Pulse) : (c.setPulse r x).rdmFails = c.rdmFails := rfl
@[simp] theorem Chip.setPulse_rdmTold (c : Chip) (r : Nat) (x : Pulse) : (c.setPulse r x).rdmTold = c.rdmTold := rfl
@[simp] theorem Chip.setPulse_ports (c : Chip) (r : Nat) (x : Pulse) : (c.setPulse r x).ports = c.ports := rfl
@[simp] theorem Chip.setPulse_cnt (c : Chip) (r : Nat) (x : Pulse) : (c.setPulse r x).cnt = c.cnt := rfl
@[simp] theorem Chip.setPulse_streams (c : Chip) (r : Nat) (x : Pulse) : (c.setPulse r x).streams = c.streams := rfl
@[simp] theorem Chip.setPulse_rings (c : Chip) (r : Nat) (x : Pulse) : (c.setPulse r x).rings = c.rings := rfl
@[simp] theorem Chip.setPulse_ringMem (c : Chip) (r : Nat) (x : Pulse) : (c.setPulse r x).ringMem = c.ringMem := rfl
@[simp] theorem Chip.setPulse_mboxes (c : Chip) (r : Nat) (x : Pulse) : (c.setPulse r x).mboxes = c.mboxes := rfl
@[simp] theorem Chip.setPulse_fifos (c : Chip) (r : Nat) (x : Pulse) : (c.setPulse r x).fifos = c.fifos := rfl
@[simp] theorem Chip.setPulse_produced (c : Chip) (r : Nat) (x : Pulse) : (c.setPulse r x).produced = c.produced := rfl
@[simp] theorem Chip.setPulse_msixPend (c : Chip) (r : Nat) (x : Pulse) : (c.setPulse r x).msixPend = c.msixPend := rfl
@[simp] theorem Chip.setPulse_pair (c : Chip) (r : Nat) (x : Pulse) : (c.setPulse r x).pair = c.pair := rfl
@[simp] theorem Chip.setPulse_feeds (c : Chip) (r : Nat) (x : Pulse) : (c.setPulse r x).feeds = c.feeds := rfl
@[simp] theorem Chip.setPulse_energy (c : Chip) (r : Nat) (x : Pulse) : (c.setPulse r x).energy = c.energy := rfl
@[simp] theorem Chip.setPulse_warning (c : Chip) (r : Nat) (x : Pulse) : (c.setPulse r x).warning = c.warning := rfl
@[simp] theorem Chip.setPulse_hostSnapNs (c : Chip) (r : Nat) (x : Pulse) : (c.setPulse r x).hostSnapNs = c.hostSnapNs := rfl
@[simp] theorem Chip.setPulse_hostSnapCsn (c : Chip) (r : Nat) (x : Pulse) : (c.setPulse r x).hostSnapCsn = c.hostSnapCsn := rfl
@[simp] theorem Chip.setPulse_snapCsn (c : Chip) (r : Nat) (x : Pulse) : (c.setPulse r x).snapCsn = c.snapCsn := rfl
@[simp] theorem Chip.setPulse_arbiter (c : Chip) (r : Nat) (x : Pulse) : (c.setPulse r x).arbiter = c.arbiter := rfl
@[simp] theorem Chip.setPulse_calib (c : Chip) (r : Nat) (x : Pulse) : (c.setPulse r x).calib = c.calib := rfl
@[simp] theorem Chip.setPulse_checks (c : Chip) (r : Nat) (x : Pulse) : (c.setPulse r x).checks = c.checks := rfl
@[simp] theorem Chip.setPulse_eccDram (c : Chip) (r : Nat) (x : Pulse) : (c.setPulse r x).eccDram = c.eccDram := rfl
@[simp] theorem Chip.setPulse_eccLagoon (c : Chip) (r : Nat) (x : Pulse) : (c.setPulse r x).eccLagoon = c.eccLagoon := rfl
@[simp] theorem Chip.setPulse_update (c : Chip) (r : Nat) (x : Pulse) : (c.setPulse r x).update = c.update := rfl
@[simp] theorem Chip.setPulse_power (c : Chip) (r : Nat) (x : Pulse) : (c.setPulse r x).power = c.power := rfl
@[simp] theorem Chip.setPulse_dramCfg (c : Chip) (r : Nat) (x : Pulse) : (c.setPulse r x).dramCfg = c.dramCfg := rfl
@[simp] theorem Chip.setPulse_patched (c : Chip) (r : Nat) (x : Pulse) : (c.setPulse r x).patched = c.patched := rfl
@[simp] theorem Chip.setPulse_sensorsTold (c : Chip) (r : Nat) (x : Pulse) : (c.setPulse r x).sensorsTold = c.sensorsTold := rfl
@[simp] theorem Chip.setPulse_rdmPolled (c : Chip) (r : Nat) (x : Pulse) : (c.setPulse r x).rdmPolled = c.rdmPolled := rfl
@[simp] theorem Chip.setPulse_lastRing (c : Chip) (r : Nat) (x : Pulse) : (c.setPulse r x).lastRing = c.lastRing := rfl

/-! ### `Chip.setCheck` -/

@[simp] theorem Chip.setCheck_freeCtr (c : Chip) (r : Nat) (x : CheckUnit) : (c.setCheck r x).freeCtr = c.freeCtr := rfl
@[simp] theorem Chip.setCheck_out (c : Chip) (r : Nat) (x : CheckUnit) : (c.setCheck r x).out = c.out := rfl
@[simp] theorem Chip.setCheck_batch (c : Chip) (r : Nat) (x : CheckUnit) : (c.setCheck r x).batch = c.batch := rfl
@[simp] theorem Chip.setCheck_cycle (c : Chip) (r : Nat) (x : CheckUnit) : (c.setCheck r x).cycle = c.cycle := rfl
@[simp] theorem Chip.setCheck_regs (c : Chip) (r : Nat) (x : CheckUnit) : (c.setCheck r x).regs = c.regs := rfl
@[simp] theorem Chip.setCheck_live (c : Chip) (r : Nat) (x : CheckUnit) : (c.setCheck r x).live = c.live := rfl
@[simp] theorem Chip.setCheck_tbs (c : Chip) (r : Nat) (x : CheckUnit) : (c.setCheck r x).tbs = c.tbs := rfl
@[simp] theorem Chip.setCheck_fg (c : Chip) (r : Nat) (x : CheckUnit) : (c.setCheck r x).fg = c.fg := rfl
@[simp] theorem Chip.setCheck_pulses (c : Chip) (r : Nat) (x : CheckUnit) : (c.setCheck r x).pulses = c.pulses := rfl
@[simp] theorem Chip.setCheck_csn (c : Chip) (r : Nat) (x : CheckUnit) : (c.setCheck r x).csn = c.csn := rfl
@[simp] theorem Chip.setCheck_crossTime (c : Chip) (r : Nat) (x : CheckUnit) : (c.setCheck r x).crossTime = c.crossTime := rfl
@[simp] theorem Chip.setCheck_sealed (c : Chip) (r : Nat) (x : CheckUnit) : (c.setCheck r x).sealed = c.sealed := rfl
@[simp] theorem Chip.setCheck_commits (c : Chip) (r : Nat) (x : CheckUnit) : (c.setCheck r x).commits = c.commits := rfl
@[simp] theorem Chip.setCheck_copyFwd (c : Chip) (r : Nat) (x : CheckUnit) : (c.setCheck r x).copyFwd = c.copyFwd := rfl
@[simp] theorem Chip.setCheck_tables (c : Chip) (r : Nat) (x : CheckUnit) : (c.setCheck r x).tables = c.tables := rfl
@[simp] theorem Chip.setCheck_frame (c : Chip) (r : Nat) (x : CheckUnit) : (c.setCheck r x).frame = c.frame := rfl
@[simp] theorem Chip.setCheck_lastCanvas (c : Chip) (r : Nat) (x : CheckUnit) : (c.setCheck r x).lastCanvas = c.lastCanvas := rfl
@[simp] theorem Chip.setCheck_retired (c : Chip) (r : Nat) (x : CheckUnit) : (c.setCheck r x).retired = c.retired := rfl
@[simp] theorem Chip.setCheck_slots (c : Chip) (r : Nat) (x : CheckUnit) : (c.setCheck r x).slots = c.slots := rfl
@[simp] theorem Chip.setCheck_dmxBack (c : Chip) (r : Nat) (x : CheckUnit) : (c.setCheck r x).dmxBack = c.dmxBack := rfl
@[simp] theorem Chip.setCheck_dmxFront (c : Chip) (r : Nat) (x : CheckUnit) : (c.setCheck r x).dmxFront = c.dmxFront := rfl
@[simp] theorem Chip.setCheck_pixBack (c : Chip) (r : Nat) (x : CheckUnit) : (c.setCheck r x).pixBack = c.pixBack := rfl
@[simp] theorem Chip.setCheck_pixFront (c : Chip) (r : Nat) (x : CheckUnit) : (c.setCheck r x).pixFront = c.pixFront := rfl
@[simp] theorem Chip.setCheck_univs (c : Chip) (r : Nat) (x : CheckUnit) : (c.setCheck r x).univs = c.univs := rfl
@[simp] theorem Chip.setCheck_syncSeqs (c : Chip) (r : Nat) (x : CheckUnit) : (c.setCheck r x).syncSeqs = c.syncSeqs := rfl
@[simp] theorem Chip.setCheck_tasks (c : Chip) (r : Nat) (x : CheckUnit) : (c.setCheck r x).tasks = c.tasks := rfl
@[simp] theorem Chip.setCheck_dispatching (c : Chip) (r : Nat) (x : CheckUnit) : (c.setCheck r x).dispatching = c.dispatching := rfl
@[simp] theorem Chip.setCheck_cueVals (c : Chip) (r : Nat) (x : CheckUnit) : (c.setCheck r x).cueVals = c.cueVals := rfl
@[simp] theorem Chip.setCheck_cueChanged (c : Chip) (r : Nat) (x : CheckUnit) : (c.setCheck r x).cueChanged = c.cueChanged := rfl
@[simp] theorem Chip.setCheck_fades (c : Chip) (r : Nat) (x : CheckUnit) : (c.setCheck r x).fades = c.fades := rfl
@[simp] theorem Chip.setCheck_effects (c : Chip) (r : Nat) (x : CheckUnit) : (c.setCheck r x).effects = c.effects := rfl
@[simp] theorem Chip.setCheck_sources (c : Chip) (r : Nat) (x : CheckUnit) : (c.setCheck r x).sources = c.sources := rfl
@[simp] theorem Chip.setCheck_exceeded (c : Chip) (r : Nat) (x : CheckUnit) : (c.setCheck r x).exceeded = c.exceeded := rfl
@[simp] theorem Chip.setCheck_triggers (c : Chip) (r : Nat) (x : CheckUnit) : (c.setCheck r x).triggers = c.triggers := rfl
@[simp] theorem Chip.setCheck_tEst (c : Chip) (r : Nat) (x : CheckUnit) : (c.setCheck r x).tEst = c.tEst := rfl
@[simp] theorem Chip.setCheck_applied (c : Chip) (r : Nat) (x : CheckUnit) : (c.setCheck r x).applied = c.applied := rfl
@[simp] theorem Chip.setCheck_drawn (c : Chip) (r : Nat) (x : CheckUnit) : (c.setCheck r x).drawn = c.drawn := rfl
@[simp] theorem Chip.setCheck_limiters (c : Chip) (r : Nat) (x : CheckUnit) : (c.setCheck r x).limiters = c.limiters := rfl
@[simp] theorem Chip.setCheck_dmx (c : Chip) (r : Nat) (x : CheckUnit) : (c.setCheck r x).dmx = c.dmx := rfl
@[simp] theorem Chip.setCheck_pix (c : Chip) (r : Nat) (x : CheckUnit) : (c.setCheck r x).pix = c.pix := rfl
@[simp] theorem Chip.setCheck_house (c : Chip) (r : Nat) (x : CheckUnit) : (c.setCheck r x).house = c.house := rfl
@[simp] theorem Chip.setCheck_sensors (c : Chip) (r : Nat) (x : CheckUnit) : (c.setCheck r x).sensors = c.sensors := rfl
@[simp] theorem Chip.setCheck_rdmFails (c : Chip) (r : Nat) (x : CheckUnit) : (c.setCheck r x).rdmFails = c.rdmFails := rfl
@[simp] theorem Chip.setCheck_rdmTold (c : Chip) (r : Nat) (x : CheckUnit) : (c.setCheck r x).rdmTold = c.rdmTold := rfl
@[simp] theorem Chip.setCheck_ports (c : Chip) (r : Nat) (x : CheckUnit) : (c.setCheck r x).ports = c.ports := rfl
@[simp] theorem Chip.setCheck_cnt (c : Chip) (r : Nat) (x : CheckUnit) : (c.setCheck r x).cnt = c.cnt := rfl
@[simp] theorem Chip.setCheck_streams (c : Chip) (r : Nat) (x : CheckUnit) : (c.setCheck r x).streams = c.streams := rfl
@[simp] theorem Chip.setCheck_rings (c : Chip) (r : Nat) (x : CheckUnit) : (c.setCheck r x).rings = c.rings := rfl
@[simp] theorem Chip.setCheck_ringMem (c : Chip) (r : Nat) (x : CheckUnit) : (c.setCheck r x).ringMem = c.ringMem := rfl
@[simp] theorem Chip.setCheck_mboxes (c : Chip) (r : Nat) (x : CheckUnit) : (c.setCheck r x).mboxes = c.mboxes := rfl
@[simp] theorem Chip.setCheck_fifos (c : Chip) (r : Nat) (x : CheckUnit) : (c.setCheck r x).fifos = c.fifos := rfl
@[simp] theorem Chip.setCheck_produced (c : Chip) (r : Nat) (x : CheckUnit) : (c.setCheck r x).produced = c.produced := rfl
@[simp] theorem Chip.setCheck_msixPend (c : Chip) (r : Nat) (x : CheckUnit) : (c.setCheck r x).msixPend = c.msixPend := rfl
@[simp] theorem Chip.setCheck_pair (c : Chip) (r : Nat) (x : CheckUnit) : (c.setCheck r x).pair = c.pair := rfl
@[simp] theorem Chip.setCheck_feeds (c : Chip) (r : Nat) (x : CheckUnit) : (c.setCheck r x).feeds = c.feeds := rfl
@[simp] theorem Chip.setCheck_energy (c : Chip) (r : Nat) (x : CheckUnit) : (c.setCheck r x).energy = c.energy := rfl
@[simp] theorem Chip.setCheck_pulseOuts (c : Chip) (r : Nat) (x : CheckUnit) : (c.setCheck r x).pulseOuts = c.pulseOuts := rfl
@[simp] theorem Chip.setCheck_warning (c : Chip) (r : Nat) (x : CheckUnit) : (c.setCheck r x).warning = c.warning := rfl
@[simp] theorem Chip.setCheck_hostSnapNs (c : Chip) (r : Nat) (x : CheckUnit) : (c.setCheck r x).hostSnapNs = c.hostSnapNs := rfl
@[simp] theorem Chip.setCheck_hostSnapCsn (c : Chip) (r : Nat) (x : CheckUnit) : (c.setCheck r x).hostSnapCsn = c.hostSnapCsn := rfl
@[simp] theorem Chip.setCheck_snapCsn (c : Chip) (r : Nat) (x : CheckUnit) : (c.setCheck r x).snapCsn = c.snapCsn := rfl
@[simp] theorem Chip.setCheck_arbiter (c : Chip) (r : Nat) (x : CheckUnit) : (c.setCheck r x).arbiter = c.arbiter := rfl
@[simp] theorem Chip.setCheck_calib (c : Chip) (r : Nat) (x : CheckUnit) : (c.setCheck r x).calib = c.calib := rfl
@[simp] theorem Chip.setCheck_eccDram (c : Chip) (r : Nat) (x : CheckUnit) : (c.setCheck r x).eccDram = c.eccDram := rfl
@[simp] theorem Chip.setCheck_eccLagoon (c : Chip) (r : Nat) (x : CheckUnit) : (c.setCheck r x).eccLagoon = c.eccLagoon := rfl
@[simp] theorem Chip.setCheck_update (c : Chip) (r : Nat) (x : CheckUnit) : (c.setCheck r x).update = c.update := rfl
@[simp] theorem Chip.setCheck_power (c : Chip) (r : Nat) (x : CheckUnit) : (c.setCheck r x).power = c.power := rfl
@[simp] theorem Chip.setCheck_dramCfg (c : Chip) (r : Nat) (x : CheckUnit) : (c.setCheck r x).dramCfg = c.dramCfg := rfl
@[simp] theorem Chip.setCheck_patched (c : Chip) (r : Nat) (x : CheckUnit) : (c.setCheck r x).patched = c.patched := rfl
@[simp] theorem Chip.setCheck_sensorsTold (c : Chip) (r : Nat) (x : CheckUnit) : (c.setCheck r x).sensorsTold = c.sensorsTold := rfl
@[simp] theorem Chip.setCheck_rdmPolled (c : Chip) (r : Nat) (x : CheckUnit) : (c.setCheck r x).rdmPolled = c.rdmPolled := rfl
@[simp] theorem Chip.setCheck_lastRing (c : Chip) (r : Nat) (x : CheckUnit) : (c.setCheck r x).lastRing = c.lastRing := rfl

/-! ### `Chip.setTb` -/

@[simp] theorem Chip.setTb_freeCtr (c : Chip) (n : Nat) (t : TimeBase) : (c.setTb n t).freeCtr = c.freeCtr := rfl
@[simp] theorem Chip.setTb_out (c : Chip) (n : Nat) (t : TimeBase) : (c.setTb n t).out = c.out := rfl
@[simp] theorem Chip.setTb_batch (c : Chip) (n : Nat) (t : TimeBase) : (c.setTb n t).batch = c.batch := rfl
@[simp] theorem Chip.setTb_cycle (c : Chip) (n : Nat) (t : TimeBase) : (c.setTb n t).cycle = c.cycle := rfl
@[simp] theorem Chip.setTb_regs (c : Chip) (n : Nat) (t : TimeBase) : (c.setTb n t).regs = c.regs := rfl
@[simp] theorem Chip.setTb_live (c : Chip) (n : Nat) (t : TimeBase) : (c.setTb n t).live = c.live := rfl
@[simp] theorem Chip.setTb_fg (c : Chip) (n : Nat) (t : TimeBase) : (c.setTb n t).fg = c.fg := rfl
@[simp] theorem Chip.setTb_pulses (c : Chip) (n : Nat) (t : TimeBase) : (c.setTb n t).pulses = c.pulses := rfl
@[simp] theorem Chip.setTb_csn (c : Chip) (n : Nat) (t : TimeBase) : (c.setTb n t).csn = c.csn := rfl
@[simp] theorem Chip.setTb_crossTime (c : Chip) (n : Nat) (t : TimeBase) : (c.setTb n t).crossTime = c.crossTime := rfl
@[simp] theorem Chip.setTb_sealed (c : Chip) (n : Nat) (t : TimeBase) : (c.setTb n t).sealed = c.sealed := rfl
@[simp] theorem Chip.setTb_commits (c : Chip) (n : Nat) (t : TimeBase) : (c.setTb n t).commits = c.commits := rfl
@[simp] theorem Chip.setTb_copyFwd (c : Chip) (n : Nat) (t : TimeBase) : (c.setTb n t).copyFwd = c.copyFwd := rfl
@[simp] theorem Chip.setTb_tables (c : Chip) (n : Nat) (t : TimeBase) : (c.setTb n t).tables = c.tables := rfl
@[simp] theorem Chip.setTb_frame (c : Chip) (n : Nat) (t : TimeBase) : (c.setTb n t).frame = c.frame := rfl
@[simp] theorem Chip.setTb_lastCanvas (c : Chip) (n : Nat) (t : TimeBase) : (c.setTb n t).lastCanvas = c.lastCanvas := rfl
@[simp] theorem Chip.setTb_retired (c : Chip) (n : Nat) (t : TimeBase) : (c.setTb n t).retired = c.retired := rfl
@[simp] theorem Chip.setTb_slots (c : Chip) (n : Nat) (t : TimeBase) : (c.setTb n t).slots = c.slots := rfl
@[simp] theorem Chip.setTb_dmxBack (c : Chip) (n : Nat) (t : TimeBase) : (c.setTb n t).dmxBack = c.dmxBack := rfl
@[simp] theorem Chip.setTb_dmxFront (c : Chip) (n : Nat) (t : TimeBase) : (c.setTb n t).dmxFront = c.dmxFront := rfl
@[simp] theorem Chip.setTb_pixBack (c : Chip) (n : Nat) (t : TimeBase) : (c.setTb n t).pixBack = c.pixBack := rfl
@[simp] theorem Chip.setTb_pixFront (c : Chip) (n : Nat) (t : TimeBase) : (c.setTb n t).pixFront = c.pixFront := rfl
@[simp] theorem Chip.setTb_univs (c : Chip) (n : Nat) (t : TimeBase) : (c.setTb n t).univs = c.univs := rfl
@[simp] theorem Chip.setTb_syncSeqs (c : Chip) (n : Nat) (t : TimeBase) : (c.setTb n t).syncSeqs = c.syncSeqs := rfl
@[simp] theorem Chip.setTb_tasks (c : Chip) (n : Nat) (t : TimeBase) : (c.setTb n t).tasks = c.tasks := rfl
@[simp] theorem Chip.setTb_dispatching (c : Chip) (n : Nat) (t : TimeBase) : (c.setTb n t).dispatching = c.dispatching := rfl
@[simp] theorem Chip.setTb_cueVals (c : Chip) (n : Nat) (t : TimeBase) : (c.setTb n t).cueVals = c.cueVals := rfl
@[simp] theorem Chip.setTb_cueChanged (c : Chip) (n : Nat) (t : TimeBase) : (c.setTb n t).cueChanged = c.cueChanged := rfl
@[simp] theorem Chip.setTb_fades (c : Chip) (n : Nat) (t : TimeBase) : (c.setTb n t).fades = c.fades := rfl
@[simp] theorem Chip.setTb_effects (c : Chip) (n : Nat) (t : TimeBase) : (c.setTb n t).effects = c.effects := rfl
@[simp] theorem Chip.setTb_sources (c : Chip) (n : Nat) (t : TimeBase) : (c.setTb n t).sources = c.sources := rfl
@[simp] theorem Chip.setTb_exceeded (c : Chip) (n : Nat) (t : TimeBase) : (c.setTb n t).exceeded = c.exceeded := rfl
@[simp] theorem Chip.setTb_triggers (c : Chip) (n : Nat) (t : TimeBase) : (c.setTb n t).triggers = c.triggers := rfl
@[simp] theorem Chip.setTb_tEst (c : Chip) (n : Nat) (t : TimeBase) : (c.setTb n t).tEst = c.tEst := rfl
@[simp] theorem Chip.setTb_applied (c : Chip) (n : Nat) (t : TimeBase) : (c.setTb n t).applied = c.applied := rfl
@[simp] theorem Chip.setTb_drawn (c : Chip) (n : Nat) (t : TimeBase) : (c.setTb n t).drawn = c.drawn := rfl
@[simp] theorem Chip.setTb_limiters (c : Chip) (n : Nat) (t : TimeBase) : (c.setTb n t).limiters = c.limiters := rfl
@[simp] theorem Chip.setTb_dmx (c : Chip) (n : Nat) (t : TimeBase) : (c.setTb n t).dmx = c.dmx := rfl
@[simp] theorem Chip.setTb_pix (c : Chip) (n : Nat) (t : TimeBase) : (c.setTb n t).pix = c.pix := rfl
@[simp] theorem Chip.setTb_house (c : Chip) (n : Nat) (t : TimeBase) : (c.setTb n t).house = c.house := rfl
@[simp] theorem Chip.setTb_sensors (c : Chip) (n : Nat) (t : TimeBase) : (c.setTb n t).sensors = c.sensors := rfl
@[simp] theorem Chip.setTb_rdmFails (c : Chip) (n : Nat) (t : TimeBase) : (c.setTb n t).rdmFails = c.rdmFails := rfl
@[simp] theorem Chip.setTb_rdmTold (c : Chip) (n : Nat) (t : TimeBase) : (c.setTb n t).rdmTold = c.rdmTold := rfl
@[simp] theorem Chip.setTb_ports (c : Chip) (n : Nat) (t : TimeBase) : (c.setTb n t).ports = c.ports := rfl
@[simp] theorem Chip.setTb_cnt (c : Chip) (n : Nat) (t : TimeBase) : (c.setTb n t).cnt = c.cnt := rfl
@[simp] theorem Chip.setTb_streams (c : Chip) (n : Nat) (t : TimeBase) : (c.setTb n t).streams = c.streams := rfl
@[simp] theorem Chip.setTb_rings (c : Chip) (n : Nat) (t : TimeBase) : (c.setTb n t).rings = c.rings := rfl
@[simp] theorem Chip.setTb_ringMem (c : Chip) (n : Nat) (t : TimeBase) : (c.setTb n t).ringMem = c.ringMem := rfl
@[simp] theorem Chip.setTb_mboxes (c : Chip) (n : Nat) (t : TimeBase) : (c.setTb n t).mboxes = c.mboxes := rfl
@[simp] theorem Chip.setTb_fifos (c : Chip) (n : Nat) (t : TimeBase) : (c.setTb n t).fifos = c.fifos := rfl
@[simp] theorem Chip.setTb_produced (c : Chip) (n : Nat) (t : TimeBase) : (c.setTb n t).produced = c.produced := rfl
@[simp] theorem Chip.setTb_msixPend (c : Chip) (n : Nat) (t : TimeBase) : (c.setTb n t).msixPend = c.msixPend := rfl
@[simp] theorem Chip.setTb_pair (c : Chip) (n : Nat) (t : TimeBase) : (c.setTb n t).pair = c.pair := rfl
@[simp] theorem Chip.setTb_feeds (c : Chip) (n : Nat) (t : TimeBase) : (c.setTb n t).feeds = c.feeds := rfl
@[simp] theorem Chip.setTb_energy (c : Chip) (n : Nat) (t : TimeBase) : (c.setTb n t).energy = c.energy := rfl
@[simp] theorem Chip.setTb_pulseOuts (c : Chip) (n : Nat) (t : TimeBase) : (c.setTb n t).pulseOuts = c.pulseOuts := rfl
@[simp] theorem Chip.setTb_warning (c : Chip) (n : Nat) (t : TimeBase) : (c.setTb n t).warning = c.warning := rfl
@[simp] theorem Chip.setTb_hostSnapNs (c : Chip) (n : Nat) (t : TimeBase) : (c.setTb n t).hostSnapNs = c.hostSnapNs := rfl
@[simp] theorem Chip.setTb_hostSnapCsn (c : Chip) (n : Nat) (t : TimeBase) : (c.setTb n t).hostSnapCsn = c.hostSnapCsn := rfl
@[simp] theorem Chip.setTb_snapCsn (c : Chip) (n : Nat) (t : TimeBase) : (c.setTb n t).snapCsn = c.snapCsn := rfl
@[simp] theorem Chip.setTb_arbiter (c : Chip) (n : Nat) (t : TimeBase) : (c.setTb n t).arbiter = c.arbiter := rfl
@[simp] theorem Chip.setTb_calib (c : Chip) (n : Nat) (t : TimeBase) : (c.setTb n t).calib = c.calib := rfl
@[simp] theorem Chip.setTb_checks (c : Chip) (n : Nat) (t : TimeBase) : (c.setTb n t).checks = c.checks := rfl
@[simp] theorem Chip.setTb_eccDram (c : Chip) (n : Nat) (t : TimeBase) : (c.setTb n t).eccDram = c.eccDram := rfl
@[simp] theorem Chip.setTb_eccLagoon (c : Chip) (n : Nat) (t : TimeBase) : (c.setTb n t).eccLagoon = c.eccLagoon := rfl
@[simp] theorem Chip.setTb_update (c : Chip) (n : Nat) (t : TimeBase) : (c.setTb n t).update = c.update := rfl
@[simp] theorem Chip.setTb_power (c : Chip) (n : Nat) (t : TimeBase) : (c.setTb n t).power = c.power := rfl
@[simp] theorem Chip.setTb_dramCfg (c : Chip) (n : Nat) (t : TimeBase) : (c.setTb n t).dramCfg = c.dramCfg := rfl
@[simp] theorem Chip.setTb_patched (c : Chip) (n : Nat) (t : TimeBase) : (c.setTb n t).patched = c.patched := rfl
@[simp] theorem Chip.setTb_sensorsTold (c : Chip) (n : Nat) (t : TimeBase) : (c.setTb n t).sensorsTold = c.sensorsTold := rfl
@[simp] theorem Chip.setTb_rdmPolled (c : Chip) (n : Nat) (t : TimeBase) : (c.setTb n t).rdmPolled = c.rdmPolled := rfl
@[simp] theorem Chip.setTb_lastRing (c : Chip) (n : Nat) (t : TimeBase) : (c.setTb n t).lastRing = c.lastRing := rfl

/-! ### `Chip.ticks` -/

@[simp] theorem Chip.ticks_freeCtr (c : Chip) (n : Nat) : (Chip.ticks n c).freeCtr = c.freeCtr := rfl
@[simp] theorem Chip.ticks_out (c : Chip) (n : Nat) : (Chip.ticks n c).out = c.out := rfl
@[simp] theorem Chip.ticks_batch (c : Chip) (n : Nat) : (Chip.ticks n c).batch = c.batch := rfl
@[simp] theorem Chip.ticks_regs (c : Chip) (n : Nat) : (Chip.ticks n c).regs = c.regs := rfl
@[simp] theorem Chip.ticks_live (c : Chip) (n : Nat) : (Chip.ticks n c).live = c.live := rfl
@[simp] theorem Chip.ticks_fg (c : Chip) (n : Nat) : (Chip.ticks n c).fg = c.fg := rfl
@[simp] theorem Chip.ticks_pulses (c : Chip) (n : Nat) : (Chip.ticks n c).pulses = c.pulses := rfl
@[simp] theorem Chip.ticks_csn (c : Chip) (n : Nat) : (Chip.ticks n c).csn = c.csn := rfl
@[simp] theorem Chip.ticks_crossTime (c : Chip) (n : Nat) : (Chip.ticks n c).crossTime = c.crossTime := rfl
@[simp] theorem Chip.ticks_sealed (c : Chip) (n : Nat) : (Chip.ticks n c).sealed = c.sealed := rfl
@[simp] theorem Chip.ticks_commits (c : Chip) (n : Nat) : (Chip.ticks n c).commits = c.commits := rfl
@[simp] theorem Chip.ticks_copyFwd (c : Chip) (n : Nat) : (Chip.ticks n c).copyFwd = c.copyFwd := rfl
@[simp] theorem Chip.ticks_tables (c : Chip) (n : Nat) : (Chip.ticks n c).tables = c.tables := rfl
@[simp] theorem Chip.ticks_frame (c : Chip) (n : Nat) : (Chip.ticks n c).frame = c.frame := rfl
@[simp] theorem Chip.ticks_lastCanvas (c : Chip) (n : Nat) : (Chip.ticks n c).lastCanvas = c.lastCanvas := rfl
@[simp] theorem Chip.ticks_retired (c : Chip) (n : Nat) : (Chip.ticks n c).retired = c.retired := rfl
@[simp] theorem Chip.ticks_slots (c : Chip) (n : Nat) : (Chip.ticks n c).slots = c.slots := rfl
@[simp] theorem Chip.ticks_dmxBack (c : Chip) (n : Nat) : (Chip.ticks n c).dmxBack = c.dmxBack := rfl
@[simp] theorem Chip.ticks_dmxFront (c : Chip) (n : Nat) : (Chip.ticks n c).dmxFront = c.dmxFront := rfl
@[simp] theorem Chip.ticks_pixBack (c : Chip) (n : Nat) : (Chip.ticks n c).pixBack = c.pixBack := rfl
@[simp] theorem Chip.ticks_pixFront (c : Chip) (n : Nat) : (Chip.ticks n c).pixFront = c.pixFront := rfl
@[simp] theorem Chip.ticks_univs (c : Chip) (n : Nat) : (Chip.ticks n c).univs = c.univs := rfl
@[simp] theorem Chip.ticks_syncSeqs (c : Chip) (n : Nat) : (Chip.ticks n c).syncSeqs = c.syncSeqs := rfl
@[simp] theorem Chip.ticks_tasks (c : Chip) (n : Nat) : (Chip.ticks n c).tasks = c.tasks := rfl
@[simp] theorem Chip.ticks_dispatching (c : Chip) (n : Nat) : (Chip.ticks n c).dispatching = c.dispatching := rfl
@[simp] theorem Chip.ticks_cueVals (c : Chip) (n : Nat) : (Chip.ticks n c).cueVals = c.cueVals := rfl
@[simp] theorem Chip.ticks_cueChanged (c : Chip) (n : Nat) : (Chip.ticks n c).cueChanged = c.cueChanged := rfl
@[simp] theorem Chip.ticks_fades (c : Chip) (n : Nat) : (Chip.ticks n c).fades = c.fades := rfl
@[simp] theorem Chip.ticks_effects (c : Chip) (n : Nat) : (Chip.ticks n c).effects = c.effects := rfl
@[simp] theorem Chip.ticks_sources (c : Chip) (n : Nat) : (Chip.ticks n c).sources = c.sources := rfl
@[simp] theorem Chip.ticks_exceeded (c : Chip) (n : Nat) : (Chip.ticks n c).exceeded = c.exceeded := rfl
@[simp] theorem Chip.ticks_triggers (c : Chip) (n : Nat) : (Chip.ticks n c).triggers = c.triggers := rfl
@[simp] theorem Chip.ticks_tEst (c : Chip) (n : Nat) : (Chip.ticks n c).tEst = c.tEst := rfl
@[simp] theorem Chip.ticks_applied (c : Chip) (n : Nat) : (Chip.ticks n c).applied = c.applied := rfl
@[simp] theorem Chip.ticks_drawn (c : Chip) (n : Nat) : (Chip.ticks n c).drawn = c.drawn := rfl
@[simp] theorem Chip.ticks_limiters (c : Chip) (n : Nat) : (Chip.ticks n c).limiters = c.limiters := rfl
@[simp] theorem Chip.ticks_dmx (c : Chip) (n : Nat) : (Chip.ticks n c).dmx = c.dmx := rfl
@[simp] theorem Chip.ticks_pix (c : Chip) (n : Nat) : (Chip.ticks n c).pix = c.pix := rfl
@[simp] theorem Chip.ticks_house (c : Chip) (n : Nat) : (Chip.ticks n c).house = c.house := rfl
@[simp] theorem Chip.ticks_sensors (c : Chip) (n : Nat) : (Chip.ticks n c).sensors = c.sensors := rfl
@[simp] theorem Chip.ticks_rdmFails (c : Chip) (n : Nat) : (Chip.ticks n c).rdmFails = c.rdmFails := rfl
@[simp] theorem Chip.ticks_rdmTold (c : Chip) (n : Nat) : (Chip.ticks n c).rdmTold = c.rdmTold := rfl
@[simp] theorem Chip.ticks_ports (c : Chip) (n : Nat) : (Chip.ticks n c).ports = c.ports := rfl
@[simp] theorem Chip.ticks_cnt (c : Chip) (n : Nat) : (Chip.ticks n c).cnt = c.cnt := rfl
@[simp] theorem Chip.ticks_streams (c : Chip) (n : Nat) : (Chip.ticks n c).streams = c.streams := rfl
@[simp] theorem Chip.ticks_rings (c : Chip) (n : Nat) : (Chip.ticks n c).rings = c.rings := rfl
@[simp] theorem Chip.ticks_ringMem (c : Chip) (n : Nat) : (Chip.ticks n c).ringMem = c.ringMem := rfl
@[simp] theorem Chip.ticks_mboxes (c : Chip) (n : Nat) : (Chip.ticks n c).mboxes = c.mboxes := rfl
@[simp] theorem Chip.ticks_fifos (c : Chip) (n : Nat) : (Chip.ticks n c).fifos = c.fifos := rfl
@[simp] theorem Chip.ticks_produced (c : Chip) (n : Nat) : (Chip.ticks n c).produced = c.produced := rfl
@[simp] theorem Chip.ticks_msixPend (c : Chip) (n : Nat) : (Chip.ticks n c).msixPend = c.msixPend := rfl
@[simp] theorem Chip.ticks_pair (c : Chip) (n : Nat) : (Chip.ticks n c).pair = c.pair := rfl
@[simp] theorem Chip.ticks_feeds (c : Chip) (n : Nat) : (Chip.ticks n c).feeds = c.feeds := rfl
@[simp] theorem Chip.ticks_energy (c : Chip) (n : Nat) : (Chip.ticks n c).energy = c.energy := rfl
@[simp] theorem Chip.ticks_pulseOuts (c : Chip) (n : Nat) : (Chip.ticks n c).pulseOuts = c.pulseOuts := rfl
@[simp] theorem Chip.ticks_warning (c : Chip) (n : Nat) : (Chip.ticks n c).warning = c.warning := rfl
@[simp] theorem Chip.ticks_hostSnapNs (c : Chip) (n : Nat) : (Chip.ticks n c).hostSnapNs = c.hostSnapNs := rfl
@[simp] theorem Chip.ticks_hostSnapCsn (c : Chip) (n : Nat) : (Chip.ticks n c).hostSnapCsn = c.hostSnapCsn := rfl
@[simp] theorem Chip.ticks_snapCsn (c : Chip) (n : Nat) : (Chip.ticks n c).snapCsn = c.snapCsn := rfl
@[simp] theorem Chip.ticks_arbiter (c : Chip) (n : Nat) : (Chip.ticks n c).arbiter = c.arbiter := rfl
@[simp] theorem Chip.ticks_calib (c : Chip) (n : Nat) : (Chip.ticks n c).calib = c.calib := rfl
@[simp] theorem Chip.ticks_checks (c : Chip) (n : Nat) : (Chip.ticks n c).checks = c.checks := rfl
@[simp] theorem Chip.ticks_eccDram (c : Chip) (n : Nat) : (Chip.ticks n c).eccDram = c.eccDram := rfl
@[simp] theorem Chip.ticks_eccLagoon (c : Chip) (n : Nat) : (Chip.ticks n c).eccLagoon = c.eccLagoon := rfl
@[simp] theorem Chip.ticks_update (c : Chip) (n : Nat) : (Chip.ticks n c).update = c.update := rfl
@[simp] theorem Chip.ticks_power (c : Chip) (n : Nat) : (Chip.ticks n c).power = c.power := rfl
@[simp] theorem Chip.ticks_dramCfg (c : Chip) (n : Nat) : (Chip.ticks n c).dramCfg = c.dramCfg := rfl

/-! ### `Chip.emit` -/

@[simp] theorem Chip.emit_freeCtr (c : Chip) (o : Out) : (c.emit o).freeCtr = c.freeCtr := rfl
@[simp] theorem Chip.emit_batch (c : Chip) (o : Out) : (c.emit o).batch = c.batch := rfl
@[simp] theorem Chip.emit_cycle (c : Chip) (o : Out) : (c.emit o).cycle = c.cycle := rfl
@[simp] theorem Chip.emit_regs (c : Chip) (o : Out) : (c.emit o).regs = c.regs := rfl
@[simp] theorem Chip.emit_live (c : Chip) (o : Out) : (c.emit o).live = c.live := rfl
@[simp] theorem Chip.emit_tbs (c : Chip) (o : Out) : (c.emit o).tbs = c.tbs := rfl
@[simp] theorem Chip.emit_fg (c : Chip) (o : Out) : (c.emit o).fg = c.fg := rfl
@[simp] theorem Chip.emit_pulses (c : Chip) (o : Out) : (c.emit o).pulses = c.pulses := rfl
@[simp] theorem Chip.emit_csn (c : Chip) (o : Out) : (c.emit o).csn = c.csn := rfl
@[simp] theorem Chip.emit_crossTime (c : Chip) (o : Out) : (c.emit o).crossTime = c.crossTime := rfl
@[simp] theorem Chip.emit_sealed (c : Chip) (o : Out) : (c.emit o).sealed = c.sealed := rfl
@[simp] theorem Chip.emit_commits (c : Chip) (o : Out) : (c.emit o).commits = c.commits := rfl
@[simp] theorem Chip.emit_copyFwd (c : Chip) (o : Out) : (c.emit o).copyFwd = c.copyFwd := rfl
@[simp] theorem Chip.emit_tables (c : Chip) (o : Out) : (c.emit o).tables = c.tables := rfl
@[simp] theorem Chip.emit_frame (c : Chip) (o : Out) : (c.emit o).frame = c.frame := rfl
@[simp] theorem Chip.emit_lastCanvas (c : Chip) (o : Out) : (c.emit o).lastCanvas = c.lastCanvas := rfl
@[simp] theorem Chip.emit_retired (c : Chip) (o : Out) : (c.emit o).retired = c.retired := rfl
@[simp] theorem Chip.emit_slots (c : Chip) (o : Out) : (c.emit o).slots = c.slots := rfl
@[simp] theorem Chip.emit_dmxBack (c : Chip) (o : Out) : (c.emit o).dmxBack = c.dmxBack := rfl
@[simp] theorem Chip.emit_dmxFront (c : Chip) (o : Out) : (c.emit o).dmxFront = c.dmxFront := rfl
@[simp] theorem Chip.emit_pixBack (c : Chip) (o : Out) : (c.emit o).pixBack = c.pixBack := rfl
@[simp] theorem Chip.emit_pixFront (c : Chip) (o : Out) : (c.emit o).pixFront = c.pixFront := rfl
@[simp] theorem Chip.emit_univs (c : Chip) (o : Out) : (c.emit o).univs = c.univs := rfl
@[simp] theorem Chip.emit_syncSeqs (c : Chip) (o : Out) : (c.emit o).syncSeqs = c.syncSeqs := rfl
@[simp] theorem Chip.emit_tasks (c : Chip) (o : Out) : (c.emit o).tasks = c.tasks := rfl
@[simp] theorem Chip.emit_dispatching (c : Chip) (o : Out) : (c.emit o).dispatching = c.dispatching := rfl
@[simp] theorem Chip.emit_cueVals (c : Chip) (o : Out) : (c.emit o).cueVals = c.cueVals := rfl
@[simp] theorem Chip.emit_cueChanged (c : Chip) (o : Out) : (c.emit o).cueChanged = c.cueChanged := rfl
@[simp] theorem Chip.emit_fades (c : Chip) (o : Out) : (c.emit o).fades = c.fades := rfl
@[simp] theorem Chip.emit_effects (c : Chip) (o : Out) : (c.emit o).effects = c.effects := rfl
@[simp] theorem Chip.emit_sources (c : Chip) (o : Out) : (c.emit o).sources = c.sources := rfl
@[simp] theorem Chip.emit_exceeded (c : Chip) (o : Out) : (c.emit o).exceeded = c.exceeded := rfl
@[simp] theorem Chip.emit_triggers (c : Chip) (o : Out) : (c.emit o).triggers = c.triggers := rfl
@[simp] theorem Chip.emit_tEst (c : Chip) (o : Out) : (c.emit o).tEst = c.tEst := rfl
@[simp] theorem Chip.emit_applied (c : Chip) (o : Out) : (c.emit o).applied = c.applied := rfl
@[simp] theorem Chip.emit_drawn (c : Chip) (o : Out) : (c.emit o).drawn = c.drawn := rfl
@[simp] theorem Chip.emit_limiters (c : Chip) (o : Out) : (c.emit o).limiters = c.limiters := rfl
@[simp] theorem Chip.emit_dmx (c : Chip) (o : Out) : (c.emit o).dmx = c.dmx := rfl
@[simp] theorem Chip.emit_pix (c : Chip) (o : Out) : (c.emit o).pix = c.pix := rfl
@[simp] theorem Chip.emit_house (c : Chip) (o : Out) : (c.emit o).house = c.house := rfl
@[simp] theorem Chip.emit_sensors (c : Chip) (o : Out) : (c.emit o).sensors = c.sensors := rfl
@[simp] theorem Chip.emit_rdmFails (c : Chip) (o : Out) : (c.emit o).rdmFails = c.rdmFails := rfl
@[simp] theorem Chip.emit_rdmTold (c : Chip) (o : Out) : (c.emit o).rdmTold = c.rdmTold := rfl
@[simp] theorem Chip.emit_ports (c : Chip) (o : Out) : (c.emit o).ports = c.ports := rfl
@[simp] theorem Chip.emit_cnt (c : Chip) (o : Out) : (c.emit o).cnt = c.cnt := rfl
@[simp] theorem Chip.emit_streams (c : Chip) (o : Out) : (c.emit o).streams = c.streams := rfl
@[simp] theorem Chip.emit_rings (c : Chip) (o : Out) : (c.emit o).rings = c.rings := rfl
@[simp] theorem Chip.emit_ringMem (c : Chip) (o : Out) : (c.emit o).ringMem = c.ringMem := rfl
@[simp] theorem Chip.emit_mboxes (c : Chip) (o : Out) : (c.emit o).mboxes = c.mboxes := rfl
@[simp] theorem Chip.emit_fifos (c : Chip) (o : Out) : (c.emit o).fifos = c.fifos := rfl
@[simp] theorem Chip.emit_produced (c : Chip) (o : Out) : (c.emit o).produced = c.produced := rfl
@[simp] theorem Chip.emit_msixPend (c : Chip) (o : Out) : (c.emit o).msixPend = c.msixPend := rfl
@[simp] theorem Chip.emit_pair (c : Chip) (o : Out) : (c.emit o).pair = c.pair := rfl
@[simp] theorem Chip.emit_feeds (c : Chip) (o : Out) : (c.emit o).feeds = c.feeds := rfl
@[simp] theorem Chip.emit_energy (c : Chip) (o : Out) : (c.emit o).energy = c.energy := rfl
@[simp] theorem Chip.emit_pulseOuts (c : Chip) (o : Out) : (c.emit o).pulseOuts = c.pulseOuts := rfl
@[simp] theorem Chip.emit_warning (c : Chip) (o : Out) : (c.emit o).warning = c.warning := rfl
@[simp] theorem Chip.emit_hostSnapNs (c : Chip) (o : Out) : (c.emit o).hostSnapNs = c.hostSnapNs := rfl
@[simp] theorem Chip.emit_hostSnapCsn (c : Chip) (o : Out) : (c.emit o).hostSnapCsn = c.hostSnapCsn := rfl
@[simp] theorem Chip.emit_snapCsn (c : Chip) (o : Out) : (c.emit o).snapCsn = c.snapCsn := rfl
@[simp] theorem Chip.emit_arbiter (c : Chip) (o : Out) : (c.emit o).arbiter = c.arbiter := rfl
@[simp] theorem Chip.emit_calib (c : Chip) (o : Out) : (c.emit o).calib = c.calib := rfl
@[simp] theorem Chip.emit_checks (c : Chip) (o : Out) : (c.emit o).checks = c.checks := rfl
@[simp] theorem Chip.emit_eccDram (c : Chip) (o : Out) : (c.emit o).eccDram = c.eccDram := rfl
@[simp] theorem Chip.emit_eccLagoon (c : Chip) (o : Out) : (c.emit o).eccLagoon = c.eccLagoon := rfl
@[simp] theorem Chip.emit_update (c : Chip) (o : Out) : (c.emit o).update = c.update := rfl
@[simp] theorem Chip.emit_power (c : Chip) (o : Out) : (c.emit o).power = c.power := rfl
@[simp] theorem Chip.emit_dramCfg (c : Chip) (o : Out) : (c.emit o).dramCfg = c.dramCfg := rfl
@[simp] theorem Chip.emit_patched (c : Chip) (o : Out) : (c.emit o).patched = c.patched := rfl
@[simp] theorem Chip.emit_sensorsTold (c : Chip) (o : Out) : (c.emit o).sensorsTold = c.sensorsTold := rfl
@[simp] theorem Chip.emit_rdmPolled (c : Chip) (o : Out) : (c.emit o).rdmPolled = c.rdmPolled := rfl
@[simp] theorem Chip.emit_lastRing (c : Chip) (o : Out) : (c.emit o).lastRing = c.lastRing := rfl

/-! ### The state -/

@[simp] theorem State.onto_chip (s : State) (c : Chip) : (s.onto c).chip = c := rfl
@[simp] theorem State.onto_dram (s : State) (c : Chip) : (s.onto c).dram = s.dram := rfl
@[simp] theorem State.onto_pending (s : State) (c : Chip) : (s.onto c).pending = s.pending := rfl
@[simp] theorem State.ontoBoth_chip (s : State) (x : List Host.Cell × Chip) : (s.ontoBoth x).chip = x.2 := rfl
@[simp] theorem State.ontoBoth_dram (s : State) (x : List Host.Cell × Chip) : (s.ontoBoth x).dram = x.1 := rfl
@[simp] theorem State.ontoBoth_pending (s : State) (x : List Host.Cell × Chip) : (s.ontoBoth x).pending = s.pending := rfl
@[simp] theorem State.onto_self (s : State) : s.onto s.chip = s := rfl

/-! ### What an update reads back -/

@[simp] theorem Chip.rd_wr_same (c : Chip) (off v : Nat) : (c.wr off v).rd off = v % 2 ^ 32 := by
  simp [Chip.rd, Chip.wr, Store.get_set_same]
theorem Chip.rd_wr_ne (c : Chip) (off off' v : Nat) (h : off' ≠ off) : (c.wr off v).rd off' = c.rd off' := by
  simp [Chip.rd, Chip.wr, Store.get_set_ne _ _ _ _ _ h]
@[simp] theorem Chip.lv_wr (c : Chip) (off v o : Nat) : (c.wr off v).lv o = c.lv o := rfl
@[simp] theorem Chip.lv_wrLive_same (c : Chip) (off v : Nat) : (c.wrLive off v).lv off = v % 2 ^ 32 := by
  simp [Chip.lv, Chip.wrLive, Store.get_set_same]
theorem Chip.lv_wrLive_ne (c : Chip) (off off' v : Nat) (h : off' ≠ off) : (c.wrLive off v).lv off' = c.lv off' := by
  simp [Chip.lv, Chip.wrLive, Store.get_set_ne _ _ _ _ _ h]
@[simp] theorem Chip.rd_wrLive (c : Chip) (off v o : Nat) : (c.wrLive off v).rd o = c.rd o := rfl

@[simp] theorem Chip.ring_setRing_same (c : Chip) (k : Nat) (x : Ring) : (c.setRing k x).ring k = x := by
  simp [Chip.ring, Chip.setRing, Store.get_set_same]
theorem Chip.ring_setRing_ne (c : Chip) (k j : Nat) (x : Ring) (h : j ≠ k) : (c.setRing k x).ring j = c.ring j := by
  simp [Chip.ring, Chip.setRing, Store.get_set_ne _ _ _ _ _ h]
@[simp] theorem Chip.mbox_setMbox_same (c : Chip) (k : Nat) (x : Mailbox) : (c.setMbox k x).mbox k = x := by
  simp [Chip.mbox, Chip.setMbox, Store.get_set_same]
theorem Chip.mbox_setMbox_ne (c : Chip) (k j : Nat) (x : Mailbox) (h : j ≠ k) : (c.setMbox k x).mbox j = c.mbox j := by
  simp [Chip.mbox, Chip.setMbox, Store.get_set_ne _ _ _ _ _ h]
@[simp] theorem Chip.fifo_setFifo_same (c : Chip) (k : Nat) (x : Fifo) : (c.setFifo k x).fifo k = x := by
  simp [Chip.fifo, Chip.setFifo, Store.get_set_same]
theorem Chip.fifo_setFifo_ne (c : Chip) (k j : Nat) (x : Fifo) (h : j ≠ k) : (c.setFifo k x).fifo j = c.fifo j := by
  simp [Chip.fifo, Chip.setFifo, Store.get_set_ne _ _ _ _ _ h]
@[simp] theorem Chip.task_setTask_same (c : Chip) (k : Nat) (x : Task) : (c.setTask k x).task k = x := by
  simp [Chip.task, Chip.setTask, Store.get_set_same]
theorem Chip.task_setTask_ne (c : Chip) (k j : Nat) (x : Task) (h : j ≠ k) : (c.setTask k x).task j = c.task j := by
  simp [Chip.task, Chip.setTask, Store.get_set_ne _ _ _ _ _ h]
@[simp] theorem Chip.univ_setUniv_same (c : Chip) (k : Nat) (x : UnivState) : (c.setUniv k x).univ k = x := by
  simp [Chip.univ, Chip.setUniv, Store.get_set_same]
theorem Chip.univ_setUniv_ne (c : Chip) (k j : Nat) (x : UnivState) (h : j ≠ k) : (c.setUniv k x).univ j = c.univ j := by
  simp [Chip.univ, Chip.setUniv, Store.get_set_ne _ _ _ _ _ h]
@[simp] theorem Chip.dmxPort_setDmx_same (c : Chip) (k : Nat) (x : DmxPort) : (c.setDmx k x).dmxPort k = x := by
  simp [Chip.dmxPort, Chip.setDmx, Store.get_set_same]
theorem Chip.dmxPort_setDmx_ne (c : Chip) (k j : Nat) (x : DmxPort) (h : j ≠ k) : (c.setDmx k x).dmxPort j = c.dmxPort j := by
  simp [Chip.dmxPort, Chip.setDmx, Store.get_set_ne _ _ _ _ _ h]
@[simp] theorem Chip.pixPort_setPix_same (c : Chip) (k : Nat) (x : PixPort) : (c.setPix k x).pixPort k = x := by
  simp [Chip.pixPort, Chip.setPix, Store.get_set_same]
theorem Chip.pixPort_setPix_ne (c : Chip) (k j : Nat) (x : PixPort) (h : j ≠ k) : (c.setPix k x).pixPort j = c.pixPort j := by
  simp [Chip.pixPort, Chip.setPix, Store.get_set_ne _ _ _ _ _ h]
@[simp] theorem Chip.hc_setHc_same (c : Chip) (k : Nat) (x : House) : (c.setHc k x).hc k = x := by
  simp [Chip.hc, Chip.setHc, Store.get_set_same]
theorem Chip.hc_setHc_ne (c : Chip) (k j : Nat) (x : House) (h : j ≠ k) : (c.setHc k x).hc j = c.hc j := by
  simp [Chip.hc, Chip.setHc, Store.get_set_ne _ _ _ _ _ h]
@[simp] theorem Chip.port_setPort_same (c : Chip) (k : Nat) (x : NetPort) : (c.setPort k x).port k = x := by
  simp [Chip.port, Chip.setPort, Store.get_set_same]
theorem Chip.port_setPort_ne (c : Chip) (k j : Nat) (x : NetPort) (h : j ≠ k) : (c.setPort k x).port j = c.port j := by
  simp [Chip.port, Chip.setPort, Store.get_set_ne _ _ _ _ _ h]
@[simp] theorem Chip.stream_setStream_same (c : Chip) (k : Nat) (x : Stream) : (c.setStream k x).stream k = x := by
  simp [Chip.stream, Chip.setStream, Store.get_set_same]
theorem Chip.stream_setStream_ne (c : Chip) (k j : Nat) (x : Stream) (h : j ≠ k) : (c.setStream k x).stream j = c.stream j := by
  simp [Chip.stream, Chip.setStream, Store.get_set_ne _ _ _ _ _ h]
@[simp] theorem Chip.feed_setFeed_same (c : Chip) (k : Nat) (x : Feed) : (c.setFeed k x).feed k = x := by
  simp [Chip.feed, Chip.setFeed, Store.get_set_same]
theorem Chip.feed_setFeed_ne (c : Chip) (k j : Nat) (x : Feed) (h : j ≠ k) : (c.setFeed k x).feed j = c.feed j := by
  simp [Chip.feed, Chip.setFeed, Store.get_set_ne _ _ _ _ _ h]
@[simp] theorem Chip.energyOf_setEnergy_same (c : Chip) (k : Nat) (x : Energy) : (c.setEnergy k x).energyOf k = x := by
  simp [Chip.energyOf, Chip.setEnergy, Store.get_set_same]
theorem Chip.energyOf_setEnergy_ne (c : Chip) (k j : Nat) (x : Energy) (h : j ≠ k) : (c.setEnergy k x).energyOf j = c.energyOf j := by
  simp [Chip.energyOf, Chip.setEnergy, Store.get_set_ne _ _ _ _ _ h]
@[simp] theorem Chip.pulse_setPulse_same (c : Chip) (k : Nat) (x : Pulse) : (c.setPulse k x).pulse k = x := by
  simp [Chip.pulse, Chip.setPulse, Store.get_set_same]
theorem Chip.pulse_setPulse_ne (c : Chip) (k j : Nat) (x : Pulse) (h : j ≠ k) : (c.setPulse k x).pulse j = c.pulse j := by
  simp [Chip.pulse, Chip.setPulse, Store.get_set_ne _ _ _ _ _ h]
@[simp] theorem Chip.check_setCheck_same (c : Chip) (k : Nat) (x : CheckUnit) : (c.setCheck k x).check k = x := by
  simp [Chip.check, Chip.setCheck, Store.get_set_same]
theorem Chip.check_setCheck_ne (c : Chip) (k j : Nat) (x : CheckUnit) (h : j ≠ k) : (c.setCheck k x).check j = c.check j := by
  simp [Chip.check, Chip.setCheck, Store.get_set_ne _ _ _ _ _ h]

/-- A host write that a block takes reaches it. -/
theorem Chip.barWrite_taken (c : Chip) (off len : Nat) (f : Chip → Chip) (h : c.takesWrite off = true) :
    c.barWrite off len f = f c := by
  unfold Chip.takesWrite at h
  unfold Chip.barWrite
  simp only [Bool.and_eq_true, Bool.not_eq_true'] at h
  obtain ⟨⟨h1, h2⟩, h3⟩ := h
  have h3' : c.barCause off = none := by simpa using h3
  simp [h1, h2, h3']

/-- A command that firmware takes reaches its meaning, with the payload octets below LEN. -/
theorem Chip.inChannel_taken {α : Type} (c : Chip) (op : Nat) (long : Bool) (h : CmdHdr) (p : Nat) (bad : Chip → α) (f : Nat → α)
    (ht : c.takes h long = true) : c.inChannel op long h p bad f = f (payloadOf h p) := by
  unfold Chip.takes at ht
  unfold Chip.inChannel payloadOf
  cases hc : h.chan with
  | mbox m =>
    simp only [hc, Bool.and_eq_true, decide_eq_true_eq] at ht
    simp [Nat.not_lt.mpr ht.2]
  | ring r =>
    simp only [hc, Bool.and_eq_true, decide_eq_true_eq, Bool.not_eq_true'] at ht
    simp [Nat.not_lt.mpr ht.2.1, ht.2.2]

/-- A command that firmware takes is next in its channel. -/
theorem Chip.takes_from {c : Chip} {h : CmdHdr} {long : Bool} (ht : c.takes h long = true) : c.takesFrom h.chan = true := by
  unfold Chip.takes at ht; simp only [Bool.and_eq_true] at ht; exact ht.1

end Sys2Proof.Machine
end

