-- ==== Sys2Proof/Laws/Commits.lean ====
section
/-! SUPPORT. What a firmware command and a commit command answer once firmware takes the one and accepts the other. -/

namespace Sys2Proof.Machine

open Sys2Proof

/-- A command of firmware that it takes: its meaning on the part, with the payload below LEN. -/
theorem firmware_taken (op : Nat) (long : Bool) (h : CmdHdr) (p : Nat) (f : Nat → List Host.Cell → Chip → Chip) (s : State)
    (q : Nat) (hq : payloadOf h p = q) (ht : s.chip.takes h long = true) :
    firmware op long h p f s = .next (s.onto (f q s.dram s.chip)) := by
  rw [firmware_eq, Chip.takes_from ht, Chip.inChannel_taken _ _ _ _ _ _ _ ht, hq]; rfl

/-- A command of firmware on the part and LPDDR5X that it takes. -/
theorem firmwareBoth_taken (op : Nat) (h : CmdHdr) (p : Nat) (f : Nat → List Host.Cell → Chip → List Host.Cell × Chip)
    (s : State) (q : Nat) (hq : payloadOf h p = q) (ht : s.chip.takes h false = true) :
    firmwareBoth op h p f s = .next (s.ontoBoth (f q s.dram s.chip)) := by
  rw [firmwareBoth_eq, onBoth_eq]
  simp only [Chip.takes_from ht, Chip.inChannel_taken _ _ _ _ _ _ _ ht, hq]
  rfl

/-- What the acceptance of a commit says of its targeting, the queue, the pair and the configuration at its crossing. -/
theorem Chip.accepts_parts (c : Chip) (h : CmdHdr) (q csn st : Nat) (l : List Change) (ha : c.accepts h q csn st l = true) :
    c.target h q true = .ok (csn, st) ∧ (decide (c.openCsn < csn) && decide (1024 ≤ c.beyond (c.commits ++ c.forwarded))) = false ∧
    (c.underActive && (l.any fun ch => ch.mirrored && ch != .promote)) = false ∧
    c.refusal (c.projected csn) csn l = none := by
  unfold Chip.accepts at ha
  simp only [Bool.and_eq_true, Bool.not_eq_true'] at ha
  obtain ⟨⟨⟨h1, h2⟩, h3⟩, h4⟩ := ha
  refine ⟨?_, h2, h3, ?_⟩
  · cases ht : c.target h q true with
    | error r => simp [ht] at h1
    | ok e => simp [ht] at h1; rw [h1]
  · simpa using h4

/-- A commit command that is accepted, with its changes. -/
theorem Chip.commitTry_accepted (c : Chip) (op : Nat) (h : CmdHdr) (q csn st : Nat) (l : List Change) (r : List Byte)
    (b : Chip → Nat → Except Refuse (List Change × List Byte)) (hb : b (c.projected csn) csn = .ok (l, r))
    (ha : c.accepts h q csn st l = true) : c.commitTry op h q true b = (c.accepted h op q csn st l r, some l) := by
  obtain ⟨h1, h2, h3, h4⟩ := c.accepts_parts _ _ _ _ _ ha
  simp only [Chip.commitTry, h1, hb]
  simp only [Bool.and_eq_false_iff, decide_eq_false_iff_not] at h2
  rw [if_neg (by simpa using fun a => by rcases h2 with h | h <;> omega), h3]
  simp [h4, Chip.accepted]

/-- A commit command that is accepted. -/
theorem Chip.commitCommand_accepted (c : Chip) (op : Nat) (h : CmdHdr) (q csn st : Nat) (l : List Change) (r : List Byte)
    (b : Chip → Nat → Except Refuse (List Change × List Byte)) (hb : b (c.projected csn) csn = .ok (l, r))
    (ha : c.accepts h q csn st l = true) : c.commitCommand op h q true b = c.accepted h op q csn st l r := by
  simp only [Chip.commitCommand, c.commitTry_accepted _ _ _ _ _ _ _ _ hb ha]

end Sys2Proof.Machine
end

