-- ==== Sys2Proof/Laws/Events.lean ====
section
/-! SUPPORT. What raising an event can do: it writes ring entries with the codes of their words, ring and drop counts, messages and
the pending-bit array, or gathers the event for the end of its cycle, and nothing else. -/

namespace Sys2Proof.Machine

open Sys2Proof

/-- Two parts that differ at most in what the posting of events changes. -/
def Chip.SameButEvents (c d : Chip) : Prop :=
  d = { c with
    regs := d.regs, rings := d.rings, ringMem := d.ringMem, out := d.out, msixPend := d.msixPend, batch := d.batch
    eccLagoon := d.eccLagoon } ∧
  (∀ off, off ≠ Reg.EVT_UNROUTED_CNT → (∀ r, r < 256 → off ≠ Reg.RING_DROP_CNT r ∧ off ≠ Reg.RING_EVT r) → d.rd off = c.rd off) ∧
  (∀ o, o ∈ c.out → o ∈ d.out)

theorem Chip.SameButEvents.refl (c : Chip) : c.SameButEvents c := ⟨rfl, fun _ _ _ => rfl, fun _ h => h⟩

theorem Chip.SameButEvents.trans {c d e : Chip} (h : c.SameButEvents d) (k : d.SameButEvents e) : c.SameButEvents e := by
  refine ⟨?_, fun off a b => (k.2.1 off a b).trans (h.2.1 off a b), fun o ho => k.2.2 o (h.2.2 o ho)⟩
  rw [k.1, h.1]

theorem Chip.sameButEvents_emit (c : Chip) (o : Out) : c.SameButEvents (c.emit o) :=
  ⟨rfl, fun _ _ _ => rfl, fun _ h => List.mem_cons_of_mem _ h⟩

theorem Chip.sameButEvents_msix (c : Chip) (v : Nat) : c.SameButEvents (c.msix v) := by
  unfold Chip.msix
  split
  · split
    · exact .refl c
    · exact ⟨rfl, fun _ _ _ => rfl, fun _ h => h⟩
  · exact c.sameButEvents_emit _

/-- Whole words of Lagoon rewritten: only its codes change. -/
theorem Chip.rewritten_lagoon (c : Chip) (a n : Nat) : c.rewritten 1 a n = { c with eccLagoon := (c.rewritten 1 a n).eccLagoon } := by
  have key : ∀ (l : List Nat) (c : Chip), l.foldl (fun c w => c.setEcc 1 ((c.ecc 1).put w 0)) c =
      { c with eccLagoon := (l.foldl (fun c w => c.setEcc 1 ((c.ecc 1).put w 0)) c).eccLagoon } := by
    intro l
    induction l with
    | nil => exact fun _ => rfl
    | cons w l ih => intro c; rw [List.foldl_cons, ih]; rfl
  exact key _ c

theorem Chip.sameButEvents_storeEntry (c : Chip) (r i e : Nat) : c.SameButEvents (c.storeEntry r i e) := by
  unfold Chip.storeEntry
  split
  · exact c.sameButEvents_emit _
  · dsimp only
    rw [Chip.rewritten_lagoon]
    exact ⟨rfl, fun _ _ _ => rfl, fun _ h => h⟩

theorem Chip.sameButEvents_setRing (c : Chip) (r : Nat) (g : Ring) : c.SameButEvents (c.setRing r g) :=
  ⟨rfl, fun _ _ _ => rfl, fun _ h => h⟩

theorem Chip.sameButEvents_writeEvent (c : Chip) (r code src flags : Nat) (items : List Byte) :
    c.SameButEvents (c.writeEvent r code src flags items) :=
  (c.sameButEvents_storeEntry _ _ _).trans (Chip.sameButEvents_setRing _ _ _)

/-- A posting changes only what `SameButEvents` names. -/
theorem Chip.sameButEvents_post (c : Chip) (r vec code src : Nat) (items : List Byte) (hr : r < 256) :
    c.SameButEvents (c.post r vec code src items) := by
  unfold Chip.post
  split
  · exact ⟨rfl, fun off a _ => Chip.rd_wr_ne _ _ _ _ a, fun _ h => h⟩
  · split
    · exact (c.sameButEvents_writeEvent _ _ _ _ _).trans (Chip.sameButEvents_msix _ _)
    · split
      · exact ⟨rfl, fun off _ b => Chip.rd_wr_ne _ _ _ _ (b r hr).1, fun _ h => h⟩
      · have hw := c.sameButEvents_writeEvent r code src 1 []
        have he : ∀ d : Chip, d.SameButEvents (d.setEvt (Reg.RING_EVT r) 1) := fun d =>
          ⟨rfl, fun off _ b => Chip.rd_wr_ne _ _ _ _ (b r hr).2, fun _ h => h⟩
        exact ((hw.trans (Chip.sameButEvents_setRing _ _ _)).trans (he _)).trans (Chip.sameButEvents_msix _ _)

theorem Chip.sameButEvents_postEvent (c : Chip) (e : Raised) : c.SameButEvents (c.postEvent e) := by
  unfold Chip.postEvent
  dsimp only
  split
  · exact c.sameButEvents_post _ _ _ _ _ (Nat.mod_lt _ (by decide))
  · split
    · exact .refl c
    · exact c.sameButEvents_post _ _ _ _ _ (Nat.mod_lt _ (by decide))

/-- An entry posted or gathered changes only what `SameButEvents` names. -/
theorem Chip.sameButEvents_gatherPost (c : Chip) (e : Raised) : c.SameButEvents (c.gatherPost e) := by
  unfold Chip.gatherPost
  split
  · exact c.sameButEvents_postEvent _
  · exact ⟨rfl, fun _ _ _ => rfl, fun _ h => h⟩

/-- An event raised changes only what `SameButEvents` names. -/
theorem Chip.sameButEvents_raise (c : Chip) (src code : Nat) (items : List Byte) : c.SameButEvents (c.raise src code items) :=
  c.sameButEvents_gatherPost _

theorem Chip.sameButEvents_foldl (l : List Raised) : ∀ c : Chip, c.SameButEvents (l.foldl Chip.postEvent c) := by
  induction l with
  | nil => exact fun c => .refl c
  | cons e l ih => exact fun c => (c.sameButEvents_postEvent e).trans (ih _)

/-- The end of a cycle posts its events and changes nothing else. -/
theorem Chip.sameButEvents_postBatch (c : Chip) : c.SameButEvents c.postBatch :=
  Chip.SameButEvents.trans (d := { c with batch := none }) ⟨rfl, fun _ _ _ => rfl, fun _ h => h⟩ (Chip.sameButEvents_foldl _ _)

/-- What happens in one cycle is its effect, on the part with its events gathered, and then their posting. -/
theorem Chip.sameButEvents_inCycle (c : Chip) (f : Chip → Chip) :
    ∃ l : List Raised, (f { c with batch := some l }).SameButEvents (c.inCycle f) := by
  unfold Chip.inCycle
  cases h : c.batch with
  | none => exact ⟨[], Chip.sameButEvents_postBatch _⟩
  | some l =>
    have e : ({ c with batch := some l } : Chip) = c := by rw [← h]
    exact ⟨l, by rw [e]; exact .refl _⟩

/-- What raises no event runs in its cycle as it stands. -/
theorem Chip.inCycle_quiet (c : Chip) (f : Chip → Chip)
    (hf : ∀ (d : Chip) (b : Option (List Raised)), f { d with batch := b } = { f d with batch := b }) : c.inCycle f = f c := by
  unfold Chip.inCycle
  cases h : c.batch with
  | none =>
    have e : f c = { f c with batch := none } := by
      have := hf c c.batch
      rw [h] at this
      exact (congrArg f (by rw [← h])).trans this
    dsimp only
    rw [hf c (some [])]
    exact e.symm
  | some l => rfl

end Sys2Proof.Machine
end

