-- ==== Sys2Proof/Tests/Slice0.lean ====
section
/-! SUPPORT. Tests: well-formedness refuses an ill-formed term for each of its checks; small steps with results worked out from
the spec; and, for every statement with hypotheses, states and operands that meet them, clause by clause. -/

namespace Sys2Proof.Tests

open Sys2Proof Sys2Proof.Machine

set_option Elab.async false

/-! ### The state the tests begin with: every domain on and the endpoint ready -/

/-- The part with every domain on, stage 8, 7 GiB of trained LPDDR5X and PERST_N high. -/
def upChip : Chip := { Chip.reset with
  power := { Chip.reset.power with on := List.replicate 12 true, stage := 8, perst := false, mainPg := true }
  dramCfg := 16 }

/-- A state with that part as changed, and LPDDR5X as given. -/
def upWith (f : Chip → Chip) (d : List Host.Cell := []) : State := { State.reset with chip := f upChip, dram := d }

/-- That state. -/
def up : State := upWith id

/-- A header in mailbox 0, TAG 7, LEN 48, without targeting flags. -/
def mb : CmdHdr := ⟨.mbox 0, 7, false, false, false, false, 48, 0⟩

/-- Registers given, in rising order of their offsets. -/
def regsOf (l : List (Nat × Nat)) (c : Chip) : Chip := l.foldl (fun c e => c.wr e.1 e.2) c

/-- Live registers given. -/
def livesOf (l : List (Nat × Nat)) (c : Chip) : Chip := l.foldl (fun c e => c.wrLive e.1 e.2) c

/-- Live records given: table, index and record. -/
def recsOf (l : List (Nat × Nat × Nat)) (c : Chip) : Chip := l.foldl (fun c e => c.setRec e.1 e.2.1 e.2.2) c

/-- The part that a next state holds, and the part it had where there is none. -/
def after (i : Instr) (s : State) : Chip := match exec i s with | .next t => t.chip | _ => s.chip

/-- LPDDR5X after a command. -/
def dramAfter (i : Instr) (s : State) : List Host.Cell := match exec i s with | .next t => t.dram | _ => s.dram

/-- Whether a command stops. -/
def stops (i : Instr) (s : State) : Bool := match exec i s with | .next _ => false | _ => true

/-! ### Well-formedness: an ill-formed term for each check -/

theorem test_wf_header : Instr.wf (.sysPing { mb with chan := .mbox 8 } 0) = false ∧
    Instr.wf (.sysPing { mb with chan := .ring 256, len := 47 } 0) = false ∧
    Instr.wf (.sysPing { mb with tag := 65536 } 0) = false ∧ Instr.wf (.sysPing { mb with target := 2 ^ 64 } 0) = false ∧
    Instr.wf (.sysPing { mb with len := 49 } 0) = false ∧ Instr.wf (.sysPing { mb with chan := .ring 255, len := 48 } 0) = false ∧
    Instr.wf (.sysPing mb (256 ^ 48)) = false ∧ Instr.wf (.sysPing mb (256 ^ 48 - 1)) = true ∧
    Instr.wf (.commandBad { mb with len := 65536 } 0 .unknownOpcode) = false ∧
    Instr.wf (.commandBad mb 65536 .unknownOpcode) = false := by decide +kernel

theorem test_wf_registers : Instr.wf (.registerWrite 2 (0, 15) []) = false ∧ Instr.wf (.registerWrite 0x2000000 (0, 15) []) = false ∧
    Instr.wf (.registerWrite 0 (0, 16) []) = false ∧ Instr.wf (.registerWrite 0x1FFFFFC (0, 15) []) = true ∧
    Instr.wf (.registerWrite 0x1FFFFFC (0, 15) [(0, 15)]) = false ∧ Instr.wf (.registerWrite 0 (0, 15) [(0, 16)]) = false ∧
    Instr.wf (.registerWrite 0 (0, 15) (List.replicate 128 (0, 15))) = false ∧
    Instr.wf (.txtsRelease 5 0) = false ∧ Instr.wf (.txtsStatusClear 5 0) = false ∧ Instr.wf (.lanenClr 8 0) = false ∧
    Instr.wf (.hbEpochWrite 0 16) = false ∧ Instr.wf (.evtLegacyPop 16) = false ∧ Instr.wf (.eccmEvtClear 2 0) = false ∧
    Instr.wf (.ckxStart 16 0) = false ∧ Instr.wf (.ckxDataWrite 16 false 0 15) = false ∧
    Instr.wf (.ckxDataWrite 0 false 0 16) = false ∧ Instr.wf (.ckxRunWrite 16 false 0) = false ∧
    Instr.wf (.ckxFinish 16 0) = false ∧ Instr.wf (.msixUnmask 256) = false ∧ Instr.wf (.checkRunFinish 16) = false := by
  decide +kernel

theorem test_wf_rings : Instr.wf (.ringEnable 256 0) = false ∧ Instr.wf (.ringProdWrite 256 0) = false ∧
    Instr.wf (.ringConsWrite 256 0) = false ∧ Instr.wf (.ringFlushHost 256 0) = false ∧ Instr.wf (.ringFlushDevice 256 0) = false ∧
    Instr.wf (.ringSlotWrite 0xFFFFFF [0, 0]) = false ∧ Instr.wf (.ringSlotWrite 0 []) = false ∧
    Instr.wf (.ringSlotWrite 0 (List.replicate 513 0)) = false ∧
    Instr.wf (.ringEntryTake 256) = false ∧ Instr.wf (.ringStall 256) = false ∧ Instr.wf (.mbmDoorbell 8 1) = false ∧
    Instr.wf (.tffAdvance 8 0) = false ∧ Instr.wf (.tffMark 8 1) = false ∧ Instr.wf (.tffRewind 8 1) = false ∧
    Instr.wf (.tffRelease 8 1) = false ∧ Instr.wf (.tffClose 8 1) = false ∧ Instr.wf (.tffFlush 8 1) = false ∧
    Instr.wf (.telemAgeClose 8) = false ∧ Instr.wf (.telemRecordProduce 0 (.whole [])) = false ∧ Instr.wf (.telemRecordProduce 4 .ends) = false ∧
    Instr.wf (.telemRecordProduce 1 (.begins [0])) = false ∧ Instr.wf (.txJobSend 256 none) = false ∧
    Instr.wf (.txJobSend 0 (some (List.replicate 9217 0))) = false := by decide +kernel

theorem test_wf_accesses : Instr.wf (.hostBar2Write 0 (List.replicate 513 0) 0) = false ∧ Instr.wf (.hostBar2Write 0 [] 65536) = false ∧
    Instr.wf (.hostBar2Read 0 4097) = false ∧ Instr.wf (.hostAtomicOp .swap (.bar0 0) 16 0 0) = false ∧
    Instr.wf (.peerAtomicOp 0 65536 false none) = false ∧ Instr.wf (.hostPeerTimeout 0 65536 false) = false ∧
    Instr.wf (.peerWriteForward 0 [] 65536) = false ∧ Instr.wf (.peerWriteFailureMsg 0 65536 0 1 0) = false ∧
    Instr.wf (.peerWriteFailureMsg 0 0 0 0 0) = false ∧ Instr.wf (.peerWriteFailureMsg 0 0 0 5 0) = false ∧
    Instr.wf (.forwardedAccessServe (28 * 2 ^ 30) .read 0) = false ∧ Instr.wf (.forwardedAccessServe 0 .read 4097) = false ∧
    Instr.wf (.forwardedAccessServe 0 (.atomic .swap 16 0 0) 4) = false := by
  and_intros <;> unfold Instr.wf <;> generalize Config.bar2Octets = b <;>
    simp only [Bool.and_eq_false_iff, decide_eq_false_iff_not, List.length_replicate] <;> omega

/-- BAR2 has at most 32 GiB (R256). -/
theorem bar2_at_most : Config.bar2Octets ≤ 0x800000000 := by
  have h : Config.bar2Octets ≤ 2 ^ 35 := Nat.pow_le_pow_right (by decide) (by have := Config.bar2Size.isLt; omega)
  exact h

/-- BAR2 has at least 256 MiB (R256). -/
theorem bar2_at_least : 0x10000000 ≤ Config.bar2Octets := by
  have h : 2 ^ 28 ≤ Config.bar2Octets := Nat.pow_le_pow_right (by decide) (by omega)
  exact h

/-- An access beyond the end of BAR2 reaches nothing. -/
theorem test_wf_bar2 : Instr.wf (.hostBar2Write 0x800000000 [0] 0) = false ∧ Instr.wf (.hostBar2Read 0x800000000 1) = false ∧
    Instr.wf (.hostAtomicOp .cas (.bar2 0x800000000) 32 0 0) = false ∧ Instr.wf (.peerAtomicOp 0x800000001 0 false none) = false ∧
    Instr.wf (.hostPeerTimeout 0x800000001 0 false) = false ∧ Instr.wf (.peerWriteForward 0x800000000 [0] 0) = false := by
  have h := bar2_at_most
  unfold Instr.wf
  generalize Config.bar2Octets = b at *
  simp only [List.length_singleton, Bool.and_eq_false_iff, decide_eq_false_iff_not]
  omega

theorem test_wf_events : Instr.wf (.copyForwardDone 0) = false ∧ Instr.wf (.copyForwardDone 16) = false ∧
    Instr.wf (.timeBaseStep 4 0) = false ∧ Instr.wf (.ptpMessageReceive 4 .management) = false ∧
    Instr.wf (.ptpMessageSend 4 .delayReq) = false ∧ Instr.wf (.tbSourceLost 4) = false ∧ Instr.wf (.bandWritten 16 0) = false ∧
    Instr.wf (.bandWritten 0 512) = false ∧ Instr.wf (.fixtureHandover 131072) = false ∧ Instr.wf (.universeDecide 49152) = false ∧
    Instr.wf (.packetStart 4) = false ∧ Instr.wf (.holdKeepalive 49152) = false ∧ Instr.wf (.taskWaitInstant 4096) = false ∧
    Instr.wf (.trigInEdge 4 true) = false ∧ Instr.wf (.trigFilterExpire 4) = false ∧ Instr.wf (.taskTimeout 4096) = false ∧
    Instr.wf (.e131DataReceive 4 ⟨1, 1, 100, 0, 0, false, false, 0, []⟩) = false ∧
    Instr.wf (.e131DataReceive 0 ⟨1, 1, 256, 0, 0, false, false, 0, []⟩) = false ∧
    Instr.wf (.e131DataReceive 0 ⟨1, 1, 100, 0, 0, false, false, 0, List.replicate 513 0⟩) = false ∧
    Instr.wf (.e131SyncReceive 4 0 0) = false ∧ Instr.wf (.inputSourceTimeout 16384 0) = false ∧
    Instr.wf (.inputSyncTimeout 16384 0) = false := by decide +kernel

theorem test_wf_ports : Instr.wf (.lpFrameStart (.dmx 16)) = false ∧ Instr.wf (.lpHold (.pix 32)) = false ∧
    Instr.wf (.lpHoldRepeat (.dmx 16)) = false ∧ Instr.wf (.rdmRequestStart 16) = false ∧
    Instr.wf (.rdmResponseReceive 16 96 []) = false ∧ Instr.wf (.rdmResponseReceive 0 96 (List.replicate 258 0)) = false ∧
    Instr.wf (.rdmResponseTimeout 16) = false ∧ Instr.wf (.rdmSensorPoll 1024) = false ∧ Instr.wf (.rdmAckTimerExpire 1024) = false ∧
    Instr.wf (.rdmRequestExpire 1024 0) = false ∧ Instr.wf (.hcPwmPeriod 16 []) = false ∧ Instr.wf (.hcDiagStarved 16) = false ∧
    Instr.wf (.hcNtcRefresh 16 0) = false ∧ Instr.wf (.netFrameReceive 5 []) = false ∧ Instr.wf (.pauseReceive 5 0) = false ∧
    Instr.wf (.pauseReceive 0 65536) = false ∧ Instr.wf (.pauseExpire 4) = false ∧ Instr.wf (.netPauseWatchdog 4) = false ∧
    Instr.wf (.netPauseRearm 4) = false ∧ Instr.wf (.netLinkChange 5 true false) = false ∧
    Instr.wf (.membershipReportRepeat 5) = false ∧ Instr.wf (.lldpSend 5) = false ∧ Instr.wf (.lpiEnter 4) = false ∧
    Instr.wf (.lpiWake 4) = false ∧ Instr.wf (.neighbourSolicitRetry 5) = false ∧
    Instr.wf (.videoPacketReceive 16 false ⟨2, 96, 0, 0, []⟩) = false ∧ Instr.wf (.streamMergeTimeout 16) = false ∧
    Instr.wf (.streamPathDown 16 false) = false := by decide +kernel

theorem test_wf_rest : Instr.wf (.straitLaneFail 3) = false ∧
    Instr.wf (.straitLinkFrameReceive (2 ^ 32) [] .keepalive) = false ∧
    Instr.wf (.straitLinkFrameReceive 0 (List.replicate 2073 0) .keepalive) = false ∧
    Instr.wf (.beaconReceive 4 ⟨0, 0, false, 0, 0, 0, 2, false, [], []⟩) = false ∧
    Instr.wf (.meterSample 8 (List.replicate 7 0)) = false ∧ Instr.wf (.meterSample 0 []) = false ∧
    Instr.wf (.meterModFault 8 0) = false ∧ Instr.wf (.meterModFault 0 7) = false ∧ Instr.wf (.meterPulseStart 8) = false ∧
    Instr.wf (.meterPulseEnd 8) = false ∧ Instr.wf (.dieSensorSample 8 0) = false ∧
    Instr.wf (.calUnitDone .straitLane 3 0 0 0) = false ∧ Instr.wf (.calUnitTimeout .houseTrim 16) = false ∧
    Instr.wf (.patrolBurst 2) = false ∧ Instr.wf (.updConfirmed 5) = false ∧ Instr.wf (.trialWindowExpire 5) = false ∧
    Instr.wf (.pwrDomainChange 12) = false ∧ Instr.wf (.jtagUpdateIr 256) = false := by decide +kernel

/-- Operands that name nothing stop the command. -/
theorem test_outside : stops (.lpFrameStart (.dmx 16)) up = true ∧ stops (.pwrDomainChange 12) up = true ∧
    stops (.meterSample 0 []) up = true ∧ stops (.lpFrameStart (.dmx 15)) up = false := by decide +kernel

/-! ### States that meet the hypotheses: the queue, memory and registers -/

theorem meets_EmptyQueueServesChannelsOrLetsOneCyclePass : State.reset.pending = [] ∧
    State.reset.chip.nextCommand.isNone = true ∧
    (let s := upWith fun c => c.setMbox 7 ⟨true, false, 0⟩
     s.pending = [] ∧ s.chip.nextCommand.isSome = true ∧ s.chip.served = true ∧ (s.chip.mbox 7).busy = true ∧
      s.chip.unanswered (.mbox 7) = false ∧ ∀ j, j < 7 → (s.chip.mbox j).busy = false) := by decide +kernel

theorem meets_StepsTakeTheFrontCommandAndNeverRefuse : ∃ t, step { up with pending := [.sealPoint] } = .next t := ⟨_, rfl⟩

theorem meets_WellFormedCommandsNeverStop :
    ({ up with pending := [.lpFrameStart (.pix 31)] } : State).pending = .lpFrameStart (.pix 31) :: [] ∧
    Instr.wf (.lpFrameStart (.pix 31)) = true := ⟨rfl, rfl⟩

theorem meets_StepKeepsMemoryCanonical : State.wf (upWith id [(5, 1)]) = true ∧
    ∃ t, step { upWith id [(5, 1)] with pending := [.sealPoint] } = .next t := ⟨by decide, ⟨_, rfl⟩⟩

theorem meets_OnlyStoringCommandsChangeMemory : storesNothing .sealPoint = true ∧ (∃ t, exec .sealPoint up = .next t) ∧
    (∃ t, exec (.hostBar2Write 0 [7] 0) up = .next t) ∧ 0 < up.chip.spaceOf 1 := by
  refine ⟨rfl, ⟨_, rfl⟩, ?_, ?_⟩
  · have h : decide (0 + [7].length ≤ Config.bar2Octets) = true := by
      have := bar2_at_least; simp only [List.length_singleton, decide_eq_true_eq]; omega
    unfold exec execHostBar2Write onBar2
    exact ⟨_, within_next.mpr ⟨h, rfl⟩⟩
  · show 0 < _ + 1; omega

/-- Whether a write of a register is taken, has no effect of its own, and its access code is the one given. -/
def plainRow (s : State) (off : Nat) (v : Word) (be : Nat) (k : Option Access) : Bool :=
  decide (off % 4 = 0) && decide (off < 0x2000000) && decide (0 < be) && decide (be < 16) && s.chip.takesWrite off &&
    (s.chip.ownEffect off v be).isNone && (rowAt off).map Row.access == k

/-- The part with one domain off. -/
def without (d : Nat) : Chip → Chip := fun c => { c with power := { c.power with on := c.power.on.set d false } }

theorem meets_RegisterWriteFollowsItsAccessCode : plainRow up 0 5 15 (some .ro) = true ∧
    plainRow up 0x300 5 1 (some .rw) = true ∧ plainRow up (Reg.TB_STEP_THR 3) 5 15 (some .rwb) = true ∧
    plainRow up (Reg.TB_EVT 3) 5 8 (some .w1c) = true ∧ plainRow up 0x0FC 5 15 none = true ∧
    (up.chip.ownEffect Reg.TB_SNAP 1 1).isSome = true := by decide +kernel

theorem meets_RegisterWriteFollowsItsAccessCode_gate :
    (State.reset.chip.ownEffect 0x300 5 15).isNone = true ∧ State.reset.chip.barReady 0x300 = false ∧
    (up.chip.ownEffect 0x1FFFC 5 15).isNone = true ∧
    (up.chip.ownEffect 0xFFC 5 15).isNone = true ∧ up.chip.barReady 0xFFC = true ∧ (blockAt 0xFFC).isNone = true ∧
    up.chip.power.warm = false ∧
    (let s := upWith fun c => { c with power := { c.power with warm := true } }
     (s.chip.ownEffect 0xCFFC 5 15).isNone = true ∧ s.chip.barReady 0xCFFC = true ∧ s.chip.power.warm = true ∧
      ¬ (0xD000 ≤ 0xCFFC ∧ 0xCFFC < 0xD100)) ∧
    (let s := upWith (without 11)
     (s.chip.ownEffect (Reg.DMX_TIMING 15) 5 15).isNone = true ∧ s.chip.barReady (Reg.DMX_TIMING 15) = true ∧
      ¬ (0x10000 ≤ Reg.DMX_TIMING 15 ∧ Reg.DMX_TIMING 15 < 0x20000) ∧ (blockAt (Reg.DMX_TIMING 15)).isSome = true ∧
      (blockAt (Reg.DMX_TIMING 15)).all (fun e => !s.chip.domainOn e.1.domain) = true) := by decide +kernel

/-- A pair of registers that one access writes in one cycle, two that it does not, and a pair of offsets that both fail. -/
theorem meets_RegisterWriteFollowsItsAccessCode_access :
    (pairsDown (Reg.PEER_MAC_LO 3 + 4) = true ∧ up.chip.dwordCause (Reg.PEER_MAC_LO 3) = none ∧
      (after (.registerWrite (Reg.PEER_MAC_LO 3) (64, 15) []) up).dwordCause (Reg.PEER_MAC_LO 3 + 4) = none) ∧
    (pairsDown 0x304 = false ∧ up.chip.dwordCause 0x300 = none ∧ up.chip.barReady 0x300 = true ∧
      ((after (.registerWrite 0x300 (5, 15) []) up).runToCycle 1).dwordCause 0x304 = none) ∧
    (up.chip.dwordCause 0xFF8 = some 4 ∧ pairsDown 0xFFC = false ∧ (up.chip.runToCycle 1).dwordCause 0xFFC = some 4) := by
  decide +kernel

/-- Port 4 held by PAUSE since cycle 5. -/
def held4 : Chip → Chip := fun c => c.setPort 4 { c.port 4 with pauseEnd := some 9, heldAt := 5 }

theorem meets_ClearsResetTheirCounters : (1 : Word).getLsbD 0 = true ∧ (0 : Word).getLsbD 0 = false ∧ up.chip.takesWrite (Reg.LANE_CLR 7) = true ∧
    up.chip.takesWrite Reg.MAP_CLR = true ∧ up.chip.takesWrite Reg.MODEL_CLR = true ∧ up.chip.takesWrite Reg.SCHED_CLR = true ∧
    up.chip.takesWrite Reg.EVT_CLR = true ∧ up.chip.takesWrite Reg.NET_CNT_CLR = true ∧
    (16 : Word).getLsbD 4 = true ∧ (up.chip.port 4).pauseEnd = none ∧ (upWith held4).chip.takesWrite Reg.NET_CNT_CLR = true ∧
    ((upWith held4).chip.port 4).pauseEnd ≠ none ∧ up.chip.takesWrite (Reg.ECC_EVT 1) = true ∧
    up.chip.takesWrite Reg.HB_EVT = true ∧ up.chip.takesWrite (Reg.TXTS_STATUS 4) = true := by decide +kernel

theorem meets_SnapshotsLatchTheirSources : (1 : Word).getLsbD 0 = true ∧ up.chip.takesWrite Reg.TB_SNAP = true ∧
    up.chip.takesWrite Reg.MTR_HOST_SNAP = true ∧
    up.chip.takesWrite (Reg.TXTS_RELEASE 4) = true ∧ up.chip.takesWrite Reg.NET_CNT_SNAP = true ∧
    (up.chip.port 4).pauseEnd = none ∧ (upWith held4).chip.takesWrite Reg.NET_CNT_SNAP = true ∧
    ((upWith held4).chip.port 4).pauseEnd ≠ none ∧ up.chip.takesWrite Reg.HB_EPOCH = true := by decide +kernel

/-! ### Rings, mailboxes and telemetry -/

/-- An event ring 0 of 16 slots and a command ring 255 of 16 slots that answers on it, at window offset 0x400. -/
def rings : Chip → Chip := regsOf [(Reg.RING_CFG 0, 0x43), (Reg.RING_CFG 255, 0x41), (Reg.RING_BASE_LO 255, 0x400)]

/-- The same with ring 255 one entry full: its entry has GEN 1, as the first pass of a ring wants it. -/
def ringsFull (e : Nat) : Chip → Chip := fun c =>
  { (rings c).setRing 255 { Ring.reset with active := true, prod := 1 } with ringMem := [(16, e)] }

/-- RINGr_CFG written to a disabled ring. -/
def cfgWritten (c : Chip) (r v : Nat) : Chip :=
  let b := c.wr (Reg.RING_CFG r) (clampReg c (Reg.RING_CFG r) v)
  if b.inWindow r then b.wr (Reg.RING_BASE_HI r) 0 else b

theorem meets_RingRegistersMoveAsWritten_enable :
    up.chip.takesWrite (Reg.RING_CFG 255) = true ∧ up.chip.ringOn 255 = false ∧ (0x43 : Word).getLsbD 0 = true ∧
    (cfgWritten up.chip 255 0x43).ringFaults 255 = [] ∧ (cfgWritten up.chip 255 0x41).ringFaults 255 ≠ [] ∧
    (upWith rings).chip.takesWrite (Reg.RING_CFG 255) = true ∧ (upWith rings).chip.ringOn 255 = true := by decide +kernel

theorem meets_RingRegistersMoveAsWritten_host : (upWith rings).chip.takesWrite (Reg.RING_PROD 255) = true ∧
    (upWith rings).chip.hostProduces 255 = true ∧ backward ((upWith rings).chip.ring 255).prod 0xFFFF = false ∧
    backward ((upWith rings).chip.ring 255).prod (2 ^ 32 - 1) = true ∧ (upWith rings).chip.takesWrite (Reg.RING_FLUSH 255) = true ∧
    (upWith rings).chip.hostProduces 0 = false ∧ (upWith rings).chip.takesWrite (Reg.RING_PROD 0) = true := by decide +kernel

theorem meets_RingRegistersMoveAsWritten_device :
    let s := upWith fun c => (rings c).setRing 0 { Ring.reset with active := true, prod := 3 }
    s.chip.takesWrite (Reg.RING_CONS 0) = true ∧ s.chip.hostProduces 0 = false ∧ backward (s.chip.ring 0).cons 2 = false ∧
    (2 + 2 ^ 32 - (s.chip.ring 0).cons) % 2 ^ 32 ≤ (s.chip.ring 0).unread ∧ 2 ≠ (s.chip.ring 0).cons ∧
    s.chip.takesWrite (Reg.RING_FLUSH 0) = true := by decide +kernel

theorem meets_RingEntriesAreWrittenTakenAndPopped_slots : up.chip.slotRing 0x3FFFF = none ∧
    up.chip.takesWrite (0x1000000 + (0x3FFFF * 64 + 63)) = true ∧ up.chip.eccLagoon.flips = [] ∧
    (let c := (upWith (ringsFull (2 ^ 511 + 0x0102))).chip
     c.takesWrite (0x1000000 + (16 * 64 + 60)) = true ∧ c.slotRing 16 = some (255, 0) ∧ c.slotHeld 255 0 16 = true ∧
      c.slotRing 31 = some (255, 15) ∧ c.slotHeld 255 15 31 = false ∧ (c.ring 255).fences.contains 15 = false ∧
      (let d := c.setRing 255 { c.ring 255 with fences := [15] }
       d.takesWrite (0x1000000 + (31 * 64 + 0)) = true ∧ d.slotHeld 255 15 31 = false ∧
        (d.ring 255).fences.contains 15 = true)) := by decide +kernel

/-- The ring of `ringsFull` as one of transmit jobs. -/
def jobsFull (e : Nat) : Chip → Chip := fun c => (ringsFull e c).wr (Reg.RING_CFG 255) 0x45

theorem meets_RingEntriesAreWrittenTakenAndPopped_entries :
    (let c := (upWith (ringsFull (2 ^ 511 + 0x0102))).chip
     c.hostProduces 255 = true ∧ (c.frontEntry 255 (c.ringType 255)).isSome = true ∧ (c.ring 255).taken = false ∧
      c.ringType 255 = 0 ∧ c.takesFrom (.ring 255) = true ∧
      (let d := c.setMbox 7 ⟨true, false, 0⟩
       d.ringType 255 = 0 ∧ d.takesFrom (.ring 255) = false)) ∧
    (let c := (upWith (jobsFull (2 ^ 511))).chip
     c.hostProduces 255 = true ∧ (c.frontEntry 255 (c.ringType 255)).isSome = true ∧ (c.ring 255).taken = false ∧
      c.ringType 255 = 2) ∧
    (let c := (upWith (ringsFull 0x0102)).chip
     c.hostProduces 255 = true ∧ c.ringOn 255 = true ∧ 0 < (c.ring 255).unread ∧ (c.ring 255).taken = false ∧
      (c.ring 255).stalled = false ∧ c.frontEntry 255 (c.ringType 255) = none) := by decide +kernel

theorem meets_RingEntriesAreWrittenTakenAndPopped_legacy :
    (upWith rings).chip.barReady 0xF000 = true ∧ (upWith rings).chip.power.warm = false ∧
    (upWith fun c => { c with power := { c.power with warm := true } }).chip.power.warm = true ∧
    bits ((upWith rings).chip.rd Reg.EVT_LEGACY_CFG) 0 8 = 0 ∧
    ((upWith rings).chip.ring 0).unread = 0 ∧
    (let s := upWith fun c => ((rings c).wr Reg.EVT_LEGACY_CFG 0x100).setRing 0 { Ring.reset with active := true, prod := 1 }
     State.reset.chip.barReady 0xF000 = false ∧
     s.chip.barReady 0xF000 = true ∧ bits (s.chip.rd Reg.EVT_LEGACY_CFG) 0 8 = 0 ∧ bit (s.chip.rd Reg.EVT_LEGACY_CFG) 8 = true ∧
     s.chip.isEventRing 0 = true ∧ s.chip.inWindow 0 = true ∧ s.chip.domainOn 3 = true ∧ 0 < (s.chip.ring 0).unread) := by
  decide +kernel

theorem meets_RingNeverHoldsMoreThanItsSize : ((upWith rings).chip.ring 255).cons < 2 ^ 32 ∧
    ((upWith rings).chip.ring 255).prod < 2 ^ 32 ∧ (upWith rings).chip.takesWrite (Reg.RING_PROD 255) = true ∧
    (upWith rings).chip.takesWrite (Reg.RING_CONS 255) = true ∧ (upWith rings).chip.takesWrite (Reg.RING_FLUSH 255) = true ∧
    ∃ t, exec (.ringProdWrite 255 5) (upWith rings) = .next t := by
  refine ⟨by decide +kernel, by decide +kernel, by decide +kernel, by decide +kernel, by decide +kernel, ⟨_, rfl⟩⟩

theorem meets_MailboxesAndVectorsAct : up.chip.takesWrite (Reg.MB_DOORBELL 7) = true ∧ (up.chip.mbox 7).busy = false ∧
    ((upChip.setMbox 7 ⟨true, false, 0⟩).mbox 7).busy = true ∧ (upWith (·.setMbox 7 ⟨true, false, 0⟩)).chip.takesWrite (Reg.MB_DOORBELL 7) = true ∧
    up.chip.takesWrite (Reg.MSIX_CTRL 255) = true ∧ 255 ∉ up.chip.msixPend ∧
    (let c := (upWith fun c => (rings c).setRing 255 { Ring.reset with active := true, prod := 1, taken := true }).chip
     c.ringType 255 = 0 ∧ (c.ring 255).taken = true ∧ 0 < (c.ring 255).unread ∧ (c.ring 255).cut = false) ∧
    255 ∈ (upWith fun c => { c with msixPend := [255] }).chip.msixPend ∧
    (upWith fun c => { c with msixPend := [255] }).chip.takesWrite (Reg.MSIX_CTRL 255) = true := by decide +kernel

/-- FIFO 7 with 8 octets filling. -/
def filling7 : Chip → Chip := fun c => c.setFifo 7 { Fifo.reset with filling := [8, 0, 1, 0, 1, 0, 0, 0] }

/-- FIFO 2 of producer 3, with a record begun. -/
def begun2 : Chip → Chip := fun c =>
  (c.wrLive (Reg.TF_CFG 7) 3).setFifo 2 { Fifo.reset with begun := some [8, 0, 3, 0, 1, 0, 0, 0] }

theorem meets_TelemetryConsumerWritesAct : up.chip.takesWrite (Reg.TF_ADVANCE 7) = true ∧ up.chip.takesWrite (Reg.TF_MARK 7) = true ∧
    up.chip.takesWrite (Reg.TF_REWIND 7) = true ∧ up.chip.takesWrite (Reg.TF_RELEASE 7) = true ∧
    (up.chip.fifo 7).rd = (up.chip.fifo 7).draining.length ∧ (up.chip.fifo 7).filling = [] ∧
    (let s := upWith (·.setFifo 7 { Fifo.reset with draining := [8, 0, 1, 0, 1, 0, 0, 0] })
     s.chip.takesWrite (Reg.TF_RELEASE 7) = true ∧ (s.chip.fifo 7).rd < (s.chip.fifo 7).draining.length) ∧
    (upWith filling7).chip.takesWrite (Reg.TF_CLOSE 7) = true ∧ ((upWith filling7).chip.fifo 7).filling ≠ [] ∧
    ((upWith filling7).chip.fifo 7).draining = [] ∧ up.chip.takesWrite (Reg.TF_FLUSH 7) = true ∧
    (up.chip.fifo 7).begun = none ∧ ((upWith begun2).chip.fifo 2).begun ≠ none ∧
    (upWith begun2).chip.takesWrite (Reg.TF_FLUSH 2) = true := by decide +kernel

/-- FIFO 2 with its filling bank as long as given, its draining bank empty or not, and its sink in use or not. -/
def full2 (n : Nat) (drains sinks : Bool) : Chip → Chip := fun c => (begun2 c).setFifo 2 { Fifo.reset with
  filling := List.replicate n 0, draining := if drains then [8, 0, 3, 0, 1, 0, 0, 0] else [], sinking := sinks }

/-- Whether producer 3's record of a body of zeros of the length given meets the statement's common premises, and fits. -/
def fits3 (s : State) (n : Nat) : Bool :=
  s.chip.domainOn 2 && s.chip.domainOn 3 && s.chip.fifoOf 3 == some 2 && decide (n ≤ 16376) &&
    decide ((s.chip.fifo 2).filling.length + (((s.chip.fifo 2).begun.getD []).length +
      (telemRecord 3 1 (List.replicate n 0)).length) ≤ 16384)

theorem meets_TelemetryRecordsFillBanks : up.chip.fifoOf 4 = none ∧
    (upWith fun c => c.wrLive (Reg.TF_CFG 2) 0).chip.fifoOf 3 = none ∧
    fits3 (upWith (full2 8 true false)) 16368 = true ∧ fits3 (upWith (full2 16 true false)) 16368 = false ∧
    fits3 (upWith (full2 16 false false)) 16368 = false ∧ ((upWith begun2).chip.fifo 2).begun.isSome = true ∧
    ((upWith (full2 0 false true)).chip.fifo 2).sinking = true ∧ (upWith (full2 0 false true)).chip.fifoOf 3 = some 2 := by
  decide +kernel

theorem meets_TelemetryRecordsFillBanks_bound :
    (∀ f, (up.chip.fifo f).filling.length + ((up.chip.fifo f).begun.getD []).length ≤ 16384 ∧
      (up.chip.fifo f).draining.length ≤ 16384) ∧ stops (.telemRecordProduce 3 .ends) up = false ∧
    ((upWith filling7).chip.fifo 7).filling ≠ [] ∧ (up.chip.fifo 7).filling = [] :=
  ⟨fun _ => ⟨Nat.zero_le _, Nat.zero_le _⟩, by decide +kernel⟩

/-! ### BAR2 -/

theorem space_low (off : Nat) : up.chip.spaceOf off = off := by
  have h : (bits (up.chip.rd Reg.HB_WIN_BASE_LO) 28 4 * 2 ^ 28 + bits (up.chip.rd Reg.HB_WIN_BASE_HI) 0 3 * 2 ^ 32) = 0 := by
    decide +kernel
  show (bits (up.chip.rd Reg.HB_WIN_BASE_LO) 28 4 * 2 ^ 28 + bits (up.chip.rd Reg.HB_WIN_BASE_HI) 0 3 * 2 ^ 32) / Config.bar2Octets *
    Config.bar2Octets + off = off
  rw [h, Nat.zero_div, Nat.zero_mul, Nat.zero_add]

/-- The window at 28 GiB, with the link up or down. -/
def highWith (f : Chip → Chip) : State := upWith fun c => f (c.wr Reg.HB_WIN_BASE_HI 7)

/-- The offset at which that window begins to show the peer aperture. -/
def highOff : Nat := aperture % Config.bar2Octets

theorem space_high (f : Chip → Chip) (h : (f (upChip.wr Reg.HB_WIN_BASE_HI 7)).regs = (upChip.wr Reg.HB_WIN_BASE_HI 7).regs) :
    (highWith f).chip.spaceOf highOff = aperture := by
  have e : ∀ off, (highWith f).chip.rd off = (upChip.wr Reg.HB_WIN_BASE_HI 7).rd off := fun off => by
    show (Store.get regReset (f (upChip.wr Reg.HB_WIN_BASE_HI 7)).regs off).toNat = _
    rw [h]; rfl
  have k : (bits ((upChip.wr Reg.HB_WIN_BASE_HI 7).rd Reg.HB_WIN_BASE_LO) 28 4 * 2 ^ 28 +
      bits ((upChip.wr Reg.HB_WIN_BASE_HI 7).rd Reg.HB_WIN_BASE_HI) 0 3 * 2 ^ 32) = aperture := by decide +kernel
  show (bits ((highWith f).chip.rd Reg.HB_WIN_BASE_LO) 28 4 * 2 ^ 28 + bits ((highWith f).chip.rd Reg.HB_WIN_BASE_HI) 0 3 * 2 ^ 32) /
    Config.bar2Octets * Config.bar2Octets + highOff = aperture
  rw [e, e, k, highOff, Nat.div_add_mod']

theorem high_in : highOff + 1 ≤ Config.bar2Octets := by
  have h := bar2_at_least
  exact Nat.mod_lt _ (by omega)

/-- The window put where it shows the last stream record's staging area. -/
def stagedAt : Nat := upChip.stagingAddr 15 15

/-- That window, with an accepted commit that locks the record. -/
def lockedStaging : State := upWith fun c => { c.wr Reg.HB_WIN_BASE_LO (stagedAt / 2 ^ 28 % 16 * 2 ^ 28) with
  regs := ((c.wr Reg.HB_WIN_BASE_LO (stagedAt / 2 ^ 28 % 16 * 2 ^ 28)).wr Reg.HB_WIN_BASE_HI (stagedAt / 2 ^ 32)).regs
  commits := [⟨some (.mbox 0), 0, 0x030F, 1, [.recs 15 [(15, 0)] false], none⟩] }

/-- The offset at which that window shows it. -/
def stagedOff : Nat := stagedAt % Config.bar2Octets

theorem space_staged : lockedStaging.chip.spaceOf stagedOff = stagedAt := by
  have k : (bits (lockedStaging.chip.rd Reg.HB_WIN_BASE_LO) 28 4 * 2 ^ 28 +
      bits (lockedStaging.chip.rd Reg.HB_WIN_BASE_HI) 0 3 * 2 ^ 32) = stagedAt / 2 ^ 28 * 2 ^ 28 := by decide +kernel
  show (bits (lockedStaging.chip.rd Reg.HB_WIN_BASE_LO) 28 4 * 2 ^ 28 + bits (lockedStaging.chip.rd Reg.HB_WIN_BASE_HI) 0 3 * 2 ^ 32) /
    Config.bar2Octets * Config.bar2Octets + stagedOff = stagedAt
  have e : Config.bar2Octets = 2 ^ 28 * 2 ^ Config.bar2Size.toNat := by rw [← Nat.pow_add]; rfl
  rw [k, stagedOff, e, Nat.mul_comm (stagedAt / 2 ^ 28), Nat.mul_div_mul_left _ _ (by decide), Nat.div_div_eq_div_mul,
    Nat.div_add_mod']

theorem staged_in : stagedOff + 1 ≤ Config.bar2Octets := by
  have h := bar2_at_least
  exact Nat.mod_lt _ (by omega)

theorem meets_HostAccessesOfDramAreServed : 16 + ([7] : List Byte).length ≤ Config.bar2Octets ∧ up.chip.bar2Ready = true ∧
    up.chip.spaceOf 16 + ([7] : List Byte).length ≤ aperture ∧ up.chip.domainOn 4 = true ∧ up.chip.eccDram.flips = [] ∧
    (∀ i, i < ([7] : List Byte).length → up.chip.mapsTo (up.chip.spaceOf 16 + i) = true ∧ up.chip.lockAt (up.chip.spaceOf 16 + i) = none) ∧
    up.chip.readable (up.chip.spaceOf 16) 1 = true := by
  rw [space_low]
  have := bar2_at_least
  refine ⟨by simp only [List.length_singleton]; omega, ?_⟩
  decide +kernel

/-- LPDDR5X off, or on and not trained. -/
def dramOff : State := upWith fun c => { c with power := { c.power with on := c.power.on.set 4 false } }
def untrained : State := upWith fun c => { c with dramCfg := 0 }

theorem space_dramOff (off : Nat) : dramOff.chip.spaceOf off = off := space_low off
theorem space_untrained (off : Nat) : untrained.chip.spaceOf off = off := space_low off

theorem meets_HostAccessesOfDramAreServed_failing : 16 + ([7] : List Byte).length ≤ Config.bar2Octets ∧
    (dramOff.chip.bar2Ready = true ∧ dramOff.chip.spaceOf 16 < aperture ∧ dramOff.chip.domainOn 4 = false) ∧
    (untrained.chip.bar2Ready = true ∧ untrained.chip.spaceOf 16 < aperture ∧ untrained.chip.domainOn 4 = true ∧
      (∀ i, i < ([7] : List Byte).length → untrained.chip.mapsTo (untrained.chip.spaceOf 16 + i) = false) ∧
      untrained.chip.readable (untrained.chip.spaceOf 16) 1 = false) := by
  rw [space_dramOff, space_untrained]
  have := bar2_at_least
  refine ⟨by simp only [List.length_singleton]; omega, ?_⟩
  decide +kernel

theorem meets_HostAccessesOfDramAreServed_locked : stagedOff + ([7] : List Byte).length ≤ Config.bar2Octets ∧
    lockedStaging.chip.bar2Ready = true ∧ lockedStaging.chip.spaceOf stagedOff + ([7] : List Byte).length ≤ aperture ∧
    lockedStaging.chip.domainOn 4 = true ∧
    (∀ i, i < ([7] : List Byte).length → lockedStaging.chip.mapsTo (lockedStaging.chip.spaceOf stagedOff + i) = true ∧
      lockedStaging.chip.lockAt (lockedStaging.chip.spaceOf stagedOff + i) ≠ none) ∧
    lockedStaging.chip.lockAt (lockedStaging.chip.spaceOf stagedOff) = some (15, 15) ∧
    State.reset.chip.bar2Ready = false := by
  rw [space_staged]
  exact ⟨staged_in, by decide +kernel⟩

theorem meets_AtomicOpsReadModifyWrite_rest : 60 + 16 ≤ Config.bar2Octets ∧ up.chip.spaceOf 60 < aperture ∧
    up.chip.spaceOf 60 % (128 / 8) ≠ 0 ∧ AtomicOp.fetchAdd ≠ .cas ∧
    untrained.chip.bar2Ready = true ∧ untrained.chip.spaceOf 64 % 8 = 0 ∧ untrained.chip.readable (untrained.chip.spaceOf 64) 8 = false ∧
    0x2000000 - 4 + 32 / 8 ≤ 0x2000000 ∧ up.chip.domainOn 2 = true ∧ up.chip.power.perst = false := by
  rw [space_low, space_untrained]
  have := bar2_at_least
  refine ⟨by omega, ?_⟩
  decide +kernel

theorem meets_AtomicOpsReadModifyWrite : 64 + 128 / 8 ≤ Config.bar2Octets ∧ up.chip.bar2Ready = true ∧ up.chip.spaceOf 64 < aperture ∧
    up.chip.spaceOf 64 % (128 / 8) = 0 ∧ up.chip.readable (up.chip.spaceOf 64) (128 / 8) = true ∧
    up.chip.lockAt (up.chip.spaceOf 64) = none ∧ up.chip.eccDram.flips = [] ∧ AtomicOp.swap ≠ .cas := by
  rw [space_low]
  have := bar2_at_least
  refine ⟨by omega, ?_⟩
  decide +kernel

theorem high_in_word : highOff + 32 / 8 ≤ Config.bar2Octets := by
  have e : Config.bar2Octets = 2 ^ 28 * 2 ^ Config.bar2Size.toNat := by rw [← Nat.pow_add]; rfl
  have h : 112 % 2 ^ Config.bar2Size.toNat < 2 ^ Config.bar2Size.toNat := Nat.mod_lt _ (Nat.two_pow_pos _)
  rw [highOff, e, show aperture = 2 ^ 28 * 112 from rfl, Nat.mul_mod_mul_left]
  omega

theorem meets_AtomicOpsReadModifyWrite_aperture : highOff + 32 / 8 ≤ Config.bar2Octets ∧
    ((highWith id).chip.bar2Ready = true ∧ aperture ≤ (highWith id).chip.spaceOf highOff ∧ (highWith id).chip.peerUp = false) ∧
    (let s := highWith fun c => c.setPair { c.pair with linkUp := true }
     s.chip.bar2Ready = true ∧ aperture ≤ s.chip.spaceOf highOff ∧ s.chip.peerUp = true) :=
  ⟨high_in_word, ⟨by decide +kernel, (space_high id rfl).ge, by decide +kernel⟩,
    ⟨by decide +kernel, (space_high _ rfl).ge, by decide +kernel⟩⟩

theorem meets_PeerAccessesAreServed : highOff + ([7] : List Byte).length ≤ Config.bar2Octets ∧
    (highWith id).chip.bar2Ready = true ∧ aperture ≤ (highWith id).chip.spaceOf highOff ∧ (highWith id).chip.peerUp = false ∧
    (let s := highWith fun c => c.setPair { c.pair with linkUp := true }
     s.chip.bar2Ready = true ∧ aperture ≤ s.chip.spaceOf highOff ∧ s.chip.peerUp = true) ∧
    (let s := upWith fun c => c.setPair { c.pair with linkUp := true }
     s.chip.domainOn 2 = true ∧ 0 < aperture ∧ s.chip.peerUp = true ∧ s.chip.readable 0 64 = true ∧
      s.chip.readable (aperture - 1) 1 = false ∧ s.chip.domainOn 4 = true ∧ s.chip.mapsTo 0 = true ∧ s.chip.lockAt 0 = none) ∧
    (let s := upWith fun c => without 4 (c.setPair { c.pair with linkUp := true })
     s.chip.peerUp = true ∧ s.chip.domainOn 4 = false) ∧ State.reset.chip.domainOn 2 = false := by
  refine ⟨high_in, by decide +kernel, (space_high id rfl).ge, by decide +kernel, ⟨by decide +kernel, (space_high _ rfl).ge,
    by decide +kernel⟩, by decide +kernel⟩

theorem meets_FailuresAndErrorsAreCountedAndLatched : bit (upChip.rd Reg.HB_WFAIL_ADDR_HI) 31 = false ∧
    bit ((upChip.wr Reg.HB_WFAIL_ADDR_HI (2 ^ 31)).rd Reg.HB_WFAIL_ADDR_HI) 31 = true ∧
    (let c := upChip.setEcc 1 { Ecc.reset with flips := [(8, 1), (16, 3), (lagoonRings, 3)] }
     (c.ecc 1).at 8 ≠ 0 ∧ doubleBit ((c.ecc 1).at 8) = false ∧ (c.ecc 1).at 16 ≠ 0 ∧ doubleBit ((c.ecc 1).at 16) = true ∧
      16 < lagoonRings ∧ (c.ecc 1).at lagoonRings ≠ 0 ∧ doubleBit ((c.ecc 1).at lagoonRings) = true) := by decide +kernel

/-! ### Check units -/

/-- A check run of 64 octets from address 0 under way on context 15. -/
def running15 : Chip → Chip := fun c => c.setCheck 15 { CheckUnit.reset with busy := some (some (.mbox 0), 7, 0, 0, 64) }

theorem meets_CheckUnitsFollowTheirAlgorithm : (up.chip.check 15).busy = none ∧ up.chip.takesWrite (Reg.CK_CTRL 15) = true ∧
    up.chip.takesWrite (Reg.CK_DATA 15 1) = true ∧ up.chip.takesWrite (Reg.CK_DATA 15 0) = true ∧
    up.chip.takesWrite (Reg.CK_RUN_LO 15) = true ∧ up.chip.takesWrite (Reg.CK_RUN_HI 15) = true ∧
    (1 : Word).getLsbD 1 = false ∧ (2 : Word).getLsbD 1 = true ∧ bit (up.chip.rd (Reg.CK_CFG 15)) 4 = false ∧
    (let c := (upWith (regsOf [(Reg.CK_CFG 15, 0x30)])).chip
     bit (c.rd (Reg.CK_CFG 15)) 4 = true ∧ bit (c.rd (Reg.CK_CFG 15)) 5 = true ∧ (c.check 15).busy = none ∧
      c.takesWrite (Reg.CK_CTRL 15) = true ∧
      (algMask (c.algOf 15) ((c.check 15).run ^^^ algFinal (c.algOf 15)) ==
        algMask (c.algOf 15) (c.rd (Reg.CK_EXPECT_LO 15) + c.rd (Reg.CK_EXPECT_HI 15) * 2 ^ 32)) = false) ∧
    (let c := (upWith (regsOf [(Reg.CK_CFG 15, 0x10), (Reg.CK_EXPECT_LO 15, 0xFFFFFFFF)])).chip
     bit (c.rd (Reg.CK_CFG 15)) 4 = true ∧ bit (c.rd (Reg.CK_CFG 15)) 5 = false ∧
      (algMask (c.algOf 15) ((c.check 15).run ^^^ algFinal (c.algOf 15)) ==
        algMask (c.algOf 15) (c.rd (Reg.CK_EXPECT_LO 15) + c.rd (Reg.CK_EXPECT_HI 15) * 2 ^ 32)) = true) ∧
    ((upWith running15).chip.check 15).busy ≠ none ∧ (upWith running15).chip.takesWrite (Reg.CK_CTRL 15) = true ∧
    (upWith running15).chip.takesWrite (Reg.CK_DATA 15 1) = true ∧ (upWith running15).chip.takesWrite (Reg.CK_RUN_LO 15) = true ∧
    (upWith running15).chip.takesWrite (Reg.CK_RUN_HI 15) = true := by decide +kernel

theorem meets_CheckRunsReadTheirRange : up.chip.takes mb false = true ∧ pl (payloadOf mb 15) 0 0 4 = 15 ∧
    (up.chip.check 15).busy = none ∧
    (let s := upWith fun c => c.setCheck 15 { CheckUnit.reset with busy := some (some (.mbox 1), 7, 0, 0, 64) }
     s.chip.takes mb false = true ∧ (s.chip.check 15).busy ≠ none) ∧
    ((upWith running15).chip.check 15).busy = some (some (.mbox 0), 7, 0, 0, 64) ∧
    (∀ i, i < 64 → (upWith running15).chip.mapsTo (0 + i) = true) ∧ (upWith running15).chip.eccDram.flips = [] ∧
    bit ((upWith running15).chip.rd (Reg.CK_CFG 15)) 4 = false := by decide +kernel


/-! ### Commands of firmware -/

theorem meets_QueriesAnswerWithTheirValues : up.chip.takes mb false = true ∧ up.chip.takes mb true = true ∧
    pl (payloadOf mb 0) 0 0 1 = 0 ∧ pl (payloadOf mb 1) 0 0 1 = 1 ∧ up.chip.takes { mb with chan := .ring 255, len := 47 } false = true ∧
    (let x := (upWith fun c => c.setType 4 { c.imageType 4 with slot1 := (c.imageType 4).slot0 }).chip.imageType
        (min 4 (pl (payloadOf mb 7) 0 0 3))
     x.onTrial = false ∧ x.slot0.valid = true ∧ x.slot1.valid = true) := by decide +kernel

/-- A part in which the inactive slots hold what the active ones hold. -/
def twoSlots : Chip → Chip := fun c =>
  c.setType 4 { c.imageType 4 with slot1 := (c.imageType 4).slot0, verified := true }

theorem meets_ImmediateCommandsTakeEffectAndAnswer : up.chip.takes mb false = true ∧ bit (payloadOf mb 3) 0 = true ∧
    bit (payloadOf mb 3) 1 = true ∧ bit (payloadOf mb 4) 0 = false ∧ bit (payloadOf mb 4) 1 = false ∧
    up.chip.storeValues (pl (payloadOf mb 1) 0 0 1) = some [] ∧
    (upWith fun c => { c with update := { c.update with unreadable := [1] } }).chip.storeValues (pl (payloadOf mb 1) 0 0 1) = none ∧
    (upWith twoSlots).chip.verifyStatus (min 4 (pl (payloadOf mb 7) 0 0 3)) = 0 ∧
    up.chip.sourceTb (pl (payloadOf mb 3) 0 0 2) = 0 ∧
    (upWith (livesOf [(Reg.TB_CFG 2, 4)])).chip.sourceTb (pl (payloadOf mb 2) 0 0 2) = 4 ∧
    (upWith (livesOf [(Reg.TB_CFG 3, 1)])).chip.sourceTb (pl (payloadOf mb 3) 0 0 2) = 1 := by decide +kernel

theorem meets_WaitingAndBadCommandsAreKeptAndAnswered :
    (let c := (upWith fun c => c.setMbox 0 ⟨true, false, 0⟩).chip
     c.takesFrom (.mbox 7) = false ∧ listedOpcode 0x0B07 = true ∧ c.barReady (Reg.MB_DOORBELL 7) = true ∧
      c.power.warm = false ∧ (c.mbox 7).busy = false ∧ c.unanswered (.mbox 7) = false) ∧
    up.chip.takesFrom (.mbox 0) = true ∧ up.chip.takesFrom (.ring 255) = true ∧ 48 < ({ mb with len := 65535 } : CmdHdr).len ∧
    mb.len ≤ 48 ∧ listedOpcode 0xFFFF = false ∧ ({ mb with chan := .ring 255, len := 47 } : CmdHdr).len ≤ 47 ∧
    longOpcode 0x0B06 = true ∧ listedOpcode 0x0B06 = true ∧ longOpcode 0x0B07 = false := by decide +kernel

/-- The payload that names two bits of the last word of the 7 GiB that inline ECC leaves. -/
def lastWord : Nat := payloadOf mb (2 + (up.chip.usable - 8) * 2 ^ 64)

/-- Epochs 0 to 6 revoked. -/
def epoch7 : Chip → Chip := fun c => { c with power := { c.power with revoked := List.replicate 7 true ++ [false] } }

theorem meets_DiagnosticsActOnWhatTheyName : up.chip.takes mb false = true ∧
    pl lastWord 0 0 1 = 0 ∧ bit lastWord 1 = true ∧ pl lastWord 8 0 64 / 8 * 8 < up.chip.usable ∧
    up.chip.eccDram.at (pl lastWord 8 0 64 / 8 * 8) = 0 ∧ lagoonRings - 8 < up.chip.memSize 1 ∧
    pl (payloadOf mb (1 + (lagoonRings - 8) * 2 ^ 64)) 0 0 1 = 1 ∧
    pl (payloadOf mb (1 + (lagoonRings - 8) * 2 ^ 64)) 8 0 64 / 8 * 8 = lagoonRings - 8 ∧ (up.chip.ecc 1).at (lagoonRings - 8) = 0 ∧
    bit (payloadOf mb 0) 1 = false ∧ pl (payloadOf mb 0) 8 0 64 / 8 * 8 < up.chip.usable ∧
    (upWith epoch7).chip.power.epoch ≠ some (pl (payloadOf mb 6) 0 0 3) ∧
    (upWith epoch7).chip.power.epoch = some (pl (payloadOf mb 7) 0 0 3) ∧
    tokenHolds 7 (List.replicate 256 0) = false := by decide +kernel

/-- The first 160 octets of a token that names epoch 7 and a part by the 16 octets given. -/
def tokenHead (b : List Byte) : List Byte := leBytes 4 0x4E554B58 ++ (leBytes 4 7 ++ (b ++ List.replicate 136 0))

/-- A token that names the epoch and this part holds where its signature verifies. -/
theorem meets_DiagnosticsActOnWhatTheyName_holds (sig : List Byte) (hl : sig.length = 96)
    (h : signatureOk 4 (tokenHead (beBytes 16 Config.partUid.toNat)) sig = true) :
    (tokenHead (beBytes 16 Config.partUid.toNat) ++ sig).length = 256 ∧
    tokenHolds 7 (tokenHead (beBytes 16 Config.partUid.toNat) ++ sig) = true := by
  have hb : (beBytes 16 Config.partUid.toNat).length = 16 := by simp [beBytes, leBytes]
  unfold tokenHolds
  generalize beBytes 16 Config.partUid.toNat = b at *
  have l4 : ∀ x, (leBytes 4 x).length = 4 := fun _ => rfl
  have l : (tokenHead b).length = 160 := by simp only [tokenHead, List.length_append, l4, hb, List.length_replicate]
  have e1 : (tokenHead b ++ sig).take 0xA0 = tokenHead b := List.take_left' l
  have e2 : ((tokenHead b ++ sig).drop 0xA0).take 96 = sig := by
    rw [List.drop_left' l, List.take_of_length_le (le_of_eq hl)]
  have d4 : (tokenHead b ++ sig).drop 4 = leBytes 4 7 ++ (b ++ List.replicate 136 0 ++ sig) := by
    rw [tokenHead, List.append_assoc, List.drop_left' (l4 _), List.append_assoc]
  have d8 : (tokenHead b ++ sig).drop 8 = b ++ (List.replicate 136 0 ++ sig) := by
    have := List.drop_drop (i := 4) (j := 4) (l := tokenHead b ++ sig)
    rw [← this, d4, List.drop_left' (l4 _), List.append_assoc]
  have d24 : (tokenHead b ++ sig).drop 0x18 = List.replicate 136 0 ++ sig := by
    have := List.drop_drop (i := 16) (j := 8) (l := tokenHead b ++ sig)
    rw [← this, d8, List.drop_left' hb]
  have e3 : ((tokenHead b ++ sig).drop 8).take 16 = b := by rw [d8, List.take_left' hb]
  have e4 : le (tokenHead b ++ sig) 0 4 = 0x4E554B58 := by
    rw [le, List.drop_zero, tokenHead, List.append_assoc, List.take_left' (l4 _)]; rfl
  have e5 : le (tokenHead b ++ sig) 4 4 = 7 := by rw [le, d4, List.take_left' (l4 _)]; rfl
  have e6 : le (tokenHead b ++ sig) 0x18 1 = 0 := by
    rw [le, d24, show List.replicate 136 (0 : Byte) = [0] ++ List.replicate 135 0 from rfl, List.append_assoc,
      List.take_left' (show ([0] : List Byte).length = 1 from rfl)]; rfl
  refine ⟨by rw [List.length_append, l, hl], ?_⟩
  rw [e1, e2, e3, e4, e5, e6, show 4 + 0 = 4 from rfl, h]
  simp only [beq_self_eq_true, Bool.true_and, Bool.and_true]
  decide

/-! ### Commits -/

/-- LPDDR5X that holds a number of n octets at an address, and 0 elsewhere. -/
def holding (a n v : Nat) : List Host.Cell :=
  (((leBytes n v).zipIdx.filter fun e => e.1 != 0).map fun e => (a + e.2, e.1))

/-- The last stream record staged, sealed and otherwise 0. -/
def stream15 : State := upWith id (holding (up.chip.stagingAddr 15 15) 128 (reseal 15 15 0))

/-- What reading it finds. -/
def read15 (s : State) : List (Nat × Nat) := [(15, Memory.readLE s.dram (s.chip.stagingAddr 15 15) (recSize 15))]

set_option maxRecDepth 200000 in
theorem meets_TableCommitsAndRevertsMoveRecords : stream15.chip.takes mb false = true ∧ stream15.chip.domainOn 4 = true ∧
    stream15.chip.eccDram.flips = [] ∧ tableRange 15 (pl (payloadOf mb (15 + 2 ^ 32)) 0 0 64) = (15, 1) ∧
    failingRecord 15 (read15 stream15) = none ∧ stream15.chip.accepts mb (payloadOf mb (15 + 2 ^ 32)) stream15.chip.openCsn 0
       [.recs 15 (clampRange 15 (read15 stream15)) (15 == 3 && pl (payloadOf mb (15 + 2 ^ 32)) 8 0 1 == 1)] = true ∧
    failingRecord 15 (read15 up) = some ⟨4, 0, 15⟩ ∧ up.chip.target mb (payloadOf mb (15 + 2 ^ 32)) true = .ok (up.chip.openCsn, 0) ∧
    (let h : CmdHdr := { mb with atCsn := true, strict := true }
     up.chip.takes h false = true ∧ up.chip.target h (payloadOf mb (15 + 2 ^ 32)) true = .error missed) ∧
    dramOff.chip.takes mb false = true ∧ dramOff.chip.domainOn 4 = false ∧
    dramOff.chip.target mb (payloadOf mb (15 + 2 ^ 32)) true = .ok (dramOff.chip.openCsn, 0) := by
  decide +kernel

theorem meets_TableCommitsAndRevertsMoveRecords_revert : up.chip.takes mb false = true ∧ up.chip.domainOn 4 = true ∧
    up.chip.domainOn 3 = true ∧ clampN 1 15 (pl (payloadOf mb (255 + 2 ^ 64)) 0 0 8) = 15 ∧
    tableRange 15 ((payloadOf mb (255 + 15 * 2 ^ 32 + 2 ^ 64)) >>> 32) = (15, 1) ∧
    (upWith (without 3)).chip.takes mb false = true ∧ (upWith (without 3)).chip.domainOn 4 = true ∧
    (upWith (without 3)).chip.domainOn 3 = false ∧ clampN 1 15 (pl (payloadOf mb 9) 0 0 8) = 9 := by decide +kernel

set_option maxRecDepth 200000 in
theorem meets_CommitsAreAcceptedForTheirCrossing : up.chip.takes mb false = true ∧
    up.chip.accepts mb 0 up.chip.openCsn 0 [.warmReset] = true ∧
    up.chip.accepts { mb with atCsn := true, target := 2 ^ 64 - 1 } 0 (2 ^ 64 - 1) 0 [.warmReset] = true ∧
    powerAllowed 0x800 (powerAfter 0x800 0 (up.chip.powerAt up.chip.openCsn)) = true ∧
    up.chip.accepts mb (payloadOf mb 0x800) up.chip.openCsn 0 [.powerSet 0x800 0] = true ∧
    powerAllowed 8 (powerAfter 8 0 (up.chip.powerAt up.chip.openCsn)) = false ∧
    up.chip.target mb (payloadOf mb 8) true = .ok (up.chip.openCsn, 0) ∧
    up.chip.dirtyRegs = [] ∧ up.chip.accepts mb 0 up.chip.openCsn 0 [] = true := by decide +kernel

/-- The first layer of canvas 0 with the address and the second word that a payload of zeros gives it. -/
def layer0 : Nat :=
  reseal 6 0 (clampLayer (setFld (setFld (up.chip.latestLayer 0) 0 0 64 0) 0xC 0 32 0))

set_option maxRecDepth 200000 in
theorem meets_CommitsAreAcceptedForTheirCrossing_rest : up.chip.accepts mb 0 up.chip.openCsn 0 [.layer 0 layer0] = true ∧
    up.chip.accepts mb (payloadOf mb 0x14) up.chip.openCsn 0 [.loopback 4 2] = true ∧
    up.chip.accepts mb (payloadOf mb 8) up.chip.openCsn 0 [.frameGen 0 false (clampRate 0 0).1 (clampRate 0 0).2 0,
      .reg Reg.SEAL_OFFSET (BitVec.ofNat 32 10)] = true ∧ up.chip.fg.mode ≠ .held ∧
    up.chip.accepts mb 0 up.chip.openCsn 0 [.fgStop] = true ∧
    (let s := upWith fun c => { c with fg := { c.fg with mode := .held } }
     s.chip.takes mb false = true ∧ s.chip.fg.mode = .held ∧ s.chip.underActive = false) ∧
    (let s := upWith fun c => { c.setPair { c.pair with isle := .standby, linkUp := true, mirrorOk := true, inPair := true
                                                        peerActive := true } with fg := { c.fg with mode := .held } }
     s.chip.takes mb false = true ∧ s.chip.underActive = true) ∧
    up.chip.accepts mb 3 up.chip.openCsn 0 [.ptpSet 3 (ptpClamp 0 0 0 0).1 (ptpClamp 0 0 0 0).2.1 (ptpClamp 0 0 0 0).2.2 0 0 2] = true :=
  by decide +kernel

/-- An isle in the role given, with the Strait up and mirroring. -/
def paired (k : IsleState) : Chip → Chip := fun c =>
  c.setPair { c.pair with isle := k, linkUp := true, mirrorOk := true, inPair := true }

set_option maxRecDepth 200000 in
theorem meets_FamilyCommitsAreAcceptedForTheirCrossing : up.chip.takes mb false = true ∧ up.chip.meterHeld = false ∧
    up.chip.accepts mb 7 up.chip.openCsn 0 [.feedSet 7 false 0 0 4500 0 0] = true ∧
    up.chip.accepts mb 7 up.chip.openCsn 0 [.pqSet 7 2 1001 1 0 1] = true ∧
    up.chip.accepts mb 7 up.chip.openCsn 0 [.pulseSet 7 0 0 false 1 20] = true ∧ up.chip.domainOn 10 = true ∧
    up.chip.accepts mb 0 up.chip.openCsn 0 [.pairConfig 0 0 2] = true ∧
    (upWith (paired .standby)).chip.pair.isle.standing = true ∧ (upWith (paired .standby)).chip.pair.isle.stale = false ∧
    (upWith fun c => c.setPair { c.pair with isle := .standby }).chip.accepts mb 0 up.chip.openCsn 0 [.promote] = true ∧
    (upWith (paired .active)).chip.pair.isle = .active ∧ (upWith (paired .active)).chip.domainOn 10 = true ∧
    (upWith (paired .active)).chip.standbyStale = false ∧ (upWith (paired .active)).chip.queueLevel < 1024 ∧
    (upWith (paired .active)).chip.target mb 0 true = .ok (up.chip.openCsn, 0) ∧
    (upWith (paired .active)).chip.refusal ((upWith (paired .active)).chip.projected up.chip.openCsn) up.chip.openCsn [.swap] = none := by
  decide +kernel

set_option maxRecDepth 200000 in
theorem meets_FamilyCommitsAreAcceptedForTheirCrossing_rest :
    (upWith twoSlots).chip.otherInUpdate 4 = false ∧
    (upWith twoSlots).chip.matrixHolds 4 ((upWith twoSlots).chip.imageType 4).inactive = true ∧
    ((upWith twoSlots).chip.imageType 4).verified = true ∧
    (upWith twoSlots).chip.accepts mb 4 up.chip.openCsn 0 [.activate 4] = true ∧
    ((upWith twoSlots).chip.imageType 4).inactive.valid = true ∧
    ((upWith twoSlots).chip.imageType 4).counter ≤ ((upWith twoSlots).chip.imageType 4).inactive.secVer ∧
    ((upWith twoSlots).chip.imageType 4).onTrial = false ∧
    (upWith twoSlots).chip.accepts mb 4 up.chip.openCsn 0 [.revert 4 2] = true ∧ mb.atTime = false ∧
    up.chip.accepts mb 4 up.chip.openCsn 0 [.groupJoin 4 (groupArg 4)] = true ∧
    (let s := upWith fun c => c.configure (.groupJoin 3 (groupArg 3))
     ((s.chip.projected s.chip.openCsn).port 3).groups.contains (groupArg 3) = true ∧
       s.chip.accepts mb 3 s.chip.openCsn 0 [.groupLeave 3 (groupArg 3)] = true) := by decide +kernel

/-- What stands against the commits of metering, the pair and updates. -/
theorem meets_FamilyCommitsAreAcceptedForTheirCrossing_refused :
    (let s := upWith fun c => { c with power := { c.power with fail := 4 } }
     s.chip.takes mb false = true ∧ s.chip.meterHeld = true ∧ s.chip.target mb 0 true = .ok (s.chip.openCsn, 0)) ∧
    (upWith (without 10)).chip.domainOn 10 = false ∧ up.chip.pair.isle.standing = false ∧
    (let s := upWith (paired .standbyStale)
     s.chip.pair.isle.standing = true ∧ s.chip.pair.isle.stale = true) ∧
    (let s := upWith fun c => c.setPair { (paired .active c).pair with linkUp := false }
     s.chip.pair.isle = .active ∧ (s.chip.domainOn 10 && s.chip.pair.linkUp) = false) ∧
    (let s := upWith fun c => c.setPair { (paired .active c).pair with mirrorOk := false }
     (s.chip.domainOn 10 && s.chip.pair.linkUp) = true ∧ (s.chip.standbyStale || !s.chip.pair.mirrorOk) = true) ∧
    (let s := upWith fun c => (twoSlots c).setType 4 { (twoSlots c).imageType 4 with failed := true, verified := false }
     s.chip.otherInUpdate 4 = false ∧ (s.chip.imageType 4).onTrial = false ∧ (s.chip.imageType 4).failed = true ∧
      (s.chip.imageType 4).verified = false) ∧
    ((up.chip.imageType 4).verified = false ∧ (up.chip.imageType 4).inactive.valid = false ∧
      up.chip.target mb 4 true = .ok (up.chip.openCsn, 0)) ∧
    (let s := upWith fun c => (twoSlots c).setType 4 { (twoSlots c).imageType 4 with counter := 65 }
     s.chip.otherInUpdate 4 = false ∧ (s.chip.imageType 4).inactive.valid = true ∧
      (s.chip.imageType 4).inactive.secVer < (s.chip.imageType 4).counter) ∧
    (let s := upWith fun c => (twoSlots c).setType 0 { c.imageType 0 with slot0 := { (c.imageType 0).slot0 with compat := [] } }
     s.chip.otherInUpdate 4 = false ∧ (s.chip.imageType 4).verified = true ∧ (s.chip.imageType 4).inactive.valid = true ∧
      (s.chip.imageType 4).counter ≤ (s.chip.imageType 4).inactive.secVer ∧
      s.chip.matrixHolds 4 (s.chip.imageType 4).inactive = false) ∧
    (((up.chip.projected up.chip.openCsn).port 4).groups.contains (groupArg 4) = false) := by decide +kernel

/-- A header that names a crossing. -/
def naming (strict : Bool) (csn : Nat) : CmdHdr := { mb with atCsn := true, strict := strict, target := csn }

/-- A queue of 1,024 commits for a later crossing. -/
def waiting1024 : Chip → Chip := fun c =>
  { c with commits := List.replicate 1024 ⟨some (.mbox 0), 0, 0x0103, 9, [], none⟩ }

/-- Whether the configuration of a crossing admits changes, and no other isle is concerned. -/
def admitted (s : State) (csn : Nat) (l : List Change) : Bool :=
  (s.chip.refusal (s.chip.projected csn) csn l).isNone && !s.chip.underActive && !s.chip.mirrors l

/-- The part after crossing 8. -/
def at8 : Chip → Chip := fun c => { c with csn := 8 }

set_option maxRecDepth 200000 in
theorem meets_CommitsTakeTheCrossingThatTheyName : (upWith at8).chip.takes (naming true 8) false = true ∧
    (naming true 8).atTime = false ∧ admitted (upWith at8) 9 [.warmReset] = true ∧ mb.atCsn = false ∧
    (naming true 9).target = (upWith at8).chip.openCsn ∧ admitted (upWith at8) 10 [.loopback 4 2] = true ∧
    (upWith at8).chip.openCsn < (naming true 10).target ∧ (upWith at8).chip.queueLevel < 1024 ∧
    (naming true 8).target < (upWith at8).chip.openCsn ∧ (upWith waiting1024).chip.openCsn < (naming false 2).target ∧
    1024 ≤ (upWith waiting1024).chip.queueLevel ∧ admitted (upWith waiting1024) 1 [.warmReset] = true := by decide +kernel

/-- Sixteen activities of commands wait behind one. -/
def waiting16 : Chip → Chip := fun c =>
  let a : Activity := ⟨5, 0x0A01, some (.mbox 0), 7, [0], 0, 0, 0, false⟩
  { c with arbiter := { c.arbiter with running := some a, waiting := List.replicate 16 a } }

theorem meets_MaintenanceCommandsWaitTheirTurn : up.chip.takes mb false = true ∧ up.chip.arbiterFree = true ∧
    up.chip.otherInUpdate (min 4 (pl (payloadOf mb 4) 0 0 3)) = false ∧
    (up.chip.imageType (min 4 (pl (payloadOf mb 7) 0 0 3))).onTrial = false ∧ up.chip.meterHeld = false ∧
    (upWith (paired .active)).chip.takes mb false = true ∧ (upWith (paired .active)).chip.arbiterFree = true ∧
    (upWith waiting16).chip.arbiterFree = false ∧
    16 ≤ ((upWith waiting16).chip.arbiter.waiting.filter fun a => a.opcode != 0).length ∧
    (let s := upWith fun c => { waiting16 c with arbiter := { (waiting16 c).arbiter with waiting := (waiting16 c).arbiter.waiting.drop 1 } }
     s.chip.arbiterFree = false ∧ (s.chip.arbiter.waiting.filter fun a => a.opcode != 0).length < 16) ∧
    up.chip.pair.isle ≠ .active ∧
    (let s := upWith fun c => c.setPair { (paired .active c).pair with linkUp := false }
     s.chip.pair.isle = .active ∧ (s.chip.domainOn 10 && s.chip.pair.linkUp && s.chip.pair.mirrorOk) = false) ∧
    (let s := upWith fun c => c.setType 4 { c.imageType 4 with onTrial := true }
     (s.chip.imageType (min 4 (pl (payloadOf mb 7) 0 0 3))).onTrial = true) ∧
    (upWith fun c => { c with power := { c.power with fail := 4 } }).chip.meterHeld = true := by decide +kernel

/-! ### The show: crossings, the generator, tasks -/

/-- The generator in a mode, its next crossing at 1 s. -/
def genIn (m : FgMode) (sealed : Bool) : Chip → Chip := fun c =>
  { c with sealed := sealed, fg := { c.fg with mode := m, next := 1000000000, nextIdx := some 60 } }

/-- A commit of mailbox 7 and TAG 65535 for the open crossing. -/
def oneCommit : Chip → Chip := fun c => { c with commits := [⟨some (.mbox 7), 65535, 0x0103, c.openCsn, [.warmReset], none⟩] }

/-- The payload of a SHOW_UNCOMMIT that names it. -/
def uncommit7 : Nat := 65535 + Chan.number (.mbox 7) * 65536 + up.chip.openCsn * 2 ^ 64

theorem meets_ShowCommandsActOnTheQueue : up.chip.takes mb false = true ∧ (upWith (genIn .held false)).chip.fg.mode ≠ .stopped ∧
    up.chip.fg.mode = .stopped ∧ up.chip.underActive = false ∧ up.chip.mirrors [.cross] = false ∧
    (upWith oneCommit).chip.pair.isle ≠ .active ∧ (upWith oneCommit).chip.openCsn ≤ pl (payloadOf mb uncommit7) 8 0 64 ∧
    ((upWith oneCommit).chip.commits.filter fun m : Commit =>
      (match m.chan with | some ch => Chan.number ch == pl (payloadOf mb uncommit7) 0 16 9 | none => false) &&
        m.tag == pl (payloadOf mb uncommit7) 0 0 16 && m.target == pl (payloadOf mb uncommit7) 8 0 64) ≠ [] ∧
    pl (payloadOf mb 0) 8 0 64 < (upWith oneCommit).chip.openCsn ∧ up.chip.commits = [] ∧
    (let s := upWith (paired .active)
     s.chip.takes mb false = true ∧ s.chip.fg.mode = .stopped ∧ s.chip.underActive = false ∧ s.chip.mirrors [.cross] = true) :=
  by decide +kernel

/-- Task 4095 in a state, of GEN 255, with a record. -/
def taskIn (k : TaskState) (r : Nat) : Chip → Chip := fun c => c.setTask 4095 { Task.reset with state := k, gen := 255, record := r }

/-- The payload that names it. -/
def names4095 : Nat := payloadOf mb (4095 + 255 * 65536)

theorem meets_TaskCommandsActByTheTasksState : up.chip.takes mb false = true ∧ pl names4095 0 0 12 = 4095 ∧
    up.chip.underActive = false ∧ (up.chip.task 4095).state = .free ∧ up.chip.eccDram.flips = [] ∧
    ((upWith (taskIn .waiting 0)).chip.task 4095).gen = pl names4095 0 16 8 ∧
    ((upWith (taskIn .waiting 0)).chip.task 4095).state = .waiting ∧ ((upWith (taskIn .ready 0)).chip.task 4095).state = .ready ∧
    ((upWith (taskIn .ended 0)).chip.task 4095).state = .ended ∧
    ((upWith (taskIn .accepted 0)).chip.task 4095).state = .accepted ∧ (upWith (taskIn .accepted 0)).chip.underActive = false ∧
    (up.chip.task 4095).gen ≠ pl names4095 0 16 8 ∧
    TaskRec.wait ((upWith (taskIn .ready 0)).chip.task 4095).record = 0 ∧
    pl (payloadOf mb 4095) 0 16 8 = (up.chip.task 4095).gen ∧
    (let s := upWith fun c => c.setPair { (paired .standby c).pair with peerActive := true }
     s.chip.takes mb false = true ∧ s.chip.underActive = true) := by decide +kernel

/-- The record of a strict effect-stop. -/
def strictStop : Nat := 2 + 2 ^ 15

theorem meets_TasksBecomeReadyAndAreDispatched :
    (let s := upWith (taskIn .waiting 0x200)
     (s.chip.task 4095).state = .waiting ∧ TaskRec.wait (s.chip.task 4095).record = 1) ∧
    TaskRec.toAct (0x1800 : Nat) = true ∧ TaskRec.toAct (0x0800 : Nat) = false ∧
    (let c := (upWith (taskIn .waiting 0x1800)).chip
     c.waitMet (c.task 4095) = false) ∧
    (let c := (upWith (taskIn .waiting 0)).chip
     c.waitMet (c.task 4095) = true) ∧
    (let c := (upWith (taskIn .ready 2)).chip
     c.dispatches = true ∧ c.dispatching = none ∧ c.nextTask = some 4095 ∧ TaskRec.kind 2 ≠ 0 ∧
      c.noFadeSlots (c.taskChanges 2) = false ∧ c.taskRefusal 4095 (c.taskChanges 2) = none ∧ c.mirrors (c.taskChanges 2) = false) ∧
    (let c := (upWith fun c => paired .active (taskIn .ready 2 c)).chip
     c.dispatches = true ∧ c.nextTask = some 4095 ∧ c.noFadeSlots (c.taskChanges 2) = false ∧
      c.taskRefusal 4095 (c.taskChanges 2) = none ∧ c.mirrors (c.taskChanges 2) = true) ∧
    (let c := (upWith fun c => at8 (taskIn .ready strictStop c)).chip
     c.dispatches = true ∧ c.nextTask = some 4095 ∧ c.noFadeSlots (c.taskChanges strictStop) = false ∧
      c.taskRefusal 4095 (c.taskChanges strictStop) = some .missed) ∧
    up.chip.nextTask = none := by decide +kernel

theorem meets_TasksBecomeReadyAndAreDispatched_triggers :
    (∃ g, up.chip.triggers[3]? = some g ∧ g.high ≠ true ∧ g.filter = none) ∧ bits (up.chip.lv Reg.TRIG_CFG) 8 8 = 0 ∧
    0 < bits ((upWith (livesOf [(Reg.TRIG_CFG, 0xFF08)])).chip.lv Reg.TRIG_CFG) 8 8 ∧
    bit ((upWith (livesOf [(Reg.TRIG_CFG, 0xFF08)])).chip.lv Reg.TRIG_CFG) 3 = true ∧
    (∃ g, (upWith fun c => { c with triggers := c.triggers.set 3 ⟨true, 0, some 204000, true⟩ }).chip.triggers[3]? = some g ∧
      g.filter = some 204000) :=
  ⟨⟨_, rfl, by decide, rfl⟩, by decide +kernel, by decide +kernel, by decide +kernel, ⟨_, rfl, rfl⟩⟩

/-- The record of a cue-go of one entry. -/
def oneEntry : Nat := 2 ^ 144 * 2 ^ 144

/-- A ready cue-go of one entry, with n fade slots in use by others. -/
def noSlots (n : Nat) : State := upWith fun c =>
  { taskIn .ready oneEntry c with fades := List.replicate n (5, ⟨0, 0, 1, 0, 0, 0⟩) }

theorem no_slots (n : Nat) (h : 262144 ≤ n) :
    ((noSlots n).chip.noteRead 0 2 ((noSlots n).chip.liveAt 9 0).2 8).noFadeSlots ((noSlots n).chip.taskChanges oneEntry) = true := by
  have e : (noSlots n).chip.taskChanges oneEntry = [.cueGo [cueEntry ((noSlots n).chip.recIn 9 0)]] := by rfl
  have r : (noSlots n).chip.recIn 9 0 = 0 := by
    have a : (noSlots n).chip.recAt 9 0 = 0 := rfl
    have b : ((noSlots n).chip.ecc ((noSlots n).chip.liveAt 9 0).1).flips = [] := rfl
    rw [Chip.recIn, Chip.asRead, a, b]; rfl
  have k : (cueEntry ((noSlots n).chip.recIn 9 0)).key = 0 := by rw [r]; decide
  have f : ((noSlots n).chip.noteRead 0 2 ((noSlots n).chip.liveAt 9 0).2 8).fades = List.replicate n (5, ⟨0, 0, 1, 0, 0, 0⟩) := by rfl
  have g : ((noSlots n).chip.noteRead 0 2 ((noSlots n).chip.liveAt 9 0).2 8).stagedKeys = [] := by rfl
  rw [e]
  simp [Chip.noFadeSlots, Chip.fadesInUse, f, g, k]
  omega

theorem meets_TasksBecomeReadyAndAreDispatched_slots : (noSlots 262144).chip.dispatches = true ∧
    (noSlots 262144).chip.dispatching = none ∧ (noSlots 262144).chip.nextTask = some 4095 ∧ TaskRec.kind oneEntry = 0 ∧
    ((noSlots 262144).chip.noteRead 0 2 ((noSlots 262144).chip.liveAt 9 0).2 8).noFadeSlots
      ((noSlots 262144).chip.taskChanges oneEntry) = true :=
  ⟨by decide +kernel, by decide +kernel, by decide +kernel, by decide +kernel, no_slots _ (Nat.le_refl _)⟩

theorem meets_TasksBecomeReadyAndAreDispatched_timeout :
    ((upWith (taskIn .waiting 0x600)).chip.runToCycle (((upWith (taskIn .waiting 0x600)).chip.task 4095).loaded +
      800000 * TaskRec.timeoutMs ((upWith (taskIn .waiting 0x600)).chip.task 4095).record)).waitMet
      ((upWith (taskIn .waiting 0x600)).chip.task 4095) = false := by decide +kernel

theorem meets_GeneratorStartsHoldsAndStops : up.chip.takes mb false = true ∧ up.chip.fg.mode = .stopped ∧
    (upWith (genIn .held false)).chip.takes mb false = true ∧ (upWith (genIn .held false)).chip.fg.mode = .held ∧
    bits (payloadOf mb 0) 0 96 = 0 ∧ bits (payloadOf mb 1) 0 96 ≠ 0 ∧
    (instantArg (payloadOf mb 1) 0).2 = (upWith (genIn .held false)).chip.fg.tb ∧
    (upWith fun c => { genIn .running true c with fg := { (genIn .running true c).fg with stopping := true } }).chip.fg.stopping = true := by
  decide +kernel

theorem meets_GridIndexIsTheFirstAtOrAfter : 0 < ({ FrameGen.reset with rateN := 30000, rateD := 1001 } : FrameGen).rateN ∧
    0 < ({ FrameGen.reset with rateN := 30000, rateD := 1001 } : FrameGen).rateD ∧
    0 < ({ FrameGen.reset with rateN := 30000, rateD := 1001 } : FrameGen).indexFrom 33366667 := by decide +kernel

/-- A crossing called and one period after it, due at 800 µs. -/
def called : Chip → Chip := fun c => { c with fg := { c.fg with explicit := [⟨some (.mbox 7), 1, 1, 640000⟩] } }

/-- Two grid instants passed over, and the immediate crossing due. -/
def immediate : Chip → Chip := fun c =>
  { genIn .running false c with fg := { (genIn .running false c).fg with immediate := some (2, 0, 20000) } }

theorem meets_CrossingsComeAtTheirInstants : (upWith (genIn .running false)).chip.fg.issues = true ∧
    (upWith (genIn .running false)).chip.sealed = false ∧ (upWith (genIn .running true)).chip.fg.issues = true ∧
    (upWith (genIn .running true)).chip.sealed = true ∧ (upWith called).chip.fg.mode = .stopped ∧
    (upWith called).chip.fg.explicit = ⟨some (.mbox 7), 1, 1, 640000⟩ :: [] ∧
    (upWith immediate).chip.fg.immediate = some (2, 0, 20000) := by decide +kernel

theorem meets_CrossingsTakeConsecutiveNumbers : (upWith called).chip.pair.isle.standing = false ∧
    (upWith (genIn .running true)).chip.fg.issues = true ∧ (upWith called).chip.fg.mode = .stopped ∧
    (upWith called).chip.fg.explicit ≠ [] ∧ (upWith immediate).chip.fg.immediate ≠ none ∧
    (∃ t, exec .crossing (upWith (genIn .running true)) = .next t) ∧ (∃ t, exec .explicitCrossing (upWith called) = .next t) ∧
    (∃ t, exec .immediateCrossing (upWith immediate) = .next t) :=
  ⟨by decide +kernel, by decide +kernel, by decide +kernel, by decide +kernel, by decide +kernel, ⟨_, rfl⟩, ⟨_, rfl⟩, ⟨_, rfl⟩⟩

theorem meets_CopyForwardLeavesStagingEqualToLive :
    ((upWith fun c => { c with copyFwd := [⟨15, [15], 1⟩] }).chip.copyFwd.find? fun f => f.table == 15) = some ⟨15, [15], 1⟩ ∧
    up.chip.domainOn 4 = true := by decide +kernel

theorem meets_NoHostCommandChangesTheLiveConfiguration : hostCommand (.showCommit mb 0) = true ∧
    ∃ t, exec (.showCommit mb 0) up = .next t := ⟨rfl, ⟨_, rfl⟩⟩

/-! ### Time bases and external time -/

theorem meets_ServosStepOrSlewTheirTimeBase :
    (let s := upWith (livesOf [(Reg.TB_CFG 3, 3)])
     s.chip.servoOn 3 = true ∧ (-1000000 : Int).natAbs ≤ s.chip.lv (Reg.TB_STEP_THR 3) * 1000 ∧
     s.chip.lv (Reg.TB_STEP_THR 3) * 1000 < (-1000001 : Int).natAbs) ∧ up.chip.servoOn 3 = false ∧
    (let s := upWith fun c => livesOf [(Reg.TB_CFG 3, 2)] (c.setTb 3 { c.tb 3 with mode := .acquiring })
     (s.chip.tb 3).mode = .acquiring ∧ s.chip.sourceTb 3 = 2) ∧
    (let s := upWith fun c => livesOf [(Reg.TB_CFG 3, 1)] (c.setTb 3 { c.tb 3 with mode := .locked })
     (s.chip.tb 3).mode = .locked ∧ s.chip.sourceTb 3 = 1 ∧ s.chip.domainOn 1 = true ∧
     bit (s.chip.lv (Reg.TB_CFG 3)) 24 = false ∧ 3 < s.chip.tbs.length) ∧
    (let s := upWith fun c => livesOf [(Reg.TB_CFG 3, 1)] (c.setTb 3 { c.tb 3 with mode := .holdover })
     (s.chip.tb 3).mode = .holdover ∧ (s.chip.sourceTb 3 == 1 && s.chip.domainOn 1) = true) := by decide +kernel

/-- A clock on time base 3 at port 4, master or slave, which knows a grandmaster. -/
def clock3 (master : Bool) : Chip → Chip := fun c =>
  livesOf [(Reg.TB_CFG 3, 0x411)] ((c.setPort 4 { c.port 4 with link := true }).setTb 3
    { c.tb 3 with ptp := { (c.tb 3).ptp with master := master, parent := some ⟨1, 6, 0x21, 0, 1, 9, 0⟩ } })

theorem meets_OrdinaryClocksFollowTheirMessages :
    (let c := (upWith (clock3 false)).chip
     c.ptpRuns 3 = true ∧ c.ptpPort 3 = 4 ∧ c.portUp 4 = true ∧ (c.tb 3).ptp.parent.isSome = true ∧
      (c.tb 3).ptp.master = false ∧ bits (c.lv (Reg.TB_CFG 3)) 4 2 = 1 ∧ (c.tb 3).ptp.tlv ≠ [1] ∧
      c.ptpSends 3 .delayReq = true ∧ c.ptpSends 3 .delayResp = false ∧ 3 < c.tbs.length ∧ c.paused 4 = false ∧
      (c.port 4).backlog = [] ∧ (c.tb 3).ptp.sched.find? (fun e => e.1 == .delayReq) = none ∧ c.nextCross = none) ∧
    (let c := (upWith (clock3 true)).chip
     (c.tb 3).ptp.master = true ∧ c.ptpSends 3 .followUp = true ∧ c.ptpSends 3 .announce = true) ∧
    (up.chip.tb 3).ptp.parent = none ∧ up.chip.ptpRuns 3 = false ∧ bits (up.chip.lv (Reg.TB_CFG 3)) 4 2 ≠ 1 := by decide +kernel

theorem meets_TimecodeAndPulsesAreStamped : (upWith (livesOf [(Reg.LTC_CFG, 1)])).chip.ltcOn = true ∧ up.chip.ltcOn = false ∧
    bit ((upWith (livesOf [(Reg.FPIN_CFG, 0xD)])).chip.lv Reg.FPIN_CFG) 0 = true ∧
    bit ((upWith (livesOf [(Reg.FPIN_CFG, 0xD)])).chip.lv Reg.FPIN_CFG) 1 ≠ true ∧ bit (up.chip.lv Reg.FPIN_CFG) 0 = false ∧
    (let s := upWith fun c => livesOf [(Reg.TB_CFG 3, 3)] (c.setTb 3 { c.tb 3 with mode := .acquiring })
     3 < s.chip.tbs.length ∧ s.chip.sourceTb 3 = 3 ∧ (s.chip.tb 3).mode = .acquiring) ∧
    (let s := upWith fun c => livesOf [(Reg.FPOUT_CFG, 5)] { c with pulses := { c.pulses with outDue := [⟨1, 5, 0, .single⟩] } }
     bit (s.chip.lv Reg.FPOUT_CFG) 0 = true ∧
     (s.chip.pulses.outDue.dropWhile fun d => !s.chip.pulseComes d) = ⟨1, 5, 0, .single⟩ :: [] ∧
     s.chip.pulses.outHigh = false ∧ s.chip.power.pins = false) ∧ up.chip.pulses.outDue = [] ∧
    (upWith fun c => { c with pulses := { c.pulses with outHigh := true } }).chip.pulses.outHigh = true := by decide +kernel

/-! ### Composition, mapping, the model and the packer -/

/-- The last fixture handed over under way, of the last profile, as given. -/
def fixtureUnderWay (r : Nat) : Chip → Chip := fun c =>
  recsOf [(1, 131071, setFld 0 4 0 16 4095), (2, 4095, r)] { c with frame := { c.frame with issued := [131071] } }

set_option maxRecDepth 200000 in
theorem meets_BandsAndFixturesAreServed :
    (let s := upWith fun c => { c with frame := { c.frame with lanes := List.replicate 7 none ++ [some (15, 511)] } }
     s.chip.frame.lanes.findIdx? (· == some (15, 511)) = some 7) ∧
    up.chip.frame.lanes.findIdx? (· == some (15, 511)) = none ∧
    (let s := upWith (fixtureUnderWay (reseal 2 4095 0))
     s.chip.domainOn 6 = true ∧ s.chip.frame.issued.contains 131071 = true ∧
     s.chip.recState 2 (FixRec.profile (s.chip.recAt 1 131071)) = 0) ∧
    (let s := upWith (fixtureUnderWay 1)
     s.chip.recState 2 (FixRec.profile (s.chip.recAt 1 131071)) ≠ 0) ∧
    up.chip.frame.issued.contains 131071 = false := by
  decide +kernel

/-- Descriptor 49151 of universe 63999, lone, on every port to set 0, with 512 slots, in an open window. -/
def lone : Chip → Chip := fun c => livesOf [(Reg.PK_SET_EN 0, 1)]
  (recsOf [(3, 49151, 63999 + (1 + 15 * 2) * 2 ^ 32 + 512 * 2 ^ 64 + 800 * 2 ^ 80)]
    { c with frame := { c.frame with csn := 1, windowOpen := true, closeCycle := 4000000 } })

/-- Its packet, and the same waiting on port 3, whose link is up. -/
def packet : Queued := ⟨49151, 0, .changed, 1, 5, [1, 2, 3]⟩
def queued : Chip → Chip := fun c => (lone c).setPort 3 { c.port 3 with link := true, queue := [packet] }

set_option maxRecDepth 200000 in
theorem meets_UniversesAreDecidedAndPaced :
    (let c := (upWith lone).chip
     (c.serviceOf 49151).isSome = true ∧ c.frame.csn = 1 ∧ c.frame.windowDone = false ∧
      (c.domainOn 7 && decide (0 < c.frame.csn) && !c.frame.windowDone && !c.frame.decided.contains 49151 &&
        !c.frame.corrupt.contains 49151 && c.univReady 49151) = true ∧
      univCheck 63999 (c.slotsOf 49151 512) ≠ (c.univ 49151).lastCheck) ∧
    (let c := (upWith fun c => (lone c).setUniv 49151 { UnivState.reset with
       lastCheck := univCheck 63999 ((lone upChip).slotsOf 49151 512), lastPar := parity8 (univCheck 63999 ((lone upChip).slotsOf 49151 512)) }).chip
     parity8 (c.univ 49151).lastCheck = (c.univ 49151).lastPar ∧
      univCheck 63999 (c.slotsOf 49151 512) = (c.univ 49151).lastCheck ∧ (c.univ 49151).force = false ∧
      (c.univ 49151).repeatLeft = 0 ∧ c.fg.crossCycle < (c.univ 49151).base + 800 * 800000) ∧
    (upWith fun c => { lone c with frame := { (lone c).frame with windowOpen := false } }).chip.frame.windowOpen = false ∧
    (up.chip.serviceOf 49151).isSome = false := by
  decide +kernel

theorem meets_UniversesAreDecidedAndPaced_send :
    (let c := (upWith queued).chip
     c.nextPacket 3 = some packet ∧ (c.portUp 3 && !c.paused 3 && c.domainOn 7 &&
       !(c.runToCycle (max (c.startOf 3) (c.floorOf 3 packet))).meetsCrossing 3 packet.octets.length &&
       (packet.kind == .hold || c.frame.windowOpen && decide (max (c.startOf 3) (c.floorOf 3 packet) < c.frame.closeCycle))) = true) ∧
    (let c := (upWith fun c => { queued c with frame := { (queued c).frame with closeCycle := 0 } }).chip
     c.nextPacket 3 = some packet ∧ decide (max (c.startOf 3) (c.floorOf 3 packet) < c.frame.closeCycle) = false) ∧
    up.chip.nextPacket 3 = none := by decide +kernel

/-- Universe 49151 held: the generator is, its last packet is known, and the frame's window has passed. -/
def heldUniv : Chip → Chip := fun c => { (genIn .held false (lone c)).setUniv 49151 { UnivState.reset with
    lastSpec := some ⟨none, false, false, 0, 0, 0, 0, 0, false, 63999, [], [], 100, [], 15, []⟩ } with
  frame := { (lone c).frame with windowDone := true } }

theorem meets_UniversesAreDecidedAndPaced_hold :
    (let c := (upWith heldUniv).chip
     (c.serviceOf 49151).isSome = true ∧ (c.univ 49151).lastSpec.isSome = true ∧ (decide (c.fg.mode = .held) && c.emits &&
       c.domainOn 7 && c.frame.windowDone && !c.stillQueued 49151) = true) ∧
    (up.chip.univ 49151).lastSpec = none := by
  decide +kernel

/-! ### Input -/

/-- Input universe 16383: universe 63999 on port 3. -/
def inputs : Chip → Chip := fun c => c.setRec 10 16383 (63999 + 2 ^ 16 + 8 * 2 ^ 17)

/-- A source of it, last heard with sequence number 255; and four others. -/
def heard : Source := ⟨16383, 9, 100, 255, 1, 0, [1], some [2], 0, 0, [], 0, [], [], 63999, 0⟩
def tracked : Chip → Chip := fun c => { inputs c with sources := [heard] }
def full : Chip → Chip := fun c =>
  { inputs c with sources := (List.range 4).map fun k => { heard with cid := k } }

theorem meets_InputSourcesAreTracked :
    (let c := (upWith inputs).chip
     c.domainOn 6 = true ∧ c.portUp 3 = false ∧ c.inputEntry 3 63999 = some 16383 ∧ c.sourceOf 16383 9 = none ∧
      (c.sources.filter fun x => x.entry == 16383 && x.univ == 63999).length < 4 ∧ (List.replicate 512 (0 : Byte)).length ≤ 512) ∧
    (upWith fun c => inputs (c.setPort 3 { c.port 3 with link := true })).chip.portUp 3 = true ∧
    (let c := (upWith full).chip
     c.inputEntry 3 63999 = some 16383 ∧ c.sourceOf 16383 9 = none ∧
      4 ≤ (c.sources.filter fun x => x.entry == 16383 && x.univ == 63999).length) ∧
    (let c := (upWith tracked).chip
     c.inputEntry 3 63999 = some 16383 ∧ c.sourceOf 16383 9 = some heard ∧ c.oldestSource 16383 9 = some heard ∧
      heard.syncAddr ≠ 0) ∧ up.chip.oldestSource 16383 9 = none ∧
    staleSeq heard.seq 235 = true ∧ staleSeq heard.seq 255 = true ∧ staleSeq heard.seq 234 = false ∧ staleSeq heard.seq 0 = false := by
  decide +kernel

/-! ### Local ports and RDM -/

/-- A frame sent once a period of 13,333,333 cycles, 20 ms long. -/
def sentFrame : PortFrame := ⟨[0, 1], [], 0, 16000000, 16000000, 13333333, true⟩

/-- The last port of each kind with its next frame selected for a cycle; and with none, in HOLD or not. -/
def dmxNext (at_ : Nat) : DmxPort := { DmxPort.reset with frame := sentFrame, selected := some ⟨at_, 1, true⟩ }
def pixNext (at_ : Nat) : PixPort := { PixPort.reset with frame := sentFrame, selected := some ⟨at_, 1, true⟩ }
def dmxLast (h : Bool) : DmxPort := { DmxPort.reset with frame := sentFrame, held := h }
def pixLast (h : Bool) : PixPort := { PixPort.reset with frame := sentFrame, held := h }

theorem meets_LocalPortsSendHoldAndRepeat : up.chip.domainOn 11 = true ∧ up.chip.drives = true ∧ up.chip.power.pins = false ∧
    (upWith fun c => c.setPair { c.pair with isle := .standby }).chip.drives = false ∧ (upWith (without 11)).chip.domainOn 11 = false ∧
    ((upWith (·.setDmx 15 (dmxNext 15999999))).chip.dmxPort 15).selected = some ⟨15999999, 1, true⟩ ∧
    ((upWith (·.setDmx 15 (dmxNext 16000000))).chip.dmxPort 15).selected = some ⟨16000000, 1, true⟩ ∧
    ((upWith (·.setPix 31 (pixNext 15999999))).chip.pixPort 31).selected = some ⟨15999999, 1, true⟩ ∧
    ((upWith (·.setPix 31 (pixNext 16000000))).chip.pixPort 31).selected = some ⟨16000000, 1, true⟩ ∧
    (upWith (·.setDmx 15 (dmxLast false))).chip.dmxPort 15 = dmxLast false ∧
    (upWith (·.setDmx 15 (dmxLast true))).chip.dmxPort 15 = dmxLast true ∧
    (upWith (·.setPix 31 (pixLast false))).chip.pixPort 31 = pixLast false ∧
    (upWith (·.setPix 31 (pixLast true))).chip.pixPort 31 = pixLast true ∧
    0 < sentFrame.period ∧ (dmxLast false).selected = none ∧ (pixLast false).selected = none := by decide +kernel

theorem meets_LocalPortsSendHoldAndRepeat_house : bit (up.chip.lv (Reg.HC_CFG 15)) 0 = false ∧
    ((upWith (·.setHc 15 { House.reset with pwmAt := some 7 })).chip.hc 15).pwmAt = some 7 ∧
    (let c := (upWith fun c => livesOf [(Reg.HC_CFG 15, 0x800)] (c.setHc 15 { House.reset with unevaluated := 64 })).chip
     bit (c.lv (Reg.HC_CFG 15)) 11 = true ∧ 64 ≤ (c.hc 15).unevaluated ∧ (c.hc 15).calHold = false) ∧
    ((upWith (·.setHc 15 { House.reset with calHold := true })).chip.hc 15).calHold = true ∧ (up.chip.hc 15).unevaluated < 64 ∧
    ntcTemp (bits (up.chip.lv (Reg.HC_NTC 15)) 0 16) (bits (up.chip.lv (Reg.HC_NTC 15)) 16 16) 0 = none ∧
    (up.chip.hc 15).ntcFault = false ∧
    ((upWith (·.setHc 15 { House.reset with ntcFault := true })).chip.hc 15).ntcFault = true ∧
    (ntcTemp (bits ((upWith (livesOf [(Reg.HC_NTC 15, 0x10000F6E)])).chip.lv (Reg.HC_NTC 15)) 0 16)
      (bits ((upWith (livesOf [(Reg.HC_NTC 15, 0x10000F6E)])).chip.lv (Reg.HC_NTC 15)) 16 16) 2048).isSome = true := by
  decide +kernel

/-- At half of full scale a thermistor of 1 to 1 reads 25 °C, in 1/256 °C. -/
theorem test_ntc : ntcTemp 3950 4096 2048 = some 6400 := by decide +kernel

/-- Context 1023 of a responder on DMX port 15, and a host's request of TAG 7 waiting there. -/
def responder : Chip → Chip := fun c => c.setRec 14 1023 (0x123456789ABC + 15 * 2 ^ 48 + 2 ^ 52)
def request7 : RdmRequest := ⟨1023, 7, true, .request 0x20 0 0x60 [], 0, false⟩
def rdmWaits : Chip → Chip := fun c => (responder c).setDmx 15 { DmxPort.reset with queue := [request7] }

theorem meets_RdmRequestsRunInTheirGaps : up.chip.takes mb false = true ∧
    min 231 (pl (payloadOf mb (24 * 2 ^ 24)) 0 24 8) = 24 ∧ min 231 (pl (payloadOf mb (25 * 2 ^ 24)) 0 24 8) = 25 ∧
    min 231 (pl (payloadOf mb (232 * 2 ^ 24)) 0 24 8) = 231 ∧ pl (payloadOf mb (7 + 1023 * 65536)) 0 16 10 = 1023 ∧
    (upWith rdmWaits).chip.takes mb false = true ∧
    (upWith rdmWaits).chip.rdmWaiting 1023 (pl (payloadOf mb (7 + 1023 * 65536)) 0 0 16) = some (15, request7) ∧
    (upWith rdmWaits).chip.rdmWaiting 1023 (pl (payloadOf mb (8 + 1023 * 65536)) 0 0 16) = none ∧
    CtxRec.en ((upWith rdmWaits).chip.recAt 14 1023) = true ∧ (upWith rdmWaits).chip.domainOn 11 = true ∧
    CtxRec.en (up.chip.recAt 14 1023) = false ∧
    (upWith fun c => { c with sensors := [⟨1023, 255, true, true, 0, 0, 1, some 80000000⟩] }).chip.putOff 1023 =
      [(255, 80000000)] ∧ up.chip.putOff 1023 = [] := by decide +kernel

/-- The port enabled with RDM, its next frame at a cycle. -/
def rdmBefore (at_ : Nat) : Chip → Chip := fun c => livesOf [(Reg.DMX_CFG 15, 3)]
  ((responder c).setDmx 15 { DmxPort.reset with queue := [request7], selected := some ⟨at_, 1, true⟩ })

/-- The gap that the request needs: 150,400 cycles and 800 × 44 for each octet, 14.3 ms and tDGUARD. -/
def needed : Nat := 800 * (188 + 44 * ((rdmBefore 0 upChip).rdmNext 15 1 request7).1.length) + 11440000 + 40000

/-- Whether the first request of the port is too old, and whether the port is in use and free. -/
def tooOld (c : Chip) (r : RdmRequest) : Bool := r.host && !r.started && decide (r.accepted + 800000000 ≤
  max c.cycle (max (c.dmxPort 15).frame.ends (c.dmxPort 15).busyEnd))
def mayStart (c : Chip) : Bool := c.drives && bit (c.lv (Reg.DMX_CFG 15)) 0 && bit (c.lv (Reg.DMX_CFG 15)) 1 &&
  (c.dmxPort 15).active.isNone

theorem meets_RdmRequestsRunInTheirGaps_start :
    (let c := (upWith (rdmBefore needed)).chip
     (c.dmxPort 15).queue = request7 :: [] ∧ tooOld c request7 = false ∧ mayStart c = true ∧ c.nextDmx 15 = needed) ∧
    (let c := (upWith (rdmBefore (needed - 1))).chip
     (c.dmxPort 15).queue = request7 :: [] ∧ mayStart c = true ∧ c.nextDmx 15 < needed) ∧
    (let c := (upWith fun c => { rdmBefore needed c with cycle := 800000000 }).chip
     (c.dmxPort 15).queue = request7 :: [] ∧ tooOld c request7 = true) ∧
    (let c := (upWith rdmWaits).chip
     (c.dmxPort 15).queue = request7 :: [] ∧ tooOld c request7 = false ∧ mayStart c = false) ∧
    (up.chip.dmxPort 15).queue = [] := by decide +kernel

/-- The request under way, sent at cycle 0. -/
def rdmActive : Chip → Chip := fun c => c.setDmx 15 { DmxPort.reset with active := some request7, busyEnd := 1 }

/-- A discovery under way with its first branch. -/
def branching : RdmRequest := ⟨1023, 7, true, .discover false none [(0, 2 ^ 48 - 2)], 0, true⟩

/-- A discovery under way that mutes a responder that it has found. -/
def muting : RdmRequest := ⟨1023, 7, true, .discover false (some 5) [], 0, true⟩

/-- A response begins in time 2.8 ms after the request ends, and no later. -/
theorem meets_RdmRequestsRunInTheirGaps_response :
    ((upWith rdmActive).chip.dmxPort 15).active = some request7 ∧ (List.replicate 257 (0 : Byte)).length ≤ 257 ∧
    ((upWith fun c => { rdmActive c with cycle := 2240001 + usCycles (96 + 12 + 44 * 257) }).chip.runToCycle 1).responseBegan 96 257 ≤
      1 + 2240000 ∧
    1 + 2240000 < ((upWith fun c => { rdmActive c with cycle := 2240002 + usCycles (96 + 12 + 44 * 257) }).chip.runToCycle
      1).responseBegan 96 257 ∧
    ((upWith (·.setDmx 15 { DmxPort.reset with active := some branching })).chip.dmxPort 15).active = some branching ∧
    ((upWith (·.setDmx 15 { DmxPort.reset with active := some muting })).chip.dmxPort 15).active = some muting ∧
    (up.chip.dmxPort 15).active = none := by decide +kernel

/-! ### Network ports and streams -/

/-- Port 4 or another with its link up. -/
def linked (p : Nat) : Chip → Chip := fun c => c.setPort p { c.port p with link := true }

/-- A frame of n octets to an address of first octet a, with its FCS. -/
def frameTo (a : Byte) (n : Nat) : List Byte :=
  (a :: List.replicate (n - 5) 0) ++ leBytes 4 (crc32 (a :: List.replicate (n - 5) 0))

/-- What a reader takes of it before the FCS. -/
def body (f : List Byte) : List Byte := f.take (f.length - 4)

set_option maxRecDepth 200000 in
theorem meets_ReceivedFramesAndPausesAreServed : (upWith (linked 4)).chip.portUp 4 = true ∧
    (List.replicate 63 (0 : Byte)).length < 64 ∧
    bits ((upWith (linked 4)).chip.lv (Reg.NET_MAXLEN 4)) 0 14 < (List.replicate 9217 (0 : Byte)).length ∧
    64 ≤ (frameTo 0 64).length ∧ (frameTo 0 64).length ≤ bits ((upWith (linked 4)).chip.lv (Reg.NET_MAXLEN 4)) 0 14 ∧
    ofLE ((List.replicate 64 (0 : Byte)).drop 60) ≠ crc32 (body (List.replicate 64 0)) ∧
    ofLE ((frameTo 0 64).drop 60) = crc32 (body (frameTo 0 64)) ∧
    (upWith fun c => livesOf [(Reg.NET_VLAN 4, 0x8000)] (linked 4 c)).chip.vlanPasses 4 (frameHead (body (frameTo 0 64))) = false ∧
    (upWith (linked 4)).chip.vlanPasses 4 (frameHead (body (frameTo 2 64))) = true ∧
    ofLE ((frameTo 2 64).drop 60) = crc32 (body (frameTo 2 64)) ∧
    (upWith (linked 4)).chip.dstPasses 4 (frameHead (body (frameTo 2 64))).dst = false ∧
    (upWith (linked 4)).chip.vlanPasses 4 (frameHead (body (frameTo 0 64))) = true ∧
    (upWith (linked 4)).chip.dstPasses 4 (frameHead (body (frameTo 0 64))).dst = true := by decide +kernel

/-- Port 3 with its link up and the watchdog at 20 ms, held from cycle 0 until a cycle. -/
def heldTo (e : Nat) : Chip → Chip := fun c => livesOf [(Reg.NET_PAUSE_WD 3, 1 + 20000 * 4096)]
  (c.setPort 3 { c.port 3 with link := true, pauseEnd := some e, pauseFrom := some 0 })

theorem meets_ReceivedFramesAndPausesAreServed_pause :
    (let c := (upWith (linked 3)).chip
     c.portUp 3 = true ∧ (c.port 3).tripped = none ∧ (c.port 3).pauseEnd = none ∧
      max c.cycle (c.port 3).txEnd < c.cycle + ceilDiv (65535 * 4096) (c.portRate 3)) ∧
    (let c := (upWith fun c => c.setPort 3 { c.port 3 with link := true, txEnd := 10 ^ 9 }).chip
     c.portUp 3 = true ∧ (c.port 3).pauseEnd = none ∧
      c.cycle + ceilDiv (65535 * 4096) (c.portRate 3) ≤ max c.cycle (c.port 3).txEnd) ∧
    (upWith (heldTo 0)).chip.portUp 3 = true ∧ ((upWith (heldTo 0)).chip.port 3).pauseEnd ≠ none ∧
    ((upWith (heldTo 0)).chip.port 3).heldAt ≤ (upWith (heldTo 0)).chip.cycle ∧
    (let c := (upWith fun c => c.setPort 3 { c.port 3 with link := true, pauseEnd := some (10 ^ 9 + 5), heldAt := 10 ^ 9 }).chip
     c.portUp 3 = true ∧ (c.port 3).pauseEnd ≠ none ∧ c.cycle < (c.port 3).heldAt ∧
      c.cycle + ceilDiv (1 * 4096) (c.portRate 3) ≤ (c.port 3).heldAt) ∧
    ((upWith (·.setPort 3 { NetPort.reset with link := true, tripped := some 0 })).chip.port 3).tripped ≠ none ∧
    (up.chip.port 3).tripped = none := by decide +kernel

theorem meets_ReceivedFramesAndPausesAreServed_limits :
    (upWith (heldTo 16000000)).chip.limitOf 3 = some 16000000 ∧ ((upWith (heldTo 16000000)).chip.port 3).pauseFrom = some 0 ∧
    ((upWith (heldTo 16000000)).chip.port 3).pauseEnd = some 16000000 ∧ 0 + 16000000 ≤ 16000000 ∧
    ((upWith (heldTo 15999999)).chip.port 3).pauseEnd = some 15999999 ∧ 15999999 < 0 + 16000000 ∧
    (up.chip.port 3).pauseEnd = none ∧ (up.chip.port 3).link = false ∧ ((upWith (linked 3)).chip.port 3).link = true ∧
    (!(up.chip.port 3).link && bit (up.chip.lv (Reg.NET_MODE 3)) 5 && up.chip.domainOn (portDomain 3)) = true ∧
    (let c := (upWith (livesOf [(Reg.NET_MODE 3, 0x100)])).chip
     (!(c.port 3).link && bit (c.lv (Reg.NET_MODE 3)) 5 && c.domainOn (portDomain 3)) = false) := by decide +kernel

/-- Port 3 in low-power idle's reach. -/
def sleepy : Chip → Chip := fun c => regsOf [(Reg.NET_EEE_TW 3, 1)] (livesOf [(Reg.NET_EEE 3, 1)]
  (c.setPort 3 { c.port 3 with link := true, eeeAn := true }))

/-- A solicitation sent a number of times. -/
def solicited (n : Nat) : Solicit := ⟨some (.mbox 0), 7, true, 1, n, 0⟩

/-- Whether port 3 may enter it, and the instant that its entry looks at. -/
def mayIdle (c : Chip) : Bool := c.lpiAllowed 3 && !c.lpiNow 3 && (c.port 3).queue.isEmpty && (c.port 3).backlog.isEmpty
def idleFrom (c : Chip) : Chip := c.runToCycle ((c.port 3).txEnd + 800 * bits (c.lv (Reg.NET_EEE 3)) 8 8)

/-- A transmit ring 255 of 16 slots whose first entry names port 4. -/
def txJobs : Chip → Chip := fun c =>
  { ((regsOf [(Reg.RING_CFG 255, 0x45), (Reg.RING_BASE_LO 255, 0x400)] c).setRing 255
      { Ring.reset with active := true, prod := 1 }) with ringMem := [(16, 2 ^ 511 + 4 * 2 ^ 78)] }

theorem meets_PortsSendReportsJobsAndSolicitations :
    (let c := (upWith fun c => livesOf [(Reg.NET_MODE 4, 0x120)] (linked 4 c)).chip
     c.portUp 4 = true ∧ bit (c.lv (Reg.NET_MODE 4)) 8 = true) ∧ up.chip.portUp 4 = false ∧
    (mayIdle (upWith sleepy).chip = true ∧ (idleFrom (upWith sleepy).chip).nextSend 3 = none) ∧
    (let c := (upWith fun c => genIn .running false (sleepy c)).chip
     mayIdle c = true ∧ (idleFrom c).nextSend 3 ≠ none) ∧ mayIdle up.chip = false ∧
    (solicited 2).tries < 3 ∧ 3 ≤ (solicited 3).tries ∧
    ((upWith (·.setPort 4 { NetPort.reset with solicits := [solicited 3] })).chip.port 4).solicits = solicited 3 :: [] ∧
    (up.chip.port 4).solicits = [] ∧
    up.chip.takes mb false = true ∧ min 4 (pl (payloadOf mb 12) 0 0 3) = 4 ∧ bit (pl (payloadOf mb 12) 0 0 32) 3 = true ∧
    (upWith txJobs).chip.frontEntry 255 2 = some (2 ^ 511 + 4 * 2 ^ 78) ∧ min 4 (bits (2 ^ 511 + 4 * 2 ^ 78) 78 3) = 4 ∧
    (upWith txJobs).chip.portUp 4 = false ∧ (upWith fun c => txJobs (linked 4 c)).chip.portUp 4 = true ∧
    up.chip.frontEntry 255 2 = none := by decide +kernel

/-- Stream 15 of 2 by 1 pixels, with both paths. -/
def stream : Chip → Chip := fun c => c.setRec 15 15 (3 + 96 * 2 ^ 8 + 2 * 2 ^ 32 + 2 ^ 48)

theorem meets_StreamsTakeTheirPackets : (upWith stream).chip.pathOn 15 true = true ∧ up.chip.pathOn 15 true = false ∧
    (let c := (upWith fun c => stream (linked 0 c)).chip
     c.pathOn 15 true = true ∧ c.portUp (StreamRec.port (c.recAt 15 15) true) = true) ∧
    (upWith stream).chip.portUp (StreamRec.port ((upWith stream).chip.recAt 15 15) true) = false ∧
    packetFault ((upWith stream).chip.recAt 15 15) ⟨1, 96, 0, 0, []⟩ = some 0 ∧
    packetFault ((upWith stream).chip.recAt 15 15) ⟨2, 96, 0, 0, [⟨0, true, 0, []⟩]⟩ = some 2 ∧
    packetFault ((upWith stream).chip.recAt 15 15) ⟨2, 96, 0, 0, []⟩ = none ∧
    (let s := upWith fun c => (stream c).setStream 15 { Stream.reset with newerFrom := some 0, frames := [⟨0, 0, [], []⟩] }
     (s.chip.stream 15).newerFrom = some 0 ∧ (s.chip.stream 15).frames = ⟨0, 0, [], []⟩ :: []) ∧
    (up.chip.stream 15).newerFrom = none ∧
    ((upWith stream).chip.stream 15).downB = false ∧ ((upWith stream).chip.stream 15).downA = false ∧
    ((upWith (·.setStream 15 { Stream.reset with downB := true })).chip.stream 15).downB = true := by decide +kernel

/-! ### The pair -/

/-- A frame of a number and no payload: its header of 16 octets and its CRC-64. -/
def linkOctets (seq : Nat) : List Byte :=
  let h := leBytes 4 0 ++ leBytes 4 seq ++ leBytes 8 0
  h ++ leBytes 8 (crc64 (leBytes 4 seq ++ h))

/-- The link up with two kept frames, one of which a forwarded commit waits for. -/
def linkWith : Chip → Chip := fun c => c.setPair { c.pair with
  linkUp := true, laneGood := [true, true, true], spare := 2, rxSeq := 2 ^ 32 - 1, keep := [(6, []), (5, [])]
  mirrorWait := [⟨5, ⟨none, 0, 0x0103, 1, [], none⟩, none, 0, []⟩] }

theorem meets_LinkFollowsItsFrames : (upWith linkWith).chip.domainOn 10 = true ∧ (upWith linkWith).chip.pair.linkUp = true ∧
    linkCheck 0 (linkOctets 0) = true ∧ linkCheck 7 (linkOctets 7) = true ∧ linkCheck 0 (linkOctets 7) = false ∧
    (0 : Nat) = ((upWith linkWith).chip.pair.rxSeq + 1) % 2 ^ 32 ∧ (7 : Nat) ≠ ((upWith linkWith).chip.pair.rxSeq + 1) % 2 ^ 32 ∧
    ((6, []) : Nat × List Byte) ∈ (upWith linkWith).chip.pair.keep ∧ seqUpTo 6 6 = true ∧
    (upWith (paired .solo)).chip.pair.mirrorWait = [] ∧
    (upWith linkWith).chip.pair.laneGood.getD 2 false = true ∧ 2 = (upWith linkWith).chip.pair.spare ∧
    (0 : Nat) ≠ (upWith linkWith).chip.pair.spare ∧ (upWith linkWith).chip.pair.laneGood.all id = true ∧
    (upWith linkWith).chip.spareCalibrates = false ∧
    (let s := upWith fun c => linkWith c |> fun c => c.setPair { c.pair with laneGood := [true, false, true] }
     s.chip.pair.laneGood.getD 0 false = true ∧ 0 ≠ s.chip.pair.spare ∧ s.chip.pair.laneGood.all id = false ∧
       s.chip.pair.laneGood.getD 1 false = false) ∧ up.chip.pair.linkUp = false := by decide +kernel

/-- What an isle of rank 0, active, of pair 7 says of itself. -/
def peer7 : PeerInfo := ⟨7, 0, true, 0, 0, 0, 2, false, [1, 2, 3, 4], []⟩

/-- An isle of pair 7 and rank 1 in a state, its link down. -/
def inPair7 (i : IsleState) : Chip → Chip := fun c => livesOf [(Reg.PAIR_ID, 7)] (c.setPair { c.pair with inPair := true, rank := 1, isle := i })

theorem meets_LinkUpComparesTheIsles :
    (let c := (upWith (inPair7 .active)).chip
     c.domainOn 10 = true ∧ c.pair.linkUp = false ∧ c.pair.macWritten.contains (Reg.PEER_MAC_LO 3) = false ∧
      c.pair.inPair = true ∧ c.pair.isle = .active ∧ c.pair.rank = 1 ∧ peer7.active = true ∧
      peer7.pairId = c.lv Reg.PAIR_ID ∧ c.pair.yieldAt = none) ∧
    (let c := (upWith (inPair7 .standby)).chip
     ({ peer7 with missed := true } : PeerInfo).missed = true ∧ peer7.active = true ∧ c.pair.staleAt = none) ∧
    (upWith fun c => c.setPair { c.pair with inPair := true }).chip.pair.rank = 0 ∧ up.chip.pair.inPair = false ∧
    (upWith linkWith).chip.pair.linkUp = true := by decide +kernel

/-- A commit mirrored for a crossing. -/
def mirroredFor (csn : Nat) : MirrorCommit := { opcode := 0x0103, csn := csn, changes := [.warmReset] }

/-- A standby with its mirroring on, as changed, and what a mirrored commit asks of one that has no resync. -/
def standbyWith (f : Pair → Pair) : Chip := (upWith fun c => c.setPair (f (paired .standby c).pair)).chip
def takesMirrored (c : Chip) : Bool := c.domainOn 10 && c.pair.linkUp && c.pair.inPair && c.pair.mirrorOk && c.pair.isle.standing &&
  !c.update.handover

/-- The part with its link down since. -/
def lost (f : Chip → Chip) : Chip := (upWith fun c => (f c).setPair { (f c).pair with linkUp := false }).chip

/-- The part as a forwarded commit that no ack came for finds it. -/
def timedOut (c : Chip) (w : MirrorWait) : Chip :=
  let d := (c.setPair { c.pair with mirrorWait := [] }).tellMissed w.commit.target
  if w.commit.target < c.openCsn then d.tellMissed w.commit.target else d

set_option maxRecDepth 200000 in
theorem meets_IslesExchangeCommitsFerriesAndBeacons_commits :
    (let c := standbyWith id
     takesMirrored c = true ∧ c.pair.resync = false ∧ (mirroredFor 1).changes.contains .cross = false ∧ 0 < c.openCsn ∧
      (mirroredFor 0).csn < c.openCsn ∧ (mirroredFor 1).csn = c.openCsn ∧ c.openCsn < (mirroredFor 2).csn ∧ c.queueLevel < 1024 ∧
      c.pair.staleAt = none) ∧
    (let c := standbyWith fun p => { p with resync := true }
     takesMirrored c = true ∧ c.pair.resync = true ∧ c.pair.isle ≠ .active ∧ c.pair.pending = []) ∧
    (let w : MirrorWait := ⟨5, ⟨none, 0, 0x0103, 1, [], none⟩, none, 0, []⟩
     (upWith linkWith).chip.pair.mirrorWait = w :: [] ∧ w.header = none ∧ w.commit.slot = none ∧ w.commit.opcode ≠ 0x0202 ∧
      (timedOut (lost linkWith) w).refusedNow 1 [.warmReset] = none ∧
      (timedOut (lost fun c => { linkWith c with commits := List.replicate 1024 ⟨none, 0, 0, 2, [], none⟩ })
        { w with commit := { w.commit with target := 3 } }).refusedNow 3 [.warmReset] ≠ none) ∧
    (upWith fun c => { c with update := { c.update with handover := true } }).chip.update.handover = true ∧
    up.chip.pair.mirrorWait = [] ∧ up.chip.pair.linkUp = false := by decide +kernel

theorem meets_IslesExchangeCommitsFerriesAndBeacons_full :
    1024 ≤ ({ standbyWith id with commits := List.replicate 1024 ⟨none, 0, 0, 2, [], none⟩ } : Chip).queueLevel := by
  decide +kernel

/-- A ferry of frame 5 with nothing in it but a check. -/
def ferry5 : FerryData := ⟨5, 0, 0, 0, [], [(9, 1)], [], [], [], [], [], [], [], [], [], [], [], 64⟩

/-- An active isle that sends the ferry of frame 5, crossing 6 taken at cycle 800. -/
def sending (resync : Bool) : Chip → Chip := fun c => c.setPair { (paired .active c).pair with
  ferrySending := [(5, 64)], resync := resync, crossAt := [(6, 800)] }

/-- A standby that waits for it, and has or has not been told that it is late. -/
def awaiting (late : Bool) : Chip → Chip := fun c => { c.setPair { (paired .standby c).pair with
  beaconSeen := true, peerActive := true, ferryLate := late, lateOwed := late.toNat } with csn := 6 }

/-- What is awaited after a crossing. -/
def awaits (c : Chip) : Bool := decide (c.pair.isle = .active ∧ (c.pair.ferrySending.any fun e => e.1 == c.csn - 1) = true ∨
  c.pair.isle ≠ .active ∧ c.pair.isle.standing = true ∧ c.pair.mirrorOk = true ∧ c.pair.resync = false ∧ c.activeSeen = true ∧
    c.pair.received = none)

theorem meets_IslesExchangeCommitsFerriesAndBeacons :
    (let c := (upWith fun c => { sending true c with csn := 6 }).chip
     c.pair.isle = .active ∧ c.pair.ferrySending.find? (fun e => e.1 == ferry5.csn) = some (ferry5.csn, 64) ∧ c.pair.resync = true ∧
      c.update.handover = false ∧ c.pair.ferrySending.find? (fun e => e.1 == 6) = none ∧
      c.pair.crossAt.find? (fun e => e.1 == ferry5.csn + 1) = some (6, 800) ∧ c.pair.ferryLate = false ∧ awaits c = true ∧
      c.pair.linkAt ≤ c.fg.crossCycle) ∧
    (let c := (upWith (awaiting false)).chip
     c.pair.ferryLate = false ∧ awaits c = true ∧ c.csn ≠ 0 ∧ c.pair.linkAt ≤ c.fg.crossCycle) ∧
    (let c := (upWith (awaiting true)).chip
     c.pair.isle.standing = true ∧ c.pair.mirrorOk = true ∧ c.pair.resync = false ∧ c.pair.ferryLate.toNat = c.pair.lateOwed) ∧
    (let c := (upWith fun c => c.setPair { (awaiting false c).pair with lateOwed := 1 }).chip
     c.pair.ferryLate.toNat < c.pair.lateOwed) ∧
    (let c := (upWith fun c => { paired .active c with arbiter := { c.arbiter with running := some ⟨3, 0x0804, none, 0, [], 0, 0, 0, false⟩ } }).chip
     c.arbiter.running = some ⟨3, 0x0804, none, 0, [], 0, 0, 0, false⟩) ∧
    (let c := (upWith fun c => linked 3 (inPair7 .standby c)).chip
     c.portUp 3 = true ∧ c.domainOn 1 = true ∧ c.pair.inPair = true ∧ peer7.pairId = c.lv Reg.PAIR_ID ∧
      ({ peer7 with pairId := 8 } : PeerInfo).pairId ≠ c.lv Reg.PAIR_ID) := by decide +kernel

/-- A comparison that finds descriptor 9 different and excuses nothing. -/
theorem meets_IslesExchangeCommitsFerriesAndBeacons_differing :
    let c := (upWith fun c => c.setPair { (paired .standby c).pair with ownChecks := [(5, 9, 2)] }).chip
    ((c.differing ferry5).filter fun u => !c.excused ferry5 u) = [9] := by decide +kernel

/-! ### Metering and the early warning -/

/-- Feed 7 of one phase at 50 Hz, enabled, with samples to discard or none. -/
def metered (settle : Nat) : Chip → Chip := fun c =>
  c.setFeed 7 { Feed.reset with
    en := true, wiring := 2, vfs := 1000000, afs := 1000000, settle := settle, hist := [[1, 0, 0, 1, 0, 0, 0]] }

/-- Modulators that stand still, so that each channel is faulted and reads 0; the sample before was at full voltage and current. -/
def still : List (BitVec 2560) := List.replicate 7 0

/-- The feed as that sample leaves it before its energy is taken. -/
def sampled (c : Chip) : Feed :=
  let x := c.feed 7
  let y : Feed := { x with
    filters := (List.range 7).map fun ch => (x.filters.getD ch .reset).stream (still.getD ch 0)
    faulted := (List.range 7).map fun ch => heldLevel (still.getD ch 0) }
  let z : Feed := { y with plain := (c.calibrated 7 y :: y.plain).take 8192 }
  { z with hist := (c.phased 7 z :: z.hist).take 8192 }

theorem meets_SamplesAddEnergyAndPulsesFollow : still.length = 7 ∧ heldLevel (still.getD 6 0) = true ∧
    heldLevel ((1 : BitVec 2560) <<< 2559) = false ∧ heldLevel ((1 : BitVec 2560) <<< 1535) = true ∧ ((upWith (metered 64)).chip.feed 7).en = true ∧
    (upWith (metered 64)).chip.meterHeld = false ∧ 0 < ((upWith (metered 1)).chip.feed 7).settle ∧
    ((upWith (metered 0)).chip.feed 7).settle = 0 ∧ 0 ∈ (sampled (upWith (metered 0)).chip).phases ∧
    (up.chip.feed 7).en = false ∧ ((upWith (metered 0)).chip.feed 7).faulted.getD 6 false = false ∧
    (up.chip.pulse 7).backlog = 0 ∧
    (let x := (upWith (·.setPulse 7 { Pulse.reset with en := true, backlog := 1 })).chip.pulse 7
     x.en = true ∧ x.high = false ∧ 0 < x.backlog) ∧
    ((upWith (·.setPulse 7 { Pulse.reset with high := true })).chip.pulse 7).high = true := by decide +kernel

theorem meets_SamplesAddEnergyAndPulsesFollow_energy :
    ∃ e, e ∈ energyParts ((sampled (upWith (metered 0)).chip).power 0).1 ((sampled (upWith (metered 0)).chip).power 0).2 ∧ 0 < e.2 := by
  refine ⟨_, List.mem_cons_self, ?_⟩
  decide +kernel

/-- Sources of the early warning enabled. -/
def warnOn : Chip → Chip := livesOf [(Reg.MTR_EW_CFG, 7)]

/-- A journal that a command asked for. -/
def asked : Journal := ⟨1, 2, 0, 0, [], [], 0⟩

theorem meets_EarlyWarningsWriteTheJournal :
    (let c := (upWith warnOn).chip
     c.warning.pin = false ∧ bit (c.lv Reg.MTR_EW_CFG) 0 = true ∧ c.domainOn 1 = true ∧ c.power.held = false ∧
      c.warning.lastJournal = none ∧ c.warning.writing = none ∧ c.warning.vaonB = true ∧ bit (c.lv Reg.MTR_EW_CFG) 2 = true) ∧
    (let w := (upWith fun c => { c with cycle := 800000000, warning := { c.warning with lastJournal := some 0 } }).chip
     w.warning.lastJournal = some 0 ∧ 0 + 800000000 ≤ w.cycle) ∧
    (let w := (upWith fun c => { c with cycle := 799999999, warning := { c.warning with lastJournal := some 0 } }).chip
     w.warning.lastJournal = some 0 ∧ w.cycle < 0 + 800000000) ∧
    bit ((upWith (livesOf [(Reg.MTR_EW_CFG, 6)])).chip.lv Reg.MTR_EW_CFG) 0 = false ∧
    (let c := (upWith fun c => warnOn { c with warning := { c.warning with pin := true } }).chip
     c.warning.pin = true ∧ c.warns = true) ∧
    (let c := (upWith fun c => { c with warning := { c.warning with active := true } }).chip
     c.warning.active = true ∧ c.warns = false) ∧ up.chip.warning.active = false ∧
    (upWith fun c => { c with warning := { c.warning with writing := some asked } }).chip.warning.writing = some asked ∧
    (upWith (without 1)).chip.domainOn 1 = false ∧ asked.cause = 1 ∧ asked.seq % 256 ≠ 1 := by decide +kernel

/-! ### Calibration and the maintenance arbiter -/

/-- An activity of a precedence running, and one that waits. -/
def busyWith (prec : Nat) (finished : Bool) : Chip → Chip := fun c =>
  { c with arbiter := { c.arbiter with running := some ⟨prec, 0x0A01, none, 0, [15], 0, 0, 0, finished⟩ } }
def waits (prec : Nat) : Activity := ⟨prec, 0, none, 0, [], 0, 0, 0, false⟩

/-- The first die reading as reference on sensor 7, and automatic runs on. -/
def referred : Chip → Chip := fun c => { c with calib := { c.calib with refs := List.replicate 8 (some 0) } }

theorem meets_MaintenanceRunsOneAtATime : up.chip.arbiterFree = true ∧ up.chip.domainOn 4 = true ∧ up.chip.domainOn 3 = true ∧
    (upWith (without 4)).chip.domainOn 4 = false ∧
    up.chip.rd (Reg.ECC_SCRUB_POS 1) + 1 < up.chip.patrolBursts 1 ∧ 0 < up.chip.patrolBursts 0 ∧
    up.chip.patrolBursts 1 ≤ (upWith (regsOf [(Reg.ECC_SCRUB_POS 1, 1023)])).chip.rd (Reg.ECC_SCRUB_POS 1) + 1 ∧
    (upWith (busyWith 5 false)).chip.arbiterFree = false ∧
    ((upWith (busyWith 5 false)).chip.arbiter.waiting.any fun a => a.prec == 7 && a.args == [1]) = false ∧
    ((upWith fun c => { c with arbiter := { c.arbiter with waiting := [{ waits 7 with args := [1] }] } }).chip.arbiter.waiting.any
      fun a => a.prec == 7 && a.args == [1]) = true ∧
    (let s := upWith fun c => { c with arbiter := { c.arbiter with waiting := [waits 6, waits 1] } }
     s.chip.arbiter.running = none ∧ waits 1 ∈ s.chip.arbiter.waiting ∧ (waits 1).prec < (waits 6).prec) ∧
    (let c := (upWith referred).chip
     c.calib.auto = true ∧ c.domainOn 1 = true ∧ c.calib.refs.getD 7 none = some 0 ∧ c.calib.deltaT * 256 < ((2561 : Int) - 0).natAbs ∧
      ((2560 : Int) - 0).natAbs ≤ c.calib.deltaT * 256) ∧ up.chip.calib.refs.getD 7 none = none ∧
    (upWith referred).chip.autoBusy = false ∧
    (upWith fun c => { c with arbiter := { c.arbiter with waiting := [autoRun] } }).chip.autoBusy = true := by decide +kernel

theorem meets_MaintenanceRunsOneAtATime_calibration :
    (let c := (upWith fun c => { c with arbiter := { c.arbiter with waiting := [waits 6, autoRun] } }).chip
     c.arbiter.running = none ∧ firstWaiting c.arbiter.waiting = some autoRun) ∧
    firstWaiting [autoRun, waits 1] ≠ some autoRun ∧ up.chip.update.handover = false ∧
    (let c := (upWith fun c => { busyWith 5 false c with calib := { c.calib with items := [.showLane], unit := 3 } }).chip
     3 < calUnits .showLane ∧ c.calCurrent .showLane 3 = true ∧ c.calCurrent .showLane 2 = false) ∧
    (let c := (upWith fun c => { busyWith 5 false c with calib := { c.calib with items := [.straitLane] } }).chip
     c.calCurrent .straitLane c.straitUnit = true ∧ c.straitUnit < 3) ∧
    (let c := (upWith fun c => { busyWith 4 false c with calib := { c.calib with span := some ⟨7, 6, 0, 0, 0, 0, 0, false, 10, 9, 5⟩ } }).chip
     c.calib.span = some ⟨7, 6, 0, 0, 0, 0, 0, false, 10, 9, 5⟩ ∧ (decide (((10 : Nat) : Rat) ≤ 9) && decide (c.cycle ≤ 5)) = false ∧ c.arbiter.running = some ⟨4, 0x0A01, none, 0, [15], 0, 0, 0, false⟩) ∧
    (let c := (upWith (busyWith 5 true)).chip
     c.domainOn 1 = true ∧ c.power.held = false ∧ c.activityHeld ⟨5, 0x0A01, none, 0, [15], 0, 0, 0, true⟩ = false) ∧
    (⟨5, 0x0A01, none, 0, [15], 0, 0, 0, false⟩ : Activity).endsElsewhere = true ∧ (waits 2).endsElsewhere = false := by
  decide +kernel

/-- Four samples at full scale in phase with their reference have results. -/
theorem meets_MaintenanceRunsOneAtATime_span :
    let k : CalSpan := ⟨7, 0, 4, 0, 4000000, 1, 0, true, 10, 10, 0⟩
    let c := (upWith fun c => c.setFeed 7 { Feed.reset with en := true, wiring := 2, vfs := 1000000, afs := 1000000, freqOk := true }).chip
    (decide ((k.need : Rat) ≤ k.cycles) && decide (c.cycle ≤ k.dueAt)) = true ∧ k.ok = true ∧ k.feed < 8 ∧ (c.feed k.feed).freqOk = true ∧ (c.spanResult k 1000000 0).isSome = true := by decide +kernel

/-! ### Updates, the control cores, power and boundary scan -/

/-- Type n on trial, its criteria held from cycle 0 and its window to a cycle. -/
def trying (n : Nat) (ends : Nat) : Chip → Chip := fun c =>
  c.setType n { c.imageType n with onTrial := true, trialEnd := ends, slot1 := (c.imageType n).slot0, running := 1 }

/-- The part in the boot of CTRL with nothing that verifies. -/
def recovering : Chip → Chip := fun c =>
  { c with power := { c.power with stage := 6, recovery := true, on := List.replicate 3 true ++ List.replicate 9 false } }

theorem meets_TrialsAndControlCoresEndAsTheyMust :
    (let c := (upWith fun c => { c with update := { c.update with handover := true } }).chip
     c.update.handover = true ∧ c.power.held = false ∧ c.domainOn 1 = true ∧ c.warning.writing = none) ∧
    up.chip.update.handover = false ∧
    (upWith fun c => { c with warning := { c.warning with writing := some asked } }).chip.warning.writing = some asked ∧
    (let c := (upWith (trying 4 4000000000)).chip
     (c.imageType 4).onTrial = true ∧ c.reverting 4 = false ∧
       max c.cycle ((c.imageType 4).heldFrom + 4000000000) ≤ (c.imageType 4).trialEnd ∧
       (c.commits.any fun m => m.changes.contains (.revert 4 0)) = false) ∧
    (let c := (upWith (trying 4 3999999999)).chip
     (c.imageType 4).trialEnd < max c.cycle ((c.imageType 4).heldFrom + 4000000000)) ∧
    (let c := (upWith (trying 4 4000000000)).chip
     c.update.handover = false ∧ c.power.held = false ∧ c.domainOn 1 = true ∧ (c.imageType 4).linkHeld ≠ some false) ∧
    (let c := (upWith fun c => (trying 4 4000000000 c).setType 4 { (trying 4 4000000000 c).imageType 4 with linkHeld := some false }).chip
     (c.imageType 4).linkHeld = some false) ∧ (upWith (without 6)).chip.domainOn 6 = false ∧
    up.chip.power.debug = false ∧ 7 ≤ up.chip.power.stage ∧ ((upWith (trying 0 1)).chip.imageType 0).onTrial = true ∧ (up.chip.imageType 0).onTrial = false ∧
    up.chip.takesWrite Reg.CTRL_RESTART = true ∧ bit ((upWith (regsOf [(Reg.PWR_EVT, 2)])).chip.rd Reg.PWR_EVT) 1 = true ∧
    bit (up.chip.rd Reg.PWR_EVT) 1 = false ∧ up.chip.power.recovery = false ∧ up.chip.update.types ≠ [] := by decide +kernel

/-- A debugger that has halted the cores keeps the watchdog from counting. -/
theorem meets_TrialsAndControlCoresEndAsTheyMust_halted (h : Config.coreHalted 0 = true) :
    (let c := (upWith fun c => { c with power := { c.power with debug := true } }).chip
     c.domainOn 1 = true ∧ (c.power.debug && Config.coreHalted c.cycle) = true) := by
  refine ⟨by decide +kernel, ?_⟩
  show (true && Config.coreHalted 0) = true
  rw [h]; rfl

/-- A header of a CTRL image with no body, and the window that holds it with a signature of zeros. -/
def emptyHeader : List Byte := leBytes 4 0x4D494B58 ++ List.replicate 28 0 ++ sha384 [] ++ List.replicate 80 0

def recoverWith (hdr : List Byte) : State := upWith fun c =>
  { recovering c with ringMem := ((List.range 4).map fun i => (i, ofLE ((hdr.drop (64 * i)).take 64))).filter fun e => e.2 != 0 }

theorem meets_TrialsAndControlCoresEndAsTheyMust_recover :
    let s := recoverWith emptyHeader
    s.chip.takesWrite Reg.BOOT_RECOVER = true ∧ (1 : Word).getLsbD 0 = true ∧ s.chip.power.recovery = true ∧
    s.chip.power.stage = 6 ∧ s.chip.power.queue = [] ∧
    ((recoverWith []).chip.imageType 0).verifies (imageOf 0 ((recoverWith []).chip.windowOctets 0 256) []) = false := by decide +kernel

/-- An image holds where its header, its length and its hash do and its signature verifies. -/
theorem image_holds (hdr body : List Byte)
    (h1 : (le hdr 0 4 == 0x4D494B58 && bits (le hdr 4 1) 0 3 == 0 && decide (le hdr 0x74 1 < 4)) = true)
    (h2 : signatureOk (le hdr 0x74 1) (hdr.take 0xA0) ((hdr.drop 0xA0).take 96) = true)
    (h3 : body.length = le hdr 0x18 4) (h4 : (sha384 body == (hdr.drop 0x20).take 48) = true) : (imageOf 0 hdr body).valid = true := by
  show (le hdr 0 4 == 0x4D494B58 && bits (le hdr 4 1) 0 3 == 0 && decide (le hdr 0x74 1 < 4) &&
    signatureOk (le hdr 0x74 1) (hdr.take 0xA0) ((hdr.drop 0xA0).take 96) && body.length == le hdr 0x18 4 &&
    sha384 body == (hdr.drop 0x20).take 48) = true
  rw [h1, h2, h3, h4, beq_self_eq_true]
  rfl

/-- What the window shows as a header, and the body after it. -/
def shownHdr : List Byte := (recoverWith emptyHeader).chip.windowOctets 0 256
def shownBody : List Byte := (recoverWith emptyHeader).chip.windowOctets 256 (min (2 ^ 23 - 256) (le shownHdr 0x18 4))

set_option maxRecDepth 200000 in
theorem meets_TrialsAndControlCoresEndAsTheyMust_verifies
    (h : signatureOk (le shownHdr 0x74 1) (shownHdr.take 0xA0) ((shownHdr.drop 0xA0).take 96) = true) :
    ((recoverWith emptyHeader).chip.imageType 0).verifies (imageOf 0 shownHdr shownBody) = true := by
  have v := image_holds shownHdr shownBody (by decide +kernel) h (by decide +kernel) (by decide +kernel)
  have k : (decide (((recoverWith emptyHeader).chip.imageType 0).counter ≤ (imageOf 0 shownHdr shownBody).secVer) &&
    decide ((imageOf 0 shownHdr shownBody).keyId < 4)) = true := by decide +kernel
  rw [ImageType.verifies, v, Bool.true_and, k]

theorem meets_SuppliesAndResetsKeepWhatTheyMust :
    (upWith fun c => { c with power := { c.power with supply := false } }).chip.power.supply = false ∧
    State.reset.chip.power.stage = 0 ∧ up.chip.power.supply = true ∧ up.chip.power.stage ≠ 0 ∧ up.chip.power.mainPg = true ∧
    up.chip.power.on.length = 12 ∧
    (let s := upWith fun c => { c with power := { c.power with mainPg := false, stage := 4, mainUpAt := some 1 } }
     s.chip.power.mainPg = false ∧ s.chip.power.supply = true ∧ s.chip.power.stage = 4 ∧ s.chip.power.mainUpAt.isSome = true) ∧ (∀ n, n < 5 → (up.chip.imageType n).onTrial = false) ∧
    up.chip.power.perst = false ∧ (upWith fun c => { c with power := { c.power with perst := true } }).chip.power.perst = true ∧
    (let s := upWith fun c => { c with power := { c.power with queue := [(11, false, 2)] } }
     s.chip.power.queue = (11, false, 2) :: [] ∧ s.chip.power.mainPg = true ∧ 11 < s.chip.power.on.length ∧ s.chip.power.stage = 8) ∧
    up.chip.power.queue.head?.map (·.1) ≠ some 11 := by
  decide +kernel

/-- Debug unlocked, with PROVISION shifted in and epoch 7 in force. -/
def unlocked : Chip → Chip := fun c => { epoch7 c with power := { (epoch7 c).power with debug := true, jtag := 0x41 } }

theorem meets_BoundaryScanTakesAndReturnsTheBalls : State.reset.chip.power.stage = 0 ∧ up.chip.power.supply = true ∧ up.chip.power.pins = (0xFF == 3 || 0xFF == 4 || 0xFF == 5) ∧
    up.chip.power.pins ≠ (3 == 3 || 3 == 4 || 3 == 5) ∧
    (upWith fun c => { c with power := { c.power with pins := true } }).chip.power.pins = true ∧
    (upWith unlocked).chip.power.debug = true ∧ (upWith unlocked).chip.power.jtag = 0x41 ∧
    (upWith unlocked).chip.power.epoch = some 7 ∧ up.chip.power.debug = false ∧
    (upWith fun c => { c with power := { c.power with pins := true, jtag := 3 } }).chip.power.jtag ≠ 5 ∧
    (upWith fun c => { c with power := { c.power with supply := false } }).chip.power.supply = false := by decide +kernel

/-! ### Single steps with results worked out from the spec -/

/-- SEAL_OFFSET's range begins at 10 µs; a write is pending until a crossing (R39, R51, R455). -/
theorem test_write_clamps : (after (.registerWrite Reg.SEAL_OFFSET (5, 15) []) up).rd Reg.SEAL_OFFSET = 10 ∧
    (after (.registerWrite Reg.SEAL_OFFSET (5, 15) []) up).lv Reg.SEAL_OFFSET = up.chip.lv Reg.SEAL_OFFSET := by decide +kernel

/-- W1C: each 1 clears its bit and a 0 has no effect. -/
theorem test_w1c : (after (.registerWrite (Reg.TB_EVT 3) (2, 15) []) (upWith (regsOf [(Reg.TB_EVT 3, 7)]))).rd (Reg.TB_EVT 3) = 5 := by
  decide +kernel

/-- The first crossing is crossing 1, and is answered with its CSN (R31, R47). -/
theorem test_first_crossing : (after .explicitCrossing (upWith called)).csn = 1 ∧
    (after .explicitCrossing (upWith called)).fg.explicit = [] := by decide +kernel

/-- A write takes its enabled bytes only (R462). -/
theorem test_byte_enable : (after (.registerWrite Reg.SEAL_OFFSET (0x7FF, 2) []) up).rd Reg.SEAL_OFFSET =
    0x700 + up.chip.rd Reg.SEAL_OFFSET % 256 := by decide +kernel

/-- 59.94 Hz: crossing 1 of the grid stands at 16,683,333.3 ns, in whole nanoseconds (R25). -/
theorem test_grid : ({ FrameGen.reset with rateN := 60000, rateD := 1001 } : FrameGen).instant 1 = 16683333 ∧
    ({ FrameGen.reset with rateN := 60000, rateD := 1001 } : FrameGen).indexFrom 16683334 = 2 := by decide +kernel

/-- E1.31 sequence numbers: 20 back is discarded, 21 back is taken (R170). -/
theorem test_sequence : staleSeq 100 80 = true ∧ staleSeq 100 79 = false ∧ staleSeq 100 101 = false ∧ staleSeq 0 255 = true := by
  decide +kernel

/-- The configuration space of a revision A1 part: its IDs, and the capabilities in the order of the table (R473). -/
theorem test_config : configWord 0 = some 0x0B411E5A ∧ (configWord 8).map (· % 256) = some 0x11 ∧
    [0x40, 0x50, 0x70].map (fun o => (configWord o).map (bits · 8 8)) = [some 0x50, some 0x70, some 0] ∧
    (configWord 0x1C0).map (bits · 20 12) = some 0 := by decide +kernel

end Sys2Proof.Tests
end

section
/-! SUPPORT. How a register write behaves: the gate of BAR0 case by case, the write of a register by its access code, and a
write of one dword or of two. Then the obligation about register writes. -/

namespace Sys2Proof.Machine

open Sys2Proof

/-! ### The gate of BAR0 -/

/-- Before the endpoint serves an offset, a write there changes nothing (R437). -/
theorem Chip.barWrite_of_notReady (c : Chip) (off len : Nat) (f : Chip → Chip) (h : c.barReady off = false) :
    c.barWrite off len f = c := by simp [Chip.barWrite, h]

/-- A served write for which there is a cause fails with it (R263). -/
theorem Chip.barWrite_of_cause (c : Chip) (off len k : Nat) (f : Chip → Chip) (hr : c.barReady off = true)
    (hk : c.barCause off = some k) :
    c.barWrite off len f = c.writeFailed false off hostReq (c.rd Reg.HB_EPOCH) k 0 len := by
  simp [Chip.barWrite, hr, hk]

/-- During a warm reset every offset outside the power block has cause 1 (R434). -/
theorem Chip.barCause_of_warm (c : Chip) (off : Nat) (hw : c.power.warm = true) (hp : ¬ (0xD000 ≤ off ∧ off < 0xD100)) :
    c.barCause off = some 1 := by
  have hp' : inPowerBlock off = false := by simpa [inPowerBlock] using hp
  simp [Chip.barCause, hw, hp']

/-- An offset in no block has cause 4 (R466). -/
theorem Chip.barCause_of_unmapped (c : Chip) (off : Nat) (hw : c.power.warm = false) (hv : liveView off = false)
    (hb : blockAt off = none) : c.barCause off = some 4 := by
  simp [Chip.barCause, hw, hv, hb]

/-- A block whose domain is off has cause 1 (R467). -/
theorem Chip.barCause_of_domainOff (c : Chip) (off : Nat) (e : Block × Nat) (hw : c.power.warm = false)
    (hv : liveView off = false) (hb : blockAt off = some e) (hd : c.domainOn e.1.domain = false) :
    c.barCause off = some 1 := by
  simp [Chip.barCause, hw, hv, hb, hd]

/-- The live view ignores writes (R469). -/
theorem Chip.barWrite_of_liveView (c : Chip) (off len : Nat) (f : Chip → Chip) (hw : c.power.warm = false)
    (hv : liveView off = true) : c.barWrite off len f = c := by
  have hk : c.barCause off = none := by simp [Chip.barCause, hw, hv]
  simp [Chip.barWrite, hk, hv]

/-! ### A register by its access code (R7, R8, R463) -/

section
variable (c : Chip) (off v be : Nat)

/-- An offset at which a block has no register ignores a write. -/
theorem Chip.writeReg_of_noRow (h : rowAt off = none) : c.writeReg off v be = c := by simp [Chip.writeReg, h]

variable {r : Row} (hr : rowAt off = some r)
include hr

/-- A register that takes no writes, and one that only acts on them. -/
theorem Chip.writeReg_of_ro_or_wo (ha : r.access = .ro ∨ r.access = .wo) : c.writeReg off v be = c := by
  rcases ha with ha | ha <;> simp [Chip.writeReg, hr, ha]

/-- A register that is written takes the enabled octets, clamped. -/
theorem Chip.writeReg_of_rw_or_rwb (ha : r.access = .rw ∨ r.access = .rwb) :
    c.writeReg off v be = c.wr off (clampReg c off (mergeBytes (c.rd off) v be)) := by
  rcases ha with ha | ha <;> simp [Chip.writeReg, hr, ha]

/-- A register whose bits are cleared by writing them as 1. -/
theorem Chip.writeReg_of_w1c (ha : r.access = .w1c) :
    c.writeReg off v be = c.wr off (c.rd off - (c.rd off &&& (v &&& enableMask be))) := by
  simp [Chip.writeReg, hr, ha, Chip.clearEvt]

end

/-! ### A write of one dword -/

/-- REGISTER_WRITE of one dword. -/
theorem exec_registerWrite_one (s : State) (off : Nat) (v : Word) (be : Nat) (h4 : off % 4 = 0) (hoff : off < 0x2000000)
    (hbe : be < 16) : exec (.registerWrite off (v, be) []) s = writeDword off v be s := by
  change execRegisterWrite off (v, be) [] s = _
  simp [execRegisterWrite, h4, hoff, hbe]

/-- A write that enables no octet has no effect. -/
theorem writeDword_of_noOctet (s : State) (off : Nat) (v : Word) : writeDword off v 0 s = .next s := by simp [writeDword]

/-- A write that enables an octet is the register's own effect, or else reaches it through the gate of BAR0. -/
theorem writeDword_eq_ownEffect (s : State) (off : Nat) (v : Word) (be : Nat) (hbe : 0 < be) :
    writeDword off v be s = ((s.chip.ownEffect off v be).getD
      (onChip fun _ c => c.barWrite off 4 fun c => c.writeReg off v.toNat be)) s := by
  unfold writeDword Chip.ownEffect
  rw [if_neg hbe.ne']
  cases blockAt off with
  | none => rfl
  | some e => rfl

/-- A write of a register that has an effect of its own is that effect. -/
theorem writeDword_of_ownEffect (s : State) (off : Nat) (v : Word) (be : Nat)
    (f : State → Host.Outcome State Fault Refusal) (hbe : 0 < be) (hf : s.chip.ownEffect off v be = some f) :
    writeDword off v be s = f s := by
  rw [writeDword_eq_ownEffect s off v be hbe, hf, Option.getD_some]

/-- Every other write reaches the register through the gate of BAR0. -/
theorem writeDword_of_noOwnEffect (s : State) (off : Nat) (v : Word) (be : Nat) (hbe : 0 < be)
    (hn : (s.chip.ownEffect off v be).isNone = true) :
    writeDword off v be s = .next (s.onto (s.chip.barWrite off 4 fun c => c.writeReg off v.toNat be)) := by
  rw [writeDword_eq_ownEffect s off v be hbe, Option.isNone_iff_eq_none.mp hn, Option.getD_none]
  rfl

/-! ### A write of two dwords (R462) -/

/-- The state in which the dword at an offset is taken when it follows another: in the same cycle as the X_HI of a pair, and
otherwise a cycle later. -/
def State.atNextDword (s : State) (off : Nat) : State :=
  if pairsDown off then s else s.onto (s.chip.runToCycle (s.chip.cycle + 1))

/-- REGISTER_WRITE of two dwords. -/
theorem exec_registerWrite_two (s : State) (off : Nat) (v w : Word) (be bf : Nat) (h4 : off % 4 = 0)
    (hoff : off + 4 < 0x2000000) (hbe : be < 16) (hbf : bf < 16) :
    exec (.registerWrite off (v, be) [(w, bf)]) s = writeDwords off [(v, be), (w, bf)] s := by
  change execRegisterWrite off (v, be) [(w, bf)] s = _
  simp [execRegisterWrite, h4, hoff, hbe, hbf]

section
variable (off : Nat) (v w : Word) (be bf : Nat) (s : State) (k : Option Nat)

/-- A last dword that does not fail gives the outcome of the access, and leaves the cause found so far. -/
theorem writeRest_last_of_taken (hbf : 0 < bf) (hc : (s.atNextDword (off + 4)).chip.dwordCause (off + 4) = none) :
    writeRest off 1 [(w, bf)] k s = (writeDword (off + 4) w bf (s.atNextDword (off + 4)), k) := by
  unfold State.atNextDword State.onto at *
  simp only [writeRest, Nat.mul_one, Nat.one_ne_zero, decide_false, Bool.false_or, hbf.ne', if_false, hc]
  split
  · next t ht => rw [ht]
  · rfl

/-- A last dword that fails changes nothing, and its cause counts where no other came before it. -/
theorem writeRest_last_of_failed (l : Nat) (hbf : 0 < bf)
    (hc : (s.atNextDword (off + 4)).chip.dwordCause (off + 4) = some l) :
    writeRest off 1 [(w, bf)] k s = (.next (s.atNextDword (off + 4)), k.orElse fun _ => some l) := by
  unfold State.atNextDword State.onto at *
  simp only [writeRest, Nat.mul_one, Nat.one_ne_zero, decide_false, Bool.false_or, hbf.ne', if_false, hc]

/-- A first dword that does not fail is applied before the others. -/
theorem writeRest_first_of_taken (t : State) (rest : List (Word × Nat)) (hbe : 0 < be) (hc : s.chip.dwordCause off = none)
    (ht : writeDword off v be s = .next t) :
    writeRest off 0 ((v, be) :: rest) k s = writeRest off 1 rest k t := by
  simp [writeRest, hbe.ne', hc, ht]

/-- A first dword that fails changes nothing, and gives the access its cause. -/
theorem writeRest_first_of_failed (j : Nat) (rest : List (Word × Nat)) (hbe : 0 < be)
    (hc : s.chip.dwordCause off = some j) :
    writeRest off 0 ((v, be) :: rest) none s = writeRest off 1 rest (some j) s := by
  simp [writeRest, hbe.ne', hc]

end

section
variable (s : State) (off : Nat) (v : Word) (be : Nat) (rest : List (Word × Nat))
  (hr : s.chip.barReady off = true) (hbe : 0 < be) (hoff : off < 0x1000000)
include hr hbe hoff

/-- An access below the ring window of which no dword fails answers what its dwords answer. -/
theorem writeDwords_of_noCause (r : Host.Outcome State Fault Refusal)
    (h : writeRest off 0 ((v, be) :: rest) none s = (r, none)) : writeDwords off ((v, be) :: rest) s = r := by
  simp [writeDwords, hr, hbe.ne', Nat.not_le.mpr hoff, h]

/-- An access below the ring window of which a dword fails is logged once, with its length and the first cause. -/
theorem writeDwords_of_cause (t : State) (k : Nat) (h : writeRest off 0 ((v, be) :: rest) none s = (.next t, some k)) :
    writeDwords off ((v, be) :: rest) s =
      .next (t.onto (t.chip.writeFailed false off hostReq (s.chip.rd Reg.HB_EPOCH) k 0 (4 * (rest.length + 1)))) := by
  simp [writeDwords, hr, hbe.ne', Nat.not_le.mpr hoff, h, State.onto]

end

/-! ### Register writes of one dword and of two -/

/-- A write of one dword that has no effect of its own reaches its register through the gate of BAR0. -/
theorem exec_registerWrite_plain (s : State) (off : Nat) (v : Word) (be : Nat) (h4 : off % 4 = 0) (hoff : off < 0x2000000)
    (hbe : be < 16) (hpos : 0 < be) (hn : (s.chip.ownEffect off v be).isNone = true) :
    exec (.registerWrite off (v, be) []) s =
      .next (s.onto (s.chip.barWrite off 4 fun c => c.writeReg off v.toNat be)) := by
  rw [exec_registerWrite_one s off v be h4 hoff hbe, writeDword_of_noOwnEffect s off v be hpos hn]

/-- Two dwords that both do not fail are the two writes one after the other. -/
theorem exec_registerWrite_two_of_taken (s t : State) (off : Nat) (v w : Word) (be bf : Nat) (h4 : off % 4 = 0)
    (hoff : off + 4 < 0x1000000) (hbe0 : 0 < be) (hbe : be < 16) (hbf0 : 0 < bf) (hbf : bf < 16)
    (hr : s.chip.barReady off = true) (hc : s.chip.dwordCause off = none)
    (ht : exec (.registerWrite off (v, be) []) s = .next t)
    (hc' : (t.atNextDword (off + 4)).chip.dwordCause (off + 4) = none) :
    exec (.registerWrite off (v, be) [(w, bf)]) s =
      exec (.registerWrite (off + 4) (w, bf) []) (t.atNextDword (off + 4)) := by
  rw [exec_registerWrite_one _ _ _ _ h4 (by omega) hbe] at ht
  rw [exec_registerWrite_two _ _ _ _ _ _ h4 (by omega) hbe hbf,
    exec_registerWrite_one _ _ _ _ (by omega) (by omega) hbf]
  apply writeDwords_of_noCause s off v be _ hr hbe0 (by omega)
  rw [writeRest_first_of_taken off v be s none t _ hbe0 hc ht, writeRest_last_of_taken off w bf t none hbf0 hc']

/-- Two dwords that both fail change nothing and are logged once, with the first cause. -/
theorem exec_registerWrite_two_of_failed (s : State) (off : Nat) (v w : Word) (be bf k l : Nat) (h4 : off % 4 = 0)
    (hoff : off + 4 < 0x1000000) (hbe0 : 0 < be) (hbe : be < 16) (hbf0 : 0 < bf) (hbf : bf < 16)
    (hr : s.chip.barReady off = true) (hc : s.chip.dwordCause off = some k)
    (hc' : (s.atNextDword (off + 4)).chip.dwordCause (off + 4) = some l) :
    exec (.registerWrite off (v, be) [(w, bf)]) s =
      .next ((s.atNextDword (off + 4)).onto ((s.atNextDword (off + 4)).chip.writeFailed false off hostReq
        (s.chip.rd Reg.HB_EPOCH) k 0 8)) := by
  rw [exec_registerWrite_two _ _ _ _ _ _ h4 (by omega) hbe hbf]
  apply writeDwords_of_cause s off v be [(w, bf)] hr hbe0 (by omega)
  rw [writeRest_first_of_failed off v be s k _ hbe0 hc, writeRest_last_of_failed off w bf s (some k) l hbf0 hc']
  rfl

/-- Settles O8: a write of one dword goes by its own effect, by the gate of BAR0 or by its access code, and one of two dwords
is the two writes in turn. -/
theorem registerWriteFollowsItsAccessCode : Obligations.RegisterWriteFollowsItsAccessCode := by
  refine ⟨fun c off off' v => ⟨c.rd_wr_same off v, c.rd_wr_ne off off' v, c.lv_wr off v⟩,
    fun s off v be h4 hoff hbe => ⟨?noOctet, fun f hpos hf => ?ownEffect, fun hpos hn => ?plain⟩,
    fun s off v w be bf h4 hoff hbe0 hbe hbf0 hbf hr =>
      ⟨fun t u hc ht hu hc' => ?bothTaken, fun k l u hc hu hc' => ?bothFailed⟩⟩
  case noOctet =>
    rintro rfl
    rw [exec_registerWrite_one s off v 0 h4 hoff hbe, writeDword_of_noOctet]
  case ownEffect =>
    rw [exec_registerWrite_one s off v be h4 hoff hbe, writeDword_of_ownEffect s off v be f hpos hf]
  case plain =>
    rw [exec_registerWrite_plain s off v be h4 hoff hbe hpos hn]
    refine ⟨fun hr => ?_, fun hr hw hp => ?_, fun hr hw => ⟨fun hlo hhi => ?_, fun hout => ?_⟩, fun htk => ?_⟩
    · rw [s.chip.barWrite_of_notReady off 4 _ hr, State.onto_self]
    · rw [s.chip.barWrite_of_cause off 4 1 _ hr (s.chip.barCause_of_warm off hw hp)]
    · rw [s.chip.barWrite_of_liveView off 4 _ hw (by simp [liveView, hlo, hhi]), State.onto_self]
    · have hv : liveView off = false := by simpa [liveView] using hout
      refine ⟨fun hb => ?_, fun e hb hd => ?_⟩
      · rw [s.chip.barWrite_of_cause off 4 4 _ hr (s.chip.barCause_of_unmapped off hw hv hb)]
      · rw [s.chip.barWrite_of_cause off 4 1 _ hr (s.chip.barCause_of_domainOff off e hw hv hb hd)]
    · rw [s.chip.barWrite_taken off 4 _ htk]
      refine ⟨fun hrow => ?_, fun r hrow => ⟨fun ha => ?_, fun ha => ?_, fun ha => ?_⟩⟩
      · rw [s.chip.writeReg_of_noRow off _ be hrow, State.onto_self]
      · rw [s.chip.writeReg_of_ro_or_wo off _ be hrow ha, State.onto_self]
      · rw [s.chip.writeReg_of_rw_or_rwb off _ be hrow ha]
      · rw [s.chip.writeReg_of_w1c off _ be hrow ha]
  case bothTaken =>
    subst hu
    exact exec_registerWrite_two_of_taken s t off v w be bf h4 hoff hbe0 hbe hbf0 hbf hr hc ht hc'
  case bothFailed =>
    subst hu
    exact exec_registerWrite_two_of_failed s off v w be bf k l h4 hoff hbe0 hbe hbf0 hbf hr hc hc'

end Sys2Proof.Machine
end

section
/-! SUPPORT. Which commands act on the part alone. Every command but those that `storesNothing` names leaves the queue and
LPDDR5X as they are: REGISTER_WRITE too, whatever rows its dwords are. -/

namespace Sys2Proof.Machine

open Sys2Proof

/-- An outcome that, where it is a next state, is the state with another part: the queue and LPDDR5X as they were. -/
def ActsOnPart (s : State) (r : Host.Outcome State Fault Refusal) : Prop := ∀ t, r = .next t → ∃ c, t = s.onto c

/-- A next state with another part. -/
theorem actsOnPart_onto (s : State) (c : Chip) : ActsOnPart s (.next (s.onto c)) := by
  rintro t ⟨⟩
  exact ⟨c, rfl⟩

/-- What leaves the whole state as it is. -/
theorem actsOnPart_self (s : State) : ActsOnPart s (.next s) := actsOnPart_onto s s.chip

/-- A meaning for operands that name something. -/
theorem actsOnPart_within {s : State} {ok : Bool} {r : Host.Outcome State Fault Refusal} (h : ActsOnPart s r) :
    ActsOnPart s (within ok r) := fun t ht => h t (within_next.mp ht).2

/-- One outcome or another. -/
theorem actsOnPart_ite {s : State} {p : Prop} [Decidable p] {q r : Host.Outcome State Fault Refusal} (hq : ActsOnPart s q)
    (hr : ActsOnPart s r) : ActsOnPart s (if p then q else r) := by split <;> assumption

/-- A register command acts on the part alone. -/
theorem actsOnPart_regCommand (off : Nat) (f : Chip → Chip) (s : State) : ActsOnPart s (regCommand off f s) :=
  actsOnPart_onto s _

/-- An access of BAR2 acts on the part alone where its meaning gives LPDDR5X back. -/
theorem actsOnPart_onBar2 (off n : Nat) (f : Nat → List Host.Cell → Chip → List Host.Cell × Chip) (s : State)
    (hf : ∀ a d c, (f a d c).1 = d) : ActsOnPart s (onBar2 off n f s) := by
  refine actsOnPart_within fun t ht => ⟨t.chip, ?_⟩
  cases ht
  by_cases h : s.chip.bar2Ready = true <;> simp [State.onto, h, hf]

/-- A change of the part after a change of the part. -/
theorem ActsOnPart.trans {s : State} {c : Chip} {r : Host.Outcome State Fault Refusal} (h : ActsOnPart (s.onto c) r) :
    ActsOnPart s r := by
  intro t ht
  obtain ⟨d, rfl⟩ := h t ht
  exact ⟨d, rfl⟩

/-! ### REGISTER_WRITE -/

/-- Meanings, where there is one, that act on the part alone. -/
def AllActOnPart (o : Option (State → Host.Outcome State Fault Refusal)) : Prop := ∀ f, o = some f → ∀ s, ActsOnPart s (f s)

theorem allActOnPart_none : AllActOnPart none := by rintro f ⟨⟩

theorem allActOnPart_some {f : State → Host.Outcome State Fault Refusal} (h : ∀ s, ActsOnPart s (f s)) :
    AllActOnPart (some f) := by
  rintro g ⟨⟩
  exact h

theorem allActOnPart_ite {p : Prop} [Decidable p] {a b : Option (State → Host.Outcome State Fault Refusal)}
    (ha : AllActOnPart a) (hb : AllActOnPart b) : AllActOnPart (if p then a else b) := by split <;> assumption

/-- A register command, for an index that names a resource. -/
theorem allActOnPart_within (ok : Bool) (off : Nat) (f : Chip → Chip) :
    AllActOnPart (some fun s => within ok (regCommand off f s)) :=
  allActOnPart_some fun s => actsOnPart_within (actsOnPart_regCommand off f s)

/-- A register command. -/
theorem allActOnPart_regCommand (off : Nat) (f : Chip → Chip) : AllActOnPart (some (regCommand off f)) :=
  allActOnPart_some (actsOnPart_regCommand off f)

/-- HB_EPOCH_WRITE acts on the part alone. -/
theorem actsOnPart_hbEpochWrite (v : Word) (be : Nat) (s : State) : ActsOnPart s (execHbEpochWrite v be s) :=
  actsOnPart_within (actsOnPart_ite (actsOnPart_self s) (actsOnPart_regCommand _ _ s))

/-- CKX_DATA_WRITE acts on the part alone. -/
theorem actsOnPart_ckxDataWrite (x : Nat) (hi : Bool) (v : Word) (be : Nat) (s : State) :
    ActsOnPart s (execCkxDataWrite x hi v be s) :=
  actsOnPart_within (actsOnPart_ite (actsOnPart_self s) (actsOnPart_regCommand _ _ s))

/-- The write of a register that does more than its access code says acts on the part alone: each such row is a register
command, for an index of its block. -/
theorem allActOnPart_ownWrite (c : Chip) (base i l off v be : Nat) (w : Word) :
    AllActOnPart (ownWrite c base i l off v be w) := by
  have noRow := allActOnPart_none
  have plain := allActOnPart_regCommand
  have indexed := allActOnPart_within
  unfold ownWrite
  split
  -- a block with one such register
  case h_1 | h_2 | h_7 | h_8 | h_9 | h_14 | h_15 | h_19 => exact allActOnPart_ite (plain _ _) noRow
  case h_6 | h_17 | h_21 => exact allActOnPart_ite (indexed _ _ _) noRow
  -- a block with two
  case h_3 | h_4 | h_5 => exact allActOnPart_ite (indexed _ _ _) (allActOnPart_ite (indexed _ _ _) noRow)
  case h_10 | h_18 => exact allActOnPart_ite (plain _ _) (allActOnPart_ite (plain _ _) noRow)
  -- HB_EPOCH and HB_EVT
  case h_11 =>
    exact allActOnPart_ite (allActOnPart_some (actsOnPart_hbEpochWrite _ _)) (allActOnPart_ite (plain _ _) noRow)
  -- a mailbox
  case h_12 => exact allActOnPart_ite (plain _ _) (allActOnPart_ite (indexed _ _ _) noRow)
  -- a telemetry FIFO
  case h_13 =>
    split
    case h_7 => exact noRow
    all_goals exact indexed _ _ _
  -- a check unit
  case h_16 =>
    exact allActOnPart_ite (indexed _ _ _) (allActOnPart_ite (indexed _ _ _)
      (allActOnPart_ite (allActOnPart_some (actsOnPart_ckxDataWrite _ _ _ _)) (allActOnPart_ite (plain _ _) noRow)))
  -- a ring, whose flush is the host's or the part's
  case h_20 =>
    exact allActOnPart_ite (indexed _ _ _) (allActOnPart_ite (plain _ _) (allActOnPart_ite (indexed _ _ _)
      (allActOnPart_ite (indexed _ _ _) (allActOnPart_ite (by split <;> exact indexed _ _ _) noRow))))
  -- the ring window
  case h_22 => exact allActOnPart_some fun s => actsOnPart_onto s _
  case h_23 => exact noRow

/-- A write of one dword acts on the part alone. -/
theorem actsOnPart_writeDword (off : Nat) (v : Word) (be : Nat) (s : State) : ActsOnPart s (writeDword off v be s) := by
  by_cases hbe : be = 0
  · subst hbe
    rw [writeDword_of_noOctet]
    exact actsOnPart_self s
  rw [writeDword_eq_ownEffect s off v be (Nat.pos_of_ne_zero hbe)]
  cases ho : s.chip.ownEffect off v be with
  | none => exact actsOnPart_onto s _
  | some f =>
    unfold Chip.ownEffect at ho
    split at ho
    · cases ho
    · exact allActOnPart_ownWrite _ _ _ _ _ _ _ _ f ho s

/-- The dwords of a write from number `n` on act on the part alone. -/
theorem actsOnPart_writeRest (off : Nat) (l : List (Word × Nat)) : ∀ (n : Nat) (k : Option Nat) (s : State),
    ActsOnPart s (writeRest off n l k s).1 := by
  induction l with
  | nil => exact fun _ _ s => actsOnPart_self s
  | cons e rest ih =>
    intro n k s
    obtain ⟨v, be⟩ := e
    unfold writeRest
    extract_lets o s'
    have hs' : ∃ c, s' = s.onto c := by
      by_cases h : (n = 0 || pairsDown o) = true
      · exact ⟨s.chip, if_pos h⟩
      · exact ⟨_, if_neg h⟩
    obtain ⟨c, hc⟩ := hs'
    rw [hc]
    split
    · exact (ih _ _ _).trans
    · have hw := actsOnPart_writeDword o v be (s.onto c)
      split
      · next t ht =>
        obtain ⟨d, rfl⟩ := hw t ht
        exact (ih (n + 1) k (s.onto d)).trans
      · exact hw.trans

/-- A write of several dwords acts on the part alone. -/
theorem actsOnPart_writeDwords (off : Nat) (l : List (Word × Nat)) (s : State) : ActsOnPart s (writeDwords off l s) := by
  unfold writeDwords
  refine actsOnPart_ite (actsOnPart_self s) (actsOnPart_ite (actsOnPart_onto s _) ?_)
  have hr := actsOnPart_writeRest off l 0 none s
  split
  · next t k ht =>
    obtain ⟨c, rfl⟩ := hr t (by rw [ht])
    exact actsOnPart_onto s _
  · next r ht => rwa [ht] at hr

/-- REGISTER_WRITE acts on the part alone. -/
theorem actsOnPart_registerWrite (off : Nat) (first : Word × Nat) (rest : List (Word × Nat)) (s : State) :
    ActsOnPart s (execRegisterWrite off first rest s) :=
  actsOnPart_within (actsOnPart_ite (actsOnPart_writeDword _ _ _ s) (actsOnPart_writeDwords _ _ s))

/-! ### Accesses of BAR2 that store nothing -/

/-- HOST_BAR2_READ acts on the part alone. -/
theorem actsOnPart_hostBar2Read (off len : Nat) (s : State) : ActsOnPart s (execHostBar2Read off len s) := by
  unfold execHostBar2Read
  exact actsOnPart_onBar2 _ _ _ s fun _ _ _ => rfl

/-- PEER_ATOMIC_OP acts on the part alone. -/
theorem actsOnPart_peerAtomicOp (off req : Nat) (atomic : Bool) (answer : Option (List Byte × Bool)) (s : State) :
    ActsOnPart s (execPeerAtomicOp off req atomic answer s) := by
  unfold execPeerAtomicOp
  refine actsOnPart_onBar2 _ _ _ s fun _ _ _ => ?_
  split <;> rfl

/-- HOST_PEER_TIMEOUT acts on the part alone. -/
theorem actsOnPart_hostPeerTimeout (off req : Nat) (atomic : Bool) (s : State) :
    ActsOnPart s (execHostPeerTimeout off req atomic s) := by
  unfold execHostPeerTimeout
  refine actsOnPart_onBar2 _ _ _ s fun _ _ _ => ?_
  split <;> rfl

/-- PEER_WRITE_FORWARD acts on the part alone. -/
theorem actsOnPart_peerWriteForward (off : Nat) (octets : List Byte) (req : Nat) (s : State) :
    ActsOnPart s (execPeerWriteForward off octets req s) := by
  unfold execPeerWriteForward
  exact actsOnPart_onBar2 _ _ _ s fun _ _ _ => rfl

/-! ### The commands -/

/-- A command that stores nothing acts on the part alone: its meaning is one on the part, for operands that name something. -/
theorem exec_actsOnPart (i : Instr) (h : storesNothing i = true) (s : State) : ActsOnPart s (exec i s) := by
  cases i with
  | sysInfo | sysPing | sysWarmReset | sysPowerSet | sysEventRoute | sysSettingsSave | sysSettingsLoad | showCommit
  | showCross | showUncommit | showLayerFlip | showTaskLoad | showTaskCancel | showTaskFree | timePtpStatus
  | timePtpSet | timeTbStep | timeFramegenSet | timeFramegenStart | timeFramegenStop | timeFramegenRephase
  | netGroupJoin | netGroupLeave | netNeighbourResolve | portRdmRequest | portRdmDiscover | portRdmAbort
  | meterFeedSet | meterPqSet | meterPulseSet | meterJournalFlush | meterTotalsPreset | pairConfig | pairPromote
  | pairSwap | pairResync | pairStatus | updStage | updVerify | updActivate | updStatus | updRevert | updTrialSet
  | updCounterAdvance | calRun | calMeterRef | calAutoSet | diagScrubSet | diagEccInject | diagCheckRun
  | diagLoopback | diagDebugUnlock | diagTempRead | diagEventTest | commandBad | tbSnap | mapClr | modelClr
  | schedClr | netCntSnap | netCntClr | hbEvtWfailClear | evtLegacyPop | mtrHostSnap | evtClr | ctrlRestart
  | bootRecover | peerWriteFailureMsg | sealPoint | fgResume | generatorStopEffect | ltcFrame | ltcLost
  | fpulseInEdge | fpulseInLoss | fpulseOutStart | fpulseOutEnd | emissionWindowOpen | emissionWindowClose
  | taskDispatch | inputSourceTimeout | inputSyncTimeout | straitLinkFrameReceive | straitLinkSilent | straitLinkUp
  | straitKeepalive | mirrorCommitReceive | mirrorAckTimeout | ferryComplete | ferryLate | bulkFerryComplete
  | pwrWarnAssert | vaonFeedChange | meterWarnClear | journalWriteDone | calAutoStart | maintActivityStart
  | cmdComplete | ctrlHandoverDone | ctrlWatchdog | mainPgRise | perstN | jtagProvision | perstNRelease
  | testLogicReset | pwrWarnNRelease =>
    exact actsOnPart_onto s _
  | txtsRelease | txtsStatusClear | lanenClr | ringEnable | ringProdWrite | ringConsWrite | ringFlushHost
  | ringFlushDevice | ringSlotWrite | ringEntryTake | ringStall | mbmDoorbell | tffAdvance | tffMark | tffRewind
  | tffRelease | tffClose | tffFlush | telemAgeClose | telemRecordProduce | ckxStart | ckxRunWrite | ckxFinish
  | eccmEvtClear | msixUnmask | timeBaseStep | ptpMessageReceive | ptpMessageSend | tbSourceLost | fixtureHandover
  | universeDecide | packetStart | holdKeepalive | taskWaitInstant | trigInEdge | trigFilterExpire | taskTimeout
  | e131DataReceive | e131SyncReceive | lpFrameStart | lpHold | lpHoldRepeat | rdmRequestStart | rdmResponseReceive
  | rdmResponseTimeout | rdmSensorPoll | rdmAckTimerExpire | rdmRequestExpire | hcPwmPeriod | hcDiagStarved
  | hcNtcRefresh | pauseReceive | pauseExpire | netPauseWatchdog | netPauseRearm | netLinkChange
  | membershipReportRepeat | lldpSend | lpiEnter | txJobSend | streamMergeTimeout | streamPathDown | straitLaneFail
  | beaconReceive | meterSample | meterModFault | meterPulseStart | meterPulseEnd | dieSensorSample | calUnitDone
  | calUnitTimeout | meterCalSpanEnd | patrolBurst | updConfirmed | trialWindowExpire | pwrDomainChange
  | jtagUpdateIr | lpiWake | neighbourSolicitRetry | checkRunFinish =>
    exact actsOnPart_within (actsOnPart_onto s _)
  | registerWrite off first rest => exact actsOnPart_registerWrite off first rest s
  | hbEpochWrite v be => exact actsOnPart_hbEpochWrite v be s
  | ckxDataWrite x hi v be => exact actsOnPart_ckxDataWrite x hi v be s
  | hostBar2Read off len => exact actsOnPart_hostBar2Read off len s
  | peerAtomicOp off req atomic answer => exact actsOnPart_peerAtomicOp off req atomic answer s
  | hostPeerTimeout off req atomic => exact actsOnPart_hostPeerTimeout off req atomic s
  | peerWriteForward off octets req => exact actsOnPart_peerWriteForward off octets req s
  | tblFixtureCommit | tblProfileCommit | tblUniverseCommit | tblRunCommit | tblCanvasCommit | tblLayerCommit
  | tblCellposCommit | tblCurveCommit | tblCueCommit | tblInunivCommit | tblInpatchCommit | tblSourceCommit
  | tblUcastCommit | tblRdmctxCommit | tblStreamCommit | tblRevert | hostBar2Write | hostAtomicOp
  | forwardedAccessServe | crossing | explicitCrossing | immediateCrossing | copyForwardDone | bandWritten
  | netFrameReceive | videoPacketReceive | powerOnReset | mainPgFall | combinedSupplyFall =>
    cases h

end Sys2Proof.Machine
end

section
/-! SUPPORT. LPDDR5X as data keeps its canonical form. It is changed in three ways only: octets are written through `Chip.store`
or `Chip.writeTarget`, and all of it is lost with PD_DRAM; so what each operation on it makes of a canonical memory is canonical,
and with it each of the commands that act on it. Then the obligation about every step. -/

namespace Sys2Proof.Machine

open Sys2Proof

/-! ### The operations on LPDDR5X -/

section
variable {d : List Host.Cell}

/-- A run of operations of which each keeps the canonical form keeps it. -/
theorem Memory.wf_foldl {α : Type} (f : List Host.Cell × Chip → α → List Host.Cell × Chip) (l : List α)
    (x : List Host.Cell × Chip) (hx : Memory.wf x.1 = true) (hf : ∀ y e, Memory.wf y.1 = true → Memory.wf (f y e).1 = true) :
    Memory.wf (l.foldl f x).1 = true :=
  List.foldlRecOn l f (motive := fun y => Memory.wf y.1 = true) hx fun y hy e _ => hf y e hy

variable (c : Chip) (hd : Memory.wf d = true)
include hd

/-- Lines composed and written. -/
theorem Chip.wf_writeLines (k y0 y1 : Nat) : Memory.wf (c.writeLines d k y0 y1).1 = true :=
  Memory.wf_foldl _ _ _ hd fun x _ hx => x.2.store_wf _ _ _ _ hx

/-- A band finished. -/
theorem Chip.wf_writeBand (n k b : Nat) : Memory.wf (c.writeBand d n k b).1 = true := by
  unfold Chip.writeBand
  dsimp only
  exact c.wf_writeLines hd k (64 * b) (c.bandEnd k b)

/-- The bands that a crossing abandons. -/
theorem Chip.wf_leaveBands : Memory.wf (c.leaveBands d).1 = true := by
  unfold Chip.leaveBands
  refine Memory.wf_foldl _ _ _ hd fun x lane hx => ?_
  split
  · exact hx
  · next b _ =>
    extract_lets n r
    exact x.2.drew.wf_writeLines hx b.1 (64 * b.2) (64 * b.2 + n)

/-- The rows of a video packet. -/
theorem Chip.wf_writeRows (r buffer : Nat) (rows : List SampleRow) : Memory.wf (c.writeRows d r buffer rows).1 = true :=
  Memory.wf_foldl _ _ _ hd fun x _ hx => x.2.store_wf _ _ _ _ hx

/-- A packet of an open frame. -/
theorem Chip.wf_writePacket (i r : Nat) (k : VideoPacket) (f : OpenFrame) : Memory.wf (c.writePacket d i r k f).1 = true := by
  unfold Chip.writePacket
  split
  · exact hd
  · exact c.wf_writeRows hd _ _ _

/-- A packet of a stream path. -/
theorem Chip.wf_ingest (i : Nat) (b : Bool) (k : VideoPacket) : Memory.wf (c.ingest d i b k).1 = true := by
  unfold Chip.ingest
  split
  · exact hd
  dsimp only
  split
  · exact hd
  split
  · exact Chip.wf_writePacket _ hd _ _ _ _
  split
  · split
    · exact Chip.wf_writePacket _ hd _ _ _ _
    · exact hd
  · exact hd

/-- A frame that passed the checks: of the rows of R238 only video packets store. -/
theorem Chip.wf_deliver (p octets : Nat) (frame : List Byte) : Memory.wf (c.deliver d p octets frame).1 = true := by
  unfold Chip.deliver
  extract_lets h ip udp ptp
  clear_value ip udp
  split
  · exact hd
  split
  · exact hd
  split
  · exact hd
  split
  · exact hd
  split
  · extract_lets paths
    split
    · exact hd
    split
    · exact hd
    split
    · exact hd
    split
    · exact Memory.wf_foldl _ _ _ hd fun x e hx => x.2.wf_ingest hx _ _ _
    · exact hd
  · exact hd

/-- A frame received. -/
theorem Chip.wf_receive (p : Nat) (frame : List Byte) : Memory.wf (c.receive d p frame).1 = true := by
  unfold Chip.receive
  extract_lets n body h
  split
  · exact hd
  split
  · exact hd
  split
  · exact hd
  split
  · exact hd
  split
  · exact hd
  · exact Chip.wf_deliver _ hd _ _ _

/-- Octets stored word by word. -/
theorem Chip.wf_storeWords (cls : Nat) (l : List (Nat × Byte)) : Memory.wf (c.storeWords d cls l).1 = true :=
  Memory.wf_foldl _ _ _ hd fun x _ hx => x.2.store_wf _ _ _ _ hx

/-- A posted write below the aperture. -/
theorem Chip.wf_applyWrite (cls a : Nat) (bs : List Byte) (fail : Nat → Nat → Nat → Chip → Chip) :
    Memory.wf (c.applyWrite d cls a bs fail).1 = true := by
  unfold Chip.applyWrite
  split
  · exact hd
  · exact c.wf_storeWords hd _ _

/-- An AtomicOp. -/
theorem Chip.wf_atomic (cls : Nat) (op : AtomicOp) (a width operand compare : Nat) :
    Memory.wf (c.atomic d cls op a width operand compare).1 = true := by
  unfold Chip.atomic
  dsimp only
  split
  · exact hd
  split
  · exact hd
  split
  · exact hd
  · exact Memory.wf_write _ _ _ hd

/-- Runs of octets of records written into staging. -/
theorem Chip.wf_writeRuns (t : Nat) (runs l : List (Nat × Nat)) : Memory.wf (c.writeRuns d t runs l).1 = true :=
  Memory.wf_foldl _ _ _ hd fun _ _ hx => Memory.wf_foldl _ _ _ hx fun x _ hx => x.2.store_wf _ _ _ _ hx

/-- A table commit. -/
theorem Chip.wf_tableCommit (t : Nat) (h : CmdHdr) (p : Nat) : Memory.wf (c.tableCommit d t h p).1 = true := by
  unfold Chip.tableCommit
  dsimp only
  split
  · exact hd
  · exact hd
  · exact Chip.wf_writeRuns _ hd _ _ _

/-- Domains switched off, PD_DRAM among them or not. -/
theorem Chip.wf_dropDomains (l : List Nat) : Memory.wf (c.dropDomains d l).1 = true := by
  unfold Chip.dropDomains
  dsimp only
  split
  · exact Memory.wf_nil
  · exact hd

/-- SYS_POWER_SET at its crossing. -/
theorem Chip.wf_applyPower (mask on : Nat) : Memory.wf (c.applyPower d mask on).1 = true := c.wf_dropDomains hd _

/-- The domains that a crossing's commits switch. -/
theorem Chip.wf_switchDomains (l : List Change) : Memory.wf (c.switchDomains d l).1 = true := by
  unfold Chip.switchDomains
  split
  · exact hd
  · refine Memory.wf_foldl _ _ _ hd fun x ch hx => ?_
    cases ch
    case powerSet => exact x.2.wf_applyPower hx _ _
    all_goals exact hx

/-- A crossing but for a warm reset. -/
theorem Chip.wf_takeCrossing (at_ : Nat) (sel : PulseSel) (idx : Option Nat) (s : List (Nat × Commit)) (bad : List Refused) :
    Memory.wf (c.takeCrossing d at_ sel idx s bad).1 = true := by
  unfold Chip.takeCrossing
  exact Chip.wf_switchDomains _ hd _

/-- A warm reset. -/
theorem Chip.wf_warmReset : Memory.wf (c.warmReset d).1 = true := by
  unfold Chip.warmReset
  extract_lets c₁ off told c₂ c₃
  split
  · exact c₁.wf_dropDomains hd showDomains.reverse
  · exact c₁.wf_dropDomains hd showDomains.reverse

/-- A warm reset at its crossing, where there is one. -/
theorem Chip.wf_crossReset (l : List Change) : Memory.wf (c.crossReset d l).1 = true := by
  unfold Chip.crossReset
  split
  · exact c.wf_warmReset hd
  · exact hd

/-- A crossing. -/
theorem Chip.wf_cross (at_ : Nat) (sel : PulseSel) (idx : Option Nat) (f : Chip → Chip) :
    Memory.wf (c.cross d at_ sel idx f).1 = true := by
  unfold Chip.cross
  extract_lets left d₁ c₁ s bad changes r
  exact Chip.wf_crossReset _ (Chip.wf_takeCrossing _ (Chip.wf_leaveBands _ hd) at_ sel idx s bad) changes

end

/-! ### The commands -/

/-- An outcome that, where it is a next state, has LPDDR5X in its canonical form if it was so before. -/
def KeepsCanonical (s : State) (r : Host.Outcome State Fault Refusal) : Prop :=
  s.wf = true → ∀ t, r = .next t → t.wf = true

/-- What acts on the part alone. -/
theorem ActsOnPart.keepsCanonical {s : State} {r : Host.Outcome State Fault Refusal} (h : ActsOnPart s r) :
    KeepsCanonical s r := by
  intro hs t ht
  obtain ⟨c, rfl⟩ := h t ht
  exact hs

/-- A meaning for operands that name something. -/
theorem keepsCanonical_within {s : State} {ok : Bool} {r : Host.Outcome State Fault Refusal} (h : KeepsCanonical s r) :
    KeepsCanonical s (within ok r) := fun hs t ht => h hs t (within_next.mp ht).2

/-- A meaning on the part and LPDDR5X that makes a canonical memory of a canonical memory. -/
theorem keepsCanonical_onBoth {f : List Host.Cell → Chip → List Host.Cell × Chip} (s : State)
    (hf : ∀ d c, Memory.wf d = true → Memory.wf (f d c).1 = true) : KeepsCanonical s (onBoth f s) := by
  rintro hs t ⟨⟩
  exact hf _ _ hs

/-- An access of BAR2. -/
theorem keepsCanonical_onBar2 {f : Nat → List Host.Cell → Chip → List Host.Cell × Chip} (off n : Nat) (s : State)
    (hf : ∀ a d c, Memory.wf d = true → Memory.wf (f a d c).1 = true) : KeepsCanonical s (onBar2 off n f s) := by
  refine keepsCanonical_within (keepsCanonical_onBoth s fun d c hd => ?_)
  split
  · exact hf _ _ _ hd
  · exact hd

/-- A firmware command on the part and LPDDR5X: one that waits, and a bad one, change nothing there. -/
theorem keepsCanonical_firmwareBoth {f : Nat → List Host.Cell → Chip → List Host.Cell × Chip} (op : Nat) (h : CmdHdr)
    (p : Nat) (s : State) (hf : ∀ p d c, Memory.wf d = true → Memory.wf (f p d c).1 = true) :
    KeepsCanonical s (firmwareBoth op h p f s) := by
  refine keepsCanonical_onBoth s fun d c hd => ?_
  split
  · unfold Chip.inChannel
    split
    · split
      · exact hd
      · exact hf _ _ _ hd
    · split
      · exact hd
      split
      · exact hd
      · exact hf _ _ _ hd
  · exact hd

/-- A table commit. -/
theorem keepsCanonical_tableCommand (t : Nat) (h : CmdHdr) (p : Nat) (s : State) :
    KeepsCanonical s (tableCommand t h p s) :=
  keepsCanonical_firmwareBoth _ _ _ s fun _ _ c hd => c.wf_tableCommit hd _ _ _

/-- TBL_REVERT. -/
theorem keepsCanonical_tblRevert (h : CmdHdr) (p : Nat) (s : State) : KeepsCanonical s (execTblRevert h p s) := by
  refine keepsCanonical_firmwareBoth _ _ _ s fun _ _ c hd => ?_
  dsimp only
  split
  · exact hd
  · exact c.wf_writeRuns hd _ _ _

/-- HOST_BAR2_WRITE. -/
theorem keepsCanonical_hostBar2Write (off : Nat) (octets : List Byte) (req : Nat) (s : State) :
    KeepsCanonical s (execHostBar2Write off octets req s) := by
  unfold execHostBar2Write
  refine keepsCanonical_onBar2 _ _ s fun _ _ c hd => ?_
  split
  · exact hd
  · exact c.wf_applyWrite hd _ _ _ _

/-- HOST_ATOMIC_OP. -/
theorem keepsCanonical_hostAtomicOp (op : AtomicOp) (at_ : AtomicTarget) (width operand compare : Nat) (s : State) :
    KeepsCanonical s (execHostAtomicOp op at_ width operand compare s) := by
  unfold execHostAtomicOp
  split
  · exact (actsOnPart_within (actsOnPart_onto s _)).keepsCanonical
  · refine keepsCanonical_onBar2 _ _ s fun _ _ c hd => ?_
    split
    · exact c.wf_atomic hd _ _ _ _ _ _
    · exact hd

/-- FORWARDED_ACCESS_SERVE. -/
theorem keepsCanonical_forwardedAccessServe (off : Nat) (access : Forwarded) (len : Nat) (s : State) :
    KeepsCanonical s (execForwardedAccessServe off access len s) := by
  refine keepsCanonical_within (keepsCanonical_onBoth s fun _ c hd => ?_)
  split
  · exact hd
  · cases access with
    | write bs => exact c.wf_applyWrite hd _ _ _ _
    | read => exact hd
    | atomic op width operand compare => exact c.wf_atomic hd _ _ _ _ _ _

/-- CROSSING. -/
theorem keepsCanonical_crossing (s : State) : KeepsCanonical s (execCrossing s) := by
  refine keepsCanonical_onBoth s fun _ c hd => ?_
  split
  · exact hd
  · exact Chip.wf_cross _ hd _ _ _ _

/-- EXPLICIT_CROSSING. -/
theorem keepsCanonical_explicitCrossing (s : State) : KeepsCanonical s (execExplicitCrossing s) := by
  refine keepsCanonical_onBoth s fun _ c hd => ?_
  split
  · exact Chip.wf_cross _ hd _ _ _ _
  · exact hd

/-- IMMEDIATE_CROSSING. -/
theorem keepsCanonical_immediateCrossing (s : State) : KeepsCanonical s (execImmediateCrossing s) := by
  refine keepsCanonical_onBoth s fun _ c hd => ?_
  split
  · exact hd
  · exact Chip.wf_cross _ hd _ _ _ _

/-- COPY_FORWARD_DONE. -/
theorem keepsCanonical_copyForwardDone (table : Nat) (s : State) : KeepsCanonical s (execCopyForwardDone table s) := by
  refine keepsCanonical_within (keepsCanonical_onBoth s fun _ c hd => ?_)
  split
  · exact hd
  · dsimp only
    split
    · exact c.wf_writeRuns hd _ _ _
    · exact hd

/-- BAND_WRITTEN. -/
theorem keepsCanonical_bandWritten (canvas band : Nat) (s : State) : KeepsCanonical s (execBandWritten canvas band s) := by
  refine keepsCanonical_within (keepsCanonical_onBoth s fun _ c hd => ?_)
  split
  · exact hd
  · next n _ =>
    dsimp only
    exact c.wf_writeBand hd n canvas band

/-- NET_FRAME_RECEIVE. -/
theorem keepsCanonical_netFrameReceive (port : Nat) (frame : List Byte) (s : State) :
    KeepsCanonical s (execNetFrameReceive port frame s) := by
  refine keepsCanonical_within (keepsCanonical_onBoth s fun _ c hd => ?_)
  split
  · exact c.wf_receive hd _ _
  · exact hd

/-- VIDEO_PACKET_RECEIVE. -/
theorem keepsCanonical_videoPacketReceive (stream : Nat) (pathB : Bool) (pkt : VideoPacket) (s : State) :
    KeepsCanonical s (execVideoPacketReceive stream pathB pkt s) :=
  keepsCanonical_within (keepsCanonical_onBoth s fun _ c hd => c.wf_ingest hd _ _ _)

/-- POWER_ON_RESET. -/
theorem keepsCanonical_powerOnReset (s : State) : KeepsCanonical s (execPowerOnReset s) := by
  refine keepsCanonical_onBoth s fun _ c hd => ?_
  split
  · exact hd
  · exact Memory.wf_nil

/-- COMBINED_SUPPLY_FALL. -/
theorem keepsCanonical_combinedSupplyFall (s : State) : KeepsCanonical s (execCombinedSupplyFall s) := by
  refine keepsCanonical_onBoth s fun _ c hd => ?_
  split
  · exact hd
  · exact Memory.wf_nil

/-- MAIN_PG_FALL. -/
theorem keepsCanonical_mainPgFall (s : State) : KeepsCanonical s (execMainPgFall s) := by
  unfold execMainPgFall
  refine keepsCanonical_onBoth s fun _ c hd => ?_
  split
  · exact hd
  · exact c.forgetCommits.wf_dropDomains hd (showDomains.reverse ++ [2, 1])

/-- Every command keeps LPDDR5X canonical: it acts on the part alone, or is one of those that store or lose it. -/
theorem exec_keepsCanonical (i : Instr) (s : State) : KeepsCanonical s (exec i s) := by
  by_cases h : storesNothing i = true
  · exact (exec_actsOnPart i h s).keepsCanonical
  cases i with
  | tblFixtureCommit | tblProfileCommit | tblUniverseCommit | tblRunCommit | tblCanvasCommit | tblLayerCommit
  | tblCellposCommit | tblCurveCommit | tblCueCommit | tblInunivCommit | tblInpatchCommit | tblSourceCommit
  | tblUcastCommit | tblRdmctxCommit | tblStreamCommit =>
    exact keepsCanonical_tableCommand _ _ _ s
  | tblRevert k p => exact keepsCanonical_tblRevert k p s
  | hostBar2Write off octets req => exact keepsCanonical_hostBar2Write off octets req s
  | hostAtomicOp op at_ width operand compare => exact keepsCanonical_hostAtomicOp op at_ width operand compare s
  | forwardedAccessServe off access len => exact keepsCanonical_forwardedAccessServe off access len s
  | crossing => exact keepsCanonical_crossing s
  | explicitCrossing => exact keepsCanonical_explicitCrossing s
  | immediateCrossing => exact keepsCanonical_immediateCrossing s
  | copyForwardDone table => exact keepsCanonical_copyForwardDone table s
  | bandWritten canvas band => exact keepsCanonical_bandWritten canvas band s
  | netFrameReceive port frame => exact keepsCanonical_netFrameReceive port frame s
  | videoPacketReceive stream pathB pkt => exact keepsCanonical_videoPacketReceive stream pathB pkt s
  | powerOnReset => exact keepsCanonical_powerOnReset s
  | mainPgFall => exact keepsCanonical_mainPgFall s
  | combinedSupplyFall => exact keepsCanonical_combinedSupplyFall s
  | _ => exact absurd rfl h

/-- Settles O5: the front command, the next command of a channel, or a tick; each keeps the canonical form. -/
theorem stepKeepsMemoryCanonical : Obligations.StepKeepsMemoryCanonical := by
  intro s t hs ht
  unfold step at ht
  split at ht
  · split at ht
    · next r _ => exact exec_keepsCanonical r.2 { s with chip := r.1 } hs t ht
    · cases ht
      exact hs
  · next i rest _ => exact exec_keepsCanonical i { s with pending := rest } hs t ht

end Sys2Proof.Machine
end

section
/-! SUPPORT. What the supplies, the resets and the domain changes keep: the images of a boot change the boot directory and the
running slots but no image; a domain that goes off takes no setting of the show with it; a change of domain that ends switches that
domain alone. Then the obligation about the supplies and resets. -/

namespace Sys2Proof.Machine

open Sys2Proof

/-! ### The fields that events leave alone -/

theorem Chip.SameButEvents.power {c d : Chip} (h : c.SameButEvents d) : d.power = c.power := by rw [h.1]
theorem Chip.SameButEvents.csn {c d : Chip} (h : c.SameButEvents d) : d.csn = c.csn := by rw [h.1]
theorem Chip.SameButEvents.energy {c d : Chip} (h : c.SameButEvents d) : d.energy = c.energy := by rw [h.1]
theorem Chip.SameButEvents.commits {c d : Chip} (h : c.SameButEvents d) : d.commits = c.commits := by rw [h.1]
theorem Chip.SameButEvents.fg {c d : Chip} (h : c.SameButEvents d) : d.fg = c.fg := by rw [h.1]
theorem Chip.SameButEvents.tbs {c d : Chip} (h : c.SameButEvents d) : d.tbs = c.tbs := by rw [h.1]

/-- A register of the power block reads through events as before. -/
theorem Chip.SameButEvents.rd_power {c d : Chip} (h : c.SameButEvents d) {off : Nat} (hoff : off < 0xE000) :
    d.rd off = c.rd off :=
  h.2.1 off (by unfold Reg.EVT_UNROUTED_CNT; omega) fun r _ => by unfold Reg.RING_DROP_CNT Reg.RING_EVT; omega

/-- A ball that is driven, or held by boundary scan. -/
theorem Chip.sameButEvents_toBall (c : Chip) (o : Out) : c.SameButEvents (c.toBall o) := by
  unfold Chip.toBall
  split
  · exact .refl c
  · exact c.sameButEvents_emit o

/-- A bit that an event sets reads as set. -/
theorem Chip.bit_rd_setEvt (c : Chip) (off mask i : Nat) (hi : i < 32) (hm : mask.testBit i = true) :
    bit ((c.setEvt off mask).rd off) i = true := by
  rw [bit, Chip.setEvt, Chip.rd_wr_same, Nat.testBit_mod_two_pow, Nat.testBit_or, hm]
  simp [hi]

/-- Another register after an event. -/
theorem Chip.rd_setEvt_ne (c : Chip) (off off' mask : Nat) (h : off' ≠ off) : (c.setEvt off mask).rd off' = c.rd off' :=
  c.rd_wr_ne _ _ _ h

/-! ### Images (R404, R415, R438) -/

/-- What flash and fuses hold of an image type stays: its slots and its counter. -/
def ImageType.SameFlash (x y : ImageType) : Prop := y.slot0 = x.slot0 ∧ y.slot1 = x.slot1 ∧ y.counter = x.counter

theorem ImageType.SameFlash.refl (x : ImageType) : x.SameFlash x := ⟨rfl, rfl, rfl⟩

theorem ImageType.SameFlash.trans {x y z : ImageType} (h : x.SameFlash y) (k : y.SameFlash z) : x.SameFlash z :=
  ⟨k.1.trans h.1, k.2.1.trans h.2.1, k.2.2.trans h.2.2⟩

/-- A type read after one is replaced. -/
theorem Chip.imageType_setType (c : Chip) (t n : Nat) (x : ImageType) :
    (c.setType t x).imageType n = if t = n ∧ n < c.update.types.length then x else c.imageType n := by
  unfold Chip.imageType Chip.setType
  simp only [List.getD_eq_getElem?_getD, List.getElem?_set]
  by_cases h : t = n
  · subst h
    by_cases hn : t < c.update.types.length
    · simp [hn]
    · simp [hn]
  · simp [h]

/-- Two parts that differ at most in what a boot changes: which slots run and are confirmed, the boot directory, the fallbacks
still to be told, and what the boot found of the images. -/
def Chip.SameButBoot (c d : Chip) : Prop :=
  d = { c with
    update := { c.update with
      types := d.update.types, dirs := d.update.dirs, prevFormat := d.update.prevFormat, owed := d.update.owed
      recovered := d.update.recovered, unreadable := d.update.unreadable }
    power := { c.power with alt := d.power.alt, fail := d.power.fail, recovery := d.power.recovery } } ∧
  d.update.types.length = c.update.types.length ∧ ∀ n, (c.imageType n).SameFlash (d.imageType n)

namespace Chip.SameButBoot

theorem refl (c : Chip) : c.SameButBoot c := ⟨rfl, rfl, fun _ => .refl _⟩

theorem trans {c d e : Chip} (h : c.SameButBoot d) (k : d.SameButBoot e) : c.SameButBoot e := by
  obtain ⟨h₁, h₂, h₃⟩ := h
  obtain ⟨k₁, k₂, k₃⟩ := k
  refine ⟨?_, k₂.trans h₂, fun n => (h₃ n).trans (k₃ n)⟩
  rw [k₁, h₁]

/-- A run of operations of which each changes only what a boot changes. -/
theorem foldl {α : Type} (f : Chip → α → Chip) (hf : ∀ (c : Chip) e, c.SameButBoot (f c e)) (l : List α) (c : Chip) :
    c.SameButBoot (l.foldl f c) :=
  List.foldlRecOn l f (motive := c.SameButBoot) (refl c) fun d hd e _ => hd.trans (hf d e)

variable {c d : Chip} (h : c.SameButBoot d)
include h

theorem on : d.power.on = c.power.on := by rw [h.1]
theorem queue : d.power.queue = c.power.queue := by rw [h.1]
theorem revoked : d.power.revoked = c.power.revoked := by rw [h.1]
theorem provisioned : d.power.provisioned = c.power.provisioned := by rw [h.1]
theorem keyRows : d.power.keyRows = c.power.keyRows := by rw [h.1]
theorem wrapped : d.power.wrapped = c.power.wrapped := by rw [h.1]
theorem stores : d.update.stores = c.update.stores := by rw [h.1]
theorem staging : d.update.staging = c.update.staging := by rw [h.1]
theorem journals : d.warning.journals = c.warning.journals := by rw [h.1]
theorem fg : d.fg = c.fg := by rw [h.1]
theorem csn : d.csn = c.csn := by rw [h.1]
theorem cycle : d.cycle = c.cycle := by rw [h.1]
theorem commits : d.commits = c.commits := by rw [h.1]
theorem energy : d.energy = c.energy := by rw [h.1]
theorem rd (off : Nat) : d.rd off = c.rd off := by rw [h.1]; rfl

end Chip.SameButBoot

/-- A type replaced by one with the same images and the same counter. -/
theorem Chip.sameButBoot_setType (c : Chip) (t : Nat) (x : ImageType) (hx : (c.imageType t).SameFlash x) :
    c.SameButBoot (c.setType t x) := by
  refine ⟨rfl, by simp [Chip.setType], fun n => ?_⟩
  rw [Chip.imageType_setType]
  split
  · next h => rw [← h.1]; exact hx
  · exact .refl _

theorem Chip.sameButBoot_saveDirectory (c : Chip) : c.SameButBoot c.saveDirectory := by
  unfold Chip.saveDirectory
  extract_lets dirs k old new
  split
  · exact .refl c
  · exact ⟨rfl, rfl, fun _ => .refl _⟩

/-- The directory read gives the types their confirmed slots and their trial bits, and nothing else. -/
theorem Chip.imageType_readDirectory (c : Chip) (n : Nat) :
    ∃ k b f, c.readDirectory.imageType n = { c.imageType n with confirmed := k, trialBit := b, failed := f } := by
  unfold Chip.readDirectory
  split
  · exact ⟨_, _, _, rfl⟩
  · simp only [Chip.imageType, List.getD_eq_getElem?_getD, List.getElem?_map, List.getElem?_zipIdx]
    cases c.update.types[n]? with
    | none => exact ⟨_, _, _, rfl⟩
    | some x => exact ⟨_, _, _, rfl⟩

theorem Chip.sameButBoot_readDirectory (c : Chip) : c.SameButBoot c.readDirectory := by
  refine ⟨?_, ?_, fun n => ?_⟩
  · unfold Chip.readDirectory
    split <;> rfl
  · unfold Chip.readDirectory
    split
    · rfl
    · simp
  · obtain ⟨k, b, f, h⟩ := c.imageType_readDirectory n
    rw [h]
    exact .refl _

theorem Chip.sameButBoot_putBack (c : Chip) (t : Nat) : c.SameButBoot (c.putBack t) := by
  unfold Chip.putBack
  extract_lets x u c₁
  have h₁ : c.SameButBoot c₁ ∧ c₁.imageType t = x := by
    unfold c₁
    split
    · exact ⟨⟨rfl, rfl, fun _ => .refl _⟩, rfl⟩
    · exact ⟨.refl c, rfl⟩
  exact (h₁.1.trans (c₁.sameButBoot_setType t _ (h₁.2 ▸ .refl x))).trans (Chip.sameButBoot_saveDirectory _)

theorem Chip.sameButBoot_endTrials (c : Chip) : c.SameButBoot c.endTrials := by
  refine Chip.SameButBoot.foldl _ (fun c t => ?_) _ c
  split
  · exact .refl c
  · exact (c.sameButBoot_putBack t).trans ⟨rfl, rfl, fun _ => .refl _⟩

theorem Chip.sameButBoot_bootType (c : Chip) (t : Nat) : c.SameButBoot (c.bootType t) := by
  have load (n : Nat) : c.SameButBoot (c.setType t ((c.imageType t).load n)) := c.sameButBoot_setType t _ (.refl _)
  unfold Chip.bootType
  extract_lets x p n
  split
  · exact (load _).trans ⟨rfl, rfl, fun _ => .refl _⟩
  split
  · exact (load _).trans ⟨rfl, rfl, fun _ => .refl _⟩
  · exact ⟨rfl, rfl, fun _ => .refl _⟩

theorem Chip.sameButBoot_bootImages (c : Chip) : c.SameButBoot c.bootImages := by
  unfold Chip.bootImages
  extract_lets c₁ u c₂ p
  have h₁ : c.SameButBoot c₁ := c.sameButBoot_readDirectory.trans (Chip.sameButBoot_endTrials _)
  clear_value c₁
  have h₂ : c₁.SameButBoot { c₂ with power := { p with recovery := false } } := ⟨rfl, rfl, fun _ => .refl _⟩
  exact (h₁.trans h₂).trans (Chip.SameButBoot.foldl Chip.bootType Chip.sameButBoot_bootType [0, 1, 2, 3, 4] _)

/-! ### Trials -/

/-- With no type on trial a reset ends none. -/
theorem Chip.endTrials_of_noTrial (c : Chip) (h : ∀ n, n < 5 → (c.imageType n).onTrial = false) : c.endTrials = c := by
  refine List.foldlRecOn (List.range 5) _ (motive := fun d => d = c) rfl fun d hd n hn => ?_
  subst hd
  simp [h n (List.mem_range.mp hn)]

/-- Booting a type writes no directory. -/
theorem Chip.dirs_bootType (c : Chip) (t : Nat) : (c.bootType t).update.dirs = c.update.dirs := by
  unfold Chip.bootType
  extract_lets x p n
  split
  · rfl
  split <;> rfl

theorem Chip.dirs_foldl_bootType (l : List Nat) (c : Chip) : (l.foldl Chip.bootType c).update.dirs = c.update.dirs := by
  induction l generalizing c with
  | nil => rfl
  | cons t l ih => rw [List.foldl_cons, ih, Chip.dirs_bootType]

/-- With no type on trial a boot writes no directory. -/
theorem Chip.dirs_bootImages_of_noTrial (c : Chip) (h : ∀ n, n < 5 → (c.imageType n).onTrial = false) :
    c.bootImages.update.dirs = c.update.dirs := by
  have hread : c.readDirectory.update.dirs = c.update.dirs := by
    unfold Chip.readDirectory
    split <;> rfl
  have hend : c.readDirectory.endTrials = c.readDirectory := by
    refine Chip.endTrials_of_noTrial _ fun n hn => ?_
    obtain ⟨k, b, f, he⟩ := c.imageType_readDirectory n
    rw [he]
    exact h n hn
  unfold Chip.bootImages
  rw [hend, ← hread]
  generalize c.readDirectory = r
  extract_lets u c₁ p
  rw [Chip.dirs_foldl_bootType]

/-! ### A power-on reset (R427, R432, R437) -/

/-- What the fuses and the flash hold stays: the key rows, the epochs, the images and their counters, the stores, the staging
area, the journals, and, where no trial ends, the boot directory. -/
def Chip.KeepsFlash (c t : Chip) : Prop :=
  t.power.revoked = c.power.revoked ∧ t.power.provisioned = c.power.provisioned ∧ t.power.keyRows = c.power.keyRows ∧
  t.power.wrapped = c.power.wrapped ∧ t.update.types.length = c.update.types.length ∧
  (∀ n, (c.imageType n).SameFlash (t.imageType n)) ∧
  t.update.stores = c.update.stores ∧ t.update.staging = c.update.staging ∧
  ((∀ n, n < 5 → (c.imageType n).onTrial = false) → t.update.dirs = c.update.dirs) ∧
  t.warning.journals = c.warning.journals

/-- The part at a power-on reset before its images boot: every field at reset but fuses, flash and what stands outside it. -/
def Chip.powerCut (c : Chip) : Chip :=
  let k := c.power
  { Chip.reset with
    freeCtr := c.freeCtr, out := c.out, cycle := c.cycle
    update := { Update.reset with
      types := c.update.types.map fun x => { x with verified := false }, stores := c.update.stores, dirs := c.update.dirs
      staging := c.update.staging, prevFormat := c.update.prevFormat, owed := c.update.owed }
    warning := { Warning.reset with journals := c.warning.journals }
    power := { Power.reset with
      revoked := k.revoked, provisioned := k.provisioned, keyRows := k.keyRows, wrapped := k.wrapped
      unwrapped := k.secrets, keyWord := keyEpochWord k.revoked k.provisioned, mainPg := false, perst := k.perst } }

/-- The part at a stage of the boot. -/
def Chip.atStage (c : Chip) (n : Nat) : Chip := { c with power := { c.power with stage := n } }

/-- A power-on reset boots the images of the part so cut, and stands at stage 4. -/
theorem Chip.powerOn_eq (c : Chip) : c.powerOn = c.powerCut.bootImages.atStage 4 := by
  unfold Chip.powerOn
  extract_lets r k w u p cut booted
  have hcut : cut = c.powerCut := rfl
  clear_value cut
  subst hcut
  have hbooted : booted = c.powerCut.bootImages := rfl
  clear_value booted
  rw [← hbooted]
  rfl

/-- An image type at a power-on reset is not verified any more, and stays otherwise. -/
theorem Chip.imageType_powerCut (c : Chip) (n : Nat) : c.powerCut.imageType n = { c.imageType n with verified := false } := by
  have h : c.powerCut.update.types = c.update.types.map fun x => { x with verified := false } := rfl
  rw [Chip.imageType, Chip.imageType, h]
  simp only [List.getD_eq_getElem?_getD, List.getElem?_map]
  cases c.update.types[n]? <;> rfl

/-- A power-on reset keeps the fuses and the flash. -/
theorem Chip.keepsFlash_powerOn (c : Chip) : c.KeepsFlash c.powerOn := by
  have h := c.powerCut.sameButBoot_bootImages
  have hdirs := c.powerCut.dirs_bootImages_of_noTrial
  rw [Chip.powerOn_eq]
  generalize c.powerCut.bootImages = b at h hdirs ⊢
  refine ⟨h.revoked, h.provisioned, h.keyRows, h.wrapped, ?length, fun n => ?images, h.stores, h.staging,
    fun hn => hdirs fun n hlt => ?dirs, h.journals⟩
  case length => exact h.2.1.trans (List.length_map _)
  case images =>
    have hn := h.2.2 n
    rw [Chip.imageType_powerCut] at hn
    exact hn
  case dirs =>
    rw [Chip.imageType_powerCut]
    exact hn n hlt

/-- Only PD_AON is on after a power-on reset. -/
theorem Chip.domainOn_powerOn (c : Chip) (d : Nat) : c.powerOn.domainOn d = true ↔ d = 0 := by
  have h : c.powerOn.power.on = true :: List.replicate 11 false := by
    have hb := c.powerCut.sameButBoot_bootImages
    rw [Chip.powerOn_eq]
    generalize c.powerCut.bootImages = b at hb ⊢
    exact hb.on
  unfold Chip.domainOn
  rw [h]
  cases d with
  | zero => simp
  | succ d =>
    rw [List.getD_cons_succ, List.getD_eq_getElem?_getD, List.getElem?_getD_replicate_default_eq]
    simp

/-! ### Domains that go off (R430, R431) -/

/-- What the show runs by stays: the CSN, the energy registers, the accepted commits, the generator, what the time bases read,
and which domains are on. -/
def Chip.KeepsRunning (c d : Chip) : Prop :=
  d.csn = c.csn ∧ d.energy = c.energy ∧ d.commits = c.commits ∧ d.fg = c.fg ∧
  (∀ n, n < 4 → (d.tb n).time = (c.tb n).time) ∧ d.power.on = c.power.on

namespace Chip.KeepsRunning

theorem refl (c : Chip) : c.KeepsRunning c := ⟨rfl, rfl, rfl, rfl, fun _ _ => rfl, rfl⟩

theorem trans {c d e : Chip} (h : c.KeepsRunning d) (k : d.KeepsRunning e) : c.KeepsRunning e := by
  obtain ⟨h₁, h₂, h₃, h₄, h₅, h₆⟩ := h
  obtain ⟨k₁, k₂, k₃, k₄, k₅, k₆⟩ := k
  exact ⟨k₁.trans h₁, k₂.trans h₂, k₃.trans h₃, k₄.trans h₄, fun n hn => (k₅ n hn).trans (h₅ n hn), k₆.trans h₆⟩

/-- A run of operations of which each keeps it. -/
theorem foldl {α : Type} (f : Chip → α → Chip) (hf : ∀ (c : Chip) e, c.KeepsRunning (f c e)) (l : List α) (c : Chip) :
    c.KeepsRunning (l.foldl f c) :=
  List.foldlRecOn l f (motive := c.KeepsRunning) (refl c) fun d hd e _ => hd.trans (hf d e)

/-- What posts events keeps it. -/
theorem of_events {c d : Chip} (h : c.SameButEvents d) : c.KeepsRunning d :=
  ⟨h.csn, h.energy, h.commits, h.fg, fun n _ => by rw [Chip.tb, Chip.tb, h.tbs], by rw [h.power]⟩

/-- What leaves those fields as they are keeps it. -/
theorem of_fields {c d : Chip} (h₁ : d.csn = c.csn) (h₂ : d.energy = c.energy) (h₃ : d.commits = c.commits) (h₄ : d.fg = c.fg)
    (h₅ : d.tbs = c.tbs) (h₆ : d.power.on = c.power.on) : c.KeepsRunning d :=
  ⟨h₁, h₂, h₃, h₄, fun n _ => by rw [Chip.tb, Chip.tb, h₅], h₆⟩

end Chip.KeepsRunning

theorem Chip.keepsRunning_setPort (c : Chip) (p : Nat) (x : NetPort) : c.KeepsRunning (c.setPort p x) :=
  .of_fields rfl rfl rfl rfl rfl rfl

theorem Chip.keepsRunning_setUniv (c : Chip) (u : Nat) (x : UnivState) : c.KeepsRunning (c.setUniv u x) :=
  .of_fields rfl rfl rfl rfl rfl rfl

theorem Chip.keepsRunning_cntAdd (c : Chip) (p off n : Nat) : c.KeepsRunning (c.cntAdd p off n) :=
  .of_fields rfl rfl rfl rfl rfl rfl

theorem Chip.keepsRunning_wr (c : Chip) (off v : Nat) : c.KeepsRunning (c.wr off v) := .of_fields rfl rfl rfl rfl rfl rfl

theorem Chip.keepsRunning_setFrame (c : Chip) (f : Frame) : c.KeepsRunning { c with frame := f } :=
  .of_fields rfl rfl rfl rfl rfl rfl

theorem Chip.keepsRunning_raise (c : Chip) (src code : Nat) (items : List Byte) : c.KeepsRunning (c.raise src code items) :=
  .of_events (c.sameButEvents_raise src code items)

theorem Chip.keepsRunning_settlePause (c : Chip) (p : Nat) : c.KeepsRunning (c.settlePause p) := by
  unfold Chip.settlePause
  extract_lets x
  split
  · exact (c.keepsRunning_cntAdd _ _ _).trans (Chip.keepsRunning_setPort _ _ _)
  · exact .refl c

theorem Chip.keepsRunning_emitted (c : Chip) (u : Nat) (kind : PacketKind) (check : Nat) :
    c.KeepsRunning (c.emitted u kind check) := by
  unfold Chip.emitted
  extract_lets x
  split
  · exact c.keepsRunning_setUniv _ _
  · exact .refl c
  · exact .refl c
  split
  · exact .refl c
  · exact c.keepsRunning_setUniv _ _

theorem Chip.keepsRunning_dropQueue (c : Chip) (p : Nat) : c.KeepsRunning (c.dropQueue p) := by
  unfold Chip.dropQueue
  extract_lets q x c₁
  have h₁ : c.KeepsRunning c₁ := (c.keepsRunning_setPort _ _).trans (Chip.keepsRunning_wr _ _ _)
  refine h₁.trans (Chip.KeepsRunning.foldl _ (fun c e => ?_) q c₁)
  split
  · exact .refl c
  · exact c.keepsRunning_emitted _ _ _

theorem Chip.keepsRunning_rearm (c : Chip) (p cause : Nat) : c.KeepsRunning (c.rearm p cause) := by
  unfold Chip.rearm
  split
  · exact .refl c
  · exact ((c.keepsRunning_setPort _ _).trans (Chip.keepsRunning_wr _ _ _)).trans (Chip.keepsRunning_raise _ _ _ _)

theorem Chip.keepsRunning_setWake (c : Chip) (p ns : Nat) : c.KeepsRunning (c.setWake p ns) := by
  unfold Chip.setWake
  extract_lets ns'
  split
  · exact .refl c
  · exact ((c.keepsRunning_wr _ _).trans (Chip.keepsRunning_wr _ _ _)).trans (Chip.keepsRunning_raise _ _ _ _)

theorem Chip.keepsRunning_linkDown (c : Chip) (p : Nat) : c.KeepsRunning (c.linkDown p) := by
  unfold Chip.linkDown
  split
  · exact .refl c
  extract_lets c₁ x c₂ f c₃ c₄ c₅
  have h₂ : c.KeepsRunning c₂ := (c.keepsRunning_settlePause p).trans (Chip.keepsRunning_setPort _ _ _)
  have h₃ : c₂.KeepsRunning c₃ := c₂.keepsRunning_setFrame _
  have h₄ : c₃.KeepsRunning c₄ :=
    ((c₃.keepsRunning_cntAdd _ _ _).trans (Chip.keepsRunning_dropQueue _ p)).trans (Chip.keepsRunning_rearm _ p 2)
  have h₅ : c₄.KeepsRunning c₅ := by
    unfold c₅
    split
    · exact c₄.keepsRunning_setWake p 0
    · exact .refl c₄
  exact (((h₂.trans h₃).trans h₄).trans h₅).trans ((c₅.keepsRunning_wr _ _).trans (Chip.keepsRunning_raise _ _ _ _))

theorem Chip.keepsRunning_clearPorts (c : Chip) (l : List Nat) : c.KeepsRunning (c.clearPorts l) := by
  unfold Chip.clearPorts
  exact Chip.KeepsRunning.foldl _ (fun c p => (c.keepsRunning_linkDown p).trans (Chip.keepsRunning_setPort _ _ _)) l c

/-- PD_CTRL takes the clocks' partners with it, not what the time bases read. -/
theorem Chip.keepsRunning_clearCtrl (c : Chip) : c.KeepsRunning c.clearCtrl := by
  refine ⟨rfl, rfl, rfl, rfl, fun n hn => ?_, rfl⟩
  simp only [Chip.clearCtrl, Chip.tb, List.getD_eq_getElem?_getD, List.getElem?_map, List.getElem?_range hn, Option.map_some,
    Option.getD_some]
  split <;> rfl

theorem Chip.keepsRunning_clearPack (c : Chip) : c.KeepsRunning c.clearPack := by
  unfold Chip.clearPack
  exact (c.keepsRunning_setFrame _).trans
    (Chip.KeepsRunning.foldl _ (fun d p => d.keepsRunning_setPort p _) (List.range 4) _)

/-- No domain takes with it what the show runs by. -/
theorem Chip.keepsRunning_clearState (c : Chip) (d : Nat) : c.KeepsRunning (c.clearState d) := by
  unfold Chip.clearState
  split
  · exact c.keepsRunning_clearCtrl
  case h_7 => exact c.keepsRunning_clearPack
  case h_8 => exact c.keepsRunning_clearPorts _
  case h_9 => exact c.keepsRunning_clearPorts _
  all_goals exact .of_fields rfl rfl rfl rfl rfl rfl

theorem Chip.keepsRunning_clearDomain (c : Chip) (d : Nat) : c.KeepsRunning (c.clearDomain d) :=
  (c.keepsRunning_clearState d).trans (.of_fields rfl rfl rfl rfl rfl rfl)

/-- Balls driven to rest. -/
theorem Chip.sameButEvents_restBalls (c : Chip) (d : Nat) : c.SameButEvents (c.restBalls d) := by
  unfold Chip.restBalls
  extract_lets l
  split
  · exact .refl c
  · exact c.sameButEvents_toBall _

/-- The part with some domains' switches off. -/
def Chip.switchedOff (c : Chip) (l : List Nat) : Chip :=
  { c with power := { c.power with on := l.foldl (fun o k => o.set k false) c.power.on } }

/-- The part with some domains gone off, one after the other. -/
def Chip.dropped (c : Chip) (l : List Nat) : Chip := l.foldl (fun c k => ((c.restBalls k).setDomain k false).clearDomain k) c

theorem Chip.dropDomains_eq (c : Chip) (d : List Host.Cell) (l : List Nat) :
    c.dropDomains d l = (if l.contains 4 then [] else d, c.dropped l) := rfl

/-- Domains that go off take with them nothing of what the show runs by but their own switches. -/
theorem Chip.keepsRunning_dropped (c : Chip) (l : List Nat) : (c.switchedOff l).KeepsRunning (c.dropped l) := by
  induction l generalizing c with
  | nil => exact .refl c
  | cons k l ih =>
    have hrest := Chip.KeepsRunning.of_events (c.sameButEvents_restBalls k)
    have hclear := ((c.restBalls k).setDomain k false).keepsRunning_clearDomain k
    obtain ⟨h₁, h₂, h₃, h₄, h₅, h₆⟩ := hrest
    obtain ⟨k₁, k₂, k₃, k₄, k₅, k₆⟩ := hclear
    refine Chip.KeepsRunning.trans ?_ (ih (((c.restBalls k).setDomain k false).clearDomain k))
    refine ⟨k₁.trans h₁, k₂.trans h₂, k₃.trans h₃, k₄.trans h₄, fun n hn => (k₅ n hn).trans (h₅ n hn), ?_⟩
    have hon : (((c.restBalls k).setDomain k false).clearDomain k).power.on = c.power.on.set k false := by
      rw [k₆, ← h₆]
      rfl
    exact congrArg (List.foldl (fun o k => o.set k false) · l) hon

/-- A domain of the list is off after it; the others are as they were. -/
theorem Chip.domainOn_switchedOff (c : Chip) (l : List Nat) (d : Nat) :
    (c.switchedOff l).domainOn d = (!decide (d ∈ l) && c.domainOn d) := by
  have h : ∀ o : List Bool, (l.foldl (fun o k => o.set k false) o).getD d false = (!decide (d ∈ l) && o.getD d false) := by
    induction l with
    | nil => simp
    | cons k l ih =>
      intro o
      rw [List.foldl_cons, ih]
      by_cases hk : d = k
      · subst hk
        by_cases hd : d < o.length <;> simp [List.getD_eq_getElem?_getD, hd]
      · simp [List.getD_eq_getElem?_getD, hk, Ne.symm hk]
  exact h c.power.on

/-! ### A change of domain that ends (R428, R437) -/

/-- The switches of the domains and PWR_EVT stay. -/
def Chip.KeepsSwitches (c d : Chip) : Prop := d.power.on = c.power.on ∧ d.rd Reg.PWR_EVT = c.rd Reg.PWR_EVT

namespace Chip.KeepsSwitches

theorem refl (c : Chip) : c.KeepsSwitches c := ⟨rfl, rfl⟩

theorem trans {c d e : Chip} (h : c.KeepsSwitches d) (k : d.KeepsSwitches e) : c.KeepsSwitches e :=
  ⟨k.1.trans h.1, k.2.trans h.2⟩

/-- A run of operations of which each keeps them. -/
theorem foldl {α : Type} (f : Chip → α → Chip) (l : List α) (hf : ∀ (c : Chip), ∀ e ∈ l, c.KeepsSwitches (f c e)) (c : Chip) :
    c.KeepsSwitches (l.foldl f c) :=
  List.foldlRecOn l f (motive := c.KeepsSwitches) (refl c) fun d hd e he => hd.trans (hf d e he)

/-- What posts events keeps them. -/
theorem of_events {c d : Chip} (h : c.SameButEvents d) : c.KeepsSwitches d := ⟨by rw [h.power], h.rd_power (by decide)⟩

/-- What boots images keeps them. -/
theorem of_boot {c d : Chip} (h : c.SameButBoot d) : c.KeepsSwitches d := ⟨h.on, h.rd _⟩

/-- What leaves the switches and the register file as they are keeps them. -/
theorem of_fields {c d : Chip} (h₁ : d.power.on = c.power.on) (h₂ : d.regs = c.regs) : c.KeepsSwitches d :=
  ⟨h₁, by rw [Chip.rd, Chip.rd, h₂]⟩

end Chip.KeepsSwitches

theorem Chip.keepsSwitches_wr (c : Chip) (off v : Nat) (h : Reg.PWR_EVT ≠ off) : c.KeepsSwitches (c.wr off v) :=
  ⟨rfl, c.rd_wr_ne _ _ _ h⟩

theorem Chip.keepsSwitches_setEnergy (c : Chip) (k : Nat) (x : Energy) : c.KeepsSwitches (c.setEnergy k x) := .of_fields rfl rfl

theorem Chip.keepsSwitches_setPulse (c : Chip) (n : Nat) (x : Pulse) : c.KeepsSwitches (c.setPulse n x) := .of_fields rfl rfl

theorem Chip.keepsSwitches_raise (c : Chip) (src code : Nat) (items : List Byte) : c.KeepsSwitches (c.raise src code items) :=
  .of_events (c.sameButEvents_raise src code items)

/-- The path latencies of a port that are committed write their own registers. -/
theorem Chip.keepsSwitches_loadLatency (c : Chip) (p : Nat) (hp : p < 5) : c.KeepsSwitches (c.loadLatency p) := by
  have htx : Reg.PWR_EVT ≠ Reg.TSU_TX_LAT p := by unfold Reg.PWR_EVT Reg.TSU_TX_LAT; omega
  have hrx : Reg.PWR_EVT ≠ Reg.TSU_RX_LAT p := by unfold Reg.PWR_EVT Reg.TSU_RX_LAT; omega
  exact (Chip.KeepsSwitches.of_fields rfl rfl : c.KeepsSwitches { c with commits := _ }).trans
    ((Chip.keepsSwitches_wr _ _ _ htx).trans (Chip.keepsSwitches_wr _ _ _ hrx))

theorem Chip.keepsSwitches_writeMacs (c : Chip) : c.KeepsSwitches c.writeMacs := by
  unfold Chip.writeMacs
  refine Chip.KeepsSwitches.foldl _ _ (fun c p _ => ?_) c
  have hlo : Reg.PWR_EVT ≠ Reg.NET_MAC_LO p := by unfold Reg.PWR_EVT Reg.NET_MAC_LO; omega
  have hhi : Reg.PWR_EVT ≠ Reg.NET_MAC_HI p := by unfold Reg.PWR_EVT Reg.NET_MAC_HI; omega
  have hlive (c : Chip) (off v : Nat) : c.KeepsSwitches (c.wrLive off v) := .of_fields rfl rfl
  exact (((Chip.keepsSwitches_wr _ _ _ hlo).trans (hlive _ _ _)).trans (Chip.keepsSwitches_wr _ _ _ hhi)).trans (hlive _ _ _)

theorem Chip.keepsSwitches_restoreTotals (c : Chip) : c.KeepsSwitches c.restoreTotals := by
  have told (c : Chip) (items : List Byte) : c.KeepsSwitches ((c.setEvt Reg.MTR_EVT 16).raise 129 0x1402 items) :=
    (c.keepsSwitches_wr _ _ (by decide)).trans (Chip.keepsSwitches_raise _ _ _ _)
  unfold Chip.restoreTotals
  extract_lets good newest
  clear_value newest
  split
  · exact told _ _
  · extract_lets c₁ c₂
    have h₁ : c.KeepsSwitches c₁ := .foldl _ _ (fun d _ _ => d.keepsSwitches_setEnergy _ _) c
    have h₂ : c₁.KeepsSwitches c₂ := .foldl _ _ (fun d _ _ => d.keepsSwitches_setPulse _ _) c₁
    exact (h₁.trans h₂).trans (told _ _)

theorem Chip.keepsSwitches_loadDomain (c : Chip) (d : Nat) : c.KeepsSwitches (c.loadDomain d).1 := by
  unfold Chip.loadDomain
  split
  · exact .refl c
  · next t _ =>
    extract_lets x booted
    split
    · exact .of_boot (c.sameButBoot_setType t _ (.refl _))
    · exact .of_boot (c.sameButBoot_bootType t)

theorem Chip.keepsSwitches_loadDomains (c : Chip) (l : List Nat) : c.KeepsSwitches (c.loadDomains l).1 := by
  unfold Chip.loadDomains
  exact List.foldlRecOn l _ (motive := fun r : Chip × List Nat => c.KeepsSwitches r.1) (.refl c) fun r hr d _ =>
    hr.trans (r.1.keepsSwitches_loadDomain d)

theorem Chip.keepsSwitches_startCores (c : Chip) : c.KeepsSwitches c.startCores := by
  unfold Chip.startCores
  extract_lets c₁ c₂ r
  have h₁ : c.KeepsSwitches c₁ := by
    unfold c₁
    split
    · exact c.keepsSwitches_restoreTotals
    · exact .refl c
  have h₂ : c₁.KeepsSwitches c₂ := c₁.keepsSwitches_writeMacs.trans (Chip.keepsSwitches_loadLatency _ 4 (by decide))
  have h₃ : c₂.KeepsSwitches r.1 := c₂.keepsSwitches_loadDomains _
  clear_value c₁ c₂ r
  exact ((h₁.trans h₂).trans h₃).trans (.of_fields rfl rfl)

theorem Chip.keepsSwitches_bootCtrl (c : Chip) : c.KeepsSwitches c.bootCtrl := by
  unfold Chip.bootCtrl
  extract_lets p c₁
  have h₀ : c.KeepsSwitches { c with power := { p with stage := 6 } } := .of_fields rfl rfl
  have h₁ : c.KeepsSwitches c₁ := h₀.trans (.of_boot (Chip.sameButBoot_bootType _ 0))
  clear_value c₁
  split
  · exact h₁.trans (.of_fields rfl rfl)
  · exact h₁.trans c₁.keepsSwitches_startCores

theorem Chip.keepsSwitches_tellOwed (c : Chip) : c.KeepsSwitches c.tellOwed := by
  unfold Chip.tellOwed
  refine Chip.KeepsSwitches.trans ?_ (Chip.KeepsSwitches.foldl _ _ (fun c e _ => ?_) _)
  · exact .of_fields rfl rfl
  · exact (c.keepsSwitches_wr _ _ (by decide)).trans (Chip.keepsSwitches_raise _ _ _ _)

theorem Chip.keepsSwitches_bootReady (c : Chip) : c.KeepsSwitches c.bootReady := by
  unfold Chip.bootReady
  split
  · exact Chip.KeepsSwitches.trans (.of_fields rfl rfl) (Chip.keepsSwitches_tellOwed _)
  split
  · exact Chip.KeepsSwitches.trans (.of_fields rfl rfl) (Chip.keepsSwitches_tellOwed _)
  · exact .refl c

/-- The training of LPDDR5X switches nothing. -/
theorem Chip.keepsSwitches_train (c : Chip) : c.KeepsSwitches c.train.1 := by
  have hcold (c : Chip) : c.KeepsSwitches c.coldJunction.2 := by
    unfold Chip.coldJunction
    split
    · exact .of_fields rfl rfl
    · exact .refl c
  have hdrew : c.KeepsSwitches c.drew := .of_fields rfl rfl
  unfold Chip.train
  extract_lets fitted k r c₁ rate
  have h₁ : c.KeepsSwitches c₁ := hdrew.trans (hcold _)
  clear_value c₁
  split
  · exact h₁
  · exact h₁.trans (.of_fields rfl rfl)

/-- A change of domain that is told switches nothing, and sets its bit of PWR_EVT. -/
theorem Chip.domainTold_switches (c : Chip) (d : Nat) (on : Bool) (n : Nat) :
    (c.domainTold d on n).power.on = c.power.on ∧ bit ((c.domainTold d on n).rd Reg.PWR_EVT) 0 = true := by
  have hev := (c.setEvt Reg.PWR_EVT 1).sameButEvents_raise 5 0x0601 (it4 d ++ it4 on.toNat ++ it8 n)
  unfold Chip.domainTold
  rw [hev.power, hev.rd_power (by decide)]
  exact ⟨rfl, c.bit_rd_setEvt _ 1 0 (by decide) (by decide)⟩

/-- A change of domain that ends sets the domain's switch, to what it asked for but where PD_DRAM does not come on, and tells
it once commands are served. -/
theorem Chip.endChange_switches (c : Chip) (d : Nat) (on : Bool) (n : Nat) :
    ∃ b : Bool, (d ≠ 4 ∨ on = false → b = on) ∧ (c.endChange d on n).power.on = c.power.on.set d b ∧
      (c.power.stage = 8 → bit ((c.endChange d on n).rd Reg.PWR_EVT) 0 = true) := by
  unfold Chip.endChange
  extract_lets p c₁ boot q c₂ r c₃ w c₄ c₅ c₆ c₇
  have h₁ : c.KeepsSwitches c₁ := .of_fields rfl rfl
  have h₂ : c.KeepsSwitches c₂ := by
    unfold c₂
    split
    · exact h₁.trans (.of_fields rfl rfl)
    · exact h₁
  have hr : c₂.KeepsSwitches r.1 ∧ (d ≠ 4 ∨ on = false → r.2 = on) := by
    unfold r
    split
    · next h => exact ⟨c₂.keepsSwitches_train, fun hd => by simp at h; simp [h] at hd⟩
    · exact ⟨.refl c₂, fun _ => rfl⟩
  have h₃ : c₃.power.on = c.power.on.set d r.2 := by
    rw [← (h₂.trans hr.1).1]
    rfl
  have h₄ : c₃.KeepsSwitches c₄ := by
    unfold c₄
    split
    · exact .of_fields rfl rfl
    · exact .refl c₃
  have h₅ : c₅.power.on = c₄.power.on ∧ (c.power.stage = 8 → bit (c₅.rd Reg.PWR_EVT) 0 = true) := by
    have hboot : boot = (c.power.stage != 8) := rfl
    have htold := c₄.domainTold_switches d r.2 n
    unfold c₅
    split
    · next h => exact ⟨rfl, fun hs => by simp [hboot, hs] at h⟩
    · exact ⟨htold.1, fun _ => htold.2⟩
  have h₆ : c₅.KeepsSwitches c₆ := by
    unfold c₆
    split
    · exact (c₅.keepsSwitches_loadLatency 0 (by decide)).trans (Chip.keepsSwitches_loadLatency _ 1 (by decide))
    split
    · exact (c₅.keepsSwitches_loadLatency 2 (by decide)).trans (Chip.keepsSwitches_loadLatency _ 3 (by decide))
    · exact .refl c₅
  have h₇ : c₆.KeepsSwitches c₇ := by
    unfold c₇
    split
    · exact c₆.keepsSwitches_bootCtrl
    · exact .refl c₆
  have h := (h₆.trans h₇).trans c₇.keepsSwitches_bootReady
  refine ⟨r.2, hr.2, ?_, fun hs => ?_⟩
  · rw [h.1, h₅.1, h₄.1, h₃]
  · rw [h.2]
    exact h₅.2 hs

/-! ### The commands -/

/-- The part as the main rail's fall leaves it (R431). -/
def Chip.mainFallen (c : Chip) : Chip :=
  let c := (c.forgetCommits.dropped (showDomains.reverse ++ [2, 1])).toBall (.balls unpoweredBalls)
  { c with power := { c.power with mainPg := false, queue := [], stage := 4, warm := false } }

/-- MAIN_PG_FALL with the rail up: PD_DRAM is among the domains that go off, and all of LPDDR5X with it. -/
theorem exec_mainPgFall_of_high (s : State) (h : s.chip.power.mainPg = true) :
    exec .mainPgFall s = .next (s.ontoBoth ([], s.chip.mainFallen)) := by
  have hdram : (showDomains.reverse ++ [2, 1]).contains 4 = true := by decide
  simp only [exec, execMainPgFall, onBoth_eq, h, Bool.not_true, Bool.false_eq_true, if_false, Chip.dropDomains_eq, hdram, if_true]
  rfl

/-- The main rail's fall leaves what the show runs by but its commits, its calls and the switches of the domains. -/
theorem Chip.keepsRunning_mainFallen (c : Chip) :
    (c.forgetCommits.switchedOff (showDomains.reverse ++ [2, 1])).KeepsRunning c.mainFallen := by
  unfold Chip.mainFallen
  extract_lets t p
  have h : (c.forgetCommits.switchedOff (showDomains.reverse ++ [2, 1])).KeepsRunning t :=
    (c.forgetCommits.keepsRunning_dropped _).trans (.of_events (Chip.sameButEvents_toBall _ (.balls unpoweredBalls)))
  clear_value t
  exact h.trans (.of_fields rfl rfl rfl rfl rfl rfl)

/-- The levels of the main banks are shown on their balls. -/
theorem Chip.sameButEvents_showMain (c : Chip) : c.SameButEvents c.showMain := by
  unfold Chip.showMain
  extract_lets off c₁ c₂
  have h₁ : c.SameButEvents c₁ := by
    unfold c₁
    split
    · exact .refl c
    · exact c.sameButEvents_toBall _
  have h₂ : c.SameButEvents c₂ := h₁.trans (c₁.sameButEvents_toBall _)
  split
  · exact h₂
  · exact List.foldlRecOn _ _ (motive := c.SameButEvents) h₂ fun d hd n _ => hd.trans (d.sameButEvents_toBall _)

/-- Changes queued after events, and without them. -/
theorem Chip.SameButEvents.queueDomains {c d : Chip} (h : c.SameButEvents d) (l : List (Nat × Bool)) :
    (c.queueDomains l).SameButEvents (d.queueDomains l) :=
  ⟨congrArg (Chip.queueDomains · l) h.1, h.2⟩

/-- What happens as the main rail comes up (R431, R437). -/
def Chip.mainRises (c : Chip) : Chip :=
  let c := if c.power.mainUpAt.isNone then c else (c.setEvt Reg.RESET_CAUSE 32).bootImages
  let c : Chip := { c with power := { c.power with mainPg := true, mainUpAt := some c.cycle, stage := 5 } }
  (if c.power.pins then c else c.showMain).queueDomains [(1, true), (2, true)]

/-- MAIN_PG_RISE with the rail down. -/
theorem exec_mainPgRise_of_low (s : State) (hpg : s.chip.power.mainPg = false) (hs : s.chip.power.supply = true)
    (hst : s.chip.power.stage = 4) : exec .mainPgRise s = .next (s.onto (s.chip.inCycle Chip.mainRises)) := by
  simp only [exec, execMainPgRise, onChip_eq, hpg, hs, hst]
  rfl

/-- What a rise of the main rail leads to: stage 5, with PD_CTRL and PD_HOST to come on, and the cause of a restart. -/
def Chip.MainRisen (c t : Chip) : Prop :=
  t.power.mainPg = true ∧ t.power.stage = 5 ∧ t.power.queue = c.power.queue ++ [(1, true, c.csn), (2, true, c.csn)] ∧
  t.csn = c.csn ∧ t.fg = c.fg ∧ t.commits = c.commits ∧ t.power.mainUpAt = some c.cycle ∧
  (c.power.mainUpAt.isSome = true → bit (t.rd Reg.RESET_CAUSE) 5 = true)

/-- Events change nothing of it. -/
theorem Chip.MainRisen.of_events {c t u : Chip} (h : c.MainRisen t) (k : t.SameButEvents u) : c.MainRisen u := by
  unfold Chip.MainRisen at *
  rwa [k.power, k.csn, k.fg, k.commits, k.rd_power (by decide)]

theorem Chip.mainRisen_mainRises (c : Chip) : c.MainRisen c.mainRises := by
  unfold Chip.mainRises
  extract_lets c₁ p c₂
  obtain ⟨c₀, hc₀, hcause, hboot⟩ : ∃ c₀ : Chip, (∃ r, c₀ = { c with regs := r }) ∧
      (c.power.mainUpAt.isSome = true → bit (c₀.rd Reg.RESET_CAUSE) 5 = true) ∧ c₀.SameButBoot c₁ := by
    unfold c₁
    split
    · next h => exact ⟨c, ⟨_, rfl⟩, by simp_all, .refl c⟩
    · exact ⟨_, ⟨_, rfl⟩, fun _ => c.bit_rd_setEvt _ 32 5 (by decide) (by decide), Chip.sameButBoot_bootImages _⟩
  obtain ⟨r, rfl⟩ := hc₀
  have hc₂ : c.MainRisen (c₂.queueDomains [(1, true), (2, true)]) := by
    refine ⟨rfl, rfl, ?queue, hboot.csn, hboot.fg, hboot.commits, congrArg some hboot.cycle, fun h => ?cause⟩
    case queue =>
      have hq := hboot.queue
      have hn := hboot.csn
      clear_value c₁
      show c₁.power.queue ++ [(1, true, c₁.csn), (2, true, c₁.csn)] = _
      rw [hq, hn]
    case cause =>
      have hrd := hboot.rd Reg.RESET_CAUSE
      clear_value c₁
      exact (congrArg (bit · 5) hrd).trans (hcause h)
  clear_value c₂
  have hshown : c₂.SameButEvents (if c₂.power.pins then c₂ else c₂.showMain) := by
    split
    · exact .refl c₂
    · exact c₂.sameButEvents_showMain
  exact hc₂.of_events (hshown.queueDomains _)

/-- A store's entries of a key left out, the key reads its default. -/
theorem Store.get_filter_of_dropped {α : Type} (d : Nat → α) (m : Sparse α) (k : Nat) (q : Nat × α → Bool)
    (h : ∀ v, q (k, v) = false) : Store.get d (m.filter q) k = d k := by
  refine Store.get_of_ne d _ k fun e he hk => ?_
  have hq := (List.mem_filter.mp he).2
  rw [← Prod.mk.eta (p := e), hk, h] at hq
  cases hq

/-- An event route at reset: ring and vector of the source's number. -/
theorem regReset_evtRoute (n : Nat) (h : n < 256) : (regReset (Reg.EVT_ROUTE n)).toNat = n * 256 := by
  have hlo : 0xE000 ≤ Reg.EVT_ROUTE n := by unfold Reg.EVT_ROUTE; omega
  have hhi : Reg.EVT_ROUTE n < 0xE400 := by unfold Reg.EVT_ROUTE; omega
  have hn : (Reg.EVT_ROUTE n - 0xE000) / 4 = n := by unfold Reg.EVT_ROUTE; omega
  simp only [regReset, hlo, hhi, decide_true, Bool.and_self, if_true, hn]
  rw [BitVec.toNat_ofNat]
  omega

/-- POWER_ON_RESET with the supply down or the boot not begun. -/
theorem exec_powerOnReset_of_unbooted (s : State) (h : s.chip.power.supply = false ∨ s.chip.power.stage = 0) :
    exec .powerOnReset s = .next (s.ontoBoth ([], s.chip.powerOn)) := by
  have hcond : (s.chip.power.supply && s.chip.power.stage != 0) = false := by
    rcases h with h | h <;> simp [h]
  simp only [exec, execPowerOnReset, onBoth_eq, hcond]
  rfl

/-- The part as the loss of the combined supply leaves it (R427, R432). -/
def Chip.supplyFallen (c : Chip) : Chip :=
  { c.powerOn with power := { c.powerOn.power with supply := false, stage := 0, perst := true } }

/-- COMBINED_SUPPLY_FALL with the supply up. -/
theorem exec_combinedSupplyFall_of_up (s : State) (h : s.chip.power.supply = true) :
    exec .combinedSupplyFall s = .next (s.ontoBoth ([], s.chip.supplyFallen)) := by
  simp only [exec, execCombinedSupplyFall, onBoth_eq, h]
  rfl

/-- PWR_DOMAIN_CHANGE of the domain at the head of the queue. -/
theorem exec_pwrDomainChange_of_head (s : State) (d n : Nat) (on : Bool) (q : List (Nat × Bool × Nat)) (hd : d < 12)
    (hq : s.chip.power.queue = (d, on, n) :: q) (hpg : s.chip.power.mainPg = true) :
    exec (.pwrDomainChange d) s = .next (s.onto (s.chip.inCycle fun c => c.endChange d on n)) := by
  simp only [exec, execPwrDomainChange, onChip_eq, hd, decide_true, within_true, hq, hpg, Bool.and_self, if_true]
  rfl

/-- PWR_DOMAIN_CHANGE of a domain that is not at the head of the queue, or with the main rail down. -/
theorem exec_pwrDomainChange_of_other (s : State) (d : Nat) (hd : d < 12)
    (h : s.chip.power.queue.head?.map (·.1) ≠ some d ∨ s.chip.power.mainPg = false) :
    exec (.pwrDomainChange d) s = .next s := by
  simp only [exec, execPwrDomainChange, onChip_eq, hd, decide_true, within_true]
  split
  · rfl
  · next e q hq =>
    have hcond : (decide (e.1 = d) && s.chip.power.mainPg) = false := by
      rcases h with h | h
      · simp_all
      · simp [h]
    simp only [hcond]
    rfl

/-- Where the show stands after a power-on reset (R427). -/
theorem Chip.powerOn_show (c : Chip) :
    c.powerOn.power.stage = 4 ∧ c.powerOn.fg = Chip.reset.fg ∧ c.powerOn.csn = 0 ∧ c.powerOn.commits = [] ∧
      c.powerOn.energy = [] := by
  have h := c.powerCut.sameButBoot_bootImages
  rw [Chip.powerOn_eq]
  generalize c.powerCut.bootImages = b at h ⊢
  exact ⟨rfl, h.fg, h.csn, h.commits, h.energy⟩

/-- The loss of the supply keeps the fuses and the flash, and no energy register. -/
theorem Chip.supplyFallen_keeps (c : Chip) : c.KeepsFlash c.supplyFallen ∧ c.supplyFallen.energy = [] := by
  have hk := c.keepsFlash_powerOn
  have he := c.powerOn_show.2.2.2.2
  unfold Chip.supplyFallen
  generalize c.powerOn = b at hk he ⊢
  exact ⟨hk, he⟩

/-- The main rail's fall leaves PD_AON alone on, if it was. -/
theorem Chip.domainOn_mainFallen (c : Chip) (d : Nat) :
    c.mainFallen.domainOn d = (!decide (d ∈ showDomains.reverse ++ [2, 1]) && c.domainOn d) := by
  obtain ⟨-, -, -, -, -, hon⟩ := c.keepsRunning_mainFallen
  have h : c.mainFallen.domainOn d = (c.forgetCommits.switchedOff (showDomains.reverse ++ [2, 1])).domainOn d := by
    rw [Chip.domainOn, Chip.domainOn, hon]
  rw [h, Chip.domainOn_switchedOff]
  rfl

/-- Every domain but PD_AON is among those the main rail feeds. -/
theorem mem_mainDomains {d : Nat} (h₁ : 1 ≤ d) (h₂ : d < 12) : d ∈ showDomains.reverse ++ [2, 1] := by
  have h : ∀ d, d < 12 → 1 ≤ d → d ∈ showDomains.reverse ++ [2, 1] := by decide
  exact h d h₂ h₁

/-- A rise of the main rail that is served within a cycle. -/
theorem Chip.mainRisen_inCycle (c : Chip) : c.MainRisen (c.inCycle Chip.mainRises) := by
  obtain ⟨l, hl⟩ := c.sameButEvents_inCycle Chip.mainRises
  have h : c.MainRisen { c with batch := some l }.mainRises := Chip.mainRisen_mainRises { c with batch := some l }
  exact h.of_events hl

/-- A change of domain that ends within a cycle. -/
theorem Chip.inCycle_endChange_switches (c : Chip) (d : Nat) (on : Bool) (n : Nat) :
    ∃ b : Bool, (d ≠ 4 ∨ on = false → b = on) ∧ (c.inCycle fun c => c.endChange d on n).power.on = c.power.on.set d b ∧
      (c.power.stage = 8 → bit ((c.inCycle fun c => c.endChange d on n).rd Reg.PWR_EVT) 0 = true) := by
  obtain ⟨l, hl⟩ := c.sameButEvents_inCycle fun c => c.endChange d on n
  rw [hl.power, hl.rd_power (by decide)]
  exact Chip.endChange_switches { c with batch := some l } d on n

/-- What PERST_N asserted leaves: the host's part gone, and all the show uses as it was. -/
def Chip.PerstDone (c t : Chip) : Prop :=
  t.power = { c.power with perst := true } ∧ t.rings = [] ∧ t.mboxes = [] ∧ t.msixPend = [] ∧ t.commits = c.commits ∧
  t.live = c.live ∧ t.tables = c.tables ∧ t.univs = c.univs ∧ t.csn = c.csn ∧ t.tbs = c.tbs ∧
  bit (t.rd Reg.RESET_CAUSE) 1 = true ∧ ∀ n, n < 256 → t.rd (Reg.EVT_ROUTE n) = n * 256

/-- PERST_N while it is not asserted. -/
theorem exec_perstN_of_high (s : State) (h : s.chip.power.perst = false) :
    ∃ t, exec .perstN s = .next (s.onto t) ∧ s.chip.PerstDone t := by
  simp only [exec, execPerstN, onChip_eq, h, Bool.false_eq_true, if_false]
  refine ⟨_, rfl, rfl, rfl, rfl, rfl, rfl, rfl, rfl, rfl, rfl, rfl, ?cause, ?routes⟩
  case cause => exact Chip.bit_rd_setEvt _ _ 2 1 (by decide) (by decide)
  case routes =>
    intro n hn
    have hne : Reg.EVT_ROUTE n ≠ Reg.RESET_CAUSE := by unfold Reg.EVT_ROUTE Reg.RESET_CAUSE; omega
    refine (Chip.rd_setEvt_ne _ _ _ _ hne).trans ((congrArg BitVec.toNat ?_).trans (regReset_evtRoute n hn))
    refine Store.get_filter_of_dropped regReset _ _ _ fun v => ?_
    have hlo : 0xE000 ≤ Reg.EVT_ROUTE n := by unfold Reg.EVT_ROUTE; omega
    have hhi : Reg.EVT_ROUTE n < 0xE400 := by unfold Reg.EVT_ROUTE; omega
    simp [hlo, hhi]

/-- Settles O59: each supply and reset command by the part it leaves, with what that part keeps; a change of domain by the switch
it sets. -/
theorem suppliesAndResetsKeepWhatTheyMust : Obligations.SuppliesAndResetsKeepWhatTheyMust := by
  rintro s c rfl kept rfl
  refine ⟨?por, ?porOff, ?csf, ?csfOff, ?fall, ?fallOff, ?rise, ?riseOff, ?perst, ?perstOff, ?release, ?releaseOff, ?domain⟩
  case por =>
    intro h
    obtain ⟨hstage, hfg, hcsn, hcommits, -⟩ := s.chip.powerOn_show
    exact ⟨_, exec_powerOnReset_of_unbooted s h, rfl, hstage, s.chip.keepsFlash_powerOn, s.chip.domainOn_powerOn, hfg, hcsn, hcommits⟩
  case porOff =>
    intro hs hst
    have hcond : (s.chip.power.supply && s.chip.power.stage != 0) = true := by simp [hs, hst]
    simp only [exec, execPowerOnReset, onBoth_eq, hcond, if_true]
  case csf =>
    intro h
    obtain ⟨hkept, henergy⟩ := s.chip.supplyFallen_keeps
    exact ⟨_, exec_combinedSupplyFall_of_up s h, rfl, rfl, rfl, hkept, henergy⟩
  case csfOff =>
    intro h
    simp only [exec, execCombinedSupplyFall, onBoth_eq, h, Bool.not_false, if_true]
  case fall =>
    intro h _
    obtain ⟨hcsn, henergy, hcommits, hfg, htime, -⟩ := s.chip.keepsRunning_mainFallen
    refine ⟨_, exec_mainPgFall_of_high s h, rfl, rfl, rfl, fun d h₁ h₂ => ?_, ?_, hcsn, henergy, hcommits, hfg,
      fun n hn => .inl (htime n hn)⟩
    · exact (s.chip.domainOn_mainFallen d).trans (by simp [mem_mainDomains h₁ h₂])
    · exact s.chip.domainOn_mainFallen 0
  case fallOff =>
    intro h
    simp only [exec, execMainPgFall, onBoth_eq, h, Bool.not_false, if_true]
  case rise =>
    intro hpg hs hst
    exact ⟨_, exec_mainPgRise_of_low s hpg hs hst, rfl, s.chip.mainRisen_inCycle⟩
  case riseOff =>
    intro h
    have hcond : (s.chip.power.mainPg || !s.chip.power.supply || s.chip.power.stage != 4) = true := by
      rcases h with h | h | h <;> simp [h]
    simp only [exec, execMainPgRise, onChip_eq, hcond, if_true]
  case perst =>
    intro h
    obtain ⟨t, ht, hdone⟩ := exec_perstN_of_high s h
    exact ⟨_, ht, rfl, hdone⟩
  case perstOff =>
    intro h
    simp only [exec, execPerstN, onChip_eq, h, if_true]
  case release =>
    intro h
    simp only [exec, execPerstNRelease, onChip_eq, h, if_true]
    rfl
  case releaseOff =>
    intro h
    simp only [exec, execPerstNRelease, onChip_eq, h, Bool.false_eq_true, if_false]
  case domain =>
    intro d hd
    refine ⟨fun on n q hq hpg => ?_, exec_pwrDomainChange_of_other s d hd⟩
    obtain ⟨b, hb, hon, hevt⟩ := s.chip.inCycle_endChange_switches d on n
    refine ⟨_, exec_pwrDomainChange_of_head s d n on q hd hq hpg, rfl, fun hlen hdram => ?_, hevt⟩
    rw [State.onto_chip, Chip.domainOn, hon, ← hb hdram]
    simp [List.getD_eq_getElem?_getD, hlen]

end Sys2Proof.Machine
end

section
/-! SUPPORT. What stays until a crossing: CSN_LIVE, the live registers, the live records and the isle's role. One lemma for each
operation of the part that a crossing or a command of the host meets: `keepsLive_` where all of it stays, `csn_` where the CSN alone
does. Only `moveCsn` and `takeSettings` set the CSN. -/

namespace Sys2Proof.Machine

open Sys2Proof

/-- What stays until a crossing: CSN_LIVE, the live registers, the live records, and the isle's role. -/
@[simp] abbrev Chip.KeepsLive (c d : Chip) : Prop :=
  d.csn = c.csn ∧ d.live = c.live ∧ d.tables = c.tables ∧ d.pair.isle = c.pair.isle

namespace Chip.KeepsLive

theorem refl (c : Chip) : c.KeepsLive c := ⟨rfl, rfl, rfl, rfl⟩

theorem trans {c d e : Chip} (h : c.KeepsLive d) (k : d.KeepsLive e) : c.KeepsLive e := by
  obtain ⟨h₁, h₂, h₃, h₄⟩ := h
  obtain ⟨k₁, k₂, k₃, k₄⟩ := k
  exact ⟨k₁.trans h₁, k₂.trans h₂, k₃.trans h₃, k₄.trans h₄⟩

/-- A run of operations of which each keeps it. -/
theorem foldl {α : Type} {f : Chip → α → Chip} (hf : ∀ c e, Chip.KeepsLive c (f c e)) (l : List α) (c : Chip) :
    c.KeepsLive (l.foldl f c) :=
  List.foldlRecOn l f (motive := c.KeepsLive) (refl c) fun _ hd e _ => hd.trans (hf _ e)

/-- A run of operations on the part, `π` of what they act on, of which each keeps it. -/
theorem foldl_of {α σ : Type} (π : σ → Chip) {f : σ → α → σ} (hf : ∀ s e, (π s).KeepsLive (π (f s e)))
    (l : List α) (s : σ) :
    (π s).KeepsLive (π (l.foldl f s)) :=
  List.foldlRecOn l f (motive := fun r => (π s).KeepsLive (π r)) (refl _) fun _ hr e _ => hr.trans (hf _ e)

/-- What posts events keeps it. -/
theorem of_events {c d : Chip} (h : c.SameButEvents d) : c.KeepsLive d := by
  rw [h.1]
  exact ⟨rfl, rfl, rfl, rfl⟩

/-- What boots images keeps it. -/
theorem of_boot {c d : Chip} (h : c.SameButBoot d) : c.KeepsLive d := by
  rw [h.1]
  exact ⟨rfl, rfl, rfl, rfl⟩

end Chip.KeepsLive

section
variable {α : Type} {p : Prop} [Decidable p] (a b : Chip) (f : Chip → α → Chip) (l : List α) (c : Chip)

@[simp] theorem Chip.csn_ite : (if p then a else b).csn = if p then a.csn else b.csn := apply_ite ..
@[simp] theorem Chip.live_ite : (if p then a else b).live = if p then a.live else b.live := apply_ite ..
@[simp] theorem Chip.tables_ite : (if p then a else b).tables = if p then a.tables else b.tables := apply_ite ..
@[simp] theorem Chip.isle_ite : (if p then a else b).pair.isle = if p then a.pair.isle else b.pair.isle :=
  apply_ite (fun c : Chip => c.pair.isle) ..

@[simp] theorem Chip.csn_foldl (h : ∀ d e, (f d e).csn = d.csn) : (l.foldl f c).csn = c.csn :=
  List.foldlRecOn l f (motive := fun d => d.csn = c.csn) rfl fun d hd e _ => (h d e).trans hd
@[simp] theorem Chip.live_foldl (h : ∀ d e, (f d e).live = d.live) : (l.foldl f c).live = c.live :=
  List.foldlRecOn l f (motive := fun d => d.live = c.live) rfl fun d hd e _ => (h d e).trans hd
@[simp] theorem Chip.tables_foldl (h : ∀ d e, (f d e).tables = d.tables) : (l.foldl f c).tables = c.tables :=
  List.foldlRecOn l f (motive := fun d => d.tables = c.tables) rfl fun d hd e _ => (h d e).trans hd
@[simp] theorem Chip.isle_foldl (h : ∀ d e, (f d e).pair.isle = d.pair.isle) : (l.foldl f c).pair.isle = c.pair.isle :=
  List.foldlRecOn l f (motive := fun d => d.pair.isle = c.pair.isle) rfl fun d hd e _ => (h d e).trans hd

end

section
variable (c : Chip)

/-! ### Operations of Machine/Ops -/

@[simp] theorem Chip.keepsLive_add (off n : Nat) : c.KeepsLive (c.add off n) := by simp [Chip.add]

@[simp] theorem Chip.keepsLive_inc (off : Nat) : c.KeepsLive (c.inc off) := by simp [Chip.inc]

@[simp] theorem Chip.keepsLive_incWrap (off : Nat) : c.KeepsLive (c.incWrap off) := by simp [Chip.incWrap]

@[simp] theorem Chip.keepsLive_setEvt (off mask : Nat) : c.KeepsLive (c.setEvt off mask) := by simp [Chip.setEvt]

@[simp] theorem Chip.keepsLive_clearEvt (off mask : Nat) : c.KeepsLive (c.clearEvt off mask) := by simp [Chip.clearEvt]

@[simp] theorem Chip.csn_setRec (table i v : Nat) : (c.setRec table i v).csn = c.csn := rfl

@[simp] theorem Chip.keepsLive_cntAdd (p off n : Nat) : c.KeepsLive (c.cntAdd p off n) := by simp [Chip.cntAdd]

@[simp] theorem Chip.keepsLive_drew : c.KeepsLive c.drew := by simp [Chip.drew]

@[simp] theorem Chip.keepsLive_runToCycle (n : Nat) : c.KeepsLive (c.runToCycle n) := by simp [Chip.runToCycle]

@[simp] theorem Chip.keepsLive_setEcc (m : Nat) (e : Ecc) : c.KeepsLive (c.setEcc m e) := by simp [Chip.setEcc]

@[simp] theorem Chip.keepsLive_rewritten (m a n : Nat) : c.KeepsLive (c.rewritten m a n) := by simp [Chip.rewritten]

@[simp] theorem Chip.keepsLive_toBall (o : Out) : c.KeepsLive (c.toBall o) := by simp [Chip.toBall]

@[simp] theorem Chip.keepsLive_driveIsle (high : Bool) : c.KeepsLive (c.driveIsle high) := by simp [Chip.driveIsle]

@[simp] theorem Chip.keepsLive_msix (v : Nat) : c.KeepsLive (c.msix v) := by simp [Chip.msix]

@[simp] theorem Chip.keepsLive_storeEntry (r i entry : Nat) : c.KeepsLive (c.storeEntry r i entry) := by simp [Chip.storeEntry]

@[simp] theorem Chip.keepsLive_postEvent (e : Raised) : c.KeepsLive (c.postEvent e) := .of_events (c.sameButEvents_postEvent e)

@[simp] theorem Chip.keepsLive_gatherPost (e : Raised) : c.KeepsLive (c.gatherPost e) := .of_events (c.sameButEvents_gatherPost e)

@[simp] theorem Chip.keepsLive_raise (src code : Nat) (items : List Byte) : c.KeepsLive (c.raise src code items) :=
  .of_events (c.sameButEvents_raise src code items)

@[simp] theorem Chip.keepsLive_postBatch : c.KeepsLive c.postBatch := by simp [Chip.postBatch]

@[simp] theorem Chip.keepsLive_inCycle (f : Chip → Chip) (h : ∀ d, Chip.KeepsLive d (f d)) : c.KeepsLive (c.inCycle f) := by
  unfold Chip.inCycle
  split
  · exact h c
  · exact (h { c with batch := some [] }).trans (Chip.keepsLive_postBatch _)

@[simp] theorem Chip.keepsLive_wrWords (off n v : Nat) : c.KeepsLive (c.wrWords off n v) := by
  induction n generalizing c off v with
  | zero => exact .refl c
  | succ n ih => exact Chip.KeepsLive.trans (by simp) (ih _ _ _)

@[simp] theorem Chip.keepsLive_consumed (r : Nat) : c.KeepsLive (c.consumed r) := by simp [Chip.consumed]

@[simp] theorem Chip.keepsLive_respond (ch : Chan) (op tag : Nat) (a : Answer) : c.KeepsLive (c.respond ch op tag a) := by
  unfold Chip.respond
  split <;> simp

/-! ### Operations of Machine/Admission -/

@[simp] theorem Chip.keepsLive_setType (t : Nat) (x : ImageType) : c.KeepsLive (c.setType t x) := by simp [Chip.setType]

/-! ### Operations of Machine/Commits -/

@[simp] theorem Chip.csn_setRecs (t : Nat) (rs : List (Nat × Nat)) : (c.setRecs t rs).csn = c.csn := by
  induction rs generalizing c with
  | nil => rfl
  | cons e r ih => exact ih _

@[simp] theorem Chip.csn_configure (ch : Change) : (c.configure ch).csn = c.csn := by
  cases ch <;> simp [Chip.configure]

@[simp] theorem Chip.keepsLive_writePending (l : List Change) : c.KeepsLive (c.writePending l) :=
  .foldl (fun c ch => by cases ch <;> simp) l c

@[simp] theorem Chip.keepsLive_accept (m : Commit) : c.KeepsLive (c.accept m) := by simp [Chip.accept]

@[simp] theorem Chip.keepsLive_refuse (h : CmdHdr) (op : Nat) (r : Refuse) : c.KeepsLive (c.refuse h op r) := by
  simp [Chip.refuse]

@[simp] theorem Chip.keepsLive_acceptHost (h : CmdHdr) (op csn status : Nat) (changes : List Change) (result : List Byte) :
    c.KeepsLive (c.acceptHost h op csn status changes result) := by simp [Chip.acceptHost]

@[simp] theorem Chip.keepsLive_sendLink (k : LinkPayload) : c.KeepsLive (c.sendLink k) := by
  simp -implicitDefEqProofs [Chip.sendLink]

@[simp] theorem Chip.keepsLive_forwardCommit (w : MirrorWait) : c.KeepsLive (c.forwardCommit w) := by simp [Chip.forwardCommit]

@[simp] theorem Chip.keepsLive_commitTry (op : Nat) (h : CmdHdr) (p : Nat) (instants : Bool)
    (build : Chip → Nat → Except Refuse (List Change × List Byte)) : c.KeepsLive (c.commitTry op h p instants build).1 := by
  unfold Chip.commitTry
  split
  · simp
  extract_lets q
  split
  · simp
  split
  · simp
  split
  · simp
  split
  · simp
  · simp

@[simp] theorem Chip.keepsLive_commitCommand (op : Nat) (h : CmdHdr) (p : Nat) (instants : Bool)
    (build : Chip → Nat → Except Refuse (List Change × List Byte)) :
    c.KeepsLive (c.commitCommand op h p instants build) := by
  simp [Chip.commitCommand]

@[simp] theorem Chip.keepsLive_complete (h : CmdHdr) (op status : Nat) (result : List Byte) :
    c.KeepsLive (c.complete h op status result) := by simp [Chip.complete]

@[simp] theorem Chip.keepsLive_decline (h : CmdHdr) (op : Nat) (r : Refuse) : c.KeepsLive (c.decline h op r) := by
  simp [Chip.decline]

/-! ### Operations of Machine/HostPort -/

@[simp] theorem Chip.keepsLive_writeFailed (bar2 : Bool) (off req epoch cause peerCause len : Nat) :
    c.KeepsLive (c.writeFailed bar2 off req epoch cause peerCause len) := by simp [Chip.writeFailed]

@[simp] theorem Chip.keepsLive_barWrite (off len : Nat) (f : Chip → Chip) (h : c.KeepsLive (f c)) :
    c.KeepsLive (c.barWrite off len f) := by
  unfold Chip.barWrite
  split
  · exact .refl c
  split
  · simp
  split
  · exact .refl c
  · exact h

@[simp] theorem Chip.keepsLive_noteWord (m cls w : Nat) : c.KeepsLive (c.noteWord m cls w) := by simp [Chip.noteWord]

@[simp] theorem Chip.keepsLive_noteRead (m cls a n : Nat) : c.KeepsLive (c.noteRead m cls a n) := by simp [Chip.noteRead]

@[simp] theorem Chip.keepsLive_noteRec (cls t i : Nat) : c.KeepsLive (c.noteRec cls t i) := by simp [Chip.noteRec]

@[simp] theorem Chip.keepsLive_rewriteBanks (l : List Change) : c.KeepsLive (c.rewriteBanks l) := by
  unfold Chip.rewriteBanks
  split
  · exact .refl c
  · exact .foldl (fun c ch => by cases ch <;> simp) l c

@[simp] theorem Chip.keepsLive_store (d : List Host.Cell) (cls a : Nat) (bs : List Byte) : c.KeepsLive (c.store d cls a bs).2 := by
  unfold Chip.store
  split <;> simp

/-! ### Operations of Machine/Channels -/

@[simp] theorem Chip.keepsLive_noteEntry (cls r : Nat) : c.KeepsLive (c.noteEntry cls r) := by simp [Chip.noteEntry]

@[simp] theorem Chip.keepsLive_keepWaiting (op : Nat) (h : CmdHdr) (p : Nat) : c.KeepsLive (c.keepWaiting op h p) := by
  unfold Chip.keepWaiting
  split <;> simp -implicitDefEqProofs

@[simp] theorem Chip.keepsLive_badCommand (h : CmdHdr) (op detail : Nat) : c.KeepsLive (c.badCommand h op detail) := by
  simp [Chip.badCommand]

/-! ### Operations of Machine/Composition -/

@[simp] theorem Chip.keepsLive_takeStreams (ss : List Nat) : c.KeepsLive (c.takeStreams ss) := by
  refine .foldl (fun c i => ?_) ss c
  extract_lets s repeated
  split <;> simp [repeated]

@[simp] theorem Chip.keepsLive_trustedLayers (csn k : Nat) : c.KeepsLive (c.trustedLayers csn k).1 := by
  refine .foldl_of Prod.fst (fun s e => ?_) _ (c, [])
  extract_lets st c'
  split <;> simp [c']

theorem Pass.keepsLive_layer (d : List Host.Cell) (k cv : Nat) (s : Pass) (e : Nat × Nat) :
    s.chip.KeepsLive (Pass.layer d k cv s e).chip := by
  unfold Pass.layer
  extract_lets r rect tiles cull none_ found c str
  split
  · exact .refl _
  split
  · exact .refl _
  have hc : s.chip.KeepsLive c := by simp [c]
  split
  · exact hc
  split
  · exact hc
  · exact hc

@[simp] theorem Chip.keepsLive_latchCanvas (d : List Host.Cell) (csn : Nat) (e : Nat × Nat) :
    c.KeepsLive (c.latchCanvas d csn e) := by
  unfold Chip.latchCanvas
  extract_lets k st c₁ r ls c₂ p c₃
  have h₁ : c.KeepsLive c₁ := by simp [c₁]
  split
  · exact h₁.trans (by simp)
  have h₂ : c₁.KeepsLive c₂ := (c₁.keepsLive_trustedLayers csn k).trans (.foldl (fun c l => by simp) ls r.1)
  have h₃ : c₂.KeepsLive p.chip := .foldl_of Pass.chip (Pass.keepsLive_layer d k e.2) ls.reverse ⟨c₂, [], [], 0, 0, []⟩
  have h₄ : p.chip.KeepsLive c₃ := .foldl (fun c f => by simp) p.failed p.chip
  exact ((h₁.trans h₂).trans h₃).trans h₄

@[simp] theorem Chip.keepsLive_composeDone : c.KeepsLive c.composeDone := by simp [Chip.composeDone]

@[simp] theorem Chip.keepsLive_handBands : c.KeepsLive c.handBands := by
  unfold Chip.handBands
  refine .foldl (fun c n => ?_) _ c
  split
  · exact .refl c
  · generalize c.frame.bands.find? _ = b
    cases b <;> exact ⟨rfl, rfl, rfl, rfl⟩

@[simp] theorem Chip.keepsLive_latchFrame (d : List Host.Cell) (csn : Nat) : c.KeepsLive (c.latchFrame d csn) := by
  simp [Chip.latchFrame]

@[simp] theorem Chip.keepsLive_abandonBands : c.KeepsLive c.abandonBands := by simp [Chip.abandonBands]

@[simp] theorem Chip.keepsLive_announceRetired : c.KeepsLive c.announceRetired := by simp [Chip.announceRetired]

@[simp] theorem Chip.keepsLive_noteBand (cv y0 y1 : Nat) (r : Nat) : c.KeepsLive (c.noteBand cv y0 y1 r) := by
  simp [Chip.noteBand]

@[simp] theorem Chip.keepsLive_laneFill (n : Nat) : c.KeepsLive (c.laneFill n) := by simp [Chip.laneFill]

@[simp] theorem Chip.keepsLive_writeLines (d : List Host.Cell) (k y0 y1 : Nat) : c.KeepsLive (c.writeLines d k y0 y1).2 := by
  unfold Chip.writeLines
  extract_lets cv ls d0 c₁
  have h₁ : c.KeepsLive c₁ := .foldl (fun c r => by simp) ls c
  exact h₁.trans (.foldl_of Prod.snd (fun s j => s.2.keepsLive_store _ _ _ _) _ (d, c₁))

@[simp] theorem Chip.keepsLive_leaveBands (d : List Host.Cell) : c.KeepsLive (c.leaveBands d).2 := by
  refine .foldl_of Prod.snd (fun s lane => ?_) _ (d, c)
  split
  · exact .refl _
  · simp

/-! ### Operations of Machine/Ports -/

@[simp] theorem Chip.keepsLive_settleLpi : c.KeepsLive c.settleLpi := by simp [Chip.settleLpi]

@[simp] theorem Chip.keepsLive_notePtp (p wait : Nat) (x0 : Out) : c.KeepsLive (c.notePtp p wait x0) := by
  unfold Chip.notePtp
  split <;> simp

@[simp] theorem Chip.keepsLive_sendOut (p n : Nat) (o : Out) : c.KeepsLive (c.sendOut p n o) := by simp [Chip.sendOut]

@[simp] theorem Chip.keepsLive_sendFrame (p : Nat) (frame : List Byte) : c.KeepsLive (c.sendFrame p frame) := by
  simp [Chip.sendFrame]

@[simp] theorem Chip.keepsLive_sendGap (p n : Nat) (o : Out) : c.KeepsLive (c.sendGap p n o) := by simp [Chip.sendGap]

@[simp] theorem Chip.keepsLive_releaseGap (p : Nat) : c.KeepsLive (c.releaseGap p) := by simp [Chip.releaseGap]

@[simp] theorem Chip.keepsLive_sendBehind (p n : Nat) (o : Out) : c.KeepsLive (c.sendBehind p n o) := by simp [Chip.sendBehind]

@[simp] theorem Chip.keepsLive_sendReport (p : Nat) (g : Group) (held : Bool) : c.KeepsLive (c.sendReport p g held) := by
  simp [Chip.sendReport]

@[simp] theorem Chip.keepsLive_report (p : Nat) (g : Group) (held : Bool) : c.KeepsLive (c.report p g held) := by
  simp [Chip.report]

@[simp] theorem Chip.keepsLive_freeGroups : c.KeepsLive c.freeGroups := by simp -implicitDefEqProofs [Chip.freeGroups]

/-! ### Operations of Machine/Scheduler -/

@[simp] theorem Chip.keepsLive_failTask (s : Nat) (r : TaskResult) : c.KeepsLive (c.failTask s r) := by simp [Chip.failTask]

@[simp] theorem Chip.keepsLive_readyTask (s : Nat) (byTimeout : Bool) : c.KeepsLive (c.readyTask s byTimeout) := by
  simp [Chip.readyTask]

@[simp] theorem Chip.keepsLive_readyWhere (p : Task → Bool) : c.KeepsLive (c.readyWhere p) := by simp [Chip.readyWhere]

@[simp] theorem Chip.keepsLive_setFlag (s : Nat) (late : Bool) (csn : Nat) : c.KeepsLive (c.setFlag s late csn) := by
  simp [Chip.setFlag]

@[simp] theorem Chip.keepsLive_notePeak : c.KeepsLive c.notePeak := by simp [Chip.notePeak]

@[simp] theorem Chip.keepsLive_fadeEnded (owner : Nat) : c.KeepsLive (c.fadeEnded owner) := by simp [Chip.fadeEnded]

@[simp] theorem Chip.keepsLive_endFade (k : Nat) : c.KeepsLive (c.endFade k) := by
  unfold Chip.endFade
  split <;> simp

@[simp] theorem Chip.keepsLive_advanceFade (e : Nat × Fade) : c.KeepsLive (c.advanceFade e) := by simp [Chip.advanceFade]

@[simp] theorem Chip.keepsLive_startFade (owner v0 : Nat) (e : CueEntry) : c.KeepsLive (c.startFade owner v0 e) := by
  simp [Chip.startFade]

@[simp] theorem Chip.keepsLive_resetFixture (i : Nat) : c.KeepsLive (c.resetFixture i) := by simp [Chip.resetFixture]

@[simp] theorem Chip.keepsLive_advanceEffects : c.KeepsLive c.advanceEffects := by simp [Chip.advanceEffects]

@[simp] theorem Chip.keepsLive_setEffect (i : Nat) (e : Effect) : c.KeepsLive (c.setEffect i e) := by simp [Chip.setEffect]

@[simp] theorem Chip.keepsLive_stopEffect (i ms : Nat) : c.KeepsLive (c.stopEffect i ms) := by simp [Chip.stopEffect]

@[simp] theorem Chip.keepsLive_taskTaken (s csn started : Nat) : c.KeepsLive (c.taskTaken s csn started) := by
  simp [Chip.taskTaken]

/-! ### Operations of Machine/Input -/

@[simp] theorem Chip.keepsLive_dropSyncs : c.KeepsLive c.dropSyncs := by simp [Chip.dropSyncs]

@[simp] theorem Chip.keepsLive_snapInputs : c.KeepsLive c.snapInputs := by simp [Chip.snapInputs]

/-! ### Operations of Machine/Mapping -/

@[simp] theorem Chip.keepsLive_parkFixture (f : Nat) : c.KeepsLive (c.parkFixture f) := by simp [Chip.parkFixture]

@[simp] theorem Chip.keepsLive_stallWalk : c.KeepsLive c.stallWalk := by simp [Chip.stallWalk]

@[simp] theorem Chip.keepsLive_walkOver (l : List Nat) : c.KeepsLive (Chip.walkOver l c) := by
  induction l generalizing c with
  | nil => simp [Chip.walkOver]
  | cons f r ih =>
    unfold Chip.walkOver
    split
    · simp
    split
    · exact ih { c with frame := _ }
    · exact Chip.KeepsLive.trans (by simp) (ih _)

@[simp] theorem Chip.keepsLive_startWalk : c.KeepsLive c.startWalk := by
  unfold Chip.startWalk
  split
  · exact .refl c
  extract_lets fs bad good vp absent first c₁ c₂ c₃
  have h₁ : c.KeepsLive c₁ := by simp [c₁]
  have h₂ : c₁.KeepsLive c₂ := by unfold c₂; split <;> simp
  have h₃ : c₂.KeepsLive c₃ := by unfold c₃; split <;> simp
  exact ((h₁.trans h₂).trans h₃).trans (Chip.KeepsLive.trans ⟨rfl, rfl, rfl, rfl⟩ (Chip.keepsLive_walkOver _ _))

@[simp] theorem Chip.keepsLive_abandonCells : c.KeepsLive c.abandonCells := by simp [Chip.abandonCells]

/-! ### Operations of Machine/Model -/

@[simp] theorem Chip.keepsLive_setEstimate (f : Nat) (t : Rat) : c.KeepsLive (c.setEstimate f t) := by simp [Chip.setEstimate]

@[simp] theorem Chip.keepsLive_resetEstimate (f : Nat) : c.KeepsLive (c.resetEstimate f) := by simp [Chip.resetEstimate]

@[simp] theorem Chip.keepsLive_fixScale (csn feed : Nat) : c.KeepsLive (c.fixScale csn feed) := by simp [Chip.fixScale]

@[simp] theorem Chip.keepsLive_fixScales (csn : Nat) : c.KeepsLive (c.fixScales csn) := by simp [Chip.fixScales]

/-! ### Operations of Machine/Time -/

@[simp] theorem Chip.setPair_csn (p : Pair) : (c.setPair p).csn = c.csn := rfl
@[simp] theorem Chip.setPair_live (p : Pair) : (c.setPair p).live = c.live := rfl
@[simp] theorem Chip.setPair_tables (p : Pair) : (c.setPair p).tables = c.tables := rfl
@[simp] theorem Chip.setPair_pair (p : Pair) : (c.setPair p).pair = p := rfl

@[simp] theorem Chip.keepsLive_promotionTest : c.KeepsLive c.promotionTest := by simp [Chip.promotionTest]

@[simp] theorem Chip.keepsLive_sealNow : c.KeepsLive c.sealNow := by simp [Chip.sealNow]

@[simp] theorem Chip.keepsLive_fixPulse (csn instant : Nat) (sel : PulseSel) : c.KeepsLive (c.fixPulse csn instant sel) := by
  simp [Chip.fixPulse]

@[simp] theorem Chip.keepsLive_fixNext : c.KeepsLive c.fixNext := by simp [Chip.fixNext]

@[simp] theorem Chip.keepsLive_enterHold (size : Int) : c.KeepsLive (c.enterHold size) := by simp [Chip.enterHold]

@[simp] theorem Chip.keepsLive_leaveHold (cause : Nat) : c.KeepsLive (c.leaveHold cause) := by simp [Chip.leaveHold]

@[simp] theorem Chip.keepsLive_callImmediate (passed : Nat) : c.KeepsLive (c.callImmediate passed) := by simp [Chip.callImmediate]

@[simp] theorem Chip.keepsLive_boundStepped (size : Int) (before : Nat) : c.KeepsLive (c.boundStepped size before) := by
  unfold Chip.boundStepped
  extract_lets t g c₁
  have h₁ : c.KeepsLive c₁ := by unfold c₁; split <;> simp
  split
  · exact .refl c
  split
  · simp
  split
  · simp
  split
  · exact .refl c
  split
  · simp
  split
  · exact h₁.trans c₁.keepsLive_sealNow
  · exact h₁

@[simp] theorem Chip.keepsLive_stepTb (n : Nat) (units : Int) : c.KeepsLive (c.stepTb n units) := by simp [Chip.stepTb]

@[simp] theorem Chip.keepsLive_selectSource (n old : Nat) : c.KeepsLive (c.selectSource n old) := by simp [Chip.selectSource]

@[simp] theorem Chip.keepsLive_startGrid : c.KeepsLive c.startGrid := by simp [Chip.startGrid]

/-! ### Operations of Machine/Packer -/

@[simp] theorem Chip.keepsLive_queueOn (p : Nat) (q : Queued) : c.KeepsLive (c.queueOn p q) := by simp [Chip.queueOn]

@[simp] theorem Chip.keepsLive_queuePacket (u : Nat) (kind : PacketKind) (check : Nat) (k : PacketSpec) :
    c.KeepsLive (c.queuePacket u kind check k) := by simp [Chip.queuePacket]

@[simp] theorem Chip.keepsLive_queueTerm (u : Nat) : c.KeepsLive (c.queueTerm u) := by
  unfold Chip.queueTerm
  extract_lets x left c₁
  split <;> simp [c₁]

@[simp] theorem Chip.keepsLive_queueTerms : c.KeepsLive c.queueTerms := by simp [Chip.queueTerms]

@[simp] theorem Chip.keepsLive_termsDue : c.KeepsLive c.termsDue := by simp [Chip.termsDue]

@[simp] theorem Chip.keepsLive_emitted (u : Nat) (kind : PacketKind) (check : Nat) : c.KeepsLive (c.emitted u kind check) := by
  unfold Chip.emitted
  extract_lets x
  split
  · simp
  · exact .refl c
  · exact .refl c
  split <;> simp

@[simp] theorem Chip.keepsLive_placeWindow : c.KeepsLive c.placeWindow := by simp [Chip.placeWindow]

@[simp] theorem Chip.keepsLive_closeWindow : c.KeepsLive c.closeWindow := by simp -implicitDefEqProofs [Chip.closeWindow]

@[simp] theorem Chip.keepsLive_reportFrame : c.KeepsLive c.reportFrame := by simp [Chip.reportFrame]

@[simp] theorem Chip.keepsLive_keepSync (p : Nat) (frame : List Byte) : c.KeepsLive (c.keepSync p frame) := by
  simp [Chip.keepSync]

@[simp] theorem Chip.keepsLive_sendDue (p csn due : Nat) (frames : List (List Byte)) :
    c.KeepsLive (c.sendDue p csn due frames) := by
  unfold Chip.sendDue
  extract_lets r
  have h : c.KeepsLive r.1 := by
    refine Chip.KeepsLive.foldl_of (σ := Chip × Option Nat) Prod.fst (fun s f => ?_) frames (c, none)
    exact s.1.keepsLive_sendFrame p f
  split
  · exact h
  · exact h.trans (by simp)

@[simp] theorem Chip.keepsLive_sendSync (p : Nat) (frames : List (List Byte)) : c.KeepsLive (c.sendSync p frames) := by
  simp [Chip.sendSync]

@[simp] theorem Chip.keepsLive_sendSyncs : c.KeepsLive c.sendSyncs := by simp [Chip.sendSyncs]

@[simp] theorem Chip.keepsLive_checkUniverses : c.KeepsLive c.checkUniverses := by simp [Chip.checkUniverses]

@[simp] theorem Chip.keepsLive_terminate (old : Chip) (built : Bool) (u : Nat) (s : Service) :
    c.KeepsLive (c.terminate old built u s) := by simp [Chip.terminate]

@[simp] theorem Chip.keepsLive_enterService (u : Nat) : c.KeepsLive (c.enterService u) := by simp [Chip.enterService]

@[simp] theorem Chip.keepsLive_serveUniv (old : Chip) (was on : Bool) (u : Nat) : c.KeepsLive (c.serveUniv old was on u) := by
  unfold Chip.serveUniv
  split <;> simp

@[simp] theorem Chip.keepsLive_serveUnivs (old : Chip) (was on : Bool) : c.KeepsLive (c.serveUnivs old was on) := by
  simp [Chip.serveUnivs]

@[simp] theorem Chip.keepsLive_resetUniv (u : Nat) : c.KeepsLive (c.resetUniv u) := by simp [Chip.resetUniv]

/-! ### Operations of Machine/Video -/

@[simp] theorem Chip.keepsLive_restartStream (i : Nat) : c.KeepsLive (c.restartStream i) := by simp [Chip.restartStream]

/-! ### Operations of Machine/Network -/

@[simp] theorem Chip.keepsLive_reportChanges (before : Nat → List Group) : c.KeepsLive (c.reportChanges before) := by
  simp [Chip.reportChanges]

@[simp] theorem Chip.keepsLive_setWake (p ns : Nat) : c.KeepsLive (c.setWake p ns) := by simp [Chip.setWake]

@[simp] theorem Chip.keepsLive_settlePause (p : Nat) : c.KeepsLive (c.settlePause p) := by simp [Chip.settlePause]

@[simp] theorem Chip.keepsLive_rearm (p cause : Nat) : c.KeepsLive (c.rearm p cause) := by
  unfold Chip.rearm
  split <;> simp

@[simp] theorem Chip.keepsLive_dropQueue (p : Nat) : c.KeepsLive (c.dropQueue p) := by simp [Chip.dropQueue]

@[simp] theorem Chip.keepsLive_linkDown (p : Nat) : c.KeepsLive (c.linkDown p) := by simp [Chip.linkDown]

@[simp] theorem Chip.keepsLive_solicit (p : Nat) (q : Solicit) : c.KeepsLive (c.solicit p q) := by simp [Chip.solicit]

/-! ### Operations of Machine/Rings -/

@[simp] theorem Chip.keepsLive_enableRing (r : Nat) : c.KeepsLive (c.enableRing r) := by
  unfold Chip.enableRing
  split <;> simp

@[simp] theorem Chip.keepsLive_writeRingCfg (r v : Nat) : c.KeepsLive (c.writeRingCfg r v) := by simp [Chip.writeRingCfg]

@[simp] theorem Chip.keepsLive_writeProd (r v : Nat) : c.KeepsLive (c.writeProd r v) := by simp [Chip.writeProd]

@[simp] theorem Chip.keepsLive_writeCons (r v : Nat) : c.KeepsLive (c.writeCons r v) := by simp [Chip.writeCons]

@[simp] theorem Chip.keepsLive_flushHost (r : Nat) : c.KeepsLive (c.flushHost r) := by simp [Chip.flushHost]

@[simp] theorem Chip.keepsLive_flushDevice (r : Nat) : c.KeepsLive (c.flushDevice r) := by simp [Chip.flushDevice]

@[simp] theorem Chip.keepsLive_storeSlot (k at_ : Nat) (bs : List Byte) : c.KeepsLive (c.storeSlot k at_ bs) := by
  simp [Chip.storeSlot]

@[simp] theorem Chip.keepsLive_ignoreSlot (r : Nat) : c.KeepsLive (c.ignoreSlot r) := by simp [Chip.ignoreSlot]

@[simp] theorem Chip.keepsLive_writeSlot (k at_ : Nat) (bs : List Byte) : c.KeepsLive (c.writeSlot k at_ bs) := by
  unfold Chip.writeSlot
  split <;> simp

@[simp] theorem Chip.keepsLive_writeWindow (n : Nat) (off : Nat) (bs : List Byte) : c.KeepsLive (Chip.writeWindow n c off bs) := by
  induction n generalizing c off bs with
  | zero => exact .refl c
  | succ n ih =>
    unfold Chip.writeWindow
    split
    · exact .refl c
    · exact Chip.KeepsLive.trans (by simp) (ih _ _ _)

@[simp] theorem Chip.keepsLive_doorbell (m v : Nat) : c.KeepsLive (c.doorbell m v) := by simp [Chip.doorbell]

@[simp] theorem Chip.keepsLive_unmask (v : Nat) : c.KeepsLive (c.unmask v) := by simp [Chip.unmask]

/-! ### Operations of Machine/Telemetry -/

@[simp] theorem Chip.keepsLive_closeBank (f : Nat) : c.KeepsLive (c.closeBank f) := by simp [Chip.closeBank]

@[simp] theorem Chip.keepsLive_tryClose (f : Nat) : c.KeepsLive (c.tryClose f) := by simp [Chip.tryClose]

@[simp] theorem Chip.keepsLive_putRecord (f : Nat) (rec : List Byte) : c.KeepsLive (c.putRecord f rec) := by simp [Chip.putRecord]

@[simp] theorem Chip.keepsLive_loseRecord (f : Nat) : c.KeepsLive (c.loseRecord f) := by simp [Chip.loseRecord]

@[simp] theorem Chip.keepsLive_startRecord (producer : Nat) (body : List Byte) (put : Chip → Nat → List Byte → Chip)
    (h : ∀ d f r, Chip.KeepsLive d (put d f r)) : c.KeepsLive (c.startRecord producer body put) := by
  unfold Chip.startRecord
  extract_lets seq c₁
  have h₁ : c.KeepsLive c₁ := ⟨rfl, rfl, rfl, rfl⟩
  split
  · exact h₁
  extract_lets
  split
  · exact h₁
  split
  · exact h₁.trans (h _ _ _)
  split
  · exact h₁.trans ((c₁.keepsLive_closeBank _).trans (h _ _ _))
  · exact h₁.trans (by simp)

@[simp] theorem Chip.keepsLive_produce (producer : Nat) (body : List Byte) : c.KeepsLive (c.produce producer body) := by
  simp [Chip.produce]

@[simp] theorem Chip.keepsLive_flushFifo (f : Nat) : c.KeepsLive (c.flushFifo f) := by simp [Chip.flushFifo]

@[simp] theorem Chip.keepsLive_releaseBank (f : Nat) : c.KeepsLive (c.releaseBank f) := by simp [Chip.releaseBank]

/-! ### Operations of Machine/LocalPorts -/

@[simp] theorem Chip.keepsLive_portEvent (port : LocalPort) (k : Nat) (items : List Byte) :
    c.KeepsLive (c.portEvent port k items) := by simp [Chip.portEvent]

@[simp] theorem Chip.keepsLive_resume (port : LocalPort) (held : Bool) (csn : Nat) : c.KeepsLive (c.resume port held csn) := by
  simp [Chip.resume]

@[simp] theorem Chip.keepsLive_startLate (port : LocalPort) (x : PortStart) (late : Bool) :
    c.KeepsLive (c.startLate port x late) := by simp [Chip.startLate]

@[simp] theorem Chip.keepsLive_lateBefore (port : LocalPort) (x : Option PortStart) : c.KeepsLive (c.lateBefore port x) := by
  unfold Chip.lateBefore
  split <;> simp

@[simp] theorem Chip.keepsLive_selectDmx (csn : Nat) (sel : PulseSel) (n : Nat) : c.KeepsLive (c.selectDmx csn sel n) := by
  simp [Chip.selectDmx]

@[simp] theorem Chip.keepsLive_selectPix (csn : Nat) (sel : PulseSel) (p : Nat) : c.KeepsLive (c.selectPix csn sel p) := by
  simp [Chip.selectPix]

@[simp] theorem Chip.keepsLive_selectPorts (csn : Nat) (sel : PulseSel) : c.KeepsLive (c.selectPorts csn sel) := by
  simp [Chip.selectPorts]

@[simp] theorem Chip.keepsLive_rdmRecord (port : Nat) (r : RdmRequest) (status : Nat) (msg : List Byte) :
    c.KeepsLive (c.rdmRecord port r status msg) := by simp [Chip.rdmRecord]

@[simp] theorem Chip.keepsLive_tellDe (old : Chip) : c.KeepsLive (c.tellDe old) := by simp [Chip.tellDe]

@[simp] theorem Chip.keepsLive_rdmQueue (port : Nat) (r : RdmRequest) : c.KeepsLive (c.rdmQueue port r) := by simp [Chip.rdmQueue]

@[simp] theorem Chip.keepsLive_listSensors : c.KeepsLive c.listSensors := by simp [Chip.listSensors]

@[simp] theorem Chip.keepsLive_rdmDrop (port : Nat) (r : RdmRequest) : c.KeepsLive (c.rdmDrop port r) := by simp [Chip.rdmDrop]

@[simp] theorem Chip.keepsLive_houseLevel (n : Nat) : c.KeepsLive (c.houseLevel n) := by simp [Chip.houseLevel]

@[simp] theorem Chip.keepsLive_houseFrame (csn n : Nat) : c.KeepsLive (c.houseFrame csn n) := by simp [Chip.houseFrame]

/-! ### Operations of Machine/Arbiter -/

@[simp] theorem Chip.keepsLive_finish (status detail result : Nat) : c.KeepsLive (c.finish status detail result) := by
  simp [Chip.finish]

@[simp] theorem Chip.keepsLive_beginJournal (cause : Nat) : c.KeepsLive (c.beginJournal cause) := by simp [Chip.beginJournal]

@[simp] theorem Chip.keepsLive_calSeek (n : Nat) : c.KeepsLive (Chip.calSeek n c) := by
  induction n generalizing c with
  | zero => exact .refl c
  | succ n ih =>
    unfold Chip.calSeek
    extract_lets k
    split
    · exact .refl c
    split
    · exact ih { c with calib := _ }
    split
    · exact ih { c with calib := _ }
    · exact .refl c

@[simp] theorem Chip.keepsLive_calHolds : c.KeepsLive c.calHolds := by simp [Chip.calHolds]

@[simp] theorem Chip.keepsLive_calEnd : c.KeepsLive c.calEnd := by simp [Chip.calEnd]

@[simp] theorem Chip.keepsLive_calNext : c.KeepsLive c.calNext := by simp [Chip.calNext]

@[simp] theorem Chip.keepsLive_calStart (mask : Nat) : c.KeepsLive (c.calStart mask) := by simp [Chip.calStart]

@[simp] theorem Chip.keepsLive_spanStart (args : List Nat) : c.KeepsLive (c.spanStart args) := by simp [Chip.spanStart]

@[simp] theorem Chip.keepsLive_patrol (m : Nat) : c.KeepsLive (c.patrol m) := by simp [Chip.patrol]

@[simp] theorem Chip.keepsLive_eraseInactive (t : Nat) : c.KeepsLive (c.eraseInactive t) := by simp [Chip.eraseInactive]

@[simp] theorem Chip.keepsLive_startActivity (a : Activity) : c.KeepsLive (c.startActivity a) := by
  unfold Chip.startActivity
  split <;> simp

@[simp] theorem Chip.keepsLive_readPackage (d : List Host.Cell) : c.KeepsLive (c.readPackage d) := by
  unfold Chip.readPackage
  split <;> simp

@[simp] theorem Chip.keepsLive_request (a : Activity) : c.KeepsLive (c.request a) := by simp [Chip.request]

@[simp] theorem Chip.keepsLive_maintain (h : CmdHdr) (op prec : Nat) (args : List Nat) :
    c.KeepsLive (c.maintain h op prec args) := by simp [Chip.maintain]

/-! ### Operations of Machine/Bar2 -/

@[simp] theorem Chip.keepsLive_storeWords (d : List Host.Cell) (cls : Nat) (l : List (Nat × Byte)) :
    c.KeepsLive (c.storeWords d cls l).2 :=
  .foldl_of Prod.snd (fun s _ => s.2.keepsLive_store _ _ _ _) _ (d, c)

@[simp] theorem Chip.keepsLive_writeLocked (k : Nat × Nat) : c.KeepsLive (c.writeLocked k) := by simp [Chip.writeLocked]

@[simp] theorem Chip.keepsLive_applyWrite (d : List Host.Cell) (cls a : Nat) (bs : List Byte)
    (fail : Nat → Nat → Nat → Chip → Chip) (h : ∀ k b n e, Chip.KeepsLive e (fail k b n e)) :
    c.KeepsLive (c.applyWrite d cls a bs fail).2 := by
  unfold Chip.applyWrite
  split
  · exact h _ _ _ c
  extract_lets l good bad held x c₁
  have hx : c.KeepsLive x.2 := c.keepsLive_storeWords d cls _
  have h₁ : x.2.KeepsLive c₁ := by
    unfold c₁
    cases held with
    | nil => exact .refl _
    | cons e r =>
      refine (h 2 e.1 (e :: r).length x.2).trans ?_
      dsimp only
      cases (fail 2 e.1 (e :: r).length x.2).lockAt e.1 <;> simp
  refine (hx.trans h₁).trans ?_
  cases bad with
  | nil => exact .refl c₁
  | cons e r => exact h _ _ _ c₁

@[simp] theorem Chip.keepsLive_serveRead (d : List Host.Cell) (cls a n : Nat) : c.KeepsLive (c.serveRead d cls a n) := by
  simp [Chip.serveRead]

@[simp] theorem Chip.keepsLive_forwardWrite (off a req : Nat) (bs : List Byte) : c.KeepsLive (c.forwardWrite off a req bs) := by
  simp [Chip.forwardWrite]

@[simp] theorem Chip.keepsLive_writeTarget (d : List Host.Cell) (a : Nat) (bs : List Byte) :
    c.KeepsLive (c.writeTarget d a bs).2 := by simp [Chip.writeTarget]

@[simp] theorem Chip.keepsLive_atomic (d : List Host.Cell) (cls : Nat) (op : AtomicOp) (a width operand compare : Nat) :
    c.KeepsLive (c.atomic d cls op a width operand compare).2 := by
  unfold Chip.atomic
  extract_lets n old bad x
  have hx : c.KeepsLive x.2 := by simp [x]
  split
  · simp
  split
  · exact .refl c
  split
  · simp
  · exact hx.trans (by simp)

/-! ### Operations of Machine/Metering -/

@[simp] theorem Chip.keepsLive_noteWarn (before : Bool) : c.KeepsLive (c.noteWarn before) := by simp [Chip.noteWarn]

@[simp] theorem Chip.keepsLive_snapEnergy (csn : Nat) : c.KeepsLive (c.snapEnergy csn) := by
  unfold Chip.snapEnergy
  extract_lets c₁ c₂ sat c₃
  have h₁ : c.KeepsLive c₁ := 
    .foldl (f := fun c k => c.setEnergy k (c.energyOf k).snapshot) (fun _ _ => ⟨rfl, rfl, rfl, rfl⟩) _ c
  have h₂ : c₁.KeepsLive c₂ := ⟨rfl, rfl, rfl, rfl⟩
  have h₃ : c₂.KeepsLive c₃ := .foldl (fun c f => by simp) _ c₂
  refine ((h₁.trans h₂).trans h₃).trans ?_
  cases sat with
  | nil => exact .refl c₃
  | cons k r => simp

@[simp] theorem Chip.keepsLive_applyFeed (f : Nat) (en : Bool) (wiring declared nominal vfs afs : Nat) :
    c.KeepsLive (c.applyFeed f en wiring declared nominal vfs afs) := by simp [Chip.applyFeed]

@[simp] theorem Chip.keepsLive_applyPulse (n feed quantity : Nat) (en : Bool) (ep width : Nat) :
    c.KeepsLive (c.applyPulse n feed quantity en ep width) := by simp [Chip.applyPulse]

/-! ### Operations of Machine/Integrity -/

@[simp] theorem Chip.keepsLive_checkFeed (x : Nat) (l : List Byte) : c.KeepsLive (c.checkFeed x l) := by simp [Chip.checkFeed]

@[simp] theorem Chip.keepsLive_checkStart (x : Nat) : c.KeepsLive (c.checkStart x) := by simp [Chip.checkStart]

@[simp] theorem Chip.keepsLive_checkFinish (x : Nat) : c.KeepsLive (c.checkFinish x) := by simp [Chip.checkFinish]

@[simp] theorem Chip.keepsLive_checkCollide (x : Nat) : c.KeepsLive (c.checkCollide x) := by simp [Chip.checkCollide]

@[simp] theorem Chip.keepsLive_onCheck (x : Nat) (f : Chip → Chip) (h : c.KeepsLive (f c)) : c.KeepsLive (c.onCheck x f) := by
  unfold Chip.onCheck
  split
  · simp
  · exact h

@[simp] theorem Chip.keepsLive_checkCtrl (x v : Nat) : c.KeepsLive (c.checkCtrl x v) := by simp [Chip.checkCtrl]

@[simp] theorem Chip.keepsLive_checkLoad (x : Nat) (hi : Bool) (v : Nat) : c.KeepsLive (c.checkLoad x hi v) := by
  simp [Chip.checkLoad]

/-! ### Operations of Machine/Pair -/

@[simp] theorem Chip.keepsLive_pairEvent (i : Nat) (items : List Byte) : c.KeepsLive (c.pairEvent i items) := by
  simp [Chip.pairEvent]

@[simp] theorem Chip.keepsLive_pairConflict (cause value : Nat) : c.KeepsLive (c.pairConflict cause value) := by
  simp [Chip.pairConflict]

@[simp] theorem Chip.keepsLive_compareCids : c.KeepsLive c.compareCids := by
  unfold Chip.compareCids
  split <;> simp

@[simp] theorem Chip.keepsLive_sourcesChanged : c.KeepsLive c.sourcesChanged := by simp [Chip.sourcesChanged]

@[simp] theorem Chip.keepsLive_judgePeer (k : PeerInfo) : c.KeepsLive (c.judgePeer k) := by simp [Chip.judgePeer]

@[simp] theorem Chip.csn_changeRole (role : IsleState) (cause : RoleCause) : (c.changeRole role cause).csn = c.csn := by
  simp [Chip.changeRole]

@[simp] theorem Chip.csn_landfall (cause : RoleCause) : (c.landfall cause).csn = c.csn := by simp [Chip.landfall]

@[simp] theorem Chip.csn_handOver (cause : RoleCause) : (c.handOver cause).csn = c.csn := by simp [Chip.handOver]

@[simp] theorem Chip.csn_yieldRole : c.yieldRole.csn = c.csn := by simp [Chip.yieldRole]

@[simp] theorem Chip.keepsLive_staleFrom (csn : Nat) : c.KeepsLive (c.staleFrom csn) := by simp [Chip.staleFrom]

@[simp] theorem Chip.csn_makeStale : c.makeStale.csn = c.csn := by simp [Chip.makeStale]

@[simp] theorem Chip.csn_makeReady : c.makeReady.csn = c.csn := by simp [Chip.makeReady]

@[simp] theorem Chip.csn_settleStandby : c.settleStandby.csn = c.csn := by simp [Chip.settleStandby]

@[simp] theorem Chip.keepsLive_expireBeacon : c.KeepsLive c.expireBeacon := by simp [Chip.expireBeacon]

@[simp] theorem Chip.csn_applyPairConfig (rank policy tPromote : Nat) : (c.applyPairConfig rank policy tPromote).csn = c.csn := by
  unfold Chip.applyPairConfig
  extract_lets p c₁ q c₂ r c₃
  have h₂ : c₂.csn = c.csn := by simp [c₂, c₁]
  have h₃ : c₃.csn = c₂.csn := by simp [c₃]
  split
  · exact h₂
  refine Eq.trans ?_ (h₃.trans h₂)
  split
  · split <;> simp
  · rfl

@[simp] theorem Chip.csn_applyPromote : c.applyPromote.csn = c.csn := by simp [Chip.applyPromote]

@[simp] theorem Chip.csn_applyDemote : c.applyDemote.csn = c.csn := by simp [Chip.applyDemote]

@[simp] theorem Chip.csn_applySwap : c.applySwap.csn = c.csn := by simp [Chip.applySwap]

@[simp] theorem Chip.keepsLive_spareLane : c.KeepsLive c.spareLane := by
  unfold Chip.spareLane
  split <;> simp

@[simp] theorem Chip.keepsLive_tellMissed (csn : Nat) : c.KeepsLive (c.tellMissed csn) := by
  simp -implicitDefEqProofs [Chip.tellMissed]

@[simp] theorem Chip.keepsLive_sendFerry (d : FerryData) : c.KeepsLive (c.sendFerry d) := by simp [Chip.sendFerry]

@[simp] theorem Chip.keepsLive_startFerry : c.KeepsLive c.startFerry := by
  unfold Chip.startFerry
  extract_lets p c₁ l q
  have h₁ : c.KeepsLive c₁ := ⟨rfl, rfl, rfl, rfl⟩
  refine h₁.trans ?_
  split
  · exact .refl c₁
  split
  · exact .refl c₁
  split
  · simp
  split
  · exact .refl c₁
  · simp [q]

@[simp] theorem Chip.keepsLive_countHealth : c.KeepsLive c.countHealth := by simp [Chip.countHealth]

@[simp] theorem Chip.keepsLive_noteHealth : c.KeepsLive c.noteHealth := by simp [Chip.noteHealth]

@[simp] theorem Chip.keepsLive_sendBeacons : c.KeepsLive c.sendBeacons := by simp [Chip.sendBeacons]

/-! ### Operations of Machine/Images -/

@[simp] theorem Chip.keepsLive_saveDirectory : c.KeepsLive c.saveDirectory := by simp [Chip.saveDirectory]

@[simp] theorem Chip.keepsLive_updEvent (i : Nat) (items : List Byte) : c.KeepsLive (c.updEvent i items) := by
  simp [Chip.updEvent]

@[simp] theorem Chip.keepsLive_trialStarts (t : Nat) : c.KeepsLive (c.trialStarts t) := by simp [Chip.trialStarts]

@[simp] theorem Chip.keepsLive_fallbackTold (t failed cause : Nat) : c.KeepsLive (c.fallbackTold t failed cause) := by
  simp [Chip.fallbackTold]

@[simp] theorem Chip.keepsLive_applyActivate (t : Nat) : c.KeepsLive (c.applyActivate t) := by
  unfold Chip.applyActivate
  extract_lets x u c₁
  split
  · exact .refl c
  extract_lets c₂ p c₃
  have h₁ : c.KeepsLive c₁ := by unfold c₁; split <;> simp
  have h₃ : c₁.KeepsLive c₃ := by simp [c₃, c₂]
  refine (h₁.trans h₃).trans ?_
  split <;> simp

@[simp] theorem Chip.keepsLive_putBack (t : Nat) : c.KeepsLive (c.putBack t) := by simp [Chip.putBack]

@[simp] theorem Chip.keepsLive_fallBack (t cause : Nat) : c.KeepsLive (c.fallBack t cause) := by simp [Chip.fallBack]

@[simp] theorem Chip.keepsLive_applyRevert (t cause : Nat) : c.KeepsLive (c.applyRevert t cause) := by simp [Chip.applyRevert]

@[simp] theorem Chip.keepsLive_tellOwed : c.KeepsLive c.tellOwed := by simp [Chip.tellOwed]

/-! ### Operations of Machine/Resets -/

@[simp] theorem Chip.keepsLive_clearCompose : c.KeepsLive c.clearCompose := by simp [Chip.clearCompose]

@[simp] theorem Chip.keepsLive_clearRender : c.KeepsLive c.clearRender := by simp [Chip.clearRender]

@[simp] theorem Chip.keepsLive_clearPack : c.KeepsLive c.clearPack := by simp -implicitDefEqProofs [Chip.clearPack]

@[simp] theorem Chip.csn_clearDomain (d : Nat) : (c.clearDomain d).csn = c.csn := (c.keepsRunning_clearDomain d).1

@[simp] theorem Chip.csn_dropDomains (d : List Host.Cell) (l : List Nat) : (c.dropDomains d l).2.csn = c.csn :=
  (c.keepsRunning_dropped l).1

@[simp] theorem Chip.csn_pairReset : c.pairReset.csn = c.csn := by simp [Chip.pairReset]

@[simp] theorem Chip.keepsLive_bootType (t : Nat) : c.KeepsLive (c.bootType t) := .of_boot (c.sameButBoot_bootType t)

@[simp] theorem Chip.keepsLive_loadDomain (d : Nat) : c.KeepsLive (c.loadDomain d).1 := by
  unfold Chip.loadDomain
  split
  · exact .refl c
  extract_lets x c₁
  split <;> simp [c₁]

@[simp] theorem Chip.keepsLive_loadDomains (l : List Nat) : c.KeepsLive (c.loadDomains l).1 :=
  .foldl_of (σ := Chip × List Nat) Prod.fst (fun r d => r.1.keepsLive_loadDomain d) l (c, [])

@[simp] theorem Chip.keepsLive_queueDomains (l : List (Nat × Bool)) : c.KeepsLive (c.queueDomains l) := by
  simp [Chip.queueDomains]

@[simp] theorem Chip.csn_writeMacs : c.writeMacs.csn = c.csn := c.csn_foldl _ _ fun _ _ => rfl

@[simp] theorem Chip.keepsLive_loadLatency (p : Nat) : c.KeepsLive (c.loadLatency p) := by simp [Chip.loadLatency]

@[simp] theorem Chip.keepsLive_recover : c.KeepsLive c.recover := by simp [Chip.recover]

@[simp] theorem Chip.keepsLive_bootReady : c.KeepsLive c.bootReady := by simp [Chip.bootReady]

/-! ### Operations of Machine/Power -/

@[simp] theorem Chip.csn_applyPower (d : List Host.Cell) (mask on : Nat) : (c.applyPower d mask on).2.csn = c.csn := by
  simp [Chip.applyPower]

@[simp] theorem Chip.keepsLive_bootImages : c.KeepsLive c.bootImages := .of_boot c.sameButBoot_bootImages

@[simp] theorem Chip.csn_warmReset (d : List Host.Cell) : (c.warmReset d).2.csn = c.csn := by
  unfold Chip.warmReset
  extract_lets c₁ r₁ r₂ c₂ p c₃ q
  have h₁ : r₁.2.csn = c.csn := by simp [r₁, c₁, Chip.forgetCommits]
  have h₂ : r₂.2.csn = r₁.2.csn := by simp [r₂]
  have h₃ : c₃.csn = r₂.2.csn := by simp [c₃, c₂]
  split
  · simp [h₁, h₂, h₃]
  · simp [q, h₁, h₂, h₃]

/-! ### Operations of Machine/Tables -/

@[simp] theorem Chip.keepsLive_readStaging (d : List Host.Cell) (t first n : Nat) :
    c.KeepsLive (c.readStaging d t first n).1 := by simp [Chip.readStaging]

@[simp] theorem Chip.keepsLive_writeRuns (d : List Host.Cell) (t : Nat) (runs l : List (Nat × Nat)) :
    c.KeepsLive (c.writeRuns d t runs l).2 :=
  .foldl_of Prod.snd (fun s _ => .foldl_of Prod.snd (fun r _ => r.2.keepsLive_store _ _ _ _) runs s) l (d, c)

@[simp] theorem Chip.keepsLive_writeStaging (d : List Host.Cell) (t : Nat) (l : List (Nat × Nat)) :
    c.KeepsLive (c.writeStaging d t l).2 := by simp [Chip.writeStaging]

@[simp] theorem Chip.keepsLive_tableCommit (d : List Host.Cell) (t : Nat) (h : CmdHdr) (p : Nat) :
    c.KeepsLive (c.tableCommit d t h p).2 := by
  unfold Chip.tableCommit
  extract_lets k q l r
  have hq : c.KeepsLive q.1 := by unfold q; split <;> simp
  have hr : c.KeepsLive r.1 := hq.trans (q.1.keepsLive_commitTry _ _ _ _ _)
  split
  · split
    · exact hq.trans (by simp)
    · exact hr
  · exact hr
  · exact hr.trans (by simp)

/-! ### Operations of Machine/RegWrites -/

@[simp] theorem Chip.keepsLive_writeReg (off v be : Nat) : c.KeepsLive (c.writeReg off v be) := by
  unfold Chip.writeReg
  split
  · exact .refl c
  · split <;> simp

@[simp] theorem Chip.keepsLive_writeRate (n v be : Nat) : c.KeepsLive (c.writeRate n v be) := by simp [Chip.writeRate]

@[simp] theorem Chip.keepsLive_writeMailbox (m off v be : Nat) : c.KeepsLive (c.writeMailbox m off v be) := by
  simp [Chip.writeMailbox]

@[simp] theorem Chip.keepsLive_writeRingBase (r off v be : Nat) : c.KeepsLive (c.writeRingBase r off v be) := by
  simp [Chip.writeRingBase]

@[simp] theorem Chip.keepsLive_writePeerMac (off v be : Nat) : c.KeepsLive (c.writePeerMac off v be) := by
  simp [Chip.writePeerMac]

@[simp] theorem Chip.keepsLive_storeWindow (off : Nat) (w : List (Nat × Nat)) : c.KeepsLive (c.storeWindow off w) := by
  simp [Chip.storeWindow]

/-! ### Operations of Machine/Crossing -/

@[simp] theorem Chip.keepsLive_tellRefused (csn : Nat) (m : Commit) (r : Refused) : c.KeepsLive (c.tellRefused csn m r) := by
  unfold Chip.tellRefused
  extract_lets c₁ p c₂ q c₃
  have h₁ : c.KeepsLive c₁ := by unfold c₁; split <;> simp
  have h₂ : c₁.KeepsLive c₂ := by simp [c₂]
  have h₃ : c₂.KeepsLive c₃ := by simp [c₃]
  refine ((h₁.trans h₂).trans h₃).trans ?_
  split <;> simp

@[simp] theorem Chip.keepsLive_setGenerator (was at_ : Nat) (ch : Change) : c.KeepsLive (c.setGenerator was at_ ch) := by
  simp [Chip.setGenerator]

@[simp] theorem Chip.keepsLive_rebasePulse (last : Nat) : c.KeepsLive (c.rebasePulse last) := by simp [Chip.rebasePulse]

@[simp] theorem Chip.keepsLive_reselectPulse : c.KeepsLive c.reselectPulse := by simp [Chip.reselectPulse]

@[simp] theorem Chip.keepsLive_placeNext (old : FrameGen) (last : Nat) (sel : PulseSel) (idx : Option Nat) :
    c.KeepsLive (c.placeNext old last sel idx) := by
  unfold Chip.placeNext
  extract_lets c₁ g same c₂
  have h₁ : c.KeepsLive c₁ := by simp [c₁]
  have h₂ : c₁.KeepsLive c₂ := ⟨rfl, rfl, rfl, rfl⟩
  split
  · exact h₁
  · exact (h₁.trans h₂).trans (by simp)

@[simp] theorem Chip.keepsLive_respaceCalls : c.KeepsLive c.respaceCalls := by simp [Chip.respaceCalls]

@[simp] theorem Chip.csn_startChange (was : FgMode) (ch : Change) : (c.startChange was ch).csn = c.csn := by
  cases ch <;> simp -implicitDefEqProofs [Chip.startChange]

@[simp] theorem Chip.csn_startCue (vals : Sparse Nat) (owner : Nat) (ch : Change) : (c.startCue vals owner ch).csn = c.csn := by
  cases ch <;> simp [Chip.startCue]

@[simp] theorem Chip.csn_startCommit (vals : Sparse Nat) (was : FgMode) (m : Commit) :
    (c.startCommit vals was m).csn = c.csn := by
  unfold Chip.startCommit
  extract_lets owner c₁ c₂ p c₃
  have h₁ : c₁.csn = c.csn := by unfold c₁; split <;> simp
  have h₂ : c₂.csn = c₁.csn := c₁.csn_foldl _ _ fun d ch => by simp
  have h₃ : c₃.csn = c₂.csn := by simp [c₃]
  simp [h₁, h₂, h₃]

@[simp] theorem Chip.keepsLive_clearUnmapped : c.KeepsLive c.clearUnmapped := by simp [Chip.clearUnmapped]

@[simp] theorem Chip.keepsLive_renewFixtures (old : Chip) : c.KeepsLive (c.renewFixtures old) := by simp [Chip.renewFixtures]

@[simp] theorem Chip.keepsLive_markPatches (old : Chip) : c.KeepsLive (c.markPatches old) := by simp [Chip.markPatches]

@[simp] theorem Chip.keepsLive_markCues (old : Chip) : c.KeepsLive (c.markCues old) := by simp [Chip.markCues]

@[simp] theorem Chip.keepsLive_retrain (old : Chip) : c.KeepsLive (c.retrain old) := by simp [Chip.retrain]

@[simp] theorem Chip.keepsLive_tellLatencies (l : List Commit) : c.KeepsLive (c.tellLatencies l) := by simp [Chip.tellLatencies]

@[simp] theorem Chip.keepsLive_tellRole (old : Chip) : c.KeepsLive (c.tellRole old) := by simp [Chip.tellRole]

@[simp] theorem Chip.csn_settleRole : c.settleRole.csn = c.csn := by
  unfold Chip.settleRole
  extract_lets p c₁ q c₂ c₃ was c₄
  have h₁ : c₁.csn = c.csn := by unfold c₁; split <;> simp
  have h₂ : c₂.csn = c₁.csn := by unfold c₂; split <;> simp
  simp [c₄, c₃, h₁, h₂]

@[simp] theorem Chip.keepsLive_pairFrame : c.KeepsLive c.pairFrame := by simp [Chip.pairFrame]

@[simp] theorem Chip.keepsLive_crossPorts (sel : PulseSel) : c.KeepsLive (c.crossPorts sel) := by simp [Chip.crossPorts]

@[simp] theorem Chip.keepsLive_carryWork (k : Nat) : c.KeepsLive (c.carryWork k) := by simp [Chip.carryWork]

@[simp] theorem Chip.keepsLive_crossSyncs (l : List Change) : c.KeepsLive (c.crossSyncs l) := by simp [Chip.crossSyncs]

@[simp] theorem Chip.keepsLive_advanceCues : c.KeepsLive c.advanceCues := by simp [Chip.advanceCues]

@[simp] theorem Chip.keepsLive_beginFrame (old : Chip) (d : List Host.Cell) : c.KeepsLive (c.beginFrame old d) := by
  simp [Chip.beginFrame]

@[simp] theorem Chip.keepsLive_fpulseSet (old : Chip) : c.KeepsLive (c.fpulseSet old) := by simp [Chip.fpulseSet]

@[simp] theorem Chip.keepsLive_applyDiffs (old : Chip) (before : Nat → List Group) : c.KeepsLive (c.applyDiffs old before) := by
  simp [Chip.applyDiffs]

@[simp] theorem Chip.csn_switchDomains (d : List Host.Cell) (l : List Change) : (c.switchDomains d l).2.csn = c.csn := by
  unfold Chip.switchDomains
  split
  · rfl
  · refine List.foldlRecOn l _ (motive := fun s : List Host.Cell × Chip => s.2.csn = c.csn) rfl fun s hs ch _ => ?_
    cases ch <;> simp [hs]

@[simp] theorem Chip.csn_crossReset (d : List Host.Cell) (l : List Change) : (c.crossReset d l).2.csn = c.csn := by
  unfold Chip.crossReset
  split <;> simp

end

end Sys2Proof.Machine
end

section
/-! SUPPORT. The crossing of an isle that is no standby bears the next CSN (R31), and the rows that are crossings. -/

namespace Sys2Proof.Machine

open Sys2Proof

section
variable (c : Chip)

/-! ### The frame that ends, and the settings taken -/

@[simp] theorem Chip.keepsLive_runTo (ns : Nat) : c.KeepsLive (c.runTo ns) := by
  simp -implicitDefEqProofs [Chip.runTo]

@[simp] theorem Chip.keepsLive_seal : c.KeepsLive c.seal := by
  unfold Chip.seal
  generalize c.fg.next - _ = n
  exact (c.keepsLive_runTo n).trans (Chip.keepsLive_sealNow _)

@[simp] theorem Chip.keepsLive_generatorFirst : c.KeepsLive c.generatorFirst := ⟨rfl, rfl, rfl, rfl⟩

@[simp] theorem Chip.keepsLive_respondTo (ch : Option Chan) (op tag : Nat) (a : Answer) : c.KeepsLive (c.respondTo ch op tag a) := by
  cases ch with
  | none => exact .refl c
  | some ch => exact c.keepsLive_respond ch op tag a

/-- An isle that is no standby adopts no number of an active one (R334). -/
theorem Chip.csn_adopt_of_not_standing (h : c.pair.isle.standing = false) : c.adopt.csn = c.csn := by
  unfold Chip.adopt
  split
  · rfl
  extract_lets p c₁
  have h₁ : p.isle.standing = false := h
  simp [h₁, c₁]

theorem Chip.csn_endFrame_of_not_standing (h : c.pair.isle.standing = false) : c.endFrame.csn = c.csn := by
  obtain ⟨hcsn, -, -, hisle⟩ : c.KeepsLive c.settleLpi.closeWindow :=
    c.keepsLive_settleLpi.trans (Chip.keepsLive_closeWindow _)
  have ha := c.settleLpi.closeWindow.csn_adopt_of_not_standing (by rw [hisle, h])
  simp [Chip.endFrame, ha]

/-- The settings of a crossing bear the next CSN. -/
theorem Chip.csn_takeSettings (at_ : Nat) (sel : PulseSel) (s : List (Nat × Commit)) (bad : List Refused) :
    (c.takeSettings at_ sel s bad).csn = c.csn + 1 := by
  unfold Chip.takeSettings
  extract_lets csn taken changes g c₁ c₂ c₃ last c₄
  have h₂ : c₂.csn = c₁.csn := c₁.csn_foldl _ _ fun d r => by split <;> simp
  have h₃ : c₃.csn = c₂.csn := c₂.csn_foldl _ _ fun d ch => by cases ch <;> simp
  simp [c₄, h₃, h₂, c₁, csn]

@[simp] theorem Chip.csn_takeFrame (old : Chip) (d : List Host.Cell) (sel : PulseSel) (idx : Option Nat) (taken : List Commit) :
    (c.takeFrame old d sel idx taken).csn = c.csn := by
  unfold Chip.takeFrame
  simp -implicitDefEqProofs
  

theorem Chip.csn_takeCrossing (d : List Host.Cell) (at_ : Nat) (sel : PulseSel) (idx : Option Nat)
    (s : List (Nat × Commit)) (bad : List Refused) : (c.takeCrossing d at_ sel idx s bad).2.csn = c.csn + 1 := by
  simp [Chip.takeCrossing, Chip.csn_takeSettings]

/-- A crossing of an isle that is no standby bears the next CSN, whatever its commits do (R31). -/
theorem Chip.csn_cross (d : List Host.Cell) (at_ : Nat) (sel : PulseSel) (idx : Option Nat) {f : Chip → Chip}
    (hf : ∀ e, (f e).csn = Chip.csn e) (h : c.pair.isle.standing = false) :
    (c.cross d at_ sel idx f).2.csn = c.csn + 1 := by
  unfold Chip.cross
  extract_lets r d' e s bad changes q
  obtain ⟨hcsn, -, -, hisle⟩ : Chip.KeepsLive { c with batch := some [] } r.2 := Chip.keepsLive_leaveBands _ d
  have he : e.csn = c.csn := (r.2.csn_endFrame_of_not_standing (by rw [hisle, h])).trans hcsn
  have hq : q.2.csn = c.csn + 1 := by simp [q, Chip.csn_takeCrossing, he]
  simp [hf, hq]

end

/-! ### The rows of the crossing -/

/-- The promotion test of a seal point touches the pair alone. -/
theorem Chip.promotionTest_eq (c : Chip) : c.promotionTest = c.setPair c.promotionTest.pair := by
  unfold Chip.promotionTest
  extract_lets p
  split <;> rfl

/-- A seal applied now touches the seal and the pair alone (R39, R339). -/
theorem Chip.sealNow_eq (c : Chip) (h : c.sealed = false) :
    c.sealNow = { c.setPair c.promotionTest.pair with sealed := true } := by
  unfold Chip.sealNow
  rw [if_neg (by simp [h]), Chip.promotionTest_eq]
  rfl

@[simp] theorem Chip.sealNow_fg (c : Chip) : c.sealNow.fg = c.fg := by
  cases h : c.sealed with
  | true => simp [Chip.sealNow, h]
  | false => rw [Chip.sealNow_eq c h]; rfl

@[simp] theorem Chip.seal_fg (c : Chip) : c.seal.fg = c.fg := by
  unfold Chip.seal Chip.runTo
  rw [Chip.sealNow_fg, Chip.ticks_fg]

section
variable (s : State)

/-- The generator's crossing comes at its instant, sealed (R25, R50). -/
theorem exec_crossing_of_issues (h : s.chip.fg.issues = true) {c : Chip} (hc : c = if s.chip.sealed then s.chip else s.chip.seal) :
    exec .crossing s = .next (s.ontoBoth ((c.runTo s.chip.fg.next).generatorFirst.cross s.dram s.chip.fg.next
      (match s.chip.fg.nextIdx with | some i => .grid i | none => .single) s.chip.fg.nextIdx id)) := by
  have hfg : c.fg = s.chip.fg := by
    subst hc
    split
    · rfl
    · exact s.chip.seal_fg
  show execCrossing s = _
  simp only [execCrossing, onBoth_eq, h, Bool.not_true, Bool.false_eq_true, if_false, ← hc, hfg]
  rfl

theorem exec_explicitCrossing_of_cons {x : ExplicitCall} {rest : List ExplicitCall} (h : s.chip.fg.explicit = x :: rest)
    {c : Chip} (hc : c = s.chip.runToCycle x.instant) :
    exec .explicitCrossing s = .next (s.ontoBoth (Chip.cross { c with fg := { c.fg with explicit := rest } } s.dram c.now
      .byCsn none fun e => e.respondTo x.chan 0x0202 x.tag ⟨0, 0, e.csn, instantBlock e.fg.last e.fg.tb⟩)) := by
  subst hc
  show execExplicitCrossing s = _
  simp only [execExplicitCrossing, h, onBoth_eq]
  rfl

theorem exec_immediateCrossing_of_some {passed hi due : Nat} (h : s.chip.fg.immediate = some (passed, hi, due))
    {c : Chip} (hc : c = (s.chip.runToCycle due).generatorFirst) :
    exec .immediateCrossing s = .next (s.ontoBoth (c.cross s.dram c.now .single none fun e =>
      ((e.wr Reg.FG_LAST_SKIP (sat32 (passed - 1))).add Reg.FG_SKIP_TOTAL (passed - 1)).raise 1 0x0204
        (it8 e.csn ++ it4 (passed - 1)))) := by
  subst hc
  show execImmediateCrossing s = _
  simp only [execImmediateCrossing, h, onBoth_eq]
  rfl

/-- A row that is a crossing, from what keeps the CSN and the role, counts the CSN on by one. -/
theorem exists_next_csn_of_cross {s : State} {i : Instr} {c : Chip} {d : List Host.Cell} {at_ : Nat} {sel : PulseSel}
    {idx : Option Nat} {f : Chip → Chip} (hs : s.chip.pair.isle.standing = false)
    (he : exec i s = .next (s.ontoBoth (c.cross d at_ sel idx f))) (hf : ∀ e, (f e).csn = Chip.csn e)
    (hc : s.chip.KeepsLive c) : ∃ t, exec i s = .next t ∧ t.chip.csn = s.chip.csn + 1 := by
  obtain ⟨hcsn, -, -, hisle⟩ := hc
  exact ⟨_, he, by rw [State.ontoBoth_chip, c.csn_cross d at_ sel idx hf (by rw [hisle, hs]), hcsn]⟩

end

/-- Settles O38: what leads to a crossing keeps the CSN and the isle's role, and the crossing adds 1. -/
theorem crossingsTakeConsecutiveNumbers : Obligations.CrossingsTakeConsecutiveNumbers := by
  unfold Obligations.CrossingsTakeConsecutiveNumbers
  intro s hs
  refine ⟨fun hi => ?_, fun hx => ?_, fun hm => ?_⟩
  · refine exists_next_csn_of_cross hs (exec_crossing_of_issues s hi rfl) (fun _ => rfl) ?_
    split <;> simp
  · obtain ⟨x, rest, hl⟩ := List.exists_cons_of_ne_nil hx
    refine exists_next_csn_of_cross hs (exec_explicitCrossing_of_cons s hl rfl) (fun e => ?_)
      (s.chip.keepsLive_runToCycle x.instant)
    simp
  · obtain ⟨⟨passed, hi, due⟩, hl⟩ := Option.ne_none_iff_exists'.mp hm
    refine exists_next_csn_of_cross hs (exec_immediateCrossing_of_some s hl rfl) (fun e => ?_)
      ((s.chip.keepsLive_runToCycle due).trans (Chip.keepsLive_generatorFirst _))
    simp

end Sys2Proof.Machine
end

section
/-! SUPPORT. The live configuration under the commands of the host: the shared shapes of a meaning leave it where the operation they
hold does, and so does every command of the host (R31, R32, R39). -/

namespace Sys2Proof.Machine

open Sys2Proof

/-- An outcome that, where it is a next state, leaves the live configuration as it is. -/
def LeavesLive (s : State) (r : Host.Outcome State Fault Refusal) : Prop := ∀ t, r = .next t → s.chip.KeepsLive t.chip

theorem leavesLive_next {s t : State} (h : s.chip.KeepsLive t.chip) : LeavesLive s (.next t) := by
  rintro u ⟨⟩
  exact h

theorem leavesLive_self (s : State) : LeavesLive s (.next s) := leavesLive_next (.refl _)

theorem leavesLive_within {s : State} {ok : Bool} {r : Host.Outcome State Fault Refusal} (h : LeavesLive s r) :
    LeavesLive s (within ok r) := fun t ht => h t (within_next.mp ht).2

theorem leavesLive_ite {s : State} {p : Prop} [Decidable p] {q r : Host.Outcome State Fault Refusal} (hq : LeavesLive s q)
    (hr : LeavesLive s r) : LeavesLive s (if p then q else r) := by split <;> assumption

/-- What leaves it, from a state that has left it. -/
theorem LeavesLive.trans {s u : State} {r : Host.Outcome State Fault Refusal} (h : s.chip.KeepsLive u.chip)
    (hr : LeavesLive u r) : LeavesLive s r := fun t ht => h.trans (hr t ht)

section
variable {op off n : Nat} {long : Bool} {h : CmdHdr} {p : Nat} {s : State}

theorem leavesLive_onChip {f : List Host.Cell → Chip → Chip} (hf : ∀ d c, Chip.KeepsLive c (f d c)) :
    LeavesLive s (onChip f s) := leavesLive_next (hf _ _)

theorem leavesLive_regCommand {f : Chip → Chip} (hf : ∀ c, Chip.KeepsLive c (f c)) : LeavesLive s (regCommand off f s) :=
  leavesLive_next (Chip.keepsLive_barWrite _ _ _ _ (hf _))

theorem leavesLive_onBar2 {f : Nat → List Host.Cell → Chip → List Host.Cell × Chip} (hf : ∀ a d c, Chip.KeepsLive c (f a d c).2) :
    LeavesLive s (onBar2 off n f s) := by
  refine leavesLive_within (leavesLive_next ?_)
  dsimp only
  split
  · exact hf _ _ _
  · exact .refl _

theorem leavesLive_whenTaken {f : List Host.Cell → Chip → Chip} (hf : ∀ d c, Chip.KeepsLive c (f d c)) :
    LeavesLive s (whenTaken op h p f s) := by
  rw [whenTaken_eq]
  refine leavesLive_next ?_
  dsimp only
  split
  · exact hf _ _
  · simp

/-- A command whose payload its channel carries, or not. -/
theorem Chip.inChannel_cases {α : Type} (c : Chip) (bad : Chip → α) (f : Nat → α) :
    (∃ k, c.inChannel op long h p bad f = bad (c.badCommand h op k)) ∨ ∃ q, c.inChannel op long h p bad f = f q := by
  unfold Chip.inChannel
  split
  · split
    · exact .inl ⟨_, rfl⟩
    · exact .inr ⟨_, rfl⟩
  · split
    · exact .inl ⟨_, rfl⟩
    · split
      · exact .inl ⟨_, rfl⟩
      · exact .inr ⟨_, rfl⟩

theorem leavesLive_firmware {f : Nat → List Host.Cell → Chip → Chip} (hf : ∀ q d c, Chip.KeepsLive c (f q d c)) :
    LeavesLive s (firmware op long h p f s) := by
  refine leavesLive_whenTaken fun d c => ?_
  obtain ⟨k, hk⟩ | ⟨q, hq⟩ := c.inChannel_cases (op := op) (long := long) (h := h) (p := p) id fun p => f p d c
  · rw [hk]
    simp
  · rw [hq]
    exact hf _ _ _

theorem leavesLive_firmwareBoth {f : Nat → List Host.Cell → Chip → List Host.Cell × Chip}
    (hf : ∀ q d c, Chip.KeepsLive c (f q d c).2) : LeavesLive s (firmwareBoth op h p f s) := by
  rw [firmwareBoth_eq]
  refine leavesLive_next ?_
  dsimp only
  split
  · obtain ⟨k, hk⟩ | ⟨q, hq⟩ := s.chip.inChannel_cases (op := op) (long := false) (h := h) (p := p)
      (fun c => (s.dram, c)) fun p => f p s.dram s.chip
    · rw [hk]
      simp
    · rw [hq]
      exact hf _ _ _
  · simp
end

/-! ### Commands whose meaning turns on what the part answers -/

section
variable {h : CmdHdr} {p : Nat} {s : State} (c : Chip)

@[simp] theorem Chip.keepsLive_callExplicit (chan : Option Chan) (tag : Nat) : c.KeepsLive (c.callExplicit chan tag) := by
  simp [Chip.callExplicit]

@[simp] theorem Chip.keepsLive_loadValues (l : List (Nat × Word)) : c.KeepsLive (c.loadValues l) := by
  refine .foldl (fun c e => ?_) l c
  extract_lets on
  split <;> simp

@[simp] theorem Chip.keepsLive_endBroken : c.KeepsLive c.endBroken := by simp [Chip.endBroken]

@[simp] theorem Chip.keepsLive_freeTask (k : Nat) : c.KeepsLive (c.freeTask k) := by simp [Chip.freeTask]

@[simp] theorem Chip.keepsLive_loadTask (k rec : Nat) : c.KeepsLive (c.loadTask k rec) := by simp [Chip.loadTask]

theorem leavesLive_sysSettingsLoad : LeavesLive s (execSysSettingsLoad h p s) :=
  leavesLive_firmware fun q _ c => by cases c.storeValues (pl q 0 0 1) <;> simp

theorem leavesLive_showTaskCancel : LeavesLive s (execShowTaskCancel h p s) := by
  refine leavesLive_firmware fun q _ c => ?_
  dsimp only
  split
  · simp
  · split <;> simp

theorem leavesLive_showTaskFree : LeavesLive s (execShowTaskFree h p s) :=
  leavesLive_firmware fun q _ c => by
    dsimp only
    split <;> simp

theorem leavesLive_tableCommand (t : Nat) : LeavesLive s (tableCommand t h p s) :=
  leavesLive_firmwareBoth fun _ d c => c.keepsLive_tableCommit d t h _

theorem leavesLive_tblRevert : LeavesLive s (execTblRevert h p s) := by
  refine leavesLive_firmwareBoth fun q d c => ?_
  extract_lets t k all go r
  have hr : c.KeepsLive r.2 := c.keepsLive_writeRuns d _ _ _
  split
  · simp
  · exact hr.trans (by simp)

theorem leavesLive_portRdmAbort : LeavesLive s (execPortRdmAbort h p s) :=
  leavesLive_firmware fun q _ c => by
    dsimp only
    split <;> simp

theorem leavesLive_updActivate : LeavesLive s (execUpdActivate h p s) := by
  refine leavesLive_firmware fun q _ c => ?_
  extract_lets t r
  have hr : c.KeepsLive r.1 := c.keepsLive_commitTry _ _ _ _ _
  split
  · exact hr.trans (by simp)
  · exact hr

theorem leavesLive_commandBad (opcode : Nat) (kind : BadKind) : LeavesLive s (execCommandBad h opcode kind s) :=
  leavesLive_whenTaken fun _ c => by cases badDetail h opcode <;> simp

theorem leavesLive_netCntSnap (v : Word) : LeavesLive s (execNetCntSnap v s) := by
  refine leavesLive_regCommand fun c => ?_
  split
  · refine .foldl (fun c n => ?_) _ c
    extract_lets c₁ c₂
    have h₁ : c.KeepsLive c₁ := c.keepsLive_settlePause n
    have h₂ : c₁.KeepsLive c₂ := .foldl (fun c o => c.keepsLive_wrWords _ _ _) _ c₁
    exact (h₁.trans h₂).trans (.foldl (fun c i => by simp) _ c₂)
  · exact .refl c

theorem leavesLive_mtrHostSnap (v : Word) : LeavesLive s (execMtrHostSnap v s) := by
  refine leavesLive_regCommand fun c => ?_
  split
  · extract_lets c₁
    have h₁ : c.KeepsLive c₁ := Chip.KeepsLive.foldl (f := fun c k =>
      c.setEnergy k { c.energyOf k with hostTotal := (c.energyOf k).acc / 2 ^ 24, hostWraps := (c.energyOf k).wraps })
      (fun _ _ => ⟨rfl, rfl, rfl, rfl⟩) _ c
    exact h₁.trans ⟨rfl, rfl, rfl, rfl⟩
  · exact .refl c

theorem leavesLive_hbEpochWrite (v : Word) (be : Nat) : LeavesLive s (execHbEpochWrite v be s) :=
  leavesLive_within (leavesLive_ite (leavesLive_self s) (leavesLive_regCommand fun c => by simp))

theorem leavesLive_ckxDataWrite (x : Nat) (hi : Bool) (v : Word) (be : Nat) : LeavesLive s (execCkxDataWrite x hi v be s) :=
  leavesLive_within (leavesLive_ite (leavesLive_self s) (leavesLive_regCommand fun c => by simp))

theorem leavesLive_hostBar2Write (off : Nat) (octets : List Byte) (req : Nat) :
    LeavesLive s (execHostBar2Write off octets req s) := by
  refine leavesLive_onBar2 fun a d c => ?_
  split
  · simp
  · exact c.keepsLive_applyWrite d 5 a octets _ fun k b n e => by simp

theorem leavesLive_hostAtomicOp (op : AtomicOp) (at_ : AtomicTarget) (width operand compare : Nat) :
    LeavesLive s (execHostAtomicOp op at_ width operand compare s) := by
  unfold execHostAtomicOp
  cases at_ with
  | bar0 off => exact leavesLive_within (leavesLive_onChip fun _ c => by simp)
  | bar2 off =>
    refine leavesLive_onBar2 (off := off) fun a d c => ?_
    split
    · exact c.keepsLive_atomic d 5 op a width operand compare
    · split <;> simp

theorem leavesLive_peerAtomicOp (off req : Nat) (atomic : Bool) (answer : Option (List Byte × Bool)) :
    LeavesLive s (execPeerAtomicOp off req atomic answer s) :=
  leavesLive_onBar2 fun a d c => by
    split
    · exact .refl c
    · cases answer <;> simp

end
/-! ### The writes of a register that are rows of their own, and REGISTER_WRITE -/

/-- Meanings, where there is one, that leave it. -/
def AllLeaveLive (o : Option (State → Host.Outcome State Fault Refusal)) : Prop := ∀ f, o = some f → ∀ s, LeavesLive s (f s)

theorem allLeaveLive_none : AllLeaveLive none := by rintro f ⟨⟩

theorem allLeaveLive_some {f : State → Host.Outcome State Fault Refusal} (h : ∀ s, LeavesLive s (f s)) : AllLeaveLive (some f) := by
  rintro g ⟨⟩
  exact h

theorem allLeaveLive_ite {p : Prop} [Decidable p] {a b : Option (State → Host.Outcome State Fault Refusal)}
    (ha : AllLeaveLive a) (hb : AllLeaveLive b) : AllLeaveLive (if p then a else b) := by split <;> assumption

theorem allLeaveLive_regCommand {off : Nat} {f : Chip → Chip} (hf : ∀ c, Chip.KeepsLive c (f c)) :
    AllLeaveLive (some (regCommand off f)) := allLeaveLive_some fun _ => leavesLive_regCommand hf

theorem allLeaveLive_within {ok : Bool} {off : Nat} {f : Chip → Chip} (hf : ∀ c, Chip.KeepsLive c (f c)) :
    AllLeaveLive (some fun s => within ok (regCommand off f s)) :=
  allLeaveLive_some fun _ => leavesLive_within (leavesLive_regCommand hf)

/-- The write of a register that does more than its access code says leaves the live configuration, but for BOOT_RECOVER. -/
theorem allLeaveLive_ownWrite (c : Chip) (base i l off v be : Nat) (w : Word) (hb : ¬ (base = 0xD000 ∧ l = 0x18)) :
    AllLeaveLive (ownWrite c base i l off v be w) := by
  have noRow := allLeaveLive_none
  unfold ownWrite
  split
  -- a block with one such register
  case h_1 | h_2 | h_7 | h_8 | h_9 | h_14 | h_19 => exact allLeaveLive_ite (allLeaveLive_regCommand fun c => by simp) noRow
  case h_6 | h_17 | h_21 => exact allLeaveLive_ite (allLeaveLive_within fun c => by simp) noRow
  -- the time stamps
  case h_3 | h_4 | h_5 =>
    exact allLeaveLive_ite (allLeaveLive_within fun c => by simp)
      (allLeaveLive_ite (allLeaveLive_within fun c => by simp) noRow)
  -- the network counters
  case h_10 =>
    exact allLeaveLive_ite (allLeaveLive_some fun s => leavesLive_netCntSnap w)
      (allLeaveLive_ite (allLeaveLive_regCommand fun c => by simp) noRow)
  -- HB_EPOCH and HB_EVT
  case h_11 =>
    exact allLeaveLive_ite (allLeaveLive_some fun s => leavesLive_hbEpochWrite _ _)
      (allLeaveLive_ite (allLeaveLive_regCommand fun c => by simp) noRow)
  -- a mailbox
  case h_12 =>
    exact allLeaveLive_ite (allLeaveLive_regCommand fun c => by simp)
      (allLeaveLive_ite (allLeaveLive_within fun c => by simp) noRow)
  -- a telemetry FIFO
  case h_13 =>
    split
    case h_7 => exact noRow
    all_goals exact allLeaveLive_within fun c => by simp
  -- the meter
  case h_15 => exact allLeaveLive_ite (allLeaveLive_some fun s => leavesLive_mtrHostSnap w) noRow
  -- a check unit
  case h_16 =>
    exact allLeaveLive_ite (allLeaveLive_within fun c => by simp) (allLeaveLive_ite (allLeaveLive_within fun c => by simp)
      (allLeaveLive_ite (allLeaveLive_some fun s => leavesLive_ckxDataWrite _ _ _ _)
        (allLeaveLive_ite (allLeaveLive_regCommand fun c => by simp) noRow)))
  -- CTRL_RESTART, beside BOOT_RECOVER
  case h_18 =>
    refine allLeaveLive_ite (allLeaveLive_regCommand fun c => by simp) ?_
    rw [if_neg fun hl => hb ⟨rfl, hl⟩]
    exact noRow
  -- a ring, whose flush is the host's or the part's
  case h_20 =>
    exact allLeaveLive_ite (allLeaveLive_within fun c => by simp) (allLeaveLive_ite (allLeaveLive_regCommand fun c => by simp)
      (allLeaveLive_ite (allLeaveLive_within fun c => by simp) (allLeaveLive_ite (allLeaveLive_within fun c => by simp)
        (allLeaveLive_ite (by split <;> exact allLeaveLive_within fun c => by simp) noRow))))
  -- the ring window
  case h_22 => exact allLeaveLive_some fun s => leavesLive_onChip fun _ c => by simp
  case h_23 => exact noRow

/-- The block at 0xD000 stands once, so that its register at 0x18 is BOOT_RECOVER. -/
theorem eq_bootRecover_of_blockAt {off i : Nat} {b : Block} (h : blockAt off = some (b, i)) (hb : b.base = 0xD000)
    (hl : (off - b.base) % b.stride = 0x18) : off = Reg.BOOT_RECOVER := by
  have power : ∀ b ∈ blocks, b.base = 0xD000 → b.stride = 0x100 ∧ b.count = 1 := by decide
  unfold blockAt at h
  obtain ⟨b', hf, he⟩ := Option.map_eq_some_iff.mp h
  cases he
  have hin := List.find?_some hf
  obtain ⟨hs, hc⟩ := power b (List.mem_of_find?_eq_some hf) hb
  simp only [hb, hs, hc, Bool.and_eq_true, decide_eq_true_eq] at hin hl
  show off = 0xD018
  omega

theorem leavesLive_writeDword (off : Nat) (v : Word) (be : Nat) (s : State) (ho : off ≠ Reg.BOOT_RECOVER) :
    LeavesLive s (writeDword off v be s) := by
  have plain : LeavesLive s (onChip (fun _ c => c.barWrite off 4 fun c => c.writeReg off v.toNat be) s) :=
    leavesLive_onChip fun _ c => by simp
  unfold writeDword
  refine leavesLive_ite (leavesLive_self s) ?_
  split
  · exact plain
  · next b i hb =>
    have hw := allLeaveLive_ownWrite s.chip b.base i ((off - b.base) % b.stride) off v.toNat be
      (BitVec.ofNat 32 (v.toNat &&& enableMask be)) fun ⟨h₁, h₂⟩ => ho (eq_bootRecover_of_blockAt hb h₁ h₂)
    revert hw
    generalize ownWrite _ _ _ _ _ _ _ _ = o
    intro hw
    cases o with
    | none => exact plain
    | some f => exact hw f rfl s

/-- The dwords of a write from number `n` on leave the live configuration, where none is BOOT_RECOVER. -/
theorem leavesLive_writeRest (off : Nat) (l : List (Word × Nat)) : ∀ (n : Nat) (k : Option Nat) (s : State),
    (∀ j, j < l.length → off + 4 * (n + j) ≠ Reg.BOOT_RECOVER) → LeavesLive s (writeRest off n l k s).1 := by
  induction l with
  | nil => exact fun _ _ s _ => leavesLive_self s
  | cons e rest ih =>
    intro n k s hl
    obtain ⟨v, be⟩ := e
    have hrest : ∀ j, j < rest.length → off + 4 * (n + 1 + j) ≠ Reg.BOOT_RECOVER := fun j hj => by
      have := hl (j + 1) (by simpa using hj)
      rwa [show n + 1 + j = n + (j + 1) by omega]
    unfold writeRest
    extract_lets o s'
    have hs' : s.chip.KeepsLive s'.chip := by
      unfold s'
      split
      · exact .refl _
      · exact s.chip.keepsLive_runToCycle _
    refine LeavesLive.trans hs' ?_
    split
    · exact ih _ _ s' hrest
    · have hw := leavesLive_writeDword o v be s' (hl 0 (by simp))
      split
      · next t ht => exact LeavesLive.trans (hw t ht) (ih _ _ t hrest)
      · exact hw

theorem leavesLive_writeDwords (off : Nat) (l : List (Word × Nat)) (s : State)
    (hl : ∀ j, j < l.length → off + 4 * j ≠ Reg.BOOT_RECOVER) : LeavesLive s (writeDwords off l s) := by
  unfold writeDwords
  refine leavesLive_ite (leavesLive_self s) (leavesLive_ite (leavesLive_onChip fun _ c => by simp) ?_)
  have hr := leavesLive_writeRest off l 0 none s (by simpa using hl)
  split
  · next t k ht => exact LeavesLive.trans (hr t (by rw [ht])) (leavesLive_onChip fun _ c => by simp)
  · next r ht => rwa [ht] at hr

/-- REGISTER_WRITE leaves the live configuration where none of its dwords is BOOT_RECOVER. -/
theorem leavesLive_registerWrite (off : Nat) (first : Word × Nat) (rest : List (Word × Nat)) (s : State)
    (h : Reg.BOOT_RECOVER < off ∨ off + 4 * rest.length < Reg.BOOT_RECOVER) :
    LeavesLive s (execRegisterWrite off first rest s) := by
  have hl : ∀ j, j < (first :: rest).length → off + 4 * j ≠ Reg.BOOT_RECOVER := fun j hj => by
    simp only [List.length_cons] at hj
    omega
  exact leavesLive_within (leavesLive_ite (leavesLive_writeDword _ _ _ _ (hl 0 (by simp))) (leavesLive_writeDwords _ _ _ hl))

/-! ### The commands -/

/-- A command of the host leaves the live configuration: firmware commands answer, record, queue and begin, and writes of registers
reach their pending values alone. -/
theorem exec_leavesLive (i : Instr) (hi : hostCommand i = true) (s : State) : LeavesLive s (exec i s) := by
  unfold exec
  cases i with
  | sysInfo | sysPing | sysWarmReset | sysPowerSet | sysEventRoute | sysSettingsSave | showCommit | showCross | showUncommit
  | showLayerFlip | showTaskLoad | timePtpStatus | timePtpSet | timeTbStep | timeFramegenSet | timeFramegenStart
  | timeFramegenStop | timeFramegenRephase | netGroupJoin | netGroupLeave | netNeighbourResolve | portRdmRequest
  | portRdmDiscover | meterFeedSet | meterPqSet | meterPulseSet | meterJournalFlush | meterTotalsPreset | pairConfig
  | pairPromote | pairSwap | pairResync | pairStatus | updStage | updVerify | updStatus | updRevert | updTrialSet
  | updCounterAdvance | calRun | calMeterRef | calAutoSet | diagScrubSet | diagEccInject | diagCheckRun | diagLoopback
  | diagDebugUnlock | diagTempRead | diagEventTest =>
    exact leavesLive_firmware fun q d c => by simp
  | tbSnap | mapClr | modelClr | schedClr | netCntClr | hbEvtWfailClear | evtClr | ctrlRestart =>
    exact leavesLive_regCommand fun c => by simp
  | txtsRelease | txtsStatusClear | lanenClr | ringEnable | ringProdWrite | ringConsWrite | ringFlushHost | ringFlushDevice
  | mbmDoorbell | tffAdvance | tffMark | tffRewind | tffRelease | tffClose | tffFlush | ckxStart | ckxRunWrite | ckxFinish
  | eccmEvtClear | msixUnmask =>
    exact leavesLive_within (leavesLive_regCommand fun c => by simp)
  | evtLegacyPop => exact leavesLive_onChip fun _ c => by simp
  | ringSlotWrite => exact leavesLive_within (leavesLive_onChip fun _ c => by simp)
  | hostBar2Read | peerWriteForward => exact leavesLive_onBar2 fun a d c => by simp
  | tblFixtureCommit | tblProfileCommit | tblUniverseCommit | tblRunCommit | tblCanvasCommit | tblLayerCommit
  | tblCellposCommit | tblCurveCommit | tblCueCommit | tblInunivCommit | tblInpatchCommit | tblSourceCommit
  | tblUcastCommit | tblRdmctxCommit | tblStreamCommit =>
    exact leavesLive_tableCommand _
  | tblRevert => exact leavesLive_tblRevert
  | sysSettingsLoad => exact leavesLive_sysSettingsLoad
  | showTaskCancel => exact leavesLive_showTaskCancel
  | showTaskFree => exact leavesLive_showTaskFree
  | portRdmAbort => exact leavesLive_portRdmAbort
  | updActivate => exact leavesLive_updActivate
  | commandBad => exact leavesLive_commandBad _ _
  | netCntSnap => exact leavesLive_netCntSnap _
  | mtrHostSnap => exact leavesLive_mtrHostSnap _
  | hbEpochWrite => exact leavesLive_hbEpochWrite _ _
  | ckxDataWrite => exact leavesLive_ckxDataWrite _ _ _ _
  | hostBar2Write => exact leavesLive_hostBar2Write _ _ _
  | hostAtomicOp => exact leavesLive_hostAtomicOp _ _ _ _ _
  | peerAtomicOp => exact leavesLive_peerAtomicOp _ _ _ _
  | registerWrite off first rest =>
    refine leavesLive_registerWrite off first rest s ?_
    simpa [hostCommand] using hi
  | _ => cases hi

/-- Settles O40, from what each host command leaves. -/
theorem noHostCommandChangesTheLiveConfiguration : Obligations.NoHostCommandChangesTheLiveConfiguration := by
  unfold Obligations.NoHostCommandChangesTheLiveConfiguration
  intro i s t hi ht
  obtain ⟨hcsn, hlive, htables, -⟩ := exec_leavesLive i hi s t ht
  exact ⟨hlive, htables, hcsn⟩

end Sys2Proof.Machine
end

section
/-! SUPPORT. The grid of the generator (R25): the first index at or after an instant is exact, because the rounding down of an instant
and the rounding up of an index are one inequality of whole numbers. -/

namespace Sys2Proof.Machine

open Sys2Proof

theorem ceilDiv_le_iff {a b c : Nat} (hb : 0 < b) : ceilDiv a b ≤ c ↔ a ≤ c * b := by
  unfold ceilDiv
  rw [Nat.div_le_iff_le_mul_add_pred hb, Nat.mul_comm b c]
  omega

section
variable (g : FrameGen) (t i : Nat)

/-- An instant is reached by crossing `i` as soon as its distance from the origin, times N, is within `i` times D. -/
theorem FrameGen.le_instant_iff (hN : 0 < g.rateN) :
    t ≤ g.instant i ↔ (t - g.origin) * g.rateN ≤ i * (g.rateD * 1000000000) := by
  unfold FrameGen.instant
  rw [Nat.mul_assoc, ← Nat.sub_le_iff_le_add', Nat.le_div_iff_mul_le hN]

/-- The first index at or after an instant is at most those whose crossings stand there, and no other. -/
theorem FrameGen.indexFrom_le_iff (hN : 0 < g.rateN) (hD : 0 < g.rateD) : g.indexFrom t ≤ i ↔ t ≤ g.instant i := by
  have key (j : Nat) : t ≤ g.instant j ↔ ceilDiv ((t - g.origin) * g.rateN) (g.rateD * 1000000000) ≤ j := by
    rw [g.le_instant_iff t j hN, ceilDiv_le_iff (by omega)]
  unfold FrameGen.indexFrom
  split
  · next h => exact iff_of_true (Nat.zero_le i) (h.trans (Nat.le_add_right _ _))
  extract_lets k
  have hlow : ¬ ((decide (0 < k) && decide (t ≤ g.instant (k - 1))) = true) := by
    simp only [key, Bool.and_eq_true, decide_eq_true_eq]
    omega
  have hhigh : ¬ g.instant k < t := Nat.not_lt.mpr ((key k).mpr le_rfl)
  rw [if_neg hlow, if_neg hhigh, key]

/-- After N crossings the grid stands D whole seconds on. -/
theorem FrameGen.instant_add_rateN (hN : 0 < g.rateN) : g.instant (i + g.rateN) = g.instant i + g.rateD * 1000000000 := by
  unfold FrameGen.instant
  rw [Nat.add_mul, Nat.add_mul, Nat.mul_assoc g.rateN, Nat.add_mul_div_left _ _ hN, Nat.add_assoc]

end

/-- Settles O36, from the one inequality that both roundings are. -/
theorem gridIndexIsTheFirstAtOrAfter : Obligations.GridIndexIsTheFirstAtOrAfter := by
  unfold Obligations.GridIndexIsTheFirstAtOrAfter
  intro g t hN hD
  refine ⟨fun _ => rfl, fun i => g.instant_add_rateN i hN, (g.indexFrom_le_iff t _ hN hD).mp le_rfl, fun i hi => ?_⟩
  exact Nat.not_le.mp fun h => Nat.not_le.mpr hi ((g.indexFrom_le_iff t i hN hD).mpr h)

end Sys2Proof.Machine
end

section
/-! SUPPORT. The reset state (R54). -/

namespace Sys2Proof.Machine

open Sys2Proof

/-- Out of reset every time base, numbered or not, is the reset one. -/
theorem tb_reset (n : Nat) : State.reset.chip.tb n = TimeBase.reset := by
  show (List.replicate 4 TimeBase.reset).getD n TimeBase.reset = TimeBase.reset
  rw [List.getD_eq_getElem?_getD, List.getElem?_replicate]
  split <;> rfl

/-- Out of reset PD_AON alone is on. -/
theorem domainOn_reset_iff (d : Nat) : State.reset.chip.domainOn d = true ↔ d = 0 := by
  show (true :: List.replicate 11 false).getD d false = true ↔ d = 0
  cases d with
  | zero => exact iff_of_true rfl rfl
  | succ d =>
    rw [List.getD_cons_succ, List.getD_eq_getElem?_getD, List.getElem?_replicate]
    refine iff_of_false ?_ (Nat.succ_ne_zero d)
    split <;> simp

/-- Settles O6: each clause is a field of the state out of reset. -/
theorem resetStateIsAsGiven : Obligations.ResetStateIsAsGiven := by
  unfold Obligations.ResetStateIsAsGiven
  exact ⟨rfl, rfl, rfl, rfl, rfl, rfl, rfl, rfl, fun n _ => ⟨tb_reset n, by rw [tb_reset]; rfl, by rw [tb_reset]; rfl⟩,
    domainOn_reset_iff, rfl, rfl, rfl, rfl⟩

end Sys2Proof.Machine
end

section
/-! SUPPORT. The seal point (R39) and the crossings at their instants. -/

namespace Sys2Proof.Machine

open Sys2Proof

/-- What a seal applied after some cycles leaves and sets. -/
theorem Chip.sealNow_ticks_parts (c : Chip) (n : Nat) (h : c.sealed = false) :
    (Chip.ticks n c).sealNow.sealed = true ∧ (Chip.ticks n c).sealNow.csn = c.csn ∧
      (Chip.ticks n c).sealNow.commits = c.commits ∧ (Chip.ticks n c).sealNow.cycle = c.cycle + n := by
  rw [Chip.sealNow_eq _ (by rw [Chip.ticks_sealed, h])]
  exact ⟨rfl, rfl, rfl, rfl⟩

/-- What the seal point leaves and sets (R39, R40). -/
theorem Chip.seal_parts (c : Chip) (h : c.sealed = false) :
    c.seal.sealed = true ∧ c.seal.csn = c.csn ∧ c.seal.commits = c.commits ∧
      c.seal.cycle = c.cycle + c.bound.cyclesTo (c.fg.next - bits (c.lv Reg.SEAL_OFFSET) 0 11 * 1000) := by
  unfold Chip.seal Chip.runTo
  exact c.sealNow_ticks_parts _ h

/-- The crossing after the sealed one is open from the seal point on. -/
theorem Chip.seal_openCsn (c : Chip) (h : c.sealed = false) : c.seal.openCsn = c.openCsn + 1 := by
  obtain ⟨hsealed, hcsn, -, -⟩ := c.seal_parts h
  unfold Chip.openCsn
  rw [hsealed, hcsn, c.seal_fg, h]
  rfl

section
variable (s : State)

theorem exec_sealPoint_eq : exec .sealPoint s =
    .next (s.onto (if s.chip.fg.issues && !s.chip.sealed then s.chip.seal else s.chip)) := rfl

theorem exec_crossing_of_not_issues (h : s.chip.fg.issues = false) : exec .crossing s = .next s := by
  show execCrossing s = _
  simp only [execCrossing, onBoth_eq, h, Bool.not_false, if_true]

theorem exec_explicitCrossing_of_nil (h : s.chip.fg.explicit = []) : exec .explicitCrossing s = .next s := by
  show execExplicitCrossing s = _
  simp only [execExplicitCrossing, onBoth_eq, h]

theorem exec_immediateCrossing_of_none (h : s.chip.fg.immediate = none) : exec .immediateCrossing s = .next s := by
  show execImmediateCrossing s = _
  simp only [execImmediateCrossing, onBoth_eq, h]

end

/-- Settles O37: the seal point by what it sets, and each crossing by the row that it is. -/
theorem crossingsComeAtTheirInstants : Obligations.CrossingsComeAtTheirInstants := by
  unfold Obligations.CrossingsComeAtTheirInstants
  intro s
  refine ⟨fun hi hs => ?_, fun hn => ?_, fun hi c hc => exec_crossing_of_issues s hi hc, exec_crossing_of_not_issues s,
    fun x rest c hx hc => exec_explicitCrossing_of_cons s hx hc, exec_explicitCrossing_of_nil s,
    fun passed high due c hm hc => exec_immediateCrossing_of_some s hm hc, exec_immediateCrossing_of_none s⟩
  · obtain ⟨hsealed, hcsn, hcommits, hcycle⟩ := s.chip.seal_parts hs
    refine ⟨s.onto s.chip.seal, ?_, hsealed, s.chip.seal_openCsn hs, hcsn, hcommits, rfl, hcycle⟩
    rw [exec_sealPoint_eq, hi, hs]
    rfl
  · rw [exec_sealPoint_eq, if_neg (by rcases hn with h | h <;> simp [h])]
    rfl

end Sys2Proof.Machine
end

section
/-! SUPPORT. The end of a copy-forward (R35). -/

namespace Sys2Proof.Machine

open Sys2Proof

section
variable (s : State) {t : Nat} (h₁ : 1 ≤ t) (h₂ : t ≤ 15)
include h₁ h₂

/-- The operand of COPY_FORWARD_DONE names a table. -/
theorem tableNumber_ok : (decide (1 ≤ t) && decide (t ≤ 15)) = true := by simp [h₁, h₂]

theorem exec_copyForwardDone_of_none (hn : (s.chip.copyFwd.find? fun f => f.table == t) = none) :
    exec (.copyForwardDone t) s = .next s := by
  show execCopyForwardDone t s = _
  rw [execCopyForwardDone, tableNumber_ok h₁ h₂, within_true, onBoth_eq]
  simp only [hn]

/-- Live records go into staging and the copy-forward ends, with TBL_OPEN (R501). -/
theorem exec_copyForwardDone_of_some {f : CopyForward} (hf : (s.chip.copyFwd.find? fun f => f.table == t) = some f)
    {rs : List (Nat × Nat)} (hrs : rs = if s.chip.domainOn 4 then s.chip.copiedRecs f else [])
    {r : List Host.Cell × Chip} (hr : r = if s.chip.domainOn 4 then s.chip.writeStaging s.dram t rs else (s.dram, s.chip)) :
    exec (.copyForwardDone t) s = .next (s.ontoBoth (r.1,
      Chip.raise { r.2 with copyFwd := r.2.copyFwd.erase f } 2 0x0301 (it4 t ++ it8 f.csn ++ it4 rs.length))) := by
  subst hrs hr
  show execCopyForwardDone t s = _
  rw [execCopyForwardDone, tableNumber_ok h₁ h₂, within_true, onBoth_eq]
  simp only [hf]
  rfl

end

/-- Settles O39, by whether the table has a copy-forward. -/
theorem copyForwardLeavesStagingEqualToLive : Obligations.CopyForwardLeavesStagingEqualToLive := by
  unfold Obligations.CopyForwardLeavesStagingEqualToLive
  intro s t h₁ h₂
  exact ⟨fun _ _ _ hf hrs hr => exec_copyForwardDone_of_some s h₁ h₂ hf hrs hr, exec_copyForwardDone_of_none s h₁ h₂⟩

end Sys2Proof.Machine
end

section
/-! SUPPORT. The generator's starts, holds and stops (R27, R29, R64 to R66). -/

namespace Sys2Proof.Machine

open Sys2Proof

section
variable (g : FrameGen)

/-- The grid is that of the origin and the rate. -/
theorem FrameGen.instant_congr {g k : FrameGen} (ho : g.origin = k.origin) (hN : g.rateN = k.rateN) (hD : g.rateD = k.rateD) :
    g.instant = k.instant := by
  unfold FrameGen.instant
  rw [ho, hN, hD]

theorem FrameGen.instant_mono {i j : Nat} (h : i ≤ j) : g.instant i ≤ g.instant j := by
  unfold FrameGen.instant
  gcongr

/-- The crossing of the first index at or after an instant stands at or after it, and before every other that does. -/
theorem FrameGen.instant_indexFrom_least (t : Nat) (hN : 0 < g.rateN) (hD : 0 < g.rateD) :
    t ≤ g.instant (g.indexFrom t) ∧ ∀ j, t ≤ g.instant j → g.instant (g.indexFrom t) ≤ g.instant j :=
  ⟨(g.indexFrom_le_iff t _ hN hD).mp le_rfl, fun j hj => g.instant_mono ((g.indexFrom_le_iff t j hN hD).mpr hj)⟩

end

section
variable (c : Chip)

/-- A start, with its index named. -/
theorem Chip.startGrid_eq {i : Nat} (hi : i = c.fg.indexFrom (c.now + 100000)) :
    c.startGrid = Chip.fixNext { c with fg := { c.fg with mode := .running, next := c.fg.instant i, nextIdx := some i } } := by
  rw [hi]
  rfl

/-- The generator that a start leaves. -/
theorem Chip.startGrid_fg {i : Nat} (hi : i = c.fg.indexFrom (c.now + 100000)) :
    c.startGrid.fg = { c.fg with mode := .running, next := c.fg.instant i, nextIdx := some i } := by
  rw [c.startGrid_eq hi]
  rfl

@[simp] theorem Chip.startGrid_csn : c.startGrid.csn = c.csn := rfl

/-- What a start leaves and sets: its first crossing stands on the grid, as soon as 100 µs allow. -/
theorem Chip.startGrid_parts {g : FrameGen} {n : Nat} (hg : c.fg.instant = g.instant) (hn : c.now = n) :
    c.startGrid.fg.mode = .running ∧ c.startGrid.fg.origin = c.fg.origin ∧ c.startGrid.csn = c.csn ∧
      (0 < c.fg.rateN → 0 < c.fg.rateD →
        n + 100000 ≤ c.startGrid.fg.next ∧ ∀ j, n + 100000 ≤ g.instant j → c.startGrid.fg.next ≤ g.instant j) := by
  obtain ⟨i, hi⟩ : ∃ i, i = c.fg.indexFrom (c.now + 100000) := ⟨_, rfl⟩
  have hleast := c.fg.instant_indexFrom_least (c.now + 100000)
  rw [← hi, hg, hn] at hleast
  rw [c.startGrid_csn, c.startGrid_fg hi, hg]
  exact ⟨rfl, rfl, rfl, hleast⟩

/-- The end of a hold sets the mode and raises its event. -/
theorem Chip.sameButEvents_leaveHold (cause : Nat) :
    Chip.SameButEvents { c with fg := { c.fg with mode := .running } } (c.leaveHold cause) := Chip.sameButEvents_raise _ _ _ _

theorem Chip.leaveHold_parts (cause : Nat) : (c.leaveHold cause).fg = { c.fg with mode := .running } ∧
    (c.leaveHold cause).csn = c.csn ∧ (c.leaveHold cause).now = c.now := by
  rw [(c.sameButEvents_leaveHold cause).1]
  exact ⟨rfl, rfl, rfl⟩

@[simp] theorem Chip.runTo_fg (ns : Nat) : (c.runTo ns).fg = c.fg := by rw [Chip.runTo, Chip.ticks_fg]

/-- A hold that ends on a grid, wherever the last crossing stood on it. -/
theorem Chip.rephased_parts (g : FrameGen) (grid : Bool) (i : Nat) (htb : g.tb = c.fg.tb) {d : Chip}
    (hd : d = (Chip.leaveHold { c with fg := { g with lastGrid := grid, lastIdx := i } } 1).startGrid) :
    d.fg.mode = .running ∧ d.fg.origin = g.origin ∧ d.csn = c.csn ∧ (0 < g.rateN → 0 < g.rateD →
      c.now + 100000 ≤ d.fg.next ∧ ∀ j, c.now + 100000 ≤ g.instant j → d.fg.next ≤ g.instant j) := by
  obtain ⟨hfg, hcsn, hnow⟩ := Chip.leaveHold_parts { c with fg := { g with lastGrid := grid, lastIdx := i } } 1
  have hsame : Chip.now { c with fg := { g with lastGrid := grid, lastIdx := i } } = c.now := by
    unfold Chip.now Chip.bound
    rw [← htb]
    rfl
  have hparts := Chip.startGrid_parts _ (g := g) (FrameGen.instant_congr (by rw [hfg]) (by rw [hfg]) (by rw [hfg]))
    (hnow.trans hsame)
  rw [← hd, hfg, hcsn] at hparts
  exact hparts

end

section
variable (s : State) {h : CmdHdr} {p q : Nat} (hq : payloadOf h p = q) (ht : s.chip.takes h false = true)
include hq ht

theorem exec_timeFramegenStart_of_stopped (hm : s.chip.fg.mode = .stopped) :
    exec (.timeFramegenStart h p) s = .next (s.onto (s.chip.startGrid.complete h 0x0421 0
      (instantBlock s.chip.startGrid.fg.next s.chip.fg.tb))) := by
  show execTimeFramegenStart h p s = _
  rw [execTimeFramegenStart, firmware_taken _ _ _ _ _ _ q hq ht, if_neg (not_not.mpr hm)]
  rfl

theorem exec_timeFramegenStart_of_not_stopped (hm : s.chip.fg.mode ≠ .stopped) :
    exec (.timeFramegenStart h p) s = .next (s.onto (s.chip.decline h 0x0421 (denied 12))) := by
  show execTimeFramegenStart h p s = _
  rw [execTimeFramegenStart, firmware_taken _ _ _ _ _ _ q hq ht, if_pos hm]

theorem exec_timeFramegenRephase_of_not_held (hm : s.chip.fg.mode ≠ .held) :
    exec (.timeFramegenRephase h p) s = .next (s.onto (s.chip.decline h 0x0423 (denied 12))) := by
  show execTimeFramegenRephase h p s = _
  rw [execTimeFramegenRephase, firmware_taken _ _ _ _ _ _ q hq ht]
  simp only [if_pos hm]

theorem exec_timeFramegenRephase_of_other (hm : s.chip.fg.mode = .held) (hb : bits q 0 96 ≠ 0)
    (htb : (instantArg q 0).2 ≠ s.chip.fg.tb) :
    exec (.timeFramegenRephase h p) s = .next (s.onto (s.chip.decline h 0x0423 (denied 18))) := by
  show execTimeFramegenRephase h p s = _
  rw [execTimeFramegenRephase, firmware_taken _ _ _ _ _ _ q hq ht]
  simp [hm, hb, htb]

theorem exec_timeFramegenRephase_of_held (hm : s.chip.fg.mode = .held) (hb : bits q 0 96 = 0 ∨ (instantArg q 0).2 = s.chip.fg.tb)
    {g : FrameGen} (hg : g = { s.chip.fg with origin := if bits q 0 96 = 0 then s.chip.fg.origin else (instantArg q 0).1 })
    {c : Chip} (hc : c = (Chip.leaveHold { s.chip with
      fg := { g with lastGrid := g.onGrid g.last, lastIdx := g.indexFrom g.last } } 1).startGrid) :
    exec (.timeFramegenRephase h p) s = .next (s.onto (c.complete h 0x0423 0 (instantBlock c.fg.next c.fg.tb))) := by
  have hn : ((!bits q 0 96 == 0) && (instantArg q 0).2 != s.chip.fg.tb) = false := by
    rcases hb with hb | hb <;> simp [hb]
  subst hg hc
  show execTimeFramegenRephase h p s = _
  rw [execTimeFramegenRephase, firmware_taken _ _ _ _ _ _ q hq ht]
  simp only [hn, if_neg (not_not.mpr hm), Bool.false_eq_true, if_false, beq_iff_eq]

end

section
variable (s : State)

theorem exec_fgResume_of_held (hm : s.chip.fg.mode = .held) {c : Chip} (hc : c = s.chip.runTo s.chip.fg.last) :
    exec .fgResume s = .next (s.onto
      ((if c.bound.time ≤ s.chip.fg.last * nsUnits then c.ticks 1 else c).leaveHold 0)) := by
  have hfg : c.fg = s.chip.fg := by rw [hc, Chip.runTo_fg]
  show execFgResume s = _
  rw [execFgResume, onChip_eq, if_pos hm, ← hc]
  simp only [hfg]
  rfl

theorem exec_fgResume_of_not_held (hm : s.chip.fg.mode ≠ .held) : exec .fgResume s = .next s := by
  show execFgResume s = _
  rw [execFgResume, onChip_eq, if_neg hm]

theorem exec_generatorStopEffect_of_stopping (hm : s.chip.fg.stopping = true) {c : Chip} (hc : c = s.chip.runTo s.chip.fg.next) :
    exec .generatorStopEffect s = .next (s.onto { c with fg := { c.fg with mode := .stopped, stopping := false } }) := by
  subst hc
  show execGeneratorStopEffect s = _
  rw [execGeneratorStopEffect, onChip_eq, if_pos hm]
  rfl

theorem exec_generatorStopEffect_of_not_stopping (hm : s.chip.fg.stopping = false) :
    exec .generatorStopEffect s = .next s := by
  show execGeneratorStopEffect s = _
  rw [execGeneratorStopEffect, onChip_eq, if_neg (by simp [hm])]

end

/-- Settles O35: the first instant at least 100 µs ahead is the grid's first index at or after it. -/
theorem generatorStartsHoldsAndStops : Obligations.GeneratorStartsHoldsAndStops := by
  unfold Obligations.GeneratorStartsHoldsAndStops
  refine ⟨fun s h p q hq ht => ⟨fun hm hN hD => ?_, exec_timeFramegenStart_of_stopped s hq ht,
    exec_timeFramegenStart_of_not_stopped s hq ht, fun hm hb g c hg hc => ?_, exec_timeFramegenRephase_of_other s hq ht,
    exec_timeFramegenRephase_of_not_held s hq ht⟩, fun s => ⟨fun hm c hc => exec_fgResume_of_held s hm hc,
    exec_fgResume_of_not_held s, fun hm c hc => exec_generatorStopEffect_of_stopping s hm hc,
    exec_generatorStopEffect_of_not_stopping s⟩⟩
  · obtain ⟨i, hi⟩ : ∃ i, i = s.chip.fg.indexFrom (s.chip.now + 100000) := ⟨_, rfl⟩
    obtain ⟨hat, hleast⟩ := s.chip.fg.instant_indexFrom_least (s.chip.now + 100000) hN hD
    rw [← hi] at hat hleast
    refine ⟨i, _, rfl, hat, hleast, ?_⟩
    rw [exec_timeFramegenStart_of_stopped s hq ht hm, s.chip.startGrid_fg hi, s.chip.startGrid_eq hi]
  · exact ⟨exec_timeFramegenRephase_of_held s hq ht hm hb hg hc, s.chip.rephased_parts g _ _ (by rw [hg]) hc⟩

end Sys2Proof.Machine
end

section
/-! SUPPORT. Commit commands that firmware takes (R40, R41, R44, R296): admitted, they are accepted for their crossing; what stands
against them refuses them. -/

namespace Sys2Proof.Machine

open Sys2Proof

/-! ### What a commit command comes to -/

section
variable (c : Chip) {h : CmdHdr} {q csn st : Nat} {l : List Change} {r : List Byte}
  {b : Chip → Nat → Except Refuse (List Change × List Byte)}

/-- A commit is admitted by its targeting, room in the queue, an isle that may change its settings and its configuration. -/
theorem Chip.accepts_of_parts (ht : c.target h q true = .ok (csn, st))
    (hroom : c.openCsn < csn → c.beyond (c.commits ++ c.forwarded) < 1024) (hu : c.underActive = false)
    (hr : (c.refusal (c.projected csn) csn l).isNone = true) : c.accepts h q csn st l = true := by
  have hfull : (decide (c.openCsn < csn) && decide (1024 ≤ c.beyond (c.commits ++ c.forwarded))) = false := by
    by_cases hb : c.openCsn < csn <;> simp [hb, hroom]
  simp [Chip.accepts, ht, hfull, hu, hr]

theorem Chip.commitCommand_of_missed (op : Nat) {e : Refuse} (ht : c.target h q true = .error e) :
    c.commitCommand op h q true b = c.refuse h op e := by simp [Chip.commitCommand, Chip.commitTry, ht]

theorem Chip.commitCommand_of_denied (op : Nat) {e : Refuse} (ht : c.target h q true = .ok (csn, st))
    (hb : b (c.projected csn) csn = .error e) : c.commitCommand op h q true b = c.refuse h op e := by
  simp [Chip.commitCommand, Chip.commitTry, ht, hb]

/-- A full queue denies a commit beyond the open crossing (R44). -/
theorem Chip.commitCommand_of_full (op : Nat) (ht : c.target h q true = .ok (csn, st)) (hb : b (c.projected csn) csn = .ok (l, r))
    (hopen : c.openCsn < csn) (hfull : 1024 ≤ c.beyond (c.commits ++ c.forwarded)) :
    c.commitCommand op h q true b = c.refuse h op (denied 14) := by
  simp [Chip.commitCommand, Chip.commitTry, ht, hb, hopen, hfull]

end

/-! ### The crossing that a commit names (R41) -/

section
variable (c : Chip) {h : CmdHdr} (q : Nat) (hi : h.atTime = false)
include hi

theorem Chip.target_of_open (hn : h.atCsn = false) : c.target h q true = .ok (c.openCsn, 0) := by
  simp [Chip.target, hi, hn]

theorem Chip.target_of_named (hn : h.atCsn = true) (hle : c.openCsn ≤ h.target) : c.target h q true = .ok (h.target, 0) := by
  simp [Chip.target, hi, hn, hle]

theorem Chip.target_of_late (hn : h.atCsn = true) (hlt : h.target < c.openCsn) (hs : h.strict = false) :
    c.target h q true = .ok (c.openCsn, 1) := by simp [Chip.target, hi, hn, Nat.not_le.mpr hlt, hs]

theorem Chip.target_of_strict (hn : h.atCsn = true) (hlt : h.target < c.openCsn) (hs : h.strict = true) :
    c.target h q true = .error missed := by simp [Chip.target, hi, hn, Nat.not_le.mpr hlt, hs]

end

/-! ### The commands -/

section
variable {s : State} {h : CmdHdr} {p q csn st : Nat} (hq : payloadOf h p = q) (ht : s.chip.takes h false = true)
include hq ht

theorem exec_sysWarmReset_commit : exec (.sysWarmReset h p) s = .next (s.onto
    (s.chip.commitCommand 0x0103 h q true fun _ _ => .ok ([.warmReset], []))) := by
  show execSysWarmReset h p s = _
  rw [execSysWarmReset, firmware_taken _ _ _ _ _ _ q hq ht]

theorem exec_showCommit_commit : exec (.showCommit h p) s = .next (s.onto
    (s.chip.commitCommand 0x0201 h q true fun _ _ => .ok (s.chip.dirtyRegs, []))) := by
  show execShowCommit h p s = _
  rw [execShowCommit, firmware_taken _ _ _ _ _ _ q hq ht]

theorem exec_diagLoopback_commit : exec (.diagLoopback h p) s = .next (s.onto
    (s.chip.commitCommand 0x0B04 h q true fun _ _ => .ok ([.loopback (min 4 (pl q 0 0 3)) (min 2 (pl q 0 3 2))], []))) := by
  show execDiagLoopback h p s = _
  rw [execDiagLoopback, firmware_taken _ _ _ _ _ _ q hq ht]

/-- SYS_POWER_SET asks whether the domains that it leaves on have those they depend on (R24). -/
theorem exec_sysPowerSet_commit : exec (.sysPowerSet h p) s = .next (s.onto
    (s.chip.commitCommand 0x0104 h q true fun _ csn =>
      if powerAllowed (pl q 0 0 12) (powerAfter (pl q 0 0 12) (pl q 0 16 12) (s.chip.powerAt csn)) then
        .ok ([.powerSet (pl q 0 0 12) (pl q 0 16 12)], []) else .error (denied 16))) := by
  show execSysPowerSet h p s = _
  rw [execSysPowerSet, firmware_taken _ _ _ _ _ _ q hq ht]

theorem exec_sysPowerSet_accepted (hp : powerAllowed (pl q 0 0 12) (powerAfter (pl q 0 0 12) (pl q 0 16 12) (s.chip.powerAt csn)) = true)
    (ha : s.chip.accepts h q csn st [.powerSet (pl q 0 0 12) (pl q 0 16 12)] = true) :
    exec (.sysPowerSet h p) s = .next (s.onto (s.chip.accepted h 0x0104 q csn st [.powerSet (pl q 0 0 12) (pl q 0 16 12)] [])) := by
  rw [exec_sysPowerSet_commit hq ht, Chip.commitCommand_accepted _ _ _ _ _ _ _ _ _ (if_pos hp) ha]

theorem exec_sysPowerSet_denied (htg : s.chip.target h q true = .ok (csn, st))
    (hp : powerAllowed (pl q 0 0 12) (powerAfter (pl q 0 0 12) (pl q 0 16 12) (s.chip.powerAt csn)) = false) :
    exec (.sysPowerSet h p) s = .next (s.onto (s.chip.refuse h 0x0104 (denied 16))) := by
  rw [exec_sysPowerSet_commit hq ht, Chip.commitCommand_of_denied _ _ htg (if_neg (by simp [hp]))]

theorem exec_showLayerFlip_accepted {i r : Nat} (hi : i = pl q 0 0 4 * 64 + pl q 0 4 6)
    (hr : r = reseal 6 i (clampLayer (setFld (setFld (s.chip.latestLayer i) 0 0 64 (pl q 8 0 64)) 0xC 0 32 (pl q 4 0 32))))
    (ha : s.chip.accepts h q csn st [.layer i r] = true) :
    exec (.showLayerFlip h p) s = .next (s.onto (s.chip.accepted h 0x0204 q csn st [.layer i r] [])) := by
  show execShowLayerFlip h p s = _
  rw [execShowLayerFlip, firmware_taken _ _ _ _ _ _ q hq ht]
  simp only [← hi, ← hr]
  rw [Chip.commitCommand_accepted _ _ _ _ _ _ _ _ _ rfl ha]

theorem exec_timeFramegenSet_accepted {nd : Nat × Nat} {l : List Change} (hnd : nd = clampRate (pl q 4 0 32) (pl q 8 0 32))
    (hl : l = (Change.frameGen (pl q 0 0 2) (bit q 2) nd.1 nd.2 (instantArg q 0xC).1 ::
      if bit q 3 then [.reg Reg.SEAL_OFFSET (BitVec.ofNat 32 (clampN 10 2000 (pl q 0 16 16)))] else []))
    (ha : s.chip.accepts h q csn st l = true) :
    exec (.timeFramegenSet h p) s = .next (s.onto (s.chip.accepted h 0x0420 q csn st l [])) := by
  subst hnd
  show execTimeFramegenSet h p s = _
  rw [execTimeFramegenSet, firmware_taken _ _ _ _ _ _ q hq ht, Chip.commitCommand_accepted _ _ _ _ _ _ _ _ _ ?_ ha]
  rw [hl]
  cases bit q 3 <;> rfl

/-- TIME_FRAMEGEN_STOP is a commit but while held. -/
theorem exec_timeFramegenStop_accepted (hm : s.chip.fg.mode ≠ .held) (ha : s.chip.accepts h q csn st [.fgStop] = true) :
    exec (.timeFramegenStop h p) s = .next (s.onto (s.chip.accepted h 0x0422 q csn st [.fgStop] [])) := by
  show execTimeFramegenStop h p s = _
  rw [execTimeFramegenStop, firmware_taken _ _ _ _ _ _ q hq ht, if_neg hm,
    Chip.commitCommand_accepted _ _ _ _ _ _ _ _ _ rfl ha]

theorem exec_timeFramegenStop_of_held (hm : s.chip.fg.mode = .held) (hu : s.chip.underActive = false) :
    exec (.timeFramegenStop h p) s = .next (s.onto (Chip.respond { s.chip with
        sealed := false
        fg := { s.chip.fg with mode := .stopped }
        pulses := { s.chip.pulses with outDue := s.chip.pulses.outDue.filter fun d => d.csn ≤ s.chip.csn } }
      h.chan 0x0422 h.tag ⟨0, 0, s.chip.csn, []⟩)) := by
  show execTimeFramegenStop h p s = _
  rw [execTimeFramegenStop, firmware_taken _ _ _ _ _ _ q hq ht, if_pos hm, if_neg (by simp [hu])]

theorem exec_timeFramegenStop_of_underActive (hm : s.chip.fg.mode = .held) (hu : s.chip.underActive = true) :
    exec (.timeFramegenStop h p) s = .next (s.onto (s.chip.refuse h 0x0422 (denied 12))) := by
  show execTimeFramegenStop h p s = _
  rw [execTimeFramegenStop, firmware_taken _ _ _ _ _ _ q hq ht, if_pos hm, if_pos hu]

theorem exec_timePtpSet_accepted {n : Nat} {k : Int × Int × Int} (hn : n = pl q 0 0 2)
    (hk : k = ptpClamp (bits ((s.chip.projected csn).lv (Reg.TB_CFG n)) 4 2) (sext 8 (pl q 1 0 8)) (sext 8 (pl q 2 0 8))
      (sext 8 (pl q 3 0 8))) {l : List Change}
    (hl : l = [Change.ptpSet n k.1 k.2.1 k.2.2 (pl q 4 0 8) (pl q 4 8 8) (clampN 2 10 (pl q 4 16 8))])
    (ha : s.chip.accepts h q csn st l = true) :
    exec (.timePtpSet h p) s = .next (s.onto (s.chip.accepted h 0x0402 q csn st l [])) := by
  show execTimePtpSet h p s = _
  rw [execTimePtpSet, firmware_taken _ _ _ _ _ _ q hq ht, Chip.commitCommand_accepted _ _ _ _ _ _ _ _ _ ?_ ha]
  rw [hl, hk, hn]

end

/-- Settles O28, command by command. -/
theorem commitsAreAcceptedForTheirCrossing : Obligations.CommitsAreAcceptedForTheirCrossing := by
  unfold Obligations.CommitsAreAcceptedForTheirCrossing
  intro s h p q csn st hq ht
  refine ⟨fun ha => ?_, exec_sysPowerSet_accepted hq ht, exec_sysPowerSet_denied hq ht, fun ha => ?_,
    fun i r hi hr ha => exec_showLayerFlip_accepted hq ht hi hr ha, fun port mode hport hmode ha => ?_,
    fun l nd hnd hl ha => exec_timeFramegenSet_accepted hq ht hnd hl ha, exec_timeFramegenStop_accepted hq ht,
    exec_timeFramegenStop_of_held hq ht, exec_timeFramegenStop_of_underActive hq ht,
    fun n k hn hk l hl ha => exec_timePtpSet_accepted hq ht hn hk hl ha⟩
  · rw [exec_sysWarmReset_commit hq ht, Chip.commitCommand_accepted _ _ _ _ _ _ _ _ _ rfl ha]
  · rw [exec_showCommit_commit hq ht, Chip.commitCommand_accepted _ _ _ _ _ _ _ _ _ rfl ha]
  · subst hport hmode
    rw [exec_diagLoopback_commit hq ht, Chip.commitCommand_accepted _ _ _ _ _ _ _ _ _ rfl ha]

end Sys2Proof.Machine
end

section
/-! SUPPORT. Which crossing takes a commit (R41, R44), of three commits that carry different things. -/

namespace Sys2Proof.Machine

open Sys2Proof

/-- The commits of which O30 speaks, with their opcodes and what they carry. -/
def namedCommits (c : Chip) (h : CmdHdr) (p q : Nat) : List (Instr × Nat × List Change) :=
  [(.sysWarmReset h p, 0x0103, [.warmReset]), (.showCommit h p, 0x0201, c.dirtyRegs),
    (.diagLoopback h p, 0x0B04, [.loopback (min 4 (pl q 0 0 3)) (min 2 (pl q 0 3 2))])]

section
variable {s : State} {h : CmdHdr} {p q csn st : Nat} (hq : payloadOf h p = q) (ht : s.chip.takes h false = true)
  {e : Instr × Nat × List Change} (he : e ∈ namedCommits s.chip h p q)
include hq ht he

theorem exec_namedCommit : exec e.1 s =
    .next (s.onto (s.chip.commitCommand e.2.1 h q true fun _ _ => .ok (e.2.2, []))) := by
  simp only [namedCommits, List.mem_cons, List.not_mem_nil, or_false] at he
  obtain rfl | rfl | rfl := he
  · exact exec_sysWarmReset_commit hq ht
  · exact exec_showCommit_commit hq ht
  · exact exec_diagLoopback_commit hq ht

/-- Targeting, room and the configuration let a commit be accepted. -/
theorem exec_namedCommit_accepted (htg : s.chip.target h q true = .ok (csn, st))
    (hroom : s.chip.openCsn < csn → s.chip.beyond (s.chip.commits ++ s.chip.forwarded) < 1024)
    (hu : s.chip.underActive = false) (hr : (s.chip.refusal (s.chip.projected csn) csn e.2.2).isNone = true) :
    exec e.1 s = .next (s.onto (s.chip.accepted h e.2.1 q csn st e.2.2 [])) := by
  rw [exec_namedCommit hq ht he,
    Chip.commitCommand_accepted _ _ _ _ _ _ _ _ _ rfl (s.chip.accepts_of_parts htg hroom hu hr)]

end

/-- Settles O30: each case by its targeting, then by the room in the queue. -/
theorem commitsTakeTheCrossingThatTheyName : Obligations.CommitsTakeTheCrossingThatTheyName := by
  unfold Obligations.CommitsTakeTheCrossingThatTheyName
  intro s h p q hq ht hi e he admits hadmits hu level hlevel
  subst hadmits hlevel
  have hlt : ¬ s.chip.openCsn < s.chip.openCsn := Nat.lt_irrefl _
  refine ⟨fun hn ha => ?_, fun hn heq ha => ?_, fun hn hgt hroom ha => ?_, fun hn hlate hs ha => ?_, fun hn hlate hs => ?_,
    fun hn hgt hfull => ?_⟩
  · exact exec_namedCommit_accepted hq ht he (s.chip.target_of_open q hi hn) (fun hb => absurd hb hlt) hu ha
  · exact exec_namedCommit_accepted hq ht he (s.chip.target_of_named q hi hn heq.ge) (fun hb => absurd (heq ▸ hb) hlt) hu ha
  · exact exec_namedCommit_accepted hq ht he (s.chip.target_of_named q hi hn hgt.le) (fun _ => hroom) hu ha
  · exact exec_namedCommit_accepted hq ht he (s.chip.target_of_late q hi hn hlate hs) (fun hb => absurd hb hlt) hu ha
  · rw [exec_namedCommit hq ht he, Chip.commitCommand_of_missed _ _ (s.chip.target_of_strict q hi hn hlate hs)]
    rfl
  · rw [exec_namedCommit hq ht he, Chip.commitCommand_of_full _ _ (s.chip.target_of_named q hi hn hgt.le) rfl hgt hfull]

end Sys2Proof.Machine
end

section
/-! SUPPORT. SHOW_CROSS and SHOW_UNCOMMIT (R47, R48, R309, R324). -/

namespace Sys2Proof.Machine

open Sys2Proof

section
variable (c : Chip) (chan : Option Chan) (tag : Nat)

/-- The earliest cycle of a crossing called now: one period after the crossing before it. -/
def Chip.callFrom : Nat :=
  match c.fg.explicit.getLast? with
  | some y => y.instant + c.periodCycles
  | none => if c.csn = 0 then 0 else c.fg.crossCycle + c.periodCycles

/-- The cycle of a crossing called now, `wait` after its acceptance where the crossing before it leaves it that. -/
def Chip.callAt (wait : Nat) : Nat := if c.cycle < c.callFrom then c.callFrom else c.cycle + wait

theorem Chip.callAt_bounds {wait : Nat} (hw : wait ≤ 20000) : c.cycle ≤ c.callAt wait ∧ c.callFrom ≤ c.callAt wait ∧
    c.callAt wait ≤ max (c.cycle + 20000) c.callFrom ∧ (c.cycle < c.callFrom → c.callAt wait = c.callFrom) := by
  unfold Chip.callAt
  generalize c.callFrom = from_
  split <;> omega

/-- The crossing that a call now adds to the row, `wait` after its acceptance. -/
def Chip.newCall (wait : Nat) : ExplicitCall := ⟨chan, tag, c.csn + 1 + c.fg.explicit.length, c.callAt wait⟩

/-- A crossing called is the last of the row; its pulse is due, a free choice is made, and nothing else changes. -/
theorem Chip.callExplicit_eq : ∃ wait, wait ≤ 20000 ∧ ∃ p, c.callExplicit chan tag = { c.drew with
    fg := { c.fg with explicit := c.fg.explicit ++ [c.newCall chan tag wait] }, pulses := p } :=
  ⟨c.free % 20001, by omega, _, rfl⟩

end

/-- The commits that SHOW_UNCOMMIT names: of its channel and tag, for its crossing. -/
def withdraws (q : Nat) (m : Commit) : Bool :=
  (match m.chan with | some ch => Chan.number ch == pl q 0 16 9 | none => false) && m.tag == pl q 0 0 16 && m.target == pl q 8 0 64

section
variable (c : Chip) (h : CmdHdr) (q : Nat)

/-- What SHOW_UNCOMMIT withdraws: nothing once the seal point has passed. -/
def Chip.withdrawn : List Commit := if c.openCsn ≤ pl q 8 0 64 then c.commits.filter (withdraws q) else []

/-- SHOW_UNCOMMIT as it acts on the part. -/
def Chip.uncommit : Chip :=
  if (c.withdrawn q).isEmpty then c.decline h 0x0203 missed
  else
    let told := c.pair.isle == .active && c.pair.linkUp && c.pair.mirrorOk &&
      (c.withdrawn q).any fun m => m.changes.any Change.mirrored
    let d := { c with commits := c.commits.filter fun m => !withdraws q m }
    (if told then d.tellMissed (pl q 8 0 64) else d).complete h 0x0203 0 (leBytes 4 (c.withdrawn q).length)

theorem Chip.uncommit_of_none (hn : pl q 8 0 64 < c.openCsn ∨ c.commits.filter (withdraws q) = []) :
    c.uncommit h q = c.decline h 0x0203 missed := by
  have hg : c.withdrawn q = [] := by
    unfold Chip.withdrawn
    rcases hn with hlt | he
    · exact if_neg (Nat.not_le.mpr hlt)
    · rw [he, ite_self]
  unfold Chip.uncommit
  rw [hg]
  rfl

theorem Chip.uncommit_of_some (hopen : c.openCsn ≤ pl q 8 0 64) (hsome : c.commits.filter (withdraws q) ≠ []) :
    c.uncommit h q = (if c.pair.isle == .active && c.pair.linkUp && c.pair.mirrorOk &&
        (c.commits.filter (withdraws q)).any fun m => m.changes.any Change.mirrored then
        Chip.tellMissed { c with commits := c.commits.filter fun m => !withdraws q m } (pl q 8 0 64)
      else { c with commits := c.commits.filter fun m => !withdraws q m }).complete h 0x0203 0
        (leBytes 4 (c.commits.filter (withdraws q)).length) := by
  have hg : c.withdrawn q = c.commits.filter (withdraws q) := if_pos hopen
  unfold Chip.uncommit
  rw [hg, if_neg (by simpa [List.isEmpty_iff] using hsome)]

end

section
variable {s : State} {h : CmdHdr} {p q : Nat} (hq : payloadOf h p = q) (ht : s.chip.takes h false = true)
include hq ht

theorem exec_showCross_denied (hd : s.chip.fg.mode ≠ .stopped ∨ s.chip.underActive = true) :
    exec (.showCross h p) s = .next (s.onto (s.chip.refuse h 0x0202 (denied 12))) := by
  show execShowCross h p s = _
  rw [execShowCross, firmware_taken _ _ _ _ _ _ q hq ht, if_pos (by rcases hd with hd | hd <;> simp [hd])]

theorem exec_showCross_forwarded (hm : s.chip.fg.mode = .stopped) (hu : s.chip.underActive = false)
    (hf : s.chip.mirrors [.cross] = true) : exec (.showCross h p) s = .next (s.onto (s.chip.forwardCommit
      ⟨0, ⟨some h.chan, h.tag, 0x0202, s.chip.openCsn, [.cross], none⟩, some h, q, []⟩)) := by
  show execShowCross h p s = _
  rw [execShowCross, firmware_taken _ _ _ _ _ _ q hq ht, if_neg (by simp [hm, hu]), if_pos hf]

theorem exec_showCross_called (hm : s.chip.fg.mode = .stopped) (hu : s.chip.underActive = false)
    (hf : s.chip.mirrors [.cross] = false) :
    exec (.showCross h p) s = .next (s.onto (s.chip.callExplicit (some h.chan) h.tag)) := by
  show execShowCross h p s = _
  rw [execShowCross, firmware_taken _ _ _ _ _ _ q hq ht, if_neg (by simp [hm, hu]), if_neg (by simp [hf])]

theorem exec_showUncommit_eq : exec (.showUncommit h p) s = .next (s.onto (s.chip.uncommit h q)) := by
  show execShowUncommit h p s = _
  rw [execShowUncommit, firmware_taken _ _ _ _ _ _ q hq ht]
  rfl

end

/-- Settles O32, by the cases of the two commands. -/
theorem showCommandsActOnTheQueue : Obligations.ShowCommandsActOnTheQueue := by
  unfold Obligations.ShowCommandsActOnTheQueue
  intro s h p q hq ht
  refine ⟨exec_showCross_denied hq ht, fun hm hu => ⟨exec_showCross_forwarded hq ht hm hu, fun hf before hbefore => ?_⟩,
    fun csn named c told hcsn hnamed hc htold => ?_⟩
  · have hfrom : before = s.chip.callFrom := hbefore
    obtain ⟨wait, hwait, pulses, hcall⟩ := s.chip.callExplicit_eq (some h.chan) h.tag
    obtain ⟨hlow, hprev, hhigh, hheld⟩ := s.chip.callAt_bounds hwait
    refine ⟨_, s.chip.newCall (some h.chan) h.tag wait, exec_showCross_called hq ht hm hu hf, ?_⟩
    rw [hcall, hfrom]
    refine ⟨rfl, rfl, rfl, rfl, hlow, hprev, hhigh, hheld, ?_, rfl, rfl, rfl, rfl, rfl, rfl, rfl⟩
    show s.chip.csn + 1 + (s.chip.fg.explicit ++ [_]).length + s.chip.sealed.toNat = _ + 1
    simp only [Chip.openCsn, List.length_append, List.length_singleton]
    omega
  · have hn : named = withdraws q := by rw [hnamed, hcsn]; rfl
    subst hn hc hcsn
    rw [exec_showUncommit_eq hq ht, htold]
    exact ⟨fun hopen hsome => by rw [Chip.uncommit_of_some _ _ _ hopen hsome],
      fun hnone => by rw [Chip.uncommit_of_none _ _ _ hnone]; rfl⟩

end Sys2Proof.Machine
end

section
/-! SUPPORT. Host accesses of LPDDR5X through BAR2 (R34, R258, R260, R263, R302): octets stored word by word, what of a write is
dropped, and reads. -/

namespace Sys2Proof.Machine

open Sys2Proof

/-! ### Octets stored word by word -/

section
variable (a : Nat) (bs : List Byte)

/-- The octets of a write by their addresses, in ascending order. -/
theorem withAddresses_eq : withAddresses a bs = (List.range' a bs.length).map fun x => (x, bs.getD (x - a) 0) := by
  rw [withAddresses, List.range'_eq_map_range, List.map_map]
  exact List.map_congr_left fun i _ => by simp

/-- What holds of every address of a write. -/
theorem forall_withAddresses {P : Nat → Prop} (h : ∀ i, i < bs.length → P (a + i)) : ∀ e ∈ withAddresses a bs, P e.1 := by
  intro e he
  obtain ⟨i, hi, rfl⟩ := List.mem_map.mp he
  exact h i (List.mem_range.mp hi)

theorem length_withAddresses : (withAddresses a bs).length = bs.length := by simp [withAddresses]

theorem exists_withAddresses_cons (h : bs ≠ []) : ∃ b l, withAddresses a bs = (a, b) :: l := by
  obtain ⟨b, r, rfl⟩ := List.exists_cons_of_ne_nil h
  exact ⟨_, _, by rw [withAddresses_eq, List.length_cons, List.range'_succ, List.map_cons]⟩

/-- The addresses of a range that lie in one word are a range. -/
theorem range'_filter_word (n w : Nat) : (List.range' a n).filter (fun x => x / 8 == w) =
    List.range' (max a (8 * w)) (min (a + n) (8 * w + 8) - max a (8 * w)) := by
  refine List.Pairwise.eq_of_mem_iff (r := (· < ·)) ((List.pairwise_lt_range' 1).filter _) (List.pairwise_lt_range' 1) fun x => ?_
  simp only [List.mem_filter, List.mem_range'_1, beq_iff_eq]
  omega

/-- The octets of a write that lie in one word stand at consecutive addresses. -/
theorem withAddresses_filter_word (w : Nat) : (withAddresses a bs).filter (fun e => e.1 / 8 == w) =
    (List.range' (max a (8 * w)) (min (a + bs.length) (8 * w + 8) - max a (8 * w))).map fun x => (x, bs.getD (x - a) 0) := by
  rw [withAddresses_eq, List.filter_map, ← range'_filter_word]
  rfl

/-- What an octet reads after a run of addresses has been written with what `v` gives them. -/
theorem read8_write_range' (d : List Host.Cell) (lo n x : Nat) (v : Nat → Byte) :
    Memory.read8 (Memory.write d (((List.range' lo n).map fun y => (y, v y)).headD (0, 0)).1
      (((List.range' lo n).map fun y => (y, v y)).map (·.2))) x = if lo ≤ x ∧ x < lo + n then v x else Memory.read8 d x := by
  cases n with
  | zero => simp [Memory.write]
  | succ n =>
    rw [List.map_map, List.range'_succ, List.map_cons, List.headD_cons, ← List.range'_succ]
    split
    · next h =>
      obtain ⟨hlo, hhi⟩ := h
      obtain ⟨i, rfl⟩ := Nat.exists_eq_add_of_le hlo
      rw [Memory.read8_write_inside _ _ _ _ (by simp; omega)]
      simp
    · next h => exact Memory.read8_write_outside _ _ _ _ (by simp; omega)

/-- The octets of a write stored for the words named, word by word. -/
def Chip.storeRuns (c : Chip) (d : List Host.Cell) (cls : Nat) (ws : List Nat) : List Host.Cell × Chip :=
  ws.foldl (fun x w =>
    let run := (withAddresses a bs).filter fun e => e.1 / 8 == w
    x.2.store x.1 cls (run.headD (0, 0)).1 (run.map (·.2))) (d, c)

theorem Chip.storeWords_eq_storeRuns (c : Chip) (d : List Host.Cell) (cls : Nat) : c.storeWords d cls (withAddresses a bs) =
    c.storeRuns a bs d cls (((withAddresses a bs).map fun e => e.1 / 8).eraseDups) := rfl

/-- With no stored difference anywhere, the octets of the words named are stored, and nothing else changes. -/
theorem Chip.storeRuns_clean (c : Chip) (hc : c.eccDram.flips = []) (cls : Nat) (ws : List Nat) (d : List Host.Cell) :
    ∃ m, c.storeRuns a bs d cls ws = (m, c) ∧ ∀ x, Memory.read8 m x =
      if x / 8 ∈ ws ∧ a ≤ x ∧ x < a + bs.length then bs.getD (x - a) 0 else Memory.read8 d x := by
  induction ws generalizing d with
  | nil => exact ⟨d, rfl, fun x => by simp⟩
  | cons w ws ih =>
    unfold Chip.storeRuns at ih ⊢
    rw [List.foldl_cons]
    simp only [c.store_clean _ _ _ _ hc]
    obtain ⟨m, hm, hread⟩ := ih (Memory.write d _ _)
    refine ⟨m, hm, fun x => (hread x).trans ?_⟩
    rw [withAddresses_filter_word, read8_write_range']
    simp only [List.mem_cons]
    by_cases hin : x / 8 ∈ ws
    · simp only [hin, true_and, or_true]
      split
      · rfl
      · rw [if_neg (by omega)]
    · simp only [hin, false_and, or_false, if_false]
      congr 1
      simp only [eq_iff_iff]
      omega

/-- With no stored difference anywhere, a write stores its octets and changes nothing else. -/
theorem Chip.storeWords_clean (c : Chip) (hc : c.eccDram.flips = []) (cls : Nat) (d : List Host.Cell) :
    ∃ m, c.storeWords d cls (withAddresses a bs) = (m, c) ∧ (∀ i (h : i < bs.length), Memory.read8 m (a + i) = bs[i]) ∧
      ∀ x, x < a ∨ a + bs.length ≤ x → Memory.read8 m x = Memory.read8 d x := by
  obtain ⟨m, hm, hread⟩ := c.storeRuns_clean a bs hc cls (((withAddresses a bs).map fun e => e.1 / 8).eraseDups) d
  refine ⟨m, (c.storeWords_eq_storeRuns a bs d cls).trans hm, fun i hi => ?_, fun x hx => ?_⟩
  · have hin : (a + i) / 8 ∈ ((withAddresses a bs).map fun e => e.1 / 8).eraseDups := by
      rw [List.mem_eraseDups, withAddresses, List.map_map]
      exact List.mem_map.mpr ⟨i, List.mem_range.mpr hi, rfl⟩
    rw [hread, if_pos ⟨hin, by omega, by omega⟩]
    simp [hi]
  · rw [hread, if_neg (by omega)]

end

/-! ### What of a write is stored and what is dropped -/

section
variable (c : Chip) (d : List Host.Cell) (cls a : Nat) (bs : List Byte) (fail : Nat → Nat → Nat → Chip → Chip)

theorem Chip.applyWrite_of_off (h : c.domainOn 4 = false) : c.applyWrite d cls a bs fail = (d, fail 1 a bs.length c) := by
  simp [Chip.applyWrite, h]

@[simp] theorem Chip.storeWords_nil : c.storeWords d cls [] = (d, c) := rfl

/-- Octets mapped and unlocked are stored. -/
theorem Chip.applyWrite_of_free (h : c.domainOn 4 = true)
    (hm : ∀ i, i < bs.length → c.mapsTo (a + i) = true ∧ c.lockAt (a + i) = none) :
    c.applyWrite d cls a bs fail = c.storeWords d cls (withAddresses a bs) := by
  have hall : ∀ e ∈ withAddresses a bs, c.mapsTo e.1 = true ∧ c.lockAt e.1 = none :=
    forall_withAddresses a bs (P := fun x => c.mapsTo x = true ∧ c.lockAt x = none) hm
  have hgood : (withAddresses a bs).filter (fun e => c.mapsTo e.1) = withAddresses a bs :=
    List.filter_eq_self.mpr fun e he => (hall e he).1
  have hbad : (withAddresses a bs).filter (fun e => !c.mapsTo e.1) = [] :=
    List.filter_eq_nil_iff.mpr fun e he => by simp [(hall e he).1]
  have hheld : (withAddresses a bs).filter (fun e => (c.lockAt e.1).isSome) = [] :=
    List.filter_eq_nil_iff.mpr fun e he => by simp [(hall e he).2]
  have hfree : (withAddresses a bs).filter (fun e => (c.lockAt e.1).isNone) = withAddresses a bs :=
    List.filter_eq_self.mpr fun e he => by simp [(hall e he).2]
  simp [Chip.applyWrite, h, hgood, hbad, hheld, hfree]

/-- Octets of addresses that map nothing are dropped. -/
theorem Chip.applyWrite_of_unmapped (h : c.domainOn 4 = true) (hne : bs ≠ []) (hm : ∀ i, i < bs.length → c.mapsTo (a + i) = false) :
    c.applyWrite d cls a bs fail = (d, fail 4 a bs.length c) := by
  have hall : ∀ e ∈ withAddresses a bs, c.mapsTo e.1 = false :=
    forall_withAddresses a bs (P := fun x => c.mapsTo x = false) hm
  have hgood : (withAddresses a bs).filter (fun e => c.mapsTo e.1) = [] :=
    List.filter_eq_nil_iff.mpr fun e he => by simp [hall e he]
  have hbad : (withAddresses a bs).filter (fun e => !c.mapsTo e.1) = withAddresses a bs :=
    List.filter_eq_self.mpr fun e he => by simp [hall e he]
  obtain ⟨b, l, hl⟩ := exists_withAddresses_cons a bs hne
  have hlen : bs.length = ((a, b) :: l).length := by rw [← hl, length_withAddresses]
  simp only [Chip.applyWrite, h, hgood, hbad, hlen]
  simp [hl]

/-- Octets of locked staging records are dropped, and TBL_WRITE_LOCKED names the first. -/
theorem Chip.applyWrite_of_locked (h : c.domainOn 4 = true) (hne : bs ≠ [])
    (hm : ∀ i, i < bs.length → c.mapsTo (a + i) = true ∧ c.lockAt (a + i) ≠ none) {k : Nat × Nat}
    (hk : (fail 2 a bs.length c).lockAt a = some k) :
    c.applyWrite d cls a bs fail = (d, (fail 2 a bs.length c).writeLocked k) := by
  have hall : ∀ e ∈ withAddresses a bs, c.mapsTo e.1 = true ∧ c.lockAt e.1 ≠ none :=
    forall_withAddresses a bs (P := fun x => c.mapsTo x = true ∧ c.lockAt x ≠ none) hm
  have hgood : (withAddresses a bs).filter (fun e => c.mapsTo e.1) = withAddresses a bs :=
    List.filter_eq_self.mpr fun e he => (hall e he).1
  have hbad : (withAddresses a bs).filter (fun e => !c.mapsTo e.1) = [] :=
    List.filter_eq_nil_iff.mpr fun e he => by simp [(hall e he).1]
  have hheld : (withAddresses a bs).filter (fun e => (c.lockAt e.1).isSome) = withAddresses a bs :=
    List.filter_eq_self.mpr fun e he => Option.isSome_iff_ne_none.mpr (hall e he).2
  have hfree : (withAddresses a bs).filter (fun e => (c.lockAt e.1).isNone) = [] :=
    List.filter_eq_nil_iff.mpr fun e he => by simpa using (hall e he).2
  obtain ⟨b, l, hl⟩ := exists_withAddresses_cons a bs hne
  have hlen : bs.length = ((a, b) :: l).length := by rw [← hl, length_withAddresses]
  rw [hlen] at hk ⊢
  simp only [Chip.applyWrite, h, hgood, hbad, hheld, hfree]
  simp only [hl]
  rw [Chip.storeWords_nil, hk]
  rfl

end

/-! ### The locks while a failed write is logged -/

/-- What the locks rest on: the size of LPDDR5X, the accepted commits and the copy-forwards. -/
def Chip.SameLocks (c d : Chip) : Prop := d.dramCfg = c.dramCfg ∧ d.commits = c.commits ∧ d.copyFwd = c.copyFwd

theorem Chip.SameLocks.trans {c d e : Chip} (h : c.SameLocks d) (g : d.SameLocks e) : c.SameLocks e :=
  ⟨g.1.trans h.1, g.2.1.trans h.2.1, g.2.2.trans h.2.2⟩

theorem Chip.sameLocks_wr (c : Chip) (off v : Nat) : c.SameLocks (c.wr off v) :=
  ⟨c.wr_dramCfg off v, c.wr_commits off v, c.wr_copyFwd off v⟩

theorem Chip.SameButEvents.sameLocks {c d : Chip} (h : c.SameButEvents d) : c.SameLocks d := by
  obtain ⟨h, -, -⟩ := h
  rw [h]
  exact ⟨rfl, rfl, rfl⟩

/-- The locks are those of the commits and the copy-forwards, in the staging areas that the size of LPDDR5X gives. -/
theorem Chip.SameLocks.lockAt {c d : Chip} (h : c.SameLocks d) (a : Nat) : d.lockAt a = c.lockAt a := by
  obtain ⟨hsize, hcommits, hcopy⟩ := h
  have hbase : d.tblBase = c.tblBase := by
    unfold Chip.tblBase Chip.usable Chip.trained
    rw [hsize]
  have hlocked : d.locked = c.locked := by
    funext t i
    simp -implicitDefEqProofs only [Chip.locked, hcommits, hcopy]
  simp -implicitDefEqProofs only [Chip.lockAt, hbase, hlocked]

/-- A write is logged in registers, with an event. -/
theorem Chip.sameLocks_writeFailed (c : Chip) (bar2 : Bool) (off req epoch cause peerCause len : Nat) :
    c.SameLocks (c.writeFailed bar2 off req epoch cause peerCause len) := by
  unfold Chip.writeFailed
  extract_lets c₁ c₂
  have h₂ : c₁.SameLocks c₂ := by
    unfold c₂
    split
    · exact ⟨rfl, rfl, rfl⟩
    · exact (((Chip.sameLocks_wr _ _ _).trans (Chip.sameLocks_wr _ _ _)).trans (Chip.sameLocks_wr _ _ _)).trans
        (Chip.sameLocks_wr _ _ _)
  exact (((Chip.sameLocks_wr _ _ _).trans h₂).trans (Chip.sameLocks_wr _ _ _)).trans (Chip.sameButEvents_raise _ _ _ _).sameLocks

/-- A failed write of the host through BAR2 is logged at the offset that the host wrote. -/
def Chip.bar2Failed (off base req : Nat) (cause at_ n : Nat) (c : Chip) : Chip :=
  c.writeFailed true (off + (at_ - base)) req (c.rd Reg.HB_EPOCH) cause 0 n

theorem Chip.bar2Failed_first (c : Chip) (off base req cause n : Nat) :
    c.bar2Failed off base req cause base n = c.writeFailed true off req (c.rd Reg.HB_EPOCH) cause 0 n := by
  rw [Chip.bar2Failed, Nat.sub_self, Nat.add_zero]

/-! ### The accesses -/

theorem State.ontoBoth_same_dram (s : State) (c : Chip) : s.ontoBoth (s.dram, c) = s.onto c := rfl

section
variable (s : State) {off : Nat}

theorem exec_hostBar2Write_of_not_ready {octets : List Byte} {req : Nat} (hin : off + octets.length ≤ Config.bar2Octets)
    (hr : s.chip.bar2Ready = false) : exec (.hostBar2Write off octets req) s = .next s := by
  show execHostBar2Write off octets req s = _
  rw [execHostBar2Write, onBar2, decide_eq_true hin, within_true, onBoth_eq, hr]
  rfl

/-- A write below the aperture, while the endpoint serves BAR2. -/
theorem exec_hostBar2Write_of_ready {octets : List Byte} {req : Nat} (hin : off + octets.length ≤ Config.bar2Octets)
    (hr : s.chip.bar2Ready = true) (ha : s.chip.spaceOf off < aperture) :
    exec (.hostBar2Write off octets req) s = .next (s.ontoBoth (s.chip.applyWrite s.dram 5 (s.chip.spaceOf off) octets
      (Chip.bar2Failed off (s.chip.spaceOf off) req))) := by
  show execHostBar2Write off octets req s = _
  rw [execHostBar2Write, onBar2, decide_eq_true hin, within_true, onBoth_eq]
  simp only [hr, if_true, if_neg (Nat.not_le.mpr ha)]
  rfl

theorem exec_hostBar2Read_of_not_ready {len : Nat} (hin : off + len ≤ Config.bar2Octets) (hr : s.chip.bar2Ready = false) :
    exec (.hostBar2Read off len) s = .next s := by
  show execHostBar2Read off len s = _
  rw [execHostBar2Read, onBar2, decide_eq_true hin, within_true, onBoth_eq, hr]
  rfl

/-- A read, while the endpoint serves BAR2. -/
theorem exec_hostBar2Read_of_ready {len : Nat} (hin : off + len ≤ Config.bar2Octets) (hr : s.chip.bar2Ready = true) :
    exec (.hostBar2Read off len) s = .next (s.onto (if s.chip.spaceOf off < aperture then
      s.chip.serveRead s.dram 5 (s.chip.spaceOf off) len
      else if s.chip.peerUp then s.chip.emit (.forwardRead (s.chip.peerOffset (s.chip.spaceOf off)) len)
      else s.chip.emit .completerAbort)) := by
  show execHostBar2Read off len s = _
  rw [execHostBar2Read, onBar2, decide_eq_true hin, within_true, onBoth_eq]
  simp only [hr, if_true]
  rfl

end

theorem Chip.serveRead_of_readable {c : Chip} {d : List Host.Cell} {cls a n : Nat} (h : c.readable a n = true) :
    c.serveRead d cls a n = (c.noteRead 0 cls a n).emit (.readData (c.fetch d a n) (c.poisoned 0 a n)) := if_pos h

theorem Chip.serveRead_of_not_readable {c : Chip} {d : List Host.Cell} {cls a n : Nat} (h : c.readable a n = false) :
    c.serveRead d cls a n = c.emit .completerAbort := if_neg (by simp [h])

/-- With no stored difference anywhere, nothing is poisoned. -/
theorem Chip.poisoned_clean {c : Chip} (h : c.eccDram.flips = []) (a n : Nat) : c.poisoned 0 a n = false := by
  simp [Chip.poisoned, Chip.ecc, Ecc.within, h]

/-- Settles O17: writes by what becomes of their octets, reads by where they lie. -/
theorem hostAccessesOfDramAreServed : Obligations.HostAccessesOfDramAreServed := by
  unfold Obligations.HostAccessesOfDramAreServed
  refine ⟨fun s off a octets req hin ha => ⟨exec_hostBar2Write_of_not_ready s hin, fun hr hlow hne => ?_⟩,
    fun s off len a hin ha => ⟨exec_hostBar2Read_of_not_ready s hin, fun hr hlow => ?_, fun hr hhigh => ?_⟩⟩
  · subst ha
    have hpos : 0 < octets.length := List.length_pos_iff.mpr hne
    rw [exec_hostBar2Write_of_ready s hin hr (by omega)]
    refine ⟨fun hon hm => ?_, fun k hon hm hk => ?_, fun hoff => ?_, fun hon hm => ?_⟩
    · rw [Chip.applyWrite_of_free _ _ _ _ _ _ hon hm]
      refine ⟨rfl, fun hclean => ?_⟩
      obtain ⟨m, hstored, hinside, houtside⟩ := s.chip.storeWords_clean (s.chip.spaceOf off) octets hclean 5 s.dram
      rw [hstored]
      exact ⟨_, rfl, rfl, rfl, hinside, houtside⟩
    · rw [Chip.applyWrite_of_locked _ _ _ _ _ _ hon hne hm (by
        rw [Chip.bar2Failed_first, (Chip.sameLocks_writeFailed _ _ _ _ _ _ _ _).lockAt, hk]), Chip.bar2Failed_first]
      rw [State.ontoBoth_same_dram]
    · rw [Chip.applyWrite_of_off _ _ _ _ _ _ hoff, Chip.bar2Failed_first]
      rw [State.ontoBoth_same_dram]
    · rw [Chip.applyWrite_of_unmapped _ _ _ _ _ _ hon hne hm, Chip.bar2Failed_first]
      rw [State.ontoBoth_same_dram]
  · subst ha
    rw [exec_hostBar2Read_of_ready s hin hr, if_pos hlow]
    refine ⟨fun hread => ?_, fun hread => by rw [Chip.serveRead_of_not_readable hread]⟩
    rw [Chip.serveRead_of_readable hread]
    exact ⟨rfl, fun hclean => by rw [Chip.noteRead_clean _ _ _ _ hclean, Chip.fetch_clean _ _ _ _ hclean, Chip.poisoned_clean hclean]⟩
  · subst ha
    rw [exec_hostBar2Read_of_ready s hin hr, if_neg (Nat.not_lt.mpr hhigh)]
    exact ⟨fun hp => by simp [hp], fun hp => by simp [hp]⟩

end Sys2Proof.Machine
end

section
/-! SUPPORT. The registers that latch or release at a write of 1 (R57, R71, R252, R253, R360), and HB_EPOCH (R264). -/

namespace Sys2Proof.Machine

open Sys2Proof

section
variable {s : State} {off : Nat}

/-- A register command whose block takes it acts on the part. -/
theorem regCommand_taken (f : Chip → Chip) (h : s.chip.takesWrite off = true) :
    regCommand off f s = .next (s.onto (f s.chip)) := by
  rw [regCommand_eq, Chip.barWrite_taken _ _ _ _ h]
  rfl

/-- A register that acts at a write of 1 and does nothing at a write of 0. -/
theorem regCommand_trigger (v : Word) (f : Chip → Chip) (h : s.chip.takesWrite off = true) :
    (v.getLsbD 0 = true → regCommand off (fun c => if bit v.toNat 0 then f c else c) s = .next (s.onto (f s.chip))) ∧
      (v.getLsbD 0 = false → regCommand off (fun c => if bit v.toNat 0 then f c else c) s = .next s) := by
  refine ⟨fun hv => ?_, fun hv => ?_⟩
  · have hb : bit v.toNat 0 = true := hv
    rw [regCommand_taken _ h, if_pos hb]
  · have hb : bit v.toNat 0 = false := hv
    rw [regCommand_taken _ h, if_neg (ne_true_of_eq_false hb), State.onto_self]

end

/-! ### A run of operations of which one matters -/

/-- Where every operation but that of `e` keeps a relation, a run reaches `e` and leaves it with the relation kept. -/
theorem foldl_at {σ α : Type} {R : σ → σ → Prop} (hrefl : ∀ s, R s s) (htrans : ∀ {s t u}, R s t → R t u → R s u)
    {f : σ → α → σ} {l : List α} {e : α} (hl : l.Nodup) (he : e ∈ l) (hf : ∀ s, ∀ x ∈ l, x ≠ e → R s (f s x)) (s : σ) :
    ∃ t, R s t ∧ R (f t e) (l.foldl f s) := by
  have hrun : ∀ m ⊆ l, e ∉ m → ∀ s, R s (m.foldl f s) := fun m hml hm s =>
    List.foldlRecOn m f (motive := R s) (hrefl s) fun t ht x hx => htrans ht (hf t x (hml hx) fun h => hm (h ▸ hx))
  obtain ⟨l₁, l₂, rfl⟩ := List.append_of_mem he
  obtain ⟨-, hl₂, hl₁⟩ := List.nodup_append.mp hl
  rw [List.foldl_append, List.foldl_cons]
  exact ⟨l₁.foldl f s, hrun l₁ (by simp) (fun h => hl₁ e h e (List.mem_cons_self ..) rfl) s,
    hrun l₂ (fun x hx => by simp [hx]) (List.nodup_cons.mp hl₂).1 _⟩

/-! ### MTR_HOST_SNAP (R360) -/

/-- An energy register with what the host's snapshot latches of it. -/
def Energy.hostSnap (e : Energy) : Energy := { e with hostTotal := e.acc / 2 ^ 24, hostWraps := e.wraps }

/-- The energy registers of some keys latched. -/
def Chip.latchEnergy (c : Chip) (l : List Nat) : Chip := l.foldl (fun c k => c.setEnergy k (c.energyOf k).hostSnap) c

/-- Only the energy registers change. -/
theorem Chip.latchEnergy_eq (c : Chip) (l : List Nat) : c.latchEnergy l = { c with energy := (c.latchEnergy l).energy } :=
  List.foldlRecOn l _ (motive := fun d : Chip => d = { c with energy := d.energy }) rfl fun d hd k _ => by rw [hd]; rfl

theorem Chip.energyOf_latchEnergy (l : List Nat) (k : Nat) : ∀ c : Chip,
    (c.latchEnergy l).energyOf k = if k ∈ l then (c.energyOf k).hostSnap else c.energyOf k := by
  induction l with
  | nil => exact fun c => rfl
  | cons j l ih =>
    intro c
    refine (ih _).trans ?_
    by_cases hk : k = j
    · subst hk
      simp [Energy.hostSnap]
    · simp [Chip.energyOf_setEnergy_ne _ _ _ _ hk, hk]

/-- An energy register that the part does not hold stands at reset, where a snapshot changes nothing. -/
theorem Chip.energyOf_latchEnergy_all (c : Chip) (k : Nat) :
    (c.latchEnergy (c.energy.map (·.1))).energyOf k = (c.energyOf k).hostSnap := by
  rw [Chip.energyOf_latchEnergy]
  split
  · rfl
  · next h =>
    have hreset : c.energyOf k = Energy.reset :=
      Store.get_of_ne _ _ _ fun e he hk => h (List.mem_map.mpr ⟨e, he, hk⟩)
    rw [hreset]
    rfl

/-- The energy registers, the instant and CSN_LIVE latched for the host. -/
def Chip.hostSnap (c : Chip) : Chip :=
  let d := c.latchEnergy (c.energy.map (·.1))
  { d with hostSnapNs := d.now, hostSnapCsn := d.csn }

theorem Chip.hostSnap_parts (c : Chip) : c.hostSnap.hostSnapNs = c.now ∧ c.hostSnap.hostSnapCsn = c.csn ∧
    c.hostSnap.csn = c.csn ∧ ∀ k, c.hostSnap.energyOf k = (c.energyOf k).hostSnap := by
  unfold Chip.hostSnap
  extract_lets d
  have hd : d = { c with energy := d.energy } := c.latchEnergy_eq _
  rw [hd]
  exact ⟨rfl, rfl, rfl, c.energyOf_latchEnergy_all⟩

/-! ### NET_CNT_SNAP (R252, R253) -/

theorem sat32_lt (x : Nat) : sat32 x < 2 ^ 32 := by
  unfold sat32
  split <;> omega

/-- What a counter's register takes: TX_PAUSED_US is counted in cycles. -/
def Chip.latched (c : Chip) (p o : Nat) : Nat := if o = 0xCC then sat32 (c.cntOf p o / 800) else c.cntOf p o

/-- The offsets of the counters of two registers, within a port's block. -/
def wideCounters : List Nat := [0x80, 0x88, 0x90, 0x98]

theorem wideCounters_spaced {o : Nat} (ho : o ∈ wideCounters) : o ≤ 0x98 ∧ o % 8 = 0 := by
  unfold wideCounters at ho
  fin_cases ho <;> decide

/-- The wide counters of a port copied into their registers. -/
def Chip.latchWide (c : Chip) (p : Nat) : Chip :=
  wideCounters.foldl (fun c o => c.wrWords (0x3400 + 0x100 * p + o) 2 (c.cntOf p o)) c

/-- The other counters of a port copied into their registers. -/
def Chip.latchNarrow (c : Chip) (p : Nat) : Chip :=
  (List.range 14).foldl (fun c i => c.wr (0x3400 + 0x100 * p + (0xA0 + 4 * i)) (c.latched p (0xA0 + 4 * i))) c

/-- The counters of a port copied into their registers. -/
def Chip.latchPort (c : Chip) (p : Nat) : Chip := ((c.settlePause p).latchWide p).latchNarrow p

/-- A port's state, its counters and its registers from one place of its block to another stay. -/
def Chip.SamePort (p lo hi : Nat) (c d : Chip) : Prop :=
  d.cycle = c.cycle ∧ d.port p = c.port p ∧ (∀ o, o < 0x100 → d.cntOf p o = c.cntOf p o) ∧
    ∀ o, lo ≤ o → o < hi → d.rd (0x3400 + 0x100 * p + o) = c.rd (0x3400 + 0x100 * p + o)

namespace Chip.SamePort
variable {p lo hi : Nat} {c d e : Chip}

theorem refl (c : Chip) : c.SamePort p lo hi c := ⟨rfl, rfl, fun _ _ => rfl, fun _ _ _ => rfl⟩

theorem trans (h : c.SamePort p lo hi d) (k : d.SamePort p lo hi e) : c.SamePort p lo hi e := by
  obtain ⟨h₁, h₂, h₃, h₄⟩ := h
  obtain ⟨k₁, k₂, k₃, k₄⟩ := k
  exact ⟨k₁.trans h₁, k₂.trans h₂, fun o ho => (k₃ o ho).trans (h₃ o ho), fun o ha hb => (k₄ o ha hb).trans (h₄ o ha hb)⟩

/-- A run of operations of which each keeps it. -/
theorem foldl {α : Type} {f : Chip → α → Chip} {l : List α} (hf : ∀ c, ∀ x ∈ l, Chip.SamePort p lo hi c (f c x)) (c : Chip) :
    c.SamePort p lo hi (l.foldl f c) :=
  List.foldlRecOn l f (motive := c.SamePort p lo hi) (refl c) fun d hd x hx => hd.trans (hf d x hx)

/-- A register written outside the run. -/
theorem wr (c : Chip) {off : Nat} (v : Nat) (h : ∀ o, lo ≤ o → o < hi → 0x3400 + 0x100 * p + o ≠ off) :
    c.SamePort p lo hi (c.wr off v) :=
  ⟨rfl, rfl, fun _ _ => rfl, fun o ha hb => c.rd_wr_ne _ _ _ (h o ha hb)⟩

end Chip.SamePort

section
variable (c : Chip) (p : Nat)

@[simp] theorem Chip.rd_settlePause (off : Nat) : (c.settlePause p).rd off = c.rd off := by
  unfold Chip.settlePause
  extract_lets x
  split <;> rfl

theorem Chip.cntOf_cntAdd_ne (off n : Nat) {q o : Nat} (h : q * 0x100 + o ≠ p * 0x100 + off) :
    (c.cntAdd p off n).cntOf q o = c.cntOf q o := Store.get_set_ne _ _ _ _ _ h

theorem Chip.cntOf_settlePause_ne {q o : Nat} (h : q * 0x100 + o ≠ p * 0x100 + 0xCC) :
    (c.settlePause p).cntOf q o = c.cntOf q o := by
  unfold Chip.settlePause
  extract_lets x
  split
  · exact c.cntOf_cntAdd_ne p _ _ h
  · rfl

theorem Chip.settlePause_of_none (h : (c.port p).pauseEnd = none) : c.settlePause p = c := by
  simp [Chip.settlePause, h]

/-- A pause under way: the time held so far is added (R243). -/
theorem Chip.cntOf_settlePause_of_some (h : (c.port p).pauseEnd ≠ none) :
    (c.settlePause p).cntOf p 0xCC = c.cntOf p 0xCC + (c.cycle - (c.port p).heldAt) := by
  unfold Chip.settlePause
  extract_lets x
  rw [if_pos (Option.isSome_iff_ne_none.mpr h)]
  exact (Store.get_set_same ..).trans (by simp [x])

/-- Another port stays when a pause is settled. -/
theorem Chip.samePort_settlePause {q : Nat} (lo hi : Nat) (h : p ≠ q) : c.SamePort q lo hi (c.settlePause p) := by
  unfold Chip.settlePause
  extract_lets x
  split
  · exact ⟨rfl, Chip.port_setPort_ne _ _ _ _ h.symm, fun o ho => c.cntOf_cntAdd_ne p _ _ (by omega), fun _ _ _ => rfl⟩
  · exact .refl c

/-- A number written to two registers. -/
theorem Chip.rd_wrWords_two (off v : Nat) :
    (c.wrWords off 2 v).rd off = v % 2 ^ 32 ∧ (c.wrWords off 2 v).rd (off + 4) = v / 2 ^ 32 % 2 ^ 32 := by
  simp only [Chip.wrWords]
  rw [Chip.rd_wr_ne _ _ _ _ (by omega), Chip.rd_wr_same, Chip.rd_wr_same]
  exact ⟨Nat.mod_mod _ _, Nat.mod_mod _ _⟩

/-- The registers of a wide counter, and nothing else, take its value. -/
theorem Chip.samePort_wrWide {q lo hi o : Nat} (v : Nat)
    (h : ∀ x, lo ≤ x → x < hi → 0x3400 + 0x100 * q + x ≠ 0x3400 + 0x100 * p + o ∧
      0x3400 + 0x100 * q + x ≠ 0x3400 + 0x100 * p + o + 4) :
    c.SamePort q lo hi (c.wrWords (0x3400 + 0x100 * p + o) 2 v) :=
  .trans (.wr c _ fun x ha hb => (h x ha hb).1) (.wr _ _ fun x ha hb => (h x ha hb).2)

/-- The wide counters of a port leave a run of registers alone that is another port's or lies beyond them. -/
theorem Chip.samePort_latchWide {q lo hi : Nat} (hhi : hi ≤ 0x100) (h : p ≠ q ∨ 0xA0 ≤ lo) :
    c.SamePort q lo hi (c.latchWide p) :=
  .foldl (fun d o ho => by
    obtain ⟨hle, -⟩ := wideCounters_spaced ho
    exact d.samePort_wrWide p _ fun x _ _ => by omega) c

/-- The other counters of a port leave a run of registers alone that is another port's or lies below them. -/
theorem Chip.samePort_latchNarrow {q lo hi : Nat} (hhi : hi ≤ 0x100) (h : p ≠ q ∨ hi ≤ 0xA0) :
    c.SamePort q lo hi (c.latchNarrow p) :=
  .foldl (fun d i hi => by
    have := List.mem_range.mp hi
    exact .wr d _ fun x _ _ => by omega) c

/-- The counters of a port leave every other port alone. -/
theorem Chip.samePort_latchPort {q : Nat} (h : p ≠ q) : c.SamePort q 0 0x100 (c.latchPort p) :=
  .trans (c.samePort_settlePause p 0 0x100 h) (.trans (Chip.samePort_latchWide _ p le_rfl (.inl h))
    (Chip.samePort_latchNarrow _ p le_rfl (.inl h)))

/-- A wide counter's registers take the two halves of its value. -/
theorem Chip.rd_latchPort_wide {o : Nat} (ho : o ∈ wideCounters) :
    (c.latchPort p).rd (0x3400 + 0x100 * p + o) = c.cntOf p o % 2 ^ 32 ∧
      (c.latchPort p).rd (0x3400 + 0x100 * p + o + 4) = c.cntOf p o / 2 ^ 32 % 2 ^ 32 := by
  obtain ⟨hle, hmod⟩ := wideCounters_spaced ho
  obtain ⟨d, ⟨-, -, hcnt, -⟩, hrest⟩ := foldl_at (R := Chip.SamePort p o (o + 8)) .refl .trans (by decide) ho
    (f := fun c o => c.wrWords (0x3400 + 0x100 * p + o) 2 (c.cntOf p o))
    (fun d x hx hne => d.samePort_wrWide p _ fun y _ _ => by have := (wideCounters_spaced hx).2; omega) (c.settlePause p)
  obtain ⟨-, -, -, hrd⟩ := hrest.trans (Chip.samePort_latchNarrow _ p (by omega) (.inr (by omega)))
  have hval : d.cntOf p o = c.cntOf p o := (hcnt o (by omega)).trans (c.cntOf_settlePause_ne p (by omega))
  obtain ⟨hlow, hhigh⟩ := d.rd_wrWords_two (0x3400 + 0x100 * p + o) (d.cntOf p o)
  rw [← hval]
  exact ⟨(hrd o (by omega) (by omega)).trans hlow, (hrd (o + 4) (by omega) (by omega)).trans hhigh⟩

/-- A narrow counter's register takes its value, the pause settled. -/
theorem Chip.rd_latchPort_narrow {i : Nat} (hi : i < 14) : (c.latchPort p).rd (0x3400 + 0x100 * p + (0xA0 + 4 * i)) =
    (c.settlePause p).latched p (0xA0 + 4 * i) % 2 ^ 32 := by
  obtain ⟨-, -, hwide, -⟩ := (c.settlePause p).samePort_latchWide p (q := p) (lo := 0xA0) le_rfl (.inr le_rfl)
  obtain ⟨d, ⟨-, -, hcnt, -⟩, -, -, -, hrd⟩ := foldl_at (R := Chip.SamePort p (0xA0 + 4 * i) (0xA0 + 4 * i + 4)) .refl .trans
    List.nodup_range (List.mem_range.mpr hi)
    (f := fun c i => c.wr (0x3400 + 0x100 * p + (0xA0 + 4 * i)) (c.latched p (0xA0 + 4 * i)))
    (fun d x _ hx => .wr d _ fun y _ _ => by omega) ((c.settlePause p).latchWide p)
  refine (hrd _ le_rfl (by omega)).trans ?_
  rw [Chip.rd_wr_same, Chip.latched, Chip.latched, hcnt _ (by omega), hwide _ (by omega)]

end

/-- The counters of every port copied into their registers. -/
def Chip.latchPorts (c : Chip) : Chip := (List.range 5).foldl Chip.latchPort c

/-- Copying writes no counter; only a pause that is settled adds to one. -/
theorem Chip.latchPort_cnt (c : Chip) (p : Nat) : (c.latchPort p).cnt = (c.settlePause p).cnt :=
  List.foldlRecOn _ _ (motive := fun d : Chip => d.cnt = (c.settlePause p).cnt)
    (List.foldlRecOn _ _ (motive := fun d : Chip => d.cnt = (c.settlePause p).cnt) rfl fun _ hd _ _ => hd) fun _ hd _ _ => hd

theorem Chip.cntOf_latchPorts (c : Chip) {p o : Nat} (ho : o < 0x100) (hne : o ≠ 0xCC) :
    c.latchPorts.cntOf p o = c.cntOf p o := by
  refine List.foldlRecOn _ _ (motive := fun d : Chip => d.cntOf p o = c.cntOf p o) rfl fun d hd q _ => ?_
  rw [← hd, ← d.cntOf_settlePause_ne q (q := p) (o := o) (by omega), Chip.cntOf, d.latchPort_cnt q]
  rfl

/-- Each port is latched from what it held before. -/
theorem Chip.exists_latchPort (c : Chip) {p : Nat} (hp : p < 5) :
    ∃ d, c.SamePort p 0 0x100 d ∧ (d.latchPort p).SamePort p 0 0x100 c.latchPorts :=
  foldl_at .refl .trans List.nodup_range (List.mem_range.mpr hp) (fun d q _ hq => d.samePort_latchPort q hq) c

section
variable (c : Chip) {p : Nat} (hp : p < 5)
include hp

theorem Chip.rd_latchPorts_wide {o : Nat} (ho : o ∈ wideCounters) :
    c.latchPorts.rd (0x3400 + 0x100 * p + o) = c.cntOf p o % 2 ^ 32 ∧
      c.latchPorts.rd (0x3400 + 0x100 * p + o + 4) = c.cntOf p o / 2 ^ 32 % 2 ^ 32 := by
  obtain ⟨hle, -⟩ := wideCounters_spaced ho
  obtain ⟨d, ⟨-, -, hcnt, -⟩, -, -, -, hrd⟩ := c.exists_latchPort hp
  obtain ⟨hlow, hhigh⟩ := d.rd_latchPort_wide p ho
  rw [hcnt o (by omega)] at hlow hhigh
  exact ⟨(hrd o (by omega) (by omega)).trans hlow, (hrd (o + 4) (by omega) (by omega)).trans hhigh⟩

theorem Chip.rd_latchPorts_narrow {i : Nat} (hi : i < 14) (hne : i ≠ 11) :
    c.latchPorts.rd (0x3400 + 0x100 * p + (0xA0 + 4 * i)) = c.cntOf p (0xA0 + 4 * i) % 2 ^ 32 := by
  obtain ⟨d, ⟨-, -, hcnt, -⟩, -, -, -, hrd⟩ := c.exists_latchPort hp
  rw [hrd _ (by omega) (by omega), d.rd_latchPort_narrow p hi, Chip.latched, if_neg (by omega),
    d.cntOf_settlePause_ne p (by omega), hcnt _ (by omega)]

/-- TX_PAUSED_US, of what the settled pause has counted. -/
theorem Chip.rd_latchPorts_paused : ∃ d, c.SamePort p 0 0x100 d ∧
    c.latchPorts.rd (0x3400 + 0x100 * p + 0xCC) = sat32 ((d.settlePause p).cntOf p 0xCC / 800) := by
  obtain ⟨d, hd, -, -, -, hrd⟩ := c.exists_latchPort hp
  refine ⟨d, hd, (hrd 0xCC (by omega) (by omega)).trans ?_⟩
  refine (d.rd_latchPort_narrow p (i := 11) (by omega)).trans ?_
  exact Nat.mod_eq_of_lt (sat32_lt _)

end

/-! ### The commands -/

section
variable {s : State} (v : Word)

theorem exec_tbSnap (h : s.chip.takesWrite Reg.TB_SNAP = true) :
    (v.getLsbD 0 = true → exec (.tbSnap v) s =
      .next (s.onto { s.chip with tbs := s.chip.tbs.map fun t => { t with snap := t.time } })) ∧
    (v.getLsbD 0 = false → exec (.tbSnap v) s = .next s) :=
  regCommand_trigger v (fun c => { c with tbs := c.tbs.map fun t => { t with snap := t.time } }) h

theorem exec_mtrHostSnap (h : s.chip.takesWrite Reg.MTR_HOST_SNAP = true) :
    (v.getLsbD 0 = true → exec (.mtrHostSnap v) s = .next (s.onto s.chip.hostSnap)) ∧
    (v.getLsbD 0 = false → exec (.mtrHostSnap v) s = .next s) :=
  regCommand_trigger v Chip.hostSnap h

theorem exec_txtsRelease {u : Nat} (hu : u < 5) (h : s.chip.takesWrite (Reg.TXTS_RELEASE u) = true) :
    (v.getLsbD 0 = true → exec (.txtsRelease u v) s =
      .next (s.onto (s.chip.setPort u { s.chip.port u with stamps := (s.chip.port u).stamps.drop 1 }))) ∧
    (v.getLsbD 0 = false → exec (.txtsRelease u v) s = .next s) := by
  show (_ → execTxtsRelease u v s = _) ∧ (_ → execTxtsRelease u v s = _)
  rw [execTxtsRelease, decide_eq_true hu, within_true]
  exact regCommand_trigger v (fun c => c.setPort u { c.port u with stamps := (c.port u).stamps.drop 1 }) h

theorem exec_netCntSnap (h : s.chip.takesWrite Reg.NET_CNT_SNAP = true) :
    (v.getLsbD 0 = true → exec (.netCntSnap v) s = .next (s.onto s.chip.latchPorts)) ∧
    (v.getLsbD 0 = false → exec (.netCntSnap v) s = .next s) :=
  regCommand_trigger v Chip.latchPorts h

/-- HB_EPOCH takes the enabled octets, clamped. -/
theorem exec_hbEpochWrite {be : Nat} (hpos : 0 < be) (hbe : be < 16) (h : s.chip.takesWrite Reg.HB_EPOCH = true) :
    exec (.hbEpochWrite v be) s = .next (s.onto
      (s.chip.wr Reg.HB_EPOCH (clampReg s.chip Reg.HB_EPOCH (mergeBytes (s.chip.rd Reg.HB_EPOCH) v.toNat be)))) := by
  obtain ⟨r, hr, ha⟩ : ∃ r, rowAt Reg.HB_EPOCH = some r ∧ r.access = .rw := ⟨_, rfl, rfl⟩
  show execHbEpochWrite v be s = _
  rw [execHbEpochWrite, decide_eq_true hbe, within_true, if_neg hpos.ne', regCommand_taken _ h,
    Chip.writeReg_of_rw_or_rwb _ _ _ _ hr (.inl ha)]

end

/-- Settles O10: each command by its gate; what the energy registers latch key by key, and the network counters port by port. -/
theorem snapshotsLatchTheirSources : Obligations.SnapshotsLatchTheirSources := by
  unfold Obligations.SnapshotsLatchTheirSources
  intro s v
  refine ⟨exec_tbSnap v, fun h => ?host, fun u hu h => exec_txtsRelease v hu h, fun h => ?net, rfl,
    fun be hpos hbe h => exec_hbEpochWrite v hpos hbe h⟩
  case host =>
    obtain ⟨hone, hzero⟩ := exec_mtrHostSnap v h
    exact ⟨fun hv => ⟨_, hone hv, rfl, s.chip.hostSnap_parts⟩, hzero⟩
  case net =>
    obtain ⟨hone, hzero⟩ := exec_netCntSnap v h
    refine ⟨fun hv => ⟨_, hone hv, rfl, fun p o hp ho => s.chip.rd_latchPorts_wide hp ho,
      fun p i hp hi hne => s.chip.rd_latchPorts_narrow hp hi hne, fun p o _ ho hne => s.chip.cntOf_latchPorts ho hne,
      fun p hp hnone => ?_, fun p hp hsome => ?_⟩, hzero⟩
    · obtain ⟨d, ⟨-, hport, hcnt, -⟩, hrd⟩ := s.chip.rd_latchPorts_paused hp
      rw [State.onto_chip, hrd, d.settlePause_of_none p (hport ▸ hnone), hcnt 0xCC (by omega)]
    · obtain ⟨d, ⟨hcycle, hport, hcnt, -⟩, hrd⟩ := s.chip.rd_latchPorts_paused hp
      rw [State.onto_chip, hrd, d.cntOf_settlePause_of_some p (hport ▸ hsome), hcnt 0xCC (by omega), hcycle, hport]

end Sys2Proof.Machine
end

section
/-! SUPPORT. Steps and measurements of the time bases (R57, R59, R60, R61): what they set, and what they leave alone. -/

namespace Sys2Proof.Machine

open Sys2Proof

/-! ### What a step of a time base leaves alone -/

/-- What the tasks, the generator and events leave of the time: the time bases, CSN_LIVE, the last edge of FPULSE_IN, and the
registers from those of the time bases up to those of the event routes. -/
def Chip.KeepsClocks (c d : Chip) : Prop :=
  d.tbs = c.tbs ∧ d.csn = c.csn ∧ d.pulses.edgeLast = c.pulses.edgeLast ∧
    ∀ off, 0x840 ≤ off → off < 0xE000 → d.rd off = c.rd off

namespace Chip.KeepsClocks
variable {c d e : Chip}

theorem refl (c : Chip) : c.KeepsClocks c := ⟨rfl, rfl, rfl, fun _ _ _ => rfl⟩

theorem trans (h : c.KeepsClocks d) (k : d.KeepsClocks e) : c.KeepsClocks e := by
  obtain ⟨h₁, h₂, h₃, h₄⟩ := h
  obtain ⟨k₁, k₂, k₃, k₄⟩ := k
  exact ⟨k₁.trans h₁, k₂.trans h₂, k₃.trans h₃, fun off ha hb => (k₄ off ha hb).trans (h₄ off ha hb)⟩

/-- What posts events keeps it. -/
theorem of_events (h : c.SameButEvents d) : c.KeepsClocks d :=
  ⟨h.tbs, h.csn, by rw [h.1], fun _ _ hb => h.rd_power hb⟩

/-- What leaves those fields as they are keeps it. -/
theorem of_fields (h₁ : d.tbs = c.tbs) (h₂ : d.csn = c.csn) (h₃ : d.pulses.edgeLast = c.pulses.edgeLast) (h₄ : d.regs = c.regs) :
    c.KeepsClocks d := ⟨h₁, h₂, h₃, fun off _ _ => by unfold Chip.rd; rw [h₄]⟩

end Chip.KeepsClocks

section
variable (c : Chip)

theorem Chip.keepsClocks_raise (src code : Nat) (items : List Byte) : c.KeepsClocks (c.raise src code items) :=
  .of_events (c.sameButEvents_raise src code items)

theorem Chip.keepsClocks_readyTask (k : Nat) (byTimeout : Bool) : c.KeepsClocks (c.readyTask k byTimeout) := by
  unfold Chip.readyTask
  extract_lets t
  split
  · exact .of_fields rfl rfl rfl rfl
  · exact .refl c

theorem Chip.keepsClocks_readyWhere (p : Task → Bool) : c.KeepsClocks (c.readyWhere p) :=
  List.foldlRecOn _ _ (motive := c.KeepsClocks) (.refl c) fun d hd k _ => by
    split
    · exact hd.trans (d.keepsClocks_readyTask k false)
    · exact hd

theorem Chip.keepsClocks_sealNow : c.KeepsClocks c.sealNow := by
  cases h : c.sealed with
  | true => simp [Chip.sealNow, h, Chip.KeepsClocks.refl]
  | false =>
    rw [Chip.sealNow_eq c h]
    exact .of_fields rfl rfl rfl rfl

theorem Chip.keepsClocks_leaveHold (cause : Nat) : c.KeepsClocks (c.leaveHold cause) :=
  .trans (d := { c with fg := { c.fg with mode := .running } }) (.of_fields rfl rfl rfl rfl)
    (.of_events (c.sameButEvents_leaveHold cause))

theorem Chip.keepsClocks_enterHold (size : Int) : c.KeepsClocks (c.enterHold size) := by
  unfold Chip.enterHold
  extract_lets was g c₁ c₂
  have h₂ : c.KeepsClocks c₂ := by
    unfold c₂
    split <;> exact .of_fields rfl rfl rfl rfl
  have hinc : c₂.KeepsClocks (c₂.inc Reg.FG_HOLD_CNT) :=
    ⟨rfl, rfl, rfl, fun off ha _ => c₂.rd_wr_ne _ _ _ (by unfold Reg.FG_HOLD_CNT; omega)⟩
  exact h₂.trans (hinc.trans (Chip.keepsClocks_raise _ _ _ _))

theorem Chip.keepsClocks_callImmediate (passed : Nat) : c.KeepsClocks (c.callImmediate passed) := by
  unfold Chip.callImmediate
  extract_lets c₁ wait c₂ at_
  have h₁ : c.KeepsClocks c₁ := by
    refine .trans ?_ (Chip.keepsClocks_sealNow _)
    split
    · exact c.keepsClocks_leaveHold 0
    · exact .refl c
  exact h₁.trans (.of_fields rfl rfl rfl rfl)

theorem Chip.keepsClocks_boundStepped (size : Int) (before : Nat) : c.KeepsClocks (c.boundStepped size before) := by
  unfold Chip.boundStepped
  extract_lets t g c₁
  have h₁ : c.KeepsClocks c₁ := by
    unfold c₁
    split
    · exact c.keepsClocks_leaveHold 0
    · exact .refl c
  split
  · exact .refl c
  split
  · extract_lets from_
    split
    · exact .of_fields rfl rfl rfl rfl
    · exact .refl c
  split
  · exact c.keepsClocks_enterHold size
  split
  · exact .refl c
  split
  · exact c.keepsClocks_callImmediate _
  split
  · exact h₁.trans c₁.keepsClocks_sealNow
  · exact h₁

end

/-! ### What a servo leaves alone -/

/-- What the servos leave as it was: CSN_LIVE, the last edge of FPULSE_IN, and the registers of LTC_IN, FPULSE_IN and FPULSE_OUT
but for the count of rejected edges. -/
def Chip.KeepsStamps (c d : Chip) : Prop :=
  d.csn = c.csn ∧ d.pulses.edgeLast = c.pulses.edgeLast ∧ ∀ off, 0xB40 ≤ off → off < 0xB7C → d.rd off = c.rd off

namespace Chip.KeepsStamps
variable {c d e : Chip}

theorem refl (c : Chip) : c.KeepsStamps c := ⟨rfl, rfl, fun _ _ _ => rfl⟩

theorem trans (h : c.KeepsStamps d) (k : d.KeepsStamps e) : c.KeepsStamps e := by
  obtain ⟨h₁, h₂, h₃⟩ := h
  obtain ⟨k₁, k₂, k₃⟩ := k
  exact ⟨k₁.trans h₁, k₂.trans h₂, fun off ha hb => (k₃ off ha hb).trans (h₃ off ha hb)⟩

/-- What keeps the clocks keeps it. -/
theorem of_clocks (h : c.KeepsClocks d) : c.KeepsStamps d := by
  obtain ⟨-, h₁, h₂, h₃⟩ := h
  exact ⟨h₁, h₂, fun off ha hb => h₃ off (by omega) (by omega)⟩

/-- What posts events keeps it. -/
theorem of_events (h : c.SameButEvents d) : c.KeepsStamps d := of_clocks (.of_events h)

/-- A register written outside the run. -/
theorem wr (c : Chip) {off : Nat} (v : Nat) (h : off < 0xB40 ∨ 0xB7C ≤ off) : c.KeepsStamps (c.wr off v) :=
  ⟨rfl, rfl, fun _ ha hb => c.rd_wr_ne _ _ _ (by omega)⟩

/-- A run of operations of which each keeps it. -/
theorem foldl {α : Type} {f : Chip → α → Chip} {l : List α} (hf : ∀ c, ∀ x ∈ l, Chip.KeepsStamps c (f c x)) (c : Chip) :
    c.KeepsStamps (l.foldl f c) :=
  List.foldlRecOn l f (motive := c.KeepsStamps) (refl c) fun d hd x hx => hd.trans (hf d x hx)

/-- What keeps it keeps it within a cycle. -/
theorem inCycle {f : Chip → Chip} (hf : ∀ c, Chip.KeepsStamps c (f c)) (c : Chip) : c.KeepsStamps (c.inCycle f) := by
  obtain ⟨l, hl⟩ := c.sameButEvents_inCycle f
  exact .trans (d := f { c with batch := some l }) (hf { c with batch := some l }) (of_events hl)

end Chip.KeepsStamps

/-! ### Steps (R57) -/

section
variable (c : Chip) (n : Nat) (units : Int)

/-- A time base moved by a signed offset, its readings so far noted. -/
def TimeBase.moved (t : TimeBase) (cycle : Nat) : TimeBase :=
  { t.noted cycle with time := ((t.time + units) % (timeSpan : Int)).toNat }

/-- A time base moved, the step counted and told. -/
def Chip.moveTb : Chip :=
  (((c.setTb n ((c.tb n).moved units c.cycle)).inc (Reg.TB_STEP_CNT n)).setEvt (Reg.TB_EVT n) 1).raise (16 + n) 0x0901
    (it4 n ++ itI8 (units / (nsUnits : Int)))

/-- The tasks and the generator served after a step of a time base, which read `before`. -/
def Chip.serveStep (before : Nat) : Chip :=
  let d := c.readyWhere fun w =>
    TaskRec.wait w.record == 1 && TaskRec.tb w.record == n && TaskRec.instant w.record ≤ (c.tb n).ns
  if d.fg.tb = n then d.boundStepped (units / (nsUnits : Int)) before else d

theorem Chip.stepTb_eq : c.stepTb n units = c.inCycle fun c => (c.moveTb n units).serveStep n units (c.tb n).ns := rfl

theorem Chip.keepsClocks_serveStep (before : Nat) : c.KeepsClocks (c.serveStep n units before) := by
  unfold Chip.serveStep
  extract_lets d
  have hd : c.KeepsClocks d := c.keepsClocks_readyWhere _
  split
  · exact hd.trans (d.keepsClocks_boundStepped _ _)
  · exact hd

theorem Chip.rd_inc_same (off : Nat) : (c.inc off).rd off = sat32 (c.rd off + 1) := by
  rw [Chip.inc, Chip.add, Chip.rd_wr_same, Nat.mod_eq_of_lt (sat32_lt _)]

variable {n} (hn : n < 4)
include hn

/-- The registers of a time base lie below those of LTC_IN and FPULSE_IN. -/
theorem Chip.keepsStamps_moveTb : c.KeepsStamps (c.moveTb n units) :=
  .trans (d := c.setTb n ((c.tb n).moved units c.cycle)) ⟨rfl, rfl, fun _ _ _ => rfl⟩
    (.trans (.wr _ _ (.inl (by unfold Reg.TB_STEP_CNT; omega))) (.trans (.wr _ _ (.inl (by unfold Reg.TB_EVT; omega)))
      (.of_events (Chip.sameButEvents_raise _ _ _ _))))

/-- What a step sets of its time base. -/
theorem Chip.moveTb_parts : (c.moveTb n units).tbs = c.tbs.set n ((c.tb n).moved units c.cycle) ∧
    (c.moveTb n units).rd (Reg.TB_STEP_CNT n) = sat32 (c.rd (Reg.TB_STEP_CNT n) + 1) := by
  obtain ⟨htbs, -, -, hrd⟩ := Chip.keepsClocks_raise
    (((c.setTb n ((c.tb n).moved units c.cycle)).inc (Reg.TB_STEP_CNT n)).setEvt (Reg.TB_EVT n) 1)
    (16 + n) 0x0901 (it4 n ++ itI8 (units / (nsUnits : Int)))
  refine ⟨htbs, (hrd _ (by unfold Reg.TB_STEP_CNT; omega) (by unfold Reg.TB_STEP_CNT; omega)).trans ?_⟩
  rw [Chip.rd_setEvt_ne _ _ _ _ (by unfold Reg.TB_STEP_CNT Reg.TB_EVT; omega), Chip.rd_inc_same]
  rfl

theorem Chip.stepTb_parts : (c.stepTb n units).tbs = c.tbs.set n ((c.tb n).moved units c.cycle) ∧
    (c.stepTb n units).rd (Reg.TB_STEP_CNT n) = sat32 (c.rd (Reg.TB_STEP_CNT n) + 1) := by
  obtain ⟨l, hl⟩ := c.sameButEvents_inCycle fun c => (c.moveTb n units).serveStep n units (c.tb n).ns
  obtain ⟨htbs, -, -, hrd⟩ := (Chip.keepsClocks_serveStep _ n units _).trans (.of_events hl)
  obtain ⟨htbs', hrd'⟩ := Chip.moveTb_parts { c with batch := some l } units hn
  exact ⟨htbs.trans htbs', (hrd _ (by unfold Reg.TB_STEP_CNT; omega) (by unfold Reg.TB_STEP_CNT; omega)).trans hrd'⟩

theorem Chip.keepsStamps_stepTb : c.KeepsStamps (c.stepTb n units) :=
  .inCycle (fun c => (c.keepsStamps_moveTb units hn).trans (.of_clocks (Chip.keepsClocks_serveStep _ n units _))) c

end

/-! ### Measurements (R59, R60) -/

section
variable (c : Chip) {n : Nat} (off : Int)

/-- A measurement taken by a time base, and the loss of its lock told. -/
def Chip.measured (c : Chip) (n : Nat) (off : Int) : Chip :=
  let d := c.setTb n ((c.tb n).measure off)
  if (c.tb n).mode = .locked && ((c.tb n).measure off).mode = .acquiring then
    (d.setEvt (Reg.TB_EVT n) 2).raise (16 + n) 0x0902 (it4 n ++ itI4 (clampI (-2147483648) 2147483647 off))
  else d

/-- A time base's rate set anew. -/
def Chip.slewed (c : Chip) (n : Nat) (t : TimeBase) : Chip :=
  (c.setTb n { t.noted c.cycle with rate := clampI (-512000000) 512000000 (sext 64 c.free) }).drew

/-- A time base corrected after a measurement: by a step beyond the threshold, and otherwise by its rate. -/
def Chip.corrected (c : Chip) (n : Nat) (off : Int) : Chip :=
  let d := c.measured n off
  if d.lv (Reg.TB_STEP_THR n) * 1000 < off.natAbs then d.stepTb n (off * (nsUnits : Int))
  else d.slewed n ((c.tb n).measure off)

theorem Chip.servo_eq (hh : c.update.handover = false) : c.servo n off = c.inCycle fun c => c.corrected n off := by
  unfold Chip.servo
  rw [if_neg (ne_true_of_eq_false hh)]
  rfl

/-- What a measurement sets and leaves: it is kept by its time base, and otherwise only TBn_EVT changes. -/
theorem Chip.measured_parts (n : Nat) : (c.measured n off).tbs = c.tbs.set n ((c.tb n).measure off) ∧
    (c.measured n off).csn = c.csn ∧ (c.measured n off).cycle = c.cycle ∧ (c.measured n off).fg = c.fg ∧
    (c.measured n off).live = c.live ∧ (c.measured n off).pulses = c.pulses ∧
    ∀ r, 0x840 ≤ r → r < 0xE000 → r ≠ Reg.TB_EVT n → (c.measured n off).rd r = c.rd r := by
  unfold Chip.measured
  extract_lets d
  split
  · have h := (d.setEvt (Reg.TB_EVT n) 2).sameButEvents_raise (16 + n) 0x0902
      (it4 n ++ itI4 (clampI (-2147483648) 2147483647 off))
    refine ⟨h.tbs, h.csn, by rw [h.1]; rfl, h.fg, by rw [h.1]; rfl, by rw [h.1]; rfl, fun r _ hr hne => ?_⟩
    exact (h.rd_power hr).trans (d.rd_setEvt_ne _ _ _ hne)
  · exact ⟨rfl, rfl, rfl, rfl, rfl, rfl, fun _ _ _ _ => rfl⟩

theorem Chip.keepsStamps_measured (hn : n < 4) : c.KeepsStamps (c.measured n off) := by
  obtain ⟨-, hcsn, -, -, -, hpulses, hrd⟩ := c.measured_parts off n
  exact ⟨hcsn, by rw [hpulses], fun r ha hb => hrd r (by omega) (by omega) (by unfold Reg.TB_EVT; omega)⟩

theorem Chip.lv_measured (r : Nat) : (c.measured n off).lv r = c.lv r := by
  obtain ⟨-, -, -, -, hlive, -, -⟩ := c.measured_parts off n
  unfold Chip.lv
  rw [hlive]

theorem Chip.keepsStamps_corrected (hn : n < 4) : c.KeepsStamps (c.corrected n off) := by
  unfold Chip.corrected
  extract_lets d
  have hd : c.KeepsStamps d := c.keepsStamps_measured off hn
  split
  · exact hd.trans (d.keepsStamps_stepTb _ hn)
  · exact hd.trans ⟨rfl, rfl, fun _ _ _ => rfl⟩

theorem Chip.keepsStamps_servo (hn : n < 4) : c.KeepsStamps (c.servo n off) := by
  cases hh : c.update.handover with
  | true =>
    rw [Chip.servo, if_pos hh]
    exact .refl c
  | false =>
    rw [c.servo_eq off hh]
    exact .inCycle (fun c => c.keepsStamps_corrected off hn) c

theorem clampI_bounds {lo hi : Int} (h : lo ≤ hi) (x : Int) : lo ≤ clampI lo hi x ∧ clampI lo hi x ≤ hi := by
  unfold clampI
  split
  · exact ⟨le_rfl, h⟩
  · split <;> omega

theorem TimeBase.measure_time (t : TimeBase) : (t.measure off).time = t.time := by
  unfold TimeBase.measure
  extract_lets near far t₁
  split <;> split <;> rfl

/-- A servo keeps its measurement, and then steps or slews. -/
theorem Chip.exists_measured (n : Nat) (hh : c.update.handover = false) : ∃ d : Chip,
    d.tbs = c.tbs.set n ((c.tb n).measure off) ∧ d.csn = c.csn ∧ d.cycle = c.cycle ∧ d.fg = c.fg ∧
    (∀ r, 0x840 ≤ r → r < 0xE000 → r ≠ Reg.TB_EVT n → d.rd r = c.rd r) ∧
    (if c.lv (Reg.TB_STEP_THR n) * 1000 < off.natAbs then d.stepTb n (off * (nsUnits : Int))
      else d.slewed n ((c.tb n).measure off)).SameButEvents (c.servo n off) := by
  rw [c.servo_eq off hh]
  obtain ⟨l, hl⟩ := c.sameButEvents_inCycle fun c => c.corrected n off
  obtain ⟨htbs, hcsn, hcycle, hfg, -, -, hrd⟩ := Chip.measured_parts { c with batch := some l } off n
  refine ⟨Chip.measured { c with batch := some l } n off, htbs, hcsn, hcycle, hfg, hrd, ?_⟩
  have hlv : Chip.lv (Chip.measured { c with batch := some l } n off) (Reg.TB_STEP_THR n) = c.lv (Reg.TB_STEP_THR n) :=
    Chip.lv_measured _ off _
  unfold Chip.corrected at hl
  dsimp only at hl
  rw [hlv] at hl
  exact hl

/-- Within the threshold a measurement sets a rate, and neither the time nor the generator changes. -/
theorem Chip.servo_of_near (n : Nat) (hh : c.update.handover = false) (h : off.natAbs ≤ c.lv (Reg.TB_STEP_THR n) * 1000) :
    ∃ r, -512000000 ≤ r ∧ r ≤ 512000000 ∧
      (c.servo n off).tbs = c.tbs.set n { ((c.tb n).measure off).noted c.cycle with rate := r } ∧
      (c.servo n off).csn = c.csn ∧ (c.servo n off).fg = c.fg := by
  obtain ⟨d, htbs, hcsn, hcycle, hfg, -, hl⟩ := c.exists_measured off n hh
  rw [if_neg (Nat.not_lt.mpr h)] at hl
  obtain ⟨hlo, hhi⟩ := clampI_bounds (lo := -512000000) (hi := 512000000) (by decide) (sext 64 d.free)
  refine ⟨_, hlo, hhi, hl.tbs.trans ?_, hl.csn.trans hcsn, hl.fg.trans hfg⟩
  show d.tbs.set n { ((c.tb n).measure off).noted d.cycle with rate := clampI (-512000000) 512000000 (sext 64 d.free) } = _
  rw [htbs, hcycle, List.set_set]

/-- A time base replaced twice, the second time from what the first gave it. -/
theorem tbs_set_set (l : List TimeBase) (n : Nat) (t : TimeBase) (f : TimeBase → TimeBase) :
    (l.set n t).set n (f ((l.set n t).getD n TimeBase.reset)) = l.set n (f t) := by
  rcases Nat.lt_or_ge n l.length with h | h
  · rw [List.set_set, List.getD_eq_getElem _ _ (by simpa using h), List.getElem_set_self]
  · rw [List.set_eq_of_length_le h, List.set_eq_of_length_le h, List.set_eq_of_length_le h]

/-- Beyond the threshold a measurement steps the time base by exactly itself. -/
theorem Chip.servo_of_far (hn : n < 4) (hh : c.update.handover = false) (h : c.lv (Reg.TB_STEP_THR n) * 1000 < off.natAbs) :
    (c.servo n off).tbs = c.tbs.set n (((c.tb n).measure off).moved (off * (nsUnits : Int)) c.cycle) ∧
      (c.servo n off).rd (Reg.TB_STEP_CNT n) = sat32 (c.rd (Reg.TB_STEP_CNT n) + 1) := by
  obtain ⟨d, htbs, -, hcycle, -, hrd, hl⟩ := c.exists_measured off n hh
  rw [if_pos h] at hl
  obtain ⟨hstep, hcnt⟩ := d.stepTb_parts (off * (nsUnits : Int)) hn
  have hkept := hrd (Reg.TB_STEP_CNT n) (by unfold Reg.TB_STEP_CNT; omega) (by unfold Reg.TB_STEP_CNT; omega)
    (by unfold Reg.TB_STEP_CNT Reg.TB_EVT; omega)
  rw [hkept] at hcnt
  refine ⟨hl.tbs.trans (hstep.trans ?_), (hl.rd_power (by unfold Reg.TB_STEP_CNT; omega)).trans hcnt⟩
  unfold Chip.tb
  rw [htbs, hcycle]
  exact tbs_set_set _ _ _ fun t => t.moved _ _

end

/-! ### A lost source (R60) -/

section
variable (c : Chip)

@[simp] theorem Chip.tb_setTb_same {n : Nat} (t : TimeBase) (h : n < c.tbs.length) : (c.setTb n t).tb n = t := by
  simp [Chip.tb, Chip.setTb, List.getD_eq_getElem?_getD, h]

theorem Chip.tb_setTb_ne {n m : Nat} (t : TimeBase) (h : m ≠ n) : (c.setTb n t).tb m = c.tb m := by
  simp [Chip.tb, Chip.setTb, List.getD_eq_getElem?_getD, List.getElem?_set_ne h.symm]

variable (n : Nat)

/-- Whether a time base has a source that it can lose. -/
def Chip.holdsSource : Prop :=
  ((c.tb n).mode = .acquiring ∨ (c.tb n).mode = .locked) ∧ 1 ≤ c.sourceTb n ∧ c.sourceTb n ≤ 3

/-- A time base put in HOLDOVER. -/
def TimeBase.heldOver (t : TimeBase) : TimeBase := { t with mode := .holdover, inBand := 0, outBand := 0 }

theorem Chip.loseTbSource_of_not (h : ¬ c.holdsSource n) : c.loseTbSource n = c := by
  unfold Chip.loseTbSource
  extract_lets t
  rw [if_neg (by simpa [Chip.holdsSource, t, and_assoc] using h)]

/-- A source lost puts its time base in HOLDOVER, sets its bit of TBn_EVT and raises its event. -/
theorem Chip.loseTbSource_of_holds (h : c.holdsSource n) :
    ((c.setTb n (c.tb n).heldOver).setEvt (Reg.TB_EVT n) 4).SameButEvents (c.loseTbSource n) := by
  unfold Chip.loseTbSource
  extract_lets t
  rw [if_pos (by simpa [Chip.holdsSource, t, and_assoc] using h)]
  exact Chip.sameButEvents_raise _ _ _ _

theorem Chip.keepsStamps_loseTbSource {n : Nat} (hn : n < 4) : c.KeepsStamps (c.loseTbSource n) := by
  by_cases h : c.holdsSource n
  · exact .trans (d := c.setTb n (c.tb n).heldOver) ⟨rfl, rfl, fun _ _ _ => rfl⟩
      (.trans (.wr _ _ (.inl (by unfold Reg.TB_EVT; omega))) (.of_events (c.loseTbSource_of_holds n h)))
  · rw [c.loseTbSource_of_not n h]
    exact .refl c

/-- A clock in HOLDOVER follows no master, and a full one becomes master (R61). -/
def Chip.dropMaster : Chip :=
  if c.sourceTb n == 1 && c.domainOn 1 && (c.tb n).mode == .holdover then
    c.setTb n { c.tb n with ptp := { (c.tb n).ptp with parent := none, master := !bit (c.lv (Reg.TB_CFG n)) 24 } }
  else c

theorem Chip.dropMaster_of_not (h : (c.sourceTb n == 1 && c.domainOn 1) = false ∨ (c.tb n).mode ≠ .holdover) :
    c.dropMaster n = c := by
  unfold Chip.dropMaster
  rw [if_neg (by rcases h with h | h <;> simp [h])]

theorem Chip.dropMaster_of_clock (hc : (c.sourceTb n == 1 && c.domainOn 1) = true) (hm : (c.tb n).mode = .holdover) :
    c.dropMaster n = c.setTb n { c.tb n with ptp := { (c.tb n).ptp with
      parent := none, master := !bit (c.lv (Reg.TB_CFG n)) 24 } } := by
  unfold Chip.dropMaster
  rw [if_pos (by simp [hc, hm])]

/-- Only the time bases change. -/
theorem Chip.dropMaster_eq : c.dropMaster n = { c with tbs := (c.dropMaster n).tbs } := by
  unfold Chip.dropMaster
  split <;> rfl

/-- A time base that is not free-running is one that the part holds. -/
theorem Chip.lt_length_of_mode (h : (c.tb n).mode ≠ .free) : n < c.tbs.length := by
  by_contra hge
  exact h (by rw [Chip.tb, List.getD_eq_default _ _ (Nat.not_lt.mp hge)]; rfl)

/-- A source lost, and then the clock's master. -/
theorem Chip.loseSource_tbs (h : c.holdsSource n) {ptp : PtpClock}
    (hptp : ptp = if c.sourceTb n == 1 && c.domainOn 1 then { (c.tb n).ptp with
      parent := none, master := !bit (c.lv (Reg.TB_CFG n)) 24 } else (c.tb n).ptp) :
    ((c.loseTbSource n).dropMaster n).tbs = c.tbs.set n { (c.tb n).heldOver with ptp := ptp } := by
  have hlost := c.loseTbSource_of_holds n h
  obtain ⟨d, hd⟩ : ∃ d, d = c.loseTbSource n := ⟨_, rfl⟩
  rw [← hd] at hlost ⊢
  have hlen : n < c.tbs.length := c.lt_length_of_mode n (by rcases h.1 with h | h <;> simp [h])
  have htbs : d.tbs = c.tbs.set n (c.tb n).heldOver := hlost.tbs
  have htb : d.tb n = (c.tb n).heldOver := by
    rw [← c.tb_setTb_same (c.tb n).heldOver hlen, Chip.tb, htbs]
    rfl
  have hlv : ∀ r, d.lv r = c.lv r := fun r => by rw [hlost.1]; rfl
  have hclock : (d.sourceTb n == 1 && d.domainOn 1) = (c.sourceTb n == 1 && c.domainOn 1) := by
    rw [Chip.sourceTb, hlv, Chip.domainOn, hlost.power]
    rfl
  cases hc : (c.sourceTb n == 1 && c.domainOn 1) with
  | true =>
    rw [d.dropMaster_of_clock n (hclock.trans hc) (by rw [htb]; rfl), htb, hlv, hptp, hc]
    show d.tbs.set n _ = _
    rw [htbs, List.set_set]
    rfl
  | false =>
    rw [d.dropMaster_of_not n (.inl (hclock.trans hc)), htbs, hptp, hc]
    rfl

end

/-! ### The commands -/

section
variable (s : State) {n : Nat} (hn : n < 4)
include hn

theorem exec_timeBaseStep_of_servoOn (off : Int) (h : s.chip.servoOn n = true) :
    exec (.timeBaseStep n off) s = .next (s.onto (s.chip.servo n off)) := by
  show execTimeBaseStep n off s = _
  simp only [execTimeBaseStep, hn, decide_true, within_true, onChip_eq, h, if_true]
  rfl

theorem exec_timeBaseStep_of_servoOff (off : Int) (h : s.chip.servoOn n = false) : exec (.timeBaseStep n off) s = .next s := by
  show execTimeBaseStep n off s = _
  simp only [execTimeBaseStep, hn, decide_true, within_true, onChip_eq, h, Bool.false_eq_true, if_false]

theorem exec_tbSourceLost_eq : exec (.tbSourceLost n) s =
    .next (s.onto ((s.chip.loseTbSource n).dropMaster n)) := by
  show execTbSourceLost n s = _
  rw [execTbSourceLost, decide_eq_true hn, within_true]
  rfl

end

/-- A servo that is on is in no handover. -/
theorem Chip.handover_of_servoOn {c : Chip} {n : Nat} (h : c.servoOn n = true) : c.update.handover = false := by
  simp only [Chip.servoOn, Bool.and_eq_true, Bool.not_eq_true'] at h
  exact h.2

/-- Settles O41: a measurement by the threshold, and a lost source by whether there is one to lose. -/
theorem servosStepOrSlewTheirTimeBase : Obligations.ServosStepOrSlewTheirTimeBase := by
  unfold Obligations.ServosStepOrSlewTheirTimeBase
  intro s n hn x hx
  subst hx
  refine ⟨fun off hon => ⟨fun hnear => ?near, fun hfar => ?far⟩, fun hoff off => exec_timeBaseStep_of_servoOff s hn off hoff,
    fun clock ptp hclock hptp => ?lost⟩
  case near =>
    obtain ⟨r, hlo, hhi, htbs, hcsn, hfg⟩ := s.chip.servo_of_near off n (Chip.handover_of_servoOn hon) hnear
    exact ⟨_, r, exec_timeBaseStep_of_servoOn s hn off hon, hlo, hhi, htbs, hcsn, hfg, rfl⟩
  case far =>
    obtain ⟨htbs, hcnt⟩ := s.chip.servo_of_far off hn (Chip.handover_of_servoOn hon) hfar
    obtain ⟨hcsn, -, -⟩ := s.chip.keepsStamps_servo off hn
    rw [TimeBase.moved, TimeBase.measure_time] at htbs
    exact ⟨_, exec_timeBaseStep_of_servoOn s hn off hon, htbs, hcnt, hcsn, rfl⟩
  case lost =>
    subst hclock
    refine ⟨fun hmode hlo hhi => ⟨_, exec_tbSourceLost_eq s hn, rfl, ?_⟩, fun hc hm => ?_, fun hkept hc => ?_⟩
    · have hholds : s.chip.holdsSource n := ⟨hmode, hlo, hhi⟩
      have hlost := s.chip.loseTbSource_of_holds n hholds
      have htbs := s.chip.loseSource_tbs n hholds hptp
      rw [State.onto_chip, Chip.dropMaster_eq]
      refine ⟨?_, hlost.csn, by rw [hlost.1]; rfl, htbs⟩
      show bit ((s.chip.loseTbSource n).rd _) 2 = true
      rw [hlost.rd_power (by unfold Reg.TB_EVT; omega)]
      exact Chip.bit_rd_setEvt _ _ 4 2 (by decide) (by decide)
    · have hnot : ¬ s.chip.holdsSource n := fun h => by simp [Chip.holdsSource, hm] at h
      rw [exec_tbSourceLost_eq s hn, s.chip.loseTbSource_of_not n hnot, s.chip.dropMaster_of_clock n hc hm, hptp, hc]
      rfl
    · have hnot : ¬ s.chip.holdsSource n := fun ⟨hmode, hlo, hhi⟩ => by
        rcases hkept with ⟨h₁, h₂⟩ | h | h
        · exact hmode.elim h₁ h₂
        all_goals omega
      rw [exec_tbSourceLost_eq s hn, s.chip.loseTbSource_of_not n hnot, s.chip.dropMaster_of_not n hc, State.onto_self]

end Sys2Proof.Machine
end

section
/-! SUPPORT. The ordinary clocks (R61, R80, R199, R310): what a message leaves of them, and what they send. -/

namespace Sys2Proof.Machine

open Sys2Proof

/-! ### Messages received -/

/-- The better of the master followed and the one announced, where there is one. -/
theorem PtpClock.hear_eq (k : PtpClock) (slaveOnly : Bool) (d best : PtpData) (hnone : k.parent = none → best = d)
    (hsome : ∀ b, k.parent = some b → best = if b.grandmaster = d.grandmaster || ptpBetter d b then d else b) :
    k.hear slaveOnly d = { k with parent := some best, master := !slaveOnly && ptpBetter k.own best } := by
  unfold PtpClock.hear
  cases h : k.parent with
  | none => rw [hnone h]
  | some b => rw [hsome b h]

/-- A change of the ST 2059-2 TLV is told, and nothing else. -/
theorem Chip.ptpMetadata_parts (c : Chip) (n : Nat) (tlv : List Byte) :
    (c.ptpMetadata n tlv).tbs = c.tbs ∧ (c.ptpMetadata n tlv).csn = c.csn := by
  obtain ⟨l, hl⟩ := c.sameButEvents_inCycle fun c => [0, 1].foldl (fun c part =>
    c.raise (16 + n) 0x0904 (it4 (n + part * 256) ++ padTo 24 (tlv.drop (24 * part)))) c
  have hk := (Chip.sameButEvents_raise { c with batch := some l } (16 + n) 0x0904 _).trans
    ((Chip.sameButEvents_raise _ (16 + n) 0x0904 _).trans hl)
  exact ⟨hk.tbs, hk.csn⟩

section
variable (s : State) {n : Nat} (hn : n < 4)
include hn

theorem exec_ptpMessageReceive_of_heard (m : PtpMsg) (hr : s.chip.ptpRuns n = true)
    (hu : s.chip.portUp (s.chip.ptpPort n) = true) :
    exec (.ptpMessageReceive n m) s = .next (s.onto (s.chip.ptpHear n m)) := by
  show execPtpMessageReceive n m s = _
  simp only [execPtpMessageReceive, hn, decide_true, within_true, onChip_eq, hr, hu, Bool.and_self, if_true]
  rfl

theorem exec_ptpMessageReceive_of_unheard (m : PtpMsg)
    (h : s.chip.ptpRuns n = false ∨ s.chip.portUp (s.chip.ptpPort n) = false) :
    exec (.ptpMessageReceive n m) s = .next s := by
  have hb : (s.chip.ptpRuns n && s.chip.portUp (s.chip.ptpPort n)) = false := Bool.and_eq_false_iff.mpr h
  show execPtpMessageReceive n m s = _
  simp only [execPtpMessageReceive, hn, decide_true, within_true, onChip_eq, hb, Bool.false_eq_true, if_false]

theorem exec_ptpMessageSend_of_due (k : PtpSend) (h : s.chip.ptpSends n k = true) :
    exec (.ptpMessageSend n k) s = .next (s.onto (s.chip.sendScheduled n k)) := by
  show execPtpMessageSend n k s = _
  simp only [execPtpMessageSend, hn, decide_true, within_true, onChip_eq, h, if_true]
  rfl

theorem exec_ptpMessageSend_of_not (k : PtpSend) (h : s.chip.ptpSends n k = false) :
    exec (.ptpMessageSend n k) s = .next s := by
  show execPtpMessageSend n k s = _
  simp only [execPtpMessageSend, hn, decide_true, within_true, onChip_eq, h, Bool.false_eq_true, if_false]

end

/-! ### Messages sent -/

section
variable (c : Chip)

/-- No delay response falls due. -/
theorem Chip.ptpSends_delayResp (n : Nat) : c.ptpSends n .delayResp = false := by simp [Chip.ptpSends]

/-- With no crossing known of, no frame would meet one. -/
theorem Chip.meetsCrossing_of_none (p len : Nat) (h : c.nextCross = none) : c.meetsCrossing p len = false := by
  simp [Chip.meetsCrossing, h]

theorem sooner_some_ne_none (a : Option Nat) (b : Nat) : sooner a (some b) ≠ none := by cases a <;> simp [sooner]

/-- Whether a crossing is known of rests on the generator alone. -/
theorem Chip.nextCross_eq_none_congr {c d : Chip} (hfg : d.fg = c.fg) (h : c.nextCross = none) : d.nextCross = none := by
  unfold Chip.nextCross at h ⊢
  rw [hfg]
  split at h
  · exact absurd h (sooner_some_ne_none _ _)
  · next hi => rw [if_neg hi]; exact h

/-- A frame for a port that is up and that nothing holds is sent at once. -/
theorem Chip.sendBehind_of_free {p : Nat} (len : Nat) (o : Out) (hu : c.portUp p = true) (hp : c.paused p = false)
    (hb : (c.port p).backlog = []) (hx : c.nextCross = none) :
    c.sendBehind p len o = (c.setPort p { c.port p with backlog := [] }).sendOut p len o := by
  obtain ⟨d, hd⟩ : ∃ d, d = c.setPort p { c.port p with backlog := [] } := ⟨_, rfl⟩
  have hport : d.port p = { c.port p with backlog := [] } := by rw [hd, Chip.port_setPort_same]
  have hup : d.portUp p = true := by
    rw [← hu, Chip.portUp, Chip.portUp, hport, hd]
    rfl
  have hpaused : d.paused p = false := by rw [← hp, Chip.paused, Chip.paused, hport]
  have hmeets : d.meetsCrossing p len = false :=
    d.meetsCrossing_of_none p len (Chip.nextCross_eq_none_congr (by rw [hd]; rfl) hx)
  rw [Chip.sendBehind, Chip.releaseGap, hb, List.foldl_nil, ← hd, Chip.sendGap]
  simp [hup, hpaused, hmeets, hport]

/-- The departure of a delay request is noted beside the schedule. -/
theorem Chip.sched_notePtp (p wait m : Nat) (o : Out) : ((c.notePtp p wait o).tb m).ptp.sched = (c.tb m).ptp.sched := by
  unfold Chip.notePtp
  split
  · next n q u =>
    extract_lets t
    by_cases hm : m = n
    · subst hm
      rcases Nat.lt_or_ge m c.tbs.length with h | h
      · rw [c.tb_setTb_same _ h]
      · rw [Chip.setTb, List.set_eq_of_length_le h]
    · rw [c.tb_setTb_ne _ hm]
  · rfl

theorem Chip.out_notePtp (p wait : Nat) (o : Out) : (c.notePtp p wait o).out = c.out := by
  unfold Chip.notePtp
  split <;> rfl

/-- What is sent leaves the part, and no schedule changes. -/
theorem Chip.sendOut_parts (p len m : Nat) (o : Out) :
    (c.sendOut p len o).out = o :: c.out ∧ ((c.sendOut p len o).tb m).ptp.sched = (c.tb m).ptp.sched :=
  ⟨congrArg (o :: ·) (c.out_notePtp p _ o), c.sched_notePtp p _ m o⟩

/-- The clock as a message that leaves numbers it. -/
def PtpClock.numbered (t : PtpClock) : PtpSend → PtpClock
  | .followUp => t
  | .delayResp => t
  | .sync => { t with seq := t.seqFor .sync, syncSeq := t.seqFor .sync }
  | k => { t with seq := t.seqFor k }

theorem PtpClock.numbered_sched (t : PtpClock) (k : PtpSend) : (t.numbered k).sched = t.sched := by cases k <;> rfl

/-- A message of a clock whose port is free leaves it, and the schedule stays. -/
theorem Chip.sendPtp_of_free {n : Nat} (k : PtpSend) (hlen : n < c.tbs.length) (hu : c.portUp (c.ptpPort n) = true)
    (hp : c.paused (c.ptpPort n) = false) (hb : (c.port (c.ptpPort n)).backlog = []) (hx : c.nextCross = none) :
    (c.sendPtp n k).out = .ptp n k ((c.tb n).ptp.seqFor k) (k == .delayReq && bit (c.lv (Reg.TB_CFG n)) 25) :: c.out ∧
      ((c.sendPtp n k).tb n).ptp.sched = (c.tb n).ptp.sched := by
  obtain ⟨d, hd⟩ : ∃ d, d = c.setTb n { c.tb n with ptp := (c.tb n).ptp.numbered k } := ⟨_, rfl⟩
  have hsend : c.sendPtp n k = d.sendBehind (c.ptpPort n) (c.ptpLen n k)
      (.ptp n k ((c.tb n).ptp.seqFor k) (k == .delayReq && bit (c.lv (Reg.TB_CFG n)) 25)) := by
    unfold Chip.sendPtp
    rw [if_pos hu, hd]
    cases k <;> rfl
  rw [hsend, d.sendBehind_of_free _ _ (by rw [hd]; exact hu) (by rw [hd]; exact hp) (by rw [hd]; exact hb)
    (Chip.nextCross_eq_none_congr (by rw [hd]; rfl) hx)]
  obtain ⟨hout, hsched⟩ := (d.setPort (c.ptpPort n) { d.port (c.ptpPort n) with backlog := [] }).sendOut_parts (c.ptpPort n)
    (c.ptpLen n k) n (.ptp n k ((c.tb n).ptp.seqFor k) (k == .delayReq && bit (c.lv (Reg.TB_CFG n)) 25))
  refine ⟨hout.trans (by rw [hd]; rfl), hsched.trans ?_⟩
  show (d.tb n).ptp.sched = _
  rw [hd, c.tb_setTb_same _ hlen, PtpClock.numbered_sched]

/-- A time base whose clock has the next message of a kind due an interval from a cycle. -/
def TimeBase.scheduled (t : TimeBase) (k : PtpSend) (cycle : Nat) : TimeBase :=
  { t with ptp := { t.ptp with sched := (t.ptp.sched.filter fun e => e.1 != k) ++
    [(k, cycle + ptpCycles (t.ptp.interval k))] } }

/-- A message that no cycle was noted for is sent now. -/
theorem Chip.sendScheduled_of_none {n : Nat} {k : PtpSend} (h : (c.tb n).ptp.sched.find? (fun e => e.1 == k) = none) :
    c.sendScheduled n k = (c.setTb n ((c.tb n).scheduled k c.cycle)).sendPtp n k := by
  rw [Chip.sendScheduled, h]
  rfl

/-- A message that falls due is numbered after the one before; a follow-up carries its synchronisation's number. -/
theorem Chip.seqFor_of_ptpSends {n : Nat} {k : PtpSend} (p : PtpClock) (h : c.ptpSends n k = true) :
    (k ≠ .followUp → p.seqFor k = (p.seq + 1) % 65536) ∧ (k = .followUp → p.seqFor k = p.syncSeq) := by
  refine ⟨fun hne => ?_, fun heq => by rw [heq]; rfl⟩
  cases k with
  | followUp => exact absurd rfl hne
  | delayResp => exact absurd h (by simp [Chip.ptpSends_delayResp])
  | _ => rfl

end

/-- Settles O42: what is heard message by message, and what is sent by the clock it leaves from. -/
theorem ordinaryClocksFollowTheirMessages : Obligations.OrdinaryClocksFollowTheirMessages := by
  unfold Obligations.OrdinaryClocksFollowTheirMessages
  intro s n x port hn hx hport
  subst hx hport
  refine ⟨fun hr hu => ?heard, exec_ptpMessageReceive_of_unheard s hn, exec_ptpMessageSend_of_due s hn,
    fun k hk hlen hu hp hb hf hc => ?sent, exec_ptpMessageSend_of_not s hn⟩
  case heard =>
    have hear := fun m => exec_ptpMessageReceive_of_heard s hn m hr hu
    refine ⟨fun d best hnone hsome => ?_, fun d => hear _, fun off hm => ?_, fun off hm => ?_, fun hm => ?_, fun hm => ?_,
      hear _, fun tlv hp hne => ?_, fun tlv h => ?_⟩
    · rw [hear, ← PtpClock.hear_eq _ _ _ _ hnone hsome]
      rfl
    · rw [hear, Chip.ptpHear, if_neg (ne_true_of_eq_false hm)]
    · rw [hear, Chip.ptpHear, if_pos hm, State.onto_self]
    · rw [hear, Chip.ptpHear, if_pos hm]
    · rw [hear, Chip.ptpHear, if_neg (ne_true_of_eq_false hm), State.onto_self]
    · have hkeep : (decide (bits (s.chip.lv (Reg.TB_CFG n)) 4 2 ≠ 1) || (s.chip.tb n).ptp.tlv == tlv) = false := by
        simp [hp, hne]
      refine ⟨_, hear _, rfl, ?_⟩
      rw [State.onto_chip, Chip.ptpHear, if_neg (ne_true_of_eq_false hkeep)]
      obtain ⟨htbs, hcsn⟩ := Chip.ptpMetadata_parts
        (s.chip.setTb n { s.chip.tb n with ptp := { (s.chip.tb n).ptp with tlv := tlv } }) n tlv
      exact ⟨hcsn, htbs⟩
    · have hkeep : (decide (bits (s.chip.lv (Reg.TB_CFG n)) 4 2 ≠ 1) || (s.chip.tb n).ptp.tlv == tlv) = true := by
        simpa using h
      rw [hear, Chip.ptpHear, if_pos hkeep, State.onto_self]
  case sent =>
    obtain ⟨d, hd⟩ : ∃ d, d = s.chip.setTb n ((s.chip.tb n).scheduled k s.chip.cycle) := ⟨_, rfl⟩
    have htb : d.tb n = (s.chip.tb n).scheduled k s.chip.cycle := by rw [hd, Chip.tb_setTb_same _ _ hlen]
    obtain ⟨hout, hsched⟩ := d.sendPtp_of_free k (by rw [hd]; simpa [Chip.setTb] using hlen) (by rw [hd]; exact hu)
      (by rw [hd]; exact hp) (by rw [hd]; exact hb) (Chip.nextCross_eq_none_congr (by rw [hd]; rfl) hc)
    obtain ⟨hnext, hfollow⟩ := s.chip.seqFor_of_ptpSends (s.chip.tb n).ptp hk
    refine ⟨_, (s.chip.tb n).ptp.seqFor k, exec_ptpMessageSend_of_due s hn k hk, rfl, ?_, hnext, hfollow, ?_⟩
    · rw [State.onto_chip, s.chip.sendScheduled_of_none hf, ← hd, hout, htb, hd]
      cases k <;> rfl
    · rw [State.onto_chip, s.chip.sendScheduled_of_none hf, ← hd, hsched, htb]
      simp [TimeBase.scheduled]

end Sys2Proof.Machine
end

section
/-! SUPPORT. LTC_IN (R73, R74), FPULSE_IN (R75) and FPULSE_OUT (R76, R77). -/

namespace Sys2Proof.Machine

open Sys2Proof

/-! ### What the discipline sources leave alone -/

section
variable (c : Chip) {n : Nat}

/-- Where a function keeps the stamps for each time base, a source that it serves does. -/
theorem Chip.keepsStamps_eachSource (source : Nat) {f : Chip → Nat → Chip}
    (hf : ∀ c n, n < 4 → Chip.KeepsStamps c (f c n)) : c.KeepsStamps (c.eachSource source f) :=
  .foldl (fun d n hn => hf d n (List.mem_range.mp (List.mem_filter.mp hn).1)) c

theorem Chip.keepsStamps_sourceBack (n : Nat) : c.KeepsStamps (c.sourceBack n) := by
  unfold Chip.sourceBack
  split
  · exact ⟨rfl, rfl, fun _ _ _ => rfl⟩
  · exact .refl c

theorem Chip.keepsStamps_loseLtc (cause : Nat) (wasGood : Bool) : c.KeepsStamps (c.loseLtc cause wasGood) := by
  unfold Chip.loseLtc
  split
  · exact (c.keepsStamps_eachSource 2 fun d n hn => d.keepsStamps_loseTbSource hn).trans
      (.of_events (Chip.sameButEvents_raise _ _ _ _))
  · exact .refl c

theorem Chip.keepsStamps_ltcServo (tc bit0 : Nat) (hn : n < 4) : c.KeepsStamps (c.ltcServo tc bit0 n) := by
  unfold Chip.ltcServo
  extract_lets t0 r
  split
  · exact .refl c
  split
  · obtain ⟨hcsn, -, hrd⟩ := c.keepsStamps_sourceBack n
    exact ⟨hcsn, rfl, hrd⟩
  · exact c.keepsStamps_servo _ hn

theorem Chip.keepsStamps_edgeServo (hn : n < 4) : c.KeepsStamps (c.edgeServo n) := by
  unfold Chip.edgeServo
  extract_lets t p r
  split
  · exact .refl c
  split
  · obtain ⟨hcsn, -, hrd⟩ := c.keepsStamps_sourceBack n
    exact ⟨hcsn, rfl, hrd⟩
  · next a _ =>
    extract_lets k off
    split
    · exact .trans (.wr c _ (.inr (by decide))) ⟨rfl, rfl, fun _ _ _ => rfl⟩
    · exact .trans (d := { c with pulses := { c.pulses with rejects := 0, reacquire := false } })
        ⟨rfl, rfl, fun _ _ _ => rfl⟩ (Chip.keepsStamps_servo _ _ hn)

end

/-! ### LTC_IN (R73, R74) -/

section
variable (c : Chip)

/-- The registers are read from what holds them alone. -/
theorem Chip.rd_congr {c d : Chip} {off : Nat} (h : d.regs = c.regs) : d.rd off = c.rd off := by
  unfold Chip.rd
  rw [h]

/-- The live registers are read from what holds them alone. -/
theorem Chip.lv_congr {c d : Chip} {off : Nat} (h : d.live = c.live) : d.lv off = c.lv off := by
  unfold Chip.lv
  rw [h]

theorem Chip.rd_lt (off : Nat) : c.rd off < 2 ^ 32 := BitVec.isLt _

/-- The registers of a decoded frame. -/
theorem Chip.ltcUpdate_parts (tc ub bit0 : Nat) (rev drop colour : Bool) (htc : tc < 2 ^ 32) (hub : ub < 2 ^ 32) :
    (c.ltcUpdate tc ub rev drop colour bit0).rd Reg.LTC_TC = tc ∧
    (c.ltcUpdate tc ub rev drop colour bit0).rd Reg.LTC_UBITS = ub ∧
    (c.ltcUpdate tc ub rev drop colour bit0).rd Reg.LTC_STATUS = 1 + 2 * rev.toNat + 4 * drop.toNat + 8 * colour.toNat +
      (bits (c.rd Reg.LTC_STATUS) 16 16 + 1) % 65536 * 65536 ∧
    (c.ltcUpdate tc ub rev drop colour bit0).csn = c.csn := by
  have hrev := rev.toNat_le
  have hdrop := drop.toNat_le
  have hcolour := colour.toNat_le
  unfold Chip.ltcUpdate
  extract_lets t sec c₁ c₂ k c₃ p
  have hk : k = (bits (c.rd Reg.LTC_STATUS) 16 16 + 1) % 65536 := by
    unfold k c₂ c₁
    simp (disch := decide) only [Chip.rd_wr_ne]
  refine ⟨?_, ?_, ?_, ?_⟩
  · refine Eq.trans (b := c₃.rd Reg.LTC_TC) (Chip.rd_congr (by rfl)) ?_
    unfold c₃ c₂ c₁
    simp (disch := decide) only [Chip.rd_wr_ne, Chip.rd_wr_same, Nat.mod_eq_of_lt htc]
  · refine Eq.trans (b := c₃.rd Reg.LTC_UBITS) (Chip.rd_congr (by rfl)) ?_
    unfold c₃ c₂ c₁
    simp (disch := decide) only [Chip.rd_wr_ne, Chip.rd_wr_same, Nat.mod_eq_of_lt hub]
  · refine Eq.trans (b := c₃.rd Reg.LTC_STATUS) (Chip.rd_congr (by rfl)) ?_
    unfold c₃
    rw [Chip.rd_wr_same, ← hk, Nat.mod_eq_of_lt (by omega)]
  · refine Eq.trans (b := c₃.csn) (by with_reducible rfl) ?_
    unfold c₃ c₂ c₁
    simp only [Chip.wr_csn]

/-- What a decoded frame leads to after its registers: a loss in reverse play, and otherwise the tasks and the servos. -/
def Chip.ltcServed (before tc bit0 : Nat) (rev : Bool) : Chip :=
  if rev then c.loseLtc 0 (!bit before 1) else (c.ltcTasks tc).eachSource 2 fun c n => c.ltcServo tc bit0 n

theorem Chip.keepsStamps_ltcServed (before tc bit0 : Nat) (rev : Bool) : c.KeepsStamps (c.ltcServed before tc bit0 rev) := by
  unfold Chip.ltcServed
  split
  · exact c.keepsStamps_loseLtc _ _
  · exact .trans (.of_clocks (c.keepsClocks_readyWhere _))
      (Chip.keepsStamps_eachSource _ 2 fun d n hn => d.keepsStamps_ltcServo tc bit0 hn)

theorem setBit_false_le (x i : Nat) : setBit x i false ≤ x := by
  simp [setBit, setBits]

/-- No frame for two frame periods: VALID clears, and LTC_IN is lost. -/
def Chip.ltcSilent : Chip :=
  ((c.runToCycle (c.pulses.ltcLast + 2 * 800000000 * (ltcRate c.ltcRateOf).2.2 / (ltcRate c.ltcRateOf).2.1)).wr
    Reg.LTC_STATUS (setBit (c.rd Reg.LTC_STATUS) 0 false)).loseLtc 1 (bit (c.rd Reg.LTC_STATUS) 0)

theorem Chip.rd_ltcSilent : c.ltcSilent.rd Reg.LTC_STATUS = setBit (c.rd Reg.LTC_STATUS) 0 false := by
  unfold Chip.ltcSilent
  obtain ⟨-, -, hrd⟩ := Chip.keepsStamps_loseLtc ((c.runToCycle (c.pulses.ltcLast +
    2 * 800000000 * (ltcRate c.ltcRateOf).2.2 / (ltcRate c.ltcRateOf).2.1)).wr Reg.LTC_STATUS
      (setBit (c.rd Reg.LTC_STATUS) 0 false)) 1 (bit (c.rd Reg.LTC_STATUS) 0)
  rw [hrd _ (by decide) (by decide), Chip.rd_wr_same, Nat.mod_eq_of_lt ((setBit_false_le _ _).trans_lt (c.rd_lt _))]

end

section
variable (s : State)

/-- A decoded frame: its registers, and what they lead to, in one cycle. -/
theorem exec_ltcFrame_of_on (tc ub ago : Nat) (rev drop colour : Bool) (h : s.chip.ltcOn = true) :
    exec (.ltcFrame tc ub rev drop colour ago) s = .next (s.onto (s.chip.inCycle fun c =>
      (c.ltcUpdate tc ub rev drop colour ago).ltcServed (c.rd Reg.LTC_STATUS) tc ago rev)) := by
  show execLtcFrame tc ub rev drop colour ago s = _
  simp only [execLtcFrame, onChip_eq, h, Bool.not_true, Bool.false_eq_true, if_false]
  rfl

theorem exec_ltcFrame_of_off (tc ub ago : Nat) (rev drop colour : Bool) (h : s.chip.ltcOn = false) :
    exec (.ltcFrame tc ub rev drop colour ago) s = .next s := by
  show execLtcFrame tc ub rev drop colour ago s = _
  simp only [execLtcFrame, onChip_eq, h, Bool.not_false, if_true]

theorem exec_ltcLost_of_off (b : Bool) (h : s.chip.ltcOn = false) : exec (.ltcLost b) s = .next s := by
  show execLtcLost b s = _
  simp only [execLtcLost, onChip_eq, h, Bool.not_false, if_true]

/-- Reverse play: REVERSE is set as play turns. -/
theorem exec_ltcLost_reverse (h : s.chip.ltcOn = true) :
    exec (.ltcLost false) s = .next (s.onto ((if bit (s.chip.rd Reg.LTC_STATUS) 0
      then s.chip.wr Reg.LTC_STATUS (setBit (s.chip.rd Reg.LTC_STATUS) 1 true) else s.chip).loseLtc 0
      (bit (s.chip.rd Reg.LTC_STATUS) 0 && !bit (s.chip.rd Reg.LTC_STATUS) 1))) := by
  show execLtcLost false s = _
  simp only [execLtcLost, onChip_eq, h, Bool.not_true, Bool.not_false, Bool.false_eq_true, if_false, if_true]
  rfl

theorem exec_ltcLost_noFrame (h : s.chip.ltcOn = true) : exec (.ltcLost true) s = .next (s.onto s.chip.ltcSilent) := by
  show execLtcLost true s = _
  simp only [execLtcLost, onChip_eq, h, Bool.not_true, Bool.false_eq_true, if_false]
  rfl

end

/-! ### FPULSE_IN (R75) -/

section
variable (s : State)

/-- The registers of an active edge's stamp. -/
def Chip.stampEdge (c : Chip) (ns : Nat) : Chip :=
  ((c.wr Reg.FPIN_LAST_NS (ns % 1000000000)).wr Reg.FPIN_LAST_SEC_LO (ns / 1000000000 % 2 ^ 32)).wr Reg.FPIN_LAST_SEC_HI
    (ns / 1000000000 / 2 ^ 32)

/-- An active edge stamped, and its cycle noted. -/
def Chip.edgeStamped (c : Chip) (ns : Nat) : Chip :=
  { c.stampEdge ns with pulses := { c.pulses with edgeLast := some c.cycle } }

theorem Chip.edgeStamped_parts (c : Chip) (ns : Nat) : (c.edgeStamped ns).rd Reg.FPIN_LAST_NS = ns % 1000000000 ∧
    (c.edgeStamped ns).rd Reg.FPIN_LAST_SEC_LO = ns / 1000000000 % 2 ^ 32 ∧
    (c.edgeStamped ns).pulses.edgeLast = some c.cycle := by
  have hrd : ∀ off, (c.edgeStamped ns).rd off = (c.stampEdge ns).rd off := fun off => Chip.rd_congr (by rfl)
  rw [hrd, hrd, Chip.stampEdge]
  refine ⟨?_, ?_, rfl⟩
  · simp (disch := decide) only [Chip.rd_wr_ne, Chip.rd_wr_same]
    omega
  · simp (disch := decide) only [Chip.rd_wr_ne, Chip.rd_wr_same, Nat.mod_mod]

theorem exec_fpulseInEdge_of_active {rising : Bool} (hon : bit (s.chip.lv Reg.FPIN_CFG) 0 = true)
    (hpol : bit (s.chip.lv Reg.FPIN_CFG) 1 ≠ rising) : exec (.fpulseInEdge rising) s =
      .next (s.onto ((s.chip.edgeStamped (s.chip.tb (bits (s.chip.lv Reg.FPIN_CFG) 2 2)).ns).eachSource 3 Chip.edgeServo)) := by
  have hb : (!bit (s.chip.lv Reg.FPIN_CFG) 0 || bit (s.chip.lv Reg.FPIN_CFG) 1 == rising) = false := by simp [hon, hpol]
  show execFpulseInEdge rising s = _
  simp only [execFpulseInEdge, onChip_eq, hb, Bool.false_eq_true, if_false]
  rfl

theorem exec_fpulseInEdge_of_not {rising : Bool}
    (h : bit (s.chip.lv Reg.FPIN_CFG) 0 = false ∨ bit (s.chip.lv Reg.FPIN_CFG) 1 = rising) :
    exec (.fpulseInEdge rising) s = .next s := by
  have hb : (!bit (s.chip.lv Reg.FPIN_CFG) 0 || bit (s.chip.lv Reg.FPIN_CFG) 1 == rising) = true := by simpa using h
  show execFpulseInEdge rising s = _
  simp only [execFpulseInEdge, onChip_eq, hb, if_true]

end

/-- The mode of a time base and the live registers stay. -/
def Chip.KeepsMode (n : Nat) (c d : Chip) : Prop := (d.tb n).mode = (c.tb n).mode ∧ d.live = c.live

/-- The loss of another time base's source. -/
theorem Chip.keepsMode_loseTbSource (c : Chip) {n m : Nat} (h : m ≠ n) : c.KeepsMode n (c.loseTbSource m) := by
  by_cases hs : c.holdsSource m
  · have hlost := c.loseTbSource_of_holds m hs
    refine ⟨?_, by rw [hlost.1]; rfl⟩
    rw [Chip.tb, hlost.tbs]
    exact congrArg TimeBase.mode (c.tb_setTb_ne _ h.symm)
  · rw [c.loseTbSource_of_not m hs]
    exact ⟨rfl, rfl⟩

/-- A time base with a source to lose loses it. -/
theorem Chip.mode_loseTbSource (c : Chip) {n : Nat} (h : c.holdsSource n) : ((c.loseTbSource n).tb n).mode = .holdover := by
  have hlen : n < c.tbs.length := c.lt_length_of_mode n (by rcases h.1 with h | h <;> simp [h])
  rw [Chip.tb, (c.loseTbSource_of_holds n h).tbs]
  exact congrArg TimeBase.mode (c.tb_setTb_same _ hlen)

/-- Every time base of a source that is lost is put in HOLDOVER. -/
theorem Chip.mode_eachSource_lost (c : Chip) {n : Nat} (hn : n < 4) (h : c.holdsSource n) :
    ((c.eachSource (c.sourceTb n) Chip.loseTbSource).tb n).mode = .holdover := by
  obtain ⟨d, ⟨hmode, hlive⟩, hlast, -⟩ := foldl_at (R := Chip.KeepsMode n) (fun _ => ⟨rfl, rfl⟩)
    (fun h k => ⟨k.1.trans h.1, k.2.trans h.2⟩) (List.nodup_range.filter _)
    (List.mem_filter (p := fun m => c.sourceTb m == c.sourceTb n).mpr ⟨List.mem_range.mpr hn, beq_self_eq_true _⟩)
    (fun d m _ hm => d.keepsMode_loseTbSource hm) c
  have hsource : d.sourceTb n = c.sourceTb n := by rw [Chip.sourceTb, Chip.lv, hlive]; rfl
  exact hlast.trans (d.mode_loseTbSource (by rw [Chip.holdsSource, hmode, hsource]; exact h))

/-- The part four periods after the last edge, where there was one. -/
def Chip.edgeOverdue (c : Chip) : Chip :=
  match c.pulses.edgeLast with
  | some e => c.runToCycle (e + 4 * 800000000 * c.lv Reg.FPIN_RATE_D / max 1 (c.lv Reg.FPIN_RATE_N))
  | none => c

theorem Chip.mode_tb_ticks (c : Chip) (k n : Nat) : ((Chip.ticks k c).tb n).mode = (c.tb n).mode := by
  unfold Chip.tb Chip.ticks
  rw [List.getD_eq_getElem?_getD, List.getD_eq_getElem?_getD, List.getElem?_map]
  cases c.tbs[n]? <;> rfl

theorem Chip.keepsMode_edgeOverdue (c : Chip) (n : Nat) : c.KeepsMode n c.edgeOverdue := by
  unfold Chip.edgeOverdue
  split
  · exact ⟨c.mode_tb_ticks _ n, rfl⟩
  · exact ⟨rfl, rfl⟩

theorem Chip.edgeOverdue_csn (c : Chip) : c.edgeOverdue.csn = c.csn := by
  unfold Chip.edgeOverdue
  split <;> rfl

theorem exec_fpulseInLoss_eq (s : State) :
    exec .fpulseInLoss s = .next (s.onto (s.chip.edgeOverdue.eachSource 3 Chip.loseTbSource)) := rfl

/-! ### FPULSE_OUT (R76, R77) -/

section
variable (c : Chip)

/-- A level driven changes the pulses by it alone. -/
theorem Chip.drivePulse_parts (on : Bool) :
    (c.drivePulse on).pulses = { c.pulses with outHigh := on } ∧ (c.drivePulse on).cycle = c.cycle := by
  unfold Chip.drivePulse Chip.toBall
  dsimp only
  split <;> exact ⟨rfl, rfl⟩

/-- The ball takes the level unless boundary scan holds it. -/
theorem Chip.out_drivePulse (on : Bool) (h : c.power.pins = false) :
    (c.drivePulse on).out = .fpulse (on != bit (c.lv Reg.FPOUT_CFG) 1) :: c.out := by
  unfold Chip.drivePulse Chip.toBall
  dsimp only
  rw [if_neg (ne_true_of_eq_false h)]
  rfl

/-- The pulse of a crossing opened, to end at a cycle or, where it merges with the one before, no earlier than that. -/
def Chip.openPulse (d : PulseDue) (rest : List PulseDue) (ends : Nat) (merged : Bool) : Chip :=
  let e := { c with pulses := { c.pulses with
    outDue := rest, outDone := d.csn, outEnd := if merged then max c.pulses.outEnd ends else ends } }
  if e.pulses.outHigh then e else e.drivePulse true

theorem Chip.openPulse_parts (d : PulseDue) (rest : List PulseDue) (ends : Nat) (merged : Bool) :
    (c.openPulse d rest ends merged).pulses.outHigh = true ∧ (c.openPulse d rest ends merged).pulses.outDone = d.csn ∧
    (c.openPulse d rest ends merged).pulses.outDue = rest ∧ (c.openPulse d rest ends merged).cycle = c.cycle ∧
    ends ≤ (c.openPulse d rest ends merged).pulses.outEnd ∧ (c.pulses.outHigh = false → c.power.pins = false →
      (c.openPulse d rest ends merged).out = .fpulse (!bit (c.lv Reg.FPOUT_CFG) 1) :: c.out) := by
  unfold Chip.openPulse
  extract_lets p e
  have hends : ends ≤ e.pulses.outEnd := by
    show ends ≤ if merged then max c.pulses.outEnd ends else ends
    split
    · exact le_max_right _ _
    · exact le_rfl
  split
  · next h => exact ⟨h, rfl, rfl, rfl, hends, fun hlow _ => absurd h (ne_true_of_eq_false hlow)⟩
  · obtain ⟨hpulses, hcycle⟩ := e.drivePulse_parts true
    rw [hpulses, hcycle]
    refine ⟨rfl, rfl, rfl, rfl, hends, fun _ hpins => ?_⟩
    rw [e.out_drivePulse true hpins, Bool.true_bne]
    rfl

/-- A pulse that begins: at its instant, and for the width that is set. -/
theorem Chip.beginPulse_parts (d : PulseDue) (rest : List PulseDue) {at_ : Nat}
    (hat : at_ = ((d.instant : Int) + sext 32 (c.lv Reg.FPOUT_OFFSET)).toNat) :
    (c.beginPulse d rest).pulses.outHigh = true ∧ (c.beginPulse d rest).pulses.outDone = d.csn ∧
    (c.beginPulse d rest).pulses.outDue = rest ∧ (c.beginPulse d rest).cycle = c.cycle + c.bound.cyclesTo at_ ∧
    (c.beginPulse d rest).cycle + 800 * bits (c.lv Reg.FPOUT_WIDTH) 0 10 ≤ (c.beginPulse d rest).pulses.outEnd ∧
    (c.pulses.outHigh = false → c.power.pins = false →
      (c.beginPulse d rest).out = .fpulse (!bit (c.lv Reg.FPOUT_CFG) 1) :: c.out) := by
  unfold Chip.beginPulse
  extract_lets a late c₁ ends merged c₂ p c₃
  have hcycle₁ : c₁.cycle = c.cycle + c.bound.cyclesTo at_ := by rw [hat]; rfl
  have hcycle : c₂.cycle = c₁.cycle := Chip.wr_cycle ..
  have hlv₁ : ∀ r, c₁.lv r = c.lv r := fun r => Chip.lv_congr (Chip.ticks_live ..)
  have hlv : ∀ r, c₂.lv r = c.lv r := fun r => (Chip.lv_wr ..).trans (hlv₁ r)
  have hpulses : c₂.pulses = c.pulses := (Chip.wr_pulses ..).trans (Chip.ticks_pulses ..)
  have hpower : c₂.power = c.power := (Chip.wr_power ..).trans (Chip.ticks_power ..)
  have hout : c₂.out = c.out := (Chip.wr_out ..).trans (Chip.ticks_out ..)
  have hends : ends = c₂.cycle + 800 * bits (c.lv Reg.FPOUT_WIDTH) 0 10 := by
    unfold ends usCycles
    rw [hlv₁, hcycle, Nat.mul_comm]
  obtain ⟨hhigh, hdone, hdue, hkept, hwidth, hlevel⟩ := c₂.openPulse_parts d rest ends merged
  rw [hlv, hpulses, hpower, hout] at hlevel
  exact ⟨hhigh, hdone, hdue, hkept.trans (hcycle.trans hcycle₁),
    ((congrArg (· + _) hkept).trans hends.symm).trans_le hwidth, hlevel⟩

end

section
variable (s : State)

theorem exec_fpulseOutStart_of_due {d : PulseDue} {rest : List PulseDue} (hon : bit (s.chip.lv Reg.FPOUT_CFG) 0 = true)
    (hdue : (s.chip.pulses.outDue.dropWhile fun d => !s.chip.pulseComes d) = d :: rest) :
    exec .fpulseOutStart s = .next (s.onto (s.chip.beginPulse d rest)) := by
  show execFpulseOutStart s = _
  simp only [execFpulseOutStart, onChip_eq, hon, hdue, Bool.not_true, Bool.false_eq_true, if_false]
  rfl

theorem exec_fpulseOutStart_of_not (h : bit (s.chip.lv Reg.FPOUT_CFG) 0 = false ∨
    (s.chip.pulses.outDue.dropWhile fun d => !s.chip.pulseComes d) = []) : exec .fpulseOutStart s = .next s := by
  show execFpulseOutStart s = _
  rcases h with h | h
  · simp only [execFpulseOutStart, onChip_eq, h, Bool.not_false, if_true]
  · simp only [execFpulseOutStart, onChip_eq, h, ite_self]

theorem exec_fpulseOutEnd_of_high (h : s.chip.pulses.outHigh = true) : exec .fpulseOutEnd s =
    .next (s.onto ((s.chip.runToCycle s.chip.pulses.outEnd).drivePulse false)) := by
  show execFpulseOutEnd s = _
  simp only [execFpulseOutEnd, onChip_eq, h, if_true]
  rfl

theorem exec_fpulseOutEnd_of_low (h : s.chip.pulses.outHigh = false) : exec .fpulseOutEnd s = .next s := by
  show execFpulseOutEnd s = _
  simp only [execFpulseOutEnd, onChip_eq, h, Bool.false_eq_true, if_false]

end

/-- Settles O43: the registers of a frame and of an edge, which the servos leave alone; the losses;
and the pulse from its start to its end. -/
theorem timecodeAndPulsesAreStamped : Obligations.TimecodeAndPulsesAreStamped := by
  unfold Obligations.TimecodeAndPulsesAreStamped
  intro s
  refine ⟨fun tc ub ago rev drop colour =>
      ⟨fun hon htc hub => ?frame, exec_ltcFrame_of_off s tc ub ago rev drop colour⟩,
    fun st hst hon => ?lost, exec_ltcLost_of_off s, fun rising ns hns => ?edge, ?loss, fun due hdue => ?start,
    exec_fpulseOutEnd_of_high s, exec_fpulseOutEnd_of_low s⟩
  case frame =>
    obtain ⟨l, hl⟩ := s.chip.sameButEvents_inCycle fun c =>
      (c.ltcUpdate tc ub rev drop colour ago).ltcServed (c.rd Reg.LTC_STATUS) tc ago rev
    obtain ⟨hcsn, -, hrd⟩ := (Chip.keepsStamps_ltcServed _ _ tc ago rev).trans (.of_events hl)
    obtain ⟨h₁, h₂, h₃, h₄⟩ := Chip.ltcUpdate_parts { s.chip with batch := some l } tc ub ago rev drop colour htc hub
    exact ⟨_, exec_ltcFrame_of_on s tc ub ago rev drop colour hon, rfl, (hrd _ (by decide) (by decide)).trans h₁,
      (hrd _ (by decide) (by decide)).trans h₂, (hrd _ (by decide) (by decide)).trans h₃, hcsn.trans h₄⟩
  case lost =>
    subst hst
    exact ⟨⟨_, exec_ltcLost_noFrame s hon, rfl, s.chip.rd_ltcSilent⟩, exec_ltcLost_reverse s hon⟩
  case edge =>
    subst hns
    refine ⟨fun hon hpol => ?_, exec_fpulseInEdge_of_not s⟩
    obtain ⟨hns, hsec, hlast⟩ := s.chip.edgeStamped_parts (s.chip.tb (bits (s.chip.lv Reg.FPIN_CFG) 2 2)).ns
    obtain ⟨-, hedge, hrd⟩ := Chip.keepsStamps_eachSource (s.chip.edgeStamped
      (s.chip.tb (bits (s.chip.lv Reg.FPIN_CFG) 2 2)).ns) 3 fun d n hn => d.keepsStamps_edgeServo hn
    exact ⟨_, exec_fpulseInEdge_of_active s hon hpol, rfl, (hrd _ (by decide) (by decide)).trans hns,
      (hrd _ (by decide) (by decide)).trans hsec, hedge.trans hlast⟩
  case loss =>
    obtain ⟨hcsn, -, -⟩ := Chip.keepsStamps_eachSource s.chip.edgeOverdue 3 fun d n hn => d.keepsStamps_loseTbSource hn
    refine ⟨_, exec_fpulseInLoss_eq s, rfl, hcsn.trans s.chip.edgeOverdue_csn, fun n hn _ hsource hmode => ?_⟩
    obtain ⟨hkept, hlive⟩ := s.chip.keepsMode_edgeOverdue n
    have hsource' : s.chip.edgeOverdue.sourceTb n = 3 := by
      rw [← hsource, Chip.sourceTb, Chip.lv, hlive]
      rfl
    have hholds : s.chip.edgeOverdue.holdsSource n := by
      rw [Chip.holdsSource, hkept, hsource']
      exact ⟨hmode, by decide⟩
    have hlost := Chip.mode_eachSource_lost s.chip.edgeOverdue hn hholds
    rwa [hsource'] at hlost
  case start =>
    subst hdue
    exact ⟨fun d rest at_ hon hdue hat =>
        ⟨_, exec_fpulseOutStart_of_due s hon hdue, rfl, s.chip.beginPulse_parts d rest hat⟩,
      exec_fpulseOutStart_of_not s⟩

end Sys2Proof.Machine
end

section
/-! SUPPORT. Bands and fixtures (R99, R100, R124, R134, R140): what the finishing of a band, a hand-over and a profile that fails leave
of the frame, and what they leave alone. -/

namespace Sys2Proof.Machine

open Sys2Proof

/-! ### The bands of a frame -/

section
variable (c : Chip)

/-- A band that a lane is given is still to be written. -/
theorem Chip.bands_handBands : c.handBands.frame.bands = c.frame.bands := by
  unfold Chip.handBands
  refine List.foldlRecOn _ _ (motive := fun d : Chip => d.frame.bands = c.frame.bands) rfl fun d hd n _ => ?_
  split
  · exact hd
  · generalize d.frame.bands.find? _ = b
    cases b <;> exact hd

/-- A band written is no longer to be written. -/
theorem Chip.not_mem_bands_writeBand (d : List Host.Cell) (n k b : Nat) : (k, b) ∉ (c.writeBand d n k b).2.frame.bands := by
  rw [Chip.writeBand, Chip.bands_handBands]
  show (k, b) ∉ List.filter _ _
  simp

theorem Chip.bands_stallWalk : c.stallWalk.frame.bands = c.frame.bands := by
  unfold Chip.stallWalk
  split <;> rfl

/-- The walk reads which bands are written, and writes none. -/
theorem Chip.bands_walkOver (l : List Nat) : (Chip.walkOver l c).frame.bands = c.frame.bands := by
  induction l generalizing c with
  | nil => rfl
  | cons f r ih =>
    unfold Chip.walkOver
    split
    · exact Chip.bands_stallWalk _
    split
    · exact ih _
    · exact ih _

theorem Chip.bands_unpark : c.unpark.frame.bands = c.frame.bands := Chip.bands_walkOver _ _

theorem Chip.csn_writeBand (d : List Host.Cell) (n k b : Nat) : (c.writeBand d n k b).2.csn = c.csn := by
  obtain ⟨hlines, -⟩ := c.keepsLive_writeLines d k (64 * b) (c.bandEnd k b)
  rw [Chip.writeBand, (Chip.keepsLive_handBands _).1, (Chip.keepsLive_laneFill _ _).1]
  exact hlines

theorem Chip.csn_unpark : c.unpark.csn = c.csn := (Chip.keepsLive_walkOver _ _).1

end

/-! ### Fixtures that are not rendered (R134) -/

theorem Chip.SameButEvents.frame {c d : Chip} (h : c.SameButEvents d) : d.frame = c.frame := by rw [h.1]
theorem Chip.SameButEvents.slots {c d : Chip} (h : c.SameButEvents d) : d.slots = c.slots := by rw [h.1]

section
variable (c : Chip)

theorem Chip.slots_setEcc (m : Nat) (e : Ecc) : (c.setEcc m e).slots = c.slots := by
  unfold Chip.setEcc
  split <;> rfl

/-- What a read finds in a word is counted, latched and raised; no slot changes. -/
theorem Chip.slots_noteWord (m cls w : Nat) : (c.noteWord m cls w).slots = c.slots := by
  unfold Chip.noteWord
  extract_lets e put c₁ c₂ c₃ c₄ e'
  have h₄ : c₄.slots = c.slots := by
    unfold c₄ c₃
    split <;> rfl
  split
  · rfl
  split
  · exact Chip.slots_setEcc _ _ _
  split
  · exact (c₄.slots_setEcc _ _).trans h₄
  · exact (Chip.sameButEvents_raise _ _ _ _).slots.trans ((c₄.slots_setEcc _ _).trans h₄)

theorem Chip.slots_noteRec (cls t i : Nat) : (c.noteRec cls t i).slots = c.slots :=
  List.foldlRecOn _ _ (motive := fun d : Chip => d.slots = c.slots) rfl fun d hd w _ => (d.slots_noteWord _ _ w).trans hd

/-- A fixture whose profile fails is passed over, and writes no slot. -/
theorem Chip.profileFails_parts (f : Nat) : f ∈ (c.profileFails f).frame.skipped ∧ f ∉ (c.profileFails f).frame.issued ∧
    (c.profileFails f).slots = c.slots := by
  unfold Chip.profileFails
  extract_lets p c₁ frame₁ c₂ failing frame₂ c₃
  have h₂ : f ∈ c₂.frame.skipped ∧ f ∉ c₂.frame.issued ∧ c₂.slots = c.slots :=
    ⟨List.mem_cons_self .., by simp [c₂], rfl⟩
  split
  · exact h₂
  · have hraise := (c₃.setEvt Reg.MODEL_EVT 1).sameButEvents_raise 27 0x0D02
      (it8 c₃.frame.csn ++ it4 p ++ it4 (c₃.recState 2 p) ++ it4 failing)
    rw [hraise.frame, hraise.slots]
    exact h₂

end

/-! ### Fixtures that are rendered (R140) -/

section
variable (c : Chip)

theorem Chip.keepsLive_noteSamples (fix : Nat) : c.KeepsLive (c.noteSamples fix) := by
  unfold Chip.noteSamples
  split
  · exact .refl c
  split
  · exact .refl c
  · refine .trans ?_ (.foldl (fun d i => .foldl (fun e r => e.keepsLive_noteRead _ _ _ _) _ d) _ _)
    split
    · exact .refl c
    · exact c.keepsLive_noteRead _ _ _ _

theorem Chip.keepsLive_noteInputs (f : Nat) : c.KeepsLive (c.noteInputs f) := by
  unfold Chip.noteInputs
  extract_lets c₁
  have h₁ : c.KeepsLive c₁ := (c.keepsLive_noteRec 2 11 f).trans (Chip.keepsLive_noteRead _ _ _ _ _)
  split
  · exact h₁.trans (c₁.keepsLive_noteRead _ _ _ _)
  · exact h₁

theorem Chip.csn_applyReading (d : List Host.Cell) (f : Nat) : (c.applyReading d f).csn = c.csn := by
  unfold Chip.applyReading
  split
  · rfl
  · split <;> rfl

theorem Chip.csn_putSlot (space slot : Nat) (b : Byte) : (c.putSlot space slot b).csn = c.csn := by
  unfold Chip.putSlot
  extract_lets k
  split <;> rfl

theorem Chip.csn_putUnit (u : PlacedUnit) (bs : List Byte) : (c.putUnit u bs).csn = c.csn :=
  Chip.csn_foldl _ _ _ fun d _ => d.csn_putSlot _ _ _

theorem Chip.csn_noteDrive (feed : Nat) (w : Rat) : (c.noteDrive feed w).csn = c.csn := by
  unfold Chip.noteDrive
  split <;> rfl

/-- A fixture rendered is done and no longer under way. -/
theorem Chip.render_parts (d : List Host.Cell) (f : Nat) :
    f ∈ (c.render d f).frame.done ∧ f ∉ (c.render d f).frame.issued ∧ (c.render d f).csn = c.csn := by
  refine ⟨List.mem_cons_self .., ?_, ?_⟩
  · show f ∉ List.filter _ _
    simp
  · unfold Chip.render
    extract_lets fix p prof c₁ attrs t l cells octets c₂ c₃ c₄ c₅ power c₆
    have h₁ : c₁.csn = c.csn := (Chip.csn_applyReading _ d f).trans
      (((c.keepsLive_noteSamples fix).trans (Chip.keepsLive_noteRec _ _ _ _)).trans (Chip.keepsLive_noteInputs _ f)).1
    have h₂ : c₂.csn = c₁.csn := Chip.csn_foldl _ _ _ fun d e => d.csn_putUnit e.1 e.2
    have h₅ : c₅.csn = c₂.csn := Chip.csn_noteDrive _ _ _
    exact (h₅.trans h₂).trans h₁

end

/-! ### The commands -/

section
variable (s : State)

theorem exec_bandWritten_of_lane {canvas band n : Nat} (hc : canvas < 16)
    (h : s.chip.frame.lanes.findIdx? (· == some (canvas, band)) = some n) : exec (.bandWritten canvas band) s =
    .next (s.ontoBoth ((s.chip.writeBand s.dram n canvas band).1, (s.chip.writeBand s.dram n canvas band).2.unpark)) := by
  show execBandWritten canvas band s = _
  rw [execBandWritten, decide_eq_true hc, within_true, onBoth_eq, h]
  rfl

theorem exec_bandWritten_of_none {canvas band : Nat} (hc : canvas < 16)
    (h : s.chip.frame.lanes.findIdx? (· == some (canvas, band)) = none) : exec (.bandWritten canvas band) s = .next s := by
  show execBandWritten canvas band s = _
  rw [execBandWritten, decide_eq_true hc, within_true, onBoth_eq, h]

theorem exec_fixtureHandover {f p : Nat} (hf : f < 131072) (hp : p = FixRec.profile (s.chip.recAt 1 f))
    (hon : s.chip.domainOn 6 = true) (hway : s.chip.frame.issued.contains f = true) : exec (.fixtureHandover f) s =
    .next (s.onto (if s.chip.recState 2 p ≠ 0 then (s.chip.noteRec 2 2 p).profileFails f
      else (s.chip.noteRec 2 2 p).render s.dram f)) := by
  subst hp
  show execFixtureHandover f s = _
  rw [execFixtureHandover, decide_eq_true hf, within_true, onChip_eq, hon, hway]
  rfl

theorem exec_fixtureHandover_of_not {f : Nat} (hf : f < 131072)
    (h : s.chip.domainOn 6 = false ∨ s.chip.frame.issued.contains f = false) : exec (.fixtureHandover f) s = .next s := by
  have hcond : (s.chip.domainOn 6 && s.chip.frame.issued.contains f) = false := Bool.and_eq_false_iff.mpr h
  show execFixtureHandover f s = _
  rw [execFixtureHandover, decide_eq_true hf, within_true, onChip_eq, hcond]
  rfl

end

/-- Settles O44: a band that a lane has or has not; a fixture under way whose profile passes or fails its check, or not under way. -/
theorem bandsAndFixturesAreServed : Obligations.BandsAndFixturesAreServed := by
  unfold Obligations.BandsAndFixturesAreServed
  refine fun s => ⟨fun canvas band hc => ⟨fun n hn r hr => ?band, exec_bandWritten_of_none s hc⟩,
    fun f p hf hp => ⟨fun hon hway => ?fixture, exec_fixtureHandover_of_not s hf⟩⟩
  case band =>
    subst hr
    refine ⟨exec_bandWritten_of_lane s hc hn, ?_, ?_⟩
    · rw [Chip.bands_unpark]
      exact s.chip.not_mem_bands_writeBand s.dram n canvas band
    · exact (Chip.csn_unpark _).trans (s.chip.csn_writeBand s.dram n canvas band)
  case fixture =>
    have hexec := exec_fixtureHandover s hf hp hon hway
    refine ⟨fun hgood => ?_, fun hbad => ?_⟩
    · rw [if_neg (not_not_intro hgood)] at hexec
      obtain ⟨hdone, hissued, hcsn⟩ := (s.chip.noteRec 2 2 p).render_parts s.dram f
      exact ⟨_, hexec, rfl, hdone, hissued, hcsn.trans (s.chip.keepsLive_noteRec 2 2 p).1⟩
    · rw [if_pos hbad] at hexec
      obtain ⟨hskipped, hissued, hslots⟩ := (s.chip.noteRec 2 2 p).profileFails_parts f
      exact ⟨_, hexec, rfl, hskipped, hissued, hslots.trans (s.chip.slots_noteRec 2 2 p)⟩

end Sys2Proof.Machine
end

section
/-! SUPPORT. The clear registers (R72, R109, R127, R148, R174, R252, R264, R286, R401, R461). -/

namespace Sys2Proof.Machine

open Sys2Proof

/-! ### NET_CNT_CLR (R252) -/

/-- The counters of a port cleared, a pause under way settled first. -/
def Chip.clearCnt (c : Chip) (p : Nat) : Chip :=
  { c.settlePause p with cnt := (c.settlePause p).cnt.filter fun e => !(p * 0x100 ≤ e.1 && e.1 < (p + 1) * 0x100) }

/-- The counters of a port cleared where a write names it. -/
def Chip.clearCntNamed (v : Word) (c : Chip) (p : Nat) : Chip := if bit v.toNat p then c.clearCnt p else c

/-- The counters of the ports that a write names cleared. -/
def Chip.clearCnts (c : Chip) (v : Word) : Chip := (List.range 5).foldl (Chip.clearCntNamed v) c

section
variable (c : Chip) (v : Word) {p : Nat}

theorem Chip.regs_settlePause (q : Nat) : (c.settlePause q).regs = c.regs := by
  unfold Chip.settlePause
  extract_lets x
  split <;> rfl

theorem Chip.regs_clearCnts : (c.clearCnts v).regs = c.regs := by
  refine List.foldlRecOn _ _ (motive := fun d : Chip => d.regs = c.regs) rfl fun d hd q _ => ?_
  unfold Chip.clearCntNamed
  split
  · exact (d.regs_settlePause q).trans hd
  · exact hd

/-- Another port stays when the counters of a port are cleared. -/
theorem Chip.samePort_clearCntNamed {q : Nat} (h : p ≠ q) : c.SamePort q 0 0 (c.clearCntNamed v p) := by
  unfold Chip.clearCntNamed
  split
  · refine .trans (c.samePort_settlePause p 0 0 h) ⟨rfl, rfl, fun o ho => Store.get_filter _ _ _ _ fun _ => ?_, fun _ _ _ => rfl⟩
    simp only [Bool.not_eq_true', Bool.and_eq_false_iff, decide_eq_false_iff_not]
    omega
  · exact .refl c

theorem Chip.clearCntNamed_of_not (h : v.getLsbD p = false) : c.clearCntNamed v p = c := if_neg (ne_true_of_eq_false h)

theorem Chip.clearCntNamed_of_named (h : v.getLsbD p = true) : c.clearCntNamed v p = c.clearCnt p := if_pos h

theorem Chip.cntOf_clearCnt {o : Nat} (ho : o < 0x100) : (c.clearCnt p).cntOf p o = 0 := by
  refine Store.get_filter_of_dropped _ _ _ _ fun _ => ?_
  simp only [Bool.not_eq_false', Bool.and_eq_true, decide_eq_true_eq]
  omega

theorem Chip.port_clearCnt_of_none (h : (c.port p).pauseEnd = none) : (c.clearCnt p).port p = c.port p := by
  unfold Chip.clearCnt
  rw [c.settlePause_of_none p h]
  rfl

/-- A pause under way counts on from the clear. -/
theorem Chip.port_clearCnt_of_some (h : (c.port p).pauseEnd ≠ none) :
    (c.clearCnt p).port p = { c.port p with heldAt := max (c.port p).heldAt c.cycle } := by
  show (c.settlePause p).port p = _
  unfold Chip.settlePause
  extract_lets x
  rw [if_pos (Option.isSome_iff_ne_none.mpr h)]
  exact Chip.port_setPort_same ..

/-- A port that the write does not name stays. -/
theorem Chip.samePort_clearCnts (h : v.getLsbD p = false) : c.SamePort p 0 0 (c.clearCnts v) :=
  .foldl (fun d q _ => by
    by_cases hq : q = p
    · rw [hq, d.clearCntNamed_of_not v h]
      exact .refl d
    · exact d.samePort_clearCntNamed v hq) c

/-- A port that the write names is cleared from what it held before. -/
theorem Chip.exists_clearCnt (hp : p < 5) (h : v.getLsbD p = true) :
    ∃ d, c.SamePort p 0 0 d ∧ (d.clearCnt p).SamePort p 0 0 (c.clearCnts v) := by
  obtain ⟨d, hd, hrest⟩ := foldl_at .refl .trans List.nodup_range (List.mem_range.mpr hp)
    (fun d q _ hq => d.samePort_clearCntNamed v hq) c
  rw [d.clearCntNamed_of_named v h] at hrest
  exact ⟨d, hd, hrest⟩

/-- The state of a port changes only by a pause under way. -/
theorem Chip.port_clearCnts_of_none (h : (c.port p).pauseEnd = none) : (c.clearCnts v).port p = c.port p := by
  refine List.foldlRecOn _ _ (motive := fun d : Chip => d.port p = c.port p) rfl fun d hd q _ => ?_
  by_cases hq : q = p
  · subst hq
    unfold Chip.clearCntNamed
    split
    · exact (d.port_clearCnt_of_none (hd ▸ h)).trans hd
    · exact hd
  · obtain ⟨-, hport, -, -⟩ := d.samePort_clearCntNamed v hq
    exact hport.trans hd

end

/-! ### The commands -/

section
variable {s : State} (v : Word)

/-- An event register whose bit 0, written as 1, also arms a latch again. -/
theorem regCommand_clearEvt {off latch : Nat} (hne : latch ≠ off) (h : s.chip.takesWrite off = true) :
    let f := fun c : Chip =>
      let c := c.clearEvt off v.toNat
      if bit v.toNat 0 then c.wr latch (setBit (c.rd latch) 31 false) else c
    (v.getLsbD 0 = true → regCommand off f s =
      .next (s.onto ((s.chip.clearEvt off v.toNat).wr latch (setBit (s.chip.rd latch) 31 false)))) ∧
    (v.getLsbD 0 = false → regCommand off f s = .next (s.onto (s.chip.clearEvt off v.toNat))) := by
  intro f
  have hrd : (s.chip.clearEvt off v.toNat).rd latch = s.chip.rd latch := Chip.rd_wr_ne _ _ _ _ hne
  refine ⟨fun hv => ?_, fun hv => ?_⟩
  · have hb : bit v.toNat 0 = true := hv
    rw [regCommand_taken f h, ← hrd]
    exact congrArg (Host.Outcome.next ∘ s.onto) (if_pos hb)
  · have hb : ¬ bit v.toNat 0 = true := ne_true_of_eq_false hv
    rw [regCommand_taken f h]
    exact congrArg (Host.Outcome.next ∘ s.onto) (if_neg hb)

theorem exec_lanenClr {lane : Nat} (hlane : lane < 8) (h : s.chip.takesWrite (Reg.LANE_CLR lane) = true) :
    (v.getLsbD 0 = true → exec (.lanenClr lane v) s =
      .next (s.onto ((s.chip.wr (Reg.LANE_MIN_LEVEL lane) (s.chip.rd (Reg.LANE_LEVEL lane))).wr (Reg.LANE_URGENT_CNT lane) 0))) ∧
    (v.getLsbD 0 = false → exec (.lanenClr lane v) s = .next s) := by
  show (_ → execLanenClr lane v s = _) ∧ (_ → execLanenClr lane v s = _)
  rw [execLanenClr, decide_eq_true hlane, within_true]
  exact regCommand_trigger v
    (fun c => (c.wr (Reg.LANE_MIN_LEVEL lane) (c.rd (Reg.LANE_LEVEL lane))).wr (Reg.LANE_URGENT_CNT lane) 0) h

theorem exec_mapClr (h : s.chip.takesWrite Reg.MAP_CLR = true) :
    (v.getLsbD 0 = true → exec (.mapClr v) s = .next (s.onto ((s.chip.wr Reg.MAP_PARK_PEAK 0).wr Reg.MAP_STALL_CNT 0))) ∧
    (v.getLsbD 0 = false → exec (.mapClr v) s = .next s) :=
  regCommand_trigger v (fun c => (c.wr Reg.MAP_PARK_PEAK 0).wr Reg.MAP_STALL_CNT 0) h

theorem exec_modelClr (h : s.chip.takesWrite Reg.MODEL_CLR = true) :
    (v.getLsbD 0 = true → exec (.modelClr v) s =
      .next (s.onto { s.chip with regs := s.chip.regs.filter fun e => e.1 < 0x70000 || 0x78000 ≤ e.1 })) ∧
    (v.getLsbD 0 = false → exec (.modelClr v) s = .next s) :=
  regCommand_trigger v (fun c => { c with regs := c.regs.filter fun e => e.1 < 0x70000 || 0x78000 ≤ e.1 }) h

theorem exec_schedClr (h : s.chip.takesWrite Reg.SCHED_CLR = true) :
    (v.getLsbD 0 = true → exec (.schedClr v) s =
      .next (s.onto (((s.chip.wr Reg.FADE_PEAK s.chip.fadesInUse).wr Reg.TASK_LATE_CNT 0).wr Reg.TASK_FAIL_CNT 0))) ∧
    (v.getLsbD 0 = false → exec (.schedClr v) s = .next s) :=
  regCommand_trigger v (fun c => ((c.wr Reg.FADE_PEAK c.fadesInUse).wr Reg.TASK_LATE_CNT 0).wr Reg.TASK_FAIL_CNT 0) h

theorem exec_evtClr (h : s.chip.takesWrite Reg.EVT_CLR = true) :
    (v.getLsbD 0 = true → exec (.evtClr v) s =
      .next (s.onto ((((s.chip.wr Reg.EVT_UNROUTED_CNT 0).wr Reg.MAINT_DEFER_CNT 0).wr Reg.CONFLICT_CNT 0).wr Reg.CONFLICT_LAST
        (setBit (s.chip.rd Reg.CONFLICT_LAST) 31 false)))) ∧
    (v.getLsbD 0 = false → exec (.evtClr v) s = .next s) :=
  regCommand_trigger v (fun c => (((c.wr Reg.EVT_UNROUTED_CNT 0).wr Reg.MAINT_DEFER_CNT 0).wr Reg.CONFLICT_CNT 0).wr
    Reg.CONFLICT_LAST (setBit (c.rd Reg.CONFLICT_LAST) 31 false)) h

theorem exec_netCntClr (h : s.chip.takesWrite Reg.NET_CNT_CLR = true) :
    exec (.netCntClr v) s = .next (s.onto (s.chip.clearCnts v)) :=
  regCommand_taken (Chip.clearCnts · v) h

theorem exec_eccmEvtClear {m : Nat} (hm : m < 2) (h : s.chip.takesWrite (Reg.ECC_EVT m) = true) :
    (v.getLsbD 0 = true → exec (.eccmEvtClear m v) s =
      .next (s.onto ((s.chip.clearEvt (Reg.ECC_EVT m) v.toNat).wr (Reg.ECC_UE_ADDR_HI m)
        (setBit (s.chip.rd (Reg.ECC_UE_ADDR_HI m)) 31 false)))) ∧
    (v.getLsbD 0 = false → exec (.eccmEvtClear m v) s = .next (s.onto (s.chip.clearEvt (Reg.ECC_EVT m) v.toNat))) := by
  show (_ → execEccmEvtClear m v s = _) ∧ (_ → execEccmEvtClear m v s = _)
  rw [execEccmEvtClear, decide_eq_true hm, within_true]
  exact regCommand_clearEvt v (by unfold Reg.ECC_UE_ADDR_HI Reg.ECC_EVT; omega) h

theorem exec_hbEvtWfailClear (h : s.chip.takesWrite Reg.HB_EVT = true) :
    (v.getLsbD 0 = true → exec (.hbEvtWfailClear v) s =
      .next (s.onto ((s.chip.clearEvt Reg.HB_EVT v.toNat).wr Reg.HB_WFAIL_ADDR_HI
        (setBit (s.chip.rd Reg.HB_WFAIL_ADDR_HI) 31 false)))) ∧
    (v.getLsbD 0 = false → exec (.hbEvtWfailClear v) s = .next (s.onto (s.chip.clearEvt Reg.HB_EVT v.toNat))) :=
  regCommand_clearEvt v (by decide) h

theorem exec_txtsStatusClear {u : Nat} (hu : u < 5) (h : s.chip.takesWrite (Reg.TXTS_STATUS u) = true) :
    (v.getLsbD 0 = true → exec (.txtsStatusClear u v) s =
      .next (s.onto (((s.chip.clearEvt (Reg.TXTS_STATUS u) 1).wr (Reg.TXTS_DROP_CNT u) 0).wr (Reg.TXTS_FIRST_DROP_ID u)
        (setBit (s.chip.rd (Reg.TXTS_FIRST_DROP_ID u)) 31 false)))) ∧
    (v.getLsbD 0 = false → exec (.txtsStatusClear u v) s = .next s) := by
  show (_ → execTxtsStatusClear u v s = _) ∧ (_ → execTxtsStatusClear u v s = _)
  rw [execTxtsStatusClear, decide_eq_true hu, within_true]
  exact regCommand_trigger v (fun c => ((c.clearEvt (Reg.TXTS_STATUS u) 1).wr (Reg.TXTS_DROP_CNT u) 0).wr
    (Reg.TXTS_FIRST_DROP_ID u) (setBit (c.rd (Reg.TXTS_FIRST_DROP_ID u)) 31 false)) h

end

/-- Settles O9: each command by its gate; the network counters and the pauses port by port. -/
theorem clearsResetTheirCounters : Obligations.ClearsResetTheirCounters := by
  unfold Obligations.ClearsResetTheirCounters
  intro s v
  refine ⟨fun lane hlane h => exec_lanenClr v hlane h, exec_mapClr v, exec_modelClr v, exec_schedClr v, exec_evtClr v,
    fun h => ⟨_, exec_netCntClr v h, rfl, s.chip.regs_clearCnts v, fun p o hp ho hv => ?cleared, fun p o _ ho hv => ?kept,
      fun p hp => ?port, fun p hp hv hsome => ?paused⟩,
    fun m hm h => exec_eccmEvtClear v hm h, exec_hbEvtWfailClear v, fun u hu h => exec_txtsStatusClear v hu h⟩
  case cleared =>
    obtain ⟨d, -, -, -, hcnt, -⟩ := s.chip.exists_clearCnt v hp hv
    exact (hcnt o ho).trans (d.cntOf_clearCnt ho)
  case kept =>
    obtain ⟨-, -, hcnt, -⟩ := s.chip.samePort_clearCnts v hv
    exact hcnt o ho
  case port =>
    rcases hp with hv | hnone
    · obtain ⟨-, hport, -, -⟩ := s.chip.samePort_clearCnts v hv
      exact hport
    · exact s.chip.port_clearCnts_of_none v hnone
  case paused =>
    obtain ⟨d, ⟨hcycle, hsame, -, -⟩, -, hport, -, -⟩ := s.chip.exists_clearCnt v hp hv
    rw [State.onto_chip, hport, d.port_clearCnt_of_some (hsame ▸ hsome), hsame, hcycle]

end Sys2Proof.Machine
end

section
/-! SUPPORT. The task commands (R152, R157, R159, R160): the waiting tasks whose awaited slot is gone end together, and what each command
answers by the state of the slot. -/

namespace Sys2Proof.Machine

open Sys2Proof

/-! ### What the ends of tasks leave alone -/

/-- What the ends of tasks leave as it was: CSN_LIVE, the clock, the accepted commits, the fades and the effect generators. -/
def Chip.KeepsShow (c d : Chip) : Prop :=
  d.csn = c.csn ∧ d.cycle = c.cycle ∧ d.commits = c.commits ∧ d.fades = c.fades ∧ d.effects = c.effects

namespace Chip.KeepsShow
variable {c d e : Chip}

theorem refl (c : Chip) : c.KeepsShow c := ⟨rfl, rfl, rfl, rfl, rfl⟩

theorem trans (h : c.KeepsShow d) (k : d.KeepsShow e) : c.KeepsShow e := by
  obtain ⟨h₁, h₂, h₃, h₄, h₅⟩ := h
  obtain ⟨k₁, k₂, k₃, k₄, k₅⟩ := k
  exact ⟨k₁.trans h₁, k₂.trans h₂, k₃.trans h₃, k₄.trans h₄, k₅.trans h₅⟩

/-- What posts events keeps it. -/
theorem of_events (h : c.SameButEvents d) : c.KeepsShow d := by
  rw [h.1]
  exact ⟨rfl, rfl, rfl, rfl, rfl⟩

end Chip.KeepsShow

section
variable (c : Chip)

/-- A task ended with a failure: only its own slot changes. -/
theorem Chip.failTask_parts (k : Nat) (r : TaskResult) : c.KeepsShow (c.failTask k r) ∧
    (c.failTask k r).tasks = (c.setTask k { c.task k with state := .ended, result := r }).tasks := by
  let d : Chip := ((c.setTask k { c.task k with state := .ended, result := r }).inc Reg.TASK_FAIL_CNT).setEvt Reg.SCHED_EVT 4
  have h : d.SameButEvents (c.failTask k r) := d.sameButEvents_raise _ _ _
  have hd : c.KeepsShow d := ⟨rfl, rfl, rfl, rfl, rfl⟩
  exact ⟨hd.trans (.of_events h), by rw [h.1]; rfl⟩

/-- What a read finds in a word is counted, latched and raised; no task changes. -/
theorem Chip.noteWord_show (m cls w : Nat) : c.KeepsShow (c.noteWord m cls w) ∧ (c.noteWord m cls w).tasks = c.tasks := by
  have hecc (d : Chip) (e : Ecc) : d.KeepsShow (d.setEcc m e) ∧ (d.setEcc m e).tasks = d.tasks := by
    unfold Chip.setEcc
    split <;> exact ⟨⟨rfl, rfl, rfl, rfl, rfl⟩, rfl⟩
  unfold Chip.noteWord
  extract_lets e put c₁ c₂ c₃ c₄ e'
  have h₄ : c.KeepsShow c₄ ∧ c₄.tasks = c.tasks := by
    unfold c₄ c₃
    split <;> exact ⟨⟨rfl, rfl, rfl, rfl, rfl⟩, rfl⟩
  split
  · exact ⟨.refl c, rfl⟩
  split
  · have h := hecc (c.inc (Reg.ECC_CE_CNT m)) { put with ceHere := e.ceHere + 1 }
    exact ⟨h.1, h.2⟩
  split
  · exact ⟨h₄.1.trans (hecc _ _).1, (hecc _ _).2.trans h₄.2⟩
  · have h := Chip.sameButEvents_raise (c₄.setEcc m { e' with raised := true, lastRaise := c₄.cycle, ueCount := 0 }) 6 0x0701
      (it4 m ++ it8 e'.firstUe ++ it4 cls ++ it4 e'.ueCount ++ it8 c₄.csn)
    exact ⟨(h₄.1.trans (hecc _ _).1).trans (.of_events h), by rw [h.1]; exact (hecc _ _).2.trans h₄.2⟩

theorem Chip.noteRead_show (m cls a n : Nat) : c.KeepsShow (c.noteRead m cls a n) ∧ (c.noteRead m cls a n).tasks = c.tasks :=
  List.foldlRecOn _ _ (motive := fun d : Chip => c.KeepsShow d ∧ d.tasks = c.tasks) ⟨.refl c, rfl⟩ fun d hd w _ =>
    ⟨hd.1.trans (d.noteWord_show _ _ w).1, (d.noteWord_show _ _ w).2.trans hd.2⟩

/-! ### The tasks whose awaited slot is gone (R157) -/

/-- Whether a slot holds a waiting task whose awaited slot has been freed or reloaded. -/
def Chip.breaks (j : Nat) : Bool := (c.task j).state == .waiting && c.depBroken (c.task j)

/-- The task of a slot, ended DEP_INVALID where what it awaits is gone. -/
def Chip.settledTask (j : Nat) : Task :=
  if c.breaks j then { c.task j with state := .ended, result := .depInvalid } else c.task j

/-- The task of one slot ended DEP_INVALID where what it awaits is gone. -/
def Chip.endIfBroken (j : Nat) : Chip := if c.breaks j then c.failTask j .depInvalid else c

theorem Chip.endBroken_eq : c.endBroken = c.taskSlots.foldl Chip.endIfBroken c := rfl

theorem Chip.keepsShow_endIfBroken (j : Nat) : c.KeepsShow (c.endIfBroken j) := by
  unfold Chip.endIfBroken
  split
  · exact (c.failTask_parts j _).1
  · exact .refl c

theorem Chip.keepsShow_endBroken : c.KeepsShow c.endBroken :=
  List.foldlRecOn _ _ (motive := c.KeepsShow) (.refl c) fun d hd j _ => hd.trans (d.keepsShow_endIfBroken j)

theorem Chip.task_congr {c d : Chip} (h : d.tasks = c.tasks) (j : Nat) : d.task j = c.task j := by
  unfold Chip.task
  rw [h]

theorem Chip.task_failTask_same (k : Nat) (r : TaskResult) :
    (c.failTask k r).task k = { c.task k with state := .ended, result := r } :=
  (Chip.task_congr (c.failTask_parts k r).2 k).trans (c.task_setTask_same k _)

theorem Chip.task_failTask_ne {k j : Nat} (r : TaskResult) (h : j ≠ k) : (c.failTask k r).task j = c.task j :=
  (Chip.task_congr (c.failTask_parts k r).2 j).trans (c.task_setTask_ne k j _ h)

theorem Chip.task_endIfBroken (k j : Nat) : (c.endIfBroken k).task j = if j = k then c.settledTask k else c.task j := by
  unfold Chip.endIfBroken Chip.settledTask
  by_cases hj : j = k
  · subst hj
    split <;> simp [Chip.task_failTask_same]
  · split <;> simp [hj, Chip.task_failTask_ne]

/-- A task that ends so holds its slot with its GEN: nothing that awaits another slot changes. -/
theorem Chip.depBroken_endIfBroken (k : Nat) (t : Task) : (c.endIfBroken k).depBroken t = c.depBroken t := by
  have h : ((c.endIfBroken k).task (TaskRec.depSlot t.record)).gen = (c.task (TaskRec.depSlot t.record)).gen ∧
      (((c.endIfBroken k).task (TaskRec.depSlot t.record)).state == .free) =
        ((c.task (TaskRec.depSlot t.record)).state == .free) := by
    rw [c.task_endIfBroken]
    split
    · next hk =>
      rw [← hk, Chip.settledTask]
      split
      · next hb =>
        simp only [Chip.breaks, Bool.and_eq_true, beq_iff_eq] at hb
        rw [hb.1]
        exact ⟨rfl, rfl⟩
      · exact ⟨rfl, rfl⟩
    · exact ⟨rfl, rfl⟩
  rw [Chip.depBroken, Chip.depBroken, h.1, h.2]

theorem Chip.settledTask_endIfBroken (k j : Nat) : (c.endIfBroken k).settledTask j = c.settledTask j := by
  rw [Chip.settledTask, Chip.breaks, c.depBroken_endIfBroken, c.task_endIfBroken]
  split
  · next hj =>
    subst hj
    by_cases hb : c.breaks j
    · simp [Chip.settledTask, hb]
    · have hs : c.settledTask j = c.task j := if_neg hb
      rw [hs]
      exact (if_neg hb).trans rfl
  · rfl

theorem Chip.task_foldl_endIfBroken (l : List Nat) (j : Nat) : ∀ c : Chip,
    (l.foldl Chip.endIfBroken c).task j = if j ∈ l then c.settledTask j else c.task j := by
  induction l with
  | nil => exact fun c => (if_neg List.not_mem_nil).symm
  | cons k l ih =>
    intro c
    rw [List.foldl_cons, ih, c.settledTask_endIfBroken, c.task_endIfBroken]
    by_cases hj : j = k
    · simp [hj]
    · simp [hj]

/-- A slot that holds no task is free. -/
theorem Chip.task_of_not_mem {j : Nat} (h : j ∉ c.taskSlots) : c.task j = Task.reset :=
  Store.get_of_ne _ _ _ fun _ he hk => h (hk ▸ List.mem_map_of_mem he)

/-- Every waiting task whose awaited slot is gone ends, and no other changes. -/
theorem Chip.task_endBroken (j : Nat) : c.endBroken.task j = c.settledTask j := by
  rw [c.endBroken_eq, Chip.task_foldl_endIfBroken]
  split
  · rfl
  · next h => simp [Chip.settledTask, Chip.breaks, c.task_of_not_mem h, Task.reset]

theorem Chip.settledTask_of_breaks {j : Nat} (h : c.breaks j = true) :
    c.settledTask j = { c.task j with state := .ended, result := .depInvalid } := if_pos h

theorem Chip.settledTask_of_not {j : Nat} (h : c.breaks j = false) : c.settledTask j = c.task j :=
  if_neg (by simp [h])

/-! ### A slot loaded and freed (R152, R160) -/

theorem Chip.keepsShow_readyTask (k : Nat) (byTimeout : Bool) : c.KeepsShow (c.readyTask k byTimeout) := by
  unfold Chip.readyTask
  extract_lets t
  split <;> exact ⟨rfl, rfl, rfl, rfl, rfl⟩

/-- A waiting task made ready keeps its record, its GEN and its load. -/
theorem Chip.task_readyTask {k : Nat} (byTimeout : Bool) (h : (c.task k).state = .waiting) :
    ∃ order aimed, (c.readyTask k byTimeout).task k =
      { c.task k with state := .ready, toFired := byTimeout, order := order, aimed := aimed } := by
  refine ⟨c.cycle, if TaskRec.wait (c.task k).record = 2 then TaskRec.csn (c.task k).record else c.openCsn, ?_⟩
  rw [Chip.readyTask, if_pos h]
  exact c.task_setTask_same k _

/-- What a load leaves in its slot: the clamped record under the next GEN, in use, and ready where it awaits nothing. -/
theorem Chip.loadTask_parts (k rec : Nat) : c.KeepsShow (c.loadTask k rec) ∧
    ((c.loadTask k rec).task k).gen = ((c.task k).gen + 1) % 256 ∧ ((c.loadTask k rec).task k).record = clampTask rec ∧
    ((c.loadTask k rec).task k).state ≠ .free ∧ ((c.loadTask k rec).task k).loaded = c.cycle ∧
    (TaskRec.wait (clampTask rec) = 0 → ((c.loadTask k rec).task k).state = .ready) := by
  unfold Chip.loadTask
  extract_lets g _ t d
  have hd : c.KeepsShow d := .trans (d := c.setTask k t) ⟨rfl, rfl, rfl, rfl, rfl⟩ (Chip.keepsShow_endBroken _)
  have htask : d.task k = (c.setTask k t).settledTask k := Chip.task_endBroken _ k
  have ht : (c.setTask k t).task k = t := c.task_setTask_same k t
  cases hb : (c.setTask k t).breaks k with
  | true =>
    rw [Chip.settledTask_of_breaks _ hb, ht] at htask
    rw [if_neg (by simp [htask])]
    refine ⟨hd, by rw [htask], by rw [htask], by rw [htask]; exact nofun, by rw [htask], fun hwait => ?_⟩
    simp [Chip.breaks, Chip.depBroken, ht, show TaskRec.wait t.record = 0 from hwait] at hb
  | false =>
    rw [Chip.settledTask_of_not _ hb, ht] at htask
    cases hm : d.waitMet t with
    | true =>
      obtain ⟨order, aimed, hready⟩ := d.task_readyTask (k := k) false (by rw [htask])
      rw [if_pos (by rw [htask]; rfl), hready, htask]
      exact ⟨hd.trans (d.keepsShow_readyTask k false), rfl, rfl, nofun, rfl, fun _ => rfl⟩
    | false =>
      rw [if_neg (by simp), htask]
      refine ⟨hd, rfl, rfl, nofun, rfl, fun hwait => ?_⟩
      simp [Chip.waitMet, show TaskRec.wait t.record = 0 from hwait] at hm

/-- What a freed slot leaves: the GEN in it, and every task that awaited it ended. -/
theorem Chip.freeTask_parts {k : Nat} (hk : (c.task k).state = .ended) : c.KeepsShow (c.freeTask k) ∧
    ((c.freeTask k).task k).state = .free ∧ ((c.freeTask k).task k).gen = (c.task k).gen ∧
    ∀ j, (c.task j).state = .waiting → TaskRec.wait (c.task j).record = 5 → TaskRec.depSlot (c.task j).record = k →
      ((c.freeTask k).task j).state = .ended ∧ ((c.freeTask k).task j).result = .depInvalid := by
  unfold Chip.freeTask
  set d := c.setTask k { Task.reset with gen := (c.task k).gen, serial := (c.task k).serial } with hd
  have hfree : d.task k = { Task.reset with gen := (c.task k).gen, serial := (c.task k).serial } := c.task_setTask_same k _
  refine ⟨.trans (d := d) ⟨rfl, rfl, rfl, rfl, rfl⟩ d.keepsShow_endBroken, ?_, ?_, fun j hj hwait hdep => ?_⟩
  · rw [d.task_endBroken, d.settledTask_of_not (by simp [Chip.breaks, hfree, Task.reset]), hfree]
    rfl
  · rw [d.task_endBroken, d.settledTask_of_not (by simp [Chip.breaks, hfree, Task.reset]), hfree]
  · have hne : j ≠ k := fun h => by
      rw [h, hk] at hj
      exact nomatch hj
    have hsame : d.task j = c.task j := c.task_setTask_ne k j _ hne
    have hbreaks : d.breaks j = true := by
      simp [Chip.breaks, Chip.depBroken, hsame, hj, hwait, hdep, hfree, Task.reset]
    rw [d.task_endBroken, d.settledTask_of_breaks hbreaks]
    exact ⟨rfl, rfl⟩

theorem Chip.namedTask_of_held {k : Nat} (h : (c.task k).state ≠ .free) : c.namedTask k (c.task k).gen = some (c.task k) := by
  simp [Chip.namedTask, h]

theorem Chip.namedTask_of_free {k g : Nat} (h : (c.task k).state = .free) : c.namedTask k g = none := by
  simp [Chip.namedTask, h]

theorem Chip.namedTask_of_other {k g : Nat} (h : (c.task k).gen ≠ g) : c.namedTask k g = none := by
  simp [Chip.namedTask, h]

end

/-! ### The commands -/

section
variable {s : State} {h : CmdHdr} {p q : Nat} (hq : payloadOf h p = q) (ht : s.chip.takes h false = true)
include hq ht

theorem exec_showTaskLoad_of_free {k a : Nat} (hk : k = pl q 0 0 12) (ha : a = s.chip.tblBase + 0xF10000 + k * 64)
    (hu : s.chip.underActive = false) (hf : (s.chip.task k).state = .free)
    {c : Chip} (hc : c = (s.chip.noteRead 0 8 a 64).loadTask k (s.chip.fetchLE s.dram a 64)) :
    exec (.showTaskLoad h p) s = .next (s.onto (c.complete h 0x0210 0 (leBytes 1 (c.task k).gen))) := by
  show execShowTaskLoad h p s = _
  subst hk ha hc
  rw [execShowTaskLoad, firmware_taken _ _ _ _ _ _ q hq ht, if_neg (by simp [hu]), if_neg (by simp [hf])]

theorem exec_showTaskLoad_of_used {k : Nat} (hk : k = pl q 0 0 12) (hu : s.chip.underActive = false)
    (hf : (s.chip.task k).state ≠ .free) :
    exec (.showTaskLoad h p) s = .next (s.onto (s.chip.decline h 0x0210 ⟨3, 12, k⟩)) := by
  show execShowTaskLoad h p s = _
  subst hk
  rw [execShowTaskLoad, firmware_taken _ _ _ _ _ _ q hq ht, if_neg (by simp [hu]), if_pos hf]

theorem exec_showTaskLoad_of_underActive (hu : s.chip.underActive = true) :
    exec (.showTaskLoad h p) s = .next (s.onto (s.chip.decline h 0x0210 (denied 12))) := by
  show execShowTaskLoad h p s = _
  rw [execShowTaskLoad, firmware_taken _ _ _ _ _ _ q hq ht, if_pos hu]

theorem exec_showTaskCancel_of_none (hn : s.chip.namedTask (pl q 0 0 12) (pl q 0 16 8) = none) :
    exec (.showTaskCancel h p) s = .next (s.onto (s.chip.decline h 0x0211 missed)) := by
  show execShowTaskCancel h p s = _
  rw [execShowTaskCancel, firmware_taken _ _ _ _ _ _ q hq ht]
  simp only [hn]

theorem exec_showTaskCancel_of_some {t : Task} (hn : s.chip.namedTask (pl q 0 0 12) (pl q 0 16 8) = some t) :
    exec (.showTaskCancel h p) s = .next (s.onto (
      if t.state = .waiting then (s.chip.failTask (pl q 0 0 12) .cancelled).complete h 0x0211 0 []
      else if t.state = .ready then (s.chip.failTask (pl q 0 0 12) .cancelledBeforeDispatch).complete h 0x0211 0 []
      else s.chip.decline h 0x0211 missed)) := by
  show execShowTaskCancel h p s = _
  rw [execShowTaskCancel, firmware_taken _ _ _ _ _ _ q hq ht]
  simp only [hn]
  cases t.state <;> rfl

theorem exec_showTaskFree_of_none (hn : s.chip.namedTask (pl q 0 0 12) (pl q 0 16 8) = none) :
    exec (.showTaskFree h p) s = .next (s.onto (s.chip.decline h 0x0212 missed)) := by
  show execShowTaskFree h p s = _
  rw [execShowTaskFree, firmware_taken _ _ _ _ _ _ q hq ht]
  simp only [hn]

theorem exec_showTaskFree_of_some {t : Task} (hn : s.chip.namedTask (pl q 0 0 12) (pl q 0 16 8) = some t) :
    exec (.showTaskFree h p) s = .next (s.onto (
      if t.state = .ended then (s.chip.freeTask (pl q 0 0 12)).complete h 0x0212 0 []
      else s.chip.decline h 0x0212 ⟨3, 12, pl q 0 0 12⟩)) := by
  show execShowTaskFree h p s = _
  rw [execShowTaskFree, firmware_taken _ _ _ _ _ _ q hq ht]
  simp only [hn]

end

/-- Settles O33, by what stands in the slot that the command names; the slot's index as RESULT beside detail 12 is the model's choice
(log entry 42). -/
theorem taskCommandsActByTheTasksState : Obligations.TaskCommandsActByTheTasksState := by
  unfold Obligations.TaskCommandsActByTheTasksState
  intro s h p q k a hq ht hk ha
  refine ⟨fun hu hf => ?load, exec_showTaskLoad_of_used hq ht hk, exec_showTaskLoad_of_underActive hq ht,
    fun hg => ?named, fun hg => ?other⟩
  case load =>
    let c := (s.chip.noteRead 0 8 a 64).loadTask k (s.chip.fetchLE s.dram a 64)
    obtain ⟨⟨hcsn, hcycle, hcommits, -, -⟩, htasks⟩ := s.chip.noteRead_show 0 8 a 64
    have htask := Chip.task_congr htasks k
    obtain ⟨⟨hcsn', -, hcommits', -, -⟩, hgen, hrec, hheld, hloaded, hready⟩ :=
      (s.chip.noteRead 0 8 a 64).loadTask_parts k (s.chip.fetchLE s.dram a 64)
    rw [htask] at hgen
    refine ⟨_, c, exec_showTaskLoad_of_free hq ht hk ha hu hf rfl, by rw [hgen], hgen, hrec, hheld, hloaded.trans hcycle,
      hcsn'.trans hcsn, hcommits'.trans hcommits, fun hwait => hready (hrec ▸ hwait)⟩
  case named =>
    have hnamed (hf : (s.chip.task k).state ≠ .free) :
        s.chip.namedTask (pl q 0 0 12) (pl q 0 16 8) = some (s.chip.task k) := by
      rw [← hk, ← hg]
      exact s.chip.namedTask_of_held hf
    have hnone (hf : (s.chip.task k).state = .free) : s.chip.namedTask (pl q 0 0 12) (pl q 0 16 8) = none := by
      rw [← hk]
      exact s.chip.namedTask_of_free hf
    refine ⟨fun hw => ?_, fun hr => ?_, fun hw hr => ?_, fun he => ?_, fun hf => exec_showTaskFree_of_none hq ht (hnone hf),
      fun he hf => ?_⟩
    · rw [exec_showTaskCancel_of_some hq ht (hnamed (by simp [hw])), if_pos hw, hk]
    · rw [exec_showTaskCancel_of_some hq ht (hnamed (by simp [hr])), if_neg (by simp [hr]), if_pos hr, hk]
    · by_cases hf : (s.chip.task k).state = .free
      · exact exec_showTaskCancel_of_none hq ht (hnone hf)
      · rw [exec_showTaskCancel_of_some hq ht (hnamed hf), if_neg hw, if_neg hr]
        rfl
    · obtain ⟨⟨hcsn, -, -, hfades, heffects⟩, hfree, hgen, hdeps⟩ := s.chip.freeTask_parts he
      refine ⟨s.chip.freeTask k, ?_, hfree, hgen, hfades, heffects, hcsn, hdeps⟩
      rw [exec_showTaskFree_of_some hq ht (hnamed (by simp [he])), if_pos he, hk]
    · rw [exec_showTaskFree_of_some hq ht (hnamed hf), if_neg he, hk]
  case other =>
    have hnone : s.chip.namedTask (pl q 0 0 12) (pl q 0 16 8) = none := by
      rw [← hk]
      exact s.chip.namedTask_of_other hg
    exact ⟨exec_showTaskCancel_of_none hq ht hnone, exec_showTaskFree_of_none hq ht hnone⟩

end Sys2Proof.Machine
end

section
/-! SUPPORT. The dispatcher on an active isle (R158, R164, R174, R324): FADE_PEAK follows the fade slots of a cue from its forwarding on. -/

namespace Sys2Proof.Machine

open Sys2Proof

section
variable (c : Chip)

/-- What is sent over the link writes no register. -/
theorem Chip.regs_sendLink (k : LinkPayload) : (c.sendLink k).regs = c.regs :=
  List.foldlRecOn _ _ (motive := fun d : Chip => d.regs = c.regs) rfl fun _ hd _ _ => hd

/-- What is sent over the link keeps the fades, the accepted commits and those that await the standby. -/
theorem Chip.cues_sendLink (k : LinkPayload) : (c.sendLink k).fades = c.fades ∧ (c.sendLink k).commits = c.commits ∧
    (c.sendLink k).pair.mirrorWait = c.pair.mirrorWait :=
  List.foldlRecOn _ _ (motive := fun d : Chip => d.fades = c.fades ∧ d.commits = c.commits ∧ d.pair.mirrorWait = c.pair.mirrorWait)
    ⟨rfl, rfl, rfl⟩ fun _ hd _ _ => hd

/-- The fade slots in use are told by the fades and by the commits accepted or forwarded. -/
theorem Chip.fadesInUse_congr {c d : Chip} (hf : d.fades = c.fades) (hc : d.commits = c.commits) (hw : d.forwarded = c.forwarded) :
    d.fadesInUse = c.fadesInUse := by
  simp only [Chip.fadesInUse, Chip.stagedKeys, hf, hc, hw]

/-- A commit put behind those that await the standby. -/
def Chip.awaiting (c : Chip) (m : Commit) : Chip :=
  c.setPair { c.pair with mirrorWait := c.pair.mirrorWait ++ [⟨0, m, none, 0, []⟩] }

/-- A commit forwarded writes no register, and counts for the fade slots in use. -/
theorem Chip.forwardCommit_parts (w : MirrorWait) : (c.forwardCommit w).regs = c.regs ∧
    (c.forwardCommit w).fadesInUse = (c.awaiting w.commit).fadesInUse := by
  obtain ⟨hfades, hcommits, hwait⟩ := c.cues_sendLink (.commit ⟨w.commit.opcode, w.commit.target, forPeer w.commit.changes⟩)
  refine ⟨c.regs_sendLink _, Chip.fadesInUse_congr hfades hcommits ?_⟩
  simp [Chip.forwarded, Chip.forwardCommit, Chip.awaiting, Chip.setPair, hwait]

/-- The dispatcher's forwarding of a ready task's commit brings FADE_PEAK up to the slots then in use. -/
theorem exec_taskDispatch_forwarded {s : State} {k : Nat} {l : List Change} {c : Chip} (hd : s.chip.dispatches = true)
    (hn : s.chip.dispatching = none) (hk : s.chip.nextTask = some k) (hl : l = s.chip.taskChanges (s.chip.task k).record)
    (hc : c = if TaskRec.kind (s.chip.task k).record = 0 then s.chip.noteRead 0 2
      (s.chip.liveAt 9 (fld (s.chip.task k).record 0x20 0 20)).2 (8 * fld (s.chip.task k).record 0x24 0 19) else s.chip)
    (hs : c.noFadeSlots l = false) (hr : c.taskRefusal k l = none) (hm : c.mirrors l = true) :
    exec .taskDispatch s = .next (s.onto (Chip.notePeak (Chip.forwardCommit
      { c.setTask k { s.chip.task k with state := .dispatching } with dispatching := some k }
      ⟨0, ⟨none, 0, 0, c.openCsn, l, some k⟩, none, 0, []⟩))) := by
  show execTaskDispatch s = _
  rw [execTaskDispatch, onChip_eq, Chip.dispatch, if_neg (by simp [hd, hn])]
  simp only [hk, ← hl, ← hc]
  rw [if_neg (by simp [hs]), if_pos (by simp [hm, hr])]
  rfl

end

/-- The record of a cue-go of one entry: COUNT 1. -/
def cueOfOne : Nat := 2 ^ 144 * 2 ^ 144

/-- An active isle with its link up and a ready cue-go whose entry takes a fade slot. -/
def activeCue : State := { State.reset with chip := { Chip.reset with
  power := { Chip.reset.power with on := List.replicate 12 true }
  pair := { Chip.reset.pair with isle := .active, linkUp := true, mirrorOk := true }
  tasks := [(0, { Task.reset with state := .ready, record := cueOfOne })] } }

/-- The changes of the task. -/
def activeCueChanges : List Change := activeCue.chip.taskChanges cueOfOne

/-- Its commit, as it is forwarded. -/
def activeCueCommit : Commit := ⟨none, 0, 0, activeCue.chip.openCsn, activeCueChanges, some 0⟩

/-- The part with the task left DISPATCHING. -/
def activeCueDispatching : Chip :=
  { activeCue.chip.setTask 0 { activeCue.chip.task 0 with state := .dispatching } with dispatching := some 0 }

theorem activeCue_is_forwarded : activeCue.chip.dispatches = true ∧ activeCue.chip.dispatching = none ∧
    activeCue.chip.nextTask = some 0 ∧ activeCue.chip.noFadeSlots activeCueChanges = false ∧
    activeCue.chip.taskRefusal 0 activeCueChanges = none ∧ activeCue.chip.mirrors activeCueChanges = true := by decide

theorem activeCue_takes_a_slot : activeCueDispatching.rd Reg.FADE_PEAK = 0 ∧
    (activeCueDispatching.awaiting activeCueCommit).fadesInUse = 1 := by decide

/-- The cue store of the state holds no error: its read finds nothing. -/
theorem activeCue_read : activeCue.chip = if TaskRec.kind cueOfOne = 0 then
    activeCue.chip.noteRead 0 2 (activeCue.chip.liveAt 9 (fld cueOfOne 0x20 0 20)).2 (8 * fld cueOfOne 0x24 0 19)
    else activeCue.chip := by
  rw [activeCue.chip.noteRead_clean _ _ _ rfl, ite_self]

/-- Refutes O34: the cue that an active isle forwards takes its fade slot at once, so the dispatch leaves FADE_PEAK at 1 (R164, R174),
where the statement leaves it at 0. -/
theorem not_tasksBecomeReadyAndAreDispatched : ¬ Obligations.TasksBecomeReadyAndAreDispatched := by
  unfold Obligations.TasksBecomeReadyAndAreDispatched
  intro h
  obtain ⟨hd, hn, hk, hs, hr, hm⟩ := activeCue_is_forwarded
  obtain ⟨-, -, -, -, hdispatch, -⟩ := h activeCue 0 (by decide)
  obtain ⟨-, -, hstated, -⟩ := hdispatch hd hn hk cueOfOne activeCueChanges activeCue.chip rfl rfl activeCue_read
  have hmodel := exec_taskDispatch_forwarded hd hn hk rfl activeCue_read hs hr hm
  have hsame := congrArg State.chip (Host.Outcome.next.inj (hmodel.symm.trans (hstated hs hr hm)))
  obtain ⟨hregs, hslots⟩ := activeCueDispatching.forwardCommit_parts ⟨0, activeCueCommit, none, 0, []⟩
  obtain ⟨hpeak, hone⟩ := activeCue_takes_a_slot
  have hbefore := (Chip.rd_congr (off := Reg.FADE_PEAK) hregs).trans hpeak
  have hafter : (Chip.notePeak (activeCueDispatching.forwardCommit ⟨0, activeCueCommit, none, 0, []⟩)).rd Reg.FADE_PEAK = 1 := by
    rw [Chip.notePeak, Chip.rd_wr_same, hbefore, hslots, hone]
    rfl
  exact absurd (hafter.symm.trans ((congrArg (Chip.rd · Reg.FADE_PEAK) hsame).trans hbefore)) (by decide)

end Sys2Proof.Machine
end

section
/-! SUPPORT. The console input (R169 to R171): what the groups of the network leave of the sources, and what a packet makes of them. -/

namespace Sys2Proof.Machine

open Sys2Proof

/-! ### A source with a packet's data (R170, R171) -/

/-- A source with what a packet brings: it waits where it names a synchronisation address that has been heard within 2.5 s. -/
def Source.withData (x : Source) (cycle : Nat) (pkt : E131Packet) : Source :=
  let since := if pkt.syncAddr = x.syncAddr then x.syncCyc else cycle
  let y := { x with prio := pkt.prio, seq := pkt.seq, syncAddr := pkt.syncAddr, syncCyc := since, cycle := cycle }
  if pkt.syncAddr != 0 && cycle < since + sourceLimit then { y with waiting := some pkt.slots }
  else { y with current := pkt.slots, waiting := none }

section
variable (x : Source) (cycle : Nat) {pkt : E131Packet}

theorem Source.withData_parts (pkt : E131Packet) : (x.withData cycle pkt).entry = x.entry ∧ (x.withData cycle pkt).cid = x.cid ∧
    (x.withData cycle pkt).univ = x.univ ∧ (x.withData cycle pkt).prio = pkt.prio ∧ (x.withData cycle pkt).seq = pkt.seq ∧
    (x.withData cycle pkt).cycle = cycle := by
  unfold Source.withData
  extract_lets since y
  split <;> exact ⟨rfl, rfl, rfl, rfl, rfl, rfl⟩

theorem Source.same_withData (pkt : E131Packet) : x.same (x.withData cycle pkt) = true := by
  obtain ⟨he, hc, hu, -⟩ := x.withData_parts cycle pkt
  simp [Source.same, he, hc, hu]

theorem Source.withData_of_unsynced (h : pkt.syncAddr = 0) :
    (x.withData cycle pkt).current = pkt.slots ∧ (x.withData cycle pkt).waiting = none := by
  rw [Source.withData, if_neg (by simp [h])]
  exact ⟨rfl, rfl⟩

/-- A source without data, whose wait begins with the packet. -/
theorem Source.withData_of_synced (ha : x.syncAddr = pkt.syncAddr) (hs : x.syncCyc = cycle) (hc : x.current = [])
    (h : pkt.syncAddr ≠ 0) : (x.withData cycle pkt).current = [] ∧ (x.withData cycle pkt).waiting = some pkt.slots := by
  rw [Source.withData, if_pos (by simp [h, ha, hs, sourceLimit])]
  exact ⟨hc, rfl⟩

end

/-! ### What frames that leave the ports change -/

/-- Two parts that differ at most in what membership reports change: the ports, their counters, the clocks' notes and what left. -/
def Chip.SameButSends (c d : Chip) : Prop := d = { c with ports := d.ports, tbs := d.tbs, cnt := d.cnt, out := d.out }

namespace Chip.SameButSends
variable {c d e : Chip}

theorem refl (c : Chip) : c.SameButSends c := rfl

theorem trans (h : c.SameButSends d) (k : d.SameButSends e) : c.SameButSends e := by
  unfold SameButSends at *
  rw [k, h]

/-- A run of operations of which each keeps it. -/
theorem foldl {α : Type} {f : Chip → α → Chip} (hf : ∀ c e, Chip.SameButSends c (f c e)) (l : List α) (c : Chip) :
    c.SameButSends (l.foldl f c) :=
  List.foldlRecOn l f (motive := c.SameButSends) (refl c) fun _ hd e _ => hd.trans (hf _ e)

theorem sources (h : c.SameButSends d) : d.sources = c.sources := by rw [h]
theorem tables (h : c.SameButSends d) : d.tables = c.tables := by rw [h]
theorem cycle (h : c.SameButSends d) : d.cycle = c.cycle := by rw [h]
theorem regs (h : c.SameButSends d) : d.regs = c.regs := by rw [h]

end Chip.SameButSends

section
variable (c : Chip)

theorem Chip.sameButSends_setPort (p : Nat) (x : NetPort) : c.SameButSends (c.setPort p x) := rfl

theorem Chip.sameButSends_notePtp (p wait : Nat) (o : Out) : c.SameButSends (c.notePtp p wait o) := by
  unfold Chip.notePtp
  split <;> rfl

theorem Chip.sameButSends_sendOut (p n : Nat) (o : Out) : c.SameButSends (c.sendOut p n o) :=
  (c.sameButSends_notePtp p _ o).trans rfl

theorem Chip.sameButSends_sendGap (p n : Nat) (o : Out) : c.SameButSends (c.sendGap p n o) := by
  unfold Chip.sendGap
  extract_lets x
  split
  · exact .refl c
  split
  · exact c.sameButSends_setPort p _
  · exact c.sameButSends_sendOut p n o

theorem Chip.sameButSends_releaseGap (p : Nat) : c.SameButSends (c.releaseGap p) := by
  unfold Chip.releaseGap
  exact (c.sameButSends_setPort p _).trans 
    (.foldl (f := fun d (e : Nat × Out) => d.sendGap p e.1 e.2) (fun d e => d.sameButSends_sendGap p e.1 e.2) _ _)

theorem Chip.sameButSends_sendBehind (p n : Nat) (o : Out) : c.SameButSends (c.sendBehind p n o) :=
  (c.sameButSends_releaseGap p).trans (Chip.sameButSends_sendGap _ p n o)

theorem Chip.sameButSends_sendReport (p : Nat) (g : Group) (held : Bool) : c.SameButSends (c.sendReport p g held) :=
  c.sameButSends_sendBehind p _ _

theorem Chip.sameButSends_report (p : Nat) (g : Group) (held : Bool) : c.SameButSends (c.report p g held) := by
  unfold Chip.report
  split
  · exact .refl c
  · exact (c.sameButSends_sendReport p g held).trans (Chip.sameButSends_setPort _ p _)

theorem Chip.sameButSends_dropSyncs : c.SameButSends c.dropSyncs :=
  .trans (.foldl (fun d p => .trans (d.sameButSends_setPort p _) (.foldl (fun e _ => e.sameButSends_report p _ false) _ _)) _ c)
    (.foldl (fun d p => d.sameButSends_setPort p _) _ _)

/-! ### What the groups and the codes leave of the sources -/

/-- What leaves the sources and CSN_LIVE as they were. -/
def Chip.KeepsSources (c d : Chip) : Prop := d.sources = c.sources ∧ d.csn = c.csn

theorem Chip.KeepsSources.trans {c d e : Chip} (h : c.KeepsSources d) (k : d.KeepsSources e) : c.KeepsSources e :=
  ⟨k.1.trans h.1, k.2.trans h.2⟩

theorem Chip.SameButSends.keepsSources {c d : Chip} (h : c.SameButSends d) : c.KeepsSources d := by
  rw [h]
  exact ⟨rfl, rfl⟩

theorem Chip.SameButEvents.keepsSources {c d : Chip} (h : c.SameButEvents d) : c.KeepsSources d := by
  rw [h.1]
  exact ⟨rfl, rfl⟩

theorem Chip.keepsSources_joinSync (p : Nat) (g : Bool × Nat) : c.KeepsSources (c.joinSync p g) := by
  unfold Chip.joinSync
  extract_lets x c'
  split
  · exact ⟨rfl, rfl⟩
  split
  · exact (c.sameButSends_setPort p _).keepsSources.trans (c'.sameButSends_report p _ true).keepsSources
  split
  · exact ⟨rfl, rfl⟩
  · exact .trans (d := (c.setPort p _).setEvt _ _) ⟨rfl, rfl⟩ (Chip.sameButEvents_raise _ _ _ _).keepsSources

theorem Chip.keepsSources_joinSyncs (entry addr : Nat) : c.KeepsSources (c.joinSyncs entry addr) := by
  unfold Chip.joinSyncs
  extract_lets e
  split
  · exact ⟨rfl, rfl⟩
  · exact List.foldlRecOn _ _ (motive := c.KeepsSources) ⟨rfl, rfl⟩ fun d hd p _ => hd.trans (d.keepsSources_joinSync p _)

theorem Chip.keepsSources_rewritten (a n : Nat) : c.KeepsSources (c.rewritten 0 a n) :=
  List.foldlRecOn _ _ (motive := c.KeepsSources) ⟨rfl, rfl⟩ fun _ hd _ _ => hd

/-! ### A source that takes a packet, and one that is lost (R170, R171) -/

/-- A packet taken replaces the source with what it brings. -/
theorem Chip.takeData_parts (x : Source) (pkt : E131Packet) :
    (c.takeData x pkt).sources = (c.setSource (x.withData c.cycle pkt)).sources ∧ (c.takeData x pkt).csn = c.csn := by
  have hdrop := Chip.sameButSends_dropSyncs ((c.setSource (x.withData c.cycle pkt)).rewritten 0
    (c.sourceAt (x.withData c.cycle pkt) (x.withData c.cycle pkt).waiting.isSome) pkt.slots.length)
  exact (((c.setSource (x.withData c.cycle pkt)).keepsSources_rewritten _ _).trans hdrop.keepsSources).trans
    (Chip.keepsSources_joinSyncs _ _ _)

/-- A source lost leaves the others, and is counted. -/
theorem Chip.loseSource_parts (x : Source) (cause : Nat) :
    (c.loseSource x cause).sources = c.sources.filter (fun y => !y.same x) ∧ (c.loseSource x cause).tables = c.tables ∧
    (c.loseSource x cause).cycle = c.cycle ∧
    (c.loseSource x cause).rd Reg.IN_SRC_LOST_CNT = sat32 (c.rd Reg.IN_SRC_LOST_CNT + 1) := by
  let d : Chip := { c with
    sources := c.sources.filter fun y => !y.same x
    exceeded := c.exceeded.filter (· != x.entry) }
  let e : Chip := (d.inc Reg.IN_SRC_LOST_CNT).setEvt Reg.IN_EVT 1
  have hraise : e.SameButEvents (e.raise 28 0x0E04 (it4 x.entry ++ leBytes 16 x.cid ++ itCause cause)) := e.sameButEvents_raise _ _ _
  have hdrop := (e.raise 28 0x0E04 (it4 x.entry ++ leBytes 16 x.cid ++ itCause cause)).sameButSends_dropSyncs
  refine ⟨hdrop.sources.trans hraise.keepsSources.1, hdrop.tables.trans (Chip.KeepsLive.of_events hraise).2.2.1,
    hdrop.cycle.trans (by rw [hraise.1]; rfl), ?_⟩
  calc (c.loseSource x cause).rd Reg.IN_SRC_LOST_CNT
      = (e.raise 28 0x0E04 (it4 x.entry ++ leBytes 16 x.cid ++ itCause cause)).rd Reg.IN_SRC_LOST_CNT := Chip.rd_congr hdrop.regs
    _ = e.rd Reg.IN_SRC_LOST_CNT := hraise.rd_power (by decide)
    _ = (d.inc Reg.IN_SRC_LOST_CNT).rd Reg.IN_SRC_LOST_CNT := Chip.rd_setEvt_ne _ _ _ _ (by decide)
    _ = sat32 (c.rd Reg.IN_SRC_LOST_CNT + 1) := d.rd_inc_same _

/-- The clock run on to a cycle moves the clock and the time bases alone. -/
theorem Chip.runToCycle_parts (n : Nat) : (c.runToCycle n).cycle = max c.cycle n ∧ (c.runToCycle n).sources = c.sources ∧
    (c.runToCycle n).regs = c.regs :=
  ⟨add_tsub_eq_max, rfl, rfl⟩

/-- Who sent the packets of a source that is found. -/
theorem Chip.sourceOf_some {e cid : Nat} {x : Source} (h : c.sourceOf e cid = some x) :
    x.entry = e ∧ x.cid = cid ∧ x.univ = InUnivRec.univ (c.recAt 10 e) := by
  have := List.find?_some h
  simpa [and_assoc] using this

/-- A source lost is found no more. -/
theorem Chip.sourceOf_loseSource {e cid : Nat} {x : Source} (h : c.sourceOf e cid = some x) (cause : Nat) :
    (c.loseSource x cause).sourceOf e cid = none := by
  obtain ⟨hsources, htables, -, -⟩ := c.loseSource_parts x cause
  obtain ⟨he, hc, hu⟩ := c.sourceOf_some h
  have hrec : (c.loseSource x cause).recAt 10 e = c.recAt 10 e := by rw [Chip.recAt, Chip.recAt, htables]
  rw [Chip.sourceOf, hsources, hrec, List.find?_eq_none]
  intro y hy
  simp only [List.mem_filter, Source.same, he, hc, hu] at hy
  simpa [or_assoc, imp_iff_not_or] using hy.2

/-- The sources with one more. -/
def Chip.tracking (x : Source) : Chip := { c with sources := c.sources ++ [x] }

/-- A first packet is tracked with what it brings. -/
theorem Chip.takeData_tracking (x : Source) (pkt : E131Packet) :
    x.withData c.cycle pkt ∈ ((c.tracking x).takeData x pkt).sources ∧
    ((c.tracking x).takeData x pkt).sources.length = c.sources.length + 1 ∧ ((c.tracking x).takeData x pkt).csn = c.csn := by
  obtain ⟨hsources, hcsn⟩ := (c.tracking x).takeData_parts x pkt
  refine ⟨?_, ?_, hcsn⟩
  · rw [hsources]
    exact List.mem_map.mpr ⟨x, List.mem_append_right _ List.mem_cons_self, if_pos (x.same_withData _ pkt)⟩
  · rw [hsources, Chip.setSource, List.length_map]
    exact List.length_append

/-! ### A packet for an enabled entry (R170) -/

theorem Chip.inputPacket_of_discarded {e : Nat} {pkt : E131Packet} (h : pkt.preview = true ∨ pkt.startCode ≠ 0) :
    c.inputPacket e pkt = c.inc Reg.IN_DISCARD_CNT := by
  rw [Chip.inputPacket, if_pos (by simpa using h)]
  rfl

section
variable {e : Nat} {pkt : E131Packet} (hp : pkt.preview = false) (hs : pkt.startCode = 0)
include hp hs

/-- A packet of no tracked source: the fifth, one that ends a stream, or a new source. -/
theorem Chip.inputPacket_of_new (hn : c.sourceOf e pkt.cid = none) : c.inputPacket e pkt =
    if 4 ≤ (c.sources.filter fun x => x.entry == e && x.univ == pkt.univ).length then c.fifthSource e pkt.cid
    else if pkt.terminated then c else (c.tracking (c.newSource e c.cycle pkt)).takeData (c.newSource e c.cycle pkt) pkt := by
  rw [Chip.inputPacket, if_neg (by simp [hp, hs])]
  simp only [hn]
  rfl

/-- A packet of a tracked source: out of sequence, the end of its stream, or its data. -/
theorem Chip.inputPacket_of_tracked {x : Source} (hx : c.sourceOf e pkt.cid = some x) : c.inputPacket e pkt =
    if staleSeq x.seq pkt.seq then c.inc Reg.IN_DISCARD_CNT
    else if pkt.terminated then c.loseSource x 1 else c.takeData x pkt := by
  rw [Chip.inputPacket, if_neg (by simp [hp, hs])]
  simp only [hx]
  rfl

end

end

/-! ### The rows -/

section
variable (s : State) {p : Nat}

theorem exec_e131DataReceive_of_on {k : E131Packet} {e : Nat} (hp : p < 4) (hk : k.slots.length ≤ 512)
    (hd : s.chip.domainOn 6 = true) (hu : s.chip.portUp p = true) (he : s.chip.inputEntry p k.univ = some e) :
    exec (.e131DataReceive p k) s = .next (s.onto (s.chip.inputPacket e k)) := by
  show execE131DataReceive p k s = _
  simp only [execE131DataReceive, hp, hk, decide_true, Bool.and_self, within_true, onChip_eq, he, hd, hu, if_true]
  rfl

theorem exec_e131DataReceive_of_off {k : E131Packet} (hp : p < 4) (hk : k.slots.length ≤ 512)
    (h : s.chip.domainOn 6 = false ∨ s.chip.portUp p = false ∨ s.chip.inputEntry p k.univ = none) :
    exec (.e131DataReceive p k) s = .next s := by
  show execE131DataReceive p k s = _
  simp only [execE131DataReceive, hp, hk, decide_true, Bool.and_self, within_true, onChip_eq]
  cases he : s.chip.inputEntry p k.univ with
  | none => rfl
  | some e =>
    have hoff : (s.chip.domainOn 6 && s.chip.portUp p) = false := by
      rcases h with h | h | h
      · simp [h]
      · simp [h]
      · exact absurd (he.symm.trans h) nofun
    simp only [hoff, Bool.false_eq_true, if_false]

theorem exec_e131SyncReceive_of_on {cid addr : Nat} (hp : p < 4) (hd : s.chip.domainOn 6 = true) (hu : s.chip.portUp p = true) :
    exec (.e131SyncReceive p cid addr) s = .next (s.onto (s.chip.inputSync cid addr)) := by
  show execE131SyncReceive p cid addr s = _
  simp only [execE131SyncReceive, hp, decide_true, within_true, onChip_eq, hd, hu, Bool.and_self, if_true]
  rfl

theorem exec_e131SyncReceive_of_off {cid addr : Nat} (hp : p < 4)
    (h : s.chip.domainOn 6 = false ∨ s.chip.portUp p = false) : exec (.e131SyncReceive p cid addr) s = .next s := by
  show execE131SyncReceive p cid addr s = _
  rw [execE131SyncReceive, decide_eq_true hp, within_true, onChip_eq,
    if_neg (by rcases h with h | h <;> simp [h])]

variable {e cid : Nat}

theorem exec_inputTimeouts_of_none (h : s.chip.oldestSource e cid = none) :
    exec (.inputSourceTimeout e cid) s = .next s ∧ exec (.inputSyncTimeout e cid) s = .next s := by
  show execInputSourceTimeout e cid s = _ ∧ execInputSyncTimeout e cid s = _
  simp only [execInputSourceTimeout, execInputSyncTimeout, onChip_eq, h, and_self]

theorem exec_inputSourceTimeout_of_some {x : Source} (h : s.chip.oldestSource e cid = some x) :
    exec (.inputSourceTimeout e cid) s = .next (s.onto ((s.chip.runToCycle (x.cycle + 2000000000)).loseSource x 0)) := by
  show execInputSourceTimeout e cid s = _
  simp only [execInputSourceTimeout, onChip_eq, h]
  rfl

theorem exec_inputSyncTimeout_of_some {x : Source} (h : s.chip.oldestSource e cid = some x) :
    exec (.inputSyncTimeout e cid) s = .next (s.onto (if x.syncAddr = 0 then s.chip
      else (s.chip.runToCycle (x.syncCyc + 2000000000)).setSource
        { x with current := x.waiting.getD x.current, waiting := none })) := by
  show execInputSyncTimeout e cid s = _
  simp only [execInputSyncTimeout, onChip_eq, h]
  rfl

end

/-- Settles O46, a packet by what it says and by its source, a timeout by the source that it names. -/
theorem inputSourcesAreTracked : Obligations.InputSourcesAreTracked := by
  unfold Obligations.InputSourcesAreTracked
  intro s
  refine ⟨fun p k hp hk => ⟨fun e hd hu he => ?data, exec_e131DataReceive_of_off s hp hk⟩,
    fun p cid addr hp => ⟨exec_e131SyncReceive_of_on s hp, exec_e131SyncReceive_of_off s hp⟩,
    fun e cid => ⟨fun x hx => ⟨?lost, fun hsync => ?waits, fun hsync => ?current⟩, exec_inputTimeouts_of_none s⟩⟩
  case data =>
    have hexec := exec_e131DataReceive_of_on s hp hk hd hu he
    refine ⟨fun h => by rw [hexec, s.chip.inputPacket_of_discarded h], fun hpre hcode => ⟨fun hnone n hn => ?_, fun x hx => ?_⟩⟩
    · rw [s.chip.inputPacket_of_new hpre hcode hnone, ← hn] at hexec
      refine ⟨fun hlt hterm => ?_, fun hlt hterm => ?_, fun hle => ?_⟩
      · rw [if_neg (by omega), hterm, if_neg Bool.false_ne_true] at hexec
        obtain ⟨hmem, hlen, hcsn⟩ := s.chip.takeData_tracking (s.chip.newSource e s.chip.cycle k) k
        obtain ⟨hentry, hcid, huniv, hprio, hseq, hcycle⟩ := (s.chip.newSource e s.chip.cycle k).withData_parts s.chip.cycle k
        exact ⟨_, _, hexec, s.onto_dram _, hmem, hentry, hcid, huniv, hprio, hseq, hcycle, Source.withData_of_unsynced _ _,
          Source.withData_of_synced _ _ rfl rfl rfl, hlen, hcsn⟩
      · rw [hexec, if_neg (by omega), if_pos hterm]
        rfl
      · rw [hexec, if_pos hle]
    · rw [s.chip.inputPacket_of_tracked hpre hcode hx] at hexec
      refine ⟨fun hstale => ?_, fun hfresh hterm => ?_, fun hfresh hterm => ?_⟩
      · rw [hexec, if_pos hstale]
      · rw [if_neg (by simp [hfresh]), if_pos hterm] at hexec
        refine ⟨_, hexec, rfl, ?_⟩
        rw [State.onto_chip, s.chip.sourceOf_loseSource hx]
      · rw [hexec, if_neg (by simp [hfresh]), if_neg (by simp [hterm])]
  case lost =>
    obtain ⟨hsources, -, hcycle, hcnt⟩ := (s.chip.runToCycle (x.cycle + 2000000000)).loseSource_parts x 0
    obtain ⟨hrun, hkept, hregs⟩ := s.chip.runToCycle_parts (x.cycle + 2000000000)
    rw [hkept] at hsources
    rw [Chip.rd_congr hregs] at hcnt
    refine ⟨_, exec_inputSourceTimeout_of_some s hx, s.onto_dram _, ?_, fun y => ?_, ?_⟩ <;> rw [State.onto_chip]
    · rw [hcycle, hrun]
    · rw [hsources, List.mem_filter, Bool.not_eq_true']
    · exact hcnt
  case waits => rw [exec_inputSyncTimeout_of_some s hx, if_neg hsync]
  case current =>
    rw [exec_inputSyncTimeout_of_some s hx, if_pos hsync]
    rfl

end Sys2Proof.Machine
end

section
/-! SUPPORT. The packer (R191, R195 to R197, R199, R201): the decision of a universe in its two parts, what is noted and what is
sent, the close of the window, and a packet that leaves its port. -/

namespace Sys2Proof.Machine

open Sys2Proof

/-! ### What the packer's queues change -/

/-- Two parts that differ at most in what a packet that is queued or dropped changes: the ports and the counters. -/
def Chip.SameButQueues (c d : Chip) : Prop := d = { c with ports := d.ports, regs := d.regs }

/-- Two parts that differ at most in what the close of a window changes: the packer's universes, the queues and the frame. -/
def Chip.SameButPackets (c d : Chip) : Prop :=
  d = { c with univs := d.univs, ports := d.ports, regs := d.regs, frame := d.frame }

section
variable {α : Type} {c d e : Chip}

theorem Chip.SameButQueues.trans (h : c.SameButQueues d) (k : d.SameButQueues e) : c.SameButQueues e := by
  unfold SameButQueues at *
  rw [k, h]

theorem Chip.SameButQueues.foldl {f : Chip → α → Chip} (hf : ∀ c a, Chip.SameButQueues c (f c a)) (l : List α) (c : Chip) :
    c.SameButQueues (l.foldl f c) :=
  List.foldlRecOn l f (motive := c.SameButQueues) rfl fun _ hd a _ => hd.trans (hf _ a)

theorem Chip.SameButQueues.univs (h : c.SameButQueues d) : d.univs = c.univs := by rw [h]
theorem Chip.SameButQueues.frame (h : c.SameButQueues d) : d.frame = c.frame := by rw [h]

theorem Chip.SameButPackets.trans (h : c.SameButPackets d) (k : d.SameButPackets e) : c.SameButPackets e := by
  unfold SameButPackets at *
  rw [k, h]

theorem Chip.SameButPackets.foldl {f : Chip → α → Chip} (hf : ∀ c a, Chip.SameButPackets c (f c a)) (l : List α) (c : Chip) :
    c.SameButPackets (l.foldl f c) :=
  List.foldlRecOn l f (motive := c.SameButPackets) rfl fun _ hd a _ => hd.trans (hf _ a)

theorem Chip.SameButPackets.cycle (h : c.SameButPackets d) : d.cycle = c.cycle := by rw [h]

theorem Chip.SameButQueues.packets (h : c.SameButQueues d) : c.SameButPackets d := by
  unfold SameButPackets
  rw [h]

end

section
variable (c : Chip)

theorem Chip.sameButQueues_queueOn (p : Nat) (q : Queued) : c.SameButQueues (c.queueOn p q) := by
  unfold Chip.queueOn
  split <;> rfl

/-- A packet is queued under the next sequence number; the queues change beside it. -/
theorem Chip.sameButQueues_queuePacket (u : Nat) (kind : PacketKind) (check : Nat) (k : PacketSpec) :
    (c.setUniv u { c.univ u with seq := ((c.univ u).seq + 1) % 256 }).SameButQueues (c.queuePacket u kind check k) :=
  .foldl (fun d p => d.sameButQueues_queueOn p _) _ _

theorem Chip.seq_queuePacket (u : Nat) (kind : PacketKind) (check : Nat) (k : PacketSpec) :
    ((c.queuePacket u kind check k).univ u).seq = ((c.univ u).seq + 1) % 256 := by
  rw [Chip.univ, (c.sameButQueues_queuePacket u kind check k).univs]
  exact congrArg UnivState.seq (c.univ_setUniv_same u _)

/-- A packet taken by every port changes its universe alone. -/
theorem Chip.emitted_eq (u : Nat) (kind : PacketKind) (check : Nat) :
    c.emitted u kind check = { c with univs := (c.emitted u kind check).univs } := by
  unfold Chip.emitted
  extract_lets x
  split
  · rfl
  · rfl
  · rfl
  · split <;> rfl

theorem Chip.seq_emitted (u : Nat) (kind : PacketKind) (check : Nat) :
    ((c.emitted u kind check).univ u).seq = (c.univ u).seq := by
  unfold Chip.emitted
  extract_lets x
  split
  · rw [Chip.univ_setUniv_same]
  · rfl
  · rfl
  · split
    · rfl
    · rw [Chip.univ_setUniv_same]

end

/-! ### The decision of a universe (R191) -/

theorem Chip.SameButEvents.univs {c d : Chip} (h : c.SameButEvents d) : d.univs = c.univs := by rw [h.1]

/-- Why a decided universe sends a packet, if it does: a changed or forced result or a parity that does not hold, a repetition that is
left, or a keepalive that is due. -/
def UnivState.packetDue (x : UnivState) (v : Service) (chk crossCycle : Nat) : Option PacketKind :=
  if !(parity8 x.lastCheck == x.lastPar) || chk != x.lastCheck || x.force then some .changed
  else if 0 < x.repeatLeft then some .repeated
  else if decide (x.base + v.kaMs * 800000 ≤ crossCycle) then some .keepalive else none

theorem UnivState.packetDue_eq_none_iff (x : UnivState) (v : Service) (chk crossCycle : Nat) :
    x.packetDue v chk crossCycle = none ↔ parity8 x.lastCheck = x.lastPar ∧ chk = x.lastCheck ∧ x.force = false ∧
      x.repeatLeft = 0 ∧ crossCycle < x.base + v.kaMs * 800000 := by
  unfold UnivState.packetDue
  split
  · next hchanged =>
    simp only [reduceCtorEq, false_iff]
    rintro ⟨hpar, hsame, hforce, -⟩
    simp [hpar, hsame, hforce] at hchanged
  next hunchanged =>
  have hkept : parity8 x.lastCheck = x.lastPar ∧ chk = x.lastCheck ∧ x.force = false := by
    simpa [and_assoc] using hunchanged
  obtain ⟨hpar, hsame, hforce⟩ := hkept
  split
  · next hrep => simp [hrep.ne']
  next hrep =>
  have hzero : x.repeatLeft = 0 := Nat.eq_zero_of_not_pos hrep
  split
  · next hdue => simp [of_decide_eq_true hdue]
  · next hdue => simp [hpar, hsame, hforce, hzero, Nat.lt_of_not_le (of_decide_eq_false (Bool.eq_false_iff.mpr hdue))]

/-- The part with a universe decided, and a parity that does not hold told, once in the frame. -/
def Chip.decisionTold (c : Chip) (u : Nat) : Chip :=
  let good := parity8 (c.univ u).lastCheck == (c.univ u).lastPar
  let c := { c with frame := { c.frame with decided := u :: c.frame.decided } }
  if good || c.frame.univSeen then c
  else
    let n := (c.services.filter fun e => parity8 (c.univ e.1).lastCheck != (c.univ e.1).lastPar).length
    (({ c with frame := { c.frame with univSeen := true } } : Chip).setEvt Reg.PK_EVT 4).raise 29 0x0F03
      (it8 c.frame.csn ++ it4 u ++ it4 n)

/-- The part with a decision noted before anything is sent. -/
def Chip.decisionNoted (c : Chip) (u chk : Nat) : Chip :=
  let c := c.decisionTold u
  if c.pair.inPair then c.noteCheck u chk else c

/-- What a decision to send does: the packet queued, or counted by a standby's shadow (R320), and the universe's state once every port has
taken it. -/
def Chip.sendDecided (c : Chip) (u : Nat) (v : Service) (slots : List Byte) (chk : Nat) (kind : PacketKind) : Chip :=
  let c := if c.emits then c.queuePacket u kind chk (c.packetSpec v slots)
    else c.setUniv u { c.univ u with seq := ((c.univ u).seq + 1) % 256 }
  if c.stillQueued u then c else c.emitted u kind chk

section
variable (c : Chip) (u : Nat)

theorem Chip.decideOne_eq (v : Service) (slots : List Byte) (chk : Nat) (hs : slots = c.slotsOf u v.slots)
    (hc : chk = univCheck v.univ slots) :
    c.decideOne u v = ((c.univ u).packetDue v chk (c.decisionNoted u chk).fg.crossCycle).elim (c.decisionNoted u chk)
      ((c.decisionNoted u chk).sendDecided u v slots chk) := by
  subst hc hs
  show (match (c.univ u).packetDue v _ (c.decisionNoted u _).fg.crossCycle with
    | none => c.decisionNoted u _
    | some kind => (c.decisionNoted u _).sendDecided u v (c.slotsOf u v.slots) _ kind) = _
  generalize (c.univ u).packetDue v _ _ = due
  cases due <;> rfl

theorem Chip.decisionTold_parts : (c.decisionTold u).univs = c.univs ∧ (c.decisionTold u).fg = c.fg ∧
    (c.decisionTold u).csn = c.csn ∧ (c.decisionTold u).frame.decided = u :: c.frame.decided := by
  unfold Chip.decisionTold
  extract_lets good frame d n
  split
  · exact ⟨rfl, rfl, rfl, rfl⟩
  · have hraise := Chip.sameButEvents_raise (Chip.setEvt { d with frame := { d.frame with univSeen := true } } Reg.PK_EVT 4) 29
      0x0F03 (it8 d.frame.csn ++ it4 u ++ it4 n)
    exact ⟨hraise.univs, hraise.fg, hraise.csn, congrArg Frame.decided hraise.frame⟩

theorem Chip.decisionNoted_parts (chk : Nat) : (c.decisionNoted u chk).univs = c.univs ∧ (c.decisionNoted u chk).fg = c.fg ∧
    (c.decisionNoted u chk).csn = c.csn ∧ (c.decisionNoted u chk).frame.decided = u :: c.frame.decided := by
  unfold Chip.decisionNoted
  extract_lets d
  split
  · exact c.decisionTold_parts u
  · exact c.decisionTold_parts u

/-- With a parity that holds, nothing is told. -/
theorem Chip.decisionTold_of_parity (h : parity8 (c.univ u).lastCheck = (c.univ u).lastPar) :
    c.decisionTold u = { c with frame := { c.frame with decided := u :: c.frame.decided } } := by
  rw [Chip.decisionTold, beq_iff_eq.mpr h]
  rfl

theorem Chip.decisionNoted_of_parity (chk : Nat) (h : parity8 (c.univ u).lastCheck = (c.univ u).lastPar) :
    (c.decisionNoted u chk).ports = c.ports ∧ (c.decisionNoted u chk).out = c.out := by
  rw [Chip.decisionNoted, c.decisionTold_of_parity u h]
  split <;> exact ⟨rfl, rfl⟩

/-- A decision to send takes the next sequence number, and leaves the frame and CSN_LIVE. -/
theorem Chip.sendDecided_parts (v : Service) (slots : List Byte) (chk : Nat) (kind : PacketKind) :
    ((c.sendDecided u v slots chk kind).univ u).seq = ((c.univ u).seq + 1) % 256 ∧
    (c.sendDecided u v slots chk kind).frame = c.frame ∧ (c.sendDecided u v slots chk kind).csn = c.csn := by
  unfold Chip.sendDecided
  extract_lets x d
  have hd : (d.univ u).seq = ((c.univ u).seq + 1) % 256 ∧ d.frame = c.frame ∧ d.csn = c.csn := by
    unfold d
    split
    · exact ⟨c.seq_queuePacket u kind chk _, (c.sameButQueues_queuePacket u kind chk _).frame,
        (c.keepsLive_queuePacket u kind chk _).1⟩
    · exact ⟨congrArg UnivState.seq (c.univ_setUniv_same u _), rfl, rfl⟩
  split
  · exact hd
  · obtain ⟨hseq, hframe, hcsn⟩ := hd
    exact ⟨(d.seq_emitted u kind chk).trans hseq, (congrArg Chip.frame (d.emitted_eq u kind chk)).trans hframe,
      (d.keepsLive_emitted u kind chk).1.trans hcsn⟩

/-- A universe decided is noted so, whatever it sends. -/
theorem Chip.decideOne_parts (v : Service) : u ∈ (c.decideOne u v).frame.decided ∧ (c.decideOne u v).csn = c.csn := by
  obtain ⟨-, -, hcsn, hdecided⟩ := c.decisionNoted_parts u (univCheck v.univ (c.slotsOf u v.slots))
  have hmem := hdecided ▸ List.mem_cons_self (a := u) (l := c.frame.decided)
  rw [c.decideOne_eq u v _ _ rfl rfl]
  cases (c.univ u).packetDue v _ _ with
  | none => exact ⟨hmem, hcsn⟩
  | some kind =>
    obtain ⟨-, hframe, hsent⟩ := Chip.sendDecided_parts (c.decisionNoted u _) u v (c.slotsOf u v.slots) _ kind
    exact ⟨by rw [Option.elim_some, hframe]; exact hmem, hsent.trans hcsn⟩

variable {v : Service} {chk : Nat} (hchk : chk = univCheck v.univ (c.slotsOf u v.slots))
include hchk

/-- A universe that has a packet to send takes the next sequence number. -/
theorem Chip.decideOne_of_due (h : (c.univ u).packetDue v chk c.fg.crossCycle ≠ none) :
    ((c.decideOne u v).univ u).seq = ((c.univ u).seq + 1) % 256 := by
  obtain ⟨hunivs, hfg, -, -⟩ := c.decisionNoted_parts u chk
  obtain ⟨kind, hkind⟩ := Option.ne_none_iff_exists'.mp h
  rw [c.decideOne_eq u v _ chk rfl hchk, hfg, hkind, Option.elim_some, (Chip.sendDecided_parts _ u v _ chk kind).1,
    Chip.univ, hunivs]
  rfl

/-- A universe that has none sends nothing. -/
theorem Chip.decideOne_of_not (hpar : parity8 (c.univ u).lastCheck = (c.univ u).lastPar)
    (h : (c.univ u).packetDue v chk c.fg.crossCycle = none) : (c.decideOne u v).univs = c.univs ∧
    (c.decideOne u v).ports = c.ports ∧ (c.decideOne u v).out = c.out := by
  obtain ⟨hunivs, hfg, -, -⟩ := c.decisionNoted_parts u chk
  rw [c.decideOne_eq u v _ chk rfl hchk, hfg, h]
  exact ⟨hunivs, c.decisionNoted_of_parity u chk hpar⟩

end

/-! ### The close of the window (R195, R196) -/

section
variable (c : Chip)

theorem Chip.sameButPackets_setUniv (u : Nat) (x : UnivState) : c.SameButPackets (c.setUniv u x) := rfl

theorem Chip.sameButPackets_setPort (p : Nat) (x : NetPort) : c.SameButPackets (c.setPort p x) := rfl

theorem Chip.sameButPackets_add (off n : Nat) : c.SameButPackets (c.add off n) := rfl

theorem Chip.sameButPackets_queueTerm (u : Nat) : c.SameButPackets (c.queueTerm u) := by
  unfold Chip.queueTerm
  extract_lets x left d
  split
  · exact .trans (d := d.setUniv u _) rfl (d.sameButQueues_queuePacket u .term 0 _).packets
  · rfl

theorem Chip.sameButPackets_queueTerms : c.SameButPackets c.queueTerms := by
  unfold Chip.queueTerms
  split
  · rfl
  · exact .trans (d := { c with frame := { c.frame with termsBuilt := true } }) rfl
      (.foldl (fun d (e : Nat × UnivState) => d.sameButPackets_queueTerm e.1) _ _)

theorem Chip.sameButPackets_settleLpi : c.SameButPackets c.settleLpi := by
  unfold Chip.settleLpi
  refine .foldl (fun d p => ?_) _ c
  split <;> rfl

/-- The cells of a frame abandoned: no fixture is under way. -/
theorem Chip.abandonCells_parts : c.abandonCells.frame.issued = [] ∧ c.abandonCells.frame.parked = [] ∧
    c.abandonCells.frame.windowOpen = c.frame.windowOpen ∧ c.abandonCells.frame.windowDone = c.frame.windowDone ∧
    c.abandonCells.cycle = c.cycle := by
  unfold Chip.abandonCells
  extract_lets left n d
  split <;> exact ⟨rfl, rfl, rfl, rfl, rfl⟩

/-- The part at the close of a window that has not passed, its terminations built and what has not started dropped. -/
def Chip.packetsDropped (c : Chip) : Chip :=
  let c := c.settleLpi.queueTerms
  let terms := ((List.range 4).map fun p => ((c.port p).queue.filter fun q => q.kind == .term).length).sum
  let c := c.leftUnemitted.foldl (fun c u => c.setUniv u { c.univ u with overrun := true }) c
  let c := (List.range 4).foldl (fun c p =>
    c.setPort p { c.port p with queue := (c.port p).queue.filter fun q => q.kind == .sync || q.kind == .hold }) c
  c.add Reg.PK_TERM_DROP_CNT terms

theorem Chip.sameButPackets_packetsDropped : c.SameButPackets c.packetsDropped := by
  unfold Chip.packetsDropped
  extract_lets c₁ terms c₂ c₃
  have h₁ : c.SameButPackets c₁ := c.sameButPackets_settleLpi.trans c.settleLpi.sameButPackets_queueTerms
  have h₂ : c₁.SameButPackets c₂ := .foldl (fun d u => d.sameButPackets_setUniv u _) _ c₁
  have h₃ : c₂.SameButPackets c₃ := .foldl (fun d p => d.sameButPackets_setPort p _) _ c₂
  exact ((h₁.trans h₂).trans h₃).trans (c₃.sameButPackets_add _ _)

/-- The frame's window over, with what it leaves unemitted. -/
def Chip.windowOver (c : Chip) (left : List Nat) : Chip :=
  { c with frame := { c.frame with unemitted := left, windowOpen := false, windowDone := true } }

theorem Chip.closeWindow_eq (h : c.frame.windowDone = false) :
    c.closeWindow = (c.packetsDropped.windowOver c.settleLpi.queueTerms.leftUnemitted).abandonCells := by
  rw [Chip.closeWindow, if_neg (ne_true_of_eq_false h)]
  rfl

theorem Chip.closeWindow_parts (h : c.frame.windowDone = false) : c.closeWindow.frame.windowOpen = false ∧
    c.closeWindow.frame.windowDone = true ∧ c.closeWindow.frame.issued = [] ∧ c.closeWindow.frame.parked = [] ∧
    c.closeWindow.cycle = c.cycle := by
  obtain ⟨d, hd⟩ : ∃ d, d = c.packetsDropped := ⟨_, rfl⟩
  obtain ⟨hissued, hparked, hopen, hdone, hcycle⟩ := (d.windowOver c.settleLpi.queueTerms.leftUnemitted).abandonCells_parts
  rw [c.closeWindow_eq h, ← hd]
  refine ⟨hopen, hdone, hissued, hparked, hcycle.trans (Eq.trans (b := d.cycle) rfl ?_)⟩
  rw [hd, c.sameButPackets_packetsDropped.cycle]

end

/-! ### A packet that leaves its port (R197) -/

section
variable (c : Chip)

/-- What is sent on a port ends its idle and takes its line; its queue and its pacing stay. -/
theorem Chip.port_sendOut (p n : Nat) (o : Out) : ((c.sendOut p n o).port p).queue = (c.port p).queue ∧
    ((c.sendOut p n o).port p).prevStart = (c.port p).prevStart := by
  have hsent : (c.sendOut p n o).port p =
      { c.port p with lpiTx := false, txEnd := c.startOf p + c.lineCycles p (max 60 n + 24) } :=
    Chip.port_setPort_same (c.notePtp p (c.startOf p - c.cycle) o) p _
  rw [hsent]
  exact ⟨rfl, rfl⟩

/-- A packet started leaves its port's queue, and its start is the port's last. -/
theorem Chip.startPacket_parts (p : Nat) (q : Queued) : (c.startPacket p q).out = .frame p q.octets :: c.out ∧
    (c.startPacket p q).cycle = c.cycle ∧ ((c.startPacket p q).port p).queue = (c.port p).queue.erase q ∧
    ((c.startPacket p q).port p).prevStart = c.cycle := by
  unfold Chip.startPacket
  extract_lets x d e
  have he : e.out = .frame p q.octets :: c.out ∧ e.cycle = c.cycle ∧ (e.port p).queue = (c.port p).queue.erase q ∧
      (e.port p).prevStart = c.cycle := by
    obtain ⟨hqueue, hstart⟩ := d.port_sendOut p q.octets.length (.frame p q.octets)
    have hport : d.port p = _ := c.port_setPort_same p _
    refine ⟨(d.sendOut_parts p _ 0 _).1, (d.sameButSends_sendOut p _ _).cycle, hqueue.trans ?_, hstart.trans ?_⟩ <;> rw [hport]
  split
  · exact he
  · rw [e.emitted_eq]
    exact he

end

/-! ### The rows -/

/-- Whether a universe may be decided now: once in a frame, in its window or before, by a packer that is on. -/
def Chip.mayDecide (c : Chip) (u : Nat) : Bool :=
  c.domainOn 7 && decide (0 < c.frame.csn) && !c.frame.windowDone && !c.frame.decided.contains u &&
    !c.frame.corrupt.contains u && c.univReady u

section
variable (s : State) {u : Nat} (hu : u < 49152)
include hu

theorem exec_universeDecide_of_may {v : Service} (hv : s.chip.serviceOf u = some v) (hm : s.chip.mayDecide u = true) :
    exec (.universeDecide u) s = .next (s.onto (s.chip.decideUniv u v)) := by
  show execUniverseDecide u s = _
  rw [execUniverseDecide, decide_eq_true hu, within_true, onChip_eq, hv]
  exact congrArg (fun c => Host.Outcome.next (s.onto c)) (if_pos hm)

theorem exec_universeDecide_of_not (h : s.chip.serviceOf u = none ∨ s.chip.mayDecide u = false) :
    exec (.universeDecide u) s = .next s := by
  show execUniverseDecide u s = _
  rw [execUniverseDecide, decide_eq_true hu, within_true, onChip_eq]
  cases hv : s.chip.serviceOf u with
  | none => rfl
  | some v =>
    have hm := h.resolve_left (by simp [hv])
    exact congrArg (fun c => Host.Outcome.next (s.onto c)) (if_neg (ne_true_of_eq_false hm))

end

section
variable (s : State)

section
variable (hd : s.chip.domainOn 7 = true) (hcsn : 0 < s.chip.frame.csn) (hdone : s.chip.frame.windowDone = false)
include hd hcsn hdone

theorem exec_emissionWindowOpen_of_closed (h : s.chip.frame.windowOpen = false) : ∀ c : Chip,
    c = s.chip.runToCycle s.chip.frame.openCycle →
    exec .emissionWindowOpen s = .next (s.onto { c with frame := { c.frame with windowOpen := true } }) := by
  rintro c rfl
  show execEmissionWindowOpen s = _
  rw [execEmissionWindowOpen, onChip_eq, if_pos (by simp [hd, hcsn, hdone, h])]
  rfl

theorem exec_emissionWindowClose_of_due :
    exec .emissionWindowClose s = .next (s.onto (s.chip.runToCycle s.chip.frame.closeCycle).closeWindow) := by
  show execEmissionWindowClose s = _
  rw [execEmissionWindowClose, onChip_eq, if_pos (by simp [hd, hcsn, hdone])]
  rfl

end

theorem exec_emissionWindow_of_not
    (h : s.chip.domainOn 7 = false ∨ s.chip.frame.csn = 0 ∨ s.chip.frame.windowDone = true) :
    exec .emissionWindowOpen s = .next s ∧ exec .emissionWindowClose s = .next s := by
  have hoff : (s.chip.domainOn 7 && decide (0 < s.chip.frame.csn) && !s.chip.frame.windowDone) = false := by
    rcases h with h | h | h <;> simp [h]
  show execEmissionWindowOpen s = _ ∧ execEmissionWindowClose s = _
  rw [execEmissionWindowOpen, execEmissionWindowClose, onChip_eq, onChip_eq, hoff]
  exact ⟨rfl, rfl⟩

theorem exec_emissionWindowOpen_of_open (h : s.chip.frame.windowOpen = true) : exec .emissionWindowOpen s = .next s := by
  show execEmissionWindowOpen s = _
  rw [execEmissionWindowOpen, onChip_eq, if_neg (by simp [h])]

/-- Whether a port's next packet may start at a cycle, the part then being `c`: no PAUSE holds the port, the next crossing does not come
first, and the window is open still, or the packet is of a hold. -/
def Chip.mayStart (s c : Chip) (p : Nat) (q : Queued) (at_ : Nat) : Bool :=
  s.portUp p && !s.paused p && s.domainOn 7 && !c.meetsCrossing p q.octets.length &&
    (q.kind == .hold || s.frame.windowOpen && decide (at_ < s.frame.closeCycle))

variable {p : Nat} (hp : p < 4)

section
include hp

theorem exec_packetStart_of_some {q : Queued} {at_ : Nat} {c : Chip} (hq : s.chip.nextPacket p = some q)
    (hat : at_ = max (s.chip.startOf p) (s.chip.floorOf p q)) (hc : c = s.chip.runToCycle at_) : exec (.packetStart p) s =
    .next (s.onto (if s.chip.mayStart c p q at_ then c.startPacket p q else s.chip)) := by
  subst hc hat
  show execPacketStart p s = _
  rw [execPacketStart, decide_eq_true hp, within_true, onChip_eq, hq]
  rfl

theorem exec_packetStart_of_none (h : s.chip.nextPacket p = none) : exec (.packetStart p) s = .next s := by
  show execPacketStart p s = _
  rw [execPacketStart, decide_eq_true hp, within_true, onChip_eq, h]

end

/-- Whether a universe's last packet may be repeated: the generator is held, the frame's window is over, and nothing of the universe
waits. -/
def Chip.mayHold (c : Chip) (u : Nat) : Bool :=
  decide (c.fg.mode = .held) && c.emits && c.domainOn 7 && c.frame.windowDone && !c.stillQueued u

variable {u : Nat} (hu : u < 49152)
include hu

theorem exec_holdKeepalive_of_may {v : Service} {k : PacketSpec} {due : Nat} {c : Chip} (hv : s.chip.serviceOf u = some v)
    (hk : (s.chip.univ u).lastSpec = some k) (hm : s.chip.mayHold u = true)
    (hdue : due = (s.chip.univ u).base + v.kaMs * 800000) (hc : c = (s.chip.runToCycle due).queuePacket u .hold due k) :
    exec (.holdKeepalive u) s = .next (s.onto (if c.stillQueued u then c else c.emitted u .hold due)) := by
  subst hc hdue
  show execHoldKeepalive u s = _
  rw [execHoldKeepalive, decide_eq_true hu, within_true, onChip_eq, hv, hk]
  exact congrArg (fun c => Host.Outcome.next (s.onto c)) (if_pos hm)

theorem exec_holdKeepalive_of_not
    (h : s.chip.serviceOf u = none ∨ (s.chip.univ u).lastSpec = none ∨ s.chip.mayHold u = false) :
    exec (.holdKeepalive u) s = .next s := by
  show execHoldKeepalive u s = _
  rw [execHoldKeepalive, decide_eq_true hu, within_true, onChip_eq]
  cases hv : s.chip.serviceOf u with
  | none => rfl
  | some v =>
    cases hk : (s.chip.univ u).lastSpec with
    | none => rfl
    | some k =>
      have hm := (h.resolve_left (by simp [hv])).resolve_left (by simp [hk])
      exact congrArg (fun c => Host.Outcome.next (s.onto c)) (if_neg (ne_true_of_eq_false hm))

end

/-- Settles O45: a universe decided, the window's instants, a packet that may start or must wait, and a keepalive of a hold. -/
theorem universesAreDecidedAndPaced : Obligations.UniversesAreDecidedAndPaced := by
  unfold Obligations.UniversesAreDecidedAndPaced
  intro s
  refine ⟨fun u may hu hmay => ⟨fun v x chk hv hm hx hchk => ?decided, ?undecided⟩,
    fun hd hcsn hdone => ⟨exec_emissionWindowOpen_of_closed s hd hcsn hdone, ?closed⟩, exec_emissionWindow_of_not s,
    exec_emissionWindowOpen_of_open s, fun p hp => ⟨fun q at_ c goes hq hat hc hgoes => ?started, exec_packetStart_of_none s hp⟩,
    fun u may hu hmay => ⟨fun v k due c hv hk hm => ?held, ?unheld⟩⟩
  case decided =>
    subst hmay hx
    obtain ⟨hdecided, hcsn⟩ := s.chip.decideOne_parts u v
    have hdue := (s.chip.univ u).packetDue_eq_none_iff v chk s.chip.fg.crossCycle
    refine ⟨_, exec_universeDecide_of_may s hu hv hm, hdecided, hcsn, fun h => ?_, fun hpar hsame hforce hrep hka => ?_⟩
    · refine s.chip.decideOne_of_due u hchk fun hnone => ?_
      obtain ⟨hpar, hsame, hforce, hrep, hka⟩ := hdue.mp hnone
      rcases h with h | h | h | h | h
      · exact h hpar
      · exact h hsame
      · exact Bool.false_ne_true (hforce.symm.trans h)
      · omega
      · omega
    · exact s.chip.decideOne_of_not u hchk hpar (hdue.mpr ⟨hpar, hsame, hforce, hrep, hka⟩)
  case undecided =>
    subst hmay
    exact exec_universeDecide_of_not s hu
  case closed =>
    obtain ⟨hopen, hclosed, hissued, hparked, hcycle⟩ := (s.chip.runToCycle s.chip.frame.closeCycle).closeWindow_parts hdone
    exact ⟨_, exec_emissionWindowClose_of_due s hd hcsn hdone, rfl, hopen, hclosed, hissued, hparked,
      hcycle.trans (s.chip.runToCycle_parts _).1⟩
  case started =>
    have hexec := exec_packetStart_of_some s hp hq hat hc
    rw [show s.chip.mayStart c p q at_ = goes from hgoes.symm] at hexec
    refine ⟨fun hgo => ?_, fun hstay => ?_⟩
    · rw [if_pos hgo] at hexec
      obtain ⟨hout, hcycle, hqueue, hstart⟩ := c.startPacket_parts p q
      have hreach : c.cycle = at_ := by
        have hahead : s.chip.cycle ≤ at_ := by
          rw [hat]
          exact le_max_of_le_left (le_add_right (le_max_left _ _))
        rw [hc, (s.chip.runToCycle_parts at_).1, max_eq_right hahead]
      refine ⟨_, hexec, rfl, hout.trans ?_, hcycle.trans hreach, hqueue.trans ?_, hstart.trans hreach⟩ <;> rw [hc] <;> rfl
    · rw [hexec, if_neg (ne_true_of_eq_false hstay), State.onto_self]
  case held =>
    subst hmay
    exact exec_holdKeepalive_of_may s hu hv hk hm
  case unheld =>
    subst hmay
    exact exec_holdKeepalive_of_not s hu

end Sys2Proof.Machine
end

section
/-! SUPPORT. What the ports send beside the show (R199, R239, R241, R242, R254, R277, R311): the rows as they answer, case by case. -/

namespace Sys2Proof.Machine

open Sys2Proof

/-! ### The rows of a port -/

section
variable (s : State) {p : Nat} (hp : p < 5)
include hp

theorem exec_membershipReportRepeat_of_up (hu : s.chip.portUp p = true) : exec (.membershipReportRepeat p) s = .next (s.onto
    ((s.chip.port p).reports.foldl (fun c e => c.sendReport p e.1 e.2)
      (s.chip.setPort p { s.chip.port p with reports := [] }))) := by
  show execMembershipReportRepeat p s = _
  rw [execMembershipReportRepeat, decide_eq_true hp, within_true, onChip_eq, if_pos hu]
  rfl

theorem exec_membershipReportRepeat_of_down (hu : s.chip.portUp p = false) : exec (.membershipReportRepeat p) s = .next s := by
  show execMembershipReportRepeat p s = _
  rw [execMembershipReportRepeat, decide_eq_true hp, within_true, onChip_eq, if_neg (ne_true_of_eq_false hu)]

theorem exec_lldpSend_of_on {c : Chip} (hu : s.chip.portUp p = true) (hon : bit (s.chip.lv (Reg.NET_MODE p)) 8 = true)
    (hc : c = s.chip.runToCycle (s.chip.port p).lldpAt) : exec (.lldpSend p) s =
    .next (s.onto ((c.setPort p { s.chip.port p with lldpAt := c.cycle + 24000000000 }).sendBehind p 60
      (.lldp p 120 (s.chip.lldpWake p)))) := by
  subst hc
  show execLldpSend p s = _
  rw [execLldpSend, decide_eq_true hp, within_true, onChip_eq, if_pos (Bool.and_eq_true_iff.mpr ⟨hu, hon⟩)]
  rfl

theorem exec_lldpSend_of_off (h : s.chip.portUp p = false ∨ bit (s.chip.lv (Reg.NET_MODE p)) 8 = false) :
    exec (.lldpSend p) s = .next s := by
  show execLldpSend p s = _
  rw [execLldpSend, decide_eq_true hp, within_true, onChip_eq,
    if_neg (ne_true_of_eq_false (Bool.and_eq_false_iff.mpr h))]

theorem exec_lpiWake : exec (.lpiWake p) s = .next (s.onto (s.chip.setPort p { s.chip.port p with lpiTx := false })) := by
  show execLpiWake p s = _
  rw [execLpiWake, decide_eq_true hp, within_true, onChip_eq]
  rfl

end

/-! ### Low-power idle (R241, R242) -/

/-- Whether a port may enter low-power idle: it may use it, it is not in it, and nothing waits. -/
def Chip.mayIdle (c : Chip) (p : Nat) : Bool :=
  c.lpiAllowed p && !c.lpiNow p && (c.port p).queue.isEmpty && (c.port p).backlog.isEmpty

/-- As LPI_ENTER asks it. -/
theorem Chip.not_mayIdle (c : Chip) (p : Nat) :
    (!c.lpiAllowed p || c.lpiNow p || !(c.port p).queue.isEmpty || !(c.port p).backlog.isEmpty) = !c.mayIdle p := by
  rw [Chip.mayIdle]
  simp only [Bool.not_and, Bool.not_not]

/-- Whether nothing that a port knows of is due within its wake time and 2 µs. -/
def Chip.idleFits (c : Chip) (p : Nat) : Bool :=
  match c.nextSend p with
  | none => true
  | some t => decide (c.cycle + (c.wakeCycles p + 1600) ≤ t)

/-- The part at the instant at which a port with nothing to send has been quiet for its delay. -/
def Chip.quietFrom (c : Chip) (p : Nat) : Chip := 
  c.runToCycle ((c.port p).txEnd + usCycles (bits (c.lv (Reg.NET_EEE p)) 8 8))

section
variable (s : State) {p : Nat} (hp : p < 5)
include hp

theorem exec_lpiEnter_of_may (hm : s.chip.mayIdle p = true) : exec (.lpiEnter p) s = .next (s.onto
    (if (s.chip.quietFrom p).idleFits p then
      ((s.chip.quietFrom p).setPort p { s.chip.port p with lpiTx := true }).cntAdd p 0xD0 1
    else s.chip.quietFrom p)) := by
  show execLpiEnter p s = _
  rw [execLpiEnter, decide_eq_true hp, within_true, onChip_eq]
  exact congrArg (fun c => Host.Outcome.next (s.onto c)) (if_neg (by rw [s.chip.not_mayIdle, hm]; decide))

theorem exec_lpiEnter_of_not (hm : s.chip.mayIdle p = false) : exec (.lpiEnter p) s = .next s := by
  show execLpiEnter p s = _
  rw [execLpiEnter, decide_eq_true hp, within_true, onChip_eq]
  exact congrArg (fun c => Host.Outcome.next (s.onto c)) (if_pos (by rw [s.chip.not_mayIdle, hm]; decide))

end

/-! ### Solicitations (R311) -/

section
variable (s : State)

theorem Chip.port_runToCycle (c : Chip) (n p : Nat) : (c.runToCycle n).port p = c.port p := rfl

/-- The 100 ms that a solicitation waits for its answer. -/
theorem usCycles_solicit : usCycles 100000 = 80000000 := by norm_num [usCycles]

theorem exec_neighbourSolicitRetry_of_cons {p : Nat} (hp : p < 5) {q : Solicit} {r : List Solicit} {c : Chip}
    (hq : (s.chip.port p).solicits = q :: r) (hc : c = s.chip.runToCycle (q.since + usCycles 100000)) :
    exec (.neighbourSolicitRetry p) s = .next (s.onto
      (if q.tries < 3 then
        (c.setPort p { c.port p with solicits := r ++ [{ q with tries := q.tries + 1, since := c.cycle }] }).solicit p
          { q with tries := q.tries + 1, since := c.cycle }
      else (c.setPort p { c.port p with solicits := r }).respondTo q.chan 0x0512 q.tag ⟨0xD, 0, c.csn, []⟩)) := by
  subst hc
  show execNeighbourSolicitRetry p s = _
  rw [execNeighbourSolicitRetry, decide_eq_true hp, within_true, onChip_eq, hq]
  rfl

theorem exec_neighbourSolicitRetry_of_nil {p : Nat} (hp : p < 5) (hq : (s.chip.port p).solicits = []) :
    exec (.neighbourSolicitRetry p) s = .next s := by
  show execNeighbourSolicitRetry p s = _
  rw [execNeighbourSolicitRetry, decide_eq_true hp, within_true, onChip_eq, hq]

theorem exec_netNeighbourResolve_of_taken {h : CmdHdr} {p q port : Nat} {v6 : Bool} {k : Solicit} (hq : payloadOf h p = q)
    (ht : s.chip.takes h false = true) (hport : port = min 4 (pl q 0 0 3)) (hv6 : v6 = bit (pl q 0 0 32) 3)
    (hk : k = ⟨some h.chan, h.tag, v6, ofBE (leBytes (if v6 then 16 else 4) (q / 2 ^ 32)), 1, s.chip.cycle⟩) :
    exec (.netNeighbourResolve h p) s = .next (s.onto
      ((s.chip.setPort port { s.chip.port port with solicits := (s.chip.port port).solicits ++ [k] }).solicit port k)) := by
  subst hk hv6 hport
  show execNetNeighbourResolve h p s = _
  rw [execNetNeighbourResolve, firmware_taken _ _ _ _ _ _ q hq ht]

/-! ### Transmit jobs (R277) -/

/-- The part with the entry at CONS of a ring taken. -/
def Chip.withEntry (c : Chip) (r : Nat) : Chip := if (c.ring r).taken then c else c.takeEntry r

/-- What a transmit job whose entry is taken comes to: its frame sent, or TX_JOB_FAILED. -/
def Chip.runJob (c : Chip) (r e : Nat) (fetched : Option (List Byte)) : Chip :=
  if !c.portUp (jobPort e) then c.jobFailed r (jobPort e) 1
  else fetched.elim (c.jobFailed r (jobPort e) 2) (c.sendJob r (jobPort e) e)

variable {r : Nat} (hr : r < 256)
include hr

theorem exec_txJobSend_of_some {e : Nat} (he : s.chip.frontEntry r 2 = some e) (l : Option (List Byte)) :
    exec (.txJobSend r l) s = .next (s.onto ((s.chip.withEntry r).runJob r e l)) := by
  show execTxJobSend r l s = _
  rw [execTxJobSend, decide_eq_true hr, within_true, onChip_eq, he]
  cases l <;> rfl

theorem exec_txJobSend_of_none (he : s.chip.frontEntry r 2 = none) (l : Option (List Byte)) :
    exec (.txJobSend r l) s = .next s := by
  show execTxJobSend r l s = _
  rw [execTxJobSend, decide_eq_true hr, within_true, onChip_eq, he]

end

section
variable (c : Chip) (r e : Nat)

theorem Chip.runJob_of_down (hu : c.portUp (jobPort e) = false) (l : Option (List Byte)) :
    c.runJob r e l = c.jobFailed r (jobPort e) 1 := by rw [Chip.runJob, hu]; rfl

theorem Chip.runJob_of_up (hu : c.portUp (jobPort e) = true) (l : Option (List Byte)) :
    c.runJob r e l = l.elim (c.jobFailed r (jobPort e) 2) (c.sendJob r (jobPort e) e) := by rw [Chip.runJob, hu]; rfl

end

/-- Settles O50: a port's reports, LLDP, idle and solicitations, a resolution that firmware takes, and a transmit job. -/
theorem portsSendReportsJobsAndSolicitations : Obligations.PortsSendReportsJobsAndSolicitations := by
  unfold Obligations.PortsSendReportsJobsAndSolicitations
  refine ⟨fun s p x hp hx => ?port, fun s h p q port v6 k hq ht hport hv6 hk => ?resolve, fun s r hr =>
    ⟨fun e p c he hp hc => ?job, exec_txJobSend_of_none s hr⟩⟩
  case port =>
    subst hx
    refine ⟨exec_membershipReportRepeat_of_up s hp, exec_membershipReportRepeat_of_down s hp,
      fun c hu hon hc => exec_lldpSend_of_on s hp hu hon hc, exec_lldpSend_of_off s hp, fun may c free hmay hc hfree => ?idle,
      exec_lpiWake s hp, fun q r c hq hc => ?solicits, exec_neighbourSolicitRetry_of_nil s hp⟩
    case idle =>
      have hquiet : c = s.chip.quietFrom p := by rw [hc, Chip.quietFrom, usCycles, Nat.mul_comm]
      have hfits : c.idleFits p = free := by
        rw [hfree, Chip.idleFits]
        generalize c.nextSend p = next
        cases next with
        | none => rfl
        | some t => simp only [Nat.add_assoc]
      subst hmay hquiet
      refine ⟨fun hm hgo => ?_, fun hm hstay => ?_, exec_lpiEnter_of_not s hp⟩
      · rw [exec_lpiEnter_of_may s hp hm, if_pos (hfits.trans hgo)]
      · rw [exec_lpiEnter_of_may s hp hm, if_neg (ne_true_of_eq_false (hfits.trans hstay))]
    case solicits =>
      have hexec := exec_neighbourSolicitRetry_of_cons s hp hq (c := c) (by rw [hc, usCycles_solicit])
      have hport : c.port p = s.chip.port p := by rw [hc, Chip.port_runToCycle]
      have hcsn : c.csn = s.chip.csn := by rw [hc, (Chip.keepsLive_runToCycle _ _).1]
      rw [hport, hcsn] at hexec
      refine ⟨fun hmore q' hq' => ?_, fun hlast => ?_⟩
      · rw [hexec, if_pos hmore, hq']
      · rw [hexec, if_neg (Nat.not_lt.mpr hlast)]
  case resolve => exact exec_netNeighbourResolve_of_taken s hq ht hport hv6 hk
  case job =>
    have hexec := exec_txJobSend_of_some s hr he
    rw [show s.chip.withEntry r = c from hc.symm] at hexec
    subst hp
    refine ⟨fun hu l => ?_, fun hu => ?_, fun l hu => ?_⟩
    · rw [hexec, c.runJob_of_down r e hu]
      rfl
    · rw [hexec, c.runJob_of_up r e hu]
      rfl
    · rw [hexec, c.runJob_of_up r e hu]
      rfl

end Sys2Proof.Machine
end

section
/-! SUPPORT. What events and telemetry records leave of the local ports (R207 to R226): their state, the clock, and what has left
the part. -/

namespace Sys2Proof.Machine

open Sys2Proof

/-- What events and records leave of the local ports: the state of each kind, the clock, and what has left the part. -/
def Chip.KeepsPorts (c d : Chip) : Prop :=
  d.dmx = c.dmx ∧ d.pix = c.pix ∧ d.house = c.house ∧ d.cycle = c.cycle ∧ ∀ o, o ∈ c.out → o ∈ d.out

namespace Chip.KeepsPorts
variable {c d e : Chip}

theorem refl (c : Chip) : c.KeepsPorts c := ⟨rfl, rfl, rfl, rfl, fun _ h => h⟩

theorem trans (h : c.KeepsPorts d) (k : d.KeepsPorts e) : c.KeepsPorts e := by
  obtain ⟨h₁, h₂, h₃, h₄, h₅⟩ := h
  obtain ⟨k₁, k₂, k₃, k₄, k₅⟩ := k
  exact ⟨k₁.trans h₁, k₂.trans h₂, k₃.trans h₃, k₄.trans h₄, fun o ho => k₅ o (h₅ o ho)⟩

/-- What posts events keeps it. -/
theorem of_events (h : c.SameButEvents d) : c.KeepsPorts d :=
  ⟨by rw [h.1], by rw [h.1], by rw [h.1], by rw [h.1], h.2.2⟩

theorem dmxPort (h : c.KeepsPorts d) (n : Nat) : d.dmxPort n = c.dmxPort n := by rw [Chip.dmxPort, h.1, ← Chip.dmxPort]

theorem pixPort (h : c.KeepsPorts d) (n : Nat) : d.pixPort n = c.pixPort n := by rw [Chip.pixPort, h.2.1, ← Chip.pixPort]

theorem hc (h : c.KeepsPorts d) (n : Nat) : d.hc n = c.hc n := by rw [Chip.hc, h.2.2.1, ← Chip.hc]

theorem cycle (h : c.KeepsPorts d) : d.cycle = c.cycle := h.2.2.2.1

theorem out (h : c.KeepsPorts d) {o : Out} (ho : o ∈ c.out) : o ∈ d.out := h.2.2.2.2 o ho

end Chip.KeepsPorts

section
variable (c : Chip)

theorem Chip.keepsPorts_wr (off v : Nat) : c.KeepsPorts (c.wr off v) := ⟨rfl, rfl, rfl, rfl, fun _ h => h⟩

theorem Chip.keepsPorts_setFifo (f : Nat) (x : Fifo) : c.KeepsPorts (c.setFifo f x) := ⟨rfl, rfl, rfl, rfl, fun _ h => h⟩

theorem Chip.keepsPorts_raise (src code : Nat) (items : List Byte) : c.KeepsPorts (c.raise src code items) :=
  .of_events (c.sameButEvents_raise src code items)

theorem Chip.keepsPorts_toBall (o : Out) : c.KeepsPorts (c.toBall o) := .of_events (c.sameButEvents_toBall o)

/-- What drives a ball leaves the part, while boundary scan does not have the balls. -/
theorem Chip.mem_out_toBall (o : Out) (h : c.power.pins = false) : o ∈ (c.toBall o).out := by
  rw [Chip.toBall, h]
  exact List.mem_cons_self

/-- A bit of an event register set, and its event raised. -/
theorem Chip.keepsPorts_report (reg mask src code : Nat) (items : List Byte) :
    c.KeepsPorts ((c.setEvt reg mask).raise src code items) :=
  (c.keepsPorts_wr _ _).trans (Chip.keepsPorts_raise _ _ _ _)

/-! ### Telemetry records (R280 to R283) -/

theorem Chip.keepsPorts_closeBank (f : Nat) : c.KeepsPorts (c.closeBank f) :=
  (c.keepsPorts_setFifo f _).trans (Chip.keepsPorts_report _ _ _ _ _ _)

theorem Chip.keepsPorts_tryClose (f : Nat) : c.KeepsPorts (c.tryClose f) := by
  unfold Chip.tryClose
  split
  · exact c.keepsPorts_closeBank f
  · exact .refl c

theorem Chip.keepsPorts_loseRecord (f : Nat) : c.KeepsPorts (c.loseRecord f) := by
  unfold Chip.loseRecord
  extract_lets d
  have hd : c.KeepsPorts d := c.keepsPorts_wr _ _
  split
  · exact hd
  · exact hd.trans (d.keepsPorts_report _ _ _ _ _)

theorem Chip.keepsPorts_putWhole (f : Nat) (octets : List Byte) : c.KeepsPorts ((c.putRecord f octets).tryClose f) :=
  (c.keepsPorts_setFifo f _).trans (Chip.keepsPorts_tryClose _ f)

theorem Chip.keepsPorts_produce (producer : Nat) (body : List Byte) : c.KeepsPorts (c.produce producer body) := by
  unfold Chip.produce Chip.startRecord
  extract_lets seq d
  have hd : c.KeepsPorts d := ⟨rfl, rfl, rfl, rfl, fun _ h => h⟩
  split
  · exact hd
  extract_lets
  split
  · exact hd
  split
  · exact hd.trans (d.keepsPorts_putWhole _ _)
  split
  · exact (hd.trans (d.keepsPorts_closeBank _)).trans (Chip.keepsPorts_putWhole _ _ _)
  · exact hd.trans (d.keepsPorts_loseRecord _)

end

end Sys2Proof.Machine
end


section
/-! SUPPORT. The frames of the local ports (R208 to R211, R218 to R220, R226, R322): the two kinds of port under one name, so that the
start of a frame, its HOLD and its repetition are said once for both. -/

namespace Sys2Proof.Machine

open Sys2Proof

/-! ### A port of either kind -/

/-- The event register of a local port. -/
def portEvents : LocalPort → Nat
  | .dmx n => Reg.DMX_EVT n
  | .pix p => Reg.PIX_EVT p

/-- The frame counter of a local port. -/
def portFrames : LocalPort → Nat
  | .dmx n => Reg.DMX_FRAME_CNT n
  | .pix p => Reg.PIX_FRAME_CNT p

/-- A frame as it leaves a local port. -/
def portOut (octets : List Byte) (form : List Nat) : LocalPort → Out
  | .dmx n => .dmx n octets form
  | .pix p => .pix p octets form

section
variable (c : Chip)

/-- The frame that a local port last sent. -/
def Chip.frameOf : LocalPort → PortFrame
  | .dmx n => (c.dmxPort n).frame
  | .pix p => (c.pixPort p).frame

/-- Whether a local port is in HOLD. -/
def Chip.heldOf : LocalPort → Bool
  | .dmx n => (c.dmxPort n).held
  | .pix p => (c.pixPort p).held

/-- The frame that the last selected crossing starts on a local port. -/
def Chip.selectedOf : LocalPort → Option PortStart
  | .dmx n => (c.dmxPort n).selected
  | .pix p => (c.pixPort p).selected

/-- The octets in force for the next frame of a local port. -/
def Chip.octetsOf : LocalPort → List Byte
  | .dmx n => c.dmxOctets n
  | .pix p => c.pixOctets p

/-- The form in force for the bits of that frame. -/
def Chip.formOf : LocalPort → List Nat
  | .dmx n => dmxForm (c.lv (Reg.DMX_TIMING n))
  | .pix p => pixForm (c.lv (Reg.PIX_CFG p)) (c.lv (Reg.PIX_NRZ p)) (c.lv (Reg.PIX_CLK p))

/-- A local port with its selected frame as the last one sent. -/
def Chip.withStart (f : PortFrame) (late : Bool) : LocalPort → Chip
  | .dmx n => c.setDmx n { c.dmxPort n with frame := f, selected := none, late := late }
  | .pix p => c.setPix p { c.pixPort p with frame := f, selected := none, late := late }

/-- A local port in HOLD. -/
def Chip.withHold : LocalPort → Chip
  | .dmx n => c.setDmx n { c.dmxPort n with held := true }
  | .pix p => c.setPix p { c.pixPort p with held := true }

/-- The start of a selected frame on a local port. -/
def Chip.startPort (st : PortStart) : LocalPort → Chip
  | .dmx n => c.startDmx n st
  | .pix p => c.startPix p st

/-- A frame repeated on a local port in HOLD. -/
def Chip.repeatOf (f : PortFrame) : LocalPort → Chip
  | .dmx n => (c.setDmx n { c.dmxPort n with frame := f }).sendDmx n f
  | .pix p => (c.setPix p { c.pixPort p with frame := f }).sendPix p f

theorem Chip.dmxPort_runToCycle (k n : Nat) : (c.runToCycle k).dmxPort n = c.dmxPort n := rfl

theorem Chip.pixPort_runToCycle (k p : Nat) : (c.runToCycle k).pixPort p = c.pixPort p := rfl

variable (port : LocalPort)

theorem Chip.withStart_parts (f : PortFrame) (late : Bool) : (c.withStart f late port).selectedOf port = none ∧
    (c.withStart f late port).frameOf port = f ∧ (c.withStart f late port).cycle = c.cycle ∧
    (c.withStart f late port).regs = c.regs ∧ (c.withStart f late port).power = c.power := by
  cases port <;> simp [Chip.withStart, Chip.selectedOf, Chip.frameOf]

theorem Chip.withHold_parts : (c.withHold port).heldOf port = true ∧ (c.withHold port).cycle = c.cycle := by
  cases port <;> simp [Chip.withHold, Chip.heldOf]

/-- What events and records leave of a port, of whichever kind. -/
theorem Chip.KeepsPorts.ofKind {c d : Chip} (h : c.KeepsPorts d) (port : LocalPort) :
    d.frameOf port = c.frameOf port ∧ d.heldOf port = c.heldOf port ∧ d.selectedOf port = c.selectedOf port := by
  cases port <;> simp only [Chip.frameOf, Chip.heldOf, Chip.selectedOf, h.dmxPort, h.pixPort, and_self]

end

/-! ### The events and the frame counter of a port -/

theorem portFrames_ne_portEvents (port : LocalPort) : portFrames port ≠ portEvents port := by
  cases port <;> simp [portFrames, portEvents, Reg.DMX_FRAME_CNT, Reg.DMX_EVT, Reg.PIX_FRAME_CNT, Reg.PIX_EVT]

/-- The registers of the ports that exist lie below those of the events' routes. -/
theorem portRegisters_lt {port : LocalPort} (h : portWf port = true) : portFrames port < 0xE000 ∧ portEvents port < 0xE000 := by
  cases port with
  | dmx n =>
    have hn : n < 16 := of_decide_eq_true h
    show Reg.DMX_FRAME_CNT n < 0xE000 ∧ Reg.DMX_EVT n < 0xE000
    unfold Reg.DMX_FRAME_CNT Reg.DMX_EVT
    omega
  | pix p =>
    have hp : p < 32 := of_decide_eq_true h
    show Reg.PIX_FRAME_CNT p < 0xE000 ∧ Reg.PIX_EVT p < 0xE000
    unfold Reg.PIX_FRAME_CNT Reg.PIX_EVT
    omega

section
variable (c : Chip) {port : LocalPort}

theorem Chip.portEvent_eq (k : Nat) (items : List Byte) : c.portEvent port k items =
    (c.setEvt (portEvents port) (1 <<< k)).raise (portSource port) (0x1201 + k) (it4 (portIndex port) ++ items) := by
  cases port <;> rfl

theorem Chip.keepsPorts_portEvent (k : Nat) (items : List Byte) : c.KeepsPorts (c.portEvent port k items) := by
  rw [c.portEvent_eq]
  exact c.keepsPorts_report _ _ _ _ _

/-- The event that a port raises sets its bit and leaves its frame counter. -/
theorem Chip.rd_portEvent (h : portWf port = true) {k : Nat} (hk : k < 32) (items : List Byte) :
    bit ((c.portEvent port k items).rd (portEvents port)) k = true ∧
    (c.portEvent port k items).rd (portFrames port) = c.rd (portFrames port) := by
  obtain ⟨hframes, hevents⟩ := portRegisters_lt h
  have hraise := (c.setEvt (portEvents port) (1 <<< k)).sameButEvents_raise (portSource port) (0x1201 + k)
    (it4 (portIndex port) ++ items)
  rw [c.portEvent_eq, hraise.rd_power hevents, hraise.rd_power hframes]
  exact ⟨c.bit_rd_setEvt _ _ _ hk (by simp), c.rd_setEvt_ne _ _ _ (portFrames_ne_portEvents port)⟩

end

/-! ### A frame that leaves a port (R208, R209, R322) -/

/-- A frame of a port, driven on its pins and counted where it goes there. -/
def Chip.sendFrom (c : Chip) (port : LocalPort) (goes : Bool) (o : Out) : Chip :=
  if goes then (c.toBall o).incWrap (portFrames port) else c

theorem Chip.sendDmx_eq (c : Chip) (n : Nat) (f : PortFrame) :
    c.sendDmx n f = c.sendFrom (.dmx n) (f.sent && c.drives) (.dmx n f.octets f.form) := rfl

theorem Chip.sendPix_eq (c : Chip) (n : Nat) (f : PortFrame) :
    c.sendPix n f = c.sendFrom (.pix n) (f.sent && c.drives) (.pix n f.octets f.form) := rfl

theorem Chip.sendFrom_parts (c : Chip) (port : LocalPort) (goes : Bool) (o : Out) : c.KeepsPorts (c.sendFrom port goes o) ∧
    (goes = true → c.power.pins = false → o ∈ (c.sendFrom port goes o).out) ∧
    (goes = true → (c.sendFrom port goes o).rd (portFrames port) = (c.rd (portFrames port) + 1) % 2 ^ 32) ∧
    (goes = false → (c.sendFrom port goes o).rd (portFrames port) = c.rd (portFrames port)) := by
  cases goes with
  | false => exact ⟨.refl c, nofun, nofun, fun _ => rfl⟩
  | true =>
    have hball : (c.toBall o).rd (portFrames port) = c.rd (portFrames port) := by
      unfold Chip.toBall
      split <;> rfl
    refine ⟨(c.keepsPorts_toBall o).trans (Chip.keepsPorts_wr _ _ _), fun _ => c.mem_out_toBall o, fun _ => ?_, nofun⟩
    calc ((c.toBall o).incWrap (portFrames port)).rd (portFrames port)
      _ = ((c.toBall o).rd (portFrames port) + 1) % 2 ^ 32 := by rw [Chip.incWrap, Chip.rd_wr_same, Nat.mod_mod]
      _ = (c.rd (portFrames port) + 1) % 2 ^ 32 := by rw [hball]

/-- What a frame `o` that leaves a port does: it is driven and counted where it goes, told where it is late, and nothing of the
ports changes further. -/
structure Chip.FrameLeft (c : Chip) (port : LocalPort) (goes late : Bool) (o : Out) (t : Chip) : Prop where
  keeps : c.KeepsPorts t
  out (hgoes : goes = true) (hpins : c.power.pins = false) : o ∈ t.out
  told (hlate : late = true) : bit (t.rd (portEvents port)) 0 = true
  counted (hgoes : goes = true) : t.rd (portFrames port) = (c.rd (portFrames port) + 1) % 2 ^ 32
  silent (hstays : goes = false) : t.rd (portFrames port) = c.rd (portFrames port)

theorem Chip.frameLeft_send (c : Chip) {port : LocalPort} (h : portWf port = true) (goes late : Bool) (o : Out) (st : PortStart) :
    c.FrameLeft port goes late o ((c.sendFrom port goes o).startLate port st late) := by
  obtain ⟨hkeep, hout, hcounted, hsilent⟩ := c.sendFrom_parts port goes o
  generalize c.sendFrom port goes o = d at *
  cases late with
  | false => exact ⟨hkeep, hout, nofun, hcounted, hsilent⟩
  | true =>
    let items := it8 st.csn ++ it4 ((d.cycle - st.cycle) / 800)
    have hevent : d.KeepsPorts (d.portEvent port 0 items) := d.keepsPorts_portEvent 0 items
    obtain ⟨hbit, hframes⟩ := d.rd_portEvent h (k := 0) (by decide) items
    exact ⟨hkeep.trans hevent, fun hg hp => hevent.out (hout hg hp), fun _ => hbit, fun hg => hframes.trans (hcounted hg),
      fun hg => hframes.trans (hsilent hg)⟩

theorem PortFrame.begins_fst (f : PortFrame) (k : Nat) : (f.begins k).1 = if k < f.ends then f.ends + 40000 else k := by
  unfold PortFrame.begins
  split <;> rfl

theorem PortFrame.begins_snd (f : PortFrame) (k : Nat) : (f.begins k).2 = decide (k < f.ends) := by
  unfold PortFrame.begins
  split <;> simp [*]

/-- A selected frame holds the octets and the form in force and leaves at its start. -/
theorem Chip.startPort_left (c : Chip) (st : PortStart) {port : LocalPort} (h : portWf port = true) :
    ∃ (f : PortFrame) (b : Nat × Bool), f.octets = c.octetsOf port ∧ b = (c.frameOf port).begins st.cycle ∧
    ((c.runToCycle b.1).withStart f b.2 port).FrameLeft port (st.sent && c.drives) b.2
      (portOut (c.octetsOf port) (c.formOf port) port) (c.startPort st port) := by
  cases port with
  | dmx n =>
    show ∃ _ _, _ ∧ _ ∧ Chip.FrameLeft _ _ _ _ _ (c.startDmx n st)
    unfold Chip.startDmx
    extract_lets x b d octets timing len f
    rw [Chip.sendDmx_eq]
    exact ⟨f, b, rfl, rfl, Chip.frameLeft_send _ h _ _ _ st⟩
  | pix p =>
    show ∃ _ _, _ ∧ _ ∧ Chip.FrameLeft _ _ _ _ _ (c.startPix p st)
    unfold Chip.startPix
    extract_lets x cfg b d len f
    rw [Chip.sendPix_eq]
    exact ⟨f, b, rfl, rfl, Chip.frameLeft_send _ h _ _ _ st⟩

/-! ### HOLD (R226) -/

theorem mayHold_iff (f : PortFrame) (held : Bool) (x : Option PortStart) :
    mayHold f held x = true ↔ 0 < f.period ∧ held = false ∧ x = none := by
  simp [mayHold, and_assoc]

theorem mayHold_eq_false_iff (f : PortFrame) (held : Bool) (x : Option PortStart) :
    mayHold f held x = false ↔ f.period = 0 ∨ held = true ∨ x ≠ none := by
  rw [← Bool.not_eq_true, mayHold_iff]
  simp only [not_and_or, Nat.pos_iff_ne_zero, not_not, Bool.not_eq_false, ne_eq]

/-- A repeated frame starts now where its period has passed. -/
theorem Chip.runToCycle_repeated (c : Chip) (f : PortFrame) :
    c.runToCycle (f.repeated c.cycle).start = c.runToCycle (f.start + f.period) := by
  have h : max c.cycle (f.start + f.period) - c.cycle = f.start + f.period - c.cycle := by omega
  unfold Chip.runToCycle PortFrame.repeated
  rw [h]

/-! ### The rows -/

section
variable (s : State) {port : LocalPort} (hp : portWf port = true)
include hp

theorem exec_lpFrameStart_eq : exec (.lpFrameStart port) s = .next (s.onto
    (if s.chip.domainOn 11 then (s.chip.selectedOf port).elim s.chip (s.chip.startPort · port) else s.chip)) := by
  show execLpFrameStart port s = _
  rw [execLpFrameStart, hp, within_true, onChip_eq]
  cases s.chip.domainOn 11 with
  | false => rfl
  | true =>
    cases port with
    | dmx n => cases h : (s.chip.dmxPort n).selected <;> simp [Chip.selectedOf, h, State.onto, Chip.startPort]
    | pix p => cases h : (s.chip.pixPort p).selected <;> simp [Chip.selectedOf, h, State.onto, Chip.startPort]

theorem exec_lpHold_eq : exec (.lpHold port) s = .next (s.onto
    (if s.chip.domainOn 11 && mayHold (s.chip.frameOf port) (s.chip.heldOf port) (s.chip.selectedOf port) then
      ((s.chip.runToCycle ((s.chip.frameOf port).start + (s.chip.frameOf port).period + 800000)).withHold port).portEvent port 2
        (it8 s.chip.csn)
    else s.chip)) := by
  show execLpHold port s = _
  rw [execLpHold, hp, within_true, onChip_eq]
  cases s.chip.domainOn 11 with
  | false =>
    rw [Bool.false_and, if_neg Bool.false_ne_true]
    rfl
  | true =>
    rw [Bool.true_and]
    cases port with
    | dmx n =>
      rw [Chip.withHold, Chip.dmxPort_runToCycle]
      exact congrArg (fun c => Host.Outcome.next (s.onto c)) (if_neg (by decide))
    | pix p =>
      rw [Chip.withHold, Chip.pixPort_runToCycle]
      exact congrArg (fun c => Host.Outcome.next (s.onto c)) (if_neg (by decide))

theorem exec_lpHoldRepeat_eq : exec (.lpHoldRepeat port) s = .next (s.onto
    (if s.chip.domainOn 11 && (s.chip.heldOf port && (s.chip.selectedOf port).isNone) then
      (s.chip.runToCycle ((s.chip.frameOf port).repeated s.chip.cycle).start).repeatOf
        ((s.chip.frameOf port).repeated s.chip.cycle) port
    else s.chip)) := by
  show execLpHoldRepeat port s = _
  rw [execLpHoldRepeat, hp, within_true, onChip_eq]
  cases s.chip.domainOn 11 with
  | false =>
    rw [Bool.false_and, if_neg Bool.false_ne_true]
    rfl
  | true =>
    rw [Bool.true_and]
    cases port <;> exact congrArg (fun c => Host.Outcome.next (s.onto c)) (if_neg (by decide))

theorem exec_lpFrameStart_of_selected {st : PortStart} {goes : Bool} (hd : s.chip.domainOn 11 = true)
    (hst : s.chip.selectedOf port = some st) (hgoes : goes = (st.sent && s.chip.drives)) :
    ∃ t, exec (.lpFrameStart port) s = .next t ∧ t.dram = s.dram ∧
    (goes = true → s.chip.power.pins = false → portOut (s.chip.octetsOf port) (s.chip.formOf port) port ∈ t.chip.out) ∧
    t.chip.selectedOf port = none ∧ (t.chip.frameOf port).octets = s.chip.octetsOf port ∧
    t.chip.cycle = max s.chip.cycle
      (if st.cycle < (s.chip.frameOf port).ends then (s.chip.frameOf port).ends + 40000 else st.cycle) ∧
    (st.cycle < (s.chip.frameOf port).ends → bit (t.chip.rd (portEvents port)) 0 = true) ∧
    (goes = true → t.chip.rd (portFrames port) = (s.chip.rd (portFrames port) + 1) % 2 ^ 32) ∧
    (goes = false → t.chip.rd (portFrames port) = s.chip.rd (portFrames port)) := by
  subst hgoes
  obtain ⟨f, b, hf, hb, left⟩ := s.chip.startPort_left st hp
  obtain ⟨hselected, hframe, hcycle, hregs, hpower⟩ := (s.chip.runToCycle b.1).withStart_parts port f b.2
  obtain ⟨hframe', -, hselected'⟩ := left.keeps.ofKind port
  have hrd : ((s.chip.runToCycle b.1).withStart f b.2 port).rd (portFrames port) = s.chip.rd (portFrames port) :=
    Chip.rd_congr hregs
  refine ⟨s.onto (s.chip.startPort st port), ?_, rfl, fun hg hpins => left.out hg (hpower ▸ hpins), hselected'.trans hselected, ?_,
    ?_, fun hlate => left.told ?_, fun hg => hrd ▸ left.counted hg, fun hg => hrd ▸ left.silent hg⟩
  · rw [exec_lpFrameStart_eq s hp, if_pos hd, hst]
    rfl
  · rw [State.onto_chip, hframe', hframe, hf]
  · rw [State.onto_chip, left.keeps.cycle, hcycle, (s.chip.runToCycle_parts b.1).1, hb, PortFrame.begins_fst]
  · rw [hb, PortFrame.begins_snd, decide_eq_true hlate]

theorem exec_lpFrameStart_of_none (h : s.chip.domainOn 11 = false ∨ s.chip.selectedOf port = none) :
    exec (.lpFrameStart port) s = .next s := by
  rw [exec_lpFrameStart_eq s hp]
  rcases h with h | h
  · rw [h]
    rfl
  · rw [h, Option.elim_none, ite_self, State.onto_self]

theorem exec_lpHold_of_may (hd : s.chip.domainOn 11 = true) (hperiod : 0 < (s.chip.frameOf port).period)
    (hheld : s.chip.heldOf port = false) (hselected : s.chip.selectedOf port = none) :
    ∃ t, exec (.lpHold port) s = .next t ∧ t.dram = s.dram ∧
    t.chip.heldOf port = true ∧ bit (t.chip.rd (portEvents port)) 2 = true ∧
    t.chip.cycle = max s.chip.cycle ((s.chip.frameOf port).start + (s.chip.frameOf port).period + 800000) := by
  let d := s.chip.runToCycle ((s.chip.frameOf port).start + (s.chip.frameOf port).period + 800000)
  have hmay := (mayHold_iff _ _ _).mpr ⟨hperiod, hheld, hselected⟩
  have hevent := (d.withHold port).keepsPorts_portEvent (port := port) 2 (it8 s.chip.csn)
  obtain ⟨hhold, hcycle⟩ := d.withHold_parts port
  refine ⟨s.onto ((d.withHold port).portEvent port 2 (it8 s.chip.csn)), ?_, rfl, (hevent.ofKind port).2.1.trans hhold,
    (Chip.rd_portEvent _ hp (by decide) _).1, ?_⟩
  · rw [exec_lpHold_eq s hp, hd, hmay]
    rfl
  · rw [State.onto_chip, hevent.cycle, hcycle, (s.chip.runToCycle_parts _).1]

theorem exec_lpHold_of_not (h : s.chip.domainOn 11 = false ∨ (s.chip.frameOf port).period = 0 ∨ s.chip.heldOf port = true ∨
    s.chip.selectedOf port ≠ none) : exec (.lpHold port) s = .next s := by
  rw [← mayHold_eq_false_iff] at h
  rw [exec_lpHold_eq s hp, Bool.and_eq_false_iff.mpr h]
  rfl

theorem exec_lpHoldRepeat_of_held (hd : s.chip.domainOn 11 = true) (hheld : s.chip.heldOf port = true)
    (hselected : s.chip.selectedOf port = none) {f : PortFrame} (hf : f = (s.chip.frameOf port).repeated s.chip.cycle) :
    exec (.lpHoldRepeat port) s = .next (s.onto
      ((s.chip.runToCycle ((s.chip.frameOf port).start + (s.chip.frameOf port).period)).repeatOf f port)) := by
  subst hf
  rw [exec_lpHoldRepeat_eq s hp, hd, hheld, hselected, Chip.runToCycle_repeated]
  rfl

theorem exec_lpHoldRepeat_of_not (h : s.chip.domainOn 11 = false ∨ s.chip.heldOf port = false ∨ s.chip.selectedOf port ≠ none) :
    exec (.lpHoldRepeat port) s = .next s := by
  rw [exec_lpHoldRepeat_eq s hp, Bool.and_eq_false_iff.mpr (h.imp_right fun h => Bool.and_eq_false_iff.mpr (h.imp_right ?_))]
  · rfl
  · rw [Option.isNone_eq_false_iff, ← Option.ne_none_iff_isSome]
    exact id

end

end Sys2Proof.Machine
end

section
/-! SUPPORT. The house channels (R221 to R225): what an evaluated pulse and a verdict leave of a channel, and the rows as they answer. -/

namespace Sys2Proof.Machine

open Sys2Proof

/-! ### Verdicts and evaluated pulses (R224) -/

/-- A channel's fade and duty, which the diagnostics leave alone. -/
def House.SameDrive (x y : House) : Prop := y.level = x.level ∧ y.fadeLeft = x.fadeLeft ∧ y.duty = x.duty

theorem House.SameDrive.trans {x y z : House} (h : x.SameDrive y) (k : y.SameDrive z) : x.SameDrive z :=
  ⟨k.1.trans h.1, k.2.1.trans h.2.1, k.2.2.trans h.2.2⟩

/-- What the diagnostics of a channel leave as it was: its drive, the clock, and what has left the part. -/
def Chip.KeepsDrive (n : Nat) (c d : Chip) : Prop :=
  (c.hc n).SameDrive (d.hc n) ∧ d.cycle = c.cycle ∧ ∀ o, o ∈ c.out → o ∈ d.out

namespace Chip.KeepsDrive
variable {n : Nat} {c d e : Chip}

theorem trans (h : KeepsDrive n c d) (k : KeepsDrive n d e) : KeepsDrive n c e :=
  ⟨h.1.trans k.1, k.2.1.trans h.2.1, fun o ho => k.2.2 o (h.2.2 o ho)⟩

theorem of_ports (h : c.KeepsPorts d) : KeepsDrive n c d := ⟨by rw [h.hc]; exact ⟨rfl, rfl, rfl⟩, h.cycle, fun _ => h.out⟩

theorem setHc {x : House} (h : (c.hc n).SameDrive x) : KeepsDrive n c (c.setHc n x) :=
  ⟨by rwa [Chip.hc_setHc_same], rfl, fun _ h => h⟩

end Chip.KeepsDrive

section
variable (c : Chip) (n : Nat)

theorem Chip.houseVerdict_parts (v : Nat) : c.KeepsDrive n (c.houseVerdict n v) ∧ ((c.houseVerdict n v).hc n).verdict = v := by
  unfold Chip.houseVerdict
  extract_lets x d
  split
  · next h => exact ⟨.of_ports (.refl c), h⟩
  · have hd : (c.setHc n { x with verdict := v }).KeepsPorts d := Chip.keepsPorts_produce _ _ _
    have htold := hd.trans (d.keepsPorts_report (Reg.HC_EVT n) 1 (112 + n) 0x1206 (it4 n ++ it4 v ++ it8 d.csn))
    have hset : c.KeepsDrive n (c.setHc n { x with verdict := v }) := .setHc ⟨rfl, rfl, rfl⟩
    exact ⟨hset.trans (.of_ports htold), by rw [htold.hc, Chip.hc_setHc_same]⟩

theorem Chip.keepsDrive_evaluatePulse (on : Nat) (sense : List Nat) : c.KeepsDrive n (c.evaluatePulse n on sense) := by
  unfold Chip.evaluatePulse
  extract_lets thr l isOpen isShort x y d
  have hd : c.KeepsDrive n d := .setHc ⟨rfl, rfl, rfl⟩
  split
  · exact hd.trans (d.houseVerdict_parts n 2).1
  split
  · exact hd.trans (d.houseVerdict_parts n 1).1
  split
  · exact hd.trans (d.houseVerdict_parts n 0).1
  · exact hd

/-! ### A PWM period (R221, R222, R230) -/

/-- The part at the start of a channel's next PWM period. -/
def Chip.pwmStart : Chip :=
  match (c.hc n).pwmAt with
  | some t => c.runToCycle (t + 32000)
  | none => c

theorem Chip.runToCycle_house (k : Nat) : (c.runToCycle k).hc n = c.hc n ∧ (c.runToCycle k).live = c.live ∧
    (c.runToCycle k).power = c.power ∧ (c.runToCycle k).drives = c.drives := ⟨rfl, rfl, rfl, rfl⟩

theorem Chip.pwmStart_parts : (c.pwmStart n).hc n = c.hc n ∧ (c.pwmStart n).live = c.live ∧ (c.pwmStart n).power = c.power ∧
    (c.pwmStart n).drives = c.drives ∧
    ∀ t, (c.hc n).pwmAt = some t → (c.pwmStart n).cycle = max c.cycle (t + 32000) := by
  unfold Chip.pwmStart
  split
  · next t h =>
    obtain ⟨hhc, hlive, hpower, hdrives⟩ := c.runToCycle_house n (t + 32000)
    refine ⟨hhc, hlive, hpower, hdrives, fun u hu => ?_⟩
    obtain rfl : t = u := Option.some.inj (h.symm.trans hu)
    exact (c.runToCycle_parts _).1
  · next h => exact ⟨rfl, rfl, rfl, rfl, fun u hu => nomatch h.symm.trans hu⟩

/-- A fade takes one step of those that are left, the last of them to its target (R222). -/
theorem House.step_parts (x : House) : x.step.fadeLeft = x.fadeLeft - 1 ∧
    x.step.level = if x.fadeLeft = 0 then (x.target : Rat) else x.level + ((x.target : Rat) - x.level) / x.fadeLeft := by
  unfold House.step
  split
  · next h => exact ⟨by rw [h], rfl⟩
  · exact ⟨rfl, rfl⟩

end

/-! ### The rows of the house channels -/

/-- A PWM period: the fade stepped, and the gate driven with a pulse and a duty that a disabled channel has none of. -/
theorem exec_hcPwmPeriod_of_on (s : State) {n : Nat} (hn : n < 16) (sense : List Nat) (hd : s.chip.domainOn 11 = true) :
    ∃ (t : State) (on duty : Nat) (y : House) (d : Chip), exec (.hcPwmPeriod n sense) s = .next t ∧ t.dram = s.dram ∧
    d = ((s.chip.pwmStart n).setHc n ((s.chip.pwmStart n).hc n).step).drew ∧
    y.level = ((s.chip.pwmStart n).hc n).step.level ∧ y.fadeLeft = ((s.chip.pwmStart n).hc n).step.fadeLeft ∧ y.duty = duty ∧
    Chip.KeepsDrive n ((d.toBall (.gate n on (bit (d.lv (Reg.HC_CFG n)) 13))).setHc n y) t.chip ∧
    (bit (d.lv (Reg.HC_CFG n)) 0 = false → on = 0 ∧ duty = 0) ∧ (d.drives = false → on = 0) := by
  have hexec : exec (.hcPwmPeriod n sense) s = execHcPwmPeriod n sense s := rfl
  rw [hexec, execHcPwmPeriod, decide_eq_true hn, within_true, onChip_eq, if_neg (by rw [hd]; decide)]
  extract_lets c₁ c₂ cfg o d duty x acc least on₀ on₁ drives on c₃
  let y : House := { x with duty := duty, remainder := acc % 65535, derated := o.2, pulseDue := false, pwmAt := some d.cycle }
  have hx : x = ((s.chip.pwmStart n).hc n).step := Chip.hc_setHc_same _ _ _
  refine ⟨_, on, duty, y, d, rfl, rfl, rfl, (congrArg House.level hx : x.level = _),
    (congrArg House.fadeLeft hx : x.fadeLeft = _), rfl, ?_, fun h => ?_, fun h => ?_⟩
  · show Chip.KeepsDrive n c₃ (ite _ _ _)
    split
    · exact Chip.keepsDrive_evaluatePulse _ _ _ _
    · exact .of_ports (.refl _)
  · have hoff : bit cfg 0 = false := h
    exact ⟨by simp [on, drives, hoff], by simp [duty, hoff]⟩
  · have hoff : d.drives = false := h
    simp [on, drives, hoff]

/-- The fault of a channel's NTC set and told (R223). -/
def Chip.ntcFails (c : Chip) (n : Nat) : Chip :=
  ((c.setHc n { c.hc n with ntcFault := true }).setEvt (Reg.HC_EVT n) 2).raise (112 + n) 0x1207
    (it4 n ++ itI4 (clampI (-32768) 32767 (c.hc n).temp))

section
variable (s : State) {n : Nat} (hn : n < 16)
include hn

theorem exec_hcPwmPeriod_served (sense : List Nat) (hd : s.chip.domainOn 11 = true) {x : House} {cfg : Nat}
    (hx : x = s.chip.hc n) (hcfg : cfg = s.chip.lv (Reg.HC_CFG n)) :
    ∃ t on, exec (.hcPwmPeriod n sense) s = .next t ∧ t.dram = s.dram ∧
    (s.chip.power.pins = false → .gate n on (bit cfg 13) ∈ t.chip.out) ∧ (t.chip.hc n).fadeLeft = x.fadeLeft - 1 ∧
    (t.chip.hc n).level =
      (if x.fadeLeft = 0 then (x.target : Rat) else x.level + ((x.target : Rat) - x.level) / x.fadeLeft) ∧
    (bit cfg 0 = false → on = 0 ∧ (t.chip.hc n).duty = 0) ∧ (s.chip.drives = false → on = 0) ∧
    (∀ at_, x.pwmAt = some at_ → t.chip.cycle = max s.chip.cycle (at_ + 32000)) := by
  subst hx hcfg
  obtain ⟨t, on, duty, y, d, hexec, hdram, hdrew, hlevel, hfade, hduty, hkeep, hoff, hidle⟩ := exec_hcPwmPeriod_of_on s hn sense hd
  obtain ⟨hhc, hlive, hpower, hdrives, hcycle⟩ := s.chip.pwmStart_parts n
  obtain ⟨hstepFade, hstepLevel⟩ := (s.chip.hc n).step_parts
  obtain ⟨⟨hl, hf, hdu⟩, hcyc, hout⟩ := hkeep
  rw [Chip.hc_setHc_same] at hl hf hdu
  rw [hhc] at hlevel hfade
  have hlv : d.lv (Reg.HC_CFG n) = s.chip.lv (Reg.HC_CFG n) := by
    subst hdrew
    exact Chip.lv_congr hlive
  rw [hlv] at hoff hout
  refine ⟨t, on, hexec, hdram, fun hpins => hout _ (d.mem_out_toBall _ ?_), ?_, ?_, fun h => ?_, fun h => ?_, fun at_ hat => ?_⟩
  · rw [hdrew]
    exact hpower ▸ hpins
  · rw [hf, hfade, hstepFade]
  · rw [hl, hlevel, hstepLevel]
  · exact ⟨(hoff h).1, hdu.trans (hduty.trans (hoff h).2)⟩
  · refine hidle ?_
    rw [hdrew]
    exact hdrives.trans h
  · rw [hcyc, ← hcycle at_ hat, Chip.setHc_cycle, ((d.keepsPorts_toBall _).cycle), hdrew]
    rfl

theorem exec_hcPwmPeriod_of_off (sense : List Nat) (hd : s.chip.domainOn 11 = false) :
    exec (.hcPwmPeriod n sense) s = .next s := by
  show execHcPwmPeriod n sense s = _
  rw [execHcPwmPeriod, decide_eq_true hn, within_true, onChip_eq, if_pos (by rw [hd]; decide)]

theorem exec_hcDiagStarved_of_starved (hd : s.chip.domainOn 11 = true) (hen : bit (s.chip.lv (Reg.HC_CFG n)) 11 = true)
    (h64 : 64 ≤ (s.chip.hc n).unevaluated) (hcal : (s.chip.hc n).calHold = false) :
    exec (.hcDiagStarved n) s = .next (s.onto (s.chip.houseVerdict n 3)) := by
  show execHcDiagStarved n s = _
  rw [execHcDiagStarved, decide_eq_true hn, within_true, onChip_eq, if_pos (by simp [hd, hen, h64, hcal])]
  rfl

theorem exec_hcDiagStarved_of_not (h : s.chip.domainOn 11 = false ∨ bit (s.chip.lv (Reg.HC_CFG n)) 11 = false ∨
    (s.chip.hc n).unevaluated < 64 ∨ (s.chip.hc n).calHold = true) : exec (.hcDiagStarved n) s = .next s := by
  show execHcDiagStarved n s = _
  rw [execHcDiagStarved, decide_eq_true hn, within_true, onChip_eq, if_neg]
  simp only [Bool.and_eq_true, decide_eq_true_eq, Bool.not_eq_true', not_and_or, Bool.not_eq_true, Bool.not_eq_false, not_le,
    or_assoc]
  exact h

theorem exec_hcNtcRefresh_eq {code : Nat} {r : Option Int}
    (hr : r = ntcTemp (bits (s.chip.lv (Reg.HC_NTC n)) 0 16) (bits (s.chip.lv (Reg.HC_NTC n)) 16 16) code)
    (hd : s.chip.domainOn 11 = true) : exec (.hcNtcRefresh n code) s = .next (s.onto
    (r.elim (if (s.chip.hc n).ntcFault then s.chip else s.chip.ntcFails n)
      fun k => s.chip.setHc n { s.chip.hc n with temp := k, ntcFault := false })) := by
  show execHcNtcRefresh n code s = _
  rw [execHcNtcRefresh, decide_eq_true hn, within_true, onChip_eq, hd]
  extract_lets v x
  rw [← show r = ntcTemp (bits v 0 16) (bits v 16 16) code from hr, if_neg (by decide)]
  cases r <;> rfl

end

theorem exec_hcNtcRefresh_of_off (s : State) {n : Nat} (hn : n < 16) (code : Nat) (hd : s.chip.domainOn 11 = false) :
    exec (.hcNtcRefresh n code) s = .next s := by
  show execHcNtcRefresh n code s = _
  rw [execHcNtcRefresh, decide_eq_true hn, within_true, onChip_eq, hd]
  rfl

theorem Chip.ntcFails_parts (c : Chip) {n : Nat} (hn : n < 16) : ((c.ntcFails n).hc n).ntcFault = true ∧
    ((c.ntcFails n).hc n).temp = (c.hc n).temp ∧ bit ((c.ntcFails n).rd (Reg.HC_EVT n)) 1 = true := by
  let d : Chip := c.setHc n { c.hc n with ntcFault := true }
  have hhc : (c.ntcFails n).hc n = { c.hc n with ntcFault := true } :=
    ((d.keepsPorts_report _ _ _ _ _).hc n).trans (c.hc_setHc_same n _)
  have hraise : (d.setEvt (Reg.HC_EVT n) 2).SameButEvents (c.ntcFails n) := Chip.sameButEvents_raise _ _ _ _
  have hevt : Reg.HC_EVT n < 0xE000 := by unfold Reg.HC_EVT; omega
  rw [hhc, hraise.rd_power hevt]
  exact ⟨rfl, rfl, d.bit_rd_setEvt _ _ _ (by decide) (by decide)⟩

/-- Settles O47: the frames and the HOLD of a port of either kind, and a house channel's period, verdict and reading. -/
theorem localPortsSendHoldAndRepeat : Obligations.LocalPortsSendHoldAndRepeat := by
  unfold Obligations.LocalPortsSendHoldAndRepeat
  intro s
  refine ⟨fun n x hn hx => ?dmx, fun n x hn hx => ?pix, fun n x cfg hn hx hcfg => ?house⟩
  case dmx =>
    have hp : portWf (.dmx n) = true := decide_eq_true hn
    subst hx
    exact ⟨fun st goes hd hst hgoes => exec_lpFrameStart_of_selected s hp hd hst hgoes, exec_lpFrameStart_of_none s hp,
      exec_lpHold_of_may s hp, exec_lpHold_of_not s hp,
      fun hd hheld hsel f hf => exec_lpHoldRepeat_of_held s hp hd hheld hsel hf, exec_lpHoldRepeat_of_not s hp⟩
  case pix =>
    have hp : portWf (.pix n) = true := decide_eq_true hn
    subst hx
    refine ⟨fun st goes hd hst hgoes => ?_, exec_lpFrameStart_of_none s hp, exec_lpHold_of_may s hp, exec_lpHold_of_not s hp,
      fun hd hheld hsel f hf => exec_lpHoldRepeat_of_held s hp hd hheld hsel hf, exec_lpHoldRepeat_of_not s hp⟩
    obtain ⟨t, hexec, hdram, hout, hrest⟩ := exec_lpFrameStart_of_selected s hp hd hst hgoes
    exact ⟨t, hexec, hdram, fun hg hpins => ⟨_, hout hg hpins⟩, hrest⟩
  case house =>
    subst hx hcfg
    refine ⟨fun sense hd => exec_hcPwmPeriod_served s hn sense hd rfl rfl, fun sense => exec_hcPwmPeriod_of_off s hn sense,
      fun hd hen h64 hcal => ?starved, exec_hcDiagStarved_of_not s hn, fun code r hr hd => ?ntc,
      fun code => exec_hcNtcRefresh_of_off s hn code⟩
    case starved =>
      obtain ⟨⟨⟨-, -, hduty⟩, -⟩, hverdict⟩ := s.chip.houseVerdict_parts n 3
      exact ⟨_, exec_hcDiagStarved_of_starved s hn hd hen h64 hcal, rfl, hverdict, hduty⟩
    case ntc =>
      have hexec := exec_hcNtcRefresh_eq s hn hr hd
      refine ⟨fun k hk => ?_, fun hnone hfault => ?_, fun hnone hfault => ?_⟩
      · rw [hexec, hk]
        rfl
      · rw [hnone, hfault] at hexec
        exact ⟨_, hexec, rfl, s.chip.ntcFails_parts hn⟩
      · rw [hexec, hnone, hfault]
        rfl

end Sys2Proof.Machine
end

section
/-! SUPPORT. RDM on a DMX port (R212, R215, R216, R312): what the end of a transaction leaves of the port that ran it. -/

namespace Sys2Proof.Machine

open Sys2Proof

/-! ### What records, events and queues leave of a port's line -/

/-- What RDM work beside a port's line leaves as it was: the transaction under way on it, the end of its last request, the clock,
and what has left the part. -/
def Chip.KeepsLine (n : Nat) (c d : Chip) : Prop :=
  (d.dmxPort n).active = (c.dmxPort n).active ∧ (d.dmxPort n).busyEnd = (c.dmxPort n).busyEnd ∧ d.cycle = c.cycle ∧
  ∀ o, o ∈ c.out → o ∈ d.out

namespace Chip.KeepsLine
variable {n : Nat} {c d e : Chip}

theorem refl (n : Nat) (c : Chip) : c.KeepsLine n c := ⟨rfl, rfl, rfl, fun _ h => h⟩

theorem trans (h : KeepsLine n c d) (k : KeepsLine n d e) : KeepsLine n c e := by
  obtain ⟨h₁, h₂, h₃, h₄⟩ := h
  obtain ⟨k₁, k₂, k₃, k₄⟩ := k
  exact ⟨k₁.trans h₁, k₂.trans h₂, k₃.trans h₃, fun o ho => k₄ o (h₄ o ho)⟩

theorem of_ports (h : c.KeepsPorts d) : KeepsLine n c d := ⟨by rw [h.dmxPort], by rw [h.dmxPort], h.cycle, fun _ => h.out⟩

theorem active (h : KeepsLine n c d) : (d.dmxPort n).active = (c.dmxPort n).active := h.1

end Chip.KeepsLine

section
variable (c : Chip) (n : Nat) (r : RdmRequest)

theorem Chip.keepsPorts_inc (off : Nat) : c.KeepsPorts (c.inc off) := c.keepsPorts_wr _ _

theorem Chip.keepsPorts_rdmRecord (status : Nat) (msg : List Byte) : c.KeepsPorts (c.rdmRecord n r status msg) :=
  c.keepsPorts_produce _ _

theorem Chip.keepsPorts_tellDe (old : Chip) : c.KeepsPorts (c.tellDe old) := by
  unfold Chip.tellDe
  split
  · exact .refl c
  · exact List.foldlRecOn _ _ (motive := c.KeepsPorts) (.refl c) fun d hd k _ => hd.trans (d.keepsPorts_toBall _)

theorem Chip.keepsPorts_rdmFailed (status : Nat) : c.KeepsPorts (c.rdmFailed n r status) := by
  unfold Chip.rdmFailed
  extract_lets fails d
  have hd : c.KeepsPorts d := ⟨rfl, rfl, rfl, rfl, fun _ h => h⟩
  split
  · exact hd
  · exact (hd.trans (e := { d with rdmTold := r.ctx :: d.rdmTold }) ⟨rfl, rfl, rfl, rfl, fun _ h => h⟩).trans
      (Chip.keepsPorts_report _ _ _ _ _ _)

theorem Chip.keepsPorts_mapSensor (ctx k : Nat) (f : RdmSensor → RdmSensor) : c.KeepsPorts (c.mapSensor ctx k f) :=
  ⟨rfl, rfl, rfl, rfl, fun _ h => h⟩

theorem Chip.keepsPorts_sensorRead (ctx k : Nat) (pd : List Byte) : c.KeepsPorts (c.sensorRead ctx k pd) := by
  unfold Chip.sensorRead
  split
  · exact .refl c
  split
  · exact .refl c
  split
  · exact c.keepsPorts_mapSensor _ _ _
  split
  · exact .refl c
  · exact .trans (d := { c with sensorsTold := (ctx, k) :: c.sensorsTold }) ⟨rfl, rfl, rfl, rfl, fun _ h => h⟩
      (Chip.keepsPorts_report _ _ _ _ _ _)

theorem Chip.keepsPorts_rdmDeliver (kind : Nat) (pd : List Byte) : c.KeepsPorts (c.rdmDeliver r kind pd) := by
  unfold Chip.rdmDeliver
  extract_lets later
  split
  · split
    · exact c.keepsPorts_mapSensor _ _ _
    · exact c.keepsPorts_mapSensor _ _ _
  · split
    · exact c.keepsPorts_mapSensor _ _ _
    · exact c.keepsPorts_sensorRead _ _ _
  · exact .refl c

theorem Chip.keepsLine_rdmOn (mute : Option Nat) (todo : List (Nat × Nat)) : c.KeepsLine n (c.rdmOn n r mute todo) := by
  unfold Chip.rdmOn
  split
  · exact .refl n c
  · refine ⟨?_, ?_, rfl, fun _ h => h⟩ <;> rw [Chip.dmxPort_setDmx_same]

/-! ### The end of a transaction (R212, R215, R495) -/

/-- The port of a transaction that has ended is free. -/
theorem Chip.active_rdmIdle : ((c.rdmIdle n).dmxPort n).active = none := by
  rw [Chip.rdmIdle, (Chip.keepsPorts_tellDe _ _).dmxPort, Chip.dmxPort_setDmx_same]

/-- So it is once the error is counted. -/
theorem Chip.active_rdmIdle_inc (off : Nat) : (((c.rdmIdle n).inc off).dmxPort n).active = none := c.active_rdmIdle n

theorem Chip.active_rdmTimeout : ((c.rdmTimeout n r).dmxPort n).active = none := by
  unfold Chip.rdmTimeout
  extract_lets d
  have hd : (d.dmxPort n).active = none := c.active_rdmIdle_inc n _
  split
  · exact (d.keepsLine_rdmOn n r _ _).active.trans hd
  · exact (d.keepsLine_rdmOn n r _ _).active.trans hd
  · have hkeep := (d.keepsPorts_rdmRecord n r 1 []).trans (Chip.keepsPorts_rdmFailed _ n r 1)
    rw [hkeep.dmxPort, hd]

theorem Chip.active_shortBreak : ((c.shortBreak n r).dmxPort n).active = none := by
  unfold Chip.shortBreak
  split
  · next _ u todo _ =>
    extract_lets d
    have hd : (c.rdmIdle n).inc (Reg.DMX_RDM_ERR_CNT n) |>.KeepsPorts d := Chip.keepsPorts_rdmRecord _ _ _ _ _
    have hkeep := (hd.trans (d.keepsPorts_rdmFailed n r 1)).trans (Chip.keepsPorts_rdmRecord _ n r 5 (beBytes 6 u))
    rw [(Chip.keepsLine_rdmOn _ n r _ _).active, hkeep.dmxPort, c.active_rdmIdle_inc]
  · exact c.active_rdmTimeout n r

theorem Chip.active_rdmResponse (m : List Byte) : ((c.rdmResponse n r m).dmxPort n).active = none := by
  unfold Chip.rdmResponse
  extract_lets d
  have hd : (d.dmxPort n).active = none := c.active_rdmIdle n
  have hinc : d.KeepsPorts (d.inc (Reg.DMX_RDM_ERR_CNT n)) := d.keepsPorts_inc _
  split
  · split
    · rw [(Chip.keepsLine_rdmOn _ n r _ _).active, (d.keepsPorts_rdmRecord n r _ _).dmxPort, hd]
    · rw [(Chip.keepsLine_rdmOn _ n r _ _).active, hinc.dmxPort, hd]
  · rw [(Chip.keepsLine_rdmOn _ n r _ _).active, hd]
  · split
    · rw [(Chip.keepsPorts_rdmRecord _ n r _ _).dmxPort, hinc.dmxPort, hd]
    split
    · rw [(Chip.keepsPorts_rdmFailed _ n r _).dmxPort, (Chip.keepsPorts_rdmRecord _ n r _ _).dmxPort, hinc.dmxPort, hd]
    · have hanswered : d.KeepsPorts (d.rdmAnswered r) := ⟨rfl, rfl, rfl, rfl, fun _ h => h⟩
      rw [(Chip.keepsPorts_rdmRecord _ n r _ _).dmxPort, (Chip.keepsPorts_rdmDeliver _ r _ _).dmxPort, hanswered.dmxPort, hd]

theorem Chip.active_rdmBranch (todo : List (Nat × Nat)) (m : List Byte) : ((c.rdmBranch n r todo m).dmxPort n).active = none := by
  unfold Chip.rdmBranch
  extract_lets d
  have hd : (d.dmxPort n).active = none := c.active_rdmIdle n
  split
  · rw [(Chip.keepsLine_rdmOn _ n r _ _).active, hd]
  · rw [(Chip.keepsLine_rdmOn _ n r _ _).active, (d.keepsPorts_inc _).dmxPort, hd]

end

end Sys2Proof.Machine
end

section
/-! SUPPORT. The rows of RDM (R212, R215, R216, R312, R495) as they answer, case by case. -/

namespace Sys2Proof.Machine

open Sys2Proof

/-! ### The commands (R216, R312) -/

section
variable (s : State) {h : CmdHdr} {p q : Nat} (hq : payloadOf h p = q) (ht : s.chip.takes h false = true)
include hq ht

theorem exec_portRdmRequest_of_taken {ctx n : Nat} {c : Chip} {data : List Byte} (hctx : ctx = pl q 0 0 10)
    (hn : n = min 231 (pl q 0 24 8)) (hc : c = if n ≤ 24 then s.chip else s.chip.noteRead 0 8 (pl q 8 0 64) n)
    (hdata : data = if n ≤ 24 then recBytes q 0x10 n else s.chip.fetch s.dram (pl q 8 0 64) n) :
    exec (.portRdmRequest h p) s = .next (s.onto ((c.rdmQueue (CtxRec.port (s.chip.recAt 14 ctx))
      ⟨ctx, h.tag, true, .request (pl q 0 16 8) (pl q 4 16 16) (pl q 4 0 16) data, s.chip.cycle, false⟩).complete
      h 0x0610 0 [])) := by
  subst hctx hn hdata
  have hrec : c.recAt 14 (pl q 0 0 10) = s.chip.recAt 14 (pl q 0 0 10) := by
    have htables : c.tables = s.chip.tables := by
      rw [hc]
      split
      · rfl
      · exact (s.chip.keepsLive_noteRead 0 8 _ _).2.2.1
    rw [Chip.recAt, htables, Chip.recAt]
  show execPortRdmRequest h p s = _
  rw [execPortRdmRequest, firmware_taken _ _ _ _ _ _ q hq ht]
  extract_lets ctx n data r d
  obtain rfl : c = d := hc
  rw [hrec]

theorem exec_portRdmDiscover_of_taken {ctx : Nat} (hctx : ctx = pl q 0 0 10) :
    exec (.portRdmDiscover h p) s = .next (s.onto ((s.chip.rdmQueue (CtxRec.port (s.chip.recAt 14 ctx))
      ⟨ctx, h.tag, true, .discover (bit q 10) none [(0, 2 ^ 48 - 2)], s.chip.cycle, false⟩).complete h 0x0611 0 [])) := by
  subst hctx
  show execPortRdmDiscover h p s = _
  rw [execPortRdmDiscover, firmware_taken _ _ _ _ _ _ q hq ht]
  rfl

theorem exec_portRdmAbort_of_taken {ctx : Nat} (hctx : ctx = pl q 0 16 10) :
    exec (.portRdmAbort h p) s = .next (s.onto ((s.chip.rdmWaiting ctx (pl q 0 0 16)).elim (s.chip.decline h 0x0612 missed)
      fun e => (s.chip.rdmDrop e.1 e.2).complete h 0x0612 0 [])) := by
  subst hctx
  show execPortRdmAbort h p s = _
  rw [execPortRdmAbort, firmware_taken _ _ _ _ _ _ q hq ht]
  cases hw : s.chip.rdmWaiting (pl q 0 16 10) (pl q 0 0 16) <;> simp only [hw, Option.elim]

end

/-! ### The start of a request (R212, R216) -/

/-- The time of a request on the wire, its break and mark among it. -/
theorem usCycles_wire (l : Nat) : usCycles (176 + 12 + 44 * l) = 800 * (188 + 44 * l) := by
  unfold usCycles
  omega

theorem Chip.rdmReserve_eq (c : Chip) (n trans : Nat) (r : RdmRequest) :
    c.rdmReserve n trans r = 800 * (188 + 44 * (c.rdmNext n trans r).1.length) + 11440000 := by
  unfold Chip.rdmReserve usCycles
  omega

/-- A request that has been sent: where no response is awaited, discovery goes on, and another request has its record. -/
def Chip.rdmSent (c : Chip) (n : Nat) (r : RdmRequest) (awaits : Bool) : Chip :=
  if awaits then c
  else match r.job with
    | .discover _ _ todo => c.rdmOn n r none todo
    | _ => c.rdmRecord n r 0 []

theorem Chip.keepsLine_rdmSent (c : Chip) (n : Nat) (r : RdmRequest) (awaits : Bool) : c.KeepsLine n (c.rdmSent n r awaits) := by
  unfold Chip.rdmSent
  split
  · exact .refl n c
  split
  · exact c.keepsLine_rdmOn n r _ _
  · exact .of_ports (c.keepsPorts_rdmRecord n r _ _)

section
variable (c : Chip) (n : Nat) (r : RdmRequest) (rest : List RdmRequest) {m : List Byte × Bool} {at_ : Nat}
  (hm : m = c.rdmNext n (((c.dmxPort n).trans + 1) % 256) r)
  (hat : at_ = max c.cycle (max (c.dmxPort n).frame.ends (c.dmxPort n).busyEnd))
include hm hat

theorem Chip.rdmStart_of_short (h : c.nextDmx n < at_ + 800 * (188 + 44 * m.1.length) + 11440000 + 40000) :
    c.rdmStart n r rest = c := by
  subst hm hat
  unfold Chip.rdmStart
  extract_lets x trans m wire at_
  rw [if_pos]
  rw [c.rdmReserve_eq, ← Nat.add_assoc]
  exact h

theorem Chip.rdmStart_of_fits (h : at_ + 800 * (188 + 44 * m.1.length) + 11440000 + 40000 ≤ c.nextDmx n) :
    (c.power.pins = false → .rdm n m.1 ∈ (c.rdmStart n r rest).out) ∧ (c.rdmStart n r rest).cycle = at_ ∧
    ((c.rdmStart n r rest).dmxPort n).active = (if m.2 then some r else none) ∧
    ((c.rdmStart n r rest).dmxPort n).busyEnd = at_ + 800 * (188 + 44 * m.1.length) := by
  subst hm hat
  unfold Chip.rdmStart
  extract_lets x trans m wire at_ d e
  have hfits : ¬ c.nextDmx n < at_ + c.rdmReserve n trans r + guard := by
    rw [c.rdmReserve_eq, ← Nat.add_assoc]
    exact Nat.not_lt.mpr h
  rw [if_neg hfits]
  have htold : (d.setDmx n { x with
      queue := rest, active := if m.2 then some r else none, busyEnd := at_ + wire, trans := trans, starved := 0, served := true
    }).KeepsPorts e := Chip.keepsPorts_tellDe _ d
  have hport := htold.dmxPort n
  rw [Chip.dmxPort_setDmx_same] at hport
  have hcycle : e.cycle = at_ := by
    rw [htold.cycle, Chip.setDmx_cycle, (Chip.keepsPorts_toBall _ _).cycle, (c.runToCycle_parts at_).1]
    exact max_eq_right (le_max_left _ _)
  obtain ⟨hactive, hbusy, hcyc, hout⟩ := e.keepsLine_rdmSent n r m.2
  exact ⟨fun hpins => hout _ (htold.out ((c.runToCycle at_).mem_out_toBall _ hpins)), hcyc.trans hcycle,
    hactive.trans (congrArg DmxPort.active hport),
    (hbusy.trans (congrArg DmxPort.busyEnd hport)).trans (congrArg (at_ + ·) (usCycles_wire _))⟩

end

/-! ### A response (R212, R215, R216, R495) -/

/-- A response in time, as its request takes it: a UID found or a collision, a break too short, or an answer. -/
def Chip.rdmTakes (c : Chip) (n : Nat) (r : RdmRequest) (by_ brk : Nat) (octets : List Byte) : Chip :=
  match r.job with
  | .discover _ none todo => c.rdmBranch n r todo octets
  | _ => if brk < 96 then (c.runToCycle by_).shortBreak n r else c.rdmResponse n r octets

section
variable (c : Chip) (n : Nat) (r : RdmRequest) (by_ brk : Nat) (octets : List Byte)

theorem Chip.rdmTakes_of_branch {b : Bool} {todo : List (Nat × Nat)} (h : r.job = .discover b none todo) :
    c.rdmTakes n r by_ brk octets = c.rdmBranch n r todo octets := by
  unfold Chip.rdmTakes
  rw [h]

theorem Chip.rdmTakes_of_other (h : ∀ b todo, r.job ≠ .discover b none todo) : c.rdmTakes n r by_ brk octets =
    if brk < 96 then (c.runToCycle by_).shortBreak n r else c.rdmResponse n r octets := by
  unfold Chip.rdmTakes
  split
  · next b todo hjob => exact absurd hjob (h b todo)
  · rfl

theorem Chip.active_rdmTakes : ((c.rdmTakes n r by_ brk octets).dmxPort n).active = none := by
  unfold Chip.rdmTakes
  split
  · exact c.active_rdmBranch n r _ _
  split
  · exact Chip.active_shortBreak _ n r
  · exact c.active_rdmResponse n r _

theorem Chip.shortBreak_of_mute {b : Bool} {u : Nat} {todo : List (Nat × Nat)} (h : r.job = .discover b (some u) todo) :
    c.shortBreak n r = (((((c.rdmIdle n).inc (Reg.DMX_RDM_ERR_CNT n)).rdmRecord n r 1 []).rdmFailed n r 1).rdmRecord n r 5
      (beBytes 6 u)).rdmOn n r none todo := by
  unfold Chip.shortBreak
  rw [h]

theorem Chip.shortBreak_of_other (h : ∀ b u todo, r.job ≠ .discover b (some u) todo) : c.shortBreak n r = c.rdmTimeout n r := by
  unfold Chip.shortBreak
  split
  · next b u todo hjob => exact absurd hjob (h b u todo)
  · rfl

end

/-! ### The rows of a port -/

section
variable (s : State) {n : Nat} (hn : n < 16)
include hn

theorem exec_rdmRequestStart_of_cons {r : RdmRequest} {rest : List RdmRequest} {at_ : Nat} {old may : Bool}
    (hqueue : (s.chip.dmxPort n).queue = r :: rest)
    (hat : at_ = max s.chip.cycle (max (s.chip.dmxPort n).frame.ends (s.chip.dmxPort n).busyEnd))
    (hold : old = (r.host && !r.started && decide (r.accepted + 800000000 ≤ at_)))
    (hmay : may = (s.chip.drives && bit (s.chip.lv (Reg.DMX_CFG n)) 0 && bit (s.chip.lv (Reg.DMX_CFG n)) 1 &&
      (s.chip.dmxPort n).active.isNone)) :
    exec (.rdmRequestStart n) s = .next (s.onto
      (if old then s.chip.rdmDrop n r else if may then s.chip.rdmStart n r rest else s.chip)) := by
  subst hold hat hmay
  show execRdmRequestStart n s = _
  rw [execRdmRequestStart, decide_eq_true hn, within_true, onChip_eq]
  simp only [hqueue]
  rfl

theorem exec_rdmRequestStart_of_nil (hqueue : (s.chip.dmxPort n).queue = []) : exec (.rdmRequestStart n) s = .next s := by
  show execRdmRequestStart n s = _
  rw [execRdmRequestStart, decide_eq_true hn, within_true, onChip_eq]
  simp only [hqueue]

theorem exec_rdmResponseTimeout_of_active {r : RdmRequest} (hr : (s.chip.dmxPort n).active = some r) :
    exec (.rdmResponseTimeout n) s =
      .next (s.onto ((s.chip.runToCycle ((s.chip.dmxPort n).busyEnd + 2240000)).rdmTimeout n r)) := by
  show execRdmResponseTimeout n s = _
  rw [execRdmResponseTimeout, decide_eq_true hn, within_true, onChip_eq]
  simp only [hr]
  rfl

variable {octets : List Byte} (hl : octets.length ≤ 257) (brk : Nat)
include hl

theorem exec_rdmResponseReceive_of_active {r : RdmRequest} {by_ : Nat} {c : Chip} (hr : (s.chip.dmxPort n).active = some r)
    (hby : by_ = (s.chip.dmxPort n).busyEnd + 2240000) (hc : c = s.chip.runToCycle (s.chip.dmxPort n).busyEnd) :
    exec (.rdmResponseReceive n brk octets) s = .next (s.onto
      (if by_ < c.responseBegan brk octets.length then c.rdmTimeout n r else c.rdmTakes n r by_ brk octets)) := by
  subst hby hc
  show execRdmResponseReceive n brk octets s = _
  rw [execRdmResponseReceive, decide_eq_true hn, decide_eq_true hl, Bool.and_self, within_true, onChip_eq]
  simp only [hr]
  rfl

theorem exec_rdmResponse_of_idle (hr : (s.chip.dmxPort n).active = none) : exec (.rdmResponseTimeout n) s = .next s ∧
    exec (.rdmResponseReceive n brk octets) s = .next s := by
  show execRdmResponseTimeout n s = _ ∧ execRdmResponseReceive n brk octets s = _
  rw [execRdmResponseTimeout, execRdmResponseReceive, decide_eq_true hn, decide_eq_true hl, Bool.and_self, within_true,
    within_true, onChip_eq, onChip_eq]
  simp only [hr, and_self]

end

/-! ### The rows of a context (R215, R216) -/

section
variable (s : State) {ctx : Nat} (hctx : ctx < 1024)
include hctx

theorem exec_rdmSensorPoll_of_polled (hen : CtxRec.en (s.chip.recAt 14 ctx) = true) (hd : s.chip.domainOn 11 = true) {c d : Chip}
    (hc : c = s.chip.runToCycle (s.chip.pollDue ctx)) (hpolled : d = { c with rdmPolled := setNat c.rdmPolled ctx (c.cycle + 1) }) :
    exec (.rdmSensorPoll ctx) s = .next (s.onto ((s.chip.sensorsNamed ctx).foldl (fun c k => c.pollSensor ctx k) d)) := by
  subst hpolled hc
  show execRdmSensorPoll ctx s = _
  rw [execRdmSensorPoll, decide_eq_true hctx, within_true, onChip_eq, if_pos (Bool.and_eq_true_iff.mpr ⟨hen, hd⟩)]
  rfl

theorem exec_rdmSensorPoll_of_not (h : CtxRec.en (s.chip.recAt 14 ctx) = false ∨ s.chip.domainOn 11 = false) :
    exec (.rdmSensorPoll ctx) s = .next s := by
  show execRdmSensorPoll ctx s = _
  rw [execRdmSensorPoll, decide_eq_true hctx, within_true, onChip_eq,
    if_neg (ne_true_of_eq_false (Bool.and_eq_false_iff.mpr h))]

theorem exec_rdmAckTimerExpire_of_putOff {t : Nat} {l : List Nat} (ht : (s.chip.putOff ctx).map (·.2) = t :: l) {c : Chip}
    (hc : c = s.chip.runToCycle (l.foldl min t)) : exec (.rdmAckTimerExpire ctx) s = .next (s.onto
      (((s.chip.putOff ctx).filter fun e => e.2 ≤ c.cycle).foldl (fun c e =>
        (c.mapSensor ctx e.1 fun x => { x with ackAt := none }).pollSensor ctx e.1) c)) := by
  subst hc
  show execRdmAckTimerExpire ctx s = _
  rw [execRdmAckTimerExpire, decide_eq_true hctx, within_true, onChip_eq]
  simp only [ht]
  rfl

theorem exec_rdmAckTimerExpire_of_nil (h : s.chip.putOff ctx = []) : exec (.rdmAckTimerExpire ctx) s = .next s := by
  show execRdmAckTimerExpire ctx s = _
  rw [execRdmAckTimerExpire, decide_eq_true hctx, within_true, onChip_eq]
  simp only [h, List.map_nil]

theorem exec_rdmRequestExpire_eq (tag : Nat) : exec (.rdmRequestExpire ctx tag) s = .next (s.onto
    ((s.chip.rdmWaiting ctx tag).elim s.chip fun e => (s.chip.runToCycle (e.2.accepted + 800000000)).rdmDrop e.1 e.2)) := by
  show execRdmRequestExpire ctx tag s = _
  rw [execRdmRequestExpire, decide_eq_true hctx, within_true, onChip_eq]
  cases s.chip.rdmWaiting ctx tag <;> rfl

end

/-- Settles O48: the commands as firmware takes them, a request at its start, in its response and without one, and the polls of
a context. -/
theorem rdmRequestsRunInTheirGaps : Obligations.RdmRequestsRunInTheirGaps := by
  unfold Obligations.RdmRequestsRunInTheirGaps
  refine ⟨fun s h p q hq ht => ?commands, fun s n x hn hx => ?port, fun s ctx hctx => ?context⟩
  case commands =>
    refine ⟨fun ctx n c data hctx hlen hc hdata => exec_portRdmRequest_of_taken s hq ht hctx hlen hc hdata,
      fun ctx hctx => exec_portRdmDiscover_of_taken s hq ht hctx, fun ctx hctx => ?_⟩
    have hexec := exec_portRdmAbort_of_taken s hq ht hctx
    refine ⟨fun r hr => ?_, fun hnone => ?_⟩
    · rw [hexec, hr, Option.elim_some]
    · rw [hexec, hnone, Option.elim_none, missed]
  case port =>
    subst hx
    refine ⟨fun r rest m at_ old may hqueue hm hat hold hmay => ?start, exec_rdmRequestStart_of_nil s hn,
      fun r by_ hr hby => ?response, fun hidle => ?idle⟩
    case start =>
      have hexec := exec_rdmRequestStart_of_cons s hn hqueue hat hold hmay
      refine ⟨fun hdrop => ?_, fun hkept hnot => ?_, fun hkept hfree hshort => ?_, fun hkept hfree hfits => ?_⟩
      · rw [hexec, if_pos hdrop]
      · rw [hexec, if_neg (ne_true_of_eq_false hkept), if_neg (ne_true_of_eq_false hnot), State.onto_self]
      · rw [hexec, if_neg (ne_true_of_eq_false hkept), if_pos hfree, s.chip.rdmStart_of_short n r rest hm hat hshort,
          State.onto_self]
      · rw [if_neg (ne_true_of_eq_false hkept), if_pos hfree] at hexec
        exact ⟨_, hexec, s.onto_dram _, s.chip.rdmStart_of_fits n r rest hm hat hfits⟩
    case response =>
      refine ⟨hby ▸ exec_rdmResponseTimeout_of_active s hn hr, fun brk octets hl c hc => ?_⟩
      have hexec := exec_rdmResponseReceive_of_active s hn hl brk hr hby hc
      refine ⟨fun hlate => ?_, fun hintime => ?_, ?_⟩
      · rw [hexec, if_pos hlate]
      · rw [if_neg (Nat.not_lt.mpr hintime)] at hexec
        refine ⟨fun b todo hjob => ?_, fun hother => ⟨fun hshort hnot => ?_, fun b u todo d hshort hmute hd => ?_, fun hbrk => ?_⟩⟩
        · rw [hexec, c.rdmTakes_of_branch n r by_ brk octets hjob]
        · rw [hexec, c.rdmTakes_of_other n r by_ brk octets hother, if_pos hshort, Chip.shortBreak_of_other _ n r hnot]
        · rw [hexec, c.rdmTakes_of_other n r by_ brk octets hother, if_pos hshort, ← hd, d.shortBreak_of_mute n r hmute]
        · rw [hexec, c.rdmTakes_of_other n r by_ brk octets hother, if_neg (Nat.not_lt.mpr hbrk)]
      · refine ⟨_, hexec, ?_⟩
        rw [State.onto_chip]
        split
        · exact c.active_rdmTimeout n r
        · exact c.active_rdmTakes n r by_ brk octets
    case idle =>
      exact ⟨(exec_rdmResponse_of_idle s hn (octets := []) (by decide) 0 hidle).1,
        fun brk octets hl => (exec_rdmResponse_of_idle s hn hl brk hidle).2⟩
  case context =>
    refine ⟨fun hen hd c d hc hpolled => exec_rdmSensorPoll_of_polled s hctx hen hd hc hpolled, exec_rdmSensorPoll_of_not s hctx,
      fun t l c ht hc => exec_rdmAckTimerExpire_of_putOff s hctx ht hc, exec_rdmAckTimerExpire_of_nil s hctx, fun tag => ?_⟩
    have hexec := exec_rdmRequestExpire_eq s hctx tag
    refine ⟨fun r hr => ?_, fun hnone => ?_⟩
    · rw [hexec, hr, Option.elim_some]
    · rw [hexec, hnone, Option.elim_none, State.onto_self]

end Sys2Proof.Machine
end

section
/-! SUPPORT. Received frames (R237), PAUSE and its watchdog (R243, R244), and the changes of a link (R199, R251): what the end of a
pause and the loss of a link leave of a port, and the rows as they answer, case by case. -/

namespace Sys2Proof.Machine

open Sys2Proof

/-! ### Events and ports -/

theorem Chip.SameButEvents.port {c d : Chip} (h : c.SameButEvents d) (p : Nat) : d.port p = c.port p := by rw [h.1]; rfl

theorem Chip.SameButEvents.cycle {c d : Chip} (h : c.SameButEvents d) : d.cycle = c.cycle := by rw [h.1]

/-- A bit that is set with the event that tells it reads as set. -/
theorem Chip.bit_rd_told (c : Chip) {off : Nat} (mask i src code : Nat) (items : List Byte) (hoff : off < 0xE000) (hi : i < 32)
    (hm : mask.testBit i = true) : bit (((c.setEvt off mask).raise src code items).rd off) i = true := by
  rw [((c.setEvt off mask).sameButEvents_raise src code items).rd_power hoff]
  exact c.bit_rd_setEvt off mask i hi hm

/-- The event register of a port lies below the power block. -/
theorem netEvt_lt {p : Nat} (hp : p < 5) : Reg.NET_EVT p < 0xE000 := by
  unfold Reg.NET_EVT
  omega

/-- What happens in one cycle rests on the part with its events gathered. -/
theorem Chip.inCycle_congr {c : Chip} {f g : Chip → Chip} (h : ∀ b, f { c with batch := b } = g { c with batch := b }) :
    c.inCycle f = c.inCycle g := by
  unfold Chip.inCycle
  split
  · exact h c.batch
  · rw [h]

/-- Nothing happens in a cycle in which nothing changes. -/
theorem Chip.inCycle_of_same {c : Chip} {f : Chip → Chip} (h : ∀ b, f { c with batch := b } = { c with batch := b }) :
    c.inCycle f = c :=
  (Chip.inCycle_congr (g := id) h).trans (c.inCycle_quiet id fun _ _ => rfl)

/-! ### Frames received (R237) -/

section
variable (c : Chip) (d : List Host.Cell) (p : Nat) {f : List Byte}

theorem Chip.receive_of_short (h : f.length < 64) : c.receive d p f = (d, c.cntAdd p 0xA0 1) := if_pos h

variable (hmin : 64 ≤ f.length)
include hmin

theorem Chip.receive_of_long (h : bits (c.lv (Reg.NET_MAXLEN p)) 0 14 < f.length) :
    c.receive d p f = (d, c.cntAdd p 0xA4 1) :=
  (if_neg (Nat.not_lt.mpr hmin)).trans (if_pos h)

variable (hmax : f.length ≤ bits (c.lv (Reg.NET_MAXLEN p)) 0 14) {body : List Byte} (hbody : body = f.take (f.length - 4))
include hmax hbody

/-- The tests that follow the length. -/
theorem Chip.receive_of_length : c.receive d p f =
    if ofLE (f.drop (f.length - 4)) ≠ crc32 body then (d, c.cntAdd p 0xA8 1)
    else if !c.vlanPasses p (frameHead body) then (d, c.cntAdd p 0xAC 1)
    else if !c.dstPasses p (frameHead body).dst then (d, c.cntAdd p 0xB0 1)
    else ((c.cntAdd p 0x80 1).cntAdd p 0x88 f.length).deliver d p f.length body := by
  subst hbody
  exact (if_neg (Nat.not_lt.mpr hmin)).trans (if_neg (Nat.not_lt.mpr hmax))

theorem Chip.receive_of_badFcs (h : ofLE (f.drop (f.length - 4)) ≠ crc32 body) :
    c.receive d p f = (d, c.cntAdd p 0xA8 1) := by
  rw [c.receive_of_length d p hmin hmax hbody, if_pos h]

variable (hfcs : ofLE (f.drop (f.length - 4)) = crc32 body)
include hfcs

theorem Chip.receive_of_badTag (h : c.vlanPasses p (frameHead body) = false) :
    c.receive d p f = (d, c.cntAdd p 0xAC 1) := by
  rw [c.receive_of_length d p hmin hmax hbody, if_neg (not_not_intro hfcs), h]
  rfl

theorem Chip.receive_of_badDst (ht : c.vlanPasses p (frameHead body) = true)
    (h : c.dstPasses p (frameHead body).dst = false) : c.receive d p f = (d, c.cntAdd p 0xB0 1) := by
  rw [c.receive_of_length d p hmin hmax hbody, if_neg (not_not_intro hfcs), ht, h]
  rfl

theorem Chip.receive_of_passed (ht : c.vlanPasses p (frameHead body) = true)
    (h : c.dstPasses p (frameHead body).dst = true) :
    c.receive d p f = ((c.cntAdd p 0x80 1).cntAdd p 0x88 f.length).deliver d p f.length body := by
  rw [c.receive_of_length d p hmin hmax hbody, if_neg (not_not_intro hfcs), ht, h]
  rfl

end

/-! ### The end of a pause (R243) -/

/-- What leaves the clock and the pause of a port as they were. -/
def Chip.KeepsPause (p : Nat) (c d : Chip) : Prop := d.cycle = c.cycle ∧ (d.port p).pauseEnd = (c.port p).pauseEnd

namespace Chip.KeepsPause
variable {p : Nat} {c d e : Chip}

theorem refl (c : Chip) : c.KeepsPause p c := ⟨rfl, rfl⟩

theorem trans (h : c.KeepsPause p d) (k : d.KeepsPause p e) : c.KeepsPause p e := ⟨k.1.trans h.1, k.2.trans h.2⟩

/-- A run of operations on the part, `π` of what they act on, of which each keeps it. -/
theorem foldl_of {α σ : Type} (π : σ → Chip) {f : σ → α → σ} (hf : ∀ s x, (π s).KeepsPause p (π (f s x)))
    (l : List α) (s : σ) : (π s).KeepsPause p (π (l.foldl f s)) :=
  List.foldlRecOn l f (motive := fun r => (π s).KeepsPause p (π r)) (refl _) fun _ hr x _ => hr.trans (hf _ x)

theorem of_events (h : c.SameButEvents d) : c.KeepsPause p d := ⟨h.cycle, by rw [h.port]⟩

end Chip.KeepsPause

section
variable (c : Chip) (p : Nat)

theorem Chip.keepsPause_setPort {x : NetPort} (h : x.pauseEnd = (c.port p).pauseEnd) : c.KeepsPause p (c.setPort p x) :=
  ⟨rfl, by rw [Chip.port_setPort_same, h]⟩

theorem Chip.keepsPause_sendOut (n : Nat) (o : Out) : c.KeepsPause p (c.sendOut p n o) :=
  have hport : (c.sendOut p n o).port p = _ := Chip.port_setPort_same (c.notePtp p (c.startOf p - c.cycle) o) p _
  ⟨(c.sameButSends_sendOut p n o).cycle, (congrArg NetPort.pauseEnd hport).trans rfl⟩

theorem Chip.keepsPause_sendGap (n : Nat) (o : Out) : c.KeepsPause p (c.sendGap p n o) := by
  unfold Chip.sendGap
  extract_lets x
  split
  · exact .refl c
  split
  · exact c.keepsPause_setPort p rfl
  · exact c.keepsPause_sendOut p n o

theorem Chip.keepsPause_releaseGap : c.KeepsPause p (c.releaseGap p) :=
  (c.keepsPause_setPort p (x := { c.port p with backlog := [] }) rfl).trans
    (.foldl_of id (fun d (e : Nat × Out) => d.keepsPause_sendGap p e.1 e.2) _ _)

theorem Chip.keepsPause_sendDue (csn due : Nat) (frames : List (List Byte)) : c.KeepsPause p (c.sendDue p csn due frames) := by
  unfold Chip.sendDue
  extract_lets r
  have hr : c.KeepsPause p r.1 :=
    .foldl_of (σ := Chip × Option Nat) Prod.fst (fun s f => s.1.keepsPause_sendOut p f.length (.frame p f)) frames (c, none)
  split
  · exact hr
  · exact hr.trans (.trans (d := (r.1.inc _).setEvt _ _) ⟨rfl, rfl⟩ (.of_events (Chip.sameButEvents_raise _ _ _ _)))

theorem Chip.keepsPause_releaseSyncs : c.KeepsPause p (c.releaseSyncs p) :=
  (c.keepsPause_setPort p (x := { c.port p with queue := (c.port p).queue.filter fun q => q.kind != .sync }) rfl).trans
    (.foldl_of id (fun d (k : Nat × Nat) => d.keepsPause_sendDue p k.1 k.2 _) _ _)

theorem Chip.cycle_settlePause : (c.settlePause p).cycle = c.cycle := by
  unfold Chip.settlePause
  extract_lets x
  split <;> rfl

/-- A pause that ends leaves its port free in the same cycle. -/
theorem Chip.endPause_parts : ((c.endPause p).port p).pauseEnd = none ∧ (c.endPause p).cycle = c.cycle := by
  unfold Chip.endPause
  extract_lets x held c₁ x₁
  split
  · next hnone => exact ⟨Option.isNone_iff_eq_none.mp hnone, rfl⟩
  · obtain ⟨hsent, hend⟩ := ((c₁.setPort p _).keepsPause_releaseSyncs p).trans (Chip.keepsPause_releaseGap _ p)
    exact ⟨hend.trans (by rw [Chip.port_setPort_same]), hsent.trans (c.cycle_settlePause p)⟩

/-! ### The watchdog (R244) -/

/-- Re-arming a port changes its watchdog alone. -/
theorem Chip.port_rearm (cause : Nat) : (c.rearm p cause).port p = { c.port p with tripped := none } := by
  unfold Chip.rearm
  split
  · next h => rw [← h]
  · rw [(Chip.sameButEvents_raise _ _ _ _).port]
    exact c.port_setPort_same p _

theorem Chip.bit_rearm {p : Nat} (cause : Nat) (hp : p < 5) (h : (c.port p).tripped ≠ none) :
    bit ((c.rearm p cause).rd (Reg.NET_EVT p)) 2 = true := by
  unfold Chip.rearm
  split
  · next hnone => exact absurd hnone h
  · exact Chip.bit_rd_told _ 4 2 _ _ _ (netEvt_lt hp) (by decide) (by decide)

/-- The watchdog of a port tripped by a pause continuous since a cycle, with its event. -/
def Chip.tripPause (c : Chip) (p since : Nat) : Chip :=
  ((c.setPort p { c.port p with tripped := some c.cycle, lastPause := c.cycle, pauseFrom := none }).setEvt (Reg.NET_EVT p) 2).raise
    (32 + p) 0x1002 (it4 p ++ it4 ((c.cycle - since) / 800))

theorem Chip.tripPause_parts {p : Nat} (since : Nat) (hp : p < 5) :
    ((c.tripPause p since).port p).pauseEnd = (c.port p).pauseEnd ∧ ((c.tripPause p since).port p).tripped = some c.cycle ∧
    bit ((c.tripPause p since).rd (Reg.NET_EVT p)) 1 = true := by
  have hport : (c.tripPause p since).port p =
      { c.port p with tripped := some c.cycle, lastPause := c.cycle, pauseFrom := none } :=
    ((Chip.sameButEvents_raise _ _ _ _).port p).trans (c.port_setPort_same p _)
  rw [hport]
  exact ⟨rfl, rfl, Chip.bit_rd_told _ 2 1 _ _ _ (netEvt_lt hp) (by decide) (by decide)⟩

/-! ### A PAUSE at its receipt (R243, R244) -/

theorem Chip.pause_zero : c.pause p 0 = ((c.endPause p).rearm p 0).cntAdd p 0xC0 1 := by
  unfold Chip.pause
  exact if_pos rfl

/-- A PAUSE of no time leaves its port free and its watchdog armed. -/
theorem Chip.pause_zero_parts : ((c.pause p 0).port p).pauseEnd = none ∧ ((c.pause p 0).port p).tripped = none := by
  have hport : (c.pause p 0).port p = { (c.endPause p).port p with tripped := none } := by
    rw [c.pause_zero p]
    exact Chip.port_rearm _ p 0
  rw [hport]
  exact ⟨(c.endPause_parts p).1, rfl⟩

section
variable {quanta : Nat} (hq : 0 < quanta)
include hq

theorem Chip.pause_of_tripped (h : (c.port p).tripped ≠ none) :
    c.pause p quanta = (c.setPort p { c.port p with lastPause := c.cycle }).cntAdd p 0xC4 1 :=
  (if_neg hq.ne').trans (if_pos (Option.isSome_iff_ne_none.mpr h))

variable (ht : (c.port p).tripped = none) {ends : Nat} (hends : ends = c.cycle + ceilDiv (quanta * 4096) (c.portRate p))
include ht hends

/-- A further PAUSE: it ends the hold that has not begun, or sets its end. -/
theorem Chip.pause_of_held (h : (c.port p).pauseEnd ≠ none) : c.pause p quanta =
    if ends ≤ (c.port p).heldAt && decide (c.cycle < (c.port p).heldAt) then (c.cntAdd p 0xC0 1).endPause p
    else (c.cntAdd p 0xC0 1).setPort p { c.port p with pauseEnd := some ends, lastPause := c.cycle } := by
  subst hends
  exact (if_neg hq.ne').trans ((if_neg (by rw [ht]; decide)).trans (if_pos (Option.isSome_iff_ne_none.mpr h)))

variable (h : (c.port p).pauseEnd = none)
include h

/-- A PAUSE that would end before the frame on the wire holds nothing. -/
theorem Chip.pause_of_brief (hs : ends ≤ max c.cycle (c.port p).txEnd) : c.pause p quanta = c.cntAdd p 0xC0 1 := by
  subst hends
  exact (if_neg hq.ne').trans ((if_neg (by rw [ht]; decide)).trans ((if_neg (by rw [h]; decide)).trans (if_pos hs)))

/-- A first PAUSE holds its port from the end of the frame on the wire; the continuous pause began with it or before. -/
theorem Chip.pause_of_free (hs : max c.cycle (c.port p).txEnd < ends) : ∃ since, c.pause p quanta =
    (c.cntAdd p 0xC0 1).setPort p { c.port p with
      pauseEnd := some ends, heldAt := max c.cycle (c.port p).txEnd, pauseFrom := since, lastPause := c.cycle } := by
  subst hends
  exact ⟨_, (if_neg hq.ne').trans ((if_neg (by rw [ht]; decide)).trans
    ((if_neg (by rw [h]; decide)).trans (if_neg (Nat.not_le.mpr hs))))⟩

end

/-- A narrow counter of a port after it counts. -/
theorem Chip.cntOf_cntAdd_same {off : Nat} (n : Nat) (hlo : 0xA0 ≤ off) (hne : off ≠ 0xCC) :
    (c.cntAdd p off n).cntOf p off = sat32 (c.cntOf p off + n) := by
  refine (Store.get_set_same ..).trans ?_
  rw [if_neg (Nat.not_lt.mpr hlo), if_neg hne]

/-! ### A link that changes (R199, R232, R251) -/

/-- A port whose queue is dropped keeps everything else: the packets count as handed over. -/
theorem Chip.port_dropQueue : (c.dropQueue p).port p = { c.port p with queue := [] } := by
  unfold Chip.dropQueue
  extract_lets q c₁ c₂
  refine List.foldlRecOn _ _ (motive := fun d : Chip => d.port p = { c.port p with queue := [] })
    (c.port_setPort_same p _) fun d hd e _ => ?_
  split
  · exact hd
  · rw [d.emitted_eq]
    exact hd

/-- A resolved wake time changes no port. -/
theorem Chip.port_setWake (ns q : Nat) : (c.setWake p ns).port q = c.port q := by
  unfold Chip.setWake
  extract_lets n
  split
  · rfl
  · exact (Chip.sameButEvents_raise _ _ _ _).port q

theorem Chip.linkDown_of_down (h : (c.port p).link = false) : c.linkDown p = c := by
  rw [Chip.linkDown, h]
  rfl

/-- A link lost: nothing is held, nothing waits, the watchdog is armed, and its bit is set. -/
theorem Chip.linkDown_parts {p : Nat} (hp : p < 5) (h : (c.port p).link = true) :
    ((c.linkDown p).port p).link = false ∧ ((c.linkDown p).port p).pauseEnd = none ∧ ((c.linkDown p).port p).queue = [] ∧
    ((c.linkDown p).port p).tripped = none ∧ bit ((c.linkDown p).rd (Reg.NET_EVT p)) 0 = true := by
  unfold Chip.linkDown
  extract_lets c₁ x c₂ frame c₃ c₄ c₅
  rw [if_neg (by rw [h]; decide)]
  have h₃ : (c₃.cntAdd p 0xD4 1).port p = _ := c₁.port_setPort_same p _
  have h₄ : c₄.port p = _ := (Chip.port_rearm _ p 2).trans (by rw [Chip.port_dropQueue, h₃])
  have h₅ : c₅.port p = c₄.port p := by
    unfold c₅
    split
    · exact c₄.port_setWake p 0 p
    · rfl
  rw [((c₅.setEvt _ _).sameButEvents_raise _ _ _).port p]
  show (c₅.port p).link = false ∧ (c₅.port p).pauseEnd = none ∧ (c₅.port p).queue = [] ∧ (c₅.port p).tripped = none ∧ _
  rw [h₅, h₄]
  exact ⟨rfl, rfl, rfl, rfl, c₅.bit_rd_told 1 0 _ _ _ (netEvt_lt hp) (by decide) (by decide)⟩

/-- Whether a link may come up: it is down, its port is enabled and its domain on. -/
def Chip.mayLink (c : Chip) (p : Nat) : Bool :=
  !(c.port p).link && bit (c.lv (Reg.NET_MODE p)) 5 && c.domainOn (portDomain p)

/-- As NET_LINK_CHANGE asks it. -/
theorem Chip.not_mayLink :
    ((c.port p).link || !bit (c.lv (Reg.NET_MODE p)) 5 || !c.domainOn (portDomain p)) = !c.mayLink p := by
  rw [Chip.mayLink]
  simp only [Bool.not_and, Bool.not_not]

theorem Chip.linkUp_of_may (eee : Bool) (h : c.mayLink p = true) : c.linkUp p eee =
    ((c.setPort p { c.port p with
      link := true, eeeAn := eee && decide (p < 4) && bit (c.lv (Reg.NET_MODE p)) 4 && bit (c.lv (Reg.NET_EEE p)) 0
      lldpAt := c.cycle }).setEvt (Reg.NET_EVT p) 1).raise (32 + p) 0x1001 (it4 p ++ it4 1 ++ it8 c.csn) :=
  if_neg (by rw [c.not_mayLink, h]; decide)

theorem Chip.linkUp_of_not (eee : Bool) (h : c.mayLink p = false) : c.linkUp p eee = c :=
  if_pos (by rw [c.not_mayLink, h]; decide)

end

/-! ### The rows -/

section
variable (s : State) {p : Nat} (hp : p < 5)
include hp

theorem exec_netFrameReceive_of_down (hu : s.chip.portUp p = false) (f : List Byte) : exec (.netFrameReceive p f) s = .next s := by
  show execNetFrameReceive p f s = _
  rw [execNetFrameReceive, decide_eq_true hp, within_true, onBoth_eq, hu]
  rfl

theorem exec_netFrameReceive_of_up (hu : s.chip.portUp p = true) (f : List Byte) :
    exec (.netFrameReceive p f) s = .next (s.ontoBoth (s.chip.receive s.dram p f)) := by
  show execNetFrameReceive p f s = _
  rw [execNetFrameReceive, decide_eq_true hp, within_true, onBoth_eq, hu]
  rfl

theorem exec_pauseReceive_eq {quanta : Nat} (hq : quanta < 65536) : exec (.pauseReceive p quanta) s =
    .next (s.onto (if s.chip.portUp p then s.chip.pause p quanta else s.chip)) := by
  show execPauseReceive p quanta s = _
  rw [execPauseReceive, decide_eq_true hp, decide_eq_true hq]
  rfl

theorem exec_pauseExpire_of_some {e : Nat} (he : (s.chip.port p).pauseEnd = some e) :
    exec (.pauseExpire p) s = .next (s.onto ((s.chip.runToCycle e).endPause p)) := by
  show execPauseExpire p s = _
  rw [execPauseExpire, decide_eq_true hp, within_true, onChip_eq, he]
  rfl

theorem exec_pauseExpire_of_none (he : (s.chip.port p).pauseEnd = none) : exec (.pauseExpire p) s = .next s := by
  show execPauseExpire p s = _
  rw [execPauseExpire, decide_eq_true hp, within_true, onChip_eq, he]

theorem exec_netPauseWatchdog_of_some {n f e : Nat} (hn : s.chip.limitOf p = some n) (hf : (s.chip.port p).pauseFrom = some f)
    (he : (s.chip.port p).pauseEnd = some e) : exec (.netPauseWatchdog p) s = .next (s.onto
      (if f + n ≤ e then ((s.chip.runToCycle (f + n)).endPause p).tripPause p f else s.chip)) := by
  show execNetPauseWatchdog p s = _
  rw [execNetPauseWatchdog, decide_eq_true hp, within_true, onChip_eq, hn, hf, he]
  rfl

theorem exec_netPauseWatchdog_of_none
    (h : s.chip.limitOf p = none ∨ (s.chip.port p).pauseFrom = none ∨ (s.chip.port p).pauseEnd = none) :
    exec (.netPauseWatchdog p) s = .next s := by
  show execNetPauseWatchdog p s = _
  rw [execNetPauseWatchdog, decide_eq_true hp, within_true, onChip_eq]
  split
  · next hn hf he => simp [hn, hf, he] at h
  · rfl

theorem exec_netPauseRearm_of_tripped (h : (s.chip.port p).tripped ≠ none) : exec (.netPauseRearm p) s = .next (s.onto
    ((s.chip.runToCycle ((s.chip.port p).lastPause + usCycles (bits (s.chip.lv (Reg.NET_PAUSE_WD p)) 12 20))).rearm p 1)) := by
  show execNetPauseRearm p s = _
  rw [execNetPauseRearm, decide_eq_true hp, within_true, onChip_eq]
  exact congrArg (fun c => Host.Outcome.next (s.onto c)) (if_pos (Option.isSome_iff_ne_none.mpr h))

theorem exec_netPauseRearm_of_armed (h : (s.chip.port p).tripped = none) : exec (.netPauseRearm p) s = .next s := by
  show execNetPauseRearm p s = _
  rw [execNetPauseRearm, decide_eq_true hp, within_true, onChip_eq]
  exact congrArg (fun c => Host.Outcome.next (s.onto c)) (if_neg (by rw [h]; decide))

theorem exec_netLinkChange_up (eee : Bool) :
    exec (.netLinkChange p true eee) s = .next (s.onto (s.chip.inCycle fun c => c.linkUp p eee)) := by
  show execNetLinkChange p true eee s = _
  rw [execNetLinkChange, decide_eq_true hp, within_true, onChip_eq]
  rfl

theorem exec_netLinkChange_down (eee : Bool) :
    exec (.netLinkChange p false eee) s = .next (s.onto (s.chip.inCycle fun c => c.linkDown p)) := by
  show execNetLinkChange p false eee s = _
  rw [execNetLinkChange, decide_eq_true hp, within_true, onChip_eq]
  rfl

end

/-- Settles O49: a frame by the first test that it fails, a PAUSE by what it finds, its end, its watchdog, and a link that comes up
or is lost. -/
theorem receivedFramesAndPausesAreServed : Obligations.ReceivedFramesAndPausesAreServed := by
  unfold Obligations.ReceivedFramesAndPausesAreServed
  intro s p x hp hx
  subst hx
  refine ⟨fun f body hbody => ⟨fun hu => exec_netFrameReceive_of_down s hp hu f, fun hu => ?frame⟩,
    fun quanta ends starts hq hends hstarts => ?pause, fun e he => ⟨?ended, fun n f hn hf => ?limit⟩,
    exec_pauseExpire_of_none s hp, exec_netPauseWatchdog_of_none s hp, fun htrip => ?rearmed, exec_netPauseRearm_of_armed s hp,
    fun eee may an hmay han => ?link⟩
  case frame =>
    rw [exec_netFrameReceive_of_up s hp hu f]
    refine ⟨fun h => ?_, fun hmin h => ?_, fun hmin hmax => ⟨fun h => ?_, fun hfcs => ⟨fun h => ?_, fun ht h => ?_, fun ht h => ?_⟩⟩⟩
    · rw [s.chip.receive_of_short s.dram p h, State.ontoBoth_same_dram]
    · rw [s.chip.receive_of_long s.dram p hmin h, State.ontoBoth_same_dram]
    · rw [s.chip.receive_of_badFcs s.dram p hmin hmax hbody h, State.ontoBoth_same_dram]
    · rw [s.chip.receive_of_badTag s.dram p hmin hmax hbody hfcs h, State.ontoBoth_same_dram]
    · rw [s.chip.receive_of_badDst s.dram p hmin hmax hbody hfcs ht h, State.ontoBoth_same_dram]
    · rw [s.chip.receive_of_passed s.dram p hmin hmax hbody hfcs ht h]
  case pause =>
    subst hstarts
    have hexec := exec_pauseReceive_eq s hp hq
    refine ⟨fun hu => ?down, fun hu hzero => ?zero, fun hu hpos htrip => ?tripped,
      fun hu hpos htrip hheld => ⟨fun h => ?extended, fun hbrief hahead => ?cut⟩,
      fun hu hpos htrip hfree => ⟨fun hbrief => ?brief, fun hlong => ?held⟩⟩
    case down => rw [hexec, if_neg (ne_true_of_eq_false hu), State.onto_self]
    all_goals rw [if_pos hu] at hexec
    case zero =>
      subst hzero
      obtain ⟨hend, harmed⟩ := s.chip.pause_zero_parts p
      exact ⟨_, hexec, congrArg s.onto (s.chip.pause_zero p), hend, harmed⟩
    case tripped => rw [hexec, s.chip.pause_of_tripped p hpos htrip]
    case extended =>
      rw [hexec, s.chip.pause_of_held p hpos htrip hends hheld, if_neg]
      simp only [Bool.and_eq_true, decide_eq_true_eq]
      omega
    case cut => rw [hexec, s.chip.pause_of_held p hpos htrip hends hheld, if_pos (by simp [hbrief, hahead])]
    case brief => rw [hexec, s.chip.pause_of_brief p hpos htrip hends hfree hbrief]
    case held =>
      obtain ⟨since, hpause⟩ := s.chip.pause_of_free p hpos htrip hends hfree hlong
      rw [hpause] at hexec
      refine ⟨_, hexec, rfl, ?_, ?_, s.chip.cntOf_cntAdd_same p 1 (by decide) (by decide), rfl⟩ <;>
        rw [State.onto_chip, Chip.port_setPort_same]
  case ended =>
    obtain ⟨hend, hcycle⟩ := (s.chip.runToCycle e).endPause_parts p
    exact ⟨_, exec_pauseExpire_of_some s hp he, rfl, hend, hcycle.trans (s.chip.runToCycle_parts e).1⟩
  case limit =>
    have hexec := exec_netPauseWatchdog_of_some s hp hn hf he
    refine ⟨fun hreached => ?_, fun hshort => ?_⟩
    · rw [if_pos hreached] at hexec
      obtain ⟨hend, hcycle⟩ := (s.chip.runToCycle (f + n)).endPause_parts p
      obtain ⟨hkept, htrip, hbit⟩ := ((s.chip.runToCycle (f + n)).endPause p).tripPause_parts f hp
      refine ⟨_, hexec, rfl, hkept.trans hend, htrip.trans ?_, hbit⟩
      rw [hcycle, (s.chip.runToCycle_parts _).1]
    · rw [hexec, if_neg (Nat.not_le.mpr hshort), State.onto_self]
  case rearmed =>
    exact ⟨_, exec_netPauseRearm_of_tripped s hp htrip, rfl, congrArg NetPort.tripped (Chip.port_rearm _ p 1),
      Chip.bit_rearm _ 1 hp htrip⟩
  case link =>
    have hup := exec_netLinkChange_up s hp eee
    have hdown := exec_netLinkChange_down s hp eee
    subst hmay han
    refine ⟨fun hmay => ?up, fun hnot => ?kept, fun hlink => ?lost, fun hlink => ?absent⟩
    case up =>
      exact hup.trans (congrArg (fun c => Host.Outcome.next (s.onto c))
        (Chip.inCycle_congr fun b => Chip.linkUp_of_may { s.chip with batch := b } p eee hmay))
    case kept =>
      rw [hup, Chip.inCycle_of_same fun b => Chip.linkUp_of_not { s.chip with batch := b } p eee hnot, State.onto_self]
    case lost =>
      obtain ⟨l, hevents⟩ := s.chip.sameButEvents_inCycle fun c => c.linkDown p
      have hparts := Chip.linkDown_parts { s.chip with batch := some l } hp hlink
      rw [← hevents.port, ← hevents.rd_power (netEvt_lt hp)] at hparts
      exact ⟨_, hdown, rfl, hparts⟩
    case absent =>
      rw [hdown, Chip.inCycle_of_same fun b => Chip.linkDown_of_down { s.chip with batch := b } p hlink, State.onto_self]

end Sys2Proof.Machine
end

section
/-! SUPPORT. Video streams (R247 to R250): the path of a packet is counted and brought up once, whatever the packet does to the frames
of its stream; the rows as they answer, case by case. -/

namespace Sys2Proof.Machine

open Sys2Proof

/-! ### A path of a stream -/

/-- Whether a path is up. -/
def Stream.up (x : Stream) (b : Bool) : Bool := if b then x.upB else x.upA

/-- Whether a path has been found silent. -/
def Stream.down (x : Stream) (b : Bool) : Bool := if b then x.downB else x.downA

/-- The stream with a path found silent. -/
def Stream.silenced (x : Stream) (b : Bool) : Stream :=
  if b then { x with upB := false, downB := true } else { x with upA := false, downA := true }

theorem Stream.silenced_parts (x : Stream) (b : Bool) : (x.silenced b).down b = true ∧ (x.silenced b).up b = false := by
  cases b <;> exact ⟨rfl, rfl⟩

/-- The counter of the packets of a path. -/
def pathPackets (i : Nat) (b : Bool) : Nat := if b then Reg.STR_B_PKTS i else Reg.STR_A_PKTS i

theorem pathPackets_eq (i : Nat) (b : Bool) : pathPackets i b = 0x3A0C + 0x40 * i + 4 * b.toNat := by
  cases b
  · rfl
  · exact Nat.add_right_comm 0x3A0C 4 (0x40 * i)

/-- What leaves the packets and the state of a path of a stream, CSN_LIVE and the clock as they were. -/
def Chip.KeepsPath (i : Nat) (b : Bool) (c d : Chip) : Prop :=
  d.rd (pathPackets i b) = c.rd (pathPackets i b) ∧ (d.stream i).up b = (c.stream i).up b ∧
  (d.stream i).down b = (c.stream i).down b ∧ d.csn = c.csn ∧ d.cycle = c.cycle

section
variable {i : Nat} {b : Bool}

namespace Chip.KeepsPath
variable {c d e : Chip}

theorem refl (c : Chip) : c.KeepsPath i b c := ⟨rfl, rfl, rfl, rfl, rfl⟩

theorem trans (h : c.KeepsPath i b d) (k : d.KeepsPath i b e) : c.KeepsPath i b e := by
  obtain ⟨h₁, h₂, h₃, h₄, h₅⟩ := h
  obtain ⟨k₁, k₂, k₃, k₄, k₅⟩ := k
  exact ⟨k₁.trans h₁, k₂.trans h₂, k₃.trans h₃, k₄.trans h₄, k₅.trans h₅⟩

/-- A run of operations on the part, `π` of what they act on, of which each keeps it. -/
theorem foldl_of {α σ : Type} (π : σ → Chip) {f : σ → α → σ} (hf : ∀ s x, (π s).KeepsPath i b (π (f s x)))
    (l : List α) (s : σ) : (π s).KeepsPath i b (π (l.foldl f s)) :=
  List.foldlRecOn l f (motive := fun r => (π s).KeepsPath i b (π r)) (refl _) fun _ hr x _ => hr.trans (hf _ x)

end Chip.KeepsPath

variable (c : Chip)

theorem Chip.SameButEvents.stream {c d : Chip} (h : c.SameButEvents d) (n : Nat) : d.stream n = c.stream n := by rw [h.1]; rfl

/-- The streams' registers lie below the power block: events leave them. -/
theorem Chip.SameButEvents.keepsPath {c d : Chip} (h : c.SameButEvents d) (hi : i < 16) : c.KeepsPath i b d := by
  have := b.toNat_le
  exact ⟨h.rd_power (by rw [pathPackets_eq]; omega), by rw [h.stream], by rw [h.stream], h.csn, h.cycle⟩

theorem Chip.keepsPath_wr {off : Nat} (v : Nat) (h : pathPackets i b ≠ off) : c.KeepsPath i b (c.wr off v) :=
  ⟨c.rd_wr_ne _ _ _ h, rfl, rfl, rfl, rfl⟩

/-- The other registers of a stream, each at its offset in the stream's block. -/
theorem Chip.keepsPath_wrStream {base : Nat} (v : Nat) (h : base < 0x3A0C ∨ 0x3A14 ≤ base) :
    c.KeepsPath i b (c.wr (base + 0x40 * i) v) := by
  have := b.toNat_le
  exact c.keepsPath_wr v (by rw [pathPackets_eq]; omega)

theorem Chip.keepsPath_setStream {x : Stream} (hu : x.up b = (c.stream i).up b) (hd : x.down b = (c.stream i).down b) :
    c.KeepsPath i b (c.setStream i x) :=
  ⟨rfl, by rw [Chip.stream_setStream_same, hu], by rw [Chip.stream_setStream_same, hd], rfl, rfl⟩

theorem Chip.keepsPath_completeFrame (f : OpenFrame) : c.KeepsPath i b (c.completeFrame i f) :=
  (c.keepsPath_setStream (x := { (c.stream i).close f with latest := some (f.timestamp, f.buffer), fresh := true }) rfl rfl).trans
    (Chip.keepsPath_wrStream _ _ (by decide))

theorem Chip.keepsPath_latePacket (k : VideoPacket) : c.KeepsPath i b (c.latePacket i k) := by
  unfold Chip.latePacket
  split
  · exact .refl c
  · exact c.keepsPath_wrStream _ (by decide)

/-! ### LPDDR5X and its codes -/

theorem Chip.keepsPath_setEcc (m : Nat) (e : Ecc) : c.KeepsPath i b (c.setEcc m e) := by
  unfold Chip.setEcc
  split <;> exact ⟨rfl, rfl, rfl, rfl, rfl⟩

variable (hi : i < 16)

section
include hi

/-- The registers of the error control are none of a stream's. -/
theorem Chip.keepsPath_wrEcc {base m : Nat} (v : Nat) (h : 0xB000 ≤ base) : c.KeepsPath i b (c.wr (base + 0x40 * m) v) := by
  have := b.toNat_le
  exact c.keepsPath_wr v (by rw [pathPackets_eq]; omega)

theorem Chip.keepsPath_noteWord (m cls w : Nat) : c.KeepsPath i b (c.noteWord m cls w) := by
  unfold Chip.noteWord
  extract_lets e put c₁ c₂ c₃ c₄ e'
  have h₃ : c.KeepsPath i b c₃ := by
    have h₂ : c.KeepsPath i b c₂ := c.keepsPath_wrEcc hi _ (by decide)
    unfold c₃
    split
    · exact h₂
    · exact (h₂.trans (c₂.keepsPath_wrEcc hi _ (by decide))).trans (Chip.keepsPath_wrEcc _ hi _ (by decide))
  have h₄ : c.KeepsPath i b c₄ := h₃.trans (c₃.keepsPath_wrEcc hi _ (by decide))
  split
  · exact .refl c
  split
  · have h₁ : c.KeepsPath i b c₁ := (c.keepsPath_wrEcc hi _ (by decide)).trans (Chip.keepsPath_setEcc _ _ _)
    exact (h₁.trans (c₁.keepsPath_wrEcc hi _ (by decide))).trans (Chip.keepsPath_wrEcc _ hi _ (by decide))
  split
  · exact h₄.trans (c₄.keepsPath_setEcc _ _)
  · exact (h₄.trans (c₄.keepsPath_setEcc _ _)).trans ((Chip.sameButEvents_raise _ _ _ _).keepsPath hi)

theorem Chip.keepsPath_store (d : List Host.Cell) (cls a : Nat) (bs : List Byte) : c.KeepsPath i b (c.store d cls a bs).2 := by
  unfold Chip.store
  extract_lets n whole ws c₁ c₂
  split
  · exact .refl c
  · have h₁ : c.KeepsPath i b c₁ := .foldl_of id (fun d w => d.keepsPath_noteWord hi 0 cls w) _ c
    exact h₁.trans (.foldl_of id (fun d w => d.keepsPath_setEcc 0 _) _ c₁)

/-! ### The frames of a stream (R248, R249) -/

theorem Chip.keepsPath_writeRows (d : List Host.Cell) (r buffer : Nat) (rows : List SampleRow) :
    c.KeepsPath i b (c.writeRows d r buffer rows).2 :=
  .foldl_of (σ := List Host.Cell × Chip) Prod.snd (fun x _ => x.2.keepsPath_store hi x.1 _ _ _) rows (d, c)

theorem Chip.keepsPath_discardFrame (f : OpenFrame) : c.KeepsPath i b (c.discardFrame i f) := by
  unfold Chip.discardFrame
  extract_lets x closed c₁ c₂
  have h₁ : c.KeepsPath i b c₁ := c.keepsPath_setStream rfl rfl
  have h₂ : c.KeepsPath i b c₂ :=
    (h₁.trans (c₁.keepsPath_wrStream _ (by decide))).trans (Chip.keepsPath_wrStream _ _ (by decide))
  split
  · exact h₂
  · exact h₂.trans ((c₂.sameButEvents_raise _ _ _).keepsPath hi)

theorem Chip.keepsPath_openFrame (ts : Nat) : c.KeepsPath i b (c.openFrame i ts) := by
  unfold Chip.openFrame
  extract_lets c₁ x l buffer c₂
  have h₁ : c.KeepsPath i b c₁ := by
    unfold c₁
    split
    · exact c.keepsPath_discardFrame hi _
    · exact .refl c
  have h₂ : c₁.KeepsPath i b c₂ := by
    unfold c₂
    split <;> exact ⟨rfl, rfl, rfl, rfl, rfl⟩
  refine (h₁.trans h₂).trans ?_
  obtain ⟨-, hup, hdown, -, -⟩ := h₂
  exact c₂.keepsPath_setStream hup.symm hdown.symm

theorem Chip.keepsPath_writePacket (d : List Host.Cell) (r : Nat) (k : VideoPacket) (f : OpenFrame) :
    c.KeepsPath i b (c.writePacket d i r k f).2 := by
  unfold Chip.writePacket
  extract_lets y f' x c₁
  split
  · exact .refl c
  · have h₁ : c.KeepsPath i b c₁ := (c.keepsPath_writeRows hi d r f.buffer k.rows).trans (y.2.keepsPath_setStream rfl rfl)
    dsimp only
    split
    · exact h₁.trans (c₁.keepsPath_completeFrame f')
    · exact h₁

/-! ### A packet (R247, R250) -/

/-- A packet accepted on its path is counted, and brings the path up. -/
theorem Chip.notePath_parts (seq : Nat) :
    (c.notePath i b seq).rd (pathPackets i b) = (c.rd (pathPackets i b) + 1) % 2 ^ 32 ∧
    ((c.notePath i b seq).stream i).up b = true ∧ ((c.notePath i b seq).stream i).down b = false ∧
    (c.notePath i b seq).csn = c.csn ∧ (c.notePath i b seq).cycle = c.cycle := by
  unfold Chip.notePath
  extract_lets x g was c₁ c₂
  have hcounted : (c₁.incWrap (pathPackets i b)).KeepsPath i b c₂ := by
    cases b
    · exact Chip.keepsPath_wrStream _ _ (by decide)
    · exact Chip.keepsPath_wrStream _ _ (by decide)
  have hstream : (c₁.stream i).up b = true ∧ (c₁.stream i).down b = false := by
    rw [Chip.stream_setStream_same]
    cases b <;> exact ⟨rfl, rfl⟩
  have htold : c₂.KeepsPath i b
      (if was then (c₂.setEvt (Reg.STR_EVT i) 8).raise (40 + i) 0x1104 (it4 i ++ it4 b.toNat) else c₂) := by
    split
    · exact (c₂.keepsPath_wrStream _ (by decide)).trans ((Chip.sameButEvents_raise _ _ _ _).keepsPath hi)
    · exact .refl c₂
  obtain ⟨hrd, hup, hdown, hcsn, hcycle⟩ := hcounted.trans htold
  refine ⟨hrd.trans ?_, hup.trans hstream.1, hdown.trans hstream.2, hcsn, hcycle⟩
  rw [Chip.incWrap, Chip.rd_wr_same, Nat.mod_mod]
  rfl

end

/-! ### A packet of a path in use (R247 to R249) -/

section
variable (d : List Host.Cell) {k : VideoPacket}

theorem Chip.ingest_of_unused (k : VideoPacket)
    (h : c.pathOn i b = false ∨ c.portUp (StreamRec.port (c.recAt 15 i) b) = false) : c.ingest d i b k = (d, c) :=
  if_pos (by simpa using h)

variable (hon : c.pathOn i b = true) (hup : c.portUp (StreamRec.port (c.recAt 15 i) b) = true)
include hon hup

theorem Chip.ingest_of_fault {n : Nat} (h : packetFault (c.recAt 15 i) k = some n) :
    c.ingest d i b k = (d, c.formatDrop i b n) := by
  unfold Chip.ingest
  extract_lets r
  rw [if_neg (by simp [hon, hup]), h]

/-- A packet that passes its tests is noted on its path; what it does to the frames leaves that. -/
theorem Chip.keepsPath_ingest (hi : i < 16) (h : packetFault (c.recAt 15 i) k = none) :
    (c.notePath i b k.extSeq).KeepsPath i b (c.ingest d i b k).2 := by
  unfold Chip.ingest
  extract_lets r
  rw [if_neg (by simp [hon, hup]), h]
  dsimp only
  split
  · exact Chip.keepsPath_writePacket _ hi d r k _
  split
  · have hopen := (c.notePath i b k.extSeq).keepsPath_openFrame (b := b) hi k.timestamp
    split
    · exact hopen.trans (Chip.keepsPath_writePacket _ hi d r k _)
    · exact hopen
  · exact Chip.keepsPath_latePacket _ k

/-- A packet accepted on its path is counted, and brings the path up, whatever it does to the frames. -/
theorem Chip.ingest_parts (hi : i < 16) (h : packetFault (c.recAt 15 i) k = none) :
    (c.ingest d i b k).2.rd (pathPackets i b) = (c.rd (pathPackets i b) + 1) % 2 ^ 32 ∧
    ((c.ingest d i b k).2.stream i).up b = true ∧ ((c.ingest d i b k).2.stream i).down b = false ∧
    (c.ingest d i b k).2.csn = c.csn ∧ (c.ingest d i b k).2.cycle = c.cycle := by
  obtain ⟨hrd, hpath, hdown, hcsn, hcycle⟩ := c.keepsPath_ingest d hon hup hi h
  obtain ⟨hrd', hpath', hdown', hcsn', hcycle'⟩ := c.notePath_parts (b := b) hi k.extSeq
  exact ⟨hrd.trans hrd', hpath.trans hpath', hdown.trans hdown', hcsn.trans hcsn', hcycle.trans hcycle'⟩

end

/-! ### A silent path (R250) -/

/-- A path down, with its event. -/
def Chip.pathDown (c : Chip) (i : Nat) (b : Bool) : Chip :=
  ((c.setStream i ((c.stream i).silenced b)).setEvt (Reg.STR_EVT i) 4).raise (40 + i) 0x1103 (it4 i ++ it4 b.toNat)

theorem Chip.pathDown_parts (hi : i < 16) : ((c.pathDown i b).stream i).down b = true ∧
    ((c.pathDown i b).stream i).up b = false ∧ bit ((c.pathDown i b).rd (Reg.STR_EVT i)) 2 = true ∧
    (c.pathDown i b).cycle = c.cycle := by
  obtain ⟨hdown, hup⟩ := (c.stream i).silenced_parts b
  have hstream : (c.pathDown i b).stream i = (c.stream i).silenced b :=
    ((Chip.sameButEvents_raise _ _ _ _).stream i).trans (c.stream_setStream_same i _)
  rw [hstream]
  exact ⟨hdown, hup, Chip.bit_rd_told _ 4 2 _ _ _ (by unfold Reg.STR_EVT; omega) (by decide) (by decide),
    (Chip.sameButEvents_raise _ _ _ _).cycle⟩

end

/-! ### The rows -/

section
variable (s : State) {i : Nat} (hi : i < 16) {b : Bool}
include hi

theorem exec_videoPacketReceive_eq (b : Bool) (k : VideoPacket) :
    exec (.videoPacketReceive i b k) s = .next (s.ontoBoth (s.chip.ingest s.dram i b k)) := by
  show execVideoPacketReceive i b k s = _
  rw [execVideoPacketReceive, decide_eq_true hi]
  rfl

theorem exec_streamMergeTimeout_of_some {n : Nat} {f : OpenFrame} {rest : List OpenFrame}
    (hn : (s.chip.stream i).newerFrom = some n) (hf : (s.chip.stream i).frames = f :: rest) :
    exec (.streamMergeTimeout i) s = .next (s.onto
      ((s.chip.runToCycle (n + usCycles (StreamRec.mergeUs (s.chip.recAt 15 i)))).discardFrame i f)) := by
  show execStreamMergeTimeout i s = _
  rw [execStreamMergeTimeout, decide_eq_true hi, within_true, onChip_eq]
  dsimp only
  rw [hn, hf]
  rfl

theorem exec_streamMergeTimeout_of_none (h : (s.chip.stream i).newerFrom = none ∨ (s.chip.stream i).frames = []) :
    exec (.streamMergeTimeout i) s = .next s := by
  show execStreamMergeTimeout i s = _
  rw [execStreamMergeTimeout, decide_eq_true hi, within_true, onChip_eq]
  dsimp only
  split
  · next hn hf => simp [hn, hf] at h
  · rfl

theorem exec_streamPathDown_of_silent {due : Nat}
    (hdue : due = (if b then (s.chip.stream i).lastB else (s.chip.stream i).lastA) + 80000000)
    (hon : s.chip.pathOn i b = true) (hd : (s.chip.stream i).down b = false) :
    exec (.streamPathDown i b) s = .next (s.onto ((s.chip.runToCycle due).pathDown i b)) := by
  show execStreamPathDown i b s = _
  rw [execStreamPathDown, decide_eq_true hi, within_true, onChip_eq]
  dsimp only
  rw [if_neg (by rw [hon]; exact ne_true_of_eq_false hd), ← hdue]
  rfl

theorem exec_streamPathDown_of_not (h : s.chip.pathOn i b = false ∨ (s.chip.stream i).down b = true) :
    exec (.streamPathDown i b) s = .next s := by
  show execStreamPathDown i b s = _
  rw [execStreamPathDown, decide_eq_true hi, within_true, onChip_eq]
  refine congrArg (fun c => Host.Outcome.next (s.onto c)) (if_pos ?_)
  rcases h with hoff | hdown
  · rw [hoff]
    rfl
  · exact Bool.or_eq_true_iff.mpr (.inr hdown)

end

/-- Settles O51: a packet by the tests of its path, the older frame at MERGE_US, and a path that is silent. -/
theorem streamsTakeTheirPackets : Obligations.StreamsTakeTheirPackets := by
  unfold Obligations.StreamsTakeTheirPackets
  intro s i b x hi hx
  subst hx
  refine ⟨fun k hon hup => ⟨fun n hn => ?dropped, fun hn => ?taken⟩, fun k h => ?unused, fun n f rest hn hf => ?merged,
    exec_streamMergeTimeout_of_none s hi, fun hon hd => ?silent, exec_streamPathDown_of_not s hi⟩
  case dropped =>
    rw [exec_videoPacketReceive_eq s hi b k, s.chip.ingest_of_fault s.dram hon hup hn, State.ontoBoth_same_dram]
  case taken => exact ⟨_, exec_videoPacketReceive_eq s hi b k, rfl, s.chip.ingest_parts s.dram hon hup hi hn⟩
  case unused =>
    rw [exec_videoPacketReceive_eq s hi b k, s.chip.ingest_of_unused s.dram k h, State.ontoBoth_same_dram, State.onto_self]
  case merged => rw [exec_streamMergeTimeout_of_some s hi hn hf, usCycles, Nat.mul_comm]
  case silent =>
    obtain ⟨due, hdue⟩ : ∃ due, due = (if b then (s.chip.stream i).lastB else (s.chip.stream i).lastA) + 80000000 := ⟨_, rfl⟩
    obtain ⟨hdown, hup, hbit, hcycle⟩ := (s.chip.runToCycle due).pathDown_parts (b := b) hi
    rw [← hdue]
    exact ⟨_, exec_streamPathDown_of_silent s hi hdue hon hd, rfl, hdown, hup, hbit, hcycle.trans (s.chip.runToCycle_parts _).1⟩

end Sys2Proof.Machine
end

section
/-! SUPPORT. A step on an empty queue (R56, R279, R291, R293): the command that firmware takes next from its channels, or one
cycle. -/

namespace Sys2Proof.Machine

open Sys2Proof

theorem step_of_nextCommand {s : State} {c : Chip} {i : Instr} (hq : s.pending = []) (h : s.chip.nextCommand = some (c, i)) :
    step s = exec i (s.onto c) := by
  obtain ⟨pending, dram, chip⟩ := s
  obtain rfl : pending = [] := hq
  simp only [step, h]
  rfl

theorem step_of_noCommand {s : State} (hq : s.pending = []) (h : s.chip.nextCommand = none) :
    step s = .next (s.onto (s.chip.ticks 1)) := by
  obtain ⟨pending, dram, chip⟩ := s
  obtain rfl : pending = [] := hq
  simp only [step, h]
  rfl

/-- Of the mailboxes that wait, firmware takes the command of the lowest (R279, R291). -/
theorem Chip.nextCommand_of_mbox {c : Chip} {m : Nat} (hs : c.served = true) (hm : m < 8) (hw : c.mboxWaits m = true)
    (hlow : ∀ j, j < m → c.mboxWaits j = false) :
    c.nextCommand = some (c, readCommand (.mbox m) (c.mboxWord m)) := by
  have hfind : (List.range 8).find? c.mboxWaits = some m :=
    List.find?_range_eq_some.mpr ⟨hw, List.mem_range.mpr hm, fun j hj => by rw [hlow j hj]; rfl⟩
  simp [Chip.nextCommand, hs, hfind]

/-- Settles O2: the next command of a channel, one cycle where there is none, and the lowest mailbox that waits. -/
theorem emptyQueueServesChannelsOrLetsOneCyclePass : Obligations.EmptyQueueServesChannelsOrLetsOneCyclePass := by
  unfold Obligations.EmptyQueueServesChannelsOrLetsOneCyclePass
  refine fun s hq => ⟨fun c i h => step_of_nextCommand hq h, fun h => ?cycle, fun m hs hm hbusy hun hlow => ?mailbox⟩
  case cycle =>
    rw [step_of_noCommand hq h]
    have hgain : TimeBase.advance 1 = fun t : TimeBase =>
        { t with time := (t.time + (5 * (1024 * 1000000000 + t.rate)).toNat) % (2 ^ 48 * 1000000000 * (4096 * 1000000000)) } := by
      funext t
      rw [TimeBase.advance, Nat.one_mul]
      rfl
    rw [Chip.ticks, hgain]
  case mailbox =>
    have hnext := s.chip.nextCommand_of_mbox (m := m) hs hm (by rw [Chip.mboxWaits, hbusy, hun]; rfl) fun j hj => by
      rw [Chip.mboxWaits, hlow j hj, Bool.false_and]
    rw [step_of_nextCommand hq hnext, State.onto_self]

end Sys2Proof.Machine
end

section
/-! SUPPORT. Which octets of LPDDR5X a command can change (R258): none, where it stores nothing, and where it is a host write
through BAR2 only those of the range that it names. -/

namespace Sys2Proof.Machine

open Sys2Proof

/-- As many octets as a run takes from a range, counted from its first, end within the range. -/
theorem add_length_lt_of_sublist_range' {x : Nat} {r : List Nat} : ∀ {n a : Nat}, (x :: r).Sublist (List.range' a n) →
    x + r.length < a + n
  | 0, _, h => nomatch h
  | n + 1, a, h => by
    rw [List.range'_succ] at h
    cases h with
    | cons _ h =>
      have := add_length_lt_of_sublist_range' h
      omega
    | cons_cons _ h =>
      have := h.length_le
      rw [List.length_range'] at this
      omega

section
variable (a : Nat) (bs : List Byte) {x : Nat} (hx : x < a ∨ a + bs.length ≤ x)
include hx

/-- An address outside a write is outside what a run of its octets covers. -/
theorem outside_run_of_sublist {run : List (Nat × Byte)} (h : run.Sublist (withAddresses a bs)) :
    x < (run.headD (0, 0)).1 ∨ (run.headD (0, 0)).1 + (run.map (·.2)).length ≤ x := by
  cases run with
  | nil => exact .inr (Nat.zero_le x)
  | cons e r =>
    have hrange : (e.1 :: r.map (·.1)).Sublist (List.range' a bs.length) := by
      have hfst : (withAddresses a bs).map (·.1) = List.range' a bs.length := by
        rw [withAddresses_eq, List.map_map]
        exact List.map_id _
      exact hfst ▸ List.Sublist.map (fun e : Nat × Byte => e.1) h
    have hlo := (List.mem_range'_1.mp (hrange.subset List.mem_cons_self)).1
    have hhi := add_length_lt_of_sublist_range' hrange
    simp only [List.headD_cons, List.length_map, List.length_cons] at hhi ⊢
    omega

variable (c : Chip) (d : List Host.Cell) (cls : Nat)

/-- What is stored of a write changes no octet outside it. -/
theorem Chip.storeWords_outside {l : List (Nat × Byte)} (h : l.Sublist (withAddresses a bs)) :
    Memory.read8 (c.storeWords d cls l).1 x = Memory.read8 d x :=
  List.foldlRecOn _ _ (motive := fun y : List Host.Cell × Chip => Memory.read8 y.1 x = Memory.read8 d x) rfl
    fun y hy _ _ => (y.2.store_outside _ _ _ _ _ (outside_run_of_sublist a bs hx (List.filter_sublist.trans h))).trans hy

theorem Chip.applyWrite_outside (fail : Nat → Nat → Nat → Chip → Chip) :
    Memory.read8 (c.applyWrite d cls a bs fail).1 x = Memory.read8 d x := by
  unfold Chip.applyWrite
  split
  · rfl
  · exact c.storeWords_outside a bs hx d cls (List.filter_sublist.trans List.filter_sublist)

end

/-- A host write through BAR2 changes only octets of its range. -/
theorem exec_hostBar2Write_outside {s t : State} {off : Nat} {octets : List Byte} {req x : Nat}
    (h : exec (.hostBar2Write off octets req) s = .next t)
    (hx : x < s.chip.spaceOf off ∨ s.chip.spaceOf off + octets.length ≤ x) :
    Memory.read8 t.dram x = Memory.read8 s.dram x := by
  change execHostBar2Write off octets req s = _ at h
  rw [execHostBar2Write, onBar2, within_next, onBoth_eq] at h
  obtain ⟨-, ⟨⟩⟩ := h
  dsimp only
  split
  · split
    · rfl
    · exact s.chip.applyWrite_outside _ _ hx _ _ _
  · rfl

/-- Settles O7: what stores nothing acts on the part alone, and a write through BAR2 stores what it names. -/
theorem onlyStoringCommandsChangeMemory : Obligations.OnlyStoringCommandsChangeMemory := by
  unfold Obligations.OnlyStoringCommandsChangeMemory
  refine ⟨fun i s t hi h a => ?_, fun s t off octets req a h ha => exec_hostBar2Write_outside h ha⟩
  obtain ⟨c, rfl⟩ := exec_actsOnPart i hi s t h
  rfl

end Sys2Proof.Machine
end

section
/-! SUPPORT. A ring's registers as the host writes them (R267 to R269, R271, R272): what becomes of RINGr_CFG, PROD, CONS and a
flush, case by case. Then the obligations about them. -/

namespace Sys2Proof.Machine

open Sys2Proof

/-! ### RINGr_CFG (R268) -/

section
variable (c : Chip) (r : Nat)

theorem Chip.enableRing_of_sound (h : c.ringFaults r = []) : c.enableRing r = c.setRing r { Ring.reset with active := true } := by
  simp only [Chip.enableRing, h]

/-- An enable refused, with a cause that holds. -/
theorem Chip.enableRing_of_faults (h : c.ringFaults r ≠ []) : ∃ k, k ∈ c.ringFaults r ∧ c.enableRing r =
    ((c.drew.wr (Reg.RING_CFG r) (setBit (c.rd (Reg.RING_CFG r)) 0 false)).setRing r
      { c.ring r with rejected := true, active := false }).raise 4 0x0503 (it4 r ++ it4 k) := by
  obtain ⟨k, l, hl⟩ := List.exists_cons_of_ne_nil h
  have hlt : c.free % (l.length + 1) < (k :: l).length := Nat.mod_lt _ (Nat.succ_pos _)
  refine ⟨(k :: l).getD (c.free % (l.length + 1)) k, ?_, ?_⟩
  · rw [hl, List.getD_eq_getElem _ _ hlt]
    exact List.getElem_mem hlt
  · simp only [Chip.enableRing, hl]
    rfl

variable (v : Nat)

theorem Chip.writeRingCfg_of_on (h : c.ringOn r = true) : c.writeRingCfg r v = if bit v 0 then c else
    (c.wr (Reg.RING_CFG r) (setBit (c.rd (Reg.RING_CFG r)) 0 false)).setRing r { c.ring r with active := false } := by
  simp only [Chip.writeRingCfg, h, if_true]

/-- RINGr_CFG of a disabled ring with its value taken. -/
def Chip.ringConfigured : Chip :=
  let b := c.wr (Reg.RING_CFG r) (clampReg c (Reg.RING_CFG r) v)
  if b.inWindow r then b.wr (Reg.RING_BASE_HI r) 0 else b

theorem Chip.writeRingCfg_of_off (h : c.ringOn r = false) : c.writeRingCfg r v =
    if bit v 0 then (c.ringConfigured r v).enableRing r else c.ringConfigured r v := by
  simp only [Chip.writeRingCfg, h]
  rfl

theorem Chip.ring_ringConfigured (q : Nat) : (c.ringConfigured r v).ring q = c.ring q := by
  unfold Chip.ringConfigured
  dsimp only
  split <;> rfl

/-! ### Indices and flushes (R269, R271, R272) -/

theorem Chip.writeProd_of_forward (hp : c.hostProduces r = true) (hb : backward (c.ring r).prod v = false) :
    c.writeProd r v = c.setRing r { c.ring r with
      prod := if (v + 2 ^ 32 - (c.ring r).cons) % 2 ^ 32 ≤ c.ringSize r - 1 then v
        else ((c.ring r).cons + (c.ringSize r - 1)) % 2 ^ 32 } := by
  simp only [Chip.writeProd, hp, hb, ← Nat.not_lt, ite_not]
  rfl

theorem Chip.writeProd_of_ignored (h : c.hostProduces r = false ∨ backward (c.ring r).prod v = true) : c.writeProd r v = c := by
  rcases h with h | h <;> simp [Chip.writeProd, h]

theorem Chip.writeCons_of_forward (hp : c.hostProduces r = false) (hb : backward (c.ring r).cons v = false) {n : Nat}
    (hn : n = if (v + 2 ^ 32 - (c.ring r).cons) % 2 ^ 32 ≤ (c.ring r).unread then v else (c.ring r).prod) :
    c.writeCons r v = c.setRing r { c.ring r with cons := n, full := (c.ring r).full && n == (c.ring r).cons } := by
  subst hn
  simp only [Chip.writeCons, hp, hb, ← Nat.not_lt, ite_not]
  rfl

theorem Chip.writeCons_of_ignored (h : c.hostProduces r = true ∨ backward (c.ring r).cons v = true) : c.writeCons r v = c := by
  rcases h with h | h <;> simp [Chip.writeCons, h]

theorem Chip.flushHost_of_host (h : c.hostProduces r = true) : c.flushHost r = c.setRing r { c.ring r with
    prod := (c.ring r).cons, stalled := false, cut := (c.ring r).taken
    fences := ((c.ring r).fences ++
      (List.range ((c.ring r).unread + 1)).map fun i => ((c.ring r).cons + i) % c.ringSize r).eraseDups } := by
  simp only [Chip.flushHost, h]
  rfl

theorem Chip.flushHost_of_device (h : c.hostProduces r = false) : c.flushHost r = c := by simp [Chip.flushHost, h]

theorem Chip.flushDevice_of_device (h : c.hostProduces r = false) :
    c.flushDevice r = c.setRing r { c.ring r with cons := (c.ring r).prod, full := false } := by
  simp [Chip.flushDevice, h]

theorem Chip.flushDevice_of_host (h : c.hostProduces r = true) : c.flushDevice r = c := by simp [Chip.flushDevice, h]

end

/-! ### The commands -/

section
variable {s : State} {r : Nat} (hr : r < 256) (v : Word)
include hr

theorem exec_ringEnable_taken (h : s.chip.takesWrite (Reg.RING_CFG r) = true) :
    exec (.ringEnable r v) s = .next (s.onto (s.chip.writeRingCfg r v.toNat)) := by
  show execRingEnable r v s = _
  rw [execRingEnable, decide_eq_true hr, within_true, regCommand_taken _ h]

theorem exec_ringProdWrite_taken (h : s.chip.takesWrite (Reg.RING_PROD r) = true) :
    exec (.ringProdWrite r v) s = .next (s.onto (s.chip.writeProd r v.toNat)) := by
  show execRingProdWrite r v s = _
  rw [execRingProdWrite, decide_eq_true hr, within_true, regCommand_taken _ h]

theorem exec_ringConsWrite_taken (h : s.chip.takesWrite (Reg.RING_CONS r) = true) :
    exec (.ringConsWrite r v) s = .next (s.onto (s.chip.writeCons r v.toNat)) := by
  show execRingConsWrite r v s = _
  rw [execRingConsWrite, decide_eq_true hr, within_true, regCommand_taken _ h]

theorem exec_ringFlushHost_taken (h : s.chip.takesWrite (Reg.RING_FLUSH r) = true) :
    exec (.ringFlushHost r v) s = .next (s.onto (if v.getLsbD 0 then s.chip.flushHost r else s.chip)) := by
  show execRingFlushHost r v s = _
  rw [execRingFlushHost, decide_eq_true hr, within_true, regCommand_taken _ h]
  rfl

theorem exec_ringFlushDevice_taken (h : s.chip.takesWrite (Reg.RING_FLUSH r) = true) :
    exec (.ringFlushDevice r v) s = .next (s.onto (if v.getLsbD 0 then s.chip.flushDevice r else s.chip)) := by
  show execRingFlushDevice r v s = _
  rw [execRingFlushDevice, decide_eq_true hr, within_true, regCommand_taken _ h]
  rfl

end

/-- Settles O11: RINGr_CFG by whether the ring is enabled, the indices and the flushes by who produces it. -/
theorem ringRegistersMoveAsWritten : Obligations.RingRegistersMoveAsWritten := by
  unfold Obligations.RingRegistersMoveAsWritten
  refine fun s r v g hr hg => ⟨fun ht => ⟨fun hon => ?enabled, fun hoff b c hb hc => ?disabled⟩, fun ht => ?prod,
    fun ht => ?cons, fun ht => ?flush⟩
  all_goals subst hg
  case enabled =>
    rw [exec_ringEnable_taken hr v ht, Chip.writeRingCfg_of_on _ _ _ hon]
    exact ⟨fun hv => by rw [if_pos (show bit v.toNat 0 = true from hv), State.onto_self],
      fun hv => by rw [if_neg (show ¬ bit v.toNat 0 = true from ne_true_of_eq_false hv)]⟩
  case disabled =>
    have hcfg : s.chip.ringConfigured r v.toNat = c := by
      subst hb hc
      rfl
    have hring : c.ring r = s.chip.ring r := by rw [← hcfg, Chip.ring_ringConfigured]
    rw [exec_ringEnable_taken hr v ht, Chip.writeRingCfg_of_off _ _ _ hoff, hcfg, ← hring]
    refine ⟨fun hv => ?_, fun hv hsound => ?_, fun hv hfaults => ?_⟩
    · rw [if_neg (show ¬ bit v.toNat 0 = true from ne_true_of_eq_false hv)]
    · rw [if_pos (show bit v.toNat 0 = true from hv), c.enableRing_of_sound r hsound]
    · obtain ⟨k, hk, hen⟩ := c.enableRing_of_faults r hfaults
      exact ⟨k, hk, by rw [if_pos (show bit v.toNat 0 = true from hv), hen]⟩
  case prod =>
    rw [exec_ringProdWrite_taken hr v ht]
    exact ⟨fun hp hb => by rw [Chip.writeProd_of_forward _ _ _ hp hb],
      fun h => by rw [Chip.writeProd_of_ignored _ _ _ h, State.onto_self]⟩
  case cons =>
    rw [exec_ringConsWrite_taken hr v ht]
    exact ⟨fun hp hb n hn => by rw [Chip.writeCons_of_forward _ _ _ hp hb hn],
      fun h => by rw [Chip.writeCons_of_ignored _ _ _ h, State.onto_self]⟩
  case flush =>
    rw [exec_ringFlushHost_taken hr v ht, exec_ringFlushDevice_taken hr v ht]
    refine ⟨fun hp hv => ?_, fun hp hv => ?_, fun h => ?_, fun h => ?_⟩
    · rw [if_pos hv, Chip.flushHost_of_host _ _ hp]
    · rw [if_pos hv, Chip.flushDevice_of_device _ _ hp]
    · rcases h with h | h
      · rw [Chip.flushHost_of_device _ _ h, ite_self, State.onto_self]
      · rw [if_neg (ne_true_of_eq_false h), State.onto_self]
    · rcases h with h | h
      · rw [Chip.flushDevice_of_host _ _ h, ite_self, State.onto_self]
      · rw [if_neg (ne_true_of_eq_false h), State.onto_self]

/-! ### The size of a ring (R269, R271, R272) -/

/-- Indices of a ring of 32 bits, with no more entries between them than a bound. -/
def Ring.Within (g : Ring) (n : Nat) : Prop := g.unread ≤ n ∧ g.cons < 2 ^ 32 ∧ g.prod < 2 ^ 32

theorem Chip.ringSize_le (c : Chip) (r : Nat) : c.ringSize r ≤ 2 ^ 31 :=
  Nat.pow_le_pow_right (by decide) (Nat.le_of_lt_succ (Nat.mod_lt _ (by decide)))

/-- A ring whose indices stand within a bound after a change that touches no other ring. -/
def Chip.MovesWithin (r n : Nat) (c d : Chip) : Prop := (d.ring r).Within n ∧ ∀ q, q ≠ r → d.ring q = c.ring q

section
variable {c : Chip} {r n : Nat}

theorem Chip.movesWithin_self (h : (c.ring r).Within n) : c.MovesWithin r n c := ⟨h, fun _ _ => rfl⟩

theorem Chip.movesWithin_setRing {g : Ring} (h : g.Within n) : c.MovesWithin r n (c.setRing r g) :=
  ⟨by rwa [Chip.ring_setRing_same], fun q hq => c.ring_setRing_ne r q g hq⟩

variable (h : (c.ring r).Within n)
include h

theorem Chip.movesWithin_writeProd {v : Nat} (hv : v < 2 ^ 32) (hn : c.ringSize r - 1 ≤ n) :
    c.MovesWithin r n (c.writeProd r v) := by
  by_cases hi : c.hostProduces r = false ∨ backward (c.ring r).prod v = true
  · rw [Chip.writeProd_of_ignored _ _ _ hi]
    exact Chip.movesWithin_self h
  simp only [not_or, Bool.not_eq_false, Bool.not_eq_true] at hi
  rw [Chip.writeProd_of_forward _ _ _ hi.1 hi.2]
  obtain ⟨-, hc, -⟩ := h
  have hsize := c.ringSize_le r
  apply Chip.movesWithin_setRing
  unfold Ring.Within Ring.unread
  dsimp only
  split <;> omega

theorem Chip.movesWithin_writeCons {v : Nat} (hv : v < 2 ^ 32) : c.MovesWithin r n (c.writeCons r v) := by
  by_cases hi : c.hostProduces r = true ∨ backward (c.ring r).cons v = true
  · rw [Chip.writeCons_of_ignored _ _ _ hi]
    exact Chip.movesWithin_self h
  simp only [not_or, Bool.not_eq_true] at hi
  rw [Chip.writeCons_of_forward _ _ _ hi.1 hi.2 rfl]
  apply Chip.movesWithin_setRing
  unfold Ring.Within Ring.unread at h ⊢
  dsimp only
  split <;> omega

/-- A flush of a host-produced ring leaves nothing between its indices. -/
theorem Chip.movesWithin_flushHost : c.MovesWithin r n (c.flushHost r) := by
  cases hp : c.hostProduces r with
  | false =>
    rw [Chip.flushHost_of_device _ _ hp]
    exact Chip.movesWithin_self h
  | true =>
    rw [Chip.flushHost_of_host _ _ hp]
    apply Chip.movesWithin_setRing
    unfold Ring.Within Ring.unread at h ⊢
    dsimp only
    omega

/-- A flush of a ring that the XK1 produces leaves nothing between its indices. -/
theorem Chip.movesWithin_flushDevice : c.MovesWithin r n (c.flushDevice r) := by
  cases hp : c.hostProduces r with
  | true =>
    rw [Chip.flushDevice_of_host _ _ hp]
    exact Chip.movesWithin_self h
  | false =>
    rw [Chip.flushDevice_of_device _ _ hp]
    apply Chip.movesWithin_setRing
    unfold Ring.Within Ring.unread at h ⊢
    dsimp only
    omega

end

/-- A write of a ring's indices answers a next state only for a ring of the part. -/
theorem lt_of_next_ringWrite {s t : State} {r : Nat} {v : Word}
    (h : exec (.ringProdWrite r v) s = .next t ∨ exec (.ringConsWrite r v) s = .next t ∨
      exec (.ringFlushHost r v) s = .next t ∨ exec (.ringFlushDevice r v) s = .next t) : r < 256 := by
  rcases h with h | h | h | h <;> exact of_decide_eq_true (within_next.mp h).1

/-- Settles O13: each write of an index keeps the ring within its bound, and moves that ring only. -/
theorem ringNeverHoldsMoreThanItsSize : Obligations.RingNeverHoldsMoreThanItsSize := by
  unfold Obligations.RingNeverHoldsMoreThanItsSize
  intro s t r v hc hp hprod hcons hflush h
  have hr := lt_of_next_ringWrite h
  have hg : (s.chip.ring r).Within (max (s.chip.ring r).unread (s.chip.ringSize r - 1)) := ⟨Nat.le_max_left _ _, hc, hp⟩
  have key : s.chip.MovesWithin r (max (s.chip.ring r).unread (s.chip.ringSize r - 1)) t.chip := by
    rw [exec_ringProdWrite_taken hr v hprod, exec_ringConsWrite_taken hr v hcons, exec_ringFlushHost_taken hr v hflush,
      exec_ringFlushDevice_taken hr v hflush] at h
    rcases h with ⟨⟨⟩⟩ | ⟨⟨⟩⟩ | ⟨⟨⟩⟩ | ⟨⟨⟩⟩
    · exact Chip.movesWithin_writeProd hg v.isLt (Nat.le_max_right _ _)
    · exact Chip.movesWithin_writeCons hg v.isLt
    · rw [State.onto_chip]
      split
      · exact Chip.movesWithin_flushHost hg
      · exact Chip.movesWithin_self hg
    · rw [State.onto_chip]
      split
      · exact Chip.movesWithin_flushDevice hg
      · exact Chip.movesWithin_self hg
  obtain ⟨⟨hunread, hcons', hprod'⟩, hothers⟩ := key
  exact ⟨hunread, hcons', hprod', hothers⟩

end Sys2Proof.Machine
end

section
/-! SUPPORT. Slots and entries of rings (R266, R270, R271, R277, R396): what a write into the ring window stores, the entry that is
taken, a ring that stalls, and the legacy pop. -/

namespace Sys2Proof.Machine

open Sys2Proof

/-! ### Writes into the window -/

section
variable (c : Chip) (k at_ : Nat) (bs : List Byte)

/-- Octets stored into a slot stand there, merged with those beside them. -/
theorem Chip.natAt_storeSlot : natAt (c.storeSlot k at_ bs).ringMem k =
    ofLE (putAt (leBytes 64 (natAt c.ringMem k)) at_ bs) := Store.get_set_same _ _ _ _

/-- With no stored difference in Lagoon, nothing but the slot changes. -/
theorem Chip.storeSlot_clean (h : c.eccLagoon.flips = []) : c.storeSlot k at_ bs =
    { c with ringMem := setNat c.ringMem k (ofLE (putAt (leBytes 64 (natAt c.ringMem k)) at_ bs)) } := by
  simp [Chip.storeSlot, Chip.rewritten, Chip.ecc, Ecc.within, h]

theorem Chip.writeSlot_of_none (h : c.slotRing k = none) : c.writeSlot k at_ bs = c.storeSlot k at_ bs := by
  simp only [Chip.writeSlot, h]

variable {k} {r i : Nat} (h : c.slotRing k = some (r, i))
include h

/-- A slot that holds a valid entry, and a fenced one that the write does not cover. -/
theorem Chip.writeSlot_of_ignored
    (hi : c.slotHeld r i k = true ∨ (c.ring r).fences.contains i = true ∧ bs.length ≠ 64) :
    c.writeSlot k at_ bs = c.ignoreSlot r := by
  simp only [Chip.writeSlot, h]
  rcases hi with hheld | ⟨hfence, hlen⟩
  · rw [if_pos hheld]
  · rw [if_pos hfence, if_neg hlen, ite_self]

theorem Chip.writeSlot_of_free (hheld : c.slotHeld r i k = false) (hfence : (c.ring r).fences.contains i = false) :
    c.writeSlot k at_ bs = c.storeSlot k at_ bs := by
  simp only [Chip.writeSlot, h]
  rw [if_neg (ne_true_of_eq_false hheld), if_neg (ne_true_of_eq_false hfence)]

/-- A write that covers a fenced slot takes its fence away. -/
theorem Chip.writeSlot_of_covered (hheld : c.slotHeld r i k = false) (hfence : (c.ring r).fences.contains i = true)
    (hlen : bs.length = 64) : c.writeSlot k at_ bs =
      (c.setRing r { c.ring r with fences := (c.ring r).fences.filter (· != i) }).storeSlot k at_ bs := by
  simp only [Chip.writeSlot, h]
  rw [if_neg (ne_true_of_eq_false hheld), if_pos hfence, if_pos hlen]

end

/-- A write that ends within its first slot is the write of that slot. -/
theorem Chip.writeWindow_of_slot (c : Chip) {k at_ : Nat} {bs : List Byte} (hne : bs ≠ []) (hat : at_ + bs.length ≤ 64) :
    Chip.writeWindow 9 c (k * 64 + at_) bs = c.writeSlot k at_ bs := by
  have hpos : 0 < bs.length := List.length_pos_iff.mpr hne
  have hslot : (k * 64 + at_) / 64 = k := by omega
  have hplace : (k * 64 + at_) % 64 = at_ := by omega
  have hroom : bs.length ≤ 64 - at_ := by omega
  have hone : Chip.writeWindow 9 c (k * 64 + at_) bs =
      Chip.writeWindow 8 (c.writeSlot k at_ bs) (k * 64 + at_ + (64 - at_)) [] := by
    rw [Chip.writeWindow, if_neg (by simpa using hne)]
    simp only [hslot, hplace, List.take_of_length_le hroom, List.drop_of_length_le hroom]
  exact hone

theorem exec_ringSlotWrite_taken (s : State) {k at_ : Nat} {octets : List Byte} (hk : k < 0x40000) (hne : octets ≠ [])
    (hat : at_ + octets.length ≤ 64) (ht : s.chip.takesWrite (0x1000000 + (k * 64 + at_)) = true) :
    exec (.ringSlotWrite (k * 64 + at_) octets) s = .next (s.onto (s.chip.writeSlot k at_ octets)) := by
  show execRingSlotWrite (k * 64 + at_) octets s = _
  have hin : (decide (k * 64 + at_ + octets.length ≤ 0x1000000) && decide (octets.length ≤ 512)) = true := by
    rw [Bool.and_eq_true, decide_eq_true_eq, decide_eq_true_eq]
    omega
  rw [execRingSlotWrite, hin, within_true, onChip_eq, Chip.barWrite_taken _ _ _ _ ht, Chip.writeWindow_of_slot _ hne hat]
  rfl

/-! ### Entries taken, and a ring that stalls -/

section
variable (c : Chip) (r : Nat)

/-- The entry at CONS of a ring taken, before what its type brings. -/
def Chip.entryTaken (d : Chip) (e : Nat) : Chip :=
  d.setRing r { d.ring r with taken := true, held := e, cut := false, stalled := false }

/-- The entry of a transmit job has its octets fetched from host memory (R277). -/
theorem Chip.takeEntry_of_job (h : c.ringType r = 2) : c.takeEntry r =
    (Chip.entryTaken r (c.noteEntry 5 r) (c.entryAt r)).emit
      (.hostRead (bits (c.entryAt r) 0 64) ((c.noteEntry 5 r).jobLen (c.entryAt r))) := by
  have hjob : (bits (c.rd (Reg.RING_CFG r)) 1 2 != 0) = true := by
    rw [show bits (c.rd (Reg.RING_CFG r)) 1 2 = 2 from h]
    rfl
  simp only [Chip.takeEntry, hjob, if_true]
  rfl

/-- The entry of a command ring makes it the ring served last. -/
theorem Chip.takeEntry_of_command (h : c.ringType r = 0) : c.takeEntry r =
    { Chip.entryTaken r (c.noteEntry 8 r) (c.entryAt r) with lastRing := r } := by
  have hjob : (bits (c.rd (Reg.RING_CFG r)) 1 2 != 0) = false := by
    rw [show bits (c.rd (Reg.RING_CFG r)) 1 2 = 0 from h]
    rfl
  simp only [Chip.takeEntry, hjob]
  rfl

/-- Whether the entry at CONS of a ring is to be taken: one of a command ring in its turn (R291). -/
def Chip.mayTake : Bool :=
  c.hostProduces r && !(c.ring r).taken && (c.frontEntry r (c.ringType r)).isSome && (c.ringType r == 2 || c.takesFrom (.ring r))

theorem Chip.mayTake_eq_false (h : c.hostProduces r = false ∨ c.frontEntry r (c.ringType r) = none ∨ (c.ring r).taken = true ∨
    c.ringType r = 0 ∧ c.takesFrom (.ring r) = false) : c.mayTake r = false := by
  rcases h with h | h | h | ⟨htype, hturn⟩
  · rw [Chip.mayTake, h]
    rfl
  · simp [Chip.mayTake, h]
  · simp [Chip.mayTake, h]
  · simp [Chip.mayTake, htype, hturn]

theorem Chip.mayTake_eq_true (hp : c.hostProduces r = true) (he : c.frontEntry r (c.ringType r) ≠ none)
    (ht : (c.ring r).taken = false) (h : c.ringType r = 2 ∨ c.takesFrom (.ring r) = true) : c.mayTake r = true := by
  simp only [Chip.mayTake, hp, ht, Option.isSome_iff_ne_none.mpr he]
  rcases h with h | h <;> simp [h]

/-- Whether a ring has an entry below PROD of the wrong GEN that is not told yet. -/
def Chip.mayStall : Bool :=
  c.hostProduces r && c.ringOn r && decide (0 < (c.ring r).unread) && !(c.ring r).taken && !(c.ring r).stalled &&
    (c.frontEntry r (c.ringType r)).isNone

theorem Chip.mayStall_eq_false (h : c.hostProduces r = false ∨ c.ringOn r = false ∨ (c.ring r).unread = 0 ∨
    (c.ring r).taken = true ∨ (c.ring r).stalled = true ∨ c.frontEntry r (c.ringType r) ≠ none) : c.mayStall r = false := by
  simp only [Chip.mayStall, Bool.and_eq_false_iff, decide_eq_false_iff_not, Nat.pos_iff_ne_zero, Bool.not_eq_false', ne_eq,
    not_not, Option.isNone_eq_false_iff, Option.isSome_iff_ne_none]
  tauto

end

section
variable {s : State} {r : Nat} (hr : r < 256)
include hr

theorem exec_ringEntryTake_eq : exec (.ringEntryTake r) s =
    .next (s.onto (if s.chip.mayTake r then s.chip.takeEntry r else s.chip)) := by
  show execRingEntryTake r s = _
  rw [execRingEntryTake, decide_eq_true hr, within_true, onChip_eq]
  rfl

theorem exec_ringStall_eq : exec (.ringStall r) s = .next (s.onto (if s.chip.mayStall r then
    ((s.chip.setRing r { s.chip.ring r with stalled := true }).setEvt (Reg.RING_EVT r) 2).raise 4 0x0504
      (it4 r ++ it4 (s.chip.ring r).cons) else s.chip)) := by
  show execRingStall r s = _
  rw [execRingStall, decide_eq_true hr, within_true, onChip_eq]
  rfl

end

/-! ### The legacy pop (R266, R464) -/

section
variable (c : Chip) (be : Nat)

/-- The ring that the legacy pop reads. -/
def Chip.legacyRing : Nat := bits (c.rd Reg.EVT_LEGACY_CFG) 0 8

/-- Whether the legacy pop has an entry to answer with. -/
def Chip.mayPop : Bool :=
  decide (bits be 0 4 ≠ 0) && bit (c.rd Reg.EVT_LEGACY_CFG) 8 && c.isEventRing c.legacyRing && c.inWindow c.legacyRing &&
    c.domainOn 3 && decide (0 < (c.ring c.legacyRing).unread)

theorem Chip.mayPop_eq_true_iff : c.mayPop be = true ↔ be % 16 ≠ 0 ∧ bit (c.rd Reg.EVT_LEGACY_CFG) 8 = true ∧
    c.isEventRing c.legacyRing = true ∧ c.inWindow c.legacyRing = true ∧ c.domainOn 3 = true ∧
    0 < (c.ring c.legacyRing).unread := by
  have hbe : bits be 0 4 = be % 16 := rfl
  simp only [Chip.mayPop, hbe, Bool.and_eq_true, decide_eq_true_eq, and_assoc]

/-- An event entry popped: its code, its type and its sequence bits answered, and CONS moved on. -/
def Chip.pop : Chip :=
  let r := c.legacyRing
  let e := c.entryAt r
  let d := c.noteEntry 5 r
  (d.setRing r { d.ring r with cons := ((c.ring r).cons + 1) % 2 ^ 32, full := false }).emit
    (.legacyPop (BitVec.ofNat 32 ((bits e 0 24 + bits e 32 7 * 2 ^ 24 + 2 ^ 31) &&& enableMask be)))

end

theorem exec_evtLegacyPop_of_aborted {s : State} (be : Nat) (h : s.chip.barReady 0xF000 = false ∨ s.chip.power.warm = true) :
    exec (.evtLegacyPop be) s = .next (s.onto (s.chip.emit .completerAbort)) := by
  show execEvtLegacyPop be s = _
  rw [execEvtLegacyPop, onChip_eq]
  refine congrArg (fun c => Host.Outcome.next (s.onto c)) (if_pos ?_)
  rcases h with h | h <;> rw [h]
  · rfl
  · exact Bool.or_true _

theorem exec_evtLegacyPop_of_served {s : State} (be : Nat) (hr : s.chip.barReady 0xF000 = true) (hw : s.chip.power.warm = false) :
    exec (.evtLegacyPop be) s =
      .next (s.onto (if s.chip.mayPop be then s.chip.pop be else s.chip.emit (.legacyPop 0))) := by
  show execEvtLegacyPop be s = _
  rw [execEvtLegacyPop, onChip_eq]
  exact congrArg (fun c => Host.Outcome.next (s.onto c)) (if_neg (by rw [hr, hw]; decide))

/-- Settles O12: writes of slots by what the slot holds, entries by whether they are to be taken, and the legacy pop. -/
theorem ringEntriesAreWrittenTakenAndPopped : Obligations.RingEntriesAreWrittenTakenAndPopped := by
  unfold Obligations.RingEntriesAreWrittenTakenAndPopped
  refine ⟨fun s k at_ octets hk hne hat ht => ?slots, fun s r c hr hc =>
    ⟨fun e d hp hfront htaken hd he => ?taken, fun h => ?waits, fun hp hon hu ht hst hf => ?stalls, fun h => ?quiet⟩,
    fun s be r hr => ⟨exec_evtLegacyPop_of_aborted be, fun hready hwarm => ?pop⟩⟩
  case slots =>
    rw [exec_ringSlotWrite_taken s hk hne hat ht]
    refine ⟨s.chip.natAt_storeSlot k at_ octets, s.chip.storeSlot_clean k at_ octets, fun hn => ?_, fun r i hs =>
      ⟨fun h => ?_, fun hheld hfence => ?_, fun hheld hfence hlen => ?_⟩⟩
    · rw [s.chip.writeSlot_of_none k at_ octets hn]
    · rw [s.chip.writeSlot_of_ignored at_ octets hs h, Chip.ignoreSlot]
    · rw [s.chip.writeSlot_of_free at_ octets hs hheld hfence]
    · rw [s.chip.writeSlot_of_covered at_ octets hs hheld hfence hlen]
  case taken =>
    subst hc he hd
    rw [exec_ringEntryTake_eq hr]
    refine ⟨fun htype => ?_, fun htype hturn => ?_⟩
    · rw [if_pos (Chip.mayTake_eq_true _ _ hp hfront htaken (.inl htype)), Chip.takeEntry_of_job _ _ htype, htype]
      rfl
    · rw [if_pos (Chip.mayTake_eq_true _ _ hp hfront htaken (.inr hturn)), Chip.takeEntry_of_command _ _ htype, htype]
      rfl
  case waits =>
    subst hc
    rw [exec_ringEntryTake_eq hr, Chip.mayTake_eq_false _ _ h]
    rfl
  case stalls =>
    subst hc
    have hmay : s.chip.mayStall r = true := by
      simp only [Chip.mayStall, hp, hon, hu, ht, hst, hf]
      rfl
    rw [exec_ringStall_eq hr, if_pos hmay]
  case quiet =>
    subst hc
    rw [exec_ringStall_eq hr, Chip.mayStall_eq_false _ _ h]
    rfl
  case pop =>
    subst hr
    rw [exec_evtLegacyPop_of_served be hready hwarm]
    refine ⟨fun h => ?_, fun hbe hcfg hring hwin hdom hu e c he hc => ?_⟩
    · have hmay : ¬ s.chip.mayPop be = true := by
        rw [Chip.mayPop_eq_true_iff]
        rintro ⟨hbe, hcfg, hring, hwin, hdom, hu⟩
        rcases h with h | h | h | h | h | h
        · exact hu.ne' h
        · exact hbe h
        · exact ne_true_of_eq_false h hcfg
        · exact ne_true_of_eq_false h hring
        · exact ne_true_of_eq_false h hwin
        · exact ne_true_of_eq_false h hdom
      rw [if_neg hmay]
    · subst he hc
      rw [if_pos ((s.chip.mayPop_eq_true_iff be).mpr ⟨hbe, hcfg, hring, hwin, hdom, hu⟩)]
      rfl

end Sys2Proof.Machine
end

section
/-! SUPPORT. Mailboxes (R263, R279, R297), vectors (R275) and the responses on command rings (R270, R271): the words that a number
spells in a run of registers, the octets of a response, and what the posting of an entry leaves of the rings. -/

namespace Sys2Proof.Machine

open Sys2Proof

/-! ### Octets and the numbers that they spell -/

theorem ofLE_div (n : Nat) : ∀ l : List Byte, ofLE l / 256 ^ n = ofLE (l.drop n) := by
  induction n with
  | zero => exact fun l => Nat.div_one _
  | succ n ih =>
    intro l
    cases l with
    | nil => exact Nat.zero_div _
    | cons b l =>
      have hb : (b.toNat + 256 * ofLE l) / 256 = ofLE l := by
        have := b.isLt
        omega
      rw [Nat.pow_succ', ← Nat.div_div_eq_div_mul, ofLE, hb, ih, List.drop_succ_cons]

theorem ofLE_mod (n : Nat) : ∀ l : List Byte, ofLE l % 256 ^ n = ofLE (l.take n) := by
  induction n with
  | zero => exact fun l => Nat.mod_one _
  | succ n ih =>
    intro l
    cases l with
    | nil => exact Nat.zero_mod _
    | cons b l =>
      have hb : (b.toNat + 256 * ofLE l) / 256 = ofLE l ∧ (b.toNat + 256 * ofLE l) % 256 = b.toNat := by
        have := b.isLt
        omega
      rw [Nat.pow_succ', Nat.mod_mul, ofLE, hb.1, hb.2, ih, List.take_succ_cons, ofLE]

/-- A number's word in a run of registers is what its four octets spell. -/
theorem ofLE_word (l : List Byte) (k : Nat) : ofLE l / 2 ^ (32 * k) % 2 ^ 32 = ofLE ((l.drop (4 * k)).take 4) := by
  have hk : 2 ^ (32 * k) = 256 ^ (4 * k) := by
    rw [show 32 * k = 8 * (4 * k) by omega, Nat.pow_mul]
  rw [hk, ofLE_div, ← ofLE_mod]
  rfl

/-- Octets within a padded list are those of the list, padded. -/
theorem take_drop_padTo (l : List Byte) {i n len : Nat} (h : i + n ≤ len) :
    ((padTo len l).drop i).take n = padTo n (l.drop i) := by
  have hmin : min (n - (l.length - i)) (len - (i - l.length)) = min (n - (l.length - i)) n := by omega
  rw [padTo, List.drop_take, List.take_take, Nat.min_eq_left (by omega), padTo, List.drop_append, List.take_append,
    List.take_append, List.drop_replicate, List.take_replicate, List.take_replicate, List.length_drop, hmin]

/-! ### Runs of registers -/

theorem Chip.rd_wrWords_ne (n : Nat) : ∀ (c : Chip) (off v x : Nat), x < off ∨ off + 4 * n ≤ x →
    (c.wrWords off n v).rd x = c.rd x := by
  induction n with
  | zero => exact fun _ _ _ _ _ => rfl
  | succ n ih =>
    intro c off v x hx
    rw [Chip.wrWords, ih _ _ _ _ (by omega), Chip.rd_wr_ne _ _ _ _ (by omega)]

theorem Chip.rd_wrWords (n : Nat) : ∀ (c : Chip) (off v k : Nat), k < n →
    (c.wrWords off n v).rd (off + 4 * k) = v / 2 ^ (32 * k) % 2 ^ 32 := by
  induction n with
  | zero => exact fun _ _ _ _ hk => absurd hk (Nat.not_lt_zero _)
  | succ n ih =>
    intro c off v k hk
    rw [Chip.wrWords]
    cases k with
    | zero =>
      rw [Nat.mul_zero, Chip.rd_wrWords_ne _ _ _ _ _ (by omega), Nat.add_zero, Chip.rd_wr_same, Nat.mod_mod, Nat.pow_zero,
        Nat.div_one]
    | succ k =>
      rw [show off + 4 * (k + 1) = off + 4 + 4 * k by omega, ih _ _ _ _ (by omega), Nat.div_div_eq_div_mul, ← Nat.pow_add,
        show 32 + 32 * k = 32 * (k + 1) by omega]

theorem Chip.mboxes_wrWords (n : Nat) : ∀ (c : Chip) (off v : Nat), (c.wrWords off n v).mboxes = c.mboxes := by
  induction n with
  | zero => exact fun _ _ _ => rfl
  | succ n ih => exact fun c off v => ih _ _ _

/-! ### Responses in mailboxes -/

theorem drop_responseBytes (op tag : Nat) (a : Answer) (k : Nat) :
    (responseBytes op tag a).drop (4 * (4 + k)) = a.result.drop (4 * k) := by
  rw [show 4 * (4 + k) = 16 + 4 * k by omega, ← List.drop_drop]
  rfl

/-- The first four words of a response. -/
theorem responseBytes_words {op tag : Nat} {a : Answer} (hop : op < 65536) (htag : tag < 65536) (hst : a.status < 65536)
    (hdet : a.detail < 65536) (hcsn : a.csn < 2 ^ 64) :
    ofLE (padTo 4 ((responseBytes op tag a).drop (4 * 0))) = op + tag * 65536 ∧
    ofLE (padTo 4 ((responseBytes op tag a).drop (4 * 1))) = a.status + a.detail * 65536 ∧
    ofLE (padTo 4 ((responseBytes op tag a).drop (4 * 2))) = a.csn % 2 ^ 32 ∧
    ofLE (padTo 4 ((responseBytes op tag a).drop (4 * 3))) = a.csn / 2 ^ 32 := by
  simp only [responseBytes, leBytes, padTo, List.cons_append, List.nil_append, Nat.mul_zero, Nat.mul_one, Nat.reduceMul,
    List.drop_zero, List.drop_succ_cons, List.take_succ_cons, List.take_zero, ofLE, BitVec.toNat_ofNat]
  omega

theorem Chip.SameButEvents.mbox {c d : Chip} (h : c.SameButEvents d) (j : Nat) : d.mbox j = c.mbox j := by
  rw [Chip.mbox, h.1]
  rfl

theorem Chip.rd_setMbox (c : Chip) (m : Nat) (x : Mailbox) (off : Nat) : (c.setMbox m x).rd off = c.rd off := rfl

section
variable (c : Chip) (m op tag : Nat) (a : Answer)

/-- The part with a response in its mailbox, before the event that tells it. -/
def Chip.withResponse : Chip :=
  (c.wrWords (Reg.MB_RESP m 0) 16 (ofLE (padTo 64 (responseBytes op tag a)))).setMbox m
    ⟨false, true, ((c.mbox m).seq + 1) % 65536⟩

theorem Chip.sameButEvents_respond_mbox : (c.withResponse m op tag a).SameButEvents (c.respond (.mbox m) op tag a) :=
  Chip.sameButEvents_raise _ _ _ _

/-- The words of MBm_RESP spell the octets of the response, padded with zeros. -/
theorem Chip.rd_respond_mbox (hm : m < 8) {k : Nat} (hk : k < 16) :
    (c.respond (.mbox m) op tag a).rd (Reg.MB_RESP m k) = ofLE (padTo 4 ((responseBytes op tag a).drop (4 * k))) := by
  rw [(c.sameButEvents_respond_mbox m op tag a).rd_power (by unfold Reg.MB_RESP; omega)]
  have hoff : Reg.MB_RESP m k = Reg.MB_RESP m 0 + 4 * k := by
    unfold Reg.MB_RESP
    omega
  rw [Chip.withResponse, Chip.rd_setMbox, hoff, Chip.rd_wrWords _ _ _ _ _ hk, ofLE_word, take_drop_padTo _ (by omega)]

theorem Chip.mbox_respond_same :
    (c.respond (.mbox m) op tag a).mbox m = ⟨false, true, ((c.mbox m).seq + 1) % 65536⟩ := by
  rw [(c.sameButEvents_respond_mbox m op tag a).mbox, Chip.withResponse, Chip.mbox_setMbox_same]

theorem Chip.mbox_respond_ne {j : Nat} (h : j ≠ m) : (c.respond (.mbox m) op tag a).mbox j = c.mbox j := by
  rw [(c.sameButEvents_respond_mbox m op tag a).mbox, Chip.withResponse, Chip.mbox_setMbox_ne _ _ _ _ h, Chip.mbox,
    Chip.mboxes_wrWords]
  rfl

end

/-! ### What the posting of an entry leaves of the rings -/

section
variable (c : Chip) {r q : Nat}

theorem Chip.ring_storeEntry (i entry : Nat) : (c.storeEntry q i entry).ring r = c.ring r := by
  unfold Chip.storeEntry
  dsimp only
  split
  · rfl
  · rw [Chip.rewritten_lagoon]
    rfl

theorem Chip.ring_msix (v : Nat) : (c.msix v).ring r = c.ring r := by
  unfold Chip.msix
  split
  · split <;> rfl
  · rfl

theorem Chip.ring_writeEvent_ne (h : r ≠ q) (code src flags : Nat) (items : List Byte) :
    (c.writeEvent q code src flags items).ring r = c.ring r := by
  rw [Chip.writeEvent, Chip.ring_setRing_ne _ _ _ _ h, Chip.ring_storeEntry]

/-- An entry posted leaves every ring that is no event ring. -/
theorem Chip.ring_post_of_other (h : c.isEventRing r = false) (vec code src : Nat) (items : List Byte) :
    (c.post q vec code src items).ring r = c.ring r := by
  unfold Chip.post
  split
  · rfl
  next hq =>
  have hne : r ≠ q := by
    rintro rfl
    exact hq (by rw [h]; rfl)
  split
  · rw [Chip.ring_msix, Chip.ring_writeEvent_ne _ hne]
  split
  · rfl
  · rw [Chip.ring_msix]
    exact (Chip.ring_setRing_ne _ _ _ _ hne).trans (Chip.ring_writeEvent_ne _ hne _ _ _ _)

theorem Chip.ring_gatherPost_of_other (h : c.isEventRing r = false) (e : Raised) : (c.gatherPost e).ring r = c.ring r := by
  unfold Chip.gatherPost
  split
  · unfold Chip.postEvent
    dsimp only
    split
    · exact c.ring_post_of_other h _ _ _ _
    · split
      · rfl
      · exact c.ring_post_of_other h _ _ _ _
  · rfl

theorem Chip.isEventRing_of_commandRing (h : c.ringType r = 0) : c.isEventRing r = false := by
  rw [Chip.isEventRing, show bits (c.rd (Reg.RING_CFG r)) 1 2 = 0 from h]
  simp

end

/-- A response on a command ring has the entry of its command consumed. -/
theorem Chip.ring_respond_ring {c : Chip} {r : Nat} (op tag : Nat) (a : Answer) (htype : c.ringType r = 0)
    (ht : (c.ring r).taken = true) (hu : 0 < (c.ring r).unread) : (c.respond (.ring r) op tag a).ring r = { c.ring r with
      cons := if (c.ring r).cut then (c.ring r).cons else ((c.ring r).cons + 1) % 2 ^ 32
      taken := false, cut := false, stalled := false } := by
  have hresp : c.respond (.ring r) op tag a =
      (c.consumed r).gatherPost ⟨3, 0x0401, padTo 28 (responseBytes op tag a), some r⟩ := by
    simp only [Chip.respond, ht, if_true]
  have hother : (c.consumed r).isEventRing r = false := (c.consumed r).isEventRing_of_commandRing htype
  rw [hresp, Chip.ring_gatherPost_of_other _ hother, Chip.consumed, Chip.ring_setRing_same]
  simp only [decide_eq_false hu.ne', Bool.or_false]

/-! ### Doorbells and vectors -/

theorem exec_mbmDoorbell_taken {s : State} {m : Nat} (hm : m < 8) (v : Word)
    (h : s.chip.takesWrite (Reg.MB_DOORBELL m) = true) :
    exec (.mbmDoorbell m v) s = .next (s.onto (s.chip.doorbell m v.toNat)) := by
  show execMbmDoorbell m v s = _
  rw [execMbmDoorbell, decide_eq_true hm, within_true, regCommand_taken _ h]

section
variable (c : Chip) (m v : Nat)

theorem Chip.doorbell_of_busy (h : (c.mbox m).busy = true) : c.doorbell m v =
    c.writeFailed false (Reg.MB_DOORBELL m) hostReq (c.rd Reg.HB_EPOCH) 3 0 4 := if_pos h

theorem Chip.doorbell_of_idle (h : (c.mbox m).busy = false) : c.doorbell m v =
    if bit v 0 then c.setMbox m { c.mbox m with busy := true, done := false } else c := if_neg (ne_true_of_eq_false h)

end

theorem exec_msixUnmask_taken {s : State} {k : Nat} (hk : k < 256) (h : s.chip.takesWrite (Reg.MSIX_CTRL k) = true) :
    exec (.msixUnmask k) s = .next (s.onto (s.chip.unmask k)) := by
  show execMsixUnmask k s = _
  rw [execMsixUnmask, decide_eq_true hk, within_true, regCommand_taken _ h]

section
variable (c : Chip) (k : Nat)

theorem Chip.unmask_of_notPending (h : k ∉ c.msixPend) : c.unmask k = c.wr (Reg.MSIX_CTRL k) 0 :=
  if_neg (by rwa [Chip.wr_msixPend, List.contains_iff_mem])

/-- The part with a vector's mask and its pending bit clear. -/
def Chip.unmasked : Chip := { c.wr (Reg.MSIX_CTRL k) 0 with msixPend := c.msixPend.filter (· != k) }

theorem Chip.rd_unmasked_ne {off : Nat} (h : off ≠ Reg.MSIX_CTRL k) : (c.unmasked k).rd off = c.rd off :=
  c.rd_wr_ne _ _ _ h

/-- A vector whose message is pending sends it. -/
theorem Chip.unmask_of_pending (h : k ∈ c.msixPend) : c.unmask k = (c.unmasked k).emit
    (.msix k (c.rd (Reg.MSIX_ADDR_LO k) + c.rd (Reg.MSIX_ADDR_HI k) * 2 ^ 32) (c.rd (Reg.MSIX_DATA k))) := by
  have hsend : c.unmask k = (c.unmasked k).msix k := if_pos (by rwa [Chip.wr_msixPend, List.contains_iff_mem])
  have hctrl : (c.unmasked k).rd (Reg.MSIX_CTRL k) = 0 := c.rd_wr_same _ _
  rw [hsend, Chip.msix, hctrl, if_neg (by decide), c.rd_unmasked_ne k (by unfold Reg.MSIX_ADDR_LO Reg.MSIX_CTRL; omega),
    c.rd_unmasked_ne k (by unfold Reg.MSIX_ADDR_HI Reg.MSIX_CTRL; omega),
    c.rd_unmasked_ne k (by unfold Reg.MSIX_DATA Reg.MSIX_CTRL; omega)]

end

/-- Settles O14: a doorbell by its mailbox, a vector by its pending bit, and a response by its channel. -/
theorem mailboxesAndVectorsAct : Obligations.MailboxesAndVectorsAct := by
  unfold Obligations.MailboxesAndVectorsAct
  refine ⟨⟨fun s m v hm ht => ?doorbell, fun s k hk ht => ?unmask⟩,
    fun c m op tag a hm hop htag hst hdet hcsn => ?response, fun c r op tag a => Chip.ring_respond_ring op tag a⟩
  case doorbell =>
    rw [exec_mbmDoorbell_taken hm v ht]
    refine ⟨fun hidle hv => ?_, fun hidle hv => ?_, fun hbusy => ?_⟩
    · rw [Chip.doorbell_of_idle _ _ _ hidle, if_pos (show bit v.toNat 0 = true from hv)]
    · rw [Chip.doorbell_of_idle _ _ _ hidle, if_neg (show ¬ bit v.toNat 0 = true from ne_true_of_eq_false hv),
        State.onto_self]
    · rw [Chip.doorbell_of_busy _ _ _ hbusy]
  case unmask =>
    rw [exec_msixUnmask_taken hk ht]
    exact ⟨fun h => by rw [Chip.unmask_of_notPending _ _ h], fun h => by rw [Chip.unmask_of_pending _ _ h, Chip.unmasked]⟩
  case response =>
    obtain ⟨h0, h1, h2, h3⟩ := responseBytes_words hop htag hst hdet hcsn
    have hword := fun {k : Nat} (hk : k < 16) => c.rd_respond_mbox m op tag a hm hk
    refine ⟨(hword (by decide)).trans h0, (hword (by decide)).trans h1, (hword (by decide)).trans h2,
      (hword (by decide)).trans h3, fun k hk => ?_, c.mbox_respond_same m op tag a, fun j hj => c.mbox_respond_ne m op tag a hj⟩
    rw [hword (by omega), drop_responseBytes]

end Sys2Proof.Machine
end

section
/-! SUPPORT. The telemetry FIFOs (R280 to R284): a bank closed, the consumer's writes, and what becomes of a producer's record. -/

namespace Sys2Proof.Machine

open Sys2Proof

/-! ### A bank closed (R281) -/

theorem Chip.SameButEvents.fifo {c d : Chip} (h : c.SameButEvents d) (f : Nat) : d.fifo f = c.fifo f := by
  rw [Chip.fifo, h.1]
  rfl

/-- A FIFO whose filling bank is closed: the other bank fills, and this one is drained from its start. -/
def Fifo.closed (x : Fifo) : Fifo :=
  { x with filling := [], draining := x.filling, fillBank := 1 - x.fillBank, rd := 0, mark := 0, closeReq := false }

section
variable (c : Chip) (f : Nat)

/-- The closing of a bank is told by its event, which leaves the rest of the part. -/
theorem Chip.sameButEvents_closeBank :
    ((c.setFifo f (c.fifo f).closed).setEvt (Reg.TF_EVT f) 2).SameButEvents (c.closeBank f) :=
  Chip.sameButEvents_raise _ _ _ _

theorem Chip.fifo_closeBank_same : (c.closeBank f).fifo f = (c.fifo f).closed := by
  rw [(c.sameButEvents_closeBank f).fifo]
  exact c.fifo_setFifo_same f _

theorem Chip.fifo_closeBank_ne {g : Nat} (h : g ≠ f) : (c.closeBank f).fifo g = c.fifo g := by
  rw [(c.sameButEvents_closeBank f).fifo]
  exact c.fifo_setFifo_ne f g _ h

theorem Chip.bit_rd_closeBank (hf : f < 8) : bit ((c.closeBank f).rd (Reg.TF_EVT f)) 1 = true :=
  Chip.bit_rd_told _ _ _ _ _ _ (by unfold Reg.TF_EVT; omega) (by decide) (by decide)

theorem Chip.csn_closeBank : (c.closeBank f).csn = c.csn := (c.sameButEvents_closeBank f).csn

theorem Chip.tryClose_of_empty (h : (c.fifo f).draining = []) :
    c.tryClose f = if c.closeDue f then c.closeBank f else c := by
  simp [Chip.tryClose, h]

/-- A bank that holds something, whose closing is asked for or whose time has come, closes where the other is empty and no record
is under way. -/
theorem Chip.tryClose_of_due (hfill : (c.fifo f).filling ≠ []) (hdue : (c.fifo f).closeReq = true ∨
    (c.fifo f).firstAt + usCycles (1000 * bits (c.lv (Reg.TF_CFG f)) 8 8) ≤ c.cycle) :
    c.tryClose f = if (c.fifo f).draining = [] ∧ (c.fifo f).begun = none then c.closeBank f else c := by
  have hreq : ((c.fifo f).closeReq ||
      decide ((c.fifo f).firstAt + usCycles (1000 * bits (c.lv (Reg.TF_CFG f)) 8 8) ≤ c.cycle)) = true := by
    rw [Bool.or_eq_true, decide_eq_true_eq]
    exact hdue
  have hne : (c.fifo f).filling.isEmpty = false := by simpa using hfill
  have hclose : c.closeDue f = (c.fifo f).begun.isNone := by
    change (!(c.fifo f).filling.isEmpty && (c.fifo f).begun.isNone && _) = _
    rw [hreq, hne, Bool.and_true]
    rfl
  simp only [Chip.tryClose, hclose, Bool.and_eq_true, List.isEmpty_iff, Option.isNone_iff_eq_none]

end

/-! ### The consumer's writes (R281, R282, R284) -/

section
variable {s : State} {f : Nat} (hf : f < 8) (v : Word)
include hf

theorem exec_tffAdvance_taken (h : s.chip.takesWrite (Reg.TF_ADVANCE f) = true) :
    exec (.tffAdvance f v) s = .next (s.onto (s.chip.setFifo f { s.chip.fifo f with
      rd := min (s.chip.fifo f).draining.length (((s.chip.fifo f).rd + v.toNat % 2 ^ 15) / 8 * 8) })) := by
  show execTffAdvance f v s = _
  rw [execTffAdvance, decide_eq_true hf, within_true, regCommand_taken _ h]
  rfl

theorem exec_tffMark_eq : exec (.tffMark f v) s = regCommand (Reg.TF_MARK f) (fun c =>
    if bit v.toNat 0 then c.setFifo f { c.fifo f with mark := (c.fifo f).rd } else c) s := by
  show execTffMark f v s = _
  rw [execTffMark, decide_eq_true hf, within_true]

theorem exec_tffRewind_eq : exec (.tffRewind f v) s = regCommand (Reg.TF_REWIND f) (fun c =>
    if bit v.toNat 0 then c.setFifo f { c.fifo f with rd := (c.fifo f).mark } else c) s := by
  show execTffRewind f v s = _
  rw [execTffRewind, decide_eq_true hf, within_true]

theorem exec_tffRelease_eq : exec (.tffRelease f v) s = regCommand (Reg.TF_RELEASE f) (fun c =>
    if bit v.toNat 0 then c.releaseBank f else c) s := by
  show execTffRelease f v s = _
  rw [execTffRelease, decide_eq_true hf, within_true]

theorem exec_tffFlush_eq : exec (.tffFlush f v) s = regCommand (Reg.TF_FLUSH f) (fun c =>
    if bit v.toNat 0 then c.flushFifo f else c) s := by
  show execTffFlush f v s = _
  rw [execTffFlush, decide_eq_true hf, within_true]

theorem exec_tffClose_taken (h : s.chip.takesWrite (Reg.TF_CLOSE f) = true) :
    exec (.tffClose f v) s = .next (s.onto (if v.getLsbD 0 && !(s.chip.fifo f).filling.isEmpty then
      (s.chip.setFifo f { s.chip.fifo f with closeReq := true }).tryClose f else s.chip)) := by
  show execTffClose f v s = _
  rw [execTffClose, decide_eq_true hf, within_true, regCommand_taken _ h]
  rfl

end

section
variable (c : Chip) (f : Nat)

theorem Chip.releaseBank_of_before (h : (c.fifo f).rd ≠ (c.fifo f).draining.length) :
    c.releaseBank f = c.setFifo f { c.fifo f with mark := max (c.fifo f).mark (c.fifo f).rd } := if_neg h

/-- A release at DRAIN_LEN empties the bank, and the other closes if it is due. -/
theorem Chip.releaseBank_of_end (h : (c.fifo f).rd = (c.fifo f).draining.length) {d : Chip}
    (hd : d = c.setFifo f { c.fifo f with draining := [], rd := 0, mark := 0 }) :
    c.releaseBank f = if d.closeDue f then d.closeBank f else d := by
  subst hd
  rw [Chip.releaseBank, if_pos h, Chip.tryClose_of_empty]
  rw [Chip.fifo_setFifo_same]

/-- A flush with no record under way. -/
theorem Chip.flushFifo_of_idle (h : (c.fifo f).begun = none) : c.flushFifo f = c.setFifo f { c.fifo f with
    filling := [], draining := [], rd := 0, mark := 0, closeReq := false } := by
  simp only [Chip.flushFifo, h, Option.isSome_none, Bool.or_false]
  rfl

/-- A flush that cuts a record, whose rest goes to the discard sink. -/
theorem Chip.flushFifo_of_begun (h : (c.fifo f).begun ≠ none) : c.flushFifo f =
    (c.inc (Reg.TF_SINK_CNT f)).setFifo f { c.fifo f with
      filling := [], draining := [], rd := 0, mark := 0, closeReq := false, begun := none, sinking := true } := by
  simp only [Chip.flushFifo, Option.isSome_iff_ne_none.mpr h, Bool.or_true, if_true]

end

/-- Settles O15: a bank that closes, and the consumer's writes, each by what its FIFO holds. -/
theorem telemetryConsumerWritesAct : Obligations.TelemetryConsumerWritesAct := by
  unfold Obligations.TelemetryConsumerWritesAct
  refine ⟨fun c f hf => ⟨c.fifo_closeBank_same f, c.bit_rd_closeBank f hf, c.csn_closeBank f⟩, fun s f v x hf hx => ?_⟩
  subst hx
  refine ⟨exec_tffAdvance_taken hf v, fun ht => ?mark, fun ht => ?rewind, fun ht => ?release, fun ht => ?close,
    fun ht => ?flush⟩
  case mark =>
    rw [exec_tffMark_eq hf v]
    exact regCommand_trigger v _ ht
  case rewind =>
    rw [exec_tffRewind_eq hf v]
    exact regCommand_trigger v _ ht
  case release =>
    rw [exec_tffRelease_eq hf v]
    obtain ⟨hone, hzero⟩ := regCommand_trigger v (fun c => c.releaseBank f) ht
    refine ⟨fun hv h => ?_, fun hv h c hc => ?_, hzero⟩
    · rw [hone hv, Chip.releaseBank_of_before _ _ h]
    · rw [hone hv, Chip.releaseBank_of_end _ _ h hc]
  case close =>
    rw [exec_tffClose_taken hf v ht]
    refine ⟨fun hv hfill c hc => ?_, fun h => ?_⟩
    · have hx : c.fifo f = { s.chip.fifo f with closeReq := true } := by rw [hc, Chip.fifo_setFifo_same]
      have hgo : (v.getLsbD 0 && !(s.chip.fifo f).filling.isEmpty) = true := by simpa [hv] using hfill
      have hclose := c.tryClose_of_due f (by rwa [hx]) (.inl (by rw [hx]))
      rw [hx] at hclose
      rw [if_pos hgo, ← hc, hclose]
    · have hstay : (v.getLsbD 0 && !(s.chip.fifo f).filling.isEmpty) = false := by
        rcases h with h | h <;> rw [h]
        · rfl
        · exact Bool.and_false _
      rw [hstay]
      rfl
  case flush =>
    rw [exec_tffFlush_eq hf v]
    obtain ⟨hone, hzero⟩ := regCommand_trigger v (fun c => c.flushFifo f) ht
    refine ⟨fun hv h => ?_, fun hv h => ?_, hzero⟩
    · rw [hone hv, Chip.flushFifo_of_idle _ _ h]
    · rw [hone hv, Chip.flushFifo_of_begun _ _ h]

/-! ### A producer's record (R280, R281, R283, R284) -/

section
variable (producer seq : Nat) (body : List Byte)

/-- Octets rounded up to a multiple of 8. -/
theorem ceilDiv_eight (n : Nat) : n ≤ ceilDiv n 8 * 8 ∧ ceilDiv n 8 * 8 < n + 8 := by
  unfold ceilDiv
  omega

theorem length_leBytes (n : Nat) : ∀ x : Nat, (leBytes n x).length = n := by
  induction n with
  | zero => exact fun _ => rfl
  | succ n ih => exact fun x => congrArg Nat.succ (ih _)

theorem length_padTo (n : Nat) (l : List Byte) : (padTo n l).length = n := by simp [padTo]

theorem length_telemRecord : (telemRecord producer seq body).length = ceilDiv (8 + body.length) 8 * 8 := by
  have := ceilDiv_eight (8 + body.length)
  simp only [telemRecord, List.length_append, length_leBytes, length_padTo, List.length_cons, List.length_nil]
  omega

/-- A record that holds no padding: its header and its octets. -/
theorem telemRecord_of_whole (h : body.length % 8 = 0) : telemRecord producer seq body =
    leBytes 2 (8 + body.length) ++ [BitVec.ofNat 8 producer, 0] ++ leBytes 4 seq ++ body := by
  have hn : ceilDiv (8 + body.length) 8 * 8 = 8 + body.length := by
    unfold ceilDiv
    omega
  have hpad : padTo body.length body = body := by simp [padTo]
  simp only [telemRecord, hn, Nat.add_sub_cancel_left, hpad]

end

section
variable (c : Chip) (producer f : Nat)

/-- The sequence number of a producer's next record. -/
def Chip.nextSeq : Nat := (c.produced.getD (producer - 1) 0 + 1) % 2 ^ 32

/-- The part with a record of a producer counted. -/
def Chip.counted : Chip := { c with produced := c.produced.set (producer - 1) (c.nextSeq producer) }

/-- A record put, whole, at the end of the filling bank. -/
theorem Chip.fifo_putRecord_same (rec_ : List Byte) : (c.putRecord f rec_).fifo f = { c.fifo f with
    filling := (c.fifo f).filling ++ rec_, firstAt := if (c.fifo f).filling = [] then c.cycle else (c.fifo f).firstAt } := by
  simp only [Chip.putRecord, Chip.fifo_setFifo_same, List.isEmpty_iff]

section
variable (body : List Byte) (put : Chip → Nat → List Byte → Chip)

/-- What becomes of a record of a producer with a FIFO: it is put in the filling bank, or in one just opened, or lost; with the host
bridge or Lagoon off it goes nowhere. -/
def Chip.placeRecord (rec_ : List Byte) : Chip :=
  if !c.domainOn 2 || !c.domainOn 3 then c
  else if (c.fifo f).filling.length + (((c.fifo f).begun.getD []).length + rec_.length) ≤ 16384 then put c f rec_
  else if (c.fifo f).draining.isEmpty && (c.fifo f).begun.isNone then put (c.closeBank f) f rec_
  else c.loseRecord f

theorem Chip.startRecord_eq : c.startRecord producer body put = (c.fifoOf producer).elim (c.counted producer) fun f =>
    (c.counted producer).placeRecord f put (telemRecord producer (c.nextSeq producer) body) := by
  unfold Chip.startRecord
  extract_lets seq d
  split
  · next h =>
    rw [show c.fifoOf producer = none from h]
    rfl
  · next f h =>
    rw [show c.fifoOf producer = some f from h]
    rfl

theorem Chip.startRecord_of_nowhere (h : c.fifoOf producer = none ∨ c.domainOn 2 = false ∨ c.domainOn 3 = false) :
    c.startRecord producer body put = c.counted producer := by
  rw [Chip.startRecord_eq]
  cases hf : c.fifoOf producer with
  | none => rfl
  | some f =>
    have hoff : (!(c.counted producer).domainOn 2 || !(c.counted producer).domainOn 3) = true := by
      rw [Bool.or_eq_true, Bool.not_eq_true', Bool.not_eq_true']
      exact h.resolve_left (by rw [hf]; exact Option.some_ne_none f)
    exact if_pos hoff

variable {producer f}
variable (h2 : c.domainOn 2 = true) (h3 : c.domainOn 3 = true) (hf : c.fifoOf producer = some f) {rec_ : List Byte}
  (hrec : rec_ = telemRecord producer (c.nextSeq producer) body)
include h2 h3 hf hrec

theorem Chip.startRecord_of_some : c.startRecord producer body put =
    if (c.fifo f).filling.length + (((c.fifo f).begun.getD []).length + rec_.length) ≤ 16384 then put (c.counted producer) f rec_
    else if (c.fifo f).draining.isEmpty && (c.fifo f).begun.isNone then put ((c.counted producer).closeBank f) f rec_
    else (c.counted producer).loseRecord f := by
  have hon : (!(c.counted producer).domainOn 2 || !(c.counted producer).domainOn 3) = false := by
    rw [Bool.or_eq_false_iff, Bool.not_eq_false', Bool.not_eq_false']
    exact ⟨h2, h3⟩
  subst hrec
  rw [Chip.startRecord_eq, hf]
  exact if_neg (ne_true_of_eq_false hon)

theorem Chip.startRecord_of_fits
    (h : (c.fifo f).filling.length + (((c.fifo f).begun.getD []).length + rec_.length) ≤ 16384) :
    c.startRecord producer body put = put (c.counted producer) f rec_ := by
  rw [c.startRecord_of_some body put h2 h3 hf hrec, if_pos h]

variable (hfull : 16384 < (c.fifo f).filling.length + (((c.fifo f).begun.getD []).length + rec_.length))
include hfull

theorem Chip.startRecord_of_opened (hd : (c.fifo f).draining = []) (hb : (c.fifo f).begun = none) :
    c.startRecord producer body put = put ((c.counted producer).closeBank f) f rec_ := by
  rw [c.startRecord_of_some body put h2 h3 hf hrec, if_neg (Nat.not_le.mpr hfull), hd, hb]
  rfl

theorem Chip.startRecord_of_lost (h : (c.fifo f).draining ≠ [] ∨ (c.fifo f).begun ≠ none) :
    c.startRecord producer body put = (c.counted producer).loseRecord f := by
  rw [c.startRecord_of_some body put h2 h3 hf hrec, if_neg (Nat.not_le.mpr hfull)]
  refine if_neg ?_
  rw [Bool.and_eq_true, List.isEmpty_iff, Option.isNone_iff_eq_none]
  tauto

end

/-! ### Records begun and ended -/

section
variable {producer f}

theorem Chip.beginRecord_of_none (body : List Byte) (hf : c.fifoOf producer = none) :
    c.beginRecord producer body = c.counted producer := by
  unfold Chip.beginRecord
  rw [if_neg (by rw [hf]; exact Bool.false_ne_true)]
  exact c.startRecord_of_nowhere producer body _ (.inl hf)

theorem Chip.endRecord_of_none (hf : c.fifoOf producer = none) : c.endRecord producer = c := by
  simp only [Chip.endRecord, hf]

variable (hf : c.fifoOf producer = some f)
include hf

/-- A producer that is in a record begins no other. -/
theorem Chip.beginRecord_of_busy (body : List Byte) (h : (c.fifo f).begun ≠ none ∨ (c.fifo f).sinking = true) :
    c.beginRecord producer body = c := by
  unfold Chip.beginRecord
  refine if_pos ?_
  rw [hf, Option.any_some, Bool.or_eq_true, Option.isSome_iff_ne_none]
  exact h

theorem Chip.beginRecord_of_free (body : List Byte) (hb : (c.fifo f).begun = none) (hs : (c.fifo f).sinking = false) :
    c.beginRecord producer body =
      c.startRecord producer body fun c f rec_ => c.setFifo f { c.fifo f with begun := some rec_ } := by
  unfold Chip.beginRecord
  exact if_neg (by rw [hf, Option.any_some, hb, hs]; exact Bool.false_ne_true)

theorem Chip.endRecord_of_begun {l : List Byte} (h : (c.fifo f).begun = some l) : c.endRecord producer =
    ((c.setFifo f { c.fifo f with begun := none }).putRecord f l).tryClose f := by
  simp only [Chip.endRecord, hf, h]

/-- The end of a record that a flush cut leaves the discard sink. -/
theorem Chip.endRecord_of_cut (h : (c.fifo f).begun = none) :
    c.endRecord producer = c.setFifo f { c.fifo f with sinking := false } := by
  simp only [Chip.endRecord, hf, h]

end
end

/-! ### The commands -/

section
variable (s : State) {producer : Nat} (hlo : 1 ≤ producer) (hhi : producer ≤ 3)
include hlo hhi

/-- What a record of a producer that exists, or a part of one, makes of the part. -/
theorem exec_telemRecordProduce_eq {part : RecordPart} (hlen : partLength part ≤ 16376) :
    exec (.telemRecordProduce producer part) s = .next (s.onto (match part with
      | .whole body => s.chip.produce producer body
      | .begins body => s.chip.beginRecord producer body
      | .ends => s.chip.endRecord producer)) := by
  show execTelemRecordProduce producer part s = _
  rw [execTelemRecordProduce, decide_eq_true hlo, decide_eq_true hhi, decide_eq_true hlen]
  cases part <;> rfl

theorem exec_telemRecord_whole {body : List Byte} (hlen : body.length ≤ 16376) :
    exec (.telemRecordProduce producer (.whole body)) s = .next (s.onto
      (s.chip.startRecord producer body fun c f rec_ => (c.putRecord f rec_).tryClose f)) :=
  exec_telemRecordProduce_eq s hlo hhi (part := .whole body) hlen

theorem exec_telemRecord_begins {body : List Byte} (hlen : body.length ≤ 16376) :
    exec (.telemRecordProduce producer (.begins body)) s = .next (s.onto (s.chip.beginRecord producer body)) :=
  exec_telemRecordProduce_eq s hlo hhi (part := .begins body) hlen

theorem exec_telemRecord_ends :
    exec (.telemRecordProduce producer .ends) s = .next (s.onto (s.chip.endRecord producer)) :=
  exec_telemRecordProduce_eq s hlo hhi (part := .ends) (Nat.zero_le _)

end

/-- The clock run on to the time that a bank's first record may wait, AGE_MS (R281). -/
def Chip.agedBank (c : Chip) (f : Nat) : Chip := c.runToCycle ((c.fifo f).firstAt + 800000 * bits (c.lv (Reg.TF_CFG f)) 8 8)

section
variable (s : State) {f : Nat} (hf : f < 8)
include hf

theorem exec_telemAgeClose_of_empty (h : (s.chip.fifo f).filling = []) : exec (.telemAgeClose f) s = .next s := by
  show execTelemAgeClose f s = _
  rw [execTelemAgeClose, decide_eq_true hf, within_true, onChip_eq, h]
  rfl

theorem exec_telemAgeClose_of_filled (h : (s.chip.fifo f).filling ≠ []) : exec (.telemAgeClose f) s = .next (s.onto
    (if (s.chip.fifo f).draining = [] ∧ (s.chip.fifo f).begun = none then (s.chip.agedBank f).closeBank f
      else s.chip.agedBank f)) := by
  have hage : ∀ n, usCycles (1000 * n) = 800000 * n := fun n => by
    unfold usCycles
    omega
  have hexec : exec (.telemAgeClose f) s = .next (s.onto ((s.chip.agedBank f).tryClose f)) := by
    show execTelemAgeClose f s = _
    rw [execTelemAgeClose, decide_eq_true hf, within_true, onChip_eq, hage]
    exact congrArg (fun c => Host.Outcome.next (s.onto c)) (if_neg (by simpa using h))
  have hclock : (s.chip.fifo f).firstAt + 800000 * bits (s.chip.lv (Reg.TF_CFG f)) 8 8 ≤ (s.chip.agedBank f).cycle :=
    le_add_tsub
  have hclose := (s.chip.agedBank f).tryClose_of_due f h (.inr (by rw [hage]; exact hclock))
  exact hexec.trans (congrArg (fun c => Host.Outcome.next (s.onto c)) hclose)

end

/-! ### The banks never hold more than they can (R280, R283) -/

/-- A FIFO whose banks hold no more than 16 KiB, the place of a record under way among them. -/
def Fifo.Fits (x : Fifo) : Prop := x.filling.length + (x.begun.getD []).length ≤ 16384 ∧ x.draining.length ≤ 16384

/-- No bank of any FIFO holds more than it can. -/
def Chip.BanksFit (c : Chip) : Prop := ∀ f, (c.fifo f).Fits

section
variable {c : Chip} (h : c.BanksFit) {f : Nat}
include h

theorem Chip.banksFit_setFifo {x : Fifo} (hx : x.Fits) : (c.setFifo f x).BanksFit := by
  intro g
  by_cases hg : g = f
  · subst hg
    rwa [Chip.fifo_setFifo_same]
  · rw [Chip.fifo_setFifo_ne _ _ _ _ hg]
    exact h g

theorem Chip.banksFit_closeBank (hb : (c.fifo f).begun = none) : (c.closeBank f).BanksFit := by
  intro g
  by_cases hg : g = f
  · subst hg
    obtain ⟨hfill, -⟩ := h g
    rw [Chip.fifo_closeBank_same]
    simp only [Fifo.Fits, Fifo.closed, hb, Option.getD_none, List.length_nil] at hfill ⊢
    omega
  · rw [Chip.fifo_closeBank_ne _ _ hg]
    exact h g

theorem Chip.banksFit_tryClose : (c.tryClose f).BanksFit := by
  unfold Chip.tryClose
  split
  · next hdue =>
    simp only [Chip.closeDue, Bool.and_eq_true, Option.isNone_iff_eq_none] at hdue
    obtain ⟨-, ⟨-, hb⟩, -⟩ := hdue
    exact Chip.banksFit_closeBank h hb
  · exact h

theorem Chip.banksFit_loseRecord : (c.loseRecord f).BanksFit := by
  unfold Chip.loseRecord
  extract_lets d
  split
  · exact h
  · intro g
    rw [(Chip.sameButEvents_raise _ _ _ _).fifo]
    exact h g

/-- A record that fits put at the end of the filling bank. -/
theorem Chip.banksFit_putRecord {rec_ : List Byte}
    (hfits : (c.fifo f).filling.length + (((c.fifo f).begun.getD []).length + rec_.length) ≤ 16384) :
    (c.putRecord f rec_).BanksFit := by
  refine Chip.banksFit_setFifo h ⟨?_, (h f).2⟩
  change ((c.fifo f).filling ++ rec_).length + ((c.fifo f).begun.getD []).length ≤ 16384
  rw [List.length_append]
  omega

/-- A record that fits begun: it has its place in the filling bank. -/
theorem Chip.banksFit_begun {rec_ : List Byte}
    (hfits : (c.fifo f).filling.length + (((c.fifo f).begun.getD []).length + rec_.length) ≤ 16384) :
    (c.setFifo f { c.fifo f with begun := some rec_ }).BanksFit := by
  refine Chip.banksFit_setFifo h ⟨?_, (h f).2⟩
  change (c.fifo f).filling.length + rec_.length ≤ 16384
  omega

/-- A record of a producer placed: what puts one where it fits keeps the banks within what they can hold. -/
theorem Chip.banksFit_startRecord (producer : Nat) {body : List Byte} (hlen : body.length ≤ 16376)
    {put : Chip → Nat → List Byte → Chip}
    (hput : ∀ (d : Chip) (f : Nat) (rec_ : List Byte), d.BanksFit →
      (d.fifo f).filling.length + (((d.fifo f).begun.getD []).length + rec_.length) ≤ 16384 → (put d f rec_).BanksFit) :
    (c.startRecord producer body put).BanksFit := by
  rw [Chip.startRecord_eq]
  have hc : (c.counted producer).BanksFit := h
  cases c.fifoOf producer with
  | none => exact hc
  | some f =>
    rw [Option.elim_some]
    unfold Chip.placeRecord
    split
    · exact hc
    split
    · next hfits => exact hput _ _ _ hc hfits
    split
    · next hopen =>
      simp only [Bool.and_eq_true, Option.isNone_iff_eq_none] at hopen
      refine hput _ _ _ (Chip.banksFit_closeBank hc hopen.2) ?_
      rw [Chip.fifo_closeBank_same, length_telemRecord]
      simp only [Fifo.closed, hopen.2, Option.getD_none, List.length_nil, ceilDiv]
      omega
    · exact Chip.banksFit_loseRecord hc

theorem Chip.banksFit_beginRecord (producer : Nat) {body : List Byte} (hlen : body.length ≤ 16376) :
    (c.beginRecord producer body).BanksFit := by
  unfold Chip.beginRecord
  split
  · exact h
  · exact Chip.banksFit_startRecord h producer hlen fun _ _ _ hd hfits => Chip.banksFit_begun hd hfits

theorem Chip.banksFit_endRecord (producer : Nat) : (c.endRecord producer).BanksFit := by
  cases hf : c.fifoOf producer with
  | none =>
    rw [c.endRecord_of_none hf]
    exact h
  | some f =>
    cases hb : (c.fifo f).begun with
    | none =>
      rw [c.endRecord_of_cut hf hb]
      exact Chip.banksFit_setFifo h (h f)
    | some l =>
      obtain ⟨hfill, hdrain⟩ := h f
      rw [hb, Option.getD_some] at hfill
      rw [c.endRecord_of_begun hf hb]
      have hcut : (c.setFifo f { c.fifo f with begun := none }).BanksFit :=
        Chip.banksFit_setFifo h ⟨(Nat.le_add_right _ l.length).trans hfill, hdrain⟩
      refine Chip.banksFit_tryClose (Chip.banksFit_putRecord hcut ?_)
      rw [Chip.fifo_setFifo_same, Option.getD_none, List.length_nil, Nat.zero_add]
      exact hfill

end

theorem operands_of_next_telemRecordProduce {s t : State} {producer : Nat} {part : RecordPart}
    (h : exec (.telemRecordProduce producer part) s = .next t) :
    1 ≤ producer ∧ producer ≤ 3 ∧ partLength part ≤ 16376 := by
  change execTelemRecordProduce producer part s = .next t at h
  rw [execTelemRecordProduce, within_next] at h
  simpa only [Bool.and_eq_true, decide_eq_true_eq, and_assoc] using h.1

theorem banksFit_of_telemRecordProduce {s t : State} {producer : Nat} {part : RecordPart} (h : s.chip.BanksFit)
    (ht : exec (.telemRecordProduce producer part) s = .next t) : t.chip.BanksFit := by
  obtain ⟨hlo, hhi, hlen⟩ := operands_of_next_telemRecordProduce ht
  rw [exec_telemRecordProduce_eq s hlo hhi hlen] at ht
  obtain ⟨⟩ := ht
  cases part with
  | whole body =>
    exact Chip.banksFit_startRecord h producer hlen fun _ _ _ hd hfits =>
      Chip.banksFit_tryClose (Chip.banksFit_putRecord hd hfits)
  | begins body => exact Chip.banksFit_beginRecord h producer hlen
  | ends => exact Chip.banksFit_endRecord h producer

/-- Settles O16: a record by its FIFO and by what its banks hold, the banks' bound, and a bank that has waited. -/
theorem telemetryRecordsFillBanks : Obligations.TelemetryRecordsFillBanks := by
  unfold Obligations.TelemetryRecordsFillBanks
  refine ⟨fun s producer f seq body rec_ c x hlo hhi hlen hseq hc hrec => ?record, fun s t producer part h ht =>
    banksFit_of_telemRecordProduce h ht, fun s f x c hf hx hc => ?age⟩
  case record =>
    obtain rfl : seq = s.chip.nextSeq producer := hseq
    obtain rfl : c = s.chip.counted producer := hc
    rw [exec_telemRecord_whole s hlo hhi hlen, exec_telemRecord_begins s hlo hhi hlen, exec_telemRecord_ends s hlo hhi]
    refine ⟨fun h8 => hrec.trans (telemRecord_of_whole _ _ _ h8), fun h => ?_, fun h2 h3 hf hx => ?_, fun hf => ⟨?_, ?_⟩⟩
    · rw [s.chip.startRecord_of_nowhere producer body _ h]
    · subst hx
      refine ⟨fun hfits => ⟨Chip.fifo_putRecord_same _ f rec_, ?_, fun hb hs => ?_⟩,
        fun hfull => ⟨fun hd hb => ?_, fun h => ?_, fun hd hb hs => ?_, fun hd hb hs => ?_⟩, fun h => ?_, fun l hl => ?_,
        fun hb => ?_⟩
      · rw [s.chip.startRecord_of_fits body _ h2 h3 hf hrec hfits]
      · rw [s.chip.beginRecord_of_free hf body hb hs, s.chip.startRecord_of_fits body _ h2 h3 hf hrec hfits]
        rfl
      · rw [s.chip.startRecord_of_opened body _ h2 h3 hf hrec hfull hd hb]
      · rw [s.chip.startRecord_of_lost body _ h2 h3 hf hrec hfull h]
      · rw [s.chip.beginRecord_of_free hf body hb hs, s.chip.startRecord_of_opened body _ h2 h3 hf hrec hfull hd hb]
      · rw [s.chip.beginRecord_of_free hf body hb hs, s.chip.startRecord_of_lost body _ h2 h3 hf hrec hfull (.inl hd)]
      · rw [s.chip.beginRecord_of_busy hf body h, State.onto_self]
      · rw [s.chip.endRecord_of_begun hf hl]
      · rw [s.chip.endRecord_of_cut hf hb]
    · rw [s.chip.beginRecord_of_none body hf]
    · rw [s.chip.endRecord_of_none hf, State.onto_self]
  case age =>
    obtain rfl : c = s.chip.agedBank f := by rw [hc, hx, Chip.agedBank]
    subst hx
    exact ⟨exec_telemAgeClose_of_empty s hf, exec_telemAgeClose_of_filled s hf⟩

end Sys2Proof.Machine
end

section
/-! SUPPORT. AtomicOps on LPDDR5X (R257, R261, R396), and the accesses of the peer aperture and of the peer (R258, R262, R263,
R265). -/

namespace Sys2Proof.Machine

open Sys2Proof

/-! ### An access of BAR2 -/

section
variable {s : State} {off n : Nat} (f : Nat → List Host.Cell → Chip → List Host.Cell × Chip)

/-- An access that BAR2 holds, while the endpoint serves BAR2. -/
theorem onBar2_of_ready (hin : off + n ≤ Config.bar2Octets) (hr : s.chip.bar2Ready = true) :
    onBar2 off n f s = .next (s.ontoBoth (f (s.chip.spaceOf off) s.dram s.chip)) := by
  rw [onBar2, decide_eq_true hin, within_true, onBoth_eq]
  simp only [hr, if_true]
  rfl

end

/-! ### AtomicOps -/

section
variable (c : Chip) (d : List Host.Cell) (cls : Nat) (op : AtomicOp) (a w operand compare : Nat)

theorem Chip.atomic_of_unsupported (h : atomicSupported op w = false) :
    c.atomic d cls op a w operand compare = (d, c.emit .unsupported) := by simp [Chip.atomic, h]

theorem atomicSupported_of_width {op : AtomicOp} {w : Nat} (h : w = 32 ∨ w = 64 ∨ w = 128 ∧ op = .cas) :
    atomicSupported op w = true := by
  rcases h with rfl | rfl | ⟨rfl, rfl⟩ <;> rfl

/-- FetchAdd and Swap of 128 bits (log entry 27). -/
theorem atomicSupported_wide {op : AtomicOp} (h : op ≠ .cas) : atomicSupported op 128 = false := by
  cases op with
  | cas => exact absurd rfl h
  | fetchAdd => rfl
  | swap => rfl

variable (hs : atomicSupported op w = true)
include hs

theorem Chip.atomic_of_misaligned (h : a % (w / 8) ≠ 0) : c.atomic d cls op a w operand compare = (d, c) := by
  simp [Chip.atomic, hs, h]

variable (hal : a % (w / 8) = 0)
include hal

theorem Chip.atomic_of_aborted (h : c.readable a (w / 8) = false ∨ c.lockAt a ≠ none) :
    c.atomic d cls op a w operand compare = (d, c.emit .completerAbort) := by
  have habort : (!c.readable a (w / 8) || (c.lockAt a).isSome) = true := by
    rw [Bool.or_eq_true, Bool.not_eq_true', Option.isSome_iff_ne_none]
    exact h
  simp [Chip.atomic, hs, hal, habort]

/-- An AtomicOp of a target that can be read and is not locked: its line is read, its target written, and what stood there
answered. -/
theorem Chip.atomic_of_served (hr : c.readable a (w / 8) = true) (hl : c.lockAt a = none) {x : List Host.Cell × Chip}
    (hx : x = (c.noteRead 0 cls (a / 64 * 64) 64).writeTarget d a
      (leBytes (w / 8) (atomicResult op w (ofLE (c.fetch d a (w / 8))) operand compare))) :
    c.atomic d cls op a w operand compare =
      (x.1, x.2.emit (.readData (c.fetch d a (w / 8)) (c.poisoned 0 a (w / 8)))) := by
  subst hx
  simp [Chip.atomic, hs, hal, hr, hl]

end

/-- With no stored difference anywhere in LPDDR5X, no octet decodes as an error. -/
theorem Ecc.octet_clean {e : Ecc} (h : e.flips = []) (a : Nat) : e.octet a = 0 := by
  have hat : e.at (a / 8 * 8) = 0 := by
    rw [Ecc.at, h]
    rfl
  rw [Ecc.octet, hat]
  exact if_neg (by decide)

/-- With no stored difference anywhere in LPDDR5X, the target of an AtomicOp takes its octets and nothing else changes. -/
theorem Chip.writeTarget_clean {c : Chip} (h : c.eccDram.flips = []) (d : List Host.Cell) (a : Nat) (bs : List Byte) :
    c.writeTarget d a bs = (Memory.write d a bs, c) := by
  have hsame : c.rewritten 0 a bs.length = c := by simp [Chip.rewritten, Chip.ecc, Ecc.within, h]
  have hbs : (List.range bs.length).map (fun i => bs.getD i 0 ^^^ c.eccDram.octet (a + i)) = bs :=
    List.ext_getElem (by simp) fun i hi hi' => by simp [Ecc.octet_clean h, hi']
  simp only [Chip.writeTarget, hsame, hbs]

section
variable (s : State) (op : AtomicOp) {off w : Nat} (operand compare : Nat)

theorem exec_hostAtomicOp_bar0 (hin : off + w / 8 ≤ 0x2000000) (hd : s.chip.domainOn 2 = true) (hp : s.chip.power.perst = false) :
    exec (.hostAtomicOp op (.bar0 off) w operand compare) s = .next (s.onto (s.chip.emit .unsupported)) := by
  show execHostAtomicOp op (.bar0 off) w operand compare s = _
  simp only [execHostAtomicOp, decide_eq_true hin, within_true, onChip_eq, hd, hp]
  rfl

variable (hin : off + w / 8 ≤ Config.bar2Octets) (hr : s.chip.bar2Ready = true)
include hin hr

theorem exec_hostAtomicOp_bar2 : exec (.hostAtomicOp op (.bar2 off) w operand compare) s = .next (s.ontoBoth
    (if s.chip.spaceOf off < aperture then s.chip.atomic s.dram 5 op (s.chip.spaceOf off) w operand compare
      else (s.dram, if s.chip.peerUp then s.chip.emit (.forwardAtomic (s.chip.peerOffset (s.chip.spaceOf off)) op w operand compare)
        else s.chip.emit .completerAbort))) := by
  show execHostAtomicOp op (.bar2 off) w operand compare s = _
  rw [execHostAtomicOp, onBar2_of_ready _ hin hr]

theorem exec_hostAtomicOp_dram (ha : s.chip.spaceOf off < aperture) : exec (.hostAtomicOp op (.bar2 off) w operand compare) s =
    .next (s.ontoBoth (s.chip.atomic s.dram 5 op (s.chip.spaceOf off) w operand compare)) := by
  rw [exec_hostAtomicOp_bar2 s op operand compare hin hr, if_pos ha]

theorem exec_hostAtomicOp_peer (ha : aperture ≤ s.chip.spaceOf off) : exec (.hostAtomicOp op (.bar2 off) w operand compare) s =
    .next (s.onto (if s.chip.peerUp then
      s.chip.emit (.forwardAtomic (s.chip.peerOffset (s.chip.spaceOf off)) op w operand compare)
      else s.chip.emit .completerAbort)) := by
  rw [exec_hostAtomicOp_bar2 s op operand compare hin hr, if_neg (Nat.not_lt.mpr ha), State.ontoBoth_same_dram]

end

/-- Settles O18: an AtomicOp by its width, its alignment and its target, at BAR0, and at the peer aperture. -/
theorem atomicOpsReadModifyWrite : Obligations.AtomicOpsReadModifyWrite := by
  unfold Obligations.AtomicOpsReadModifyWrite
  refine ⟨fun s op off w operand compare a hw hin hr ha hlow => ?dram, fun s op off operand compare hop hin hr hlow => ?wide,
    fun s op off w operand compare => exec_hostAtomicOp_bar0 s op operand compare,
    fun s op off w operand compare hin hr hhigh => ?peer⟩
  case dram =>
    subst ha
    have hs := atomicSupported_of_width hw
    rw [exec_hostAtomicOp_dram s op operand compare hin hr hlow]
    refine ⟨fun hal hread hlock old new hold hnew => ?_, fun hal => ?_, fun hal h => ?_⟩
    · have hresult : new = atomicResult op w old operand compare := by
        rw [hnew]
        cases op <;> rfl
      subst hold hresult
      refine ⟨fun x hx => by rw [Chip.atomic_of_served _ _ _ _ _ _ _ _ hs hal hread hlock hx], fun hclean => ?_⟩
      rw [Chip.atomic_of_served _ _ _ _ _ _ _ _ hs hal hread hlock rfl, Chip.noteRead_clean _ _ _ _ hclean,
        Chip.writeTarget_clean hclean, Chip.fetch_clean _ _ _ _ hclean, Chip.poisoned_clean hclean]
    · rw [Chip.atomic_of_misaligned _ _ _ _ _ _ _ _ hs hal]
      rfl
    · rw [Chip.atomic_of_aborted _ _ _ _ _ _ _ _ hs hal h, State.ontoBoth_same_dram]
  case wide =>
    rw [exec_hostAtomicOp_dram s op operand compare hin hr hlow,
      Chip.atomic_of_unsupported _ _ _ _ _ _ _ _ (atomicSupported_wide hop), State.ontoBoth_same_dram]
  case peer =>
    rw [exec_hostAtomicOp_peer s op operand compare hin hr hhigh]
    exact ⟨fun hup => by rw [if_pos hup], fun hdown => by rw [if_neg (ne_true_of_eq_false hdown)]⟩

/-! ### The peer aperture (R258, R262, R263) -/

section
variable (c : Chip) (off a req : Nat) (bs : List Byte)

theorem Chip.forwardWrite_of_up (h : c.peerUp = true) : c.forwardWrite off a req bs = c.emit (.forward (c.peerOffset a) bs) :=
  if_pos h

theorem Chip.forwardWrite_of_down (h : c.peerUp = false) :
    c.forwardWrite off a req bs = c.writeFailed true off req (c.rd Reg.HB_EPOCH) 6 0 bs.length :=
  if_neg (ne_true_of_eq_false h)

end

section
variable (s : State) {off : Nat} (req : Nat) (hr : s.chip.bar2Ready = true) (ha : aperture ≤ s.chip.spaceOf off)
include hr ha

/-- A write of the peer aperture, whichever row it is. -/
theorem exec_write_peer {octets : List Byte} (hin : off + octets.length ≤ Config.bar2Octets) {i : Instr}
    (hi : i ∈ [Instr.peerWriteForward off octets req, .hostBar2Write off octets req]) :
    exec i s = .next (s.onto (s.chip.forwardWrite off (s.chip.spaceOf off) req octets)) := by
  simp only [List.mem_cons, List.not_mem_nil, or_false] at hi
  rcases hi with rfl | rfl
  · show execPeerWriteForward off octets req s = _
    rw [execPeerWriteForward, onBar2_of_ready _ hin hr, if_pos ha, State.ontoBoth_same_dram]
  · show execHostBar2Write off octets req s = _
    rw [execHostBar2Write, onBar2_of_ready _ hin hr, if_pos ha, State.ontoBoth_same_dram]

variable (atomic : Bool) (hin : off ≤ Config.bar2Octets)
include hin

theorem exec_peerAtomicOp_some (bs : List Byte) (poison : Bool) : exec (.peerAtomicOp off req atomic (some (bs, poison))) s =
    .next (s.onto (if s.chip.peerUp then s.chip.emit (.readData bs poison) else s.chip.emit .completerAbort)) := by
  show execPeerAtomicOp off req atomic (some (bs, poison)) s = _
  rw [execPeerAtomicOp, onBar2_of_ready _ hin hr, if_neg (Nat.not_lt.mpr ha), State.ontoBoth_same_dram]

theorem exec_peerAtomicOp_none :
    exec (.peerAtomicOp off req atomic none) s = .next (s.onto (s.chip.emit .completerAbort)) := by
  show execPeerAtomicOp off req atomic none s = _
  rw [execPeerAtomicOp, onBar2_of_ready _ hin hr, if_neg (Nat.not_lt.mpr ha), State.ontoBoth_same_dram]

theorem exec_hostPeerTimeout_peer : exec (.hostPeerTimeout off req atomic) s = .next (s.onto
    (((s.chip.emit .completerAbort).setEvt Reg.HB_EVT 2).raise 4 0x0502
      (it8 (s.chip.spaceOf off + 2 ^ 63) ++ it4 req ++ it4 atomic.toNat))) := by
  show execHostPeerTimeout off req atomic s = _
  rw [execHostPeerTimeout, onBar2_of_ready _ hin hr, if_neg (Nat.not_lt.mpr ha), State.ontoBoth_same_dram]

end

theorem exec_peerWriteFailureMsg_eq (s : State) (off req epoch cause len : Nat) :
    exec (.peerWriteFailureMsg off req epoch cause len) s = .next (s.onto
      (if s.chip.domainOn 2 then s.chip.writeFailed true off req epoch 5 cause len else s.chip)) := rfl

/-! ### Accesses of the peer (R258, R262, R265) -/

/-- A failed write of the peer is reported to it. -/
def Chip.peerFailed (cause at_ _n : Nat) (c : Chip) : Chip := c.emit (.peerFailure at_ cause)

section
variable (s : State) {off : Nat} (len : Nat) (hoff : off < aperture)
include hoff

theorem exec_forwardedAccessServe_of_down (x : Forwarded) (h : s.chip.peerUp = false) :
    exec (.forwardedAccessServe off x len) s = .next s := by
  show execForwardedAccessServe off x len s = _
  rw [execForwardedAccessServe, decide_eq_true hoff, within_true, onBoth_eq, h]
  rfl

variable (h : s.chip.peerUp = true)
include h

theorem exec_forwardedAccessServe_read : exec (.forwardedAccessServe off .read len) s =
    .next (s.onto (s.chip.serveRead s.dram 6 off len)) := by
  show execForwardedAccessServe off .read len s = _
  rw [execForwardedAccessServe, decide_eq_true hoff, within_true, onBoth_eq, h]
  rfl

theorem exec_forwardedAccessServe_write (octets : List Byte) : exec (.forwardedAccessServe off (.write octets) len) s =
    .next (s.ontoBoth (s.chip.applyWrite s.dram 6 off octets Chip.peerFailed)) := by
  show execForwardedAccessServe off (.write octets) len s = _
  rw [execForwardedAccessServe, decide_eq_true hoff, within_true, onBoth_eq, h]
  rfl

theorem exec_forwardedAccessServe_atomic (op : AtomicOp) (w operand compare : Nat) :
    exec (.forwardedAccessServe off (.atomic op w operand compare) len) s =
      .next (s.ontoBoth (s.chip.atomic s.dram 6 op off w operand compare)) := by
  show execForwardedAccessServe off (.atomic op w operand compare) len s = _
  rw [execForwardedAccessServe, decide_eq_true hoff, within_true, onBoth_eq, h]
  rfl

end

/-- Settles O19: accesses of the peer aperture by whether the peer can be reached, and the peer's as the host's. -/
theorem peerAccessesAreServed : Obligations.PeerAccessesAreServed := by
  unfold Obligations.PeerAccessesAreServed
  refine ⟨fun s off octets req hin hr ha i hi => ?write, fun s off req atomic hin hr ha => ?completion,
    fun s off req epoch cause len => ?failure, fun s off len hoff =>
      ⟨fun x => exec_forwardedAccessServe_of_down s len hoff x, fun hup => ?served⟩⟩
  case write =>
    rw [exec_write_peer s req hr ha hin hi]
    exact ⟨fun hup => by rw [Chip.forwardWrite_of_up _ _ _ _ _ hup],
      fun hdown => by rw [Chip.forwardWrite_of_down _ _ _ _ _ hdown]⟩
  case completion =>
    have hnone := exec_peerAtomicOp_none s req hr ha atomic hin
    refine ⟨fun bs poison hup => ?_, fun x hdown => ?_, hnone, exec_hostPeerTimeout_peer s req hr ha atomic hin⟩
    · rw [exec_peerAtomicOp_some s req hr ha atomic hin, if_pos hup]
    · cases x with
      | none => exact hnone
      | some e => rw [exec_peerAtomicOp_some s req hr ha atomic hin, if_neg (ne_true_of_eq_false hdown)]
  case failure =>
    rw [exec_peerWriteFailureMsg_eq]
    exact ⟨fun hon => by rw [if_pos hon], fun hoff => by rw [if_neg (ne_true_of_eq_false hoff), State.onto_self]⟩
  case served =>
    rw [exec_forwardedAccessServe_read s len hoff hup]
    refine ⟨fun hread => ?_, fun hread => ?_, fun octets _ hon hm => ?_, fun octets _ hoff4 => ?_,
      exec_forwardedAccessServe_atomic s len hoff hup⟩
    · rw [Chip.serveRead_of_readable hread]
    · rw [Chip.serveRead_of_not_readable hread]
    · rw [exec_forwardedAccessServe_write s len hoff hup, Chip.applyWrite_of_free _ _ _ _ _ _ hon hm]
    · rw [exec_forwardedAccessServe_write s len hoff hup, Chip.applyWrite_of_off _ _ _ _ _ _ hoff4,
        State.ontoBoth_same_dram, Chip.peerFailed]

end Sys2Proof.Machine
end

section
/-! SUPPORT. Posted writes that fail (R263, R264), and what the read of a stored word finds (R394, R395): the count, the latch, the
word, and what the posting of an event leaves of Lagoon's codes. -/

namespace Sys2Proof.Machine

open Sys2Proof

/-! ### Counts -/

/-- A counter of 32 bits counts on, and stays at its end. -/
theorem Chip.rd_inc_eq (c : Chip) (off : Nat) :
    (c.inc off).rd off = if c.rd off = 0xFFFFFFFF then 0xFFFFFFFF else c.rd off + 1 := by
  have := c.rd_lt off
  rw [Chip.rd_inc_same, sat32]
  split <;> split <;> omega

theorem Chip.rd_inc_ne (c : Chip) {off off' : Nat} (h : off' ≠ off) : (c.inc off).rd off' = c.rd off' := c.rd_wr_ne _ _ _ h

/-! ### Posted writes that fail -/

section
variable (c : Chip) (bar2 : Bool) (off req epoch cause peerCause : Nat)

/-- The latch of a failed write, which takes one while it is armed (R264). -/
def Chip.latchFailure : Chip :=
  if bit (c.rd Reg.HB_WFAIL_ADDR_HI) 31 then c
  else (((c.wr Reg.HB_WFAIL_ADDR_LO (off % 2 ^ 32)).wr Reg.HB_WFAIL_ADDR_HI
      (off / 2 ^ 32 % 8 + bar2.toNat * 2 ^ 30 + 2 ^ 31)).wr Reg.HB_WFAIL_REQ
      (req % 65536 + cause * 65536 + peerCause * 2 ^ 20)).wr Reg.HB_WFAIL_EPOCH epoch

/-- The part with a failed write counted and latched, before the event that tells it. -/
def Chip.failureNoted : Chip := (c.inc Reg.HB_WFAIL_CNT).latchFailure bar2 off req epoch cause peerCause

/-- A register below the rings that is not HB_EVT reads after a failed write as it does once the write is noted. -/
theorem Chip.rd_writeFailed (len : Nat) {r : Nat} (hr : r < 0xE000) (hne : r ≠ Reg.HB_EVT) :
    (c.writeFailed bar2 off req epoch cause peerCause len).rd r = (c.failureNoted bar2 off req epoch cause peerCause).rd r :=
  ((Chip.sameButEvents_raise _ _ _ _).rd_power hr).trans (Chip.rd_setEvt_ne _ _ _ _ hne)

theorem Chip.bit_writeFailed (len : Nat) : bit ((c.writeFailed bar2 off req epoch cause peerCause len).rd Reg.HB_EVT) 0 = true :=
  Chip.bit_rd_told _ _ _ _ _ _ (by decide) (by decide) (by decide)

theorem Chip.rd_failureNoted_cnt : (c.failureNoted bar2 off req epoch cause peerCause).rd Reg.HB_WFAIL_CNT =
    (c.inc Reg.HB_WFAIL_CNT).rd Reg.HB_WFAIL_CNT := by
  unfold Chip.failureNoted Chip.latchFailure
  split
  · rfl
  · rw [Chip.rd_wr_ne _ _ _ _ (by decide), Chip.rd_wr_ne _ _ _ _ (by decide), Chip.rd_wr_ne _ _ _ _ (by decide),
      Chip.rd_wr_ne _ _ _ _ (by decide)]

/-- A latch that holds another write keeps it. -/
theorem Chip.failureNoted_of_held (h : bit (c.rd Reg.HB_WFAIL_ADDR_HI) 31 = true) :
    c.failureNoted bar2 off req epoch cause peerCause = c.inc Reg.HB_WFAIL_CNT :=
  if_pos (by rwa [Chip.rd_inc_ne _ (by decide)])

/-- An armed latch takes the address, the requester, the causes and the epoch. -/
theorem Chip.failureNoted_of_armed (h : bit (c.rd Reg.HB_WFAIL_ADDR_HI) 31 = false) (hreq : req < 65536) (hcause : cause < 16)
    (hpeer : peerCause < 16) (hepoch : epoch < 2 ^ 32) (hoff : off < 2 ^ 35) {d : Chip}
    (hd : d = c.failureNoted bar2 off req epoch cause peerCause) :
    d.rd Reg.HB_WFAIL_ADDR_LO = off % 2 ^ 32 ∧
    d.rd Reg.HB_WFAIL_ADDR_HI = off / 2 ^ 32 + bar2.toNat * 2 ^ 30 + 2 ^ 31 ∧
    d.rd Reg.HB_WFAIL_REQ = req + cause * 65536 + peerCause * 2 ^ 20 ∧
    d.rd Reg.HB_WFAIL_EPOCH = epoch := by
  have harmed : ¬ bit ((c.inc Reg.HB_WFAIL_CNT).rd Reg.HB_WFAIL_ADDR_HI) 31 = true := by
    rw [Chip.rd_inc_ne _ (by decide), h]
    exact Bool.false_ne_true
  have hbar := bar2.toNat_le
  subst hd
  rw [Chip.failureNoted, Chip.latchFailure, if_neg harmed]
  refine ⟨?_, ?_, ?_, ?_⟩
  · rw [Chip.rd_wr_ne _ _ _ _ (by decide), Chip.rd_wr_ne _ _ _ _ (by decide), Chip.rd_wr_ne _ _ _ _ (by decide),
      Chip.rd_wr_same, Nat.mod_mod]
  · rw [Chip.rd_wr_ne _ _ _ _ (by decide), Chip.rd_wr_ne _ _ _ _ (by decide), Chip.rd_wr_same]
    omega
  · rw [Chip.rd_wr_ne _ _ _ _ (by decide), Chip.rd_wr_same]
    omega
  · rw [Chip.rd_wr_same, Nat.mod_eq_of_lt hepoch]

end

/-! ### Codes of stored words -/

section
variable (e : Ecc) {w x : Nat} (v : BitVec 64)

theorem Ecc.at_put_same : (e.put w v).at w = v := Store.get_set_same _ _ _ _

theorem Ecc.at_put_ne (h : x ≠ w) : (e.put w v).at x = e.at x := Store.get_set_ne _ _ _ _ _ h

theorem Ecc.at_eq_of_flips {e f : Ecc} (h : e.flips = f.flips) (x : Nat) : e.at x = f.at x := by rw [Ecc.at, h, Ecc.at]

/-- A word with an error is one of those that a range about it meets. -/
theorem Ecc.mem_within {a n : Nat} (h : e.at w ≠ 0) (hlo : a ≤ w) (hhi : w + 8 ≤ a + n) : w ∈ e.within a n := by
  obtain ⟨f, hf, hw⟩ : ∃ f ∈ e.flips, f.1 = w := by
    by_contra hnone
    exact h (Store.get_of_ne _ _ _ fun f hf hw => hnone ⟨f, hf, hw⟩)
  exact List.mem_map.mpr ⟨f, List.mem_filter.mpr ⟨hf, by rw [Bool.and_eq_true, decide_eq_true_eq, decide_eq_true_eq]; omega⟩, hw⟩

end

section
variable (c : Chip)

theorem Chip.ecc_setEcc (m : Nat) (e : Ecc) : (c.setEcc m e).ecc m = e := by
  unfold Chip.setEcc Chip.ecc
  split <;> rfl

theorem Chip.rd_setEcc (m : Nat) (e : Ecc) (off : Nat) : (c.setEcc m e).rd off = c.rd off := by
  unfold Chip.setEcc
  split <;> rfl

theorem Chip.ecc_wr (off v m : Nat) : (c.wr off v).ecc m = c.ecc m := rfl

theorem Chip.poisoned_of_doubleBit {m w a n : Nat} (h : (c.ecc m).at w ≠ 0) (hd : doubleBit ((c.ecc m).at w) = true)
    (hlo : a ≤ w) (hhi : w + 8 ≤ a + n) : c.poisoned m a n = true :=
  List.any_eq_true.mpr ⟨w, (c.ecc m).mem_within h hlo hhi, hd⟩

/-- Whole words rewritten leave every word below them as it was. -/
theorem Chip.at_rewritten_below {m a n x : Nat} (h : x < a) : ((c.rewritten m a n).ecc m).at x = (c.ecc m).at x :=
  List.foldlRecOn _ _ (motive := fun d : Chip => (d.ecc m).at x = (c.ecc m).at x) rfl fun d hd w hw => by
    have hle : a ≤ w ∧ w + 8 ≤ a + n := by simpa using (List.mem_filter.mp hw).2
    rw [Chip.ecc_setEcc, Ecc.at_put_ne _ _ (by omega), hd]

/-! ### What the posting of an event leaves of Lagoon's codes -/

variable {x : Nat} (hx : x < lagoonRings)

theorem Chip.eccLagoon_msix (v : Nat) : (c.msix v).eccLagoon = c.eccLagoon := by
  unfold Chip.msix
  split
  · split <;> rfl
  · rfl

include hx

/-- An entry stored in the window gives its words new codes, and leaves those of the words outside the window. -/
theorem Chip.at_writeEvent (r code src flags : Nat) (items : List Byte) :
    (c.writeEvent r code src flags items).eccLagoon.at x = c.eccLagoon.at x := by
  unfold Chip.writeEvent Chip.storeEntry
  dsimp only
  split
  · rfl
  · exact c.at_rewritten_below (m := 1) (by omega)

theorem Chip.at_post (r vec code src : Nat) (items : List Byte) :
    (c.post r vec code src items).eccLagoon.at x = c.eccLagoon.at x := by
  unfold Chip.post
  split
  · rfl
  split
  · rw [Chip.eccLagoon_msix, Chip.at_writeEvent _ hx]
  split
  · rfl
  · rw [Chip.eccLagoon_msix]
    exact c.at_writeEvent hx _ _ _ _ _

theorem Chip.at_raise (src code : Nat) (items : List Byte) : (c.raise src code items).eccLagoon.at x = c.eccLagoon.at x := by
  unfold Chip.raise Chip.gatherPost
  split
  · unfold Chip.postEvent
    dsimp only
    split
    · rfl
    · exact c.at_post hx _ _ _ _ _
  · rfl

end

/-! ### What the read of a word finds -/

section
variable (c : Chip) {m w : Nat} (cls : Nat) (h : (c.ecc m).at w ≠ 0)

/-- Where the first double-bit error since the latch was armed stands. -/
def Chip.latchUe (m cls w : Nat) : Chip :=
  if bit (c.rd (Reg.ECC_UE_ADDR_HI m)) 31 then c
  else (c.wr (Reg.ECC_UE_ADDR_LO m) (w % 2 ^ 32)).wr (Reg.ECC_UE_ADDR_HI m) (w / 2 ^ 32 % 8 + cls * 256 + 2 ^ 31)

/-- The part with a double-bit error counted and latched. -/
def Chip.ueNoted (m cls w : Nat) : Chip := ((c.inc (Reg.ECC_UE_CNT m)).latchUe m cls w).setEvt (Reg.ECC_EVT m) 1

theorem Chip.rd_latchUe {off : Nat} (hlo : off ≠ Reg.ECC_UE_ADDR_LO m) (hhi : off ≠ Reg.ECC_UE_ADDR_HI m) :
    (c.latchUe m cls w).rd off = c.rd off := by
  unfold Chip.latchUe
  split
  · rfl
  · rw [Chip.rd_wr_ne _ _ _ _ hhi, Chip.rd_wr_ne _ _ _ _ hlo]

theorem Chip.rd_ueNoted_cnt : (c.ueNoted m cls w).rd (Reg.ECC_UE_CNT m) = (c.inc (Reg.ECC_UE_CNT m)).rd (Reg.ECC_UE_CNT m) := by
  rw [Chip.ueNoted, Chip.rd_setEvt_ne _ _ _ _ (by unfold Reg.ECC_UE_CNT Reg.ECC_EVT; omega),
    Chip.rd_latchUe _ _ (by unfold Reg.ECC_UE_CNT Reg.ECC_UE_ADDR_LO; omega)
      (by unfold Reg.ECC_UE_CNT Reg.ECC_UE_ADDR_HI; omega)]

include h

/-- A single-bit error is counted and put right. -/
theorem Chip.noteWord_of_single (hs : doubleBit ((c.ecc m).at w) = false) : ∃ lo hi, c.noteWord m cls w =
    ((((c.inc (Reg.ECC_CE_CNT m)).setEcc m { (c.ecc m).put w 0 with ceHere := (c.ecc m).ceHere + 1 }).wr
      (Reg.ECC_CE_ADDR_LO m) lo).wr (Reg.ECC_CE_ADDR_HI m) hi) :=
  ⟨_, _, by rw [Chip.noteWord, if_neg h, hs]; rfl⟩

/-- What a single-bit error leaves: its count, the word put right, and every other word. -/
theorem Chip.noteWord_single_parts (hs : doubleBit ((c.ecc m).at w) = false) :
    (c.noteWord m cls w).rd (Reg.ECC_CE_CNT m) = (c.inc (Reg.ECC_CE_CNT m)).rd (Reg.ECC_CE_CNT m) ∧
    ∀ x, ((c.noteWord m cls w).ecc m).at x = ((c.ecc m).put w 0).at x := by
  obtain ⟨lo, hi, hnote⟩ := c.noteWord_of_single cls h hs
  rw [hnote]
  refine ⟨?_, fun x => ?_⟩
  · rw [Chip.rd_wr_ne _ _ _ _ (by unfold Reg.ECC_CE_CNT Reg.ECC_CE_ADDR_HI; omega),
      Chip.rd_wr_ne _ _ _ _ (by unfold Reg.ECC_CE_CNT Reg.ECC_CE_ADDR_LO; omega), Chip.rd_setEcc]
  · rw [Chip.ecc_wr, Chip.ecc_wr, Chip.ecc_setEcc]
    rfl

/-- A double-bit error is counted and latched, with its event or without. -/
theorem Chip.noteWord_of_double (hd : doubleBit ((c.ecc m).at w) = true) : ∃ e : Ecc, e.flips = (c.ecc m).flips ∧
    (c.noteWord m cls w = (c.ueNoted m cls w).setEcc m e ∨
      ∃ items, c.noteWord m cls w = ((c.ueNoted m cls w).setEcc m e).raise 6 0x0701 items) := by
  unfold Chip.noteWord
  extract_lets e₀ corrected c₁ c₂ c₃ c₄ e₁
  rw [if_neg h, if_neg (by rw [hd]; decide)]
  split
  · exact ⟨e₁, rfl, .inl rfl⟩
  · exact ⟨{ e₁ with raised := true, lastRaise := c₄.cycle, ueCount := 0 }, rfl, .inr ⟨_, rfl⟩⟩

/-- What a double-bit error leaves: its count, its event, and the words, but for those of the window of the rings, where its event
may be stored. -/
theorem Chip.noteWord_double_parts (hm : m < 2) (hd : doubleBit ((c.ecc m).at w) = true) :
    (c.noteWord m cls w).rd (Reg.ECC_UE_CNT m) = (c.inc (Reg.ECC_UE_CNT m)).rd (Reg.ECC_UE_CNT m) ∧
    bit ((c.noteWord m cls w).rd (Reg.ECC_EVT m)) 0 = true ∧
    ∀ x, (m = 0 ∨ x < lagoonRings) → ((c.noteWord m cls w).ecc m).at x = (c.ecc m).at x := by
  obtain ⟨e, he, hnote⟩ := c.noteWord_of_double cls h hd
  obtain ⟨d, hd'⟩ : ∃ d, d = (c.ueNoted m cls w).setEcc m e := ⟨_, rfl⟩
  have hcnt : d.rd (Reg.ECC_UE_CNT m) = (c.inc (Reg.ECC_UE_CNT m)).rd (Reg.ECC_UE_CNT m) := by
    rw [hd', Chip.rd_setEcc, Chip.rd_ueNoted_cnt]
  have hevt : bit (d.rd (Reg.ECC_EVT m)) 0 = true := by
    rw [hd', Chip.rd_setEcc]
    exact Chip.bit_rd_setEvt _ _ _ _ (by decide) (by decide)
  have hat : ∀ x, (d.ecc m).at x = (c.ecc m).at x := fun x => by
    rw [hd', Chip.ecc_setEcc]
    exact Ecc.at_eq_of_flips he x
  rw [← hd'] at hnote
  rcases hnote with hnote | ⟨items, hnote⟩ <;> rw [hnote]
  · exact ⟨hcnt, hevt, fun x _ => hat x⟩
  · have hsame := d.sameButEvents_raise 6 0x0701 items
    refine ⟨(hsame.rd_power (by unfold Reg.ECC_UE_CNT; omega)).trans hcnt, ?_, fun x hx => Eq.trans ?_ (hat x)⟩
    · rw [hsame.rd_power (by unfold Reg.ECC_EVT; omega)]
      exact hevt
    · obtain rfl | rfl : m = 0 ∨ m = 1 := by omega
      · rw [hsame.1]
        rfl
      · exact d.at_raise (hx.resolve_left (by decide)) _ _ _

end

/-- Settles O20: a failed write by its latch, and a word by the error that it holds. -/
theorem failuresAndErrorsAreCountedAndLatched : Obligations.FailuresAndErrorsAreCountedAndLatched := by
  unfold Obligations.FailuresAndErrorsAreCountedAndLatched
  refine ⟨fun c bar2 off req epoch cause peerCause len hreq hcause hpeer hepoch hoff => ?failure,
    fun c m cls w hm h => ⟨fun hs => ?single, fun hd => ?double, fun x hne hx => ?others⟩⟩
  case failure =>
    have hrd := fun (r : Nat) => c.rd_writeFailed bar2 off req epoch cause peerCause len (r := r)
    rw [hrd Reg.HB_WFAIL_CNT (by decide) (by decide), hrd Reg.HB_WFAIL_ADDR_LO (by decide) (by decide),
      hrd Reg.HB_WFAIL_ADDR_HI (by decide) (by decide), hrd Reg.HB_WFAIL_REQ (by decide) (by decide),
      hrd Reg.HB_WFAIL_EPOCH (by decide) (by decide), Chip.rd_failureNoted_cnt, Chip.rd_inc_eq]
    refine ⟨rfl, c.bit_writeFailed bar2 off req epoch cause peerCause len, fun hheld => ?_, fun harmed =>
      c.failureNoted_of_armed bar2 off req epoch cause peerCause harmed hreq hcause hpeer hepoch hoff rfl⟩
    rw [c.failureNoted_of_held _ _ _ _ _ _ hheld, Chip.rd_inc_ne _ (by decide), Chip.rd_inc_ne _ (by decide)]
    exact ⟨rfl, rfl⟩
  case single =>
    obtain ⟨hcnt, hat⟩ := c.noteWord_single_parts cls h hs
    rw [hat, Ecc.at_put_same, hcnt, Chip.rd_inc_eq]
    exact ⟨rfl, rfl⟩
  case double =>
    obtain ⟨hcnt, hevt, hat⟩ := c.noteWord_double_parts cls h hm hd
    rw [hcnt, Chip.rd_inc_eq]
    exact ⟨hat w, hevt, rfl, fun a n hlo hhi => c.poisoned_of_doubleBit h hd hlo hhi⟩
  case others =>
    cases hs : doubleBit ((c.ecc m).at w) with
    | false => rw [(c.noteWord_single_parts cls h hs).2, Ecc.at_put_ne _ _ hne]
    | true =>
      refine (c.noteWord_double_parts cls h hm hs).2.2 x ?_
      rw [hs] at hx
      simpa using hx

end Sys2Proof.Machine
end

section
/-! SUPPORT. What every command answers (R5, R296): a next state with the queue as it found it, and only for operands that name
nothing of the part a stop. So no step refuses, and no well-formed command stops. -/

namespace Sys2Proof.Machine

open Sys2Proof

/-- An outcome that is a next state with the queue as it was, or, for operands that name nothing, a stop. -/
def Completes (named : Bool) (s : State) (r : Host.Outcome State Fault Refusal) : Prop :=
  (∃ t, r = .next t ∧ t.pending = s.pending) ∨ named = false ∧ r = .fault .outsideConditions

section
variable {named : Bool} {s : State} {r : Host.Outcome State Fault Refusal}

theorem completes_next {t : State} (h : t.pending = s.pending) : Completes named s (.next t) := .inl ⟨t, rfl, h⟩

theorem Completes.pending {t : State} (h : Completes named s r) (ht : r = .next t) : t.pending = s.pending := by
  obtain ⟨u, hu, hp⟩ | ⟨-, hf⟩ := h
  · cases hu.symm.trans ht
    exact hp
  · cases hf.symm.trans ht

theorem Completes.next_of_named (h : Completes true s r) : ∃ t, r = .next t ∧ t.pending = s.pending :=
  h.resolve_right fun ⟨hn, _⟩ => Bool.noConfusion hn

/-- Operands that name something, with what is then asked of them. -/
theorem completes_within {ok : Bool} (hok : named = true → ok = true) (h : Completes named s r) :
    Completes named s (within ok r) := by
  cases ok with
  | true => exact h
  | false => exact .inr ⟨Bool.eq_false_iff.mpr fun hn => Bool.noConfusion (hok hn), rfl⟩

theorem completes_ite {p : Prop} [Decidable p] {q : Host.Outcome State Fault Refusal} (hq : Completes named s q)
    (hr : Completes named s r) : Completes named s (if p then q else r) := by split <;> assumption

theorem Completes.trans {t : State} (hp : t.pending = s.pending) (h : Completes named t r) : Completes named s r := by
  unfold Completes at *
  rwa [← hp]

end

/-! ### REGISTER_WRITE (R462, R466) -/

/-- How often the block at a base of R465 stands. -/
def copiesAt (base : Nat) : Nat := ((blocks.find? fun b => b.base == base).map Block.count).getD 0

/-- An offset in a block lies in one of the copies of a block of R465, by its place. -/
theorem blockAt_parts {off i : Nat} {b : Block} (h : blockAt off = some (b, i)) :
    b ∈ blocks ∧ i = (off - b.base) / b.stride ∧ i < copiesAt b.base := by
  have counts : ∀ b ∈ blocks, b.count = copiesAt b.base := by decide
  unfold blockAt at h
  obtain ⟨b', hf, he⟩ := Option.map_eq_some_iff.mp h
  cases he
  have hmem := List.mem_of_find?_eq_some hf
  have hin := List.find?_some hf
  simp only [Bool.and_eq_true, decide_eq_true_eq] at hin
  refine ⟨hmem, rfl, ?_⟩
  rw [← counts b hmem]
  exact Nat.div_lt_of_lt_mul (by omega)

/-- A meaning, where there is one, that completes. -/
def AllComplete (o : Option (State → Host.Outcome State Fault Refusal)) : Prop :=
  ∀ f, o = some f → ∀ s, Completes true s (f s)

theorem allComplete_none : AllComplete none := by rintro f ⟨⟩

theorem allComplete_some {f : State → Host.Outcome State Fault Refusal} (h : ∀ s, Completes true s (f s)) :
    AllComplete (some f) := by
  rintro g ⟨⟩
  exact h

theorem allComplete_ite {p : Prop} [Decidable p] {a b : Option (State → Host.Outcome State Fault Refusal)}
    (ha : AllComplete a) (hb : AllComplete b) : AllComplete (if p then a else b) := by split <;> assumption

theorem allComplete_regCommand (off : Nat) (f : Chip → Chip) : AllComplete (some (regCommand off f)) :=
  allComplete_some fun _ => completes_next rfl

/-- A register command, for an index that names a resource. -/
theorem allComplete_within {i n : Nat} (h : i < n) (off : Nat) (f : Chip → Chip) :
    AllComplete (some fun s => within (i < n) (regCommand off f s)) :=
  allComplete_some fun _ => completes_within (fun _ => decide_eq_true h) (completes_next rfl)

theorem completes_hbEpochWrite {named : Bool} (v : Word) {be : Nat} (s : State) (h : named = true → be < 16) :
    Completes named s (execHbEpochWrite v be s) :=
  completes_within (fun hn => decide_eq_true (h hn)) (completes_ite (completes_next rfl) (completes_next rfl))

theorem completes_ckxDataWrite {named : Bool} {x : Nat} (hi : Bool) (v : Word) (be : Nat) (s : State)
    (h : named = true → x < 16) : Completes named s (execCkxDataWrite x hi v be s) :=
  completes_within (fun hn => decide_eq_true (h hn)) (completes_ite (completes_next rfl) (completes_next rfl))

/-- The write of a register that does more than its access code says completes: the index that it names is one of its block's. -/
theorem allComplete_ownWrite (c : Chip) {base i off be : Nat} (l v : Nat) (w : Word) (hi : i < copiesAt base) (hbe : be < 16)
    (hv : base = 0x200000 → (off - 0x200000) / 16 = i) : AllComplete (ownWrite c base i l off v be w) := by
  have noRow := allComplete_none
  have plain := allComplete_regCommand
  unfold ownWrite
  split
  -- a block with one such register, or one of a channel of events
  case h_1 | h_2 | h_7 | h_8 | h_9 | h_14 | h_15 | h_19 => exact allComplete_ite (plain _ _) noRow
  -- the lanes, the memories and the vectors
  case h_6 | h_17 => exact allComplete_ite (allComplete_within hi _ _) noRow
  case h_21 =>
    exact allComplete_ite (allComplete_within (show _ < 256 by rw [hv rfl]; exact hi) _ _) noRow
  -- the stamps of ports 0 and 1, of ports 2 and 3, and of port 4
  case h_3 =>
    have hu : i < 5 := Nat.lt_trans (show i < 2 from hi) (by decide)
    exact allComplete_ite (allComplete_within hu _ _) (allComplete_ite (allComplete_within hu _ _) noRow)
  case h_4 =>
    have hu : i + 2 < 5 := Nat.lt_trans (Nat.add_lt_add_right (show i < 2 from hi) 2) (by decide)
    exact allComplete_ite (allComplete_within hu _ _) (allComplete_ite (allComplete_within hu _ _) noRow)
  case h_5 =>
    have hu : 4 < 5 := by decide
    exact allComplete_ite (allComplete_within hu _ _) (allComplete_ite (allComplete_within hu _ _) noRow)
  -- a block with two
  case h_10 | h_18 => exact allComplete_ite (plain _ _) (allComplete_ite (plain _ _) noRow)
  -- HB_EPOCH and HB_EVT
  case h_11 =>
    exact allComplete_ite (allComplete_some fun s => completes_hbEpochWrite _ s fun _ => hbe) (allComplete_ite (plain _ _) noRow)
  -- a mailbox
  case h_12 => exact allComplete_ite (plain _ _) (allComplete_ite (allComplete_within hi _ _) noRow)
  -- a telemetry FIFO
  case h_13 =>
    split
    case h_7 => exact noRow
    all_goals exact allComplete_within hi _ _
  -- a check unit
  case h_16 =>
    exact allComplete_ite (allComplete_within hi _ _) (allComplete_ite (allComplete_within hi _ _)
      (allComplete_ite (allComplete_some fun s => completes_ckxDataWrite _ _ _ s fun _ => hi)
        (allComplete_ite (plain _ _) noRow)))
  -- a ring, whose flush is the host's or the part's
  case h_20 =>
    exact allComplete_ite (allComplete_within hi _ _) (allComplete_ite (plain _ _) (allComplete_ite (allComplete_within hi _ _)
      (allComplete_ite (allComplete_within hi _ _) (allComplete_ite (by split <;> exact allComplete_within hi _ _) noRow))))
  -- the ring window
  case h_22 => exact allComplete_some fun _ => completes_next rfl
  case h_23 => exact noRow

theorem completes_writeDword (off : Nat) (v : Word) {be : Nat} (hbe : be < 16) (s : State) :
    Completes true s (writeDword off v be s) := by
  obtain rfl | hpos := Nat.eq_zero_or_pos be
  · rw [writeDword_of_noOctet]
    exact completes_next rfl
  rw [writeDword_eq_ownEffect s off v be hpos]
  cases ho : s.chip.ownEffect off v be with
  | none => exact completes_next rfl
  | some f =>
    unfold Chip.ownEffect at ho
    split at ho
    · cases ho
    · next b i hb =>
      have strides : ∀ b ∈ blocks, b.base = 0x200000 → b.stride = 16 := by decide
      obtain ⟨hmem, hplace, hi⟩ := blockAt_parts hb
      refine allComplete_ownWrite s.chip _ _ _ hi hbe (fun hbase => ?_) f ho s
      rw [hplace, hbase, strides b hmem hbase]

/-- The dwords of a write from number `n` on complete. -/
theorem completes_writeRest (off : Nat) (l : List (Word × Nat)) : ∀ (n : Nat) (k : Option Nat) (s : State),
    (∀ e ∈ l, e.2 < 16) → Completes true s (writeRest off n l k s).1 := by
  induction l with
  | nil => exact fun _ _ s _ => completes_next rfl
  | cons e rest ih =>
    intro n k s hl
    obtain ⟨v, be⟩ := e
    have hrest : ∀ e ∈ rest, e.2 < 16 := fun e he => hl e (List.mem_cons_of_mem _ he)
    unfold writeRest
    extract_lets o s'
    have hs' : s'.pending = s.pending := by
      show (if _ then s else _ : State).pending = _
      split <;> rfl
    refine .trans hs' ?_
    split
    · exact ih _ _ _ hrest
    · obtain ⟨t, ht, hp⟩ := (completes_writeDword o v (hl (v, be) List.mem_cons_self) s').next_of_named
      rw [ht]
      exact .trans hp (ih (n + 1) k t hrest)

theorem completes_writeDwords (off : Nat) {l : List (Word × Nat)} (hl : ∀ e ∈ l, e.2 < 16) (s : State) :
    Completes true s (writeDwords off l s) := by
  unfold writeDwords
  refine completes_ite (completes_next rfl) (completes_ite (completes_next rfl) ?_)
  have hr := completes_writeRest off l 0 none s hl
  split
  · next t k ht =>
    rw [ht] at hr
    exact completes_next (hr.pending (t := t) rfl)
  · next r ht => rwa [ht] at hr

/-- REGISTER_WRITE. -/
theorem completes_registerWrite (off : Nat) (first : Word × Nat) (rest : List (Word × Nat)) (s : State) :
    Completes (Instr.wf (.registerWrite off first rest)) s (execRegisterWrite off first rest s) := by
  cases hn : Instr.wf (.registerWrite off first rest) with
  | false =>
    have hguard : (off % 4 == 0 && off + 4 * rest.length < 0x2000000 && first.2 < 16 && rest.length < 128 &&
        rest.all fun e => e.2 < 16) = false := by
      rw [← hn]
      simp [Instr.wf, Bool.and_assoc, Bool.beq_eq_decide_eq]
    exact .inr ⟨rfl, by rw [execRegisterWrite, hguard, within_false]⟩
  | true =>
    simp only [Instr.wf, Bool.and_eq_true, decide_eq_true_eq, List.all_eq_true] at hn
    obtain ⟨⟨h4, hoff, hfirst, hlen⟩, hrest⟩ := hn
    refine completes_within (fun _ => by simpa [h4, hoff, hfirst, hlen] using fun v be he => hrest (v, be) he) ?_
    refine completes_ite (completes_writeDword _ _ hfirst s) (completes_writeDwords _ (fun e he => ?_) s)
    obtain rfl | he := List.mem_cons.mp he
    · exact hfirst
    · exact hrest e he

/-! ### The commands -/

/-- The units of R379, as the commands' ranges and the controller count them. -/
theorem calUnits_eq (item : CalItem) : calUnits item = item.units := by cases item <;> rfl

/-- A command completes where it is well formed: it acts on the part, or on the part and LPDDR5X, for operands that name
something. -/
theorem exec_completes (i : Instr) (s : State) : Completes i.wf s (exec i s) := by
  cases i with
  | registerWrite off first rest => exact completes_registerWrite off first rest s
  | hostAtomicOp op at_ => cases at_ <;> exact completes_within (fun h => (Bool.and_eq_true_iff.mp h).2) (completes_next rfl)
  | hbEpochWrite v be => exact completes_hbEpochWrite v s of_decide_eq_true
  | ckxDataWrite x hi v be => exact completes_ckxDataWrite hi v be s fun h => of_decide_eq_true (Bool.and_eq_true_iff.mp h).1
  | sysInfo | sysPing | sysWarmReset | sysPowerSet | sysEventRoute | sysSettingsSave | sysSettingsLoad | showCommit
  | showCross | showUncommit | showLayerFlip | showTaskLoad | showTaskCancel | showTaskFree | tblFixtureCommit
  | tblProfileCommit | tblUniverseCommit | tblRunCommit | tblCanvasCommit | tblLayerCommit | tblCellposCommit
  | tblCurveCommit | tblCueCommit | tblInunivCommit | tblInpatchCommit | tblSourceCommit | tblUcastCommit
  | tblRdmctxCommit | tblStreamCommit | tblRevert | timePtpStatus | timePtpSet | timeTbStep | timeFramegenSet
  | timeFramegenStart | timeFramegenStop | timeFramegenRephase | netGroupJoin | netGroupLeave | netNeighbourResolve
  | portRdmRequest | portRdmDiscover | portRdmAbort | meterFeedSet | meterPqSet | meterPulseSet | meterJournalFlush
  | meterTotalsPreset | pairConfig | pairPromote | pairSwap | pairResync | pairStatus | updStage | updVerify
  | updActivate | updStatus | updRevert | updTrialSet | updCounterAdvance | calRun | calMeterRef | calAutoSet
  | diagScrubSet | diagEccInject | diagCheckRun | diagLoopback | diagDebugUnlock | diagTempRead | diagEventTest
  | commandBad | tbSnap | mapClr | modelClr | schedClr | netCntSnap | netCntClr | hbEvtWfailClear | evtLegacyPop
  | mtrHostSnap | evtClr | ctrlRestart | bootRecover | peerWriteFailureMsg | sealPoint | crossing | explicitCrossing
  | immediateCrossing | fgResume | generatorStopEffect | ltcFrame | ltcLost | fpulseInEdge | fpulseInLoss
  | fpulseOutStart | fpulseOutEnd | emissionWindowOpen | emissionWindowClose | taskDispatch | inputSourceTimeout
  | inputSyncTimeout | straitLinkFrameReceive | straitLinkSilent | straitLinkUp | straitKeepalive
  | mirrorCommitReceive | mirrorAckTimeout | ferryComplete | ferryLate | bulkFerryComplete | pwrWarnAssert
  | vaonFeedChange | meterWarnClear | journalWriteDone | calAutoStart | maintActivityStart | cmdComplete
  | ctrlHandoverDone | ctrlWatchdog | powerOnReset | mainPgFall | mainPgRise | perstN | jtagProvision
  | combinedSupplyFall | perstNRelease | testLogicReset | pwrWarnNRelease =>
    exact completes_next rfl
  -- operands that the part asks for as the command's ranges do
  | txtsRelease | txtsStatusClear | lanenClr | ringEnable | ringProdWrite | ringConsWrite | ringFlushHost
  | ringFlushDevice | ringEntryTake | ringStall | mbmDoorbell | tffAdvance | tffMark | tffRewind | tffRelease
  | tffClose | tffFlush | telemAgeClose | ckxStart | ckxRunWrite | ckxFinish | eccmEvtClear | msixUnmask
  | timeBaseStep | ptpMessageReceive | ptpMessageSend | tbSourceLost | fixtureHandover | universeDecide
  | packetStart | holdKeepalive | taskWaitInstant | trigInEdge | trigFilterExpire | taskTimeout | e131SyncReceive
  | rdmRequestStart | rdmResponseTimeout | rdmSensorPoll | rdmAckTimerExpire | rdmRequestExpire | hcPwmPeriod
  | hcDiagStarved | hcNtcRefresh | netFrameReceive | netLinkChange | membershipReportRepeat | lldpSend
  | videoPacketReceive | streamMergeTimeout | streamPathDown | straitLaneFail | beaconReceive | meterPulseStart
  | meterPulseEnd | dieSensorSample | meterCalSpanEnd | patrolBurst | updConfirmed | trialWindowExpire
  | pwrDomainChange | jtagUpdateIr | neighbourSolicitRetry | checkRunFinish | pauseReceive =>
    exact completes_within id (completes_next rfl)
  -- a port whose fifth the part has and the command's range has not
  | pauseExpire | netPauseWatchdog | netPauseRearm | lpiEnter | lpiWake =>
    exact completes_within (fun h => decide_eq_true (Nat.lt_succ_of_lt (of_decide_eq_true h))) (completes_next rfl)
  | lpFrameStart port | lpHold port | lpHoldRepeat port =>
    exact completes_within (fun h => by cases port <;> exact h) (completes_next rfl)
  | calUnitDone item | calUnitTimeout item =>
    exact completes_within (fun h => by rw [calUnits_eq]; exact h) (completes_next rfl)
  -- one of several ranges
  | txJobSend | bandWritten => exact completes_within (fun h => (Bool.and_eq_true_iff.mp h).1) (completes_next rfl)
  | forwardedAccessServe =>
    exact completes_within (fun h => (Bool.and_eq_true_iff.mp (Bool.and_eq_true_iff.mp h).1).1) (completes_next rfl)
  | e131DataReceive port pkt =>
    refine completes_within (fun h => ?_) (completes_next rfl)
    obtain ⟨hport, hpkt⟩ := Bool.and_eq_true_iff.mp h
    exact Bool.and_eq_true_iff.mpr ⟨hport, (Bool.and_eq_true_iff.mp hpkt).2⟩
  | telemRecordProduce producer part =>
    refine completes_within (fun h => ?_) (completes_next rfl)
    cases part <;> simp_all [Instr.wf, partLength]
  | ringSlotWrite | copyForwardDone | rdmResponseReceive | meterSample | meterModFault =>
    exact completes_within (fun h => by simp_all [Instr.wf]) (completes_next rfl)
  | hostBar2Write | hostBar2Read | peerAtomicOp | hostPeerTimeout | peerWriteForward =>
    exact completes_within (fun h => (Bool.and_eq_true_iff.mp h).2) (completes_next rfl)

/-- A step completes: the front command, the next command of a channel, or a cycle. -/
theorem step_next_or_stop (s : State) :
    (∃ t, step s = .next t ∧ t.pending = s.pending.tail) ∨ step s = .fault .outsideConditions := by
  cases hs : s.pending with
  | cons i rest =>
    obtain ⟨pending, dram, chip⟩ := s
    obtain rfl : pending = i :: rest := hs
    exact (exec_completes i ⟨rest, dram, chip⟩).imp_right And.right
  | nil =>
    cases hc : s.chip.nextCommand with
    | some r =>
      rw [step_of_nextCommand hs hc, List.tail_nil, ← hs]
      exact (exec_completes r.2 (s.onto r.1)).imp_right And.right
    | none => exact .inl ⟨_, step_of_noCommand hs hc, hs⟩

/-- Settles O3: a step is a next state with the queue's rest, or a stop. -/
theorem stepsTakeTheFrontCommandAndNeverRefuse : Obligations.StepsTakeTheFrontCommandAndNeverRefuse := by
  unfold Obligations.StepsTakeTheFrontCommandAndNeverRefuse
  refine ⟨fun s t ht => ?takes, fun s r hr => ?refuses⟩ <;> obtain ⟨u, hu, hp⟩ | hf := step_next_or_stop s
  case takes.inl =>
    cases hu.symm.trans ht
    exact hp
  case takes.inr => cases hf.symm.trans ht
  case refuses.inl => cases hu.symm.trans hr
  case refuses.inr => cases hf.symm.trans hr

/-- Settles O1: a step of a state with a command at the front of its queue is defined so. -/
theorem stepRunsFrontCommand : Obligations.StepRunsFrontCommand := fun _ _ _ => rfl

/-- Settles O4: a command whose operands name something completes. -/
theorem wellFormedCommandsNeverStop : Obligations.WellFormedCommandsNeverStop := by
  unfold Obligations.WellFormedCommandsNeverStop
  intro s i rest hs hwf
  have h := exec_completes i { s with pending := rest }
  rw [hwf] at h
  obtain ⟨pending, dram, chip⟩ := s
  obtain rfl : pending = i :: rest := hs
  obtain ⟨t, ht, -⟩ := h.next_of_named
  exact ⟨t, ht⟩

end Sys2Proof.Machine
end

section
/-! SUPPORT. Firmware commands that answer at once (R296, R307, R310, R313 to R317), and those that wait for the maintenance
arbiter (R458). -/

namespace Sys2Proof.Machine

open Sys2Proof

/-! ### Queries -/

/-- Settles O23, command by command: each is a completion with its values. -/
theorem queriesAnswerWithTheirValues : Obligations.QueriesAnswerWithTheirValues := by
  unfold Obligations.QueriesAnswerWithTheirValues
  refine fun s h p q hq => ⟨fun ht => ⟨?ping, fun hpage => ?page0, fun hpage => ?page1⟩,
    fun ht => ⟨fun t g hT hg => ?ptp, ?pair, fun x hx => ?upd, ?temp⟩⟩
  case ping =>
    show execSysPing h p s = _
    exact firmware_taken _ _ _ _ _ s q hq ht
  case page0 | page1 =>
    show execSysInfo h p s = _
    refine (firmware_taken _ _ _ _ _ s q hq ht).trans ?_
    simp only [hpage]
    rfl
  case ptp =>
    subst hT hg
    show execTimePtpStatus h p s = _
    exact firmware_taken _ _ _ _ _ s q hq ht
  case pair =>
    show execPairStatus h p s = _
    exact firmware_taken _ _ _ _ _ s q hq ht
  case upd =>
    subst hx
    show execUpdStatus h p s = _
    exact firmware_taken _ _ _ _ _ s q hq ht
  case temp =>
    show execDiagTempRead h p s = _
    exact firmware_taken _ _ _ _ _ s q hq ht

/-! ### Commands that set something -/

section
variable (c : Chip) {t : Nat} {m : Image}

/-- What UPD_VERIFY answers (R408): the slot's image, then its counter, then the matrix. -/
theorem Chip.verifyStatus_of_invalid (hm : (c.imageType t).inactive = m) (hv : m.valid = false) : c.verifyStatus t = 9 := by
  simp [Chip.verifyStatus, hm, hv]

theorem Chip.verifyStatus_of_counter (hm : (c.imageType t).inactive = m) (hv : m.valid = true)
    (hs : m.secVer < (c.imageType t).counter ∨ 64 < m.secVer) : c.verifyStatus t = 0xA := by
  simp [Chip.verifyStatus, hm, hv, hs]

theorem Chip.verifyStatus_of_matrix (hm : (c.imageType t).inactive = m) (hv : m.valid = true)
    (hlo : (c.imageType t).counter ≤ m.secVer) (hhi : m.secVer ≤ 64) :
    c.verifyStatus t = if c.matrixHolds t m then 0 else 0xB := by
  have hs : ¬ (m.secVer < (c.imageType t).counter ∨ 64 < m.secVer) := by omega
  cases hk : c.matrixHolds t m <;> simp [Chip.verifyStatus, hm, hv, hs, hk]

end

section
variable {s : State} {h : CmdHdr} {p q : Nat} (hq : payloadOf h p = q) (ht : s.chip.takes h false = true)
include hq ht

/-- UPD_VERIFY marks the slot verified where its tests hold, and answers their outcome. -/
theorem exec_updVerify {t v : Nat} (htype : t = min 4 (pl q 0 0 3)) (hv : s.chip.verifyStatus t = v) :
    exec (.updVerify h p) s = .next (s.onto (Chip.complete
      (if v = 0 then s.chip.setType t { s.chip.imageType t with verified := true } else s.chip)
      h 0x0902 v (leBytes 4 (s.chip.imageType t).inactive.version))) := by
  subst htype hv
  show execUpdVerify h p s = _
  refine (firmware_taken _ _ _ _ _ s q hq ht).trans ?_
  by_cases h0 : s.chip.verifyStatus (min 4 (pl q 0 0 3)) = 0 <;> simp [typeArg, h0]

theorem exec_sysSettingsLoad_of_some {l : List (Nat × Word)} (hl : s.chip.storeValues (pl q 0 0 1) = some l) :
    exec (.sysSettingsLoad h p) s = .next (s.onto ((s.chip.loadValues l).complete h 0x0107 0 [])) := by
  show execSysSettingsLoad h p s = _
  refine (firmware_taken _ _ _ _ _ s q hq ht).trans ?_
  simp only [hl]

theorem exec_sysSettingsLoad_of_none (hl : s.chip.storeValues (pl q 0 0 1) = none) :
    exec (.sysSettingsLoad h p) s = .next (s.onto (s.chip.decline h 0x0107 ⟨0xC, 0, 0⟩)) := by
  show execSysSettingsLoad h p s = _
  refine (firmware_taken _ _ _ _ _ s q hq ht).trans ?_
  simp only [hl]

/-- A time base without a servo is stepped. -/
theorem exec_timeTbStep_of_free {n : Nat} (hn : n = pl q 0 0 2) (hf : s.chip.sourceTb n = 0 ∨ s.chip.sourceTb n = 4) :
    exec (.timeTbStep h p) s = .next (s.onto
      ((s.chip.stepTb n (sext 64 (pl q 8 0 64) * (nsUnits : Int) + (pl q 0x10 0 16 * (nsUnits / 65536) : Nat))).complete
        h 0x0403 0 [])) := by
  subst hn
  show execTimeTbStep h p s = _
  refine (firmware_taken _ _ _ _ _ s q hq ht).trans ?_
  simp only [Bool.or_eq_true, decide_eq_true_eq]
  rw [if_pos hf]

theorem exec_timeTbStep_of_servo {n : Nat} (hn : n = pl q 0 0 2) (h0 : s.chip.sourceTb n ≠ 0) (h4 : s.chip.sourceTb n ≠ 4) :
    exec (.timeTbStep h p) s = .next (s.onto (s.chip.decline h 0x0403 (denied 12))) := by
  subst hn
  show execTimeTbStep h p s = _
  refine (firmware_taken _ _ _ _ _ s q hq ht).trans ?_
  simp only [Bool.or_eq_true, decide_eq_true_eq]
  rw [if_neg (by simp [h0, h4])]

end

/-- Settles O24, command by command. -/
theorem immediateCommandsTakeEffectAndAnswer : Obligations.ImmediateCommandsTakeEffectAndAnswer := by
  unfold Obligations.ImmediateCommandsTakeEffectAndAnswer
  intro s h p q hq ht
  refine ⟨fun src hsrc => ?route, ?trial, ?auto, fun c d k hk hc hd => ?scrub, ?test,
    fun l hl => exec_sysSettingsLoad_of_some hq ht hl, exec_sysSettingsLoad_of_none hq ht, fun k hk => ?preset,
    fun t x m htype hx hm => ⟨fun hv hlo hhi hk => ?verified, fun hv => ?invalid, fun hv hs => ?counter,
      fun hv hlo hhi hk => ?matrix⟩,
    fun n hn hf => exec_timeTbStep_of_free hq ht hn hf, fun n hn h0 h4 => exec_timeTbStep_of_servo hq ht hn h0 h4⟩
  case route =>
    subst hsrc
    show execSysEventRoute h p s = _
    exact firmware_taken _ _ _ _ _ s q hq ht
  case trial =>
    show execUpdTrialSet h p s = _
    exact firmware_taken _ _ _ _ _ s q hq ht
  case auto =>
    show execCalAutoSet h p s = _
    exact firmware_taken _ _ _ _ _ s q hq ht
  case test =>
    show execDiagEventTest h p s = _
    exact firmware_taken _ _ _ _ _ s q hq ht
  case scrub =>
    subst hk hc hd
    show execDiagScrubSet h p s = _
    exact firmware_taken _ _ _ _ _ s q hq ht
  case preset =>
    subst hk
    show execMeterTotalsPreset h p s = _
    exact firmware_taken _ _ _ _ _ s q hq ht
  case verified =>
    subst hx
    have hst := s.chip.verifyStatus_of_matrix hm.symm hv hlo hhi
    rw [hk] at hst
    rw [exec_updVerify hq ht htype hst, ← hm]
    rfl
  case invalid =>
    subst hx
    rw [exec_updVerify hq ht htype (s.chip.verifyStatus_of_invalid hm.symm hv), ← hm]
    rfl
  case counter =>
    subst hx
    rw [exec_updVerify hq ht htype (s.chip.verifyStatus_of_counter hm.symm hv hs), ← hm]
    rfl
  case matrix =>
    subst hx
    have hst := s.chip.verifyStatus_of_matrix hm.symm hv hlo hhi
    rw [hk] at hst
    rw [exec_updVerify hq ht htype hst, ← hm]
    rfl

/-! ### Maintenance commands (R458) -/

section
variable (c : Chip) (h : CmdHdr) (op prec : Nat) (args : List Nat)

/-- The activity that a maintenance command asks for. -/
def requested : Activity := ⟨prec, op, some h.chan, h.tag, args, 0, 0, 0, false⟩

theorem Chip.maintain_of_free (hf : c.arbiterFree = true) :
    c.maintain h op prec args = (c.startActivity (requested h op prec args)).complete h op 0 [] := by
  simp [Chip.maintain, Chip.request, hf, requested]

/-- Behind others it waits, while there is room. -/
theorem Chip.maintain_of_behind (hf : c.arbiterFree = false)
    (hroom : (c.arbiter.waiting.filter fun a => a.opcode != 0).length < 16) :
    c.maintain h op prec args = (Chip.inc { c with
      arbiter := { c.arbiter with waiting := c.arbiter.waiting ++ [requested h op prec args] } } Reg.MAINT_DEFER_CNT).complete
        h op 6 [] := by
  simp [Chip.maintain, Chip.request, hf, requested, Nat.not_le.mpr hroom]

theorem Chip.maintain_of_full (hf : c.arbiterFree = false)
    (hfull : 16 ≤ (c.arbiter.waiting.filter fun a => a.opcode != 0).length) :
    c.maintain h op prec args = c.decline h op (denied 14) := by
  simp [Chip.maintain, hf, hfull]

end

/-- The maintenance commands of which O31 speaks, with their opcodes, their precedence and what their payload spells. -/
def maintenanceCommands (s : State) (h : CmdHdr) (p q : Nat) : List (Instr × Nat × Nat × List Nat) :=
  [(.sysSettingsSave h p, 0x0106, 2, [pl q 0 0 1]), (.meterJournalFlush h p, 0x0704, 1, []),
    (.calRun h p, 0x0A01, 5, [pl q 0 0 4]), (.pairResync h p, 0x0804, 3, []),
    (.updStage h p, 0x0901, 6, [min 4 (pl q 0 0 3), pl q 0 3 1, pl q 8 0 64, pl q 0x10 0 32,
      (packageTooLong (min 4 (pl q 0 0 3)) (pl q 0x10 0 32) (pl q 0 3 1 == 1)
        (s.chip.fetch s.dram (pl q 8 0 64) (min (pl q 0x10 0 32) 512))).toNat]),
    (.updCounterAdvance h p, 0x0907, 6, [min 4 (pl q 0 0 3)]),
    (.calMeterRef h p, 0x0A02, 4, [pl q 0 0 3, min 6 (pl q 0 3 3), pl q 4 0 32, pl q 8 0 32, clampN 1 1000 (pl q 0xC 0 16)])]

/-- Nothing stands against a maintenance command of an opcode: no isle that cannot resynchronise, no other type in update, none on
trial, no calibration of metering. -/
structure MayMaintain (c : Chip) (q op : Nat) : Prop where
  pair : op = 0x0804 → c.pair.isle = .active ∧ c.domainOn 10 = true ∧ c.pair.linkUp = true ∧ c.pair.mirrorOk = true
  other : op = 0x0901 → c.otherInUpdate (min 4 (pl q 0 0 3)) = false
  trial : op = 0x0901 ∨ op = 0x0907 → (c.imageType (min 4 (pl q 0 0 3))).onTrial = false
  meter : op = 0x0A02 → c.meterHeld = false

/-- A flag of a payload as a number. -/
theorem toNat_pl_beq_one (q off lo : Nat) : (pl q off lo 1 == 1).toNat = pl q off lo 1 := by
  have hlt : pl q off lo 1 < 2 := by
    unfold pl bits
    exact Nat.mod_lt _ (by decide)
  interval_cases pl q off lo 1 <;> rfl

section
variable {s : State} {h : CmdHdr} {p q : Nat} (hq : payloadOf h p = q) (ht : s.chip.takes h false = true)
include hq ht

/-- A maintenance command that nothing stands against asks the arbiter for its activity, and UPD_STAGE reads its package where the
activity has started. -/
theorem exec_maintenance {e : Instr × Nat × Nat × List Nat} (he : e ∈ maintenanceCommands s h p q)
    (hmay : MayMaintain s.chip q e.2.1) :
    exec e.1 s = .next (s.onto (if e.2.1 = 0x0901 ∧ s.chip.arbiterFree = true then
      (s.chip.maintain h e.2.1 e.2.2.1 e.2.2.2).readPackage s.dram else s.chip.maintain h e.2.1 e.2.2.1 e.2.2.2)) := by
  obtain ⟨hpair, hother, htrial, hmeter⟩ := hmay
  simp only [maintenanceCommands, List.mem_cons, List.not_mem_nil, or_false] at he
  obtain rfl | rfl | rfl | rfl | rfl | rfl | rfl := he
  · show execSysSettingsSave h p s = _
    exact firmware_taken _ _ _ _ _ s q hq ht
  · show execMeterJournalFlush h p s = _
    exact firmware_taken _ _ _ _ _ s q hq ht
  · show execCalRun h p s = _
    exact firmware_taken _ _ _ _ _ s q hq ht
  · obtain ⟨hact, h10, hup, hok⟩ := hpair rfl
    show execPairResync h p s = _
    refine (firmware_taken _ _ _ _ _ s q hq ht).trans ?_
    simp [hact, h10, hup, hok]
  · show execUpdStage h p s = _
    refine (firmware_taken _ _ _ _ _ s q hq ht).trans ?_
    simp [typeArg, hother rfl, htrial (.inl rfl), toNat_pl_beq_one]
  · show execUpdCounterAdvance h p s = _
    refine (firmware_taken _ _ _ _ _ s q hq ht).trans ?_
    simp [typeArg, htrial (.inr rfl)]
  · show execCalMeterRef h p s = _
    refine (firmware_taken _ _ _ _ _ s q hq ht).trans ?_
    simp [hmeter rfl]

theorem exec_pairResync_of_notActive (ha : s.chip.pair.isle ≠ .active) :
    exec (.pairResync h p) s = .next (s.onto (s.chip.decline h 0x0804 (denied 12))) := by
  show execPairResync h p s = _
  refine (firmware_taken _ _ _ _ _ s q hq ht).trans ?_
  simp [ha]

theorem exec_pairResync_of_linkDown (ha : s.chip.pair.isle = .active)
    (hl : (s.chip.domainOn 10 && s.chip.pair.linkUp && s.chip.pair.mirrorOk) = false) :
    exec (.pairResync h p) s = .next (s.onto (s.chip.decline h 0x0804 ⟨0xE, 0, 0⟩)) := by
  show execPairResync h p s = _
  refine (firmware_taken _ _ _ _ _ s q hq ht).trans ?_
  simp [ha, hl]

theorem exec_updStage_denied {t : Nat} (htype : t = min 4 (pl q 0 0 3))
    (hd : s.chip.otherInUpdate t = true ∨ (s.chip.imageType t).onTrial = true) :
    exec (.updStage h p) s = .next (s.onto (s.chip.decline h 0x0901 (denied 12))) := by
  subst htype
  show execUpdStage h p s = _
  refine (firmware_taken _ _ _ _ _ s q hq ht).trans ?_
  simp only [typeArg, Bool.or_eq_true, if_pos hd]

theorem exec_updCounterAdvance_denied {t : Nat} (htype : t = min 4 (pl q 0 0 3)) (hd : (s.chip.imageType t).onTrial = true) :
    exec (.updCounterAdvance h p) s = .next (s.onto (s.chip.decline h 0x0907 (denied 12))) := by
  subst htype
  show execUpdCounterAdvance h p s = _
  refine (firmware_taken _ _ _ _ _ s q hq ht).trans ?_
  simp only [typeArg, hd, if_true]

theorem exec_calMeterRef_denied (hm : s.chip.meterHeld = true) :
    exec (.calMeterRef h p) s = .next (s.onto (s.chip.decline h 0x0A02 (denied 12))) := by
  show execCalMeterRef h p s = _
  refine (firmware_taken _ _ _ _ _ s q hq ht).trans ?_
  simp only [hm, if_true]

end

/-- Settles O31: what the arbiter makes of an activity, for every command that asks for one; then what stands against them. -/
theorem maintenanceCommandsWaitTheirTurn : Obligations.MaintenanceCommandsWaitTheirTurn := by
  unfold Obligations.MaintenanceCommandsWaitTheirTurn
  intro s h p q hq ht
  refine ⟨fun e he hpair hother htrial hmeter a hact => ?_, exec_pairResync_of_notActive hq ht,
    exec_pairResync_of_linkDown hq ht,
    fun t htype => ⟨exec_updStage_denied hq ht htype, exec_updCounterAdvance_denied hq ht htype⟩,
    exec_calMeterRef_denied hq ht⟩
  subst hact
  have hexec := exec_maintenance hq ht he ⟨hpair, hother, htrial, hmeter⟩
  refine ⟨fun hf c hc => ?started, fun hf hroom => ?behind, fun hf hfull => ?full⟩
  case started =>
    subst hc
    rw [hexec, s.chip.maintain_of_free _ _ _ _ hf, hf]
    simp only [and_true]
    rfl
  case behind =>
    rw [hexec, if_neg (by simp [hf]), s.chip.maintain_of_behind _ _ _ _ hf hroom]
    rfl
  case full => rw [hexec, if_neg (by simp [hf]), s.chip.maintain_of_full _ _ _ _ hf hfull]

end Sys2Proof.Machine
end

section
/-! SUPPORT. The commits of metering, the pair, the updates and the groups (R239, R311, R313 to R315), command by command. -/

namespace Sys2Proof.Machine

open Sys2Proof

section
variable (c : Chip) {h : CmdHdr} {q csn st : Nat} {l : List Change} {r : List Byte}
  {b : Chip → Nat → Except Refuse (List Change × List Byte)}

/-- A command that names no instant is targeted as if AT_TIME were clear (R295). -/
theorem Chip.target_of_noInstant (h : CmdHdr) (q : Nat) : c.target h q false = c.target { h with atTime := false } q true := by
  simp [Chip.target]

/-- Where targeting is refused, so is the commit; where what it builds is, so is it; it carries no changes then. -/
theorem Chip.commitTry_of_denied (op : Nat) {e : Refuse} (ht : c.target h q true = .ok (csn, st))
    (hb : b (c.projected csn) csn = .error e) : c.commitTry op h q true b = (c.refuse h op e, none) := by
  simp [Chip.commitTry, ht, hb]

/-- A commit without an instant is accepted as one that names none. -/
theorem Chip.commitCommand_noInstant_accepted (op : Nat) (hb : b (c.projected csn) csn = .ok (l, r))
    (ha : c.accepts { h with atTime := false } q csn st l = true) :
    c.commitCommand op h q false b = c.accepted h op q csn st l r := by
  obtain ⟨htg, hroom, hunder, hrefusal⟩ := c.accepts_parts _ _ _ _ _ ha
  rw [← c.target_of_noInstant] at htg
  simp only [Chip.commitCommand, Chip.commitTry, htg, hb, hroom, hunder, hrefusal]
  simp [Chip.accepted]

theorem Chip.commitCommand_noInstant_denied (op : Nat) {e : Refuse}
    (ht : c.target { h with atTime := false } q true = .ok (csn, st)) (hb : b (c.projected csn) csn = .error e) :
    c.commitCommand op h q false b = c.refuse h op e := by
  rw [← c.target_of_noInstant] at ht
  simp [Chip.commitCommand, Chip.commitTry, ht, hb]

end

section
variable {s : State} {h : CmdHdr} {p q csn st : Nat} (hq : payloadOf h p = q) (ht : s.chip.takes h false = true)
include hq ht

/-! ### Metering (R313, R352, R361, R388) -/

/-- What METER_FEED_SET sets. -/
def feedChanges (q : Nat) : List Change :=
  [.feedSet (pl q 0 0 3) (bit q 3) (min 2 (pl q 0 4 2)) (pl q 4 0 32) (clampN 4500 6500 (pl q 8 0 16))
    (pl q 0xC 0 32) (pl q 0x10 0 32)]

/-- What METER_PQ_SET sets. -/
def pqChanges (q : Nat) : List Change :=
  [.pqSet (pl q 0 0 3) (clampN (clampN 1 998 (pl q 8 0 16) + 1) 999 (pl q 4 0 16)) (clampN 1001 2000 (pl q 4 16 16))
    (clampN 1 998 (pl q 8 0 16)) (min 100 (pl q 8 16 16)) (max 1 (pl q 0xC 0 16))]

/-- What METER_PULSE_SET sets. -/
def pulseChanges (q : Nat) : List Change :=
  [.pulseSet (pl q 0 0 3) (pl q 0 3 3) (min 2 (pl q 0 6 2)) (bit q 8) (max 1 (pl q 8 0 64)) (clampN 20 1000 (pl q 0x10 0 16))]

/-- The commits of metering, with their opcodes and what they set. -/
def meterCommits (h : CmdHdr) (p q : Nat) : List (Instr × Nat × List Change) :=
  [(.meterFeedSet h p, 0x0701, feedChanges q), (.meterPqSet h p, 0x0702, pqChanges q),
    (.meterPulseSet h p, 0x0703, pulseChanges q)]

/-- A commit of metering, which a calibration of the metering stands against. -/
theorem exec_meterCommit {e : Instr × Nat × List Change} (he : e ∈ meterCommits h p q) : exec e.1 s = .next (s.onto
    (s.chip.commitCommand e.2.1 h q true fun _ _ => if s.chip.meterHeld then .error (denied 12) else .ok (e.2.2, []))) := by
  simp only [meterCommits, List.mem_cons, List.not_mem_nil, or_false] at he
  obtain rfl | rfl | rfl := he
  · show execMeterFeedSet h p s = _
    exact firmware_taken _ _ _ _ _ s q hq ht
  · show execMeterPqSet h p s = _
    exact firmware_taken _ _ _ _ _ s q hq ht
  · show execMeterPulseSet h p s = _
    exact firmware_taken _ _ _ _ _ s q hq ht

theorem exec_meterCommit_accepted {e : Instr × Nat × List Change} (he : e ∈ meterCommits h p q)
    (hm : s.chip.meterHeld = false) (ha : s.chip.accepts h q csn st e.2.2 = true) :
    exec e.1 s = .next (s.onto (s.chip.accepted h e.2.1 q csn st e.2.2 [])) := by
  rw [exec_meterCommit hq ht he, Chip.commitCommand_accepted _ _ _ _ _ _ _ _ _ (if_neg (by simp [hm])) ha]

theorem exec_meterCommit_denied {e : Instr × Nat × List Change} (he : e ∈ meterCommits h p q) (hm : s.chip.meterHeld = true)
    (htg : s.chip.target h q true = .ok (csn, st)) :
    exec e.1 s = .next (s.onto (s.chip.refuse h e.2.1 (denied 12))) := by
  rw [exec_meterCommit hq ht he, Chip.commitCommand_of_denied _ _ htg (if_pos hm)]

/-! ### The pair (R314, R319, R338, R341) -/

theorem exec_pairConfig_accepted {l : List Change} (hd : s.chip.domainOn 10 = true)
    (hl : l = [Change.pairConfig (pl q 0 0 1) (pl q 0 1 1) (clampN 2 255 (pl q 0 8 8))])
    (ha : s.chip.accepts h q csn st l = true) :
    exec (.pairConfig h p) s = .next (s.onto (s.chip.accepted h 0x0801 q csn st l [])) := by
  subst hl
  show execPairConfig h p s = _
  refine (firmware_taken _ _ _ _ _ s q hq ht).trans ?_
  rw [if_neg (by simp [hd]), Chip.commitCommand_accepted _ _ _ _ _ _ _ _ _ rfl ha]

theorem exec_pairConfig_denied (hd : s.chip.domainOn 10 = false) :
    exec (.pairConfig h p) s = .next (s.onto (s.chip.refuse h 0x0801 (denied 16))) := by
  show execPairConfig h p s = _
  refine (firmware_taken _ _ _ _ _ s q hq ht).trans ?_
  rw [if_pos (by simp [hd])]

theorem exec_pairPromote_accepted (hs : s.chip.pair.isle.standing = true) (hst : s.chip.pair.isle.stale = false)
    (ha : s.chip.accepts h q csn st [.promote] = true) :
    exec (.pairPromote h p) s = .next (s.onto (s.chip.accepted h 0x0802 q csn st [.promote] [])) := by
  show execPairPromote h p s = _
  refine (firmware_taken _ _ _ _ _ s q hq ht).trans ?_
  rw [if_neg (by simp [hs]), if_neg (by simp [hst]), Chip.commitCommand_accepted _ _ _ _ _ _ _ _ _ rfl ha]

theorem exec_pairPromote_of_notStanding (hs : s.chip.pair.isle.standing = false) :
    exec (.pairPromote h p) s = .next (s.onto (s.chip.refuse h 0x0802 (denied 12))) := by
  show execPairPromote h p s = _
  refine (firmware_taken _ _ _ _ _ s q hq ht).trans ?_
  rw [if_pos (by simp [hs])]

theorem exec_pairPromote_of_stale (hs : s.chip.pair.isle.standing = true) (hst : s.chip.pair.isle.stale = true) :
    exec (.pairPromote h p) s = .next (s.onto (s.chip.refuse h 0x0802 (denied 17))) := by
  show execPairPromote h p s = _
  refine (firmware_taken _ _ _ _ _ s q hq ht).trans ?_
  rw [if_neg (by simp [hs]), if_pos hst]

/-- PAIR_SWAP asks in turn for an active isle, a link and a standby that is not stale. -/
theorem exec_pairSwap : exec (.pairSwap h p) s = .next (s.onto
    (if s.chip.pair.isle ≠ .active then s.chip.refuse h 0x0803 (denied 12)
    else if (s.chip.domainOn 10 && s.chip.pair.linkUp) = false then s.chip.refuse h 0x0803 ⟨0xE, 0, 0⟩
    else if (s.chip.standbyStale || !s.chip.pair.mirrorOk) = true then s.chip.refuse h 0x0803 (denied 17)
    else s.chip.commitCommand 0x0803 h q true fun _ _ => .ok ([.swap], []))) := by
  show execPairSwap h p s = _
  refine (firmware_taken _ _ _ _ _ s q hq ht).trans ?_
  simp only [bne_iff_ne, Bool.not_eq_true']

end

/-! ### Updates (R315, R410 to R412, R415) -/

/-- UPD_ACTIVATE's commit of a type, or what stands against it. -/
def Chip.activation (c : Chip) (t : Nat) : Except Refuse (List Change × List Byte) :=
  if c.otherInUpdate t || !(c.imageType t).verified then .error (denied 12)
  else if !c.matrixHolds t (c.imageType t).inactive then .error ⟨0xB, 0, 0⟩
  else .ok ([.activate t], [])

/-- UPD_REVERT's commit of a type, or what stands against it. -/
def Chip.reversion (c : Chip) (t : Nat) : Except Refuse (List Change × List Byte) :=
  let x := c.imageType t
  if c.otherInUpdate t || !x.inactive.valid || !x.onTrial && x.failed && !x.verified then .error (denied 12)
  else if x.inactive.secVer < x.counter then .error ⟨0xA, 0, 0⟩
  else if !c.matrixHolds t x.inactive then .error ⟨0xB, 0, 0⟩
  else .ok ([.revert t (if x.onTrial then 1 else 2)], [])

section
variable {c : Chip} {t : Nat}

theorem Chip.activation_ok (ho : c.otherInUpdate t = false) (hv : (c.imageType t).verified = true)
    (hk : c.matrixHolds t (c.imageType t).inactive = true) : c.activation t = .ok ([.activate t], []) := by
  simp [Chip.activation, ho, hv, hk]

theorem Chip.activation_denied (hd : c.otherInUpdate t = true ∨ (c.imageType t).verified = false) :
    c.activation t = .error (denied 12) := if_pos (by simpa using hd)

theorem Chip.activation_mismatch (ho : c.otherInUpdate t = false) (hv : (c.imageType t).verified = true)
    (hk : c.matrixHolds t (c.imageType t).inactive = false) : c.activation t = .error ⟨0xB, 0, 0⟩ := by
  simp [Chip.activation, ho, hv, hk]

theorem Chip.reversion_denied (hd : c.otherInUpdate t = true ∨ (c.imageType t).inactive.valid = false ∨
    (c.imageType t).onTrial = false ∧ (c.imageType t).failed = true ∧ (c.imageType t).verified = false) :
    c.reversion t = .error (denied 12) := if_pos (by simpa [or_assoc, and_assoc] using hd)

/-- A valid slot that has not failed, is verified anew or is on trial may be reverted to, where its counter and the matrix
let it. -/
theorem Chip.reversion_of_may (ho : c.otherInUpdate t = false) (hv : (c.imageType t).inactive.valid = true)
    (hmay : (c.imageType t).onTrial = true ∨ (c.imageType t).failed = false ∨ (c.imageType t).verified = true) :
    c.reversion t = if (c.imageType t).inactive.secVer < (c.imageType t).counter then .error ⟨0xA, 0, 0⟩
      else if !c.matrixHolds t (c.imageType t).inactive then .error ⟨0xB, 0, 0⟩
      else .ok ([.revert t (if (c.imageType t).onTrial then 1 else 2)], []) := by
  refine if_neg ?_
  obtain h | h | h := hmay <;> simp [ho, hv, h]

end

section
variable {s : State} {h : CmdHdr} {p q csn st t : Nat} (hq : payloadOf h p = q) (ht : s.chip.takes h false = true)
  (htype : t = min 4 (pl q 0 0 3))
include hq ht htype

theorem exec_updActivate_accepted (hact : s.chip.activation t = .ok ([.activate t], []))
    (ha : s.chip.accepts h q csn st [.activate t] = true) :
    exec (.updActivate h p) s = .next (s.onto ((s.chip.accepted h 0x0903 q csn st [.activate t] []).setType t
      { s.chip.imageType t with second := some (s.chip.imageType t).inactive })) := by
  obtain rfl : t = typeArg q := htype
  have htry := s.chip.commitTry_accepted 0x0903 h q csn st _ _ (fun _ _ => s.chip.activation (typeArg q)) hact ha
  show execUpdActivate h p s = _
  refine (firmware_taken _ _ _ _ _ s q hq ht).trans ?_
  unfold Chip.activation at htry
  simp only [htry]

theorem exec_updActivate_denied {e : Refuse} (htg : s.chip.target h q true = .ok (csn, st))
    (hact : s.chip.activation t = .error e) :
    exec (.updActivate h p) s = .next (s.onto (s.chip.refuse h 0x0903 e)) := by
  obtain rfl : t = typeArg q := htype
  have htry := s.chip.commitTry_of_denied 0x0903 (b := fun _ _ => s.chip.activation (typeArg q)) htg hact
  show execUpdActivate h p s = _
  refine (firmware_taken _ _ _ _ _ s q hq ht).trans ?_
  unfold Chip.activation at htry
  simp only [htry]

theorem exec_updRevert : exec (.updRevert h p) s =
    .next (s.onto (s.chip.commitCommand 0x0905 h q true fun _ _ => s.chip.reversion t)) := by
  subst htype
  show execUpdRevert h p s = _
  exact firmware_taken _ _ _ _ _ s q hq ht

theorem exec_updRevert_denied {e : Refuse} (htg : s.chip.target h q true = .ok (csn, st)) (hrev : s.chip.reversion t = .error e) :
    exec (.updRevert h p) s = .next (s.onto (s.chip.refuse h 0x0905 e)) := by
  rw [exec_updRevert hq ht htype, Chip.commitCommand_of_denied _ _ htg hrev]

end

/-! ### Groups (R239, R240, R311) -/

section
variable {s : State} {h named : CmdHdr} {p q csn st port : Nat} {g : Group} (hq : payloadOf h p = q)
  (ht : s.chip.takes h false = true) (hport : port = min 4 (pl q 0 0 3)) (hg : g = groupArg q)
  (hnamed : named = { h with atTime := false })
include hq ht hport hg hnamed

theorem exec_netGroupJoin_accepted (ha : s.chip.accepts named q csn st [.groupJoin port g] = true) :
    exec (.netGroupJoin h p) s = .next (s.onto (s.chip.accepted h 0x0510 q csn st [.groupJoin port g]
      (leBytes 4 (((s.chip.projected csn).configure (.groupJoin port g)).exactGroups port).length))) := by
  subst hport hg hnamed
  show execNetGroupJoin h p s = _
  refine (firmware_taken _ _ _ _ _ s q hq ht).trans ?_
  rw [Chip.commitCommand_noInstant_accepted _ _ rfl ha]

theorem exec_netGroupLeave_accepted (hin : ((s.chip.projected csn).port port).groups.contains g = true)
    (ha : s.chip.accepts named q csn st [.groupLeave port g] = true) :
    exec (.netGroupLeave h p) s = .next (s.onto (s.chip.accepted h 0x0511 q csn st [.groupLeave port g]
      (leBytes 4 (((s.chip.projected csn).configure (.groupLeave port g)).exactGroups port).length))) := by
  subst hport hg hnamed
  show execNetGroupLeave h p s = _
  refine (firmware_taken _ _ _ _ _ s q hq ht).trans ?_
  rw [Chip.commitCommand_noInstant_accepted _ _ (if_pos hin) ha]

theorem exec_netGroupLeave_missed (hin : ((s.chip.projected csn).port port).groups.contains g = false)
    (htg : s.chip.target named q true = .ok (csn, st)) :
    exec (.netGroupLeave h p) s = .next (s.onto (s.chip.refuse h 0x0511 missed)) := by
  subst hport hg hnamed
  show execNetGroupLeave h p s = _
  refine (firmware_taken _ _ _ _ _ s q hq ht).trans ?_
  rw [Chip.commitCommand_noInstant_denied _ _ htg (if_neg (ne_true_of_eq_false hin))]

end

/-- Settles O29, family by family: metering, the pair, updates and groups. -/
theorem familyCommitsAreAcceptedForTheirCrossing : Obligations.FamilyCommitsAreAcceptedForTheirCrossing := by
  unfold Obligations.FamilyCommitsAreAcceptedForTheirCrossing
  intro s h p q csn status hq ht
  have feed : (.meterFeedSet h p, 0x0701, feedChanges q) ∈ meterCommits h p q := by simp [meterCommits]
  have pq : (.meterPqSet h p, 0x0702, pqChanges q) ∈ meterCommits h p q := by simp [meterCommits]
  have pulse : (.meterPulseSet h p, 0x0703, pulseChanges q) ∈ meterCommits h p q := by simp [meterCommits]
  refine ⟨fun hm => ⟨fun l hl ha => ?feed, fun intr l hintr hl ha => ?pq, fun l hl ha => ?pulse⟩,
    fun hm htg => ⟨exec_meterCommit_denied hq ht feed hm htg, exec_meterCommit_denied hq ht pq hm htg,
      exec_meterCommit_denied hq ht pulse hm htg⟩,
    fun hd l hl ha => exec_pairConfig_accepted hq ht hd hl ha, exec_pairConfig_denied hq ht,
    exec_pairPromote_accepted hq ht, exec_pairPromote_of_notStanding hq ht, exec_pairPromote_of_stale hq ht,
    fun up stale hup hstale => ⟨fun ha => ?notActive, fun ha hdown => ?linkDown, fun ha hlink hst => ?stale,
      fun ha hlink hst hacc => ?swap⟩,
    fun t x m htype hx hm => ⟨fun ho hk => ⟨fun hv ha => ?activate, fun l hv hmay hc hl ha => ?revert⟩,
      fun htg => ⟨fun hd => ?notVerified, fun ho hv hk => ?activateMismatch, fun hd => ?mayNotRevert,
        fun ho hv hmay hc => ?counter, fun ho hv hmay hc hk => ?revertMismatch⟩⟩,
    fun port g hport hg named hnamed => ⟨exec_netGroupJoin_accepted hq ht hport hg hnamed,
      exec_netGroupLeave_accepted hq ht hport hg hnamed, exec_netGroupLeave_missed hq ht hport hg hnamed⟩⟩
  case feed =>
    subst hl
    exact exec_meterCommit_accepted hq ht feed hm ha
  case pq =>
    subst hintr hl
    exact exec_meterCommit_accepted hq ht pq hm ha
  case pulse =>
    subst hl
    exact exec_meterCommit_accepted hq ht pulse hm ha
  case notActive => rw [exec_pairSwap hq ht, if_pos ha]
  case linkDown => rw [exec_pairSwap hq ht, if_neg (not_not.mpr ha), if_pos (hup ▸ hdown)]
  case stale =>
    rw [exec_pairSwap hq ht, if_neg (not_not.mpr ha), if_neg (by simp [← hup, hlink]), if_pos (hstale ▸ hst)]
  case swap =>
    rw [exec_pairSwap hq ht, if_neg (not_not.mpr ha), if_neg (by simp [← hup, hlink]), if_neg (by simp [← hstale, hst]),
      Chip.commitCommand_accepted _ _ _ _ _ _ _ _ _ rfl hacc]
  all_goals subst hx hm
  case activate => exact exec_updActivate_accepted hq ht htype (Chip.activation_ok ho hv hk) ha
  case revert =>
    rw [exec_updRevert hq ht htype, Chip.commitCommand_accepted _ _ _ _ _ _ _ _ _ ?_ ha]
    rw [Chip.reversion_of_may ho hv hmay, if_neg (Nat.not_lt.mpr hc), if_neg (by simp [hk]), hl]
  case notVerified => exact exec_updActivate_denied hq ht htype htg (Chip.activation_denied hd)
  case activateMismatch => exact exec_updActivate_denied hq ht htype htg (Chip.activation_mismatch ho hv hk)
  case mayNotRevert => exact exec_updRevert_denied hq ht htype htg (Chip.reversion_denied hd)
  case counter =>
    exact exec_updRevert_denied hq ht htype htg (by rw [Chip.reversion_of_may ho hv hmay, if_pos hc])
  case revertMismatch =>
    refine exec_updRevert_denied hq ht htype htg ?_
    rw [Chip.reversion_of_may ho hv hmay, if_neg (Nat.not_lt.mpr hc), if_pos (by simp [hk])]

end Sys2Proof.Machine
end

section
/-! SUPPORT. The table commits and TBL_REVERT (R88, R182, R302, R304 to R306). -/

namespace Sys2Proof.Machine

open Sys2Proof

section
variable (c : Chip) (d : List Host.Cell) (t : Nat)

/-- With no stored difference anywhere, the staging records are the octets that they stand in. -/
theorem Chip.readStaging_clean (first n : Nat) (hf : c.eccDram.flips = []) : c.readStaging d t first n =
    (c, (List.range n).map fun k => (first + k, Memory.readLE d (c.stagingAddr t (first + k)) (recSize t))) := by
  simp [Chip.readStaging, c.noteRead_clean _ _ _ hf, Chip.fetchLE, c.fetch_clean _ _ _ hf, Memory.readLE]

/-! ### A table commit, by its targeting and its records (R304, R305) -/

section
variable {h : CmdHdr} {p first n csn st : Nat} {r : Chip} {l : List (Nat × Nat)} (hk : tableRange t (pl p 0 0 64) = (first, n))
include hk

section
variable (hon : c.domainOn 4 = true) (hr : c.readStaging d t first n = (r, l))
include hon hr

/-- Every record passes: the commit carries them clamped, and staging takes them. -/
theorem Chip.tableCommit_accepted (hl : failingRecord t l = none)
    (ha : r.accepts h p csn st [.recs t (clampRange t l) (t == 3 && pl p 8 0 1 == 1)] = true) :
    c.tableCommit d t h p = (r.accepted h (0x0300 + t) p csn st [.recs t (clampRange t l) (t == 3 && pl p 8 0 1 == 1)]
      (leBytes 4 n)).writeStaging d t (clampRange t l) := by
  obtain ⟨htg, -, -, -⟩ := r.accepts_parts _ _ _ _ _ ha
  simp only [Chip.tableCommit, hk, hon, if_true, hr]
  rw [r.commitTry_accepted _ _ _ csn st _ (leBytes 4 n) _ (by simp [hl]) ha, htg]

/-- A record fails: the commit is refused with what is wrong with it, and LPDDR5X stays. -/
theorem Chip.tableCommit_of_failing {e : Refuse} (hl : failingRecord t l = some e) (htg : r.target h p true = .ok (csn, st)) :
    c.tableCommit d t h p = (d, r.refuse h (0x0300 + t) e) := by
  simp only [Chip.tableCommit, hk, hon, if_true, hr]
  rw [r.commitTry_of_denied _ htg (e := e) (by simp [hl]), htg]

/-- A commit whose crossing has passed is MISSED, and tells the number of its records. -/
theorem Chip.tableCommit_missed (htg : r.target h p true = .error missed) : c.tableCommit d t h p =
    (d, r.respond h.chan (0x0300 + t) h.tag ⟨2, 0, c.openCsn, leBytes 4 n⟩) := by
  simp only [Chip.tableCommit, hk, hon, if_true, hr, htg]

end

/-- With LPDDR5X off the commit is denied. -/
theorem Chip.tableCommit_of_off (hoff : c.domainOn 4 = false) (htg : c.target h p true = .ok (csn, st)) :
    c.tableCommit d t h p = (d, c.refuse h (0x0300 + t) (denied 16)) := by
  simp only [Chip.tableCommit, hk, hoff, Bool.false_eq_true, if_false]
  rw [c.commitTry_of_denied _ htg (e := denied 16) rfl, htg]

end

end

/-! ### The commands -/

/-- The table commits, with their tables. -/
def tableCommits (h : CmdHdr) (p : Nat) : List (Nat × Instr) :=
  [(1, .tblFixtureCommit h p), (2, .tblProfileCommit h p), (3, .tblUniverseCommit h p), (4, .tblRunCommit h p),
    (5, .tblCanvasCommit h p), (6, .tblLayerCommit h p), (7, .tblCellposCommit h p), (8, .tblCurveCommit h p),
    (9, .tblCueCommit h p), (10, .tblInunivCommit h p), (11, .tblInpatchCommit h p), (12, .tblSourceCommit h p),
    (13, .tblUcastCommit h p), (14, .tblRdmctxCommit h p), (15, .tblStreamCommit h p)]

/-- Every table commit is the one meaning of its table. -/
theorem exec_tableCommit_eq {h : CmdHdr} {p : Nat} {e : Nat × Instr} (he : e ∈ tableCommits h p) (s : State) :
    exec e.2 s = tableCommand e.1 h p s := by
  have hall : ∀ e ∈ tableCommits h p, ∀ s, exec e.2 s = tableCommand e.1 h p s := by
    simp only [tableCommits, List.forall_mem_cons]
    exact ⟨fun _ => rfl, fun _ => rfl, fun _ => rfl, fun _ => rfl, fun _ => rfl, fun _ => rfl, fun _ => rfl, fun _ => rfl,
      fun _ => rfl, fun _ => rfl, fun _ => rfl, fun _ => rfl, fun _ => rfl, fun _ => rfl, fun _ => rfl, List.forall_mem_nil _⟩
  exact hall e he s

theorem clampN_mem {lo hi : Nat} (h : lo ≤ hi) (x : Nat) : lo ≤ clampN lo hi x ∧ clampN lo hi x ≤ hi := by
  unfold clampN
  split
  · exact ⟨le_rfl, h⟩
  split <;> omega

/-- The tables whose live banks are in LPDDR5X (R302). -/
theorem bankAt_dram {t : Nat} (ht : 1 ≤ t) (ht' : t ≤ 15) : (bankAt t).1 = 0 ↔ t = 1 ∨ t = 7 ∨ t = 9 := by
  interval_cases t <;> decide

section
variable {s : State} {h : CmdHdr} {p q : Nat} (hq : payloadOf h p = q) (ht : s.chip.takes h false = true)
include hq ht

theorem exec_tableCommit {e : Nat × Instr} (he : e ∈ tableCommits h p) :
    exec e.2 s = .next (s.ontoBoth (s.chip.tableCommit s.dram e.1 h q)) :=
  (exec_tableCommit_eq he s).trans (firmwareBoth_taken _ _ _ _ s q hq ht)

variable {t first n : Nat} (hT : t = clampN 1 15 (pl q 0 0 8)) (hk : tableRange t (q >>> 32) = (first, n))
include hT hk

/-- TBL_REVERT, where the staging areas and the table's banks are on: the live records over those that nothing locks. -/
theorem exec_tblRevert_of_on {go : List Nat} {r : List Host.Cell × Chip}
    (hon : (s.chip.domainOn 4 && (s.chip.domainOn 3 || (bankAt t).1 = 0)) = true)
    (hgo : go = ((List.range n).map (first + ·)).filter fun i => !s.chip.locked t i)
    (hr : r = s.chip.writeRuns s.dram t [(0, recSize t)] (go.map fun i => (i, s.chip.liveRec t i))) :
    exec (.tblRevert h p) s = .next (s.ontoBoth (r.1,
      r.2.complete h 0x0310 0 (leBytes 4 go.length ++ leBytes 4 (n - go.length)))) := by
  subst hT hr hgo
  show execTblRevert h p s = _
  refine (firmwareBoth_taken _ _ _ _ s q hq ht).trans ?_
  simp only [hk, hon, Bool.not_true, Bool.false_eq_true, if_false, List.length_map, List.length_range]

theorem exec_tblRevert_of_off (hoff : (s.chip.domainOn 4 && (s.chip.domainOn 3 || (bankAt t).1 = 0)) = false) :
    exec (.tblRevert h p) s = .next (s.onto (s.chip.decline h 0x0310 (denied 16))) := by
  subst hT
  show execTblRevert h p s = _
  refine (firmwareBoth_taken _ _ _ _ s q hq ht).trans ?_
  simp only [hoff, Bool.not_false, if_true]
  rfl

end

/-- Settles O27: a table commit by its records and its targeting, and TBL_REVERT by what is on. -/
theorem tableCommitsAndRevertsMoveRecords : Obligations.TableCommitsAndRevertsMoveRecords := by
  unfold Obligations.TableCommitsAndRevertsMoveRecords
  refine ⟨fun s h p q hq ht e he first n c l hk => ⟨fun hon hr => ⟨fun hf => ?clean, fun csn st hl ha => ?accepted,
    fun r x hl htg => ?failing, fun htg => ?missed⟩, fun x hoff htg => ?off⟩,
    fun s h p q t first n hq ht hT hk => ?revert⟩
  case clean =>
    rw [s.chip.readStaging_clean _ _ _ _ hf] at hr
    exact ⟨congrArg Prod.fst hr.symm, congrArg Prod.snd hr.symm⟩
  case accepted => rw [exec_tableCommit hq ht he, s.chip.tableCommit_accepted _ _ hk hon hr hl ha]
  case failing =>
    rw [exec_tableCommit hq ht he, s.chip.tableCommit_of_failing _ _ hk hon hr hl htg]
    rfl
  case missed =>
    rw [exec_tableCommit hq ht he, s.chip.tableCommit_missed _ _ hk hon hr htg]
    rfl
  case off =>
    rw [exec_tableCommit hq ht he, s.chip.tableCommit_of_off _ _ hk hoff htg]
    rfl
  case revert =>
    obtain ⟨hlo, hhi⟩ := clampN_mem (lo := 1) (hi := 15) (by decide) (pl q 0 0 8)
    rw [← hT] at hlo hhi
    have hbank := bankAt_dram hlo hhi
    refine ⟨fun h4 h3 go hgo r hr => exec_tblRevert_of_on hq ht hT hk ?_ hgo hr,
      fun hoff => exec_tblRevert_of_off hq ht hT hk ?_⟩
    · simpa [h4, hbank] using h3
    · obtain h4 | ⟨h3, hne⟩ := hoff
      · simp [h4]
      · simp [h3, hbank, hne]

end Sys2Proof.Machine
end

section
/-! SUPPORT. Check runs (R317, R389 to R391, R457): a context kept while its range is read, then fed, finished and answered. -/

namespace Sys2Proof.Machine

open Sys2Proof

/-! ### A context written twice -/

theorem Store.set_set {α : Type} [DecidableEq α] (d : Nat → α) (m : Sparse α) (k : Nat) (v w : α) :
    Store.set d (Store.set d m k v) k w = Store.set d m k w := by
  have hone : ∀ q : Nat × α → Bool, q (k, v) = false →
      (if v = d k then ([] : Sparse α) else [(k, v)]).filter q = [] := by
    intro q hq
    split <;> simp [hq]
  have hbelow : (Store.set d m k v).filter (fun e => decide (e.1 < k)) = m.filter fun e => decide (e.1 < k) := by
    have hnone : (fun e : Nat × α => decide (e.1 < k) && decide (k < e.1)) = fun _ => false := by
      funext e
      simp only [Bool.and_eq_false_iff, decide_eq_false_iff_not]
      omega
    simp only [Store.set, List.filter_append, hone, List.filter_filter, Bool.and_self, hnone, List.filter_false, List.append_nil,
      Nat.lt_irrefl, decide_false]
  have habove : (Store.set d m k v).filter (fun e => decide (k < e.1)) = m.filter fun e => decide (k < e.1) := by
    have hnone : (fun e : Nat × α => decide (k < e.1) && decide (e.1 < k)) = fun _ => false := by
      funext e
      simp only [Bool.and_eq_false_iff, decide_eq_false_iff_not]
      omega
    simp only [Store.set, List.filter_append, hone, List.filter_filter, Bool.and_self, hnone, List.filter_false, List.nil_append,
      Nat.lt_irrefl, decide_false]
  rw [Store.set, hbelow, habove, Store.set]

theorem length_read (m : List Host.Cell) (a n : Nat) : (Memory.read m a n).length = n := by
  induction n generalizing a with
  | zero => rfl
  | succ n ih => rw [Memory.read, List.length_cons, ih]

section
variable (c : Chip) (x : Nat)

theorem Chip.setCheck_setCheck (u v : CheckUnit) : (c.setCheck x u).setCheck x v = c.setCheck x v := by
  unfold Chip.setCheck
  simp only [Store.set_set]

/-- Where no comparison is asked for, FINISH keeps the result and matches nothing. -/
theorem Chip.checkFinish_of_noCompare (hcfg : bit (c.rd (Reg.CK_CFG x)) 4 = false) : c.checkFinish x =
    c.setCheck x { c.check x with
      done := true, result := algMask (c.algOf x) ((c.check x).run ^^^ algFinal (c.algOf x)), isEqual := false } := by
  simp [Chip.checkFinish, hcfg]

variable (d : List Host.Cell) {addr len : Nat}

/-- With no stored difference anywhere, a range of LPDDR5X that the part does not keep for itself is fed as it stands. -/
theorem Chip.feedRange_of_plain (hmap : ∀ i, i < len → c.mapsTo (addr + i) = true) (hf : c.eccDram.flips = []) :
    c.feedRange d x 0 addr len = c.setCheck x { c.check x with
      run := algFeed (c.algOf x) (c.check x).run (Memory.read d addr len), count := ((c.check x).count + len) % 2 ^ 32 } := by
  have hall : ((List.range len).all fun i => c.mapsTo (addr + i)) = true :=
    List.all_eq_true.mpr fun i hi => hmap i (List.mem_range.mp hi)
  simp only [Chip.feedRange, c.noteRead_clean _ _ _ hf, hall, decide_true, Bool.and_self, if_true, Chip.checkFeed,
    c.fetch_clean _ _ _ hf, length_read]

end

/-! ### The commands -/

section
variable {s : State} {h : CmdHdr} {p q x addr : Nat} (hq : payloadOf h p = q) (ht : s.chip.takes h false = true)
  (hx : x = pl q 0 0 4)
include hq ht hx

theorem exec_diagCheckRun_of_idle (haddr : addr = pl q 8 0 64) (hidle : (s.chip.check x).busy = none) {c d : Chip}
    (hc : c = (if bit (s.chip.rd (Reg.CK_CFG x)) 3 then s.chip
      else (s.chip.wr (Reg.CK_FOLD_LO x) (addr % 2 ^ 32)).wr (Reg.CK_FOLD_HI x) (addr / 2 ^ 32)))
    (hd : d = c.checkStart x) :
    exec (.diagCheckRun h p) s = .next (s.onto (d.setCheck x { d.check x with
      busy := some (some h.chan, h.tag, pl q 0 4 1, addr, pl q 0x10 0 32) })) := by
  subst hx haddr hd hc
  show execDiagCheckRun h p s = _
  refine (firmware_taken _ _ _ _ _ s q hq ht).trans ?_
  simp only [hidle, Option.isSome_none, Bool.false_eq_true, if_false]

theorem exec_diagCheckRun_of_busy (hbusy : (s.chip.check x).busy ≠ none) :
    exec (.diagCheckRun h p) s = .next (s.onto
      (((s.chip.inc Reg.CONFLICT_CNT).wr Reg.CONFLICT_LAST (8 + 2 ^ 31)).decline h 0x0B03 (denied 13))) := by
  subst hx
  show execDiagCheckRun h p s = _
  refine (firmware_taken _ _ _ _ _ s q hq ht).trans ?_
  simp only [Option.isSome_iff_ne_none.mpr hbusy, if_true]

end

section
variable {s : State} {x : Nat} (hx : x < 16)
include hx

theorem exec_checkRunFinish_of_idle (hidle : (s.chip.check x).busy = none) : exec (.checkRunFinish x) s = .next s := by
  show execCheckRunFinish x s = _
  simp [execCheckRunFinish, hx, hidle]

/-- The range read: it is fed, FINISH compares, and the command is answered. -/
theorem exec_checkRunFinish_of_busy {ch : Option Chan} {tag mem addr len : Nat} {c : Chip}
    (hbusy : (s.chip.check x).busy = some (ch, tag, mem, addr, len))
    (hc : c = (s.chip.feedRange s.dram x mem addr len).checkFinish x) :
    exec (.checkRunFinish x) s = .next (s.onto
      ((c.setCheck x { c.check x with busy := none }).respondTo ch 0x0B03 tag
        ⟨if s.chip.poisoned mem addr len then 4 else 0, 0, c.csn,
          leBytes 8 (c.check x).run ++ leBytes 1 (c.check x).isEqual.toNat⟩)) := by
  subst hc
  show execCheckRunFinish x s = _
  simp only [execCheckRunFinish, hx, decide_true, within_true, onChip_eq, hbusy]
  rfl

end

/-- Settles O22: the run begun or denied, and the range fed, finished and answered. -/
theorem checkRunsReadTheirRange : Obligations.CheckRunsReadTheirRange := by
  unfold Obligations.CheckRunsReadTheirRange
  refine ⟨fun s h p q x addr ht hq hx haddr =>
    ⟨fun hidle c d hc hd => exec_diagCheckRun_of_idle hq.symm ht hx haddr hidle hc hd,
    exec_diagCheckRun_of_busy hq.symm ht hx⟩,
    fun s x mem addr len tag ch hx => ⟨exec_checkRunFinish_of_idle hx, fun hbusy =>
      ⟨fun c hc => exec_checkRunFinish_of_busy hx hbusy hc, fun hmem hmap hf hcfg run alg halg hrun => ?plain⟩⟩⟩
  subst hmem hrun halg
  rw [exec_checkRunFinish_of_busy hx hbusy rfl, s.chip.feedRange_of_plain x s.dram hmap hf,
    Chip.checkFinish_of_noCompare (s.chip.setCheck x _) x hcfg,
    Chip.poisoned_clean hf]
  simp only [Chip.setCheck_setCheck, Chip.check_setCheck_same]
  rfl

end Sys2Proof.Machine
end

section
/-! SUPPORT. Commands that firmware does not take yet, and those that their channels cannot carry (R291, R294, R297, R298). -/

namespace Sys2Proof.Machine

open Sys2Proof

/-! ### Words in a run of registers -/

theorem ofLE_leBytes (n : Nat) : ∀ x : Nat, ofLE (leBytes n x) = x % 256 ^ n := by
  induction n with
  | zero => exact fun x => (Nat.mod_one x).symm
  | succ n ih =>
    intro x
    rw [leBytes, ofLE, ih, Nat.pow_succ', Nat.mod_mul, BitVec.toNat_ofNat]

theorem leBytes_mod (n : Nat) : ∀ x : Nat, leBytes n (x % 256 ^ n) = leBytes n x := by
  induction n with
  | zero => exact fun _ => rfl
  | succ n ih =>
    intro x
    have hb : BitVec.ofNat 8 (x % 256 ^ (n + 1)) = BitVec.ofNat 8 x := by
      refine BitVec.eq_of_toNat_eq ?_
      rw [BitVec.toNat_ofNat, BitVec.toNat_ofNat, Nat.mod_mod_of_dvd _ (Dvd.intro_left _ (Nat.pow_succ ..).symm)]
    rw [leBytes, leBytes, hb, Nat.pow_succ', Nat.mod_mul_right_div_self, ih]

theorem leBytes_append (m n : Nat) : ∀ x : Nat, leBytes m x ++ leBytes n (x / 256 ^ m) = leBytes (m + n) x := by
  induction m with
  | zero => exact fun x => by rw [Nat.pow_zero, Nat.div_one, Nat.zero_add]; rfl
  | succ m ih =>
    intro x
    rw [Nat.succ_add, leBytes, leBytes, List.cons_append, Nat.pow_succ', ← Nat.div_div_eq_div_mul, ih]

/-- The words of a number, lowest first, are its octets. -/
theorem flatten_words (x n : Nat) :
    ((List.range n).map fun i => leBytes 4 (x / 2 ^ (32 * i) % 2 ^ 32)).flatten = leBytes (4 * n) x := by
  induction n with
  | zero => rfl
  | succ n ih =>
    have hword : leBytes 4 (x / 2 ^ (32 * n) % 2 ^ 32) = leBytes 4 (x / 256 ^ (4 * n)) := by
      rw [show 2 ^ (32 * n) = 256 ^ (4 * n) by rw [show 32 * n = 8 * (4 * n) by omega, Nat.pow_mul]]
      exact leBytes_mod 4 _
    rw [List.range_succ, List.map_append, List.flatten_append, ih, List.map_singleton, List.flatten_singleton, hword,
      leBytes_append, Nat.mul_succ]

/-! ### A command that waits in a mailbox -/

section
variable (c : Chip) {h : CmdHdr} {m : Nat} (op p : Nat)

/-- An idle mailbox takes the words of a command and is busy with it. -/
theorem Chip.keepWaiting_of_idle (hch : h.chan = .mbox m) (hm : m < 8) (hr : c.barReady (Reg.MB_DOORBELL m) = true)
    (hw : c.power.warm = false) (hb : (c.mbox m).busy = false) (hu : c.unanswered (.mbox m) = false) :
    c.keepWaiting op h p = (c.wrWords (Reg.MB_CMD m 0) 16 (cmdWord op h p)).setMbox m
      { c.mbox m with busy := true, done := false } := by
  simp [Chip.keepWaiting, hch, Nat.not_le.mpr hm, hr, hw, Chip.mboxWaits, hb, hu]

theorem Chip.mboxWord_written (w : Nat) (x : Mailbox) :
    ((c.wrWords (Reg.MB_CMD m 0) 16 w).setMbox m x).mboxWord m = w % 2 ^ 512 := by
  have hwords : ((List.range 16).map fun i => leBytes 4 (((c.wrWords (Reg.MB_CMD m 0) 16 w).setMbox m x).rd (Reg.MB_CMD m i))) =
      (List.range 16).map fun i => leBytes 4 (w / 2 ^ (32 * i) % 2 ^ 32) := by
    refine List.map_congr_left fun i hi => ?_
    have hoff : Reg.MB_CMD m i = Reg.MB_CMD m 0 + 4 * i := by
      unfold Reg.MB_CMD
      omega
    rw [Chip.rd_setMbox, hoff, Chip.rd_wrWords _ _ _ _ _ (List.mem_range.mp hi)]
  rw [Chip.mboxWord, hwords, flatten_words, ofLE_leBytes, show (512 : Nat) = 8 * (4 * 16) from rfl, Nat.pow_mul 2 8]

end

/-! ### What becomes of a command that firmware does not act on -/

/-- Octets that a channel holds (R293). -/
def mostOctets : Chan → Nat
  | .mbox _ => 48
  | .ring _ => 47

/-- The outcome of a command that waits where firmware does not take it, and is answered BAD_COMMAND where its channel cannot
carry it. -/
def ServedAs (op : Nat) (h : CmdHdr) (p : Nat) (s : State) (r : Host.Outcome State Fault Refusal) : Prop :=
  (s.chip.takesFrom h.chan = false → r = .next (s.onto (s.chip.keepWaiting op h p))) ∧
  ∀ d, s.chip.takesFrom h.chan = true → badDetail h op = some d → r = .next (s.onto (s.chip.badCommand h op d))

section
variable {op : Nat} {h : CmdHdr} {p : Nat} {s : State}

/-- A channel answers a listed opcode by its LEN, then by its result. -/
theorem Chip.inChannel_of_bad {α : Type} (c : Chip) (bad : Chip → α) (f : Nat → α) {d : Nat} (hl : listedOpcode op = true)
    (hd : badDetail h op = some d) : c.inChannel op (longOpcode op) h p bad f = bad (c.badCommand h op d) := by
  unfold badDetail at hd
  unfold Chip.inChannel
  cases hch : h.chan with
  | mbox m =>
    simp only [hch, hl, Bool.not_true, Bool.false_eq_true, if_false] at hd
    split at hd
    · next hlen =>
      cases hd
      exact if_pos hlen
    · cases hd
  | ring r =>
    simp only [hch, hl, Bool.not_true, Bool.false_eq_true, if_false] at hd
    split at hd
    · next hlen =>
      cases hd
      exact if_pos hlen
    · next hlen =>
      split at hd
      · next hlong =>
        cases hd
        exact (if_neg hlen).trans (if_pos hlong)
      · cases hd

/-- A command that acts on the part alone. -/
theorem servedAs_part (f : Nat → Chip) {long : Bool} (hl : listedOpcode op = true) (hlong : longOpcode op = long) :
    ServedAs op h p s (.next { s with
      chip := if s.chip.takesFrom h.chan then s.chip.inChannel op long h p id f else s.chip.keepWaiting op h p }) := by
  subst hlong
  refine ⟨fun ht => ?_, fun d ht hd => ?_⟩
  · rw [if_neg (by simp [ht])]
    rfl
  · rw [if_pos ht, Chip.inChannel_of_bad _ _ _ hl hd]
    rfl

/-- A command that acts on LPDDR5X too. -/
theorem servedAs_both (f : Nat → List Host.Cell × Chip) (hl : listedOpcode op = true) (hlong : longOpcode op = false)
    {r : List Host.Cell × Chip}
    (hr : r = if s.chip.takesFrom h.chan then s.chip.inChannel op false h p (fun c => (s.dram, c)) f
      else (s.dram, s.chip.keepWaiting op h p)) : ServedAs op h p s (.next { s with dram := r.1, chip := r.2 }) := by
  subst hr
  rw [← hlong]
  refine ⟨fun ht => ?_, fun d ht hd => ?_⟩
  · rw [if_neg (by simp [ht])]
    rfl
  · rw [if_pos ht, Chip.inChannel_of_bad _ _ _ hl hd]
    rfl

/-- Every listed opcode names a command of firmware. -/
theorem exec_commandOf (hl : listedOpcode op = true) : ServedAs op h p s (exec (commandOf op h p) s) := by
  unfold commandOf
  split
  -- no opcode of the list is left for the last arm
  case h_71 =>
    simp only [imp_false] at *
    unfold listedOpcode at hl
    dsimp only at hl
    split at hl
    all_goals simp only [Bool.and_eq_true, Bool.or_eq_true, decide_eq_true_eq, Bool.false_eq_true] at hl
    all_goals omega
  -- the table commits and TBL_REVERT
  case h_15 | h_16 | h_17 | h_18 | h_19 | h_20 | h_21 | h_22 | h_23 | h_24 | h_25 | h_26 | h_27 | h_28 | h_29 | h_30 =>
    exact servedAs_both _ hl rfl rfl
  all_goals exact servedAs_part _ hl rfl

end

/-! ### Bad commands -/

section
variable {op : Nat} {h : CmdHdr} {s : State}

theorem exec_commandBad_of_waiting (k : BadKind) (ht : s.chip.takesFrom h.chan = false) :
    exec (.commandBad h op k) s = .next (s.onto (s.chip.keepWaiting op h 0)) := by
  show execCommandBad h op k s = _
  rw [execCommandBad, whenTaken_eq, if_neg (by simp [ht])]
  rfl

theorem exec_commandBad_of_taken (k : BadKind) (ht : s.chip.takesFrom h.chan = true) : exec (.commandBad h op k) s =
    .next (s.onto (((badDetail h op).map fun d => s.chip.badCommand h op d).getD s.chip)) := by
  show execCommandBad h op k s = _
  rw [execCommandBad, whenTaken_eq, if_pos ht]
  cases badDetail h op <;> rfl

/-- LEN beyond the channel comes first. -/
theorem badDetail_of_tooLong (hlen : mostOctets h.chan < h.len) : badDetail h op = some 3 := by
  unfold mostOctets at hlen
  unfold badDetail
  cases hch : h.chan <;> (rw [hch] at hlen; exact if_pos hlen)

theorem badDetail_of_unlisted (hlen : h.len ≤ mostOctets h.chan) (hl : listedOpcode op = false) : badDetail h op = some 1 := by
  unfold mostOctets at hlen
  unfold badDetail
  cases hch : h.chan <;> (rw [hch] at hlen; simp [Nat.not_lt.mpr hlen, hl])

/-- A result that a ring cannot carry. -/
theorem badDetail_of_long {r : Nat} (hch : h.chan = .ring r) (hlen : h.len ≤ mostOctets h.chan) (hl : listedOpcode op = true)
    (hlong : longOpcode op = true) : badDetail h op = some 2 := by
  rw [hch] at hlen
  simp only [badDetail, hch, hl, hlong]
  simp [Nat.not_lt.mpr (show h.len ≤ 47 from hlen)]

theorem badDetail_of_good (hlen : h.len ≤ mostOctets h.chan) (hl : listedOpcode op = true)
    (hfits : longOpcode op = false ∨ ∃ m, h.chan = .mbox m) : badDetail h op = none := by
  unfold mostOctets at hlen
  unfold badDetail
  cases hch : h.chan with
  | mbox m =>
    rw [hch] at hlen
    simp [Nat.not_lt.mpr hlen, hl]
  | ring r =>
    rw [hch] at hlen hfits
    have hshort : longOpcode op = false := hfits.resolve_right (by rintro ⟨m, ⟨⟩⟩)
    simp [Nat.not_lt.mpr hlen, hl, hshort]

/-- The opcodes marked M are listed, and their results are long. -/
theorem listed_of_long (hop : op ∈ [0x0401, 0x0805, 0x0904, 0x0B06]) : listedOpcode op = true ∧ longOpcode op = true :=
  (by decide : ∀ o ∈ [0x0401, 0x0805, 0x0904, 0x0B06], listedOpcode o = true ∧ longOpcode o = true) op hop

end

/-- Settles O25: what waits in its channel, then what is answered BAD_COMMAND by each DETAIL. -/
theorem waitingAndBadCommandsAreKeptAndAnswered : Obligations.WaitingAndBadCommandsAreKeptAndAnswered := by
  unfold Obligations.WaitingAndBadCommandsAreKeptAndAnswered
  refine ⟨fun s h op p ht => ⟨fun hl => (exec_commandOf hl).1 ht, fun k => exec_commandBad_of_waiting k ht,
    fun m hch hm hr hw hb hu => ?mailbox⟩, fun s h op most k ht hmost c hc => ?bad⟩
  case mailbox =>
    rw [s.chip.keepWaiting_of_idle op p hch hm hr hw hb hu]
    exact ⟨Chip.mbox_setMbox_same _ _ _, s.chip.mboxWord_written _ _,
      (Chip.setMbox_csn _ _ _).trans (s.chip.keepsLive_wrWords _ _ _).1⟩
  case bad =>
    obtain rfl : most = mostOctets h.chan := hmost.trans (by cases h.chan <;> rfl)
    subst hc
    have hbad : ∀ d, badDetail h op = some d → exec (.commandBad h op k) s = .next (s.onto (s.chip.badCommand h op d)) :=
      fun d hd => by
        rw [exec_commandBad_of_taken k ht, hd]
        rfl
    refine ⟨fun hlen => ?tooLong, fun hlen hl => ?unlisted, fun r hch hlen hop => ?long, fun hlen hl hfits => ?good⟩
    case tooLong =>
      have hd := badDetail_of_tooLong (op := op) hlen
      exact ⟨hbad 3 hd, fun p hl => (exec_commandOf hl).2 3 ht hd⟩
    case unlisted => exact hbad 1 (badDetail_of_unlisted hlen hl)
    case long =>
      obtain ⟨hl, hlong⟩ := listed_of_long hop
      have hd := badDetail_of_long hch hlen hl hlong
      exact ⟨hbad 2 hd, fun p => (exec_commandOf hl).2 2 ht hd⟩
    case good =>
      rw [exec_commandBad_of_taken k ht, badDetail_of_good hlen hl hfits]
      rfl

end Sys2Proof.Machine
end

section
/-! SUPPORT. DIAG_ECC_INJECT and DIAG_DEBUG_UNLOCK (R317, R394, R396, R444): what a response leaves of the codes of stored words,
of the power block and of CSN_LIVE, and which bits differ in the word named. -/

namespace Sys2Proof.Machine

open Sys2Proof

/-! ### What a response leaves -/

section
variable (c : Chip)

theorem Chip.wrWords_regs (n : Nat) : ∀ (c : Chip) (off v : Nat),
    c.wrWords off n v = { c with regs := (c.wrWords off n v).regs } := by
  induction n with
  | zero => exact fun _ _ _ => rfl
  | succ n ih =>
    intro c off v
    rw [Chip.wrWords, ih]
    rfl

/-- A response is an entry posted by a part whose registers, mailboxes and rings it has changed. -/
theorem Chip.respond_posts (ch : Chan) (op tag : Nat) (a : Answer) : ∃ (d : Chip) (e : Raised),
    c.respond ch op tag a = d.gatherPost e ∧ d = { c with regs := d.regs, mboxes := d.mboxes, rings := d.rings } := by
  cases ch with
  | mbox m =>
    refine ⟨c.withResponse m op tag a, _, rfl, ?_⟩
    rw [Chip.withResponse, Chip.wrWords_regs]
    rfl
  | ring r =>
    refine ⟨if (c.ring r).taken then c.consumed r else c, _, rfl, ?_⟩
    split <;> rfl

variable (h : CmdHdr) (op st : Nat) (res : List Byte)

theorem Chip.power_complete : (c.complete h op st res).power = c.power := by
  obtain ⟨d, e, hpost, hd⟩ := c.respond_posts h.chan op h.tag ⟨st, 0, c.csn, res⟩
  rw [Chip.complete, hpost, (d.sameButEvents_gatherPost e).power, hd]

theorem Chip.csn_complete : (c.complete h op st res).csn = c.csn := (c.keepsLive_complete h op st res).1

/-- Lagoon's codes below the window of the rings, where events are stored. -/
theorem Chip.at_gatherPost {x : Nat} (hx : x < lagoonRings) (e : Raised) :
    (c.gatherPost e).eccLagoon.at x = c.eccLagoon.at x := by
  unfold Chip.gatherPost Chip.postEvent
  split
  · dsimp only
    split
    · exact c.at_post hx _ _ _ _ _
    split
    · rfl
    · exact c.at_post hx _ _ _ _ _
  · rfl

theorem Chip.at_complete {m x : Nat} (hx : m = 0 ∨ x < lagoonRings) :
    ((c.complete h op st res).ecc m).at x = (c.ecc m).at x := by
  obtain ⟨d, e, hpost, hd⟩ := c.respond_posts h.chan op h.tag ⟨st, 0, c.csn, res⟩
  rw [Chip.complete, hpost]
  unfold Chip.ecc
  split
  · rw [(d.sameButEvents_gatherPost e).1, hd]
  · next hm => rw [d.at_gatherPost (hx.resolve_left hm), hd]

end

/-! ### What the read of a range leaves of the power block -/

theorem Chip.power_setEcc (c : Chip) (m : Nat) (e : Ecc) : (c.setEcc m e).power = c.power := by
  unfold Chip.setEcc
  split <;> rfl

theorem Chip.power_ueNoted (c : Chip) (m cls w : Nat) : (c.ueNoted m cls w).power = c.power := by
  show (Chip.latchUe _ m cls w).power = c.power
  unfold Chip.latchUe
  split <;> rfl

theorem Chip.power_noteWord (c : Chip) (m cls w : Nat) : (c.noteWord m cls w).power = c.power := by
  by_cases h : (c.ecc m).at w = 0
  · rw [Chip.noteWord, if_pos h]
  cases hd : doubleBit ((c.ecc m).at w) with
  | false =>
    obtain ⟨lo, hi, hnote⟩ := c.noteWord_of_single cls h hd
    rw [hnote]
    exact Chip.power_setEcc _ _ _
  | true =>
    obtain ⟨e, -, hnote | ⟨items, hnote⟩⟩ := c.noteWord_of_double cls h hd
    · rw [hnote, Chip.power_setEcc, Chip.power_ueNoted]
    · rw [hnote, (Chip.sameButEvents_raise _ _ _ _).power, Chip.power_setEcc, Chip.power_ueNoted]

theorem Chip.power_noteRead (c : Chip) (m cls a n : Nat) : (c.noteRead m cls a n).power = c.power :=
  List.foldlRecOn _ _ (motive := fun d : Chip => d.power = c.power) rfl fun d hd w _ => (d.power_noteWord m cls w).trans hd

/-! ### Bits that differ -/

/-- The bits of a word are counted by the set of their places. -/
theorem popcount_eq_card {v : BitVec 64} {l : Finset Nat} (hl : ∀ i, i ∈ l ↔ i < 64 ∧ v.getLsbD i = true) :
    popcount v = l.card := by
  have hset : ((List.range 64).filter fun i => v.getLsbD i).toFinset = l := by
    ext i
    rw [hl, List.mem_toFinset, List.mem_filter, List.mem_range]
  rw [popcount, ← hset, List.toFinset_card_of_nodup (List.nodup_range.filter _)]

theorem popcount_twoPow {b : Nat} (hb : b < 64) : popcount (BitVec.twoPow 64 b) = 1 := by
  rw [popcount_eq_card (l := {b}) fun i => ?_, Finset.card_singleton]
  rw [Finset.mem_singleton, BitVec.getLsbD_twoPow, Bool.and_eq_true, decide_eq_true_eq, decide_eq_true_eq]
  omega

theorem popcount_two_twoPows {a b : Nat} (ha : a < 64) (hb : b < 64) (hne : a ≠ b) :
    popcount (BitVec.twoPow 64 a ^^^ BitVec.twoPow 64 b) = 2 := by
  rw [popcount_eq_card (l := {a, b}) fun i => ?_, Finset.card_pair hne]
  simp only [Finset.mem_insert, Finset.mem_singleton, BitVec.getLsbD_xor, BitVec.getLsbD_twoPow, ha, hb, decide_true,
    Bool.true_and, bne_iff_ne, ne_eq, decide_eq_decide]
  omega

/-! ### DIAG_ECC_INJECT -/

/-- The stored bits that DIAG_ECC_INJECT flips: one, or two. -/
def Chip.flipMask (c : Chip) (two : Bool) : BitVec 64 :=
  BitVec.twoPow 64 (c.free % 64) ^^^
    if two then BitVec.twoPow 64 ((c.free % 64 + 1 + c.drew.free % 63) % 64) else 0

theorem Chip.popcount_flipMask (c : Chip) (two : Bool) : popcount (c.flipMask two) = if two then 2 else 1 := by
  have h1 : c.free % 64 < 64 := Nat.mod_lt _ (by decide)
  cases two with
  | false => exact (congrArg popcount (BitVec.xor_zero ..)).trans (popcount_twoPow h1)
  | true => exact popcount_two_twoPows h1 (Nat.mod_lt _ (by decide)) (by omega)

/-! ### An epoch revoked (R444) -/

/-- The part with the key row of an epoch as the fuses then read, and the epoch revoked. -/
def Chip.withRevoked (c : Chip) (e : Nat) (row : BitVec 256) : Chip :=
  { c.drew.drew.drew.drew.drew with power := { c.power with
    revoked := c.power.revoked.set e true, provisioned := c.power.provisioned.set e false
    keyRows := c.power.keyRows.set e row, unwrapped := [] } }

/-- The part with debug open. -/
def Chip.withDebug (c : Chip) : Chip := ({ c with power := { c.power with debug := true } } : Chip).setEvt Reg.PWR_EVT 16

section
variable {s : State} {h : CmdHdr} {p q : Nat} (hq : payloadOf h p = q) (ht : s.chip.takes h false = true)
include hq ht

/-- The word named has its bits flipped. -/
theorem exec_diagEccInject {w m : Nat} (hw : w = pl q 8 0 64 / 8 * 8) (hm : m = pl q 0 0 1) (hin : w < s.chip.memSize m) :
    exec (.diagEccInject h p) s = .next (s.onto ((s.chip.drew.drew.setEcc m
      ((s.chip.ecc m).put w ((s.chip.ecc m).at w ^^^ s.chip.flipMask (bit q 1)))).complete h 0x0B02 0 [])) := by
  subst hw hm
  show execDiagEccInject h p s = _
  refine (firmware_taken _ _ _ _ _ s q hq ht).trans ?_
  have hin' : pl q 8 0 64 / 8 * 8 < s.chip.drew.drew.memSize (pl q 0 0 1) := hin
  simp only [hin', if_true]
  rfl

/-! ### DIAG_DEBUG_UNLOCK -/

theorem exec_diagDebugUnlock_of_epoch (he : s.chip.power.epoch ≠ some (pl q 0 0 3)) :
    exec (.diagDebugUnlock h p) s = .next (s.onto (s.chip.decline h 0x0B05 (denied 12))) := by
  show execDiagDebugUnlock h p s = _
  refine (firmware_taken _ _ _ _ _ s q hq ht).trans ?_
  simp [he]

variable {k : List Byte} (hk : k = s.chip.fetch s.dram (pl q 8 0 64) (min 256 (pl q 0x10 0 32)))
  (he : s.chip.power.epoch = some (pl q 0 0 3)) {c : Chip} (hc : c = s.chip.noteRead 0 8 (pl q 8 0 64) (min 256 (pl q 0x10 0 32)))
include hk he hc

/-- What becomes of a token: it is refused, or it revokes its epoch, and opens debug where the fuses read back blown. -/
theorem exec_diagDebugUnlock : exec (.diagDebugUnlock h p) s = .next (s.onto
    (if k.length ≠ 256 ∨ tokenHolds (pl q 0 0 3) k = false then c.decline h 0x0B05 ⟨9, 0, 0⟩
    else if c.free % 2 = 0 then ((c.withRevoked (pl q 0 0 3) (BitVec.allOnes 256)).withDebug.raise 5 0x0603
      (it4 (pl q 0 0 3) ++ it8 c.csn)).complete h 0x0B05 0 []
    else (c.withRevoked (pl q 0 0 3) (c.drew.free256 ||| c.power.keyRows.getD (pl q 0 0 3) 0)).complete h 0x0B05 4 [])) := by
  have hepoch : c.power.epoch = some (pl q 0 0 3) := by rw [hc, Chip.power_noteRead, he]
  show execDiagDebugUnlock h p s = _
  refine (firmware_taken _ _ _ _ _ s q hq ht).trans ?_
  simp only [he, if_true, ← hk, ← hc, hepoch, bne_self_eq_false, Bool.false_eq_true, if_false, Bool.or_eq_true,
    decide_eq_true_eq, Bool.not_eq_true']
  by_cases hbad : k.length ≠ 256 ∨ tokenHolds (pl q 0 0 3) k = false
  · rw [if_pos hbad, if_pos hbad]
  rw [if_neg hbad, if_neg hbad]
  by_cases hblown : c.free % 2 = 0
  · simp only [hblown, beq_self_eq_true, Bool.true_eq_false, if_false, if_true]
    rfl
  · simp only [beq_eq_false_iff_ne.mpr hblown, if_true, Bool.false_eq_true, if_false, if_neg hblown]
    rfl

end

/-- Settles O26: the bits flipped in the word named, and what becomes of the token. -/
theorem diagnosticsActOnWhatTheyName : Obligations.DiagnosticsActOnWhatTheyName := by
  unfold Obligations.DiagnosticsActOnWhatTheyName
  refine fun s h p q hq ht => ⟨fun w m hw hm hin hbelow hclean => ⟨_, exec_diagEccInject hq ht hw hm hin, rfl, ?inject⟩,
    exec_diagDebugUnlock_of_epoch hq ht, fun k hk he => ⟨fun hbad => ?badToken,
      fun hlen hholds => ⟨_, exec_diagDebugUnlock hq ht hk he rfl, rfl, ?unlock⟩⟩⟩
  case inject =>
    have hflip : (s.chip.ecc m).at w ^^^ s.chip.flipMask (bit q 1) = s.chip.flipMask (bit q 1) := by
      rw [hclean]
      exact BitVec.zero_xor
    rw [hflip]
    have hat : ∀ x, (m = 0 ∨ x < lagoonRings) → ((((s.chip.drew.drew.setEcc m ((s.chip.ecc m).put w
        (s.chip.flipMask (bit q 1)))).complete h 0x0B02 0 []).ecc m).at x) =
        ((s.chip.ecc m).put w (s.chip.flipMask (bit q 1))).at x := fun x hx => by
      rw [Chip.at_complete _ _ _ _ _ hx, Chip.ecc_setEcc]
    refine ⟨fun hone => ?_, fun htwo => ?_, fun x hx hxb => ?_, ?_⟩
    · rw [State.onto_chip, hat w hbelow, Ecc.at_put_same, Chip.popcount_flipMask, hone]
      rfl
    · rw [State.onto_chip, hat w hbelow, Ecc.at_put_same, Chip.popcount_flipMask, htwo]
      rfl
    · rw [State.onto_chip, hat x hxb, Ecc.at_put_ne _ _ hx]
    · rw [State.onto_chip, Chip.csn_complete]
      unfold Chip.setEcc
      split <;> rfl
  case badToken => rw [exec_diagDebugUnlock hq ht hk he rfl, if_pos hbad]
  case unlock =>
    rw [State.onto_chip, if_neg (by simp [hlen, hholds])]
    generalize hc : s.chip.noteRead 0 8 (pl q 8 0 64) (min 256 (pl q 0x10 0 32)) = c
    have hpow : c.power = s.chip.power := by rw [← hc, Chip.power_noteRead]
    have hcsn : c.csn = s.chip.csn := by
      rw [← hc]
      exact (s.chip.keepsLive_noteRead _ _ _ _).1
    rw [← hpow, ← hcsn]
    split
    · rw [Chip.power_complete, (Chip.sameButEvents_raise _ _ _ _).power, Chip.csn_complete, (Chip.keepsLive_raise _ _ _ _).1]
      exact ⟨rfl, rfl, .inl ⟨rfl, rfl⟩, rfl, rfl⟩
    · rw [Chip.power_complete, Chip.csn_complete]
      exact ⟨rfl, rfl, .inr rfl, rfl, rfl⟩

end Sys2Proof.Machine
end

section
/-! SUPPORT. The check units as the host works them (R389 to R391, R463): what START and FINISH leave of a context, and each write by
whether the context runs a command. -/

namespace Sys2Proof.Machine

open Sys2Proof

/-! ### START and FINISH -/

/-- The four check values (R389). -/
theorem checkValues_of_digits (l : List Byte) (h : l = [0x31, 0x32, 0x33, 0x34, 0x35, 0x36, 0x37, 0x38, 0x39]) :
    algMask 0 (algFeed 0 (algInit 0) l ^^^ algFinal 0) = 0xE3069283 ∧
    algMask 1 (algFeed 1 (algInit 1) l ^^^ algFinal 1) = 0xCBF43926 ∧
    algMask 2 (algFeed 2 (algInit 2) l ^^^ algFinal 2) = 0x6C40DF5F0B497347 ∧
    algMask 3 (algFeed 3 (algInit 3) l ^^^ algFinal 3) = 0x29B1 := by
  subst h
  decide +kernel

section
variable (c : Chip) (x : Nat)

/-- The fold feeds eight octets at most. -/
theorem Chip.length_foldOctets : (c.foldOctets x).length < 2 ^ 32 := by
  have hfour : ∀ n, (leBytes 4 n).length = 4 := fun _ => rfl
  unfold Chip.foldOctets
  extract_lets cfg
  split
  · decide
  · split <;> simp only [List.length_append, hfour] <;> decide

theorem Chip.foldOctets_eq : c.foldOctets x = if bit (c.rd (Reg.CK_CFG x)) 2 then leBytes 4 (c.rd (Reg.CK_FOLD_LO x)) ++
    (if bit (c.rd (Reg.CK_CFG x)) 3 then [] else leBytes 4 (c.rd (Reg.CK_FOLD_HI x))) else [] := by
  unfold Chip.foldOctets
  cases h2 : bit (c.rd (Reg.CK_CFG x)) 2 <;> cases h3 : bit (c.rd (Reg.CK_CFG x)) 3 <;> simp [h2, h3]

theorem Chip.checkStart_eq : c.checkStart x = c.setCheck x { c.check x with
    run := algFeed (c.algOf x) (algInit (c.algOf x)) (c.foldOctets x), count := (c.foldOctets x).length
    done := false, isEqual := false, collide := false } := by
  simp only [Chip.checkStart, Chip.checkFeed, Chip.setCheck_setCheck, Chip.check_setCheck_same, Nat.zero_add,
    Nat.mod_eq_of_lt (c.length_foldOctets x)]
  rfl

variable {cfg result expect : Nat} {same : Bool} (hcfg : cfg = c.rd (Reg.CK_CFG x))
  (hresult : result = algMask (c.algOf x) ((c.check x).run ^^^ algFinal (c.algOf x)))
  (hexpect : expect = algMask (c.algOf x) (c.rd (Reg.CK_EXPECT_LO x) + c.rd (Reg.CK_EXPECT_HI x) * 2 ^ 32))
  (hsame : same = (bit cfg 4 && result == expect))
  {d : Chip} (hd : d = c.setCheck x { c.check x with done := true, result := result, isEqual := same })
include hcfg hresult hexpect hsame hd

theorem Chip.checkFinish_eq : c.checkFinish x = if bit cfg 4 && !same then
    (if bit cfg 5 then (d.setEvt (Reg.CK_EVT x) 1).raise 6 0x0702 (it4 x ++ it4 (result % 2 ^ 32) ++ it4 (expect % 2 ^ 32))
      else d.setEvt (Reg.CK_EVT x) 1) else d := by
  subst hcfg hresult hexpect hsame hd
  rfl

end

/-! ### The writes -/

section
variable {s : State} {x : Nat} (v : Word) (hx : x < 16)
include hx

/-- Both rows of CKx_CTRL are the one write of it. -/
theorem exec_ckxCtrl (h : s.chip.takesWrite (Reg.CK_CTRL x) = true) {i : Instr} (hi : i ∈ [Instr.ckxStart x v, .ckxFinish x v]) :
    exec i s = .next (s.onto (s.chip.checkCtrl x v.toNat)) := by
  simp only [List.mem_cons, List.not_mem_nil, or_false] at hi
  obtain rfl | rfl := hi
  · show execCkxStart x v s = _
    rw [execCkxStart, decide_eq_true hx, within_true, regCommand_taken _ h]
  · show execCkxFinish x v s = _
    rw [execCkxFinish, decide_eq_true hx, within_true, regCommand_taken _ h]

theorem exec_ckxDataWrite (hi : Bool) {be : Nat} (hbe : 0 < be) (h : s.chip.takesWrite (Reg.CK_DATA x hi.toNat) = true) :
    exec (.ckxDataWrite x hi v be) s =
      .next (s.onto (s.chip.onCheck x fun c => c.checkFeed x (enabledOctets v.toNat be))) := by
  show execCkxDataWrite x hi v be s = _
  rw [execCkxDataWrite, decide_eq_true hx, within_true, if_neg hbe.ne', regCommand_taken _ h]

theorem exec_ckxDataWrite_of_noOctet (hi : Bool) : exec (.ckxDataWrite x hi v 0) s = .next s := by
  show execCkxDataWrite x hi v 0 s = _
  rw [execCkxDataWrite, decide_eq_true hx, within_true, if_pos rfl]

theorem exec_ckxRunWrite (hi : Bool) (h : s.chip.takesWrite (if hi then Reg.CK_RUN_HI x else Reg.CK_RUN_LO x) = true) :
    exec (.ckxRunWrite x hi v) s = .next (s.onto (s.chip.onCheck x fun c => c.checkLoad x hi v.toNat)) := by
  show execCkxRunWrite x hi v s = _
  rw [execCkxRunWrite, decide_eq_true hx, within_true, regCommand_taken _ h]

end

section
variable (c : Chip) (x : Nat) (f : Chip → Chip)

theorem Chip.onCheck_of_idle (h : (c.check x).busy = none) : c.onCheck x f = f c := by
  rw [Chip.onCheck, h]
  rfl

theorem Chip.onCheck_of_busy (h : (c.check x).busy ≠ none) : c.onCheck x f = c.checkCollide x :=
  if_pos (Option.isSome_iff_ne_none.mpr h)

theorem Chip.checkCtrl_of_idle (v : Word) (h : (c.check x).busy = none) : c.checkCtrl x v.toNat =
    (if v.getLsbD 1 then (if v.getLsbD 0 then c.checkStart x else c).checkFinish x
      else if v.getLsbD 0 then c.checkStart x else c) :=
  c.onCheck_of_idle x _ h

end

/-- Settles O21: the check values, and each write by whether the context runs a command; FINISH by what the comparison finds. -/
theorem checkUnitsFollowTheirAlgorithm : Obligations.CheckUnitsFollowTheirAlgorithm := by
  unfold Obligations.CheckUnitsFollowTheirAlgorithm
  refine ⟨checkValues_of_digits, ?_⟩
  rintro s x alg cfg v u hx rfl rfl rfl
  refine ⟨fun hidle => ⟨fun h i hi => ⟨fun fold hfold h0 h1 => ?start, ?finish, fun h0 h1 => ?both, fun h0 h1 => ?neither⟩,
      fun hi be hbe h => ?data, fun h => ?low, fun h => ?high⟩,
    fun hi => exec_ckxDataWrite_of_noOctet v hx hi, fun hbusy c hc => ⟨fun h => ⟨?busyStart, ?busyFinish⟩,
      fun hi be hbe h => ?busyData, fun h => ?busyLow, fun h => ?busyHigh⟩⟩
  case start =>
    rw [exec_ckxCtrl v hx h hi, Chip.checkCtrl_of_idle _ _ _ hidle, h0, h1, hfold, ← Chip.foldOctets_eq]
    exact congrArg (Host.Outcome.next ∘ s.onto) (s.chip.checkStart_eq x)
  case finish =>
    intro result expect same hresult hexpect hsame h0 h1 c hc
    have hfinish : exec i s = .next (s.onto (s.chip.checkFinish x)) := by
      rw [exec_ckxCtrl v hx h hi, Chip.checkCtrl_of_idle _ _ _ hidle, h0, h1]
      rfl
    rw [hfinish, s.chip.checkFinish_eq x rfl hresult hexpect hsame hc]
    refine ⟨fun hfit => ?_, fun h4 hne h5 => ?_, fun h4 hne h5 => ?_⟩
    · rw [if_neg]
      rcases hfit with hfit | hfit <;> simp [hfit]
    · rw [h4, hne, h5]
      rfl
    · rw [h4, hne, h5]
      rfl
  case both =>
    rw [exec_ckxCtrl v hx h hi, Chip.checkCtrl_of_idle _ _ _ hidle, h0, h1]
    rfl
  case neither =>
    rw [exec_ckxCtrl v hx h hi, Chip.checkCtrl_of_idle _ _ _ hidle, h0, h1]
    rfl
  case data =>
    rw [exec_ckxDataWrite v hx hi hbe h, Chip.onCheck_of_idle _ _ _ hidle]
    rfl
  case low =>
    rw [exec_ckxRunWrite v hx false h, Chip.onCheck_of_idle _ _ _ hidle]
    rfl
  case high =>
    rw [exec_ckxRunWrite v hx true h, Chip.onCheck_of_idle _ _ _ hidle]
    rfl
  all_goals subst hc
  case busyStart =>
    rw [exec_ckxCtrl v hx h (List.mem_cons_self ..), Chip.checkCtrl, Chip.onCheck_of_busy _ _ _ hbusy, Chip.checkCollide]
  case busyFinish =>
    rw [exec_ckxCtrl v hx h (List.mem_cons_of_mem _ (List.mem_cons_self ..)), Chip.checkCtrl, Chip.onCheck_of_busy _ _ _ hbusy,
      Chip.checkCollide]
  case busyData => rw [exec_ckxDataWrite v hx hi hbe h, Chip.onCheck_of_busy _ _ _ hbusy, Chip.checkCollide]
  case busyLow => rw [exec_ckxRunWrite v hx false h, Chip.onCheck_of_busy _ _ _ hbusy, Chip.checkCollide]
  case busyHigh => rw [exec_ckxRunWrite v hx true h, Chip.onCheck_of_busy _ _ _ hbusy, Chip.checkCollide]

end Sys2Proof.Machine
end

section
/-! SUPPORT. The Strait link while it is up (R328, R329): what the acceptance of a commit leaves of the pair, what the loss of the link
sets, and the rows as they answer, case by case. -/

namespace Sys2Proof.Machine

open Sys2Proof

/-! ### What the pair keeps -/

theorem Chip.SameButEvents.pair {c d : Chip} (h : c.SameButEvents d) : d.pair = c.pair := by rw [h.1]
theorem Chip.SameButEvents.update {c d : Chip} (h : c.SameButEvents d) : d.update = c.update := by rw [h.1]
theorem Chip.SameButEvents.arbiter {c d : Chip} (h : c.SameButEvents d) : d.arbiter = c.arbiter := by rw [h.1]

section
variable {α : Type} {p : Prop} [Decidable p] (a b : Chip) (f : Chip → α → Chip) (l : List α) (c : Chip)

@[simp] theorem Chip.pair_ite : (if p then a else b).pair = if p then a.pair else b.pair := apply_ite ..

@[simp] theorem Chip.pair_foldl (h : ∀ d e, (f d e).pair = d.pair) : (l.foldl f c).pair = c.pair :=
  List.foldlRecOn l f (motive := fun d => d.pair = c.pair) rfl fun d hd e _ => (h d e).trans hd

end

section
variable (c : Chip)

@[simp] theorem Chip.pair_inc (off : Nat) : (c.inc off).pair = c.pair := rfl
@[simp] theorem Chip.pair_setEvt (off mask : Nat) : (c.setEvt off mask).pair = c.pair := rfl
@[simp] theorem Chip.pair_notePeak : c.notePeak.pair = c.pair := rfl

@[simp] theorem Chip.pair_gatherPost (e : Raised) : (c.gatherPost e).pair = c.pair := (c.sameButEvents_gatherPost e).pair

@[simp] theorem Chip.pair_raise (src code : Nat) (items : List Byte) : (c.raise src code items).pair = c.pair :=
  (c.sameButEvents_raise src code items).pair

@[simp] theorem Chip.pair_wrWords (off n v : Nat) : (c.wrWords off n v).pair = c.pair := by
  induction n generalizing c off v with
  | zero => rfl
  | succ n ih => exact ih _ _ _

@[simp] theorem Chip.pair_respond (ch : Chan) (op tag : Nat) (a : Answer) : (c.respond ch op tag a).pair = c.pair := by
  cases ch with
  | mbox m => simp [Chip.respond]
  | ring r => simp [Chip.respond, Chip.consumed]

@[simp] theorem Chip.pair_writePending (l : List Change) : (c.writePending l).pair = c.pair :=
  Chip.pair_foldl _ _ _ fun d e => by split <;> rfl

@[simp] theorem Chip.pair_accept (m : Commit) : (c.accept m).pair = c.pair := by
  unfold Chip.accept
  extract_lets d
  split
  · rfl
  · exact d.pair_writePending _

@[simp] theorem Chip.pair_refuse (h : CmdHdr) (op : Nat) (r : Refuse) : (c.refuse h op r).pair = c.pair := c.pair_respond ..

@[simp] theorem Chip.pair_acceptHost (h : CmdHdr) (op csn status : Nat) (l : List Change) (r : List Byte) :
    (c.acceptHost h op csn status l r).pair = c.pair := by simp [Chip.acceptHost]

@[simp] theorem Chip.pair_failTask (k : Nat) (r : TaskResult) : (c.failTask k r).pair = c.pair := by simp [Chip.failTask]

@[simp] theorem Chip.pair_readyTask (k : Nat) (b : Bool) : (c.readyTask k b).pair = c.pair := by simp [Chip.readyTask]

@[simp] theorem Chip.pair_readyWhere (p : Task → Bool) : (c.readyWhere p).pair = c.pair := by simp [Chip.readyWhere]

@[simp] theorem Chip.pair_setFlag (k : Nat) (late : Bool) (csn : Nat) : (c.setFlag k late csn).pair = c.pair := by
  simp [Chip.setFlag]

@[simp] theorem Chip.pair_acceptTask (k : Nat) (l : List Change) : (c.acceptTask k l).pair = c.pair := by
  unfold Chip.acceptTask
  extract_lets t csn d e
  have he : e.pair = c.pair := c.pair_accept _
  split
  · exact c.pair_failTask _ _
  split
  · exact (e.pair_setFlag ..).trans he
  · exact he

@[simp] theorem Chip.pair_callExplicit (chan : Option Chan) (tag : Nat) : (c.callExplicit chan tag).pair = c.pair := rfl

end

/-! ### Commits that wait for the standby (R324, R325) -/

/-- What the acceptance of a commit that has waited leaves of the pair: the link frames sent count on, and a standby that misses
something is stale. -/
def Chip.KeepsWaiting (c d : Chip) : Prop :=
  d.pair = { c.pair with peerStale := d.pair.peerStale, txSeq := d.pair.txSeq, keep := d.pair.keep } ∧
    (c.pair.peerStale = true → d.pair.peerStale = true)

namespace Chip.KeepsWaiting
variable {c d e : Chip}

theorem of_pair (h : d.pair = c.pair) : c.KeepsWaiting d := ⟨by rw [h], fun hs => by rw [h, hs]⟩

theorem trans (h : c.KeepsWaiting d) (k : d.KeepsWaiting e) : c.KeepsWaiting e :=
  ⟨by rw [k.1, h.1], fun hs => k.2 (h.2 hs)⟩

theorem mirrorWait (h : c.KeepsWaiting d) : d.pair.mirrorWait = c.pair.mirrorWait := by rw [h.1]
theorem acked (h : c.KeepsWaiting d) : d.pair.acked = c.pair.acked := by rw [h.1]

end Chip.KeepsWaiting

section
variable (c : Chip)

/-- What is sent over the link adds to the frames sent and kept. -/
theorem Chip.pair_sendLink (k : LinkPayload) : (c.sendLink k).pair = { c.pair with
    txSeq := (c.sendLink k).pair.txSeq, keep := (c.sendLink k).pair.keep } := by
  have hemit : ∀ l : List (Nat × List Byte), (l.foldl (fun d e => Chip.emit d (.link e.1 e.2)) c).pair = c.pair := fun l =>
    Chip.pair_foldl (fun d e => Chip.emit d (.link e.1 e.2)) l c fun _ _ => rfl
  simp only [Chip.sendLink, hemit]

theorem Chip.pair_tellMissed (csn : Nat) : (c.tellMissed csn).pair = { c.pair with
    peerStale := true, txSeq := (c.tellMissed csn).pair.txSeq, keep := (c.tellMissed csn).pair.keep } := by
  unfold Chip.tellMissed
  extract_lets q d
  split
  · exact d.pair_sendLink _
  · rfl

theorem Chip.keepsWaiting_tellMissed (csn : Nat) : c.KeepsWaiting (c.tellMissed csn) := by
  constructor <;> rw [c.pair_tellMissed csn]
  exact fun _ => rfl

theorem Chip.keepsWaiting_tellMissed_ite (p : Prop) [Decidable p] (csn : Nat) :
    c.KeepsWaiting (if p then c.tellMissed csn else c) := by
  split
  · exact c.keepsWaiting_tellMissed csn
  · exact .of_pair rfl

theorem Chip.keepsWaiting_crossWaited (w : MirrorWait) : c.KeepsWaiting (c.crossWaited w) := by
  unfold Chip.crossWaited
  split
  · exact .of_pair rfl
  extract_lets d
  refine (c.keepsWaiting_tellMissed w.commit.target).trans ?_
  split
  · exact .of_pair (d.pair_refuse ..)
  · exact .of_pair rfl

theorem Chip.keepsWaiting_refusedWaited (csn op : Nat) (h : CmdHdr) (r : Refuse) :
    c.KeepsWaiting ((c.tellMissed csn).refuse h op r) :=
  (c.keepsWaiting_tellMissed csn).trans (.of_pair (Chip.pair_refuse ..))

theorem Chip.keepsWaiting_acceptWaited (w : MirrorWait) (h : CmdHdr) : c.KeepsWaiting (c.acceptWaited w h) := by
  unfold Chip.acceptWaited
  split
  · exact c.keepsWaiting_refusedWaited ..
  next csn status _ =>
    extract_lets d
    have hd : c.KeepsWaiting d := by
      unfold d
      split
      · exact .of_pair rfl
      · exact c.keepsWaiting_tellMissed _
    refine hd.trans ?_
    split
    · exact d.keepsWaiting_refusedWaited ..
    · exact .of_pair (d.pair_acceptHost ..)

theorem Chip.keepsWaiting_acceptMirrored (w : MirrorWait) : c.KeepsWaiting (c.acceptMirrored w) := by
  unfold Chip.acceptMirrored
  split
  · exact c.keepsWaiting_crossWaited w
  split
  · exact c.keepsWaiting_acceptWaited w _
  extract_lets d
  have hd : c.KeepsWaiting d := c.keepsWaiting_tellMissed_ite _ _
  refine hd.trans ?_
  split
  · split
    · exact d.keepsWaiting_tellMissed _
    · exact .of_pair (d.pair_accept _)
  · exact .of_pair (Chip.pair_acceptTask ..)

/-- Each commit that is accepted leaves the head of those that wait. -/
theorem Chip.mirrorWait_acceptAll (l : List MirrorWait) : ∀ c : Chip,
    let d := l.foldl (fun c w => (c.setPair { c.pair with mirrorWait := c.pair.mirrorWait.drop 1 }).acceptMirrored w) c
    d.pair.acked = c.pair.acked ∧ d.pair.mirrorWait = c.pair.mirrorWait.drop l.length := by
  induction l with
  | nil => exact fun c => ⟨rfl, rfl⟩
  | cons w l ih =>
    intro c
    have hw := Chip.keepsWaiting_acceptMirrored (c.setPair { c.pair with mirrorWait := c.pair.mirrorWait.drop 1 }) w
    obtain ⟨hacked, hwait⟩ := ih ((c.setPair { c.pair with mirrorWait := c.pair.mirrorWait.drop 1 }).acceptMirrored w)
    refine ⟨hacked.trans hw.acked, hwait.trans ?_⟩
    rw [hw.mirrorWait, Chip.setPair_pair, List.drop_drop, List.length_cons, Nat.add_comm]

theorem drop_length_takeWhile {α : Type} (p : α → Bool) (l : List α) : l.drop (l.takeWhile p).length = l.dropWhile p := by
  have h := List.drop_left (l₁ := l.takeWhile p) (l₂ := l.dropWhile p)
  rwa [List.takeWhile_append_dropWhile] at h

theorem Chip.ackMirrored_parts (seq : Nat) : (c.ackMirrored seq).pair.acked = c.pair.acked ∧
    (c.ackMirrored seq).pair.mirrorWait = c.pair.mirrorWait.dropWhile fun w => seqUpTo w.seq seq := by
  obtain ⟨hacked, hwait⟩ := Chip.mirrorWait_acceptAll (c.pair.mirrorWait.takeWhile fun w => seqUpTo w.seq seq) c
  exact ⟨hacked, hwait.trans (drop_length_takeWhile _ _)⟩

end

/-! ### Events of the pair, and the loss of the link (R329) -/

section
variable (c : Chip)

@[simp] theorem Chip.pair_pairEvent (i : Nat) (items : List Byte) : (c.pairEvent i items).pair = c.pair := by simp [Chip.pairEvent]

theorem Chip.rd_pairEvent_ne (i : Nat) (items : List Byte) {off : Nat} (h : off < 0xE000) (hne : off ≠ Reg.PAIR_EVT) :
    (c.pairEvent i items).rd off = c.rd off :=
  ((Chip.sameButEvents_raise _ _ _ _).rd_power h).trans (c.rd_setEvt_ne _ _ _ hne)

theorem Chip.bit_rd_pairEvent {i : Nat} (hi : i < 32) (items : List Byte) :
    bit ((c.pairEvent i items).rd Reg.PAIR_EVT) i = true :=
  c.bit_rd_told _ _ _ _ _ (by decide) hi (by simp)

/-- The part with the loss of the link told and counted, and what SSEQ on trial makes of it. -/
def Chip.lossTold : Chip :=
  let c := (c.pairEvent 3 (it4 c.lanesInUse ++ it8 c.csn)).inc Reg.LINK_DOWN_CNT
  if (c.imageType 4).linkHeld = some true then c.setType 4 { c.imageType 4 with linkHeld := some false } else c

theorem Chip.lossTold_parts : c.lossTold.pair = c.pair ∧ c.lossTold.regs =
    ((c.pairEvent 3 (it4 c.lanesInUse ++ it8 c.csn)).inc Reg.LINK_DOWN_CNT).regs := by
  unfold Chip.lossTold
  extract_lets d
  have hd : d.pair = c.pair := c.pair_pairEvent ..
  split <;> exact ⟨hd, rfl⟩

theorem Chip.pair_linkLost : c.linkLost.pair = { c.pair with
    linkUp := false, mirrorOk := false, ferrySending := [], lateOwed := 0, bulkSent := false, keep := [], halfRate := false
    failedLane := none, spareUsed := false } := by
  rw [← c.lossTold_parts.1]
  rfl

/-- The event and the count of a link that is lost. -/
theorem Chip.rd_linkLost : bit (c.linkLost.rd Reg.PAIR_EVT) 3 = true ∧
    c.linkLost.rd Reg.LINK_DOWN_CNT = sat32 (c.rd Reg.LINK_DOWN_CNT + 1) := by
  have hregs : c.linkLost.regs = _ := c.lossTold_parts.2
  rw [Chip.rd_congr hregs, Chip.rd_congr hregs, Chip.rd_inc_ne _ (by decide), Chip.rd_inc_same,
    c.rd_pairEvent_ne 3 _ (off := Reg.LINK_DOWN_CNT) (by decide) (by decide)]
  exact ⟨c.bit_rd_pairEvent (by decide) _, rfl⟩

end

/-! ### Frames of the link (R329) -/

section
variable (c : Chip) (seq : Nat)

/-- A data frame: it is the next one, or it is asked for again. -/
theorem Chip.linkFrame_of_data {k : LinkPayload} (hkeep : k ≠ .keepalive) (hack : ∀ q, k ≠ .ack q) (hnak : ∀ q, k ≠ .nak q) :
    c.linkFrame seq true k = if seq ≠ (c.pair.rxSeq + 1) % 2 ^ 32 then c.heardLink.emit (.linkNak ((c.pair.rxSeq + 1) % 2 ^ 32))
      else ((c.setPair { c.pair with frameCsn := c.csn, rxSeq := seq }).emit (.linkAck seq)).deliverLink k := by
  cases k with
  | keepalive => exact absurd rfl hkeep
  | ack q => exact absurd rfl (hack q)
  | nak q => exact absurd rfl (hnak q)
  | _ => rfl

/-- Frames sent again, one by one, each counted. -/
theorem Chip.resend_parts (l : List (Nat × List Byte)) : ∀ c : Chip,
    let d := l.foldl (fun c x => (c.emit (.link x.1 x.2)).inc Reg.LINK_RETRY_CNT) c
    d.pair = c.pair ∧ (∀ o, o ∈ c.out ∨ (∃ x, x ∈ l ∧ o = .link x.1 x.2) → o ∈ d.out) ∧
    d.rd Reg.LINK_RETRY_CNT = sat32 (c.rd Reg.LINK_RETRY_CNT + l.length) := by
  induction l with
  | nil =>
    intro c
    have hlt := c.rd_lt Reg.LINK_RETRY_CNT
    refine ⟨rfl, fun o ho => ho.elim id fun ⟨x, hx, _⟩ => absurd hx List.not_mem_nil, ?_⟩
    show c.rd _ = sat32 (c.rd _ + 0)
    unfold sat32
    split <;> omega
  | cons y l ih =>
    intro c
    obtain ⟨hpair, hout, hrd⟩ := ih ((c.emit (.link y.1 y.2)).inc Reg.LINK_RETRY_CNT)
    refine ⟨hpair, fun o ho => hout o ?_, hrd.trans ?_⟩
    · rcases ho with ho | ⟨x, hx, rfl⟩
      · exact .inl (List.mem_cons_of_mem _ ho)
      rcases List.mem_cons.mp hx with rfl | hx
      · exact .inl List.mem_cons_self
      · exact .inr ⟨x, hx, rfl⟩
    · rw [Chip.rd_inc_same, List.length_cons]
      show sat32 (sat32 (c.rd _ + 1) + _) = _
      unfold sat32
      split <;> split <;> split <;> omega

/-- The acknowledgement of what the peer has had. -/
theorem Chip.linkFrame_ack_parts (q : Nat) : (c.linkFrame seq true (.ack q)).pair.acked = q ∧
    (c.linkFrame seq true (.ack q)).pair.mirrorWait = (c.pair.mirrorWait.dropWhile fun w => seqUpTo w.seq q) ∧
    (c.pair.mirrorWait = [] → (c.linkFrame seq true (.ack q)).pair.keep = c.pair.keep.filter fun x => !seqUpTo x.1 q) := by
  let d : Chip := c.setPair { c.pair with frameCsn := c.csn, acked := q, keep := c.pair.keep.filter fun x => !seqUpTo x.1 q }
  have hd : c.linkFrame seq true (.ack q) = d.ackMirrored q := rfl
  rw [hd]
  refine ⟨(d.ackMirrored_parts q).1, (d.ackMirrored_parts q).2, fun hnil => ?_⟩
  have hwait : d.pair.mirrorWait = [] := hnil
  rw [Chip.ackMirrored, hwait]
  rfl

end

/-! ### Lanes (R328, R387) -/

section
variable (c : Chip) {l : Nat}

theorem Chip.laneFails_of_failed (h : c.pair.laneGood.getD l false = false) : c.laneFails l = c := if_pos (by rw [h]; rfl)

variable (h : c.pair.laneGood.getD l false = true)
include h

theorem Chip.laneFails_of_spare (hl : l = c.pair.spare) :
    c.laneFails l = c.setPair { c.pair with laneGood := c.pair.laneGood.set l false } := by
  unfold Chip.laneFails
  extract_lets p alone d
  rw [if_neg (by rw [h]; decide), if_pos hl]

theorem Chip.laneFails_of_first (hl : l ≠ c.pair.spare) (hall : c.pair.laneGood.all id = true) : c.laneFails l =
    (c.setPair { c.pair with laneGood := c.pair.laneGood.set l false, halfRate := true, failedLane := some l }).stopSpare := by
  unfold Chip.laneFails
  extract_lets p alone d
  rw [if_neg (by rw [h]; decide), if_neg hl, if_pos hall]
  rfl

theorem Chip.laneFails_of_second (hl : l ≠ c.pair.spare) (hall : c.pair.laneGood.all id = false) :
    c.laneFails l = (c.setPair { c.pair with laneGood := c.pair.laneGood.set l false }).linkLost := by
  unfold Chip.laneFails
  extract_lets p alone d
  rw [if_neg (by rw [h]; decide), if_neg hl, if_neg (ne_true_of_eq_false hall)]

end

/-- Where the spare is not under calibration, nothing stops. -/
theorem Chip.stopSpare_of_idle (c : Chip) (h : c.spareCalibrates = false) : c.stopSpare = c := by
  rw [Chip.stopSpare, h]
  rfl

/-! ### The rows -/

section
variable {s : State} {up : Bool}

theorem onLink_of_up (f : Chip → Chip) (hd : s.chip.domainOn 10 = true) (hu : s.chip.pair.linkUp = up) :
    onLink up f s = .next (s.onto (s.chip.inCycle f)) := by
  simp only [onLink_eq, hd, hu, beq_self_eq_true, Bool.and_self, if_true]
  rfl

theorem onLink_of_not (f : Chip → Chip) (h : s.chip.domainOn 10 = false ∨ s.chip.pair.linkUp ≠ up) :
    onLink up f s = .next s := by
  rw [onLink_eq, if_neg]
  rcases h with h | h <;> simp [h]

variable (hd : s.chip.domainOn 10 = true) (hu : s.chip.pair.linkUp = true)
include hd hu

theorem exec_straitLinkFrameReceive (seq : Nat) (octets : List Byte) (k : LinkPayload) {ok : Bool} (hok : linkCheck seq octets = ok) :
    exec (.straitLinkFrameReceive seq octets k) s = .next (s.onto (s.chip.inCycle fun c => c.linkFrame seq ok k)) := by
  subst hok
  exact onLink_of_up _ hd hu

theorem exec_straitLaneFail {l : Nat} (hl : l < 3) : exec (.straitLaneFail l) s = .next (s.onto (s.chip.inCycle fun c => c.laneFails l)) := by
  show execStraitLaneFail l s = _
  rw [execStraitLaneFail, decide_eq_true hl, within_true]
  exact onLink_of_up _ hd hu

end

/-- Settles O52: the frames of the link by what they bring, its loss, and its lanes by which of them fails. -/
theorem linkFollowsItsFrames : Obligations.LinkFollowsItsFrames := by
  unfold Obligations.LinkFollowsItsFrames
  rintro s p rfl
  refine ⟨fun hd hu => ⟨fun seq octets k hok => ?bad, fun seq octets k hok hkeep hack hnak => ⟨fun hseq => ?again, fun hseq => ?next⟩,
    fun seq octets hok => ?keepalive, fun seq octets q hok => ?ack, fun seq octets q hok => ?nak, ?silent, ?sent,
    fun l hl hgood => ⟨fun hspare => ?spare, fun hspare hall k hk => ?first, fun hspare hall => ?second⟩, fun l hl hbad => ?failed⟩,
    fun hnot => ?down⟩
  case bad =>
    refine ⟨_, exec_straitLinkFrameReceive hd hu seq octets k hok, rfl, ?_⟩
    rw [State.onto_chip, Chip.inCycle_quiet _ _ fun _ _ => rfl]
    exact ⟨rfl, rfl, Chip.rd_inc_same ..⟩
  case again =>
    refine ⟨_, exec_straitLinkFrameReceive hd hu seq octets k hok, rfl, ?_⟩
    have hf : s.chip.inCycle (fun c => c.linkFrame seq true k) =
        s.chip.heardLink.emit (.linkNak ((s.chip.pair.rxSeq + 1) % 2 ^ 32)) := by
      rw [← Chip.inCycle_quiet s.chip (fun c => c.heardLink.emit (.linkNak ((s.chip.pair.rxSeq + 1) % 2 ^ 32))) fun _ _ => rfl]
      refine Chip.inCycle_congr fun b => ?_
      rw [Chip.linkFrame_of_data _ _ hkeep hack hnak]
      exact if_pos hseq
    rw [State.onto_chip, hf]
    exact ⟨rfl, rfl⟩
  case next =>
    rw [exec_straitLinkFrameReceive hd hu seq octets k hok]
    refine congrArg (Host.Outcome.next ∘ s.onto) (Chip.inCycle_congr fun b => ?_)
    rw [Chip.linkFrame_of_data _ _ hkeep hack hnak]
    exact if_neg (not_not_intro hseq)
  case keepalive =>
    refine ⟨_, exec_straitLinkFrameReceive hd hu seq octets _ hok, rfl, ?_⟩
    rw [State.onto_chip, Chip.inCycle_quiet _ _ fun _ _ => rfl]
    exact ⟨rfl, rfl⟩
  case ack =>
    obtain ⟨l, h⟩ := s.chip.sameButEvents_inCycle fun c => c.linkFrame seq true (.ack q)
    refine ⟨_, exec_straitLinkFrameReceive hd hu seq octets _ hok, rfl, ?_⟩
    rw [State.onto_chip, h.pair]
    exact Chip.linkFrame_ack_parts _ seq q
  case nak =>
    obtain ⟨l, h⟩ := s.chip.sameButEvents_inCycle fun c => c.linkFrame seq true (.nak q)
    obtain ⟨hpair, hout, hrd⟩ := Chip.resend_parts (s.chip.pair.keep.reverse.filter fun x => seqUpTo q x.1)
      ({ s.chip with batch := some l } : Chip).heardLink
    refine ⟨_, exec_straitLinkFrameReceive hd hu seq octets _ hok, rfl, h.pair.trans hpair, fun x hx hq => ?_, ?_⟩
    · exact h.2.2 _ (hout _ (.inr ⟨x, List.mem_filter.mpr ⟨List.mem_reverse.mpr hx, hq⟩, rfl⟩))
    · rw [State.onto_chip, h.rd_power (by decide)]
      refine hrd.trans ?_
      rw [List.filter_reverse, List.length_reverse]
      rfl
  case silent =>
    obtain ⟨l, h⟩ := s.chip.sameButEvents_inCycle Chip.linkLost
    refine ⟨_, onLink_of_up _ hd hu, rfl, ?_⟩
    rw [State.onto_chip, h.pair, Chip.pair_linkLost, h.rd_power (by decide), h.rd_power (by decide)]
    exact ⟨rfl, rfl, rfl, rfl, Chip.rd_linkLost _⟩
  case sent =>
    refine ⟨_, onLink_of_up _ hd hu, rfl, ?_⟩
    rw [State.onto_chip, Chip.inCycle_quiet _ _ fun _ _ => rfl]
    exact ⟨rfl, rfl⟩
  case spare =>
    refine ⟨_, exec_straitLaneFail hd hu hl, rfl, ?_⟩
    have hf : s.chip.inCycle (fun c => c.laneFails l) =
        s.chip.setPair { s.chip.pair with laneGood := s.chip.pair.laneGood.set l false } := by
      rw [← Chip.inCycle_quiet s.chip (fun c => c.setPair { s.chip.pair with laneGood := s.chip.pair.laneGood.set l false })
        fun _ _ => rfl]
      exact Chip.inCycle_congr fun b => Chip.laneFails_of_spare _ hgood hspare
    rw [State.onto_chip, hf, Chip.setPair_pair]
  case first =>
    have hf : s.chip.inCycle (fun c => c.laneFails l) = s.chip.inCycle fun c => (c.setPair k).stopSpare := by
      rw [hk]
      exact Chip.inCycle_congr fun b => Chip.laneFails_of_first _ hgood hspare hall
    refine ⟨by rw [exec_straitLaneFail hd hu hl, hf], fun hidle => ⟨_, exec_straitLaneFail hd hu hl, rfl, ?_⟩⟩
    obtain ⟨e, h⟩ := s.chip.sameButEvents_inCycle fun c => (c.setPair k).stopSpare
    have hsame : (({ s.chip with batch := some e } : Chip).setPair k).spareCalibrates = false := by
      rw [← hidle, hk]
      rfl
    rw [State.onto_chip, hf, h.pair, Chip.stopSpare_of_idle _ hsame, Chip.setPair_pair]
  case second =>
    obtain ⟨e, h⟩ := s.chip.sameButEvents_inCycle fun c => c.laneFails l
    refine ⟨_, exec_straitLaneFail hd hu hl, rfl, ?_⟩
    rw [State.onto_chip, h.pair, h.rd_power (by decide), Chip.laneFails_of_second { s.chip with batch := some e } hgood hspare hall,
      Chip.pair_linkLost]
    exact ⟨rfl, (Chip.rd_linkLost _).1⟩
  case failed =>
    rw [exec_straitLaneFail hd hu hl, Chip.inCycle_of_same fun b => Chip.laneFails_of_failed { s.chip with batch := b } hbad, State.onto_self]
  case down =>
    have hoff : s.chip.domainOn 10 = false ∨ s.chip.pair.linkUp ≠ true := hnot.imp_right ne_true_of_eq_false
    refine ⟨fun seq octets k => onLink_of_not _ hoff, onLink_of_not _ hoff, onLink_of_not _ hoff, fun l hl => ?_⟩
    show execStraitLaneFail l s = _
    rw [execStraitLaneFail, decide_eq_true hl, within_true, onLink_of_not _ hoff]

end Sys2Proof.Machine
end

section
/-! SUPPORT. The link as it comes up (R325, R331, R343): the peer's MAC addresses taken, and what the comparison of the isles leaves. -/

namespace Sys2Proof.Machine

open Sys2Proof

theorem Chip.SameButEvents.live {c d : Chip} (h : c.SameButEvents d) : d.live = c.live := by rw [h.1]
theorem Chip.SameButEvents.openCsn {c d : Chip} (h : c.SameButEvents d) : d.openCsn = c.openCsn := by rw [h.1]; rfl

/-- A bit of an event register that is set stays set through another event. -/
theorem Chip.bit_rd_setEvt_of_set (c : Chip) (off off' mask i : Nat) (hi : i < 32) (h : bit (c.rd off') i = true) :
    bit ((c.setEvt off mask).rd off') i = true := by
  by_cases hoff : off' = off
  · subst hoff
    have ht : (c.rd off').testBit i = true := h
    rw [bit, Chip.setEvt, Chip.rd_wr_same, Nat.testBit_mod_two_pow, Nat.testBit_or, ht]
    simp [hi]
  · rw [c.rd_setEvt_ne _ _ _ hoff, h]

/-! ### The peer's MAC addresses (R331) -/

section
variable (c : Chip) (k : PeerInfo)

/-- A register that the host has not written, loaded. -/
def Chip.loadReg (off v : Nat) : Chip := if c.pair.macWritten.contains off then c else (c.wr off v).wrLive off v

/-- The MAC address of a port loaded. -/
def Chip.loadMac (c : Chip) (p : Nat) : Chip :=
  (c.loadReg (Reg.PEER_MAC_LO p) (k.macs.getD p 0 % 2 ^ 32)).loadReg (Reg.PEER_MAC_HI p) (k.macs.getD p 0 / 2 ^ 32)

theorem Chip.loadMacs_eq : c.loadMacs k = (List.range 4).foldl (Chip.loadMac k) c := rfl

/-- Two parts that differ at most in the registers that the peer's MAC addresses are loaded into. -/
def Chip.SameButMacs (c d : Chip) : Prop :=
  d = { c with regs := d.regs, live := d.live } ∧ ∀ off, off < 0x5050 → d.rd off = c.rd off ∧ d.lv off = c.lv off

theorem Chip.SameButMacs.trans {c d e : Chip} (h : c.SameButMacs d) (g : d.SameButMacs e) : c.SameButMacs e :=
  ⟨by rw [g.1, h.1], fun off hoff => ⟨(g.2 off hoff).1.trans (h.2 off hoff).1, (g.2 off hoff).2.trans (h.2 off hoff).2⟩⟩

/-- The peer's addresses leave the pair, the crossings, the images and what has left the part. -/
theorem Chip.SameButMacs.frame {c d : Chip} (h : c.SameButMacs d) : d.pair = c.pair ∧ d.csn = c.csn ∧ d.openCsn = c.openCsn ∧
    d.update = c.update ∧ d.out = c.out := by
  rw [h.1]
  exact ⟨rfl, rfl, rfl, rfl, rfl⟩

theorem Chip.sameButMacs_loadReg {off : Nat} (v : Nat) (h : 0x5050 ≤ off) : c.SameButMacs (c.loadReg off v) := by
  unfold Chip.loadReg
  split
  · exact ⟨rfl, fun _ _ => ⟨rfl, rfl⟩⟩
  · exact ⟨rfl, fun o ho => ⟨c.rd_wr_ne _ _ _ (by omega), Chip.lv_wrLive_ne _ _ _ _ (by omega)⟩⟩

theorem Chip.sameButMacs_loadMac (p : Nat) : c.SameButMacs (c.loadMac k p) :=
  (c.sameButMacs_loadReg _ (Nat.le_add_right ..)).trans
    (Chip.sameButMacs_loadReg _ _ (by unfold Reg.PEER_MAC_HI; omega))

theorem Chip.sameButMacs_loadMacs : c.SameButMacs (c.loadMacs k) :=
  List.foldlRecOn _ _ (motive := c.SameButMacs) ⟨rfl, fun _ _ => ⟨rfl, rfl⟩⟩ fun d hd p _ => hd.trans (d.sameButMacs_loadMac k p)

theorem Chip.lv_loadReg_ne {off x : Nat} (v : Nat) (h : x ≠ off) : (c.loadReg off v).lv x = c.lv x := by
  unfold Chip.loadReg
  split
  · rfl
  · exact Chip.lv_wrLive_ne _ _ _ _ h

/-- Each register that the host has not written reads as the peer's address. -/
theorem Chip.lv_loadMacs {p : Nat} (hp : p < 4) (h : c.pair.macWritten.contains (Reg.PEER_MAC_LO p) = false) :
    (c.loadMacs k).lv (Reg.PEER_MAC_LO p) = k.macs.getD p 0 % 2 ^ 32 := by
  obtain ⟨d, ⟨hpair, -⟩, -, hlv⟩ := foldl_at (R := fun c d : Chip => d.pair = c.pair ∧
      d.lv (Reg.PEER_MAC_LO p) = c.lv (Reg.PEER_MAC_LO p)) (fun _ => ⟨rfl, rfl⟩)
    (fun h g => ⟨g.1.trans h.1, g.2.trans h.2⟩) List.nodup_range (List.mem_range.mpr hp)
    (f := Chip.loadMac k) (fun d q _ hq => ⟨by rw [(d.sameButMacs_loadMac k q).1], by
      unfold Chip.loadMac
      rw [Chip.lv_loadReg_ne _ _ (by unfold Reg.PEER_MAC_LO Reg.PEER_MAC_HI; omega),
        Chip.lv_loadReg_ne _ _ (by unfold Reg.PEER_MAC_LO; omega)]⟩) c
  rw [Chip.loadMacs_eq, hlv, Chip.loadMac, Chip.lv_loadReg_ne _ _ (by unfold Reg.PEER_MAC_LO Reg.PEER_MAC_HI; omega),
    Chip.loadReg, hpair, h]
  exact (Chip.lv_wrLive_same ..).trans (Nat.mod_mod ..)

end

/-! ### The isles compared (R327, R331, R343) -/

/-- What the comparison of the isles leaves: of the pair its verdicts change, and events are told. -/
def Chip.Compared (c d : Chip) : Prop :=
  d.pair = { c.pair with mirrorOk := d.pair.mirrorOk, schemaBad := d.pair.schemaBad, cidClash := d.pair.cidClash } ∧
  d.csn = c.csn ∧ d.live = c.live ∧ d.openCsn = c.openCsn ∧ d.schemaMajor = c.schemaMajor ∧
  (∀ i, i < 32 → bit (c.rd Reg.PAIR_EVT) i = true → bit (d.rd Reg.PAIR_EVT) i = true) ∧ ∀ o, o ∈ c.out → o ∈ d.out

namespace Chip.Compared
variable {c d e : Chip}

theorem trans (h : c.Compared d) (g : d.Compared e) : c.Compared e := by
  obtain ⟨hp, hcsn, hl, ho, hs, hb, hout⟩ := h
  obtain ⟨gp, gcsn, gl, go, gs, gb, gout⟩ := g
  exact ⟨by rw [gp, hp], gcsn.trans hcsn, gl.trans hl, go.trans ho, gs.trans hs, fun i hi hc => gb i hi (hb i hi hc),
    fun o hc => gout o (hout o hc)⟩

theorem refl (c : Chip) : c.Compared c := ⟨rfl, rfl, rfl, rfl, rfl, fun _ _ h => h, fun _ h => h⟩

theorem of_events (h : c.SameButEvents d) : c.Compared d :=
  ⟨by rw [h.pair], h.csn, h.live, h.openCsn, by rw [h.1]; rfl, fun i _ hc => by rw [h.rd_power (by decide), hc], h.2.2⟩

end Chip.Compared

section
variable (c : Chip)

/-- A verdict on the peer noted in the pair. -/
theorem Chip.compared_setPair (ok schema clash : Bool) :
    c.Compared (c.setPair { c.pair with mirrorOk := ok, schemaBad := schema, cidClash := clash }) :=
  ⟨rfl, rfl, rfl, rfl, rfl, fun _ _ h => h, fun _ h => h⟩

theorem Chip.compared_pairConflict (cause value : Nat) : c.Compared (c.pairConflict cause value) := by
  refine .trans (d := c.setEvt Reg.PAIR_EVT (1 <<< 7)) ?_ (.of_events (Chip.sameButEvents_raise _ _ _ _))
  exact ⟨rfl, rfl, rfl, rfl, rfl, fun i hi h => c.bit_rd_setEvt_of_set _ _ _ _ hi h, fun _ h => h⟩

theorem Chip.compared_compareCids : c.Compared c.compareCids := by
  unfold Chip.compareCids
  split
  · exact c.compared_setPair _ _ _
  · exact (c.compared_setPair _ _ _).trans (Chip.compared_pairConflict _ _ _)

theorem Chip.pair_pairConflict (cause value : Nat) : (c.pairConflict cause value).pair = c.pair := c.pair_pairEvent ..

theorem Chip.mirrorOk_compareCids : c.compareCids.pair.mirrorOk = c.pair.mirrorOk := by
  unfold Chip.compareCids
  split
  · rfl
  · rw [Chip.pair_pairConflict]
    rfl

variable (k : PeerInfo)

theorem Chip.judgePeer_parts : c.Compared (c.judgePeer k) ∧ (c.judgePeer k).pair.mirrorOk =
    (!(k.rank == c.pair.rank || k.pairId != c.lv Reg.PAIR_ID) && !(k.schema != c.schemaMajor)) := by
  unfold Chip.judgePeer
  extract_lets idBad schemaBad c₀ c₁ c₂ c₃
  have h₁ : c.Compared c₁ := c.compared_setPair _ _ _
  have h₂ : c₁.Compared c₂ ∧ c₂.pair = c₁.pair := by
    unfold c₂
    split
    · exact ⟨c₁.compared_pairConflict _ _, c₁.pair_pairConflict _ _⟩
    · exact ⟨.refl _, rfl⟩
  have h₃ : c₂.Compared c₃ ∧ c₃.pair = c₂.pair := by
    unfold c₃
    split
    · exact ⟨c₂.compared_pairConflict _ _, c₂.pair_pairConflict _ _⟩
    · exact ⟨.refl _, rfl⟩
  refine ⟨((h₁.trans h₂.1).trans h₃.1).trans c₃.compared_compareCids, ?_⟩
  rw [c₃.mirrorOk_compareCids, h₃.2, h₂.2]
  rfl

/-- An active isle of rank 1 that learns of an active peer yields at the open crossing. -/
theorem Chip.noteActivePeer_eq : c.noteActivePeer k = c.setPair { c.pair with
    yieldAt := if c.pair.isle = .active ∧ c.pair.rank = 1 ∧ k.active = true ∧ c.pair.yieldAt = none then some c.openCsn
      else c.pair.yieldAt } := by
  have hiff : (c.pair.isle == .active && c.pair.rank = 1 && k.active && c.pair.yieldAt.isNone) = true ↔
      c.pair.isle = .active ∧ c.pair.rank = 1 ∧ k.active = true ∧ c.pair.yieldAt = none := by
    simp only [Bool.and_eq_true, beq_iff_eq, decide_eq_true_eq, Option.isNone_iff_eq_none, and_assoc]
  rw [Chip.noteActivePeer]
  by_cases h : c.pair.isle = .active ∧ c.pair.rank = 1 ∧ k.active = true ∧ c.pair.yieldAt = none
  · rw [if_pos (hiff.mpr h), if_pos h]
  · rw [if_neg (fun hb => h (hiff.mp hb)), if_neg h]
    rfl

end

/-! ### The link that has trained (R331) -/

section
variable (c : Chip) (k : PeerInfo)

/-- The pair as the link comes up, on all three lanes. -/
def Chip.linkTrained : Chip := c.setPair { c.pair with
  linkUp := true, beaconSilent := false, lastFerry := none, mirrorOk := false, laneGood := [true, true, true], halfRate := false
  failedLane := none, spareUsed := false, peer := some k, peerActive := k.active, peerHealth := k.health, peerCids := k.cids
  txSeq := 0, rxSeq := 0, keep := [], acked := 0, frameCsn := c.csn, linkAt := c.cycle }

/-- The same, stale from the next crossing where the active peer has taken commits alone (R325). -/
def Chip.linkStale : Chip := if k.missed && k.active then (c.linkTrained k).staleFrom ((c.linkTrained k).csn + 1) else c.linkTrained k

/-- The same with its event, and with the isle's own half of the exchange sent. -/
def Chip.linkTold : Chip :=
  ((c.linkStale k).pairEvent 4 (it4 (c.linkStale k).lanesInUse ++ it8 (c.linkStale k).csn)).sendExchange

/-- The link up, and for an isle in the pair what the comparison makes of it. -/
def Chip.linkCompared : Chip :=
  if ((c.linkTold k).loadMacs k).pair.inPair then (((c.linkTold k).loadMacs k).judgePeer k).noteActivePeer k
  else (c.linkTold k).loadMacs k

theorem Chip.linkStale_pair : (c.linkStale k).pair = { (c.linkTrained k).pair with
    staleAt := (c.linkStale k).pair.staleAt, bulkGot := (c.linkStale k).pair.bulkGot } := by
  unfold Chip.linkStale
  split <;> rfl

theorem Chip.staleAt_linkStale (hm : k.missed = true) (ha : k.active = true) (hs : c.pair.staleAt = none) :
    (c.linkStale k).pair.staleAt = some (c.csn + 1) := by
  have hnone : (c.linkTrained k).pair.staleAt = none := hs
  rw [Chip.linkStale, hm, ha, Bool.and_self, if_pos rfl, Chip.staleFrom, hnone]
  rfl

theorem Chip.schemaMajor_congr {c d : Chip} (h : d.update = c.update) : d.schemaMajor = c.schemaMajor := by
  unfold Chip.schemaMajor Chip.image Chip.imageType
  rw [h]

/-- Beside the pair, a link that comes up changes only what its event and its exchange do. -/
theorem Chip.linkTold_frame : (c.linkTold k).pair = (c.linkStale k).pair ∧ (c.linkTold k).csn = c.csn ∧
    (c.linkTold k).openCsn = c.openCsn ∧ (c.linkTold k).update = c.update ∧ (c.linkTold k).live = c.live := by
  have hstale : (c.linkStale k).csn = c.csn ∧ (c.linkStale k).openCsn = c.openCsn ∧ (c.linkStale k).update = c.update ∧
      (c.linkStale k).live = c.live := by
    unfold Chip.linkStale
    split <;> exact ⟨rfl, rfl, rfl, rfl⟩
  obtain ⟨hcsn, hopen, hupdate, hlive⟩ := hstale
  have htold : ((c.linkStale k).setEvt Reg.PAIR_EVT (1 <<< 4)).SameButEvents (c.linkTold k) :=
    (Chip.sameButEvents_raise _ _ _ _).trans (Chip.sameButEvents_emit _ _)
  exact ⟨htold.pair, htold.csn.trans hcsn, htold.openCsn.trans hopen, htold.update.trans hupdate, htold.live.trans hlive⟩

theorem Chip.bit_rd_linkTold : bit ((c.linkTold k).rd Reg.PAIR_EVT) 4 = true :=
  Chip.bit_rd_pairEvent _ (by decide) _

theorem Chip.exchange_mem_linkTold : ∃ l, .link 0 l ∈ (c.linkTold k).out := ⟨_, List.mem_cons_self⟩

/-- The link up with the peer's addresses. -/
theorem Chip.linkLoaded_frame : ((c.linkTold k).loadMacs k).pair = (c.linkStale k).pair ∧
    ((c.linkTold k).loadMacs k).csn = c.csn ∧ ((c.linkTold k).loadMacs k).openCsn = c.openCsn ∧
    ((c.linkTold k).loadMacs k).schemaMajor = c.schemaMajor ∧
    ((c.linkTold k).loadMacs k).lv Reg.PAIR_ID = c.lv Reg.PAIR_ID ∧
    ((c.linkTold k).loadMacs k).rd Reg.PAIR_EVT = (c.linkTold k).rd Reg.PAIR_EVT ∧
    ((c.linkTold k).loadMacs k).out = (c.linkTold k).out := by
  obtain ⟨hpair, hcsn, hopen, hupdate, hlive⟩ := c.linkTold_frame k
  have hmacs := (c.linkTold k).sameButMacs_loadMacs k
  obtain ⟨mpair, mcsn, mopen, mupdate, mout⟩ := hmacs.frame
  obtain ⟨hrd, -⟩ := hmacs.2 Reg.PAIR_EVT (by decide)
  obtain ⟨-, hlv⟩ := hmacs.2 Reg.PAIR_ID (by decide)
  exact ⟨mpair.trans hpair, mcsn.trans hcsn, mopen.trans hopen, Chip.schemaMajor_congr (mupdate.trans hupdate),
    hlv.trans (Chip.lv_congr hlive), hrd, mout⟩

/-- What the comparison adds to a link that has come up: its verdicts on the pair, and the yield. -/
theorem Chip.linkCompared_frame : ∃ d, ((c.linkTold k).loadMacs k).Compared d ∧
    (c.pair.inPair = true → d = ((c.linkTold k).loadMacs k).judgePeer k ∧ c.linkCompared k = d.noteActivePeer k) ∧
    (c.pair.inPair = false → d = (c.linkTold k).loadMacs k ∧ c.linkCompared k = d) := by
  have hin : ((c.linkTold k).loadMacs k).pair.inPair = c.pair.inPair := by
    rw [(c.linkLoaded_frame k).1, Chip.linkStale_pair]
    rfl
  unfold Chip.linkCompared
  rw [hin]
  cases c.pair.inPair
  · exact ⟨_, .refl _, fun h => absurd h Bool.false_ne_true, fun _ => ⟨rfl, if_neg Bool.false_ne_true⟩⟩
  · exact ⟨_, (Chip.judgePeer_parts _ k).1, fun _ => ⟨rfl, if_pos rfl⟩, fun h => absurd h.symm Bool.false_ne_true⟩

theorem exec_straitLinkUp {s : State} (hd : s.chip.domainOn 10 = true) (hu : s.chip.pair.linkUp = false) :
    exec (.straitLinkUp k) s = .next (s.onto (s.chip.inCycle fun c => c.linkCompared k)) := by
  show execStraitLinkUp k s = _
  rw [execStraitLinkUp, onLink_of_up _ hd hu]
  refine congrArg (fun f => Host.Outcome.next (s.onto (s.chip.inCycle f))) (funext fun c => ?_)
  unfold Chip.linkCompared Chip.linkTold Chip.linkStale Chip.linkTrained
  dsimp only

/-- The pair after the comparison: as the link came up, with the verdicts and the yield. -/
theorem Chip.linkCompared_pair : (c.linkCompared k).pair = { (c.linkStale k).pair with
      mirrorOk := (c.linkCompared k).pair.mirrorOk, schemaBad := (c.linkCompared k).pair.schemaBad
      cidClash := (c.linkCompared k).pair.cidClash, yieldAt := (c.linkCompared k).pair.yieldAt } := by
  obtain ⟨hpair, -⟩ := c.linkLoaded_frame k
  obtain ⟨d, hd, hin, hout⟩ := c.linkCompared_frame k
  cases h : c.pair.inPair
  · rw [(hout h).2, hd.1, hpair]
  · rw [(hin h).2, Chip.noteActivePeer_eq, Chip.setPair_pair, hd.1, hpair]

/-- Mirroring is for an isle of the pair that the peer agrees with. -/
theorem Chip.linkCompared_mirrorOk : (c.linkCompared k).pair.mirrorOk = (c.pair.inPair &&
    decide (k.rank ≠ c.pair.rank ∧ k.pairId = c.lv Reg.PAIR_ID ∧ k.schema = c.schemaMajor)) := by
  obtain ⟨hpair, -, -, hschema, hid, -⟩ := c.linkLoaded_frame k
  obtain ⟨d, -, hin, hout⟩ := c.linkCompared_frame k
  cases h : c.pair.inPair
  · rw [(hout h).2, (hout h).1, hpair, Chip.linkStale_pair]
    rfl
  · rw [(hin h).2, Chip.noteActivePeer_eq, Chip.setPair_pair]
    have hrank : ((c.linkTold k).loadMacs k).pair.rank = c.pair.rank := by
      rw [hpair, Chip.linkStale_pair]
      rfl
    show d.pair.mirrorOk = _
    rw [(hin h).1, (Chip.judgePeer_parts _ k).2, hschema, hid, hrank, Bool.eq_iff_iff]
    simp [and_assoc]

theorem Chip.linkCompared_yieldAt (h : c.pair.inPair = true) : (c.linkCompared k).pair.yieldAt =
    if c.pair.isle = .active ∧ c.pair.rank = 1 ∧ k.active = true ∧ c.pair.yieldAt = none then some c.openCsn
    else c.pair.yieldAt := by
  obtain ⟨hpair, -, hopen, -⟩ := c.linkLoaded_frame k
  obtain ⟨d, ⟨hverdict, -, -, hopen', -⟩, hin, -⟩ := c.linkCompared_frame k
  rw [(hin h).2, Chip.noteActivePeer_eq, Chip.setPair_pair, hopen', hopen, hverdict, hpair, Chip.linkStale_pair]
  rfl

/-- What else stands once the isles are compared. -/
theorem Chip.linkCompared_rest : (c.linkCompared k).csn = c.csn ∧ bit ((c.linkCompared k).rd Reg.PAIR_EVT) 4 = true ∧
    (∃ l, .link 0 l ∈ (c.linkCompared k).out) ∧ (c.linkCompared k).live = ((c.linkTold k).loadMacs k).live := by
  obtain ⟨-, hcsn, -, -, -, hrd, hout⟩ := c.linkLoaded_frame k
  obtain ⟨d, ⟨-, dcsn, dlive, -, -, dbit, dout⟩, hin, hnot⟩ := c.linkCompared_frame k
  obtain ⟨l, hl⟩ := c.exchange_mem_linkTold k
  have hd : d.csn = c.csn ∧ bit (d.rd Reg.PAIR_EVT) 4 = true ∧ (∃ l, .link 0 l ∈ d.out) ∧
      d.live = ((c.linkTold k).loadMacs k).live :=
    ⟨dcsn.trans hcsn, dbit 4 (by decide) (by rw [hrd, c.bit_rd_linkTold k]), ⟨l, dout _ (by rwa [hout])⟩, dlive⟩
  cases h : c.pair.inPair
  · rw [(hnot h).2]
    exact hd
  · rw [(hin h).2, Chip.noteActivePeer_eq]
    exact hd

end

/-- Settles O53: the link trained, the addresses taken, and the isles compared where the isle is in the pair. -/
theorem linkUpComparesTheIsles : Obligations.LinkUpComparesTheIsles := by
  unfold Obligations.LinkUpComparesTheIsles
  intro s k
  refine ⟨fun hd hu => ⟨_, exec_straitLinkUp k hd hu, rfl, ?up⟩, fun h => onLink_of_not _ (h.imp_right (by simp [·]))⟩
  obtain ⟨l, h⟩ := s.chip.sameButEvents_inCycle fun c => c.linkCompared k
  let c : Chip := { s.chip with batch := some l }
  have h : (c.linkCompared k).SameButEvents (s.chip.inCycle fun c => c.linkCompared k) := h
  have hpair := (c.linkCompared_pair k).trans (by rw [c.linkStale_pair k])
  obtain ⟨hcsn, hbit, ⟨o, ho⟩, hlive⟩ := c.linkCompared_rest k
  rw [State.onto_chip, h.rd_power (by decide), h.csn, h.pair]
  refine ⟨by rw [hpair]; rfl, by rw [hpair]; rfl, by rw [hpair]; rfl, by rw [hpair]; rfl, hcsn, hbit, ⟨o, h.2.2 _ ho⟩,
    fun p hp hw => ?mac, fun hin => ?mirrors, fun hin => ?alone, fun hin hisle hrank hactive hnone => ?yields,
    fun hin hrank => ?stays, fun hm ha hs => ?stale⟩
  case mac =>
    have hw' : (c.linkTold k).pair.macWritten.contains (Reg.PEER_MAC_LO p) = false := by
      rw [(c.linkTold_frame k).1, Chip.linkStale_pair]
      exact hw
    rw [Chip.lv_congr h.live, Chip.lv_congr hlive, Chip.lv_loadMacs _ _ hp hw']
  case mirrors => exact (c.linkCompared_mirrorOk k).trans (by rw [show c.pair.inPair = true from hin]; rfl)
  case alone => exact (c.linkCompared_mirrorOk k).trans (by rw [show c.pair.inPair = false from hin]; rfl)
  case yields => exact (c.linkCompared_yieldAt k hin).trans (if_pos ⟨hisle, hrank, hactive, hnone⟩)
  case stays =>
    refine (c.linkCompared_yieldAt k hin).trans (if_neg fun hyield => ?_)
    exact absurd (hrank.symm.trans hyield.2.1) (by decide)
  case stale =>
    have hstale := c.staleAt_linkStale k hm ha hs
    rw [Chip.linkCompared_pair]
    exact hstale

end Sys2Proof.Machine
end

section
/-! SUPPORT. What the isles send each other (R324, R325, R333, R335, R337, R343, R344): a forwarded commit taken up, the commit that is
accepted alone, ferries compared, and the rows as they answer, case by case. -/

namespace Sys2Proof.Machine

open Sys2Proof

/-! ### Commits that change no more than registers and the queue -/

/-- What raises no event runs in its cycle on the part that gathers events, and leaves the gathering as it was. -/
theorem Chip.inCycle_eq_of_silent (c : Chip) (f : Chip → Chip) (h : ∀ b, (f { c with batch := b }).batch = b) :
    ∃ b, c.inCycle f = { f { c with batch := b } with batch := c.batch } := by
  unfold Chip.inCycle
  split
  next => exact ⟨c.batch, congrArg (fun b => ({ f c with batch := b } : Chip)) (h c.batch)⟩
  next hn =>
    refine ⟨some [], ?_⟩
    rw [hn]
    unfold Chip.postBatch
    rw [h]
    rfl

section
variable (c : Chip)

theorem Chip.writePending_eq (l : List Change) : c.writePending l = { c with regs := (c.writePending l).regs } :=
  List.foldlRecOn l _ (motive := fun d : Chip => d = { c with regs := d.regs }) rfl fun d hd ch _ => by
    have hwr : ∀ o v, d.wr o v = { c with regs := (d.wr o v).regs } := fun o v => by
      rw [hd]
      rfl
    split
    · exact hwr _ _
    · exact hwr _ _
    · exact hd

/-- A commit accepted joins the queue, and beside it only registers change. -/
theorem Chip.accept_eq (m : Commit) : c.accept m = { c with commits := c.commits ++ [m], regs := (c.accept m).regs } := by
  unfold Chip.accept
  extract_lets d
  split
  · rfl
  · exact d.writePending_eq m.changes

theorem Chip.takeMirrored_eq (m : MirrorCommit) (csn : Nat) : c.takeMirrored m csn = { c with
    commits := c.commits ++ [⟨none, 0, m.opcode, csn, m.changes.filter fun ch => ch.mirrored || ch == .demote, none⟩]
    regs := (c.takeMirrored m csn).regs } := by
  unfold Chip.takeMirrored
  extract_lets l
  rw [Chip.notePeak, Chip.writePending_eq, Chip.accept_eq]
  rfl

/-! ### A commit that the peer forwards (R324, R325, R344) -/

variable (m : MirrorCommit)

/-- A forwarded commit acknowledged, and taken up or kept until the bulk ferry has ended. -/
def Chip.mirrorHeard : Chip :=
  if c.pair.resync then (c.heardLink.emit (.linkAck c.pair.rxSeq)).setPair
    { c.heardLink.pair with pending := c.pair.pending ++ [m] }
  else (c.heardLink.emit (.linkAck c.pair.rxSeq)).applyMirrored m

/-- Whether an isle takes up what its peer forwards. -/
def Chip.takesMirrored : Bool :=
  !(!(c.pair.inPair && c.pair.mirrorOk && (c.pair.isle.standing || m.changes.contains .demote)) || c.update.handover)

theorem Chip.takesMirrored_eq_true_iff : c.takesMirrored m = true ↔ c.pair.inPair = true ∧ c.pair.mirrorOk = true ∧
    (c.pair.isle.standing = true ∨ m.changes.contains .demote = true) ∧ c.update.handover = false := by
  simp only [Chip.takesMirrored, Bool.not_eq_true', Bool.or_eq_false_iff, Bool.not_eq_false', Bool.and_eq_true, Bool.or_eq_true,
    and_assoc]

theorem exec_mirrorCommitReceive {s : State} (hd : s.chip.domainOn 10 = true) (hu : s.chip.pair.linkUp = true)
    (h : s.chip.takesMirrored m = true) :
    exec (.mirrorCommitReceive m) s = .next (s.onto (s.chip.inCycle fun c => c.mirrorHeard m)) := by
  show execMirrorCommitReceive m s = _
  rw [execMirrorCommitReceive, onLink_of_up _ hd hu]
  exact congrArg (Host.Outcome.next ∘ s.onto) (Chip.inCycle_congr fun b => if_neg (ne_true_of_eq_false (Bool.not_eq_true' _ ▸ h)))

theorem exec_mirrorCommitReceive_of_not {s : State} (h : s.chip.domainOn 10 = false ∨ s.chip.pair.linkUp = false ∨
    s.chip.takesMirrored m = false) : exec (.mirrorCommitReceive m) s = .next s := by
  show execMirrorCommitReceive m s = _
  by_cases hup : s.chip.domainOn 10 = true ∧ s.chip.pair.linkUp = true
  · have hnot : s.chip.takesMirrored m = false := by simpa [hup] using h
    rw [execMirrorCommitReceive, onLink_of_up _ hup.1 hup.2]
    exact congrArg (Host.Outcome.next ∘ s.onto) (Chip.inCycle_of_same fun b => if_pos (Bool.not_eq_false' _ ▸ hnot))
  · refine onLink_of_not _ ?_
    rw [not_and_or] at hup
    exact hup.imp eq_false_of_ne_true id

/-- One whose crossing has passed, or that finds the queue full, leaves the standby stale. -/
theorem Chip.mirrorHeard_of_late (hr : c.pair.resync = false) (hx : m.changes.contains .cross = false)
    (hlate : m.csn < c.openCsn ∨ c.openCsn < m.csn ∧ 1024 ≤ c.queueLevel) :
    c.mirrorHeard m = (c.heardLink.emit (.linkAck c.pair.rxSeq)).staleFrom m.csn := by
  have hcond : (m.csn < c.openCsn || c.openCsn < m.csn && 1024 ≤ c.queueLevel) = true := by simpa using hlate
  rw [Chip.mirrorHeard, hr, if_neg Bool.false_ne_true, Chip.applyMirrored, hx, if_neg Bool.false_ne_true]
  exact if_pos hcond

theorem Chip.mirrorHeard_of_open (hr : c.pair.resync = false) (hx : m.changes.contains .cross = false)
    (hopen : c.openCsn ≤ m.csn) (hroom : m.csn = c.openCsn ∨ c.queueLevel < 1024) :
    c.mirrorHeard m = (c.heardLink.emit (.linkAck c.pair.rxSeq)).takeMirrored m m.csn := by
  have hcond : ¬ (m.csn < c.openCsn || c.openCsn < m.csn && 1024 ≤ c.queueLevel) = true := by
    simp only [Bool.or_eq_true, Bool.and_eq_true, decide_eq_true_eq]
    omega
  rw [Chip.mirrorHeard, hr, if_neg Bool.false_ne_true, Chip.applyMirrored, hx, if_neg Bool.false_ne_true]
  exact if_neg hcond

/-! ### The commit that is accepted alone (R325) -/

/-- What tells the standby that it misses something changes the pair and what is sent, and nothing else. -/
theorem Chip.tellMissed_eq (csn : Nat) : c.tellMissed csn = { c with
    out := (c.tellMissed csn).out, pair := (c.tellMissed csn).pair } := by
  have hsent : ∀ (k : LinkPayload) (d : Chip), d.sendLink k = { d with out := (d.sendLink k).out, pair := (d.sendLink k).pair } := by
    intro k d
    have hemit : ∀ l : List (Nat × List Byte), l.foldl (fun c e => Chip.emit c (.link e.1 e.2)) d = { d with
        out := (l.foldl (fun c e => Chip.emit c (.link e.1 e.2)) d).out } := fun l =>
      List.foldlRecOn l _ (motive := fun e : Chip => e = { d with out := e.out }) rfl fun e he x _ => by
        rw [he]
        rfl
    unfold Chip.sendLink
    extract_lets l e
    have he : e = { d with out := e.out } := hemit l
    rw [he]
  unfold Chip.tellMissed
  extract_lets q d
  split
  · rw [hsent]
    rfl
  · rfl

theorem Chip.commits_tellMissed (csn : Nat) : (c.tellMissed csn).commits = c.commits := by rw [c.tellMissed_eq]
theorem Chip.openCsn_tellMissed (csn : Nat) : (c.tellMissed csn).openCsn = c.openCsn := by
  rw [c.tellMissed_eq]
  rfl

variable {w : MirrorWait}

/-- A commit of no channel and no task is judged anew and taken alone, or not accepted. -/
theorem Chip.commits_acceptMirrored (hop : w.commit.opcode ≠ 0x0202) (hh : w.header = none) (hs : w.commit.slot = none) {e : Chip}
    (he : e = if w.commit.target < c.openCsn then c.tellMissed w.commit.target else c) {m : Commit}
    (hm : m = { w.commit with target := max w.commit.target c.openCsn }) :
    (c.acceptMirrored w).commits = if (e.refusedNow m.target m.changes).isSome then c.commits else c.commits ++ [m] := by
  have hec : e.commits = c.commits ∧ e.openCsn = c.openCsn := by
    rw [he]
    split
    · exact ⟨c.commits_tellMissed _, c.openCsn_tellMissed _⟩
    · exact ⟨rfl, rfl⟩
  have heq : c.acceptMirrored w = if (e.refusedNow m.target m.changes).isSome then e.tellMissed w.commit.target else e.accept m := by
    rw [Chip.acceptMirrored, if_neg hop, hh, hs, ← he, hm, ← hec.2]
  rw [heq]
  split
  · rw [Chip.commits_tellMissed, hec.1]
  · rw [Chip.accept_eq, ← hec.1]

theorem exec_mirrorAckTimeout_of_waiting {s : State} {rest : List MirrorWait} (h : s.chip.pair.mirrorWait = w :: rest) :
    exec .mirrorAckTimeout s = .next (s.onto
      (((s.chip.setPair { s.chip.pair with mirrorWait := rest }).tellMissed w.commit.target).acceptMirrored w)) := by
  show execMirrorAckTimeout s = _
  rw [execMirrorAckTimeout, onChip_eq, h]
  rfl

theorem exec_mirrorAckTimeout_of_none {s : State} (h : s.chip.pair.mirrorWait = []) : exec .mirrorAckTimeout s = .next s := by
  show execMirrorAckTimeout s = _
  rw [execMirrorAckTimeout, onChip_eq, h]

/-! ### Ferries (R333, R335) -/

variable (d : FerryData)

/-- The universes whose checks differ and are not excused. -/
def Chip.mismatched : List Nat := (c.differing d).filter fun u => !c.excused d u

/-- The comparison of a ferry noted in the pair, with its counts. -/
def Chip.checksNoted : Chip :=
  let e := (c.add Reg.CHECK_EXCUSED_CNT ((c.differing d).length - (c.mismatched d).length)).add Reg.CHECK_MISMATCH_CNT
    (c.mismatched d).length
  e.setPair { c.pair with
    mismatch := !(c.mismatched d).isEmpty, mismatchRun := ((!(c.mismatched d).isEmpty) :: c.pair.mismatchRun).take 64
    correctedPrev := (d.csn, d.corrected), ownChecks := c.pair.ownChecks.filter fun o => d.csn < o.1
    ownOverrun := c.pair.ownOverrun.filter fun o => d.csn < o.1 }

/-- The event of a ferry with mismatches, the first of which is universe `u`. -/
def Chip.mismatchTold (u : Nat) : Chip :=
  ((c.checksNoted d).wr Reg.MISMATCH_FIRST (u + 2 ^ 31)).pairEvent 6 (it8 d.csn ++ it4 u ++ it4 (c.mismatched d).length ++
    it4 ((c.differing d).length - (c.mismatched d).length))

theorem Chip.compareChecks_eq : c.compareChecks d =
    match c.mismatched d with | [] => c.checksNoted d | u :: _ => c.mismatchTold d u := rfl

/-- What the comparison leaves: its verdict and its run in the pair, its counts, and the event of a mismatch. -/
theorem Chip.compareChecks_parts : (c.compareChecks d).pair = (c.checksNoted d).pair ∧ (c.compareChecks d).univs = c.univs ∧
    (c.compareChecks d).rd Reg.CHECK_MISMATCH_CNT = sat32 (c.rd Reg.CHECK_MISMATCH_CNT + (c.mismatched d).length) ∧
    (c.compareChecks d).rd Reg.CHECK_EXCUSED_CNT =
      sat32 (c.rd Reg.CHECK_EXCUSED_CNT + ((c.differing d).length - (c.mismatched d).length)) ∧
    (c.mismatched d ≠ [] → bit ((c.compareChecks d).rd Reg.PAIR_EVT) 6 = true) := by
  have hadd : ∀ (e : Chip) (off n : Nat), (e.add off n).rd off = sat32 (e.rd off + n) := fun e off n => by
    rw [Chip.add, Chip.rd_wr_same, Nat.mod_eq_of_lt (sat32_lt _)]
  have hnoted : (c.checksNoted d).rd Reg.CHECK_MISMATCH_CNT = sat32 (c.rd Reg.CHECK_MISMATCH_CNT + (c.mismatched d).length) ∧
      (c.checksNoted d).rd Reg.CHECK_EXCUSED_CNT =
        sat32 (c.rd Reg.CHECK_EXCUSED_CNT + ((c.differing d).length - (c.mismatched d).length)) := by
    constructor
    · exact (hadd _ _ _).trans (by rw [Chip.add, Chip.rd_wr_ne _ _ _ _ (by decide)])
    · exact (Chip.rd_wr_ne _ _ _ _ (by decide)).trans (hadd _ _ _)
  rw [Chip.compareChecks_eq]
  cases h : c.mismatched d with
  | nil =>
    rw [h] at hnoted
    exact ⟨rfl, rfl, hnoted.1, hnoted.2, fun hne => absurd rfl hne⟩
  | cons u l =>
    rw [h] at hnoted
    have htold : ((c.checksNoted d).wr Reg.MISMATCH_FIRST (u + 2 ^ 31) |>.setEvt Reg.PAIR_EVT (1 <<< 6)).SameButEvents
        (c.mismatchTold d u) := Chip.sameButEvents_raise _ _ _ _
    refine ⟨htold.pair, htold.univs, ?_, ?_, fun _ => Chip.bit_rd_pairEvent _ (by decide) _⟩
    · rw [← hnoted.1, htold.rd_power (by decide), Chip.rd_setEvt_ne _ _ _ _ (by decide), Chip.rd_wr_ne _ _ _ _ (by decide)]
    · rw [← hnoted.2, htold.rd_power (by decide), Chip.rd_setEvt_ne _ _ _ _ (by decide), Chip.rd_wr_ne _ _ _ _ (by decide)]

/-- A ferry that is complete on the standby: its registers, its comparison, and whether it waits for the next crossing. -/
theorem Chip.ferryIn_pair : (c.ferryIn d).pair.ferryCsn = d.csn ∧ (c.ferryIn d).pair.ferryOctets = d.octets ∧
    (c.ferryIn d).pair.received =
      (if c.pair.ferryLate.toNat < c.pair.lateOwed then c.pair.received else some (d, d.csn + 1)) ∧
    (c.ferryIn d).pair.lateOwed = c.pair.lateOwed - 1 ∧ (c.ferryIn d).pair.isle = c.pair.isle ∧
    (c.ferryIn d).pair.mismatch = !(c.mismatched d).isEmpty := by
  obtain ⟨hpair, -⟩ := (c.noteFerry d.csn d.octets).compareChecks_parts d
  unfold Chip.ferryIn
  extract_lets e p skew older
  have he : e.pair = ((c.noteFerry d.csn d.octets).checksNoted d).pair := hpair
  have hp : p = ((c.noteFerry d.csn d.octets).checksNoted d).pair := he
  rw [Chip.setPair_pair]
  dsimp only [older]
  rw [hp]
  exact ⟨rfl, rfl, rfl, rfl, rfl, rfl⟩

theorem Chip.ferryIn_rest : (c.ferryIn d).univs = c.univs ∧
    (c.ferryIn d).rd Reg.CHECK_MISMATCH_CNT = sat32 (c.rd Reg.CHECK_MISMATCH_CNT + (c.mismatched d).length) ∧
    (c.ferryIn d).rd Reg.CHECK_EXCUSED_CNT =
      sat32 (c.rd Reg.CHECK_EXCUSED_CNT + ((c.differing d).length - (c.mismatched d).length)) ∧
    (c.mismatched d ≠ [] → bit ((c.ferryIn d).rd Reg.PAIR_EVT) 6 = true) :=
  ((c.noteFerry d.csn d.octets).compareChecks_parts d).2

/-- Whether a ferry is awaited: by an active isle that sends it, or by a standby that follows. -/
def Chip.ferryAwaited : Bool :=
  if c.pair.isle == .active then c.pair.ferrySending.any fun e => e.1 == c.csn - 1
  else c.shadows && !c.pair.resync && c.activeSeen && c.pair.received.isNone

theorem Chip.ferryAwaited_eq (hu : c.pair.linkUp = true) : c.ferryAwaited = decide (c.pair.isle = .active ∧
      (c.pair.ferrySending.any fun e => e.1 == c.csn - 1) = true ∨
    c.pair.isle ≠ .active ∧ c.pair.isle.standing = true ∧ c.pair.mirrorOk = true ∧ c.pair.resync = false ∧ c.activeSeen = true ∧
      c.pair.received = none) := by
  rw [Chip.ferryAwaited, Bool.eq_iff_iff, decide_eq_true_iff]
  by_cases hi : c.pair.isle = .active
  · simp [hi]
  · simp [hi, Chip.shadows, hu, and_assoc]

/-- A late ferry noted and counted, P/4 after its crossing. -/
def Chip.ferryOverdue : Chip :=
  ((c.runToCycle (c.fg.crossCycle + c.fg.rateD * 200000000 / c.fg.rateN)).inc Reg.FERRY_LATE_CNT).setPair
    { c.pair with ferryLate := true, lateOwed := c.pair.lateOwed + c.pair.isle.standing.toNat }

/-- The activity of a resync ended, where one runs. -/
def Chip.resyncEnded : Chip :=
  if (match c.arbiter.running with | some a => a.prec == 3 && !a.finished | none => false) then c.finish 0 0 0 else c

/-- A resync that has ended on the active isle. -/
def Chip.resyncDone : Chip :=
  c.resyncEnded.setPair { c.resyncEnded.pair with resync := false, bulkSent := false, peerStale := false }

theorem Chip.running_resyncEnded {a : Activity} (h : c.arbiter.running = some a) (hp : a.prec = 3) (hf : a.finished = false) :
    c.resyncEnded.arbiter.running = some { a with status := 0, detail := 0, result := 0, finished := true } := by
  rw [Chip.resyncEnded, h, if_pos (by simp [hp, hf]), Chip.finish, h]
  rfl

section
variable {s : State} (hd : s.chip.domainOn 10 = true) (hu : s.chip.pair.linkUp = true)
include hd hu

theorem exec_ferryComplete_of_active (hi : s.chip.pair.isle = .active) :
    exec (.ferryComplete d) s = .next (s.onto (s.chip.ferryOut d)) := by
  have hquiet : s.chip.inCycle (fun c => c.ferryOut d) = s.chip.ferryOut d := Chip.inCycle_quiet _ _ fun c b => by
    unfold Chip.ferryOut
    dsimp only
    split <;> rfl
  show execFerryComplete d s = _
  rw [execFerryComplete, onLink_of_up _ hd hu, ← hquiet]
  exact congrArg (Host.Outcome.next ∘ s.onto) (Chip.inCycle_congr fun b => if_pos (by rw [hi]; rfl))

theorem exec_ferryComplete_of_shadow (hs : s.chip.pair.isle.standing = true) (hm : s.chip.pair.mirrorOk = true)
    (hr : s.chip.pair.resync = false) :
    exec (.ferryComplete d) s = .next (s.onto (s.chip.inCycle fun c => c.ferryIn d)) := by
  have hi : (s.chip.pair.isle == .active) = false := by
    revert hs
    cases s.chip.pair.isle <;> decide
  have hshadow : (s.chip.pair.isle.standing && s.chip.pair.linkUp && s.chip.pair.mirrorOk && !s.chip.pair.resync) = true := by
    rw [hs, hu, hm, hr]
    rfl
  show execFerryComplete d s = _
  rw [execFerryComplete, onLink_of_up _ hd hu]
  exact congrArg (Host.Outcome.next ∘ s.onto) (Chip.inCycle_congr fun b => (if_neg (ne_true_of_eq_false hi)).trans (if_pos hshadow))

theorem exec_ferryComplete_of_neither (hi : s.chip.pair.isle ≠ .active)
    (h : s.chip.pair.isle.standing = false ∨ s.chip.pair.mirrorOk = false ∨ s.chip.pair.resync = true) :
    exec (.ferryComplete d) s = .next s := by
  have hshadow : ¬ (s.chip.pair.isle.standing && s.chip.pair.linkUp && s.chip.pair.mirrorOk && !s.chip.pair.resync) = true := by
    rcases h with h | h | h <;> simp [h]
  show execFerryComplete d s = _
  rw [execFerryComplete, onLink_of_up _ hd hu]
  exact congrArg (Host.Outcome.next ∘ s.onto) (Chip.inCycle_of_same fun b =>
    (if_neg fun h => hi (eq_of_beq h)).trans (if_neg hshadow))

theorem exec_ferryLate_of_due (hw : s.chip.ferryAwaited = true) (hl : s.chip.pair.ferryLate = false) (hc : s.chip.csn ≠ 0)
    (hx : s.chip.pair.linkAt ≤ s.chip.fg.crossCycle) : exec .ferryLate s = .next (s.onto s.chip.ferryOverdue) := by
  have hcond : ¬ (s.chip.pair.ferryLate || !s.chip.ferryAwaited || s.chip.csn = 0 ||
      s.chip.fg.crossCycle < s.chip.pair.linkAt) = true := by
    simp [hw, hl, hc, Nat.not_lt.mpr hx]
  show execFerryLate s = _
  rw [execFerryLate, onLink_of_up _ hd hu, ← Chip.inCycle_quiet s.chip Chip.ferryOverdue fun _ _ => rfl]
  exact congrArg (Host.Outcome.next ∘ s.onto) (Chip.inCycle_congr fun b => if_neg hcond)

theorem exec_ferryLate_of_not (h : s.chip.pair.ferryLate = true ∨ s.chip.ferryAwaited = false ∨ s.chip.csn = 0 ∨
    s.chip.fg.crossCycle < s.chip.pair.linkAt) : exec .ferryLate s = .next s := by
  have hcond : (s.chip.pair.ferryLate || !s.chip.ferryAwaited || s.chip.csn = 0 ||
      s.chip.fg.crossCycle < s.chip.pair.linkAt) = true := by
    rcases h with h | h | h | h <;> simp [h]
  show execFerryLate s = _
  rw [execFerryLate, onLink_of_up _ hd hu]
  exact congrArg (Host.Outcome.next ∘ s.onto) (Chip.inCycle_of_same fun b => if_pos hcond)

/-! ### Bulk ferries (R344) -/

theorem exec_bulkFerryComplete_of_none (b : Option BulkFerry) (h : s.chip.pair.resync = false ∨ s.chip.update.handover = true) :
    exec (.bulkFerryComplete b) s = .next s := by
  have hcond : (!s.chip.pair.resync || s.chip.update.handover) = true := by
    rcases h with h | h <;> simp [h]
  show execBulkFerryComplete b s = _
  rw [execBulkFerryComplete, onLink_of_up _ hd hu]
  exact congrArg (Host.Outcome.next ∘ s.onto) (Chip.inCycle_of_same fun _ => if_pos hcond)

variable (hr : s.chip.pair.resync = true) (hh : s.chip.update.handover = false)
include hr hh

omit hd hu in
theorem bulkRuns : ¬ (!s.chip.pair.resync || s.chip.update.handover) = true := by simp [hr, hh]

theorem exec_bulkFerryComplete_of_active (b : Option BulkFerry) (hi : s.chip.pair.isle = .active) :
    exec (.bulkFerryComplete b) s = .next (s.onto s.chip.resyncDone) := by
  have hquiet : s.chip.inCycle Chip.resyncDone = s.chip.resyncDone := Chip.inCycle_quiet _ _ fun c b => by
    unfold Chip.resyncDone Chip.resyncEnded
    dsimp only
    split <;> rfl
  show execBulkFerryComplete b s = _
  rw [execBulkFerryComplete, onLink_of_up _ hd hu, ← hquiet]
  exact congrArg (Host.Outcome.next ∘ s.onto) (Chip.inCycle_congr fun _ => (if_neg (bulkRuns hr hh)).trans
    (if_pos (beq_iff_eq.mpr hi)))

theorem exec_bulkFerryComplete_of_empty (hi : s.chip.pair.isle ≠ .active) : exec (.bulkFerryComplete none) s = .next s := by
  show execBulkFerryComplete none s = _
  rw [execBulkFerryComplete, onLink_of_up _ hd hu]
  exact congrArg (Host.Outcome.next ∘ s.onto) (Chip.inCycle_of_same fun _ => (if_neg (bulkRuns hr hh)).trans
    (if_neg fun h => hi (eq_of_beq h)))

theorem exec_bulkFerryComplete_of_bulk (b : BulkFerry) (hi : s.chip.pair.isle ≠ .active) :
    exec (.bulkFerryComplete (some b)) s = .next (s.onto (s.chip.inCycle fun c =>
      s.chip.pair.pending.foldl (fun c m => c.applyHeld b.now m) ((c.takeTables b.tables).setPair { c.pair with
        resync := false, bulkGot := true, staleAt := none, readyNext := false, lateOwed := 0, received := some (b.items, b.now)
        pending := [] }))) := by
  show execBulkFerryComplete (some b) s = _
  rw [execBulkFerryComplete, onLink_of_up _ hd hu]
  exact congrArg (Host.Outcome.next ∘ s.onto) (Chip.inCycle_congr fun _ => (if_neg (bulkRuns hr hh)).trans
    (if_neg fun h => hi (eq_of_beq h)))

end

/-! ### Beacons (R337, R343) -/

variable {port : Nat} (k : PeerInfo)

theorem exec_beaconReceive_of_pair {s : State} (hp : port < 4) (hport : s.chip.portUp port = true) (hd : s.chip.domainOn 1 = true)
    (hin : s.chip.pair.inPair = true) (hid : k.pairId = s.chip.lv Reg.PAIR_ID) :
    exec (.beaconReceive port k) s = .next (s.onto (s.chip.setPair { s.chip.pair with
      peerHealth := k.health, peerActive := k.active, beaconSeen := k.active || s.chip.pair.beaconSeen
      beaconCsn := if k.active then s.chip.csn else s.chip.pair.beaconCsn
      beaconSilent := s.chip.pair.beaconSilent || k.active && !s.chip.pair.linkUp
      yieldAt := if s.chip.pair.isle = .active ∧ s.chip.pair.rank = 1 ∧ k.active = true ∧ s.chip.pair.yieldAt = none
        then some s.chip.openCsn else s.chip.pair.yieldAt })) := by
  have hcond : ¬ (!(s.chip.portUp port && s.chip.domainOn 1 && s.chip.pair.inPair && k.pairId == s.chip.lv Reg.PAIR_ID)) = true := by
    simp [hport, hd, hin, hid]
  show execBeaconReceive port k s = _
  rw [execBeaconReceive, decide_eq_true hp, within_true, onChip_eq, if_neg hcond]
  exact congrArg (Host.Outcome.next ∘ s.onto) (Chip.noteActivePeer_eq _ k)

theorem exec_beaconReceive_of_not {s : State} (hp : port < 4) (h : s.chip.portUp port = false ∨ s.chip.domainOn 1 = false ∨
    s.chip.pair.inPair = false ∨ k.pairId ≠ s.chip.lv Reg.PAIR_ID) : exec (.beaconReceive port k) s = .next s := by
  have hcond : (!(s.chip.portUp port && s.chip.domainOn 1 && s.chip.pair.inPair && k.pairId == s.chip.lv Reg.PAIR_ID)) = true := by
    rcases h with h | h | h | h <;> simp [h]
  show execBeaconReceive port k s = _
  rw [execBeaconReceive, decide_eq_true hp, within_true, onChip_eq, if_pos hcond]

end


/-! ### What each row leaves, as the statement reads it -/

section
variable {s : State} (m : MirrorCommit) (d : FerryData)

theorem Chip.next_mirrorHeard_of_resync (c : Chip) (hr : c.pair.resync = true) :
    (c.inCycle fun c => c.mirrorHeard m).pair = { c.pair with frameCsn := c.csn, pending := c.pair.pending ++ [m] } ∧
      (c.inCycle fun c => c.mirrorHeard m).out = .linkAck c.pair.rxSeq :: c.out := by
  have hq : c.inCycle (fun c => c.mirrorHeard m) = (c.heardLink.emit (.linkAck c.pair.rxSeq)).setPair
      { c.heardLink.pair with pending := c.pair.pending ++ [m] } :=
    (Chip.inCycle_congr fun b => if_pos hr).trans (c.inCycle_quiet (fun c => (c.heardLink.emit (.linkAck c.pair.rxSeq)).setPair
      { c.heardLink.pair with pending := c.pair.pending ++ [m] }) fun _ _ => rfl)
  rw [hq]
  exact ⟨rfl, rfl⟩

theorem Chip.next_mirrorHeard_of_late (c : Chip) (hr : c.pair.resync = false) (hx : m.changes.contains .cross = false)
    (hlate : m.csn < c.openCsn ∨ c.openCsn < m.csn ∧ 1024 ≤ c.queueLevel) :
    c.inCycle (fun c => c.mirrorHeard m) = (c.heardLink.emit (.linkAck c.pair.rxSeq)).staleFrom m.csn :=
  (Chip.inCycle_congr fun b => Chip.mirrorHeard_of_late { c with batch := b } m hr hx hlate).trans
    (c.inCycle_quiet (fun c => (c.heardLink.emit (.linkAck c.pair.rxSeq)).staleFrom m.csn) fun _ _ => rfl)

theorem Chip.next_mirrorHeard_of_open (c : Chip) (hr : c.pair.resync = false) (hx : m.changes.contains .cross = false)
    (hopen : c.openCsn ≤ m.csn) (hroom : m.csn = c.openCsn ∨ c.queueLevel < 1024) :
    (c.inCycle fun c => c.mirrorHeard m).live = c.live ∧ (c.inCycle fun c => c.mirrorHeard m).commits = c.commits ++
      [⟨none, 0, m.opcode, m.csn, m.changes.filter fun ch => ch.mirrored || ch == .demote, none⟩] ∧
    (c.inCycle fun c => c.mirrorHeard m).out = .linkAck c.pair.rxSeq :: c.out := by
  have heq : ∀ b, ({ c with batch := b } : Chip).mirrorHeard m = (({ c with batch := b } : Chip).heardLink.emit
      (.linkAck c.pair.rxSeq)).takeMirrored m m.csn := fun b =>
    Chip.mirrorHeard_of_open { c with batch := b } m hr hx hopen hroom
  have hsilent : ∀ b, (({ c with batch := b } : Chip).mirrorHeard m).batch = b := fun b => by
    rw [heq, Chip.takeMirrored_eq]
    rfl
  obtain ⟨b, hb⟩ := c.inCycle_eq_of_silent (fun c => c.mirrorHeard m) hsilent
  dsimp only at hb
  rw [hb, heq, Chip.takeMirrored_eq]
  exact ⟨rfl, rfl, rfl⟩

theorem Chip.next_ferryIn (c : Chip) {bad : List Nat} (hbad : bad = (c.differing d).filter fun u => !c.excused d u) {t : Chip}
    (ht : t = c.inCycle fun c => c.ferryIn d) :
    t.pair.ferryCsn = d.csn ∧ t.pair.ferryOctets = d.octets ∧
      t.pair.received = (if c.pair.ferryLate.toNat < c.pair.lateOwed then c.pair.received else some (d, d.csn + 1)) ∧
      t.pair.lateOwed = c.pair.lateOwed - 1 ∧ t.pair.isle = c.pair.isle ∧ t.univs = c.univs ∧
      t.pair.mismatch = (!bad.isEmpty) ∧ t.rd Reg.CHECK_MISMATCH_CNT = sat32 (c.rd Reg.CHECK_MISMATCH_CNT + bad.length) ∧
      t.rd Reg.CHECK_EXCUSED_CNT = sat32 (c.rd Reg.CHECK_EXCUSED_CNT + ((c.differing d).length - bad.length)) ∧
      (bad ≠ [] → bit (t.rd Reg.PAIR_EVT) 6 = true) := by
  subst hbad ht
  obtain ⟨l, hsame⟩ := c.sameButEvents_inCycle fun c => c.ferryIn d
  obtain ⟨hcsn, hoct, hrec, howed, hisle, hmis⟩ := ({ c with batch := some l } : Chip).ferryIn_pair d
  obtain ⟨hu, hcnt, hexc, hevt⟩ := ({ c with batch := some l } : Chip).ferryIn_rest d
  rw [hsame.pair, hsame.univs, hsame.rd_power (by decide), hsame.rd_power (by decide), hsame.rd_power (by decide)]
  exact ⟨hcsn, hoct, hrec, howed, hisle, hu, hmis, hcnt, hexc, hevt⟩

theorem Chip.ferryOut_of_sent (c : Chip) {n : Nat} (h : c.pair.ferrySending.find? (fun e => e.1 == d.csn) = some (d.csn, n)) :
    (c.ferryOut d).pair.ferryCsn = d.csn ∧ (c.ferryOut d).pair.ferryOctets = n ∧
      (c.ferryOut d).pair.ferrySending = c.pair.ferrySending.filter (fun e => e.1 != d.csn) ∧
      ∀ at_, c.pair.crossAt.find? (fun e => e.1 == d.csn + 1) = some (d.csn + 1, at_) →
        (c.ferryOut d).pair.ferryUs = (c.cycle - at_) / 800 := by
  rw [Chip.ferryOut, h]
  refine ⟨rfl, rfl, rfl, fun at_ hat => ?_⟩
  rw [Chip.setPair_pair]
  dsimp only
  rw [Chip.noteFerry, hat]
  rfl

theorem Chip.ferryOut_of_none (c : Chip) (h : c.pair.ferrySending.find? (fun e => e.1 == d.csn) = none) : c.ferryOut d = c := by
  rw [Chip.ferryOut, h]

theorem Chip.ferryOverdue_parts (c : Chip) : c.ferryOverdue.pair.ferryLate = true ∧
    c.ferryOverdue.pair.lateOwed = c.pair.lateOwed + c.pair.isle.standing.toNat ∧ c.ferryOverdue.pair.isle = c.pair.isle ∧
    c.ferryOverdue.cycle = max c.cycle (c.fg.crossCycle + c.fg.rateD * 200000000 / c.fg.rateN) ∧
    c.ferryOverdue.rd Reg.FERRY_LATE_CNT = sat32 (c.rd Reg.FERRY_LATE_CNT + 1) := by
  unfold Chip.ferryOverdue
  generalize c.fg.crossCycle + c.fg.rateD * 200000000 / c.fg.rateN = n
  refine ⟨by rw [Chip.setPair_pair], by rw [Chip.setPair_pair], by rw [Chip.setPair_pair], ?_, ?_⟩
  · exact (c.runToCycle_parts n).1
  · calc (((c.runToCycle n).inc Reg.FERRY_LATE_CNT).setPair _).rd Reg.FERRY_LATE_CNT
        = ((c.runToCycle n).inc Reg.FERRY_LATE_CNT).rd Reg.FERRY_LATE_CNT := Chip.rd_congr rfl
      _ = sat32 ((c.runToCycle n).rd Reg.FERRY_LATE_CNT + 1) := Chip.rd_inc_same _ _
      _ = sat32 (c.rd Reg.FERRY_LATE_CNT + 1) := by rw [Chip.rd_congr (c.runToCycle_parts n).2.2]

/-- What waits for no acknowledgement any more is accepted alone, and the rest waits on. -/
theorem Chip.acceptMirrored_parts (c : Chip) (w : MirrorWait) (rest : List MirrorWait) {t : Chip}
    (ht : t = ((c.setPair { c.pair with mirrorWait := rest }).tellMissed w.commit.target).acceptMirrored w) :
    t.pair.mirrorWait = rest ∧ t.pair.peerStale = true := by
  have hkeeps := Chip.keepsWaiting_acceptMirrored ((c.setPair { c.pair with mirrorWait := rest }).tellMissed w.commit.target) w
  rw [ht]
  refine ⟨?_, hkeeps.2 ?_⟩
  · rw [hkeeps.mirrorWait, Chip.pair_tellMissed]
    rfl
  · rw [Chip.pair_tellMissed]

theorem exec_ferry_of_linkDown (h : s.chip.domainOn 10 = false ∨ s.chip.pair.linkUp = false) :
    (∀ d, exec (.ferryComplete d) s = .next s) ∧ exec .ferryLate s = .next s ∧ ∀ b, exec (.bulkFerryComplete b) s = .next s := by
  have hnot : s.chip.domainOn 10 = false ∨ s.chip.pair.linkUp ≠ true := h.imp id ne_true_of_eq_false
  exact ⟨fun _ => onLink_of_not _ hnot, onLink_of_not _ hnot, fun _ => onLink_of_not _ hnot⟩

end

/-- Settles O54: a forwarded commit by where its crossing lies, the first one not acknowledged by its judgement anew, a ferry by the
isle that it ends on, and a beacon by whether it is of the pair. -/
theorem islesExchangeCommitsFerriesAndBeacons : Obligations.IslesExchangeCommitsFerriesAndBeacons := by
  unfold Obligations.IslesExchangeCommitsFerriesAndBeacons
  rintro s _ _ rfl rfl
  refine ⟨fun m => ⟨fun hd hu hin hok hh hdem => ?_, fun hnot => exec_mirrorCommitReceive_of_not m ?_⟩, fun w rest hw => ?_,
    exec_mirrorAckTimeout_of_none, fun hd hu => ?_, exec_ferry_of_linkDown, fun port k hp => ?_⟩
  case refine_1 =>
    have hexec := exec_mirrorCommitReceive m hd hu ((s.chip.takesMirrored_eq_true_iff m).2 ⟨hin, hok, hdem, hh⟩)
    refine ⟨fun hr => ⟨_, hexec, s.onto_dram _, s.chip.next_mirrorHeard_of_resync m hr⟩, fun hr hx hlate => ?_, fun hr hx hopen hroom => ?_,
      fun hr hx => hexec.trans ?_⟩
    · refine ⟨_, hexec, s.onto_dram _, ?_⟩
      rw [State.onto_chip, s.chip.next_mirrorHeard_of_late m hr hx hlate]
      refine ⟨rfl, rfl, rfl, fun hnone => ?_⟩
      have hs : (s.chip.heardLink.emit (.linkAck s.chip.pair.rxSeq)).pair.staleAt = none := hnone
      rw [Chip.staleFrom, hs]
      rfl
    · exact ⟨_, hexec, s.onto_dram _, s.chip.next_mirrorHeard_of_open m hr hx hopen hroom⟩
    · refine congrArg (Host.Outcome.next ∘ s.onto) (Chip.inCycle_congr fun b => ?_)
      rw [Chip.mirrorHeard, if_neg (ne_true_of_eq_false hr), Chip.applyMirrored, if_pos hx]
  case refine_2 =>
    refine hnot.imp id fun h => h.imp id fun h => eq_false_of_ne_true fun ht => ?_
    obtain ⟨hin, hok, hdem, hh⟩ := (s.chip.takesMirrored_eq_true_iff m).1 ht
    simp_all
  case refine_3 =>
    obtain ⟨hwait, hstale⟩ := s.chip.acceptMirrored_parts w rest rfl
    refine ⟨_, exec_mirrorAckTimeout_of_waiting hw, s.onto_dram _, hwait, hstale, fun d e m hh hs hop hd he hm => ?_⟩
    have hd' : d.openCsn = s.chip.openCsn ∧ d.commits = s.chip.commits := by
      rw [hd, Chip.openCsn_tellMissed, Chip.commits_tellMissed]
      exact ⟨rfl, rfl⟩
    have hacc := d.commits_acceptMirrored hop hh hs (hd'.1 ▸ he) (hd'.1 ▸ hm)
    rw [State.onto_chip, ← hd, hacc, hd'.2]
    exact ⟨fun h => if_neg (by simp [h]), fun h => if_pos (Option.isSome_iff_ne_none.2 h)⟩
  case refine_4 =>
    refine ⟨fun d n hi hn => ?_, fun d hi hn => ?_, fun d hi h => exec_ferryComplete_of_neither d hd hu hi h,
      fun d bad hst hm hr hbad => ?_, fun awaited haw => ⟨fun hl hw hc hx => ?_, fun h => ?_⟩,
      fun b h => exec_bulkFerryComplete_of_none hd hu b h, fun b hr hh hi => ?_, fun hr hh hi =>
        ⟨exec_bulkFerryComplete_of_empty hd hu hr hh hi, fun b => exec_bulkFerryComplete_of_bulk hd hu hr hh b hi⟩⟩
    · exact ⟨_, exec_ferryComplete_of_active d hd hu hi, s.onto_dram _, s.chip.ferryOut_of_sent d hn⟩
    · rw [exec_ferryComplete_of_active d hd hu hi, s.chip.ferryOut_of_none d hn, State.onto_self]
    · exact ⟨_, exec_ferryComplete_of_shadow d hd hu hst hm hr, s.onto_dram _, s.chip.next_ferryIn d hbad rfl⟩
    · exact ⟨_, exec_ferryLate_of_due hd hu ((s.chip.ferryAwaited_eq hu).trans (haw ▸ hw)) hl hc hx, s.onto_dram _,
        s.chip.ferryOverdue_parts⟩
    · exact exec_ferryLate_of_not hd hu (h.imp id fun h => h.imp (fun h => (s.chip.ferryAwaited_eq hu).trans (haw ▸ h)) id)
    · exact ⟨_, exec_bulkFerryComplete_of_active hd hu hr hh b hi, s.onto_dram _, rfl, rfl, rfl,
        fun a ha hp hf => s.chip.running_resyncEnded ha hp hf⟩
  case refine_5 =>
    exact ⟨exec_beaconReceive_of_pair k hp, exec_beaconReceive_of_not k hp⟩

end Sys2Proof.Machine
end

section
/-! SUPPORT. What a sample of a feed leaves as it was (R350 to R355, R364), the energies that its power adds (R354, R356), and the
levels that its filters take (R349, R351). Then the rows of the samples and of the pulse outputs. -/

namespace Sys2Proof.Machine

open Sys2Proof

/-! ### What the meters keep -/

theorem Chip.SameButEvents.feeds {c d : Chip} (h : c.SameButEvents d) : d.feeds = c.feeds := by rw [h.1]

theorem Chip.feed_congr {c d : Chip} (h : d.feeds = c.feeds) (f : Nat) : d.feed f = c.feed f := by
  rw [Chip.feed, h]
  rfl

theorem Chip.energyOf_congr {c d : Chip} (h : d.energy = c.energy) (k : Nat) : d.energyOf k = c.energyOf k := by
  rw [Chip.energyOf, h]
  rfl

/-- No sample takes energy, a commit or a live register away, nor a modulator fault that a feed has told. -/
structure Chip.KeepsMeter (c d : Chip) : Prop where
  energy : d.energy = c.energy
  commits : d.commits = c.commits
  live : d.live = c.live
  told : ∀ g, g < 8 → bit (c.rd (Reg.MF_EVT g)) 3 = true → bit (d.rd (Reg.MF_EVT g)) 3 = true

/-- Beside that, feed `f` keeps its samples and its faults. -/
structure Chip.KeepsSample (f : Nat) (c d : Chip) : Prop extends Chip.KeepsMeter c d where
  plain : (d.feed f).plain = (c.feed f).plain
  hist : (d.feed f).hist = (c.feed f).hist
  faulted : (d.feed f).faulted = (c.feed f).faulted

section
variable {c d e : Chip} {f : Nat}

theorem Chip.KeepsMeter.trans (h : c.KeepsMeter d) (k : d.KeepsMeter e) : c.KeepsMeter e :=
  ⟨k.energy.trans h.energy, k.commits.trans h.commits, k.live.trans h.live, fun g hg hb => k.told g hg (h.told g hg hb)⟩

theorem Chip.KeepsSample.trans (h : c.KeepsSample f d) (k : d.KeepsSample f e) : c.KeepsSample f e :=
  ⟨h.toKeepsMeter.trans k.toKeepsMeter, k.plain.trans h.plain, k.hist.trans h.hist, k.faulted.trans h.faulted⟩

theorem Chip.KeepsMeter.of_rest (h : d = { c with
      feeds := d.feeds, calib := d.calib, warning := d.warning, arbiter := d.arbiter, pulseOuts := d.pulseOuts, fifos := d.fifos
      produced := d.produced }) :
    c.KeepsMeter d := by
  rw [h]
  exact ⟨rfl, rfl, rfl, fun _ _ hb => hb⟩

theorem Chip.KeepsMeter.of_events (h : c.SameButEvents d) : c.KeepsMeter d :=
  ⟨h.energy, h.commits, h.live, fun g hg hb => by rw [h.rd_power (by unfold Reg.MF_EVT; omega), hb]⟩

theorem Chip.KeepsMeter.keepsSample (h : c.KeepsMeter d) (hf : d.feeds = c.feeds) : c.KeepsSample f d := by
  refine ⟨h, ?_, ?_, ?_⟩ <;> rw [Chip.feed_congr hf]

theorem Chip.KeepsSample.of_events (h : c.SameButEvents d) : c.KeepsSample f d := (Chip.KeepsMeter.of_events h).keepsSample h.feeds

theorem Chip.KeepsSample.refl (c : Chip) : c.KeepsSample f c := .of_events (.refl c)

end

section
variable (c : Chip) {f : Nat}

theorem Chip.keepsSample_wr {off : Nat} (v : Nat) (h : ∀ g, g < 8 → Reg.MF_EVT g ≠ off) : c.KeepsSample f (c.wr off v) :=
  Chip.KeepsMeter.keepsSample ⟨rfl, rfl, rfl, fun g hg hb => by rw [Chip.rd_wr_ne _ _ _ _ (h g hg), hb]⟩ rfl

theorem Chip.keepsSample_setEvt (off mask : Nat) : c.KeepsSample f (c.setEvt off mask) :=
  Chip.KeepsMeter.keepsSample ⟨rfl, rfl, rfl, fun _ _ hb => c.bit_rd_setEvt_of_set _ _ _ _ (by decide) hb⟩ rfl

theorem Chip.keepsSample_raise (src code : Nat) (items : List Byte) : c.KeepsSample f (c.raise src code items) :=
  .of_events (c.sameButEvents_raise src code items)

theorem Chip.keepsSample_tell (off mask src code : Nat) (items : List Byte) :
    c.KeepsSample f ((c.setEvt off mask).raise src code items) :=
  (c.keepsSample_setEvt off mask).trans (Chip.keepsSample_raise _ _ _ _)

/-- A feed that is written with the samples and the faults it has. -/
theorem Chip.keepsSample_setFeed {x : Feed} (hp : x.plain = (c.feed f).plain) (hh : x.hist = (c.feed f).hist)
    (hf : x.faulted = (c.feed f).faulted) : c.KeepsSample f (c.setFeed f x) := by
  refine ⟨⟨rfl, rfl, rfl, fun _ _ hb => hb⟩, ?_, ?_, ?_⟩ <;> rw [Chip.feed_setFeed_same]
  exacts [hp, hh, hf]

theorem Chip.keepsSample_foldl {α : Type} {g : Chip → α → Chip} (l : List α) (h : ∀ d a, a ∈ l → Chip.KeepsSample f d (g d a)) :
    c.KeepsSample f (l.foldl g c) :=
  List.foldlRecOn l g (motive := Chip.KeepsSample f c) (.refl c) fun d hd a ha => hd.trans (h d a ha)

/-! ### Records and the early warning -/

theorem Chip.keepsSample_closeBank (n : Nat) : c.KeepsSample f (c.closeBank n) := by
  have hset : ∀ x : Fifo, c.KeepsSample f (c.setFifo n x) := fun x => (Chip.KeepsMeter.of_rest rfl).keepsSample rfl
  unfold Chip.closeBank
  extract_lets x d
  exact (hset _).trans (d.keepsSample_tell _ _ _ _ _)

theorem Chip.keepsSample_putWhole (n : Nat) (octets : List Byte) : c.KeepsSample f ((c.putRecord n octets).tryClose n) := by
  have hput : c.KeepsSample f (c.putRecord n octets) := (Chip.KeepsMeter.of_rest rfl).keepsSample rfl
  unfold Chip.tryClose
  split
  · exact hput.trans (Chip.keepsSample_closeBank _ n)
  · exact hput

theorem Chip.keepsSample_loseRecord (n : Nat) : c.KeepsSample f (c.loseRecord n) := by
  unfold Chip.loseRecord
  extract_lets d
  have hd : c.KeepsSample f d := c.keepsSample_wr _ fun g _ => by unfold Reg.MF_EVT Reg.TF_LOST; omega
  split
  · exact hd
  · exact hd.trans (d.keepsSample_tell _ _ _ _ _)

theorem Chip.keepsSample_produce (producer : Nat) (body : List Byte) : c.KeepsSample f (c.produce producer body) := by
  unfold Chip.produce Chip.startRecord
  extract_lets seq d
  have hd : c.KeepsSample f d := (Chip.KeepsMeter.of_rest rfl).keepsSample rfl
  split
  · exact hd
  extract_lets
  split
  · exact hd
  split
  · exact hd.trans (d.keepsSample_putWhole _ _)
  split
  · exact (hd.trans (d.keepsSample_closeBank _)).trans (Chip.keepsSample_putWhole _ _ _)
  · exact hd.trans (d.keepsSample_loseRecord _)

theorem Chip.keepsSample_beginJournal (cause : Nat) : c.KeepsSample f (c.beginJournal cause) := by
  unfold Chip.beginJournal
  split
  · exact .refl c
  extract_lets d
  split <;> exact (Chip.KeepsMeter.of_rest rfl).keepsSample rfl

theorem Chip.keepsSample_earlyWarning (source : Nat) : c.KeepsSample f (c.earlyWarning source) := by
  unfold Chip.earlyWarning
  extract_lets w d e recent
  have hactive : c.KeepsSample f { c with warning := { c.warning with active := true, lastCycle := c.cycle } } :=
    (Chip.KeepsMeter.of_rest rfl).keepsSample rfl
  have he : c.KeepsSample f e := (hactive.trans (Chip.keepsSample_setEvt _ _ _)).trans (Chip.keepsSample_raise _ _ _ _)
  split
  · exact he
  · exact he.trans (e.keepsSample_beginJournal 0)

/-! ### Power quality and windows -/

theorem Chip.keepsSample_pqRecord (e : PqOpen) (ended : Bool) : c.KeepsSample f (c.pqRecord f e ended) :=
  (c.keepsSample_wr _ fun g _ => by unfold Reg.MF_EVT Reg.MF_PQ_REC_CNT; omega).trans (Chip.keepsSample_produce _ _ _)

theorem Chip.keepsSample_pqStart (e : PqOpen) : c.KeepsSample f (c.pqStart f e) := by
  unfold Chip.pqStart
  extract_lets d g
  have hg : c.KeepsSample f g := ((c.keepsSample_pqRecord e false).trans (Chip.keepsSample_setEvt _ _ _)).trans
    (Chip.keepsSample_raise _ _ _ _)
  split
  · exact hg.trans (g.keepsSample_earlyWarning _)
  · exact hg

theorem Chip.keepsSample_pqKind (ph : Nat) (vals : List (Nat × Rat)) (v : Rat) (kind : Nat) :
    c.KeepsSample f (c.pqKind f ph vals v kind) := by
  unfold Chip.pqKind
  extract_lets x rest on seen opened over_
  split
  · split
    · exact .refl c
    · exact c.keepsSample_setFeed rfl rfl rfl
  · extract_lets e e' d g k after
    have hd : c.KeepsSample f d := c.keepsSample_setFeed rfl rfl rfl
    have hg : c.KeepsSample f g := by
      unfold g
      split
      · exact hd.trans (d.keepsSample_pqStart _)
      · exact hd
    have hk : c.KeepsSample f k := by
      unfold k
      split
      · exact hg.trans (g.keepsSample_pqRecord _ _)
      · exact hg.trans (g.keepsSample_wr _ fun n _ => by unfold Reg.MF_EVT Reg.MF_PQ_SHORT_CNT; omega)
    split
    · exact hg
    · exact hk.trans (k.keepsSample_setFeed rfl rfl rfl)

theorem Chip.keepsSample_refresh (ph n : Nat) : c.KeepsSample f (c.refresh f ph n) := by
  unfold Chip.refresh
  extract_lets x v y d scale vals
  have hd : c.KeepsSample f d := c.keepsSample_setFeed rfl rfl rfl
  split
  · exact hd
  · exact hd.trans (d.keepsSample_foldl _ fun e kind _ => e.keepsSample_pqKind _ _ _ _)

theorem Chip.keepsSample_halfCycle (ph : Nat) : c.KeepsSample f (c.halfCycle f ph) := by
  unfold Chip.halfCycle
  extract_lets x positive m half due d
  have hd : c.KeepsSample f d := c.keepsSample_setFeed rfl rfl rfl
  split
  · exact hd.trans (d.keepsSample_refresh _ _)
  · exact hd

theorem Chip.keepsSample_endWindow : c.KeepsSample f (c.endWindow f) := by
  unfold Chip.endWindow
  extract_lets x n ts freq ok ps pq d e g k
  have hd : c.KeepsSample f d := c.keepsSample_wr _ fun g _ => by unfold Reg.MF_EVT Reg.MF_FREQ; omega
  have he : c.KeepsSample f e := hd.trans (d.keepsSample_foldl _ fun b w hw => by
    have hw3 : w < 3 := List.mem_range.1 hw
    have hphase : ∀ v i p : Nat, b.KeepsSample f (((b.wr (Reg.MF_VRMS f w) v).wr (Reg.MF_IRMS f w) i).wr (Reg.MF_PF f w) p) :=
      fun v i p => ((b.keepsSample_wr v fun g _ => by unfold Reg.MF_EVT Reg.MF_VRMS; omega).trans
        (Chip.keepsSample_wr _ i fun g _ => by unfold Reg.MF_EVT Reg.MF_IRMS; omega)).trans
        (Chip.keepsSample_wr _ p fun g _ => by unfold Reg.MF_EVT Reg.MF_PF; omega)
    split <;> exact hphase _ _ _)
  have hg : c.KeepsSample f g := he.trans (e.keepsSample_wr _ fun n _ => by unfold Reg.MF_EVT Reg.MF_INRMS; omega)
  have hk : c.KeepsSample f k := hg.trans (g.keepsSample_wr _ fun n _ => by unfold Reg.MF_EVT Reg.MF_PF_FEED; omega)
  exact hk.trans (k.keepsSample_setFeed hk.plain.symm hk.hist.symm hk.faulted.symm)

theorem Chip.keepsSample_spanSample : c.KeepsSample f (c.spanSample f) := by
  unfold Chip.spanSample
  split
  · exact .refl c
  split
  · exact .refl c
  · exact (Chip.KeepsMeter.of_rest rfl).keepsSample rfl

theorem Chip.keepsSample_noteWarn (before : Bool) : c.KeepsSample f (c.noteWarn before) := by
  unfold Chip.noteWarn
  split
  · exact (Chip.KeepsMeter.of_rest rfl).keepsSample rfl
  · exact .refl c

theorem Chip.keepsSample_addPulses (g : Nat) (parts : List (Nat × Nat)) : c.KeepsSample f (c.addPulses g parts) :=
  c.keepsSample_foldl _ fun d n _ => by
    have hset : ∀ y : Pulse, d.KeepsSample f (d.setPulse n y) := fun y => (Chip.KeepsMeter.of_rest rfl).keepsSample rfl
    extract_lets x y
    split
    · exact .refl d
    split
    · exact (hset _).trans (Chip.keepsSample_tell _ _ _ _ _ _)
    · exact hset _

end

/-! ### The energies of a power sample (R354, R356) -/

/-- Energy added to a register of a position. -/
def Chip.addPart (f pos : Nat) (c : Chip) (e : Nat × Nat) : Chip :=
  if e.2 = 0 then c else c.setEnergy (energyKey f pos e.1) ((c.energyOf (energyKey f pos e.1)).gain e.2)

/-- Energies added to the registers of a position. -/
def Chip.addParts (c : Chip) (f pos : Nat) (parts : List (Nat × Nat)) : Chip := parts.foldl (Chip.addPart f pos) c

theorem energyKey_inj {f p q p' q' : Nat} (hq : q < 7) (hq' : q' < 7) (h : energyKey f p q = energyKey f p' q') : p = p' ∧ q = q' := by
  unfold energyKey at h
  omega

/-- A power sample adds to three registers at most, each of its own quantity. -/
theorem energyParts_keys (p q : Rat) : ((energyParts p q).map Prod.fst).Nodup ∧ ∀ e ∈ energyParts p q, e.1 < 7 := by
  unfold energyParts
  extract_lets a
  by_cases hp : 0 ≤ p <;> by_cases hq : 0 ≤ q <;> simp [hp, hq]

section
variable {f pos : Nat}

theorem Chip.addParts_eq (c : Chip) (l : List (Nat × Nat)) : ∃ es, c.addParts f pos l = { c with energy := es } :=
  List.foldlRecOn l _ (motive := fun d : Chip => ∃ es, d = { c with energy := es }) ⟨_, rfl⟩ fun d hd e _ => by
    obtain ⟨es, rfl⟩ := hd
    unfold Chip.addPart
    split
    · exact ⟨_, rfl⟩
    · exact ⟨_, rfl⟩

theorem Chip.energyOf_addPart_same (c : Chip) {e : Nat × Nat} (h : 0 < e.2) :
    (c.addPart f pos e).energyOf (energyKey f pos e.1) = (c.energyOf (energyKey f pos e.1)).gain e.2 := by
  rw [Chip.addPart, if_neg (Nat.ne_of_gt h), Chip.energyOf_setEnergy_same]

theorem Chip.energyOf_addPart_ne (c : Chip) {e : Nat × Nat} {k : Nat} (h : energyKey f pos e.1 ≠ k) :
    (c.addPart f pos e).energyOf k = c.energyOf k := by
  unfold Chip.addPart
  split
  · rfl
  · exact Chip.energyOf_setEnergy_ne _ _ _ _ h.symm

theorem Chip.energyOf_addParts_of_not (c : Chip) {k : Nat} (l : List (Nat × Nat)) (h : ∀ e ∈ l, energyKey f pos e.1 ≠ k) :
    (c.addParts f pos l).energyOf k = c.energyOf k :=
  List.foldlRecOn l _ (motive := fun d : Chip => d.energyOf k = c.energyOf k) rfl fun d hd e he =>
    (d.energyOf_addPart_ne (h e he)).trans hd

theorem Chip.energyOf_addParts_of_mem {q n : Nat} (hn : 0 < n) (l : List (Nat × Nat)) : ∀ (c : Chip), (l.map Prod.fst).Nodup →
    (∀ e ∈ l, e.1 < 7) → (q, n) ∈ l → (c.addParts f pos l).energyOf (energyKey f pos q) = (c.energyOf (energyKey f pos q)).gain n := by
  induction l with
  | nil => exact fun _ _ _ h => absurd h List.not_mem_nil
  | cons e l ih =>
    intro c hnodup hlt hmem
    obtain ⟨hnot, hnodup'⟩ := List.nodup_cons.1 hnodup
    obtain ⟨he, hlt'⟩ := List.forall_mem_cons.1 hlt
    have hother : ∀ x ∈ l, energyKey f pos x.1 ≠ energyKey f pos e.1 := fun x hx h =>
      hnot ((energyKey_inj (hlt' x hx) he h).2 ▸ List.mem_map_of_mem hx)
    have hcons : c.addParts f pos (e :: l) = (c.addPart f pos e).addParts f pos l := rfl
    rw [hcons]
    rcases List.mem_cons.1 hmem with heq | hmem
    · subst heq
      rw [Chip.energyOf_addParts_of_not _ l hother, c.energyOf_addPart_same hn]
    · rw [ih _ hnodup' hlt' hmem, c.energyOf_addPart_ne (hother _ hmem).symm]

theorem Chip.energyOf_addPower_of_pos {pos' qn : Nat} (c : Chip) (p q : Rat) (hqn : qn < 7) (h : pos' ≠ pos) :
    (c.addPower f pos p q).energyOf (energyKey f pos' qn) = c.energyOf (energyKey f pos' qn) :=
  c.energyOf_addParts_of_not _ fun e he hk => h (energyKey_inj ((energyParts_keys p q).2 e he) hqn hk).1.symm

theorem Chip.addPower_eq (c : Chip) (p q : Rat) : ∃ es, c.addPower f pos p q = { c with energy := es } :=
  c.addParts_eq _

end

/-- The powers of phases added, each at its own position. -/
def Chip.addPhases (c : Chip) (f : Nat) (l : List (Nat × Rat × Rat)) : Chip := l.foldl (fun c e => c.addPower f e.1 e.2.1 e.2.2) c

section
variable {f ph qn n : Nat}

theorem Chip.addPhases_eq (c : Chip) (l : List (Nat × Rat × Rat)) : ∃ es, c.addPhases f l = { c with energy := es } :=
  List.foldlRecOn l _ (motive := fun d : Chip => ∃ es, d = { c with energy := es }) ⟨_, rfl⟩ fun d hd e _ => by
    obtain ⟨es, rfl⟩ := hd
    obtain ⟨es', heq⟩ := Chip.addPower_eq (f := f) (pos := e.1) { c with energy := es } e.2.1 e.2.2
    exact ⟨es', heq⟩

theorem Chip.energyOf_addPhases_of_not (c : Chip) (hqn : qn < 7) (l : List (Nat × Rat × Rat)) (h : ph ∉ l.map Prod.fst) :
    (c.addPhases f l).energyOf (energyKey f ph qn) = c.energyOf (energyKey f ph qn) :=
  List.foldlRecOn l _ (motive := fun d : Chip => d.energyOf (energyKey f ph qn) = c.energyOf (energyKey f ph qn)) rfl
    fun d hd e he =>
      have hne : ph ≠ e.1 := fun heq => h (by rw [heq]; exact List.mem_map_of_mem he)
      (d.energyOf_addPower_of_pos _ _ hqn hne).trans hd

theorem Chip.energyOf_addPhases_of_mem {p q : Rat} (hn : 0 < n) (hmem : (qn, n) ∈ energyParts p q) (l : List (Nat × Rat × Rat)) :
    ∀ c : Chip, (l.map Prod.fst).Nodup → (ph, p, q) ∈ l →
      (c.addPhases f l).energyOf (energyKey f ph qn) = (c.energyOf (energyKey f ph qn)).gain n := by
  obtain ⟨hkeys, hlt⟩ := energyParts_keys p q
  induction l with
  | nil => exact fun _ _ h => absurd h List.not_mem_nil
  | cons e l ih =>
    intro c hnodup hin
    obtain ⟨hnot, hnodup'⟩ := List.nodup_cons.1 hnodup
    have hcons : c.addPhases f (e :: l) = (c.addPower f e.1 e.2.1 e.2.2).addPhases f l := rfl
    rw [hcons]
    rcases List.mem_cons.1 hin with heq | hin
    · subst heq
      rw [Chip.energyOf_addPhases_of_not _ (hlt _ hmem) l hnot]
      exact Chip.energyOf_addParts_of_mem hn _ c hkeys hlt hmem
    · have hne : ph ≠ e.1 := fun h => hnot (h ▸ List.mem_map_of_mem (f := Prod.fst) hin)
      rw [ih _ hnodup' hin, c.energyOf_addPower_of_pos _ _ (hlt _ hmem) hne]

end

/-- The powers of the phases in use. -/
def Feed.powers (x : Feed) : List (Nat × Rat × Rat) := x.phases.map fun ph => (ph, x.power ph)

theorem Feed.phases_nodup (x : Feed) : x.phases.Nodup ∧ ∀ ph ∈ x.phases, ph < 3 := by
  unfold Feed.phases
  split <;> decide

theorem Feed.powers_keys (x : Feed) : x.powers.map Prod.fst = x.phases := by
  rw [Feed.powers, List.map_map]
  exact List.map_id _

/-- The powers of a sample added to the registers of its phases and of its feed. -/
def Chip.addSample (c : Chip) (f : Nat) : Chip :=
  (c.addPhases f (c.feed f).powers).addPower f 3 ((c.feed f).powers.map fun e => e.2.1).sum ((c.feed f).powers.map fun e => e.2.2).sum

section
variable (c : Chip) {f : Nat}

theorem Chip.addSample_eq : ∃ es, c.addSample f = { c with energy := es } := by
  obtain ⟨es, hphases⟩ := c.addPhases_eq (f := f) (c.feed f).powers
  obtain ⟨es', hpower⟩ := Chip.addPower_eq (f := f) (pos := 3) { c with energy := es }
    ((c.feed f).powers.map fun e => e.2.1).sum ((c.feed f).powers.map fun e => e.2.2).sum
  exact ⟨es', by rw [Chip.addSample, hphases, hpower]⟩

theorem Chip.keepsSample_accumulate : (c.addSample f).KeepsSample f (c.accumulate f) := Chip.keepsSample_addPulses _ _ _

/-- The energy of a phase in use gains what its power adds. -/
theorem Chip.energyOf_addSample {ph qn n : Nat} (hph : ph ∈ (c.feed f).phases)
    (hqn : (qn, n) ∈ energyParts ((c.feed f).power ph).1 ((c.feed f).power ph).2) (hn : 0 < n) :
    (c.addSample f).energyOf (energyKey f ph qn) = (c.energyOf (energyKey f ph qn)).gain n := by
  obtain ⟨hnodup, hlt⟩ := (c.feed f).phases_nodup
  rw [Chip.addSample, Chip.energyOf_addPower_of_pos _ _ _ ((energyParts_keys _ _).2 _ hqn) (Nat.ne_of_lt (hlt ph hph))]
  exact Chip.energyOf_addPhases_of_mem hn hqn _ c (by rwa [Feed.powers_keys]) (List.mem_map.2 ⟨ph, hph, rfl⟩)

end

/-! ### The levels of a sample (R349 to R351) -/

theorem getD_set_true (l : List Bool) (i j : Nat) : (l.set i true).getD j false = (l.getD j false || decide (i = j ∧ j < l.length)) := by
  simp only [List.getD_eq_getElem?_getD, List.getElem?_set]
  by_cases hij : i = j <;> by_cases hj : j < l.length <;> simp [hij, hj]

theorem set_true_of_getD {l : List Bool} {i : Nat} (h : l.getD i false = true) : l.set i true = l := by
  by_cases hi : i < l.length
  · rw [List.getD_eq_getElem _ _ hi] at h
    rw [← h, List.set_getElem_self]
  · rw [List.set_eq_of_length_le (Nat.not_lt.1 hi)]

/-- Faults set at channels. -/
def setFaults (l : List Bool) (chs : List Nat) : List Bool := chs.foldl (fun l ch => l.set ch true) l

theorem length_setFaults (chs : List Nat) : ∀ l, (setFaults l chs).length = l.length := by
  induction chs with
  | nil => exact fun _ => rfl
  | cons ch chs ih => exact fun l => (ih _).trans (List.length_set ..)

theorem getD_setFaults (chs : List Nat) {ch : Nat} : ∀ l, ch < l.length →
    (setFaults l chs).getD ch false = (l.getD ch false || decide (ch ∈ chs)) := by
  induction chs with
  | nil => exact fun l _ => by simp [setFaults]
  | cons x chs ih =>
    intro l hl
    have hcons : setFaults l (x :: chs) = setFaults (l.set x true) chs := rfl
    rw [hcons, ih _ (by rwa [List.length_set]), getD_set_true]
    by_cases hx : x = ch
    · simp [hx, hl]
    · simp [hx, Ne.symm hx]

/-- A channel is faulted where its last levels are one, whatever it was before. -/
theorem setFaults_held (p q : Nat → Bool) :
    setFaults ((List.range 7).map fun ch => q ch && p ch) ((List.range 7).filter p) = (List.range 7).map p := by
  refine List.ext_getElem (by simp [length_setFaults]) fun i hi _ => ?_
  have hi7 : i < 7 := by simpa [length_setFaults] using hi
  have hget := getD_setFaults ((List.range 7).filter p) (ch := i) ((List.range 7).map fun ch => q ch && p ch) (by simpa using hi7)
  rw [← List.getD_eq_getElem _ false hi, hget]
  simp [hi7]

section
variable (c : Chip) {f : Nat}

theorem Chip.feed_modFault (ch : Nat) (he : (c.feed f).en = true) :
    (c.modFault f ch).feed f = { c.feed f with faulted := (c.feed f).faulted.set ch true } := by
  unfold Chip.modFault
  dsimp only
  split
  next h =>
    rw [he] at h
    rw [set_true_of_getD h]
  next =>
    rw [Chip.feed_congr (Chip.sameButEvents_raise _ _ _ _).feeds]
    exact Chip.feed_setFeed_same _ _ _

theorem Chip.keepsMeter_modFault (ch : Nat) : c.KeepsMeter (c.modFault f ch) := by
  have hset : ∀ x : Feed, c.KeepsMeter (c.setFeed f x) := fun x => .of_rest rfl
  unfold Chip.modFault
  extract_lets x
  split
  · exact ⟨rfl, rfl, rfl, fun _ _ h => h⟩
  · exact (hset _).trans (Chip.keepsSample_tell (f := f) _ _ _ _ _ _).toKeepsMeter

/-- A channel that was not faulted tells its fault. -/
theorem Chip.told_modFault {ch : Nat} (hf : f < 8) (he : (c.feed f).en = true) (h : (c.feed f).faulted.getD ch false = false) :
    bit ((c.modFault f ch).rd (Reg.MF_EVT f)) 3 = true := by
  have hnot : ¬ (!(c.feed f).en || (c.feed f).faulted.getD ch false) = true := by
    rw [he, h]
    decide
  unfold Chip.modFault
  rw [if_neg hnot]
  exact Chip.bit_rd_told _ 8 3 _ _ _ (by unfold Reg.MF_EVT; omega) (by decide) (by decide)

/-- Faults of channels of an enabled feed, one after another. -/
theorem Chip.modFaults_parts (hf : f < 8) (chs : List Nat) : ∀ c : Chip, (c.feed f).en = true →
    c.KeepsMeter (chs.foldl (fun c ch => c.modFault f ch) c) ∧
    (chs.foldl (fun c ch => c.modFault f ch) c).feed f = { c.feed f with faulted := setFaults (c.feed f).faulted chs } ∧
    ∀ ch ∈ chs, (c.feed f).faulted.getD ch false = false →
      bit ((chs.foldl (fun c ch => c.modFault f ch) c).rd (Reg.MF_EVT f)) 3 = true := by
  induction chs with
  | nil => exact fun c _ => ⟨⟨rfl, rfl, rfl, fun _ _ h => h⟩, rfl, fun _ h => absurd h List.not_mem_nil⟩
  | cons x chs ih =>
    intro c he
    have hfeed := c.feed_modFault x he
    obtain ⟨hkeeps, hchs, htold⟩ := ih (c.modFault f x) (by rw [hfeed, he])
    rw [List.foldl_cons]
    refine ⟨(c.keepsMeter_modFault x).trans hkeeps, ?_, fun ch hch hnot => ?_⟩
    · rw [hchs, hfeed]
      rfl
    by_cases hx : (c.feed f).faulted.getD x false = false
    · exact hkeeps.told f hf (c.told_modFault hf he hx)
    have hne : x ≠ ch := fun h => hx (h ▸ hnot)
    refine htold ch ((List.mem_cons.1 hch).resolve_left hne.symm) ?_
    rw [hfeed, getD_set_true, hnot, decide_eq_false fun h => hne h.1]
    rfl

/-- The feed with the levels of a sample in its filters, its channels faulted where the last levels are one. -/
def Feed.leveled (x : Feed) (raw : List (BitVec 2560)) : Feed := { x with
  filters := (List.range 7).map fun ch => (x.filters.getD ch .reset).stream (raw.getD ch 0)
  faulted := (List.range 7).map fun ch => heldLevel (raw.getD ch 0) }

theorem Chip.takeLevels_parts (hf : f < 8) (he : (c.feed f).en = true) (raw : List (BitVec 2560)) :
    c.KeepsMeter (c.takeLevels f raw) ∧ (c.takeLevels f raw).feed f = (c.feed f).leveled raw ∧
    ∀ ch, ch < 7 → heldLevel (raw.getD ch 0) = true → (c.feed f).faulted.getD ch false = false →
      bit ((c.takeLevels f raw).rd (Reg.MF_EVT f)) 3 = true := by
  unfold Chip.takeLevels
  extract_lets x w d
  have hd : c.KeepsMeter d := .of_rest rfl
  have hfeed : d.feed f = _ := Chip.feed_setFeed_same _ _ _
  obtain ⟨hkeeps, hchs, htold⟩ := Chip.modFaults_parts hf ((List.range 7).filter fun ch => heldLevel (w ch)) d (by rw [hfeed, ← he])
  refine ⟨hd.trans hkeeps, ?_, fun ch hch hheld hnot => htold ch (List.mem_filter.2 ⟨List.mem_range.2 hch, hheld⟩) ?_⟩
  · rw [hchs, hfeed]
    dsimp only
    rw [setFaults_held (fun ch => heldLevel (w ch)) fun ch => x.faulted.getD ch false]
    rfl
  · have hnot' : x.faulted.getD ch false = false := hnot
    rw [hfeed, List.getD_eq_getElem _ _ (by simpa using hch), List.getElem_map, List.getElem_range, hnot', Bool.false_and]

/-! ### A sample (R350 to R355) -/

/-- The feed with a sample of its channels, calibrated. -/
def Chip.plainNext (c : Chip) (f : Nat) (y : Feed) : Feed := { y with plain := (c.calibrated f y :: y.plain).take 8192 }

/-- The feed with a sample of its channels, their phases advanced. -/
def Chip.histNext (c : Chip) (f : Nat) (z : Feed) : Feed := { z with hist := (c.phased f z :: z.hist).take 8192 }

theorem Chip.plainNext_congr {c d : Chip} (h : d.live = c.live) (y : Feed) : d.plainNext f y = c.plainNext f y := by
  unfold Chip.plainNext Chip.calibrated
  simp only [Chip.lv_congr h]

theorem Chip.histNext_congr {c d : Chip} (h : d.live = c.live) (z : Feed) : d.histNext f z = c.histNext f z := by
  unfold Chip.histNext Chip.phased
  simp only [Chip.lv_congr h]

theorem Feed.windowOn_parts (x : Feed) : x.windowOn.plain = x.plain ∧ x.windowOn.hist = x.hist ∧ x.windowOn.faulted = x.faulted ∧
    x.windowOn.phases = x.phases ∧ ∀ ph, x.windowOn.power ph = x.power ph := by
  unfold Feed.windowOn
  split
  · exact ⟨rfl, rfl, rfl, rfl, fun _ => rfl⟩
  · exact ⟨rfl, rfl, rfl, rfl, fun _ => rfl⟩

/-- A sample discarded: only the levels enter. -/
theorem Chip.sample_of_settling (raw : List (BitVec 2560)) (h : 0 < ((c.takeLevels f raw).feed f).settle) :
    c.sample f raw = (c.takeLevels f raw).setFeed f
      { (c.takeLevels f raw).feed f with settle := ((c.takeLevels f raw).feed f).settle - 1 } := if_pos h

/-- A sample kept: it enters the histories, its power is added, and what follows keeps all that. -/
theorem Chip.sample_of_settled (raw : List (BitVec 2560)) {d : Chip} (hd : d = c.takeLevels f raw) (h : (d.feed f).settle = 0) {w : Feed}
    (hw : w = d.histNext f (d.plainNext f (d.feed f))) :
    ((d.setFeed f w.windowOn).addSample f).KeepsSample f (c.sample f raw) := by
  have hnot : ¬ 0 < ((c.takeLevels f raw).feed f).settle := by rw [← hd, h]; exact Nat.lt_irrefl 0
  subst hw hd
  unfold Chip.sample
  extract_lets e x y z g before k l m
  have hk : (g.addSample f).KeepsSample f k := g.keepsSample_accumulate.trans (Chip.keepsSample_spanSample _)
  have hl : (g.addSample f).KeepsSample f l := hk.trans (k.keepsSample_foldl _ fun d ph _ => d.keepsSample_halfCycle ph)
  have hm : (g.addSample f).KeepsSample f m := by
    unfold m
    split
    · exact hl.trans l.keepsSample_endWindow
    · exact hl
  rw [if_neg hnot]
  exact hm.trans (m.keepsSample_noteWarn before)

/-- What a sample leaves, by whether the feed still settles. -/
theorem Chip.sample_parts (hf : f < 8) (he : (c.feed f).en = true) (raw : List (BitVec 2560)) {y z w : Feed}
    (hy : y = (c.feed f).leveled raw) (hz : z = c.plainNext f y) (hw : w = c.histNext f z) :
    (c.sample f raw).commits = c.commits ∧
    (∀ ch, ch < 7 → heldLevel (raw.getD ch 0) = true → (c.feed f).faulted.getD ch false = false →
      bit ((c.sample f raw).rd (Reg.MF_EVT f)) 3 = true) ∧
    (0 < y.settle → (c.sample f raw).energy = c.energy ∧ (c.sample f raw).feed f = { y with settle := y.settle - 1 }) ∧
    (y.settle = 0 → ((c.sample f raw).feed f).plain = z.plain ∧ ((c.sample f raw).feed f).hist = w.hist ∧
      ((c.sample f raw).feed f).faulted = y.faulted ∧
      ∀ ph qn e, ph ∈ w.phases → (qn, e) ∈ energyParts (w.power ph).1 (w.power ph).2 → 0 < e →
        (c.sample f raw).energyOf (energyKey f ph qn) = (c.energyOf (energyKey f ph qn)).gain e) := by
  obtain ⟨htaken, hfeed, htold⟩ := c.takeLevels_parts hf he raw
  rw [← hy] at hfeed
  rcases Nat.eq_zero_or_pos y.settle with hset | hset
  · have hw' : w = (c.takeLevels f raw).histNext f ((c.takeLevels f raw).plainNext f ((c.takeLevels f raw).feed f)) := by
      rw [Chip.histNext_congr htaken.live, Chip.plainNext_congr htaken.live, hfeed, ← hz, hw]
    have hkeeps := c.sample_of_settled raw rfl (by rw [hfeed, hset]) hw'
    obtain ⟨es, heq⟩ := ((c.takeLevels f raw).setFeed f w.windowOn).addSample_eq (f := f)
    have hwfeed : ((c.takeLevels f raw).setFeed f w.windowOn).feed f = w.windowOn := Chip.feed_setFeed_same _ _ _
    obtain ⟨hplain, hhist, hfault, hphases, hpower⟩ := w.windowOn_parts
    have hadd : (((c.takeLevels f raw).setFeed f w.windowOn).addSample f).feed f = w.windowOn := by
      rw [heq]
      exact hwfeed
    refine ⟨?_, fun ch hch hheld hnot => hkeeps.told f hf ?_, fun h => absurd hset (Nat.ne_of_gt h), fun _ => ⟨?_, ?_, ?_, ?_⟩⟩
    · rw [hkeeps.commits, heq]
      exact htaken.commits
    · rw [heq]
      exact htold ch hch hheld hnot
    · rw [hkeeps.plain, hadd, hplain, hw]
      rfl
    · rw [hkeeps.hist, hadd, hhist]
    · rw [hkeeps.faulted, hadd, hfault, hw, hz]
      rfl
    · intro ph qn e hph hqn hn
      have hsum := Chip.energyOf_addSample ((c.takeLevels f raw).setFeed f w.windowOn) (f := f) (ph := ph) (qn := qn) (n := e)
        (by rwa [hwfeed, hphases]) (by rwa [hwfeed, hpower]) hn
      rw [Chip.energyOf_congr hkeeps.energy, hsum]
      exact congrArg (fun x : Energy => x.gain e) (Chip.energyOf_congr htaken.energy _)
  · have hsample := c.sample_of_settling raw (by rwa [hfeed])
    rw [hfeed] at hsample
    rw [hsample]
    exact ⟨htaken.commits, htold, fun _ => ⟨htaken.energy, Chip.feed_setFeed_same _ _ _⟩, fun h => absurd h (Nat.ne_of_gt hset)⟩

end

/-! ### The rows -/

section
variable {s : State} {f n : Nat}

theorem exec_meterSample {raw : List (BitVec 2560)} (hf : f < 8) (hr : raw.length = 7) (he : (s.chip.feed f).en = true)
    (hm : s.chip.meterHeld = false) :
    exec (.meterSample f raw) s = .next (s.onto (s.chip.inCycle fun c => c.sample f raw)) := by
  have hcond : ((s.chip.feed f).en && !s.chip.meterHeld) = true := by rw [he, hm]; rfl
  show execMeterSample f raw s = _
  rw [execMeterSample, decide_eq_true hf, hr]
  exact congrArg (Host.Outcome.next ∘ s.onto) (if_pos hcond)

theorem exec_meterSample_of_not {raw : List (BitVec 2560)} (hf : f < 8) (hr : raw.length = 7)
    (h : (s.chip.feed f).en = false ∨ s.chip.meterHeld = true) : exec (.meterSample f raw) s = .next s := by
  have hcond : ¬ ((s.chip.feed f).en && !s.chip.meterHeld) = true := by
    rcases h with h | h <;> simp [h]
  show execMeterSample f raw s = _
  rw [execMeterSample, decide_eq_true hf, hr]
  exact congrArg (Host.Outcome.next ∘ s.onto) (if_neg hcond)

theorem exec_meterModFault {ch : Nat} (hf : f < 8) (hc : ch < 7) :
    exec (.meterModFault f ch) s = .next (s.onto (s.chip.modFault f ch)) := by
  show execMeterModFault f ch s = _
  rw [execMeterModFault, decide_eq_true hf, decide_eq_true hc]
  rfl

/-- A pulse that starts when its pin has been low for its width. -/
def Chip.pulseStarted (c : Chip) (n : Nat) : Chip :=
  let d := c.runToCycle ((c.pulse n).lowSince + usCycles (1000 * (c.pulse n).width))
  d.setPulse n { c.pulse n with
    high := true, backlog := (c.pulse n).backlog - 1, endAt := d.cycle + usCycles (1000 * (c.pulse n).width)
    told := (c.pulse n).told && 1 < (c.pulse n).backlog }

/-- A pulse that ends. -/
def Chip.pulseEnded (c : Chip) (n : Nat) : Chip :=
  let d := c.runToCycle (c.pulse n).endAt
  d.setPulse n { c.pulse n with high := false, lowSince := d.cycle }

theorem exec_meterPulseStart (hn : n < 8) (he : (s.chip.pulse n).en = true) (hh : (s.chip.pulse n).high = false)
    (hb : 0 < (s.chip.pulse n).backlog) (hm : s.chip.meterHeld = false) :
    exec (.meterPulseStart n) s = .next (s.onto (s.chip.pulseStarted n)) := by
  have hcond : ¬ (!(s.chip.pulse n).en || (s.chip.pulse n).high || (s.chip.pulse n).backlog = 0 || s.chip.meterHeld) = true := by
    simp [he, hh, hm, Nat.ne_of_gt hb]
  show execMeterPulseStart n s = _
  rw [execMeterPulseStart, decide_eq_true hn, within_true, onChip_eq]
  exact congrArg (Host.Outcome.next ∘ s.onto) (if_neg hcond)

theorem exec_meterPulseStart_of_not (hn : n < 8) (h : (s.chip.pulse n).en = false ∨ (s.chip.pulse n).high = true ∨
    (s.chip.pulse n).backlog = 0 ∨ s.chip.meterHeld = true) : exec (.meterPulseStart n) s = .next s := by
  have hcond : (!(s.chip.pulse n).en || (s.chip.pulse n).high || (s.chip.pulse n).backlog = 0 || s.chip.meterHeld) = true := by
    rcases h with h | h | h | h <;> simp [h]
  show execMeterPulseStart n s = _
  rw [execMeterPulseStart, decide_eq_true hn, within_true, onChip_eq]
  exact congrArg (Host.Outcome.next ∘ s.onto) (if_pos hcond)

theorem exec_meterPulseEnd (hn : n < 8) : exec (.meterPulseEnd n) s = .next (s.onto
    (if (s.chip.pulse n).high then s.chip.pulseEnded n else s.chip)) := by
  show execMeterPulseEnd n s = _
  rw [execMeterPulseEnd, decide_eq_true hn]
  rfl

end

theorem Chip.pulseStarted_parts (c : Chip) (n : Nat) :
    (c.pulseStarted n).cycle = max c.cycle ((c.pulse n).lowSince + 800000 * (c.pulse n).width) ∧
    (c.pulseStarted n).energy = c.energy ∧ (c.pulseStarted n).pulse n = { c.pulse n with
      high := true, backlog := (c.pulse n).backlog - 1, endAt := (c.pulseStarted n).cycle + 800000 * (c.pulse n).width
      told := (c.pulse n).told && decide (1 < (c.pulse n).backlog) } := by
  have hwidth : usCycles (1000 * (c.pulse n).width) = 800000 * (c.pulse n).width := by
    unfold usCycles
    omega
  unfold Chip.pulseStarted
  rw [hwidth]
  generalize (c.pulse n).lowSince + 800000 * (c.pulse n).width = at_
  exact ⟨(c.runToCycle_parts at_).1, rfl, Chip.pulse_setPulse_same _ _ _⟩

theorem Chip.pulseEnded_parts (c : Chip) (n : Nat) : (c.pulseEnded n).cycle = max c.cycle (c.pulse n).endAt ∧
    (c.pulseEnded n).pulse n = { c.pulse n with high := false, lowSince := (c.pulseEnded n).cycle } :=
  ⟨(c.runToCycle_parts _).1, Chip.pulse_setPulse_same _ _ _⟩

/-- Settles O55: a sample by whether its feed still settles, and a pulse by whether its output is ready for it. -/
theorem samplesAddEnergyAndPulsesFollow : Obligations.SamplesAddEnergyAndPulsesFollow := by
  unfold Obligations.SamplesAddEnergyAndPulsesFollow
  rintro s _ rfl
  refine ⟨fun f raw x y z w hf hr hx he hm hy hz hw => ?_, fun f raw hf hr h => exec_meterSample_of_not hf hr h,
    fun f ch hf hc => ⟨fun he hnot => ?_, fun h => ?_⟩, fun n x hn hx => ⟨fun he hh hb hm => ?_, fun h => ?_, fun hh => ?_, fun hh => ?_⟩⟩
  case refine_1 =>
    subst hx
    obtain ⟨l, hsame⟩ := s.chip.sameButEvents_inCycle fun c => c.sample f raw
    have hexec := exec_meterSample hf hr he hm
    obtain ⟨hcommits, htold, hsettling, hsettled⟩ := ({ s.chip with batch := some l } : Chip).sample_parts hf he raw hy hz hw
    have hy' : y.settle = (s.chip.feed f).settle := by rw [hy]
    refine ⟨fun h => ?_, fun ch hch hheld hnot => ⟨_, hexec, ?_⟩, fun h => ?_⟩
    · obtain ⟨henergy, hfeed⟩ := hsettling (hy' ▸ h)
      exact ⟨_, hexec, s.onto_dram _, hsame.commits.trans hcommits, hsame.energy.trans henergy,
        (Chip.feed_congr hsame.feeds f).trans (hy' ▸ hfeed)⟩
    · rw [State.onto_chip, hsame.rd_power (by unfold Reg.MF_EVT; omega)]
      exact htold ch hch hheld hnot
    · obtain ⟨hplain, hhist, hfault, henergy⟩ := hsettled (hy' ▸ h)
      refine ⟨_, hexec, s.onto_dram _, hsame.commits.trans hcommits, ?_, ?_, ?_, fun ph qn e hph hqn hn =>
        (Chip.energyOf_congr hsame.energy _).trans (henergy ph qn e hph hqn hn)⟩
      all_goals rw [State.onto_chip, Chip.feed_congr hsame.feeds]
      exacts [hplain, hhist, hfault]
  case refine_2 =>
    refine ⟨_, exec_meterModFault hf hc, s.onto_dram _, s.chip.feed_modFault ch he, (s.chip.keepsMeter_modFault ch).energy,
      s.chip.told_modFault hf he hnot⟩
  case refine_3 =>
    have hcond : (!(s.chip.feed f).en || (s.chip.feed f).faulted.getD ch false) = true := by
      rw [Bool.or_eq_true, Bool.not_eq_true']
      exact h
    rw [exec_meterModFault hf hc, Chip.modFault, if_pos hcond, State.onto_self]
  case refine_4 =>
    subst hx
    exact ⟨_, exec_meterPulseStart hn he hh hb hm, s.onto_dram _, s.chip.pulseStarted_parts n⟩
  case refine_5 => exact exec_meterPulseStart_of_not hn (hx ▸ h)
  case refine_6 =>
    subst hx
    refine ⟨_, exec_meterPulseEnd hn, s.onto_dram _, ?_⟩
    rw [State.onto_chip, if_pos hh]
    exact s.chip.pulseEnded_parts n
  case refine_7 =>
    rw [exec_meterPulseEnd hn, if_neg (by rw [← hx, hh]; decide), State.onto_self]


end Sys2Proof.Machine
end

section
/-! SUPPORT. The early warning and its journal (R369, R370, R420): what they change of the part, and their rows. -/

namespace Sys2Proof.Machine

open Sys2Proof

theorem Chip.SameButEvents.warning {c d : Chip} (h : c.SameButEvents d) : d.warning = c.warning := by rw [h.1]

section
variable (c : Chip)

/-! ### A journal begun (R370) -/

/-- A journal begun changes what the warning keeps of its writing, and whether flash work is suspended. -/
theorem Chip.beginJournal_eq (cause : Nat) : ∃ j b u, c.beginJournal cause = { c with
    warning := { c.warning with writing := j, began := b }, arbiter := { c.arbiter with suspended := u } } := by
  unfold Chip.beginJournal
  split
  · exact ⟨_, _, _, rfl⟩
  dsimp only
  split
  · exact ⟨_, _, _, rfl⟩
  · exact ⟨_, _, _, rfl⟩

/-- A journal of the present totals, where none is being written. -/
theorem Chip.writing_beginJournal (h : c.warning.writing = none) :
    (c.beginJournal 0).warning.writing = some (c.journalNow 0) ∧ (c.beginJournal 0).arbiter.suspended = true := by
  have hnone : ¬ c.warning.writing.isSome = true := by rw [h]; exact Bool.false_ne_true
  rw [Chip.beginJournal, if_neg hnone]
  exact ⟨rfl, rfl⟩

/-- The octets of a record are those below its check. -/
theorem Journal.octets_crc (j : Journal) (n : Nat) : ({ j with crc := n } : Journal).octets = j.octets := rfl

/-- A journal keeps the totals of its instant under a check that holds. -/
theorem Chip.journalNow_parts (cause : Nat) : (c.journalNow cause).cause = cause ∧ (c.journalNow cause).csn = c.csn ∧
    (c.journalNow cause).ok = true ∧ (c.journalNow cause).entries = c.energy.map fun e => (e.1, e.2.acc, e.2.wraps) := by
  unfold Chip.journalNow
  extract_lets j
  refine ⟨rfl, rfl, ?_, rfl⟩
  rw [Journal.ok, Journal.octets_crc]
  exact beq_self_eq_true _

/-! ### The warning raised (R369) -/

/-- The early warning with its event, before its journal. -/
def Chip.warningTold (source : Nat) : Chip :=
  (({ c with warning := { c.warning with active := true, lastCycle := c.cycle } } : Chip).setEvt Reg.MTR_EVT 1).raise 0 0x0101
    (it4 source ++ it8 c.csn)

/-- Whether the warning writes no journal now. -/
def Chip.noJournal : Bool :=
  (match c.warning.lastJournal with | some t => decide (c.cycle < t + 800000000) | none => false) || !c.domainOn 1 || c.power.held

theorem Chip.noJournal_eq_true_iff : c.noJournal = true ↔
    c.domainOn 1 = false ∨ c.power.held = true ∨ ∃ at_, c.warning.lastJournal = some at_ ∧ c.cycle < at_ + 800000000 := by
  unfold Chip.noJournal
  cases c.warning.lastJournal <;> cases c.domainOn 1 <;> cases c.power.held <;> simp

theorem Chip.sameButEvents_warningTold (source : Nat) :
    (({ c with warning := { c.warning with active := true, lastCycle := c.cycle } } : Chip).setEvt Reg.MTR_EVT 1).SameButEvents
      (c.warningTold source) := Chip.sameButEvents_raise _ _ _ _

theorem Chip.warningTold_parts (source : Nat) :
    (c.warningTold source).warning = { c.warning with active := true, lastCycle := c.cycle } ∧
    (c.warningTold source).energy = c.energy ∧ (c.warningTold source).csn = c.csn ∧ (c.warningTold source).cycle = c.cycle ∧
    (c.warningTold source).power = c.power ∧ bit ((c.warningTold source).rd Reg.MTR_EVT) 0 = true ∧
    (c.warningTold source).rd Reg.PWR_EVT = c.rd Reg.PWR_EVT := by
  have h := c.sameButEvents_warningTold source
  exact ⟨h.warning, h.energy, h.csn, h.cycle, h.power, Chip.bit_rd_told _ 1 0 _ _ _ (by decide) (by decide) (by decide),
    (h.rd_power (by decide)).trans (Chip.rd_setEvt_ne _ _ _ _ (by decide))⟩

theorem Chip.earlyWarning_eq (source : Nat) :
    c.earlyWarning source = if c.noJournal then c.warningTold source else (c.warningTold source).beginJournal 0 := by
  obtain ⟨hwarn, -, -, hcycle, hpower, -⟩ := c.warningTold_parts source
  have hcond : c.noJournal = (c.warningTold source).noJournal := by
    unfold Chip.noJournal Chip.domainOn
    rw [hwarn, hcycle, hpower]
  rw [hcond]
  rfl

/-- What the early warning leaves, whether or not a journal begins with it. -/
theorem Chip.earlyWarning_parts (source : Nat) :
    (c.earlyWarning source).warning.active = true ∧ (c.earlyWarning source).warning.pin = c.warning.pin ∧
    (c.earlyWarning source).warning.vaonA = c.warning.vaonA ∧ (c.earlyWarning source).warning.vaonB = c.warning.vaonB ∧
    (c.earlyWarning source).energy = c.energy ∧ bit ((c.earlyWarning source).rd Reg.MTR_EVT) 0 = true ∧
    (c.earlyWarning source).rd Reg.PWR_EVT = c.rd Reg.PWR_EVT := by
  obtain ⟨hwarn, henergy, -, -, -, hevt, hpwr⟩ := c.warningTold_parts source
  rw [c.earlyWarning_eq]
  split
  · rw [hwarn]
    exact ⟨rfl, rfl, rfl, rfl, henergy, hevt, hpwr⟩
  · obtain ⟨j, b, u, heq⟩ := (c.warningTold source).beginJournal_eq 0
    rw [heq, hwarn]
    exact ⟨rfl, rfl, rfl, rfl, henergy, hevt, hpwr⟩

theorem Chip.earlyWarning_writing (source : Nat) (h : c.noJournal = false) (hw : c.warning.writing = none) : ∃ j,
    (c.earlyWarning source).warning.writing = some j ∧ j.cause = 0 ∧ j.csn = c.csn ∧
    (c.earlyWarning source).arbiter.suspended = true ∧ j.ok = true ∧ j.entries = c.energy.map fun e => (e.1, e.2.acc, e.2.wraps) := by
  obtain ⟨hwarn, henergy, hcsn, -⟩ := c.warningTold_parts source
  obtain ⟨hwriting, hsuspended⟩ := (c.warningTold source).writing_beginJournal (by rw [hwarn, hw])
  obtain ⟨hcause, hjcsn, hok, hentries⟩ := (c.warningTold source).journalNow_parts 0
  rw [c.earlyWarning_eq, h, if_neg Bool.false_ne_true]
  exact ⟨_, hwriting, hcause, hjcsn.trans hcsn, hsuspended, hok, by rw [hentries, henergy]⟩

theorem Chip.earlyWarning_of_noJournal (source : Nat) (h : c.noJournal = true) :
    (c.earlyWarning source).warning.writing = c.warning.writing := by
  rw [c.earlyWarning_eq, if_pos h, (c.warningTold_parts source).1]

theorem Chip.noteWarn_eq (before : Bool) : c.noteWarn before = { c with warning := { c.warning with
    lastCycle := if before || c.warns then c.cycle else c.warning.lastCycle } } := by
  unfold Chip.noteWarn
  split
  · rfl
  · rfl

/-! ### A journal in flash (R370, R420) -/

/-- A journal that has reached flash, kept with its time. -/
def Chip.journalStored (us : Nat) (j : Journal) : Chip :=
  let d := c.runToCycle (c.warning.began + usCycles us)
  { d with
    warning := { d.warning with writing := none, lastJournal := some d.cycle, journals := d.warning.journals ++ [j] }
    arbiter := { d.arbiter with suspended := d.update.handover } }

/-- The same counted and timed in the registers, with its bit. -/
def Chip.journalCounted (us : Nat) (j : Journal) : Chip :=
  (((c.journalStored us j).inc Reg.MTR_JOURNAL_CNT).wr Reg.MTR_JOURNAL_LAST_US (sat32 us)).setEvt Reg.MTR_EVT 4

/-- The same told. -/
def Chip.journalKept (us : Nat) (j : Journal) : Chip :=
  (c.journalCounted us j).raise 129 0x1401 (it4 j.cause ++ it4 (sat32 us) ++ it8 c.csn)

/-- Whether a command's journal waits behind the one that has reached flash. -/
def Chip.flushWaits : Bool := match c.arbiter.running with | some a => a.opcode == 0x0704 && !a.finished | none => false

/-- What ends with the journal: the activity that a command asked for, or its journal begun. -/
def Chip.journalEnds (j : Journal) : Chip :=
  if j.cause = 1 then c.finish 0 0 0
  else if c.flushWaits then c.beginJournal 1 else c

/-- The erasure of the other half asked for with the first journal of a half. -/
def Chip.askErase (j : Journal) : Chip := if j.seq % 256 = 1 then c.request ⟨1, 0, none, 0, [j.seq], 0, 0, 0, true⟩ else c

/-- The journals in flash, their times and their counts as they were. -/
structure Chip.KeepsJournals (c d : Chip) : Prop where
  journals : d.warning.journals = c.warning.journals
  last : d.warning.lastJournal = c.warning.lastJournal
  cycle : d.cycle = c.cycle
  regs : ∀ off, off ≠ Reg.MAINT_DEFER_CNT → d.rd off = c.rd off

theorem Chip.keepsJournals_journalEnds (j : Journal) : c.KeepsJournals (c.journalEnds j) := by
  unfold Chip.journalEnds
  split
  · exact ⟨rfl, rfl, rfl, fun _ _ => rfl⟩
  split
  · obtain ⟨w, b, u, heq⟩ := c.beginJournal_eq 1
    rw [heq]
    exact ⟨rfl, rfl, rfl, fun _ _ => rfl⟩
  · exact ⟨rfl, rfl, rfl, fun _ _ => rfl⟩

theorem Chip.keepsJournals_askErase (j : Journal) : c.KeepsJournals (c.askErase j) := by
  unfold Chip.askErase
  split
  · unfold Chip.request
    split
    · exact ⟨rfl, rfl, rfl, fun _ _ => rfl⟩
    · exact ⟨rfl, rfl, rfl, fun _ hne => Chip.rd_wr_ne _ _ _ _ hne⟩
  · exact ⟨rfl, rfl, rfl, fun _ _ => rfl⟩

theorem Chip.journalStored_parts (us : Nat) (j : Journal) : (c.journalStored us j).warning.journals = c.warning.journals ++ [j] ∧
    (c.journalStored us j).warning.lastJournal = some (c.journalStored us j).cycle ∧
    (c.journalStored us j).cycle = max c.cycle (c.warning.began + 800 * us) ∧ (c.journalStored us j).warning.writing = none ∧
    (c.journalStored us j).arbiter.running = c.arbiter.running ∧ (c.journalStored us j).regs = c.regs := by
  have hus : usCycles us = 800 * us := by
    unfold usCycles
    omega
  unfold Chip.journalStored
  rw [hus]
  generalize c.warning.began + 800 * us = at_
  exact ⟨rfl, rfl, (c.runToCycle_parts at_).1, rfl, rfl, (c.runToCycle_parts at_).2.2⟩

theorem Chip.journalKept_warning (us : Nat) (j : Journal) : (c.journalKept us j).warning = (c.journalStored us j).warning ∧
    (c.journalKept us j).cycle = (c.journalStored us j).cycle ∧ (c.journalKept us j).arbiter = (c.journalStored us j).arbiter :=
  have h := (c.journalCounted us j).sameButEvents_raise 129 0x1401 (it4 j.cause ++ it4 (sat32 us) ++ it8 c.csn)
  ⟨h.warning, h.cycle, h.arbiter⟩

theorem Chip.journalKept_regs (us : Nat) (j : Journal) : bit ((c.journalKept us j).rd Reg.MTR_EVT) 2 = true ∧
    (c.journalKept us j).rd Reg.MTR_JOURNAL_LAST_US = sat32 us ∧
    (c.journalKept us j).rd Reg.MTR_JOURNAL_CNT = sat32 (c.rd Reg.MTR_JOURNAL_CNT + 1) := by
  have h : (c.journalCounted us j).SameButEvents (c.journalKept us j) := Chip.sameButEvents_raise _ _ _ _
  refine ⟨Chip.bit_rd_told _ 4 2 _ _ _ (by decide) (by decide) (by decide), ?_, ?_⟩
  · rw [h.rd_power (by decide), Chip.journalCounted, Chip.rd_setEvt_ne _ _ _ _ (by decide), Chip.rd_wr_same,
      Nat.mod_eq_of_lt (sat32_lt _)]
  · rw [h.rd_power (by decide), Chip.journalCounted, Chip.rd_setEvt_ne _ _ _ _ (by decide), Chip.rd_wr_ne _ _ _ _ (by decide),
      Chip.rd_inc_same, Chip.rd_congr (c.journalStored_parts us j).2.2.2.2.2]

/-- What a journal that reaches flash leaves. -/
theorem Chip.journalDone_parts (us : Nat) (j : Journal) {t : Chip} (ht : t = ((c.journalKept us j).journalEnds j).askErase j) :
    t.warning.journals = c.warning.journals ++ [j] ∧ t.warning.lastJournal = some t.cycle ∧
    t.cycle = max c.cycle (c.warning.began + 800 * us) ∧ bit (t.rd Reg.MTR_EVT) 2 = true ∧ t.rd Reg.MTR_JOURNAL_LAST_US = sat32 us ∧
    t.rd Reg.MTR_JOURNAL_CNT = sat32 (c.rd Reg.MTR_JOURNAL_CNT + 1) := by
  obtain ⟨hjournals, hlast, hcycle, -, -, -⟩ := c.journalStored_parts us j
  obtain ⟨hwarn, hcyc, -⟩ := c.journalKept_warning us j
  obtain ⟨hevt, htime, hcnt⟩ := c.journalKept_regs us j
  have hend := (c.journalKept us j).keepsJournals_journalEnds j
  have hask := ((c.journalKept us j).journalEnds j).keepsJournals_askErase j
  have hregs : ∀ off, off ≠ Reg.MAINT_DEFER_CNT → t.rd off = (c.journalKept us j).rd off := fun off hne => by
    rw [ht, hask.regs off hne, hend.regs off hne]
  rw [hregs _ (by decide), hregs _ (by decide), hregs _ (by decide), ht, hask.journals, hend.journals, hask.last, hend.last, hask.cycle,
    hend.cycle, hwarn, hcyc]
  exact ⟨hjournals, hlast, hcycle, hevt, htime, hcnt⟩

/-- A command's journal ends its activity. -/
theorem Chip.journalDone_of_command (us : Nat) {j : Journal} (hc : j.cause = 1) (hs : j.seq % 256 ≠ 1) {t : Chip}
    (ht : t = ((c.journalKept us j).journalEnds j).askErase j) : t.warning.writing = none ∧ ∀ a, c.arbiter.running = some a →
      t.arbiter.running = some { a with status := 0, detail := 0, result := 0, finished := true } := by
  obtain ⟨-, -, -, hwriting, hrunning, -⟩ := c.journalStored_parts us j
  obtain ⟨hwarn, -, harb⟩ := c.journalKept_warning us j
  rw [Chip.askErase, if_neg hs, Chip.journalEnds, if_pos hc] at ht
  have hfinish : t.warning = (c.journalKept us j).warning ∧ t.arbiter.running = (c.journalKept us j).arbiter.running.map fun a =>
      { a with status := 0, detail := 0, result := 0, finished := true } := by
    rw [ht]
    exact ⟨rfl, rfl⟩
  refine ⟨by rw [hfinish.1, hwarn, hwriting], fun a ha => ?_⟩
  rw [hfinish.2, harb, hrunning, ha]
  rfl

end

/-! ### The rows -/

section
variable {s : State}

theorem exec_pwrWarnAssert (hp : s.chip.warning.pin = false) : exec .pwrWarnAssert s = .next (s.onto
    (if bit (s.chip.lv Reg.MTR_EW_CFG) 0 then ({ s.chip with warning := { s.chip.warning with pin := true } } : Chip).earlyWarning 0
      else { s.chip with warning := { s.chip.warning with pin := true } })) :=
  congrArg (Host.Outcome.next ∘ s.onto) (if_neg (by rw [hp]; exact Bool.false_ne_true))

theorem exec_pwrWarnAssert_of_pin (hp : s.chip.warning.pin = true) : exec .pwrWarnAssert s = .next s :=
  congrArg (Host.Outcome.next ∘ s.onto) (if_pos hp)

theorem exec_pwrWarnNRelease : exec .pwrWarnNRelease s = .next (s.onto
    (({ s.chip with warning := { s.chip.warning with pin := false } } : Chip).noteWarn s.chip.warns)) := rfl

/-- The early warning cleared 100 ms after its last source. -/
def Chip.warnCleared (c : Chip) : Chip :=
  let d := c.runToCycle (c.warning.lastCycle + 80000000)
  (({ d with warning := { d.warning with active := false } } : Chip).setEvt Reg.MTR_EVT 2).raise 0 0x0102 (it8 d.csn)

theorem Chip.warnCleared_parts (c : Chip) : c.warnCleared.warning.active = false ∧ bit (c.warnCleared.rd Reg.MTR_EVT) 1 = true ∧
    c.warnCleared.cycle = max c.cycle (c.warning.lastCycle + 80000000) := by
  unfold Chip.warnCleared
  generalize c.warning.lastCycle + 80000000 = at_
  extract_lets d
  have hsame := (({ d with warning := { d.warning with active := false } } : Chip).setEvt Reg.MTR_EVT 2).sameButEvents_raise 0 0x0102
    (it8 d.csn)
  refine ⟨?_, Chip.bit_rd_told _ 2 1 _ _ _ (by decide) (by decide) (by decide), hsame.cycle.trans (c.runToCycle_parts at_).1⟩
  rw [hsame.warning]
  rfl

theorem exec_meterWarnClear (ha : s.chip.warning.active = true) (hw : s.chip.warns = false) :
    exec .meterWarnClear s = .next (s.onto s.chip.warnCleared) :=
  congrArg (Host.Outcome.next ∘ s.onto) (if_pos (by rw [ha, hw]; rfl))

theorem exec_meterWarnClear_of_not (h : s.chip.warning.active = false ∨ s.chip.warns = true) : exec .meterWarnClear s = .next s :=
  congrArg (Host.Outcome.next ∘ s.onto) (if_neg (by rcases h with h | h <;> simp [h]))

theorem exec_journalWriteDone (us : Nat) {j : Journal} (hd : s.chip.domainOn 1 = true) (hw : s.chip.warning.writing = some j) :
    exec (.journalWriteDone us) s = .next (s.onto (((s.chip.journalKept us j).journalEnds j).askErase j)) := by
  show execJournalWriteDone us s = _
  rw [execJournalWriteDone, onChip_eq, hd, if_pos rfl, hw]
  rfl

theorem exec_journalWriteDone_of_not (us : Nat) (h : s.chip.domainOn 1 = false ∨ s.chip.warning.writing = none) :
    exec (.journalWriteDone us) s = .next s := by
  have hnone : (if s.chip.domainOn 1 then s.chip.warning.writing else none) = none := by
    rcases h with h | h <;> simp [h]
  show execJournalWriteDone us s = _
  rw [execJournalWriteDone, onChip_eq, hnone]

end

/-! ### The feed monitors (R427, R449) -/

/-- What a feed monitor last reported. -/
def Chip.feedWas (c : Chip) (b : Bool) : Bool := if b then c.warning.vaonB else c.warning.vaonA

/-- A feed monitor's change told by its bit. -/
def Chip.feedBit (c : Chip) (b here : Bool) : Chip :=
  if c.feedWas b == here then c else c.setEvt Reg.PWR_EVT (if b then 8 else 4)

/-- A feed monitor's report noted, with its bit where it is a change. -/
def Chip.feedNoted (c : Chip) (b here : Bool) : Chip :=
  { c.feedBit b here with
    warning := if b then { (c.feedBit b here).warning with vaonB := here } else { (c.feedBit b here).warning with vaonA := here } }

theorem Chip.feedBit_parts (c : Chip) (b here : Bool) : (c.feedBit b here).warning = c.warning ∧ (c.feedBit b here).live = c.live ∧
    (c.feedWas b ≠ here → bit ((c.feedBit b here).rd Reg.PWR_EVT) (if b then 3 else 2) = true) ∧
    (c.feedWas b = here → (c.feedBit b here).regs = c.regs) := by
  unfold Chip.feedBit
  split
  next h => exact ⟨rfl, rfl, fun hne => absurd (eq_of_beq h) hne, fun _ => rfl⟩
  next h =>
    refine ⟨rfl, rfl, fun _ => c.bit_rd_setEvt _ _ _ ?_ ?_, fun heq => absurd (beq_iff_eq.2 heq) h⟩
    · cases b <;> decide
    · cases b <;> decide

theorem Chip.feedNoted_parts (c : Chip) (b here : Bool) :
    (if b then (c.feedNoted b here).warning.vaonB else (c.feedNoted b here).warning.vaonA) = here ∧
    (if b then (c.feedNoted b here).warning.vaonA else (c.feedNoted b here).warning.vaonB) =
      (if b then c.warning.vaonA else c.warning.vaonB) ∧
    (c.feedWas b ≠ here → bit ((c.feedNoted b here).rd Reg.PWR_EVT) (if b then 3 else 2) = true) ∧
    (c.feedWas b = here → (c.feedNoted b here).regs = c.regs) := by
  obtain ⟨hwarn, -, hbit, hsame⟩ := c.feedBit_parts b here
  refine ⟨?_, ?_, hbit, hsame⟩ <;> rw [Chip.feedNoted, hwarn] <;> cases b <;> rfl

theorem exec_vaonFeedChange {s : State} (b here : Bool) : exec (.vaonFeedChange b here) s = .next (s.onto
    (if s.chip.feedWas b && !here && bit (s.chip.lv Reg.MTR_EW_CFG) (if b then 2 else 1) then
      (s.chip.feedNoted b here).earlyWarning (if b then 2 else 1) else (s.chip.feedNoted b here).noteWarn s.chip.warns)) := by
  have hlive : (s.chip.feedNoted b here).lv Reg.MTR_EW_CFG = s.chip.lv Reg.MTR_EW_CFG :=
    Chip.lv_congr (s.chip.feedBit_parts b here).2.1
  rw [← hlive]
  rfl

/-- Settles O56: each source of the warning as it comes and goes, the warning's end, and its journal as it reaches flash. -/
theorem earlyWarningsWriteTheJournal : Obligations.EarlyWarningsWriteTheJournal := by
  unfold Obligations.EarlyWarningsWriteTheJournal
  rintro s _ rfl
  refine ⟨fun hp => ⟨fun hen => ?asserted, fun hen => ?disabled⟩, exec_pwrWarnAssert_of_pin, ?released, fun b here was hwas => ?feed,
    fun ha hw => ?clear, exec_meterWarnClear_of_not, fun us j hd hw => ?journal, fun us h => exec_journalWriteDone_of_not us h⟩
  case asserted =>
    have hexec := exec_pwrWarnAssert hp
    rw [hen, if_pos rfl] at hexec
    obtain ⟨hactive, hpin, -, -, henergy, hevt, -⟩ :=
      ({ s.chip with warning := { s.chip.warning with pin := true } } : Chip).earlyWarning_parts 0
    refine ⟨_, hexec, s.onto_dram _, hpin, hactive, hevt, henergy, fun hd hh hw hlast => ?_, fun h => ?_⟩
    · refine Chip.earlyWarning_writing _ 0 (eq_false_of_ne_true fun hno => ?_) hw
      rcases (Chip.noJournal_eq_true_iff _).1 hno with h | h | ⟨at_, hat, hlt⟩
      · exact Bool.false_ne_true (h.symm.trans hd)
      · exact Bool.false_ne_true (hh.symm.trans h)
      · rcases hlast with h | ⟨_, hat', hle⟩
        · exact absurd (h.symm.trans hat) (Option.some_ne_none _).symm
        · exact absurd hlt (Nat.not_lt.2 (Option.some.inj (hat'.symm.trans hat) ▸ hle))
    · exact Chip.earlyWarning_of_noJournal _ 0 ((Chip.noJournal_eq_true_iff _).2 h)
  case disabled =>
    rw [exec_pwrWarnAssert hp, hen, if_neg Bool.false_ne_true]
  case released =>
    refine ⟨_, exec_pwrWarnNRelease, s.onto_dram _, ?_⟩
    rw [State.onto_chip, Chip.noteWarn_eq]
    exact ⟨rfl, rfl, fun hw => by rw [hw]; rfl⟩
  case feed =>
    obtain ⟨hhere, hother, hbit, hsame⟩ := s.chip.feedNoted_parts b here
    have hwas' : s.chip.feedWas b = was := hwas.symm
    refine ⟨_, exec_vaonFeedChange b here, s.onto_dram _, ?_⟩
    rw [State.onto_chip, hwas']
    rw [hwas'] at hbit hsame
    by_cases hwarn : (was && !here && bit (s.chip.lv Reg.MTR_EW_CFG) (if b then 2 else 1)) = true
    · obtain ⟨hactive, -, hA, hB, -, hevt, hpwr⟩ := (s.chip.feedNoted b here).earlyWarning_parts (if b then 2 else 1)
      rw [if_pos hwarn, hA, hB, hpwr]
      refine ⟨hhere, hother, fun _ _ _ => ⟨hactive, hevt⟩, hbit, fun h => ?_⟩
      rw [h] at hwarn
      exact absurd hwarn (by cases here <;> simp)
    · rw [if_neg hwarn, Chip.noteWarn_eq]
      exact ⟨hhere, hother, fun hw hh hen => absurd (by rw [hw, hh, hen]; rfl) hwarn, hbit, hsame⟩
  case clear =>
    exact ⟨_, exec_meterWarnClear ha hw, s.onto_dram _, s.chip.warnCleared_parts⟩
  case journal =>
    obtain ⟨hjournals, hlast, hcycle, hevt, htime, hcnt⟩ := s.chip.journalDone_parts us j rfl
    exact ⟨_, exec_journalWriteDone us hd hw, s.onto_dram _, hjournals, hlast, hcycle, hevt, htime, hcnt,
      fun hc hs => s.chip.journalDone_of_command us hc hs rfl⟩

end Sys2Proof.Machine
end

section
/-! SUPPORT. The maintenance arbiter (R458) and what it runs: the patrol (R397), the die sensors (R382), the units of a calibration run
(R381 to R387) and the span of the metering reference (R388). -/

namespace Sys2Proof.Machine

open Sys2Proof

theorem Chip.SameButEvents.calib {c d : Chip} (h : c.SameButEvents d) : d.calib = c.calib := by rw [h.1]
theorem Chip.SameButEvents.dramCfg {c d : Chip} (h : c.SameButEvents d) : d.dramCfg = c.dramCfg := by rw [h.1]

/-! ### What a read leaves of the patrol and the arbiter (R394, R397) -/

/-- The arbiter, the size of LPDDR5X, and the positions and passes of the patrol stay. -/
structure Chip.KeepsPatrol (c d : Chip) : Prop where
  arbiter : d.arbiter = c.arbiter
  dramCfg : d.dramCfg = c.dramCfg
  pos : ∀ k, k < 2 → d.rd (Reg.ECC_SCRUB_POS k) = c.rd (Reg.ECC_SCRUB_POS k)
  passes : ∀ k, k < 2 → d.rd (Reg.ECC_SCRUB_PASSES k) = c.rd (Reg.ECC_SCRUB_PASSES k)

namespace Chip.KeepsPatrol
variable {c d e : Chip}

theorem refl (c : Chip) : c.KeepsPatrol c := ⟨rfl, rfl, fun _ _ => rfl, fun _ _ => rfl⟩

theorem trans (h : c.KeepsPatrol d) (k : d.KeepsPatrol e) : c.KeepsPatrol e :=
  ⟨k.arbiter.trans h.arbiter, k.dramCfg.trans h.dramCfg, fun m hm => (k.pos m hm).trans (h.pos m hm),
    fun m hm => (k.passes m hm).trans (h.passes m hm)⟩

theorem of_events (h : c.SameButEvents d) : c.KeepsPatrol d :=
  ⟨h.arbiter, h.dramCfg, fun _ _ => h.rd_power (by unfold Reg.ECC_SCRUB_POS; omega),
    fun _ _ => h.rd_power (by unfold Reg.ECC_SCRUB_PASSES; omega)⟩

end Chip.KeepsPatrol

section
variable (c : Chip) (m cls w : Nat)

theorem Chip.keepsPatrol_wr {off : Nat} (v : Nat) (hp : ∀ k, Reg.ECC_SCRUB_POS k ≠ off) (hs : ∀ k, Reg.ECC_SCRUB_PASSES k ≠ off) :
    c.KeepsPatrol (c.wr off v) :=
  ⟨rfl, rfl, fun k _ => Chip.rd_wr_ne _ _ _ _ (hp k), fun k _ => Chip.rd_wr_ne _ _ _ _ (hs k)⟩

theorem Chip.keepsPatrol_setEcc (e : Ecc) : c.KeepsPatrol (c.setEcc m e) := by
  unfold Chip.setEcc
  split <;> exact ⟨rfl, rfl, fun _ _ => rfl, fun _ _ => rfl⟩

theorem Chip.keepsPatrol_latchUe : c.KeepsPatrol (c.latchUe m cls w) := by
  unfold Chip.latchUe
  split
  · exact .refl c
  · exact (c.keepsPatrol_wr _ (fun k => by unfold Reg.ECC_SCRUB_POS Reg.ECC_UE_ADDR_LO; omega) fun k => by
        unfold Reg.ECC_SCRUB_PASSES Reg.ECC_UE_ADDR_LO; omega).trans
      (Chip.keepsPatrol_wr _ _ (fun k => by unfold Reg.ECC_SCRUB_POS Reg.ECC_UE_ADDR_HI; omega) fun k => by
        unfold Reg.ECC_SCRUB_PASSES Reg.ECC_UE_ADDR_HI; omega)

theorem Chip.keepsPatrol_ueNoted : c.KeepsPatrol (c.ueNoted m cls w) :=
  ((c.keepsPatrol_wr _ (fun k => by unfold Reg.ECC_SCRUB_POS Reg.ECC_UE_CNT; omega) fun k => by
      unfold Reg.ECC_SCRUB_PASSES Reg.ECC_UE_CNT; omega).trans (Chip.keepsPatrol_latchUe _ m cls w)).trans
    (Chip.keepsPatrol_wr _ _ (fun k => by unfold Reg.ECC_SCRUB_POS Reg.ECC_EVT; omega) fun k => by
      unfold Reg.ECC_SCRUB_PASSES Reg.ECC_EVT; omega)

theorem Chip.keepsPatrol_noteWord : c.KeepsPatrol (c.noteWord m cls w) := by
  by_cases h : (c.ecc m).at w = 0
  · rw [Chip.noteWord, if_pos h]
    exact .refl c
  cases hd : doubleBit ((c.ecc m).at w) with
  | false =>
    obtain ⟨lo, hi, hnote⟩ := c.noteWord_of_single cls h hd
    rw [hnote]
    have hcnt : c.KeepsPatrol (c.inc (Reg.ECC_CE_CNT m)) := c.keepsPatrol_wr _
      (fun k => by unfold Reg.ECC_SCRUB_POS Reg.ECC_CE_CNT; omega) fun k => by unfold Reg.ECC_SCRUB_PASSES Reg.ECC_CE_CNT; omega
    exact ((hcnt.trans (Chip.keepsPatrol_setEcc _ m _)).trans (Chip.keepsPatrol_wr _ lo
      (fun k => by unfold Reg.ECC_SCRUB_POS Reg.ECC_CE_ADDR_LO; omega) fun k => by
        unfold Reg.ECC_SCRUB_PASSES Reg.ECC_CE_ADDR_LO; omega)).trans (Chip.keepsPatrol_wr _ hi
      (fun k => by unfold Reg.ECC_SCRUB_POS Reg.ECC_CE_ADDR_HI; omega) fun k => by
        unfold Reg.ECC_SCRUB_PASSES Reg.ECC_CE_ADDR_HI; omega)
  | true =>
    obtain ⟨e, -, hnote | ⟨items, hnote⟩⟩ := c.noteWord_of_double cls h hd <;> rw [hnote]
    · exact (c.keepsPatrol_ueNoted m cls w).trans (Chip.keepsPatrol_setEcc _ m e)
    · exact ((c.keepsPatrol_ueNoted m cls w).trans (Chip.keepsPatrol_setEcc _ m e)).trans
        (.of_events (Chip.sameButEvents_raise _ _ _ _))

theorem Chip.keepsPatrol_noteRead (a n : Nat) : c.KeepsPatrol (c.noteRead m cls a n) :=
  List.foldlRecOn _ _ (motive := c.KeepsPatrol) (.refl c) fun d hd w _ => hd.trans (d.keepsPatrol_noteWord m cls w)

end

/-! ### Bursts of the patrol (R397, R458) -/

section
variable (c : Chip) {m : Nat}

/-- The burst of the patrol of a memory, as an activity. -/
def burst (m : Nat) : Activity := ⟨7, 0, none, 0, [m], 0, 0, 0, false⟩

theorem Chip.patrolBursts_congr {c d : Chip} (h : d.dramCfg = c.dramCfg) : d.patrolBursts m = c.patrolBursts m := by
  unfold Chip.patrolBursts Chip.usable Chip.trained
  rw [h]

theorem Chip.patrolBursts_lt : c.patrolBursts m < 2 ^ 20 := by
  unfold Chip.patrolBursts Chip.usable
  split
  · split
    · split <;> decide
    · decide
  · decide

theorem Chip.patrol_of_idle (h : c.domainOn (if m = 0 then 4 else 3) = false) : c.patrol m = c :=
  if_pos (by rw [h, Bool.not_false, Bool.or_true])

/-- A burst in a memory that has bursts: the position moves on. -/
theorem Chip.patrol_of_on (hd : c.domainOn (if m = 0 then 4 else 3) = true) (h0 : 0 < c.patrolBursts m) : ∃ d, c.KeepsPatrol d ∧
    c.patrol m = if c.rd (Reg.ECC_SCRUB_POS m) + 1 < c.patrolBursts m then d.wr (Reg.ECC_SCRUB_POS m) (c.rd (Reg.ECC_SCRUB_POS m) + 1)
      else (d.wr (Reg.ECC_SCRUB_POS m) 0).incWrap (Reg.ECC_SCRUB_PASSES m) := by
  have hkeeps := c.keepsPatrol_noteRead m 7 (c.rd (Reg.ECC_SCRUB_POS m) * 65536) 65536
  have hnot : ¬ (decide (c.patrolBursts m = 0) || !c.domainOn (if m = 0 then 4 else 3)) = true := by
    rw [hd]
    simp [Nat.ne_of_gt h0]
  refine ⟨_, hkeeps, ?_⟩
  rw [← Chip.patrolBursts_congr hkeeps.dramCfg]
  exact if_neg hnot

/-- A burst as it is asked for while the arbiter is free. -/
def Chip.burstRun (m : Nat) : Chip :=
  { ({ c with arbiter := { c.arbiter with running := some (burst m) } } : Chip).patrol m with
    arbiter := { c.arbiter with running := none } }

theorem Chip.request_burst (h : c.arbiterFree = true) : c.request (burst m) = c.burstRun m := by
  rw [Chip.request, if_pos h]
  rfl

theorem Chip.arbiterFree_iff : c.arbiterFree = true ↔ c.arbiter.running = none ∧ c.arbiter.waiting = [] := by
  simp [Chip.arbiterFree]

theorem Chip.burstRun_of_idle (h : c.arbiterFree = true) (hd : c.domainOn (if m = 0 then 4 else 3) = false) : c.burstRun m = c := by
  obtain ⟨hrun, -⟩ := c.arbiterFree_iff.1 h
  have hidle : ({ c with arbiter := { c.arbiter with running := some (burst m) } } : Chip).patrol m = _ := Chip.patrol_of_idle _ hd
  rw [Chip.burstRun, hidle, ← hrun]

theorem Chip.burstRun_of_on (hm : m < 2) (hd : c.domainOn (if m = 0 then 4 else 3) = true) :
    (c.rd (Reg.ECC_SCRUB_POS m) + 1 < c.patrolBursts m →
      (c.burstRun m).rd (Reg.ECC_SCRUB_POS m) = c.rd (Reg.ECC_SCRUB_POS m) + 1) ∧
    (0 < c.patrolBursts m → c.patrolBursts m ≤ c.rd (Reg.ECC_SCRUB_POS m) + 1 → (c.burstRun m).rd (Reg.ECC_SCRUB_POS m) = 0 ∧
      (c.burstRun m).rd (Reg.ECC_SCRUB_PASSES m) = (c.rd (Reg.ECC_SCRUB_PASSES m) + 1) % 2 ^ 32) := by
  have hlt := c.patrolBursts_lt (m := m)
  have hne : Reg.ECC_SCRUB_POS m ≠ Reg.ECC_SCRUB_PASSES m := by
    unfold Reg.ECC_SCRUB_POS Reg.ECC_SCRUB_PASSES
    omega
  let d : Chip := { c with arbiter := { c.arbiter with running := some (burst m) } }
  have hrd : ∀ off, (c.burstRun m).rd off = (d.patrol m).rd off := fun _ => Chip.rd_congr rfl
  refine ⟨fun h => ?_, fun h0 h => ?_⟩
  · obtain ⟨e, -, heq⟩ := d.patrol_of_on hd (Nat.zero_lt_of_lt h)
    have hlt' : d.rd (Reg.ECC_SCRUB_POS m) + 1 < d.patrolBursts m := h
    rw [hrd, heq, if_pos hlt', Chip.rd_wr_same]
    exact Nat.mod_eq_of_lt (lt_trans h (lt_trans hlt (by decide)))
  · obtain ⟨e, hkeeps, heq⟩ := d.patrol_of_on hd h0
    have hle : ¬ d.rd (Reg.ECC_SCRUB_POS m) + 1 < d.patrolBursts m := Nat.not_lt.2 h
    rw [hrd, hrd, heq, if_neg hle]
    unfold Chip.incWrap
    rw [Chip.rd_wr_ne _ _ _ _ hne, Chip.rd_wr_same, Chip.rd_wr_same, Chip.rd_wr_ne _ _ _ _ hne.symm, hkeeps.passes m hm,
      Nat.mod_mod]
    exact ⟨rfl, rfl⟩

theorem exec_patrolBurst {s : State} (hm : m < 2)
    (h : (s.chip.arbiter.waiting.any fun a => a.prec == 7 && a.args == [m]) = false) :
    exec (.patrolBurst m) s = .next (s.onto (s.chip.request (burst m))) := by
  show execPatrolBurst m s = _
  rw [execPatrolBurst, decide_eq_true hm, within_true, onChip_eq]
  exact congrArg (Host.Outcome.next ∘ s.onto) (if_neg (ne_true_of_eq_false h))

theorem exec_patrolBurst_of_waiting {s : State} (hm : m < 2)
    (h : (s.chip.arbiter.waiting.any fun a => a.prec == 7 && a.args == [m]) = true) : exec (.patrolBurst m) s = .next s := by
  show execPatrolBurst m s = _
  rw [execPatrolBurst, decide_eq_true hm, within_true, onChip_eq]
  exact congrArg (Host.Outcome.next ∘ s.onto) (if_pos h)

theorem exec_patrolBurst_of_free {s : State} (hm : m < 2) (h : s.chip.arbiterFree = true) :
    exec (.patrolBurst m) s = .next (s.onto (s.chip.burstRun m)) := by
  rw [exec_patrolBurst hm (by rw [(s.chip.arbiterFree_iff.1 h).2]; rfl), s.chip.request_burst h]

/-- An activity asked for behind others. -/
theorem Chip.request_of_busy (a : Activity) (h : c.arbiterFree = false) : (c.request a).arbiter.running = c.arbiter.running ∧
    (c.request a).arbiter.waiting = c.arbiter.waiting ++ [a] ∧ (c.request a).rd Reg.MAINT_DEFER_CNT = sat32 (c.rd Reg.MAINT_DEFER_CNT + 1) := by
  rw [Chip.request, if_neg (ne_true_of_eq_false h)]
  exact ⟨rfl, rfl, Chip.rd_inc_same _ _⟩

end

/-! ### The activity that starts (R458) -/

theorem firstWaiting_eq_none_iff {l : List Activity} : firstWaiting l = none ↔ l = [] := by
  cases l with
  | nil => simp [firstWaiting]
  | cons a l =>
    rw [firstWaiting]
    split
    · simp
    · split <;> simp

/-- The first to go is one of those that wait, and none goes before it. -/
theorem firstWaiting_spec {l : List Activity} {b : Activity} (h : firstWaiting l = some b) :
    b ∈ l ∧ ∀ a ∈ l, b.prec ≤ a.prec := by
  induction l generalizing b with
  | nil => exact absurd h (by simp [firstWaiting])
  | cons a l ih =>
    rw [firstWaiting] at h
    cases hl : firstWaiting l with
    | none =>
      have hnil := firstWaiting_eq_none_iff.1 hl
      have hab : a = b := by simpa [hl] using h
      simp [hnil, hab]
    | some x =>
      obtain ⟨hx, hle⟩ := ih hl
      have hab : (if a.prec ≤ x.prec then some a else some x) = some b := by simpa [hl] using h
      split at hab
      next hlt =>
        obtain rfl := Option.some.inj hab
        exact ⟨List.mem_cons_self, List.forall_mem_cons.2 ⟨Nat.le_refl _, fun y hy => Nat.le_trans hlt (hle y hy)⟩⟩
      next hlt =>
        obtain rfl := Option.some.inj hab
        exact ⟨List.mem_cons_of_mem _ hx, List.forall_mem_cons.2 ⟨Nat.le_of_not_le hlt, hle⟩⟩

theorem firstWaiting_of_least {l : List Activity} {a : Activity} (ha : a ∈ l) (h : ∀ b, b ∈ l → b = a ∨ a.prec < b.prec) :
    firstWaiting l = some a := by
  cases hf : firstWaiting l with
  | none => exact absurd ha (by rw [firstWaiting_eq_none_iff.1 hf]; exact List.not_mem_nil)
  | some b =>
    obtain ⟨hb, hle⟩ := firstWaiting_spec hf
    exact congrArg some ((h b hb).resolve_right (Nat.not_lt.2 (hle a ha)))

section
variable (c : Chip) {a : Activity}

/-- The arbiter with an activity taken from those that wait. -/
def Chip.taken (a : Activity) : Chip := { c with arbiter := { c.arbiter with waiting := c.arbiter.waiting.erase a } }

theorem Chip.running_sendLink (k : LinkPayload) : (c.sendLink k).arbiter = c.arbiter :=
  List.foldlRecOn _ _ (motive := fun d : Chip => d.arbiter = c.arbiter) rfl fun _ hd _ _ => hd

/-- An activity runs once it has started, where its work is not done at once. -/
theorem Chip.running_startActivity (h7 : a.prec ≠ 7) (h5 : a.prec ≠ 5) : (c.startActivity a).arbiter.running = some a := by
  unfold Chip.startActivity
  extract_lets w d
  split
  · split
    · obtain ⟨j, b, u, heq⟩ := d.beginJournal_eq 1
      rw [heq]
    · rfl
  · rw [Chip.running_sendLink]
  · rfl
  · exact absurd ‹_› h5
  · split
    · rfl
    · rfl
  · exact absurd ‹_› h7
  · rfl

theorem Chip.arbiter_readPackage (d : List Host.Cell) : (c.readPackage d).arbiter = c.arbiter := by
  unfold Chip.readPackage
  split
  · split
    · exact (c.keepsPatrol_noteRead _ _ _ _).arbiter
    · rfl
  · rfl

theorem exec_maintActivityStart {s : State} (hr : s.chip.arbiter.running = none) (hf : firstWaiting s.chip.arbiter.waiting = some a) :
    exec .maintActivityStart s = .next (s.onto (((s.chip.taken a).startActivity a).readPackage s.dram)) := by
  show execMaintActivityStart s = _
  rw [execMaintActivityStart, onChip_eq, hr, hf]
  rfl

theorem exec_maintActivityStart_of_not {s : State} (h : (∃ a, s.chip.arbiter.running = some a) ∨ s.chip.arbiter.waiting = []) :
    exec .maintActivityStart s = .next s := by
  show execMaintActivityStart s = _
  rw [execMaintActivityStart, onChip_eq]
  rcases h with ⟨a, ha⟩ | hnil
  · rw [ha]
    rfl
  · split
    · rfl
    · rw [hnil]
      rfl

/-! ### The automatic run (R382) -/

theorem exec_calAutoStart {s : State} (hr : s.chip.arbiter.running = none)
    (hf : firstWaiting s.chip.arbiter.waiting = some autoRun) :
    exec .calAutoStart s = .next (s.onto ((s.chip.taken autoRun).startActivity autoRun)) := by
  have hcond : ¬ (s.chip.arbiter.running.isSome || firstWaiting s.chip.arbiter.waiting != some autoRun) = true := by
    simp [hr, hf]
  exact congrArg (Host.Outcome.next ∘ s.onto) (if_neg hcond)

theorem exec_calAutoStart_of_not {s : State} (h : (∃ a, s.chip.arbiter.running = some a) ∨
    firstWaiting s.chip.arbiter.waiting ≠ some autoRun) : exec .calAutoStart s = .next s := by
  have hcond : (s.chip.arbiter.running.isSome || firstWaiting s.chip.arbiter.waiting != some autoRun) = true := by
    rcases h with ⟨a, ha⟩ | h
    · simp [ha]
    · simp [h]
  exact congrArg (Host.Outcome.next ∘ s.onto) (if_pos hcond)

/-- A call for the automatic run changes the arbiter, the movement and the count of what is put off. -/
theorem Chip.callAuto_parts (movement : Int) : (c.callAuto movement).calib.temps = c.calib.temps ∧
    (c.callAuto movement).live = c.live ∧ (∀ off, off ≠ Reg.MAINT_DEFER_CNT → (c.callAuto movement).rd off = c.rd off) ∧
    (c.autoBusy = true → (c.callAuto movement).arbiter = c.arbiter) ∧
    (c.autoBusy = false → (c.callAuto movement).arbiter.running = c.arbiter.running ∧
      (c.callAuto movement).arbiter.waiting = c.arbiter.waiting ++ [autoRun]) := by
  unfold Chip.callAuto
  split
  next hbusy =>
    split
    · exact ⟨rfl, rfl, fun _ _ => rfl, fun _ => rfl, fun h => absurd (hbusy.symm.trans h) (by decide)⟩
    · exact ⟨rfl, rfl, fun _ _ => rfl, fun _ => rfl, fun h => absurd (hbusy.symm.trans h) (by decide)⟩
  next hbusy =>
    extract_lets k d
    split
    next hfree =>
      have hnil : c.arbiter.waiting = [] := (c.arbiterFree_iff.1 hfree).2
      exact ⟨rfl, rfl, fun _ _ => rfl, fun h => absurd h hbusy, fun _ => ⟨rfl, by rw [hnil]; rfl⟩⟩
    next hfree =>
      rw [Chip.request, if_neg hfree]
      exact ⟨rfl, rfl, fun _ hne => Chip.rd_wr_ne _ _ _ _ hne, fun h => absurd h hbusy, fun _ => ⟨rfl, rfl⟩⟩

/-- The part with a reading of a die sensor in its register. -/
def Chip.readingNoted (n : Nat) (v : Int) : Chip :=
  ({ c with calib := { c.calib with temps := c.calib.temps.set n v } } : Chip).wr (Reg.DIE_TEMP n) (twos 16 v)

theorem Chip.dieReading_eq (n : Nat) (raw : Int) {v : Int}
    (hv : v = clampI (-32768) 32767 (raw + sext 8 (bits (c.lv (Reg.TSENS_TRIM n)) 0 8) * 16)) :
    c.dieReading n raw = match c.calib.refs.getD n none with
      | none => { c.readingNoted n v with calib := { (c.readingNoted n v).calib with refs := c.calib.refs.set n (some v) } }
      | some r => if c.calib.deltaT * 256 < (v - r).natAbs then (c.readingNoted n v).callAuto (v - r) else c.readingNoted n v := by
  subst hv
  rfl

/-- What a reading of a die sensor leaves. -/
theorem Chip.dieReading_parts {n : Nat} (hn : n < 8) (raw : Int) {v : Int}
    (hv : v = clampI (-32768) 32767 (raw + sext 8 (bits (c.lv (Reg.TSENS_TRIM n)) 0 8) * 16)) {t : Chip} (ht : t = c.dieReading n raw) :
    t.calib.temps = c.calib.temps.set n v ∧ t.rd (Reg.DIE_TEMP n) = twos 16 v % 2 ^ 32 ∧ t.live = c.live ∧
    (c.calib.refs.getD n none = none → t.calib.refs = c.calib.refs.set n (some v) ∧ t.arbiter = c.arbiter) ∧
    ∀ r, c.calib.refs.getD n none = some r →
      (c.calib.deltaT * 256 < (v - r).natAbs → c.autoBusy = false → t.arbiter.running = c.arbiter.running ∧
        t.arbiter.waiting = c.arbiter.waiting ++ [autoRun] ∧ t.autoWaits = true) ∧
      ((v - r).natAbs ≤ c.calib.deltaT * 256 ∨ c.autoBusy = true → t.arbiter = c.arbiter) := by
  rw [c.dieReading_eq n raw hv] at ht
  have hrd : (c.readingNoted n v).rd (Reg.DIE_TEMP n) = twos 16 v % 2 ^ 32 := Chip.rd_wr_same _ _ _
  cases hr : c.calib.refs.getD n none with
  | none =>
    simp only [hr] at ht
    subst ht
    exact ⟨rfl, hrd, rfl, fun _ => ⟨rfl, rfl⟩, fun r h => absurd h (by simp)⟩
  | some r =>
    simp only [hr] at ht
    split at ht
    next hd =>
      obtain ⟨htemps, hlive, hregs, hbusy, hfree⟩ := (c.readingNoted n v).callAuto_parts (v - r)
      have hne : Reg.DIE_TEMP n ≠ Reg.MAINT_DEFER_CNT := by
        unfold Reg.DIE_TEMP Reg.MAINT_DEFER_CNT
        omega
      subst ht
      refine ⟨htemps, (hregs _ hne).trans hrd, hlive, fun h => absurd h (by simp), fun r' h => ?_⟩
      obtain rfl := Option.some.inj h
      refine ⟨fun _ hb => ?_, fun h => hbusy (h.resolve_left (Nat.not_le.2 hd))⟩
      obtain ⟨hrun, hwait⟩ := hfree hb
      refine ⟨hrun, hwait, ?_⟩
      rw [Chip.autoWaits, hwait, List.any_append]
      exact Bool.or_true _
    next hd =>
      subst ht
      refine ⟨rfl, hrd, rfl, fun h => absurd h (by simp), fun r' h => ?_⟩
      obtain rfl := Option.some.inj h
      exact ⟨fun h => absurd h hd, fun _ => rfl⟩

theorem exec_dieSensorSample {s : State} {n : Nat} (hn : n < 8) (raw : Int) {d : Chip}
    (hd : d = { s.chip with calib := { s.chip.calib with junction := s.chip.calib.junction.set n (some raw) } }) :
    exec (.dieSensorSample n raw) s =
      .next (s.onto (if s.chip.calib.auto && s.chip.domainOn 1 then d.dieReading n raw else d)) := by
  subst hd
  show execDieSensorSample n raw s = _
  rw [execDieSensorSample, decide_eq_true hn]
  rfl

end

/-! ### Calibration runs (R381 to R387) -/

section
variable (c : Chip)

/-- The search of the next unit changes what the run keeps of itself, but for the items that have timed out. -/
theorem Chip.calSeek_eq (n : Nat) : ∀ c : Chip, ∃ k : Calib, Chip.calSeek n c = { c with calib := k } ∧ k.timedOut = c.calib.timedOut := by
  induction n with
  | zero => exact fun c => ⟨_, rfl, rfl⟩
  | succ n ih =>
    intro c
    have hgo : ∀ k : Calib, k.timedOut = c.calib.timedOut → ∃ k' : Calib,
        Chip.calSeek n { c with calib := k } = { c with calib := k' } ∧ k'.timedOut = c.calib.timedOut := fun k hk => by
      obtain ⟨k', heq, htimed⟩ := ih { c with calib := k }
      exact ⟨k', heq, htimed.trans hk⟩
    unfold Chip.calSeek
    extract_lets k
    split
    · exact ⟨_, rfl, rfl⟩
    split
    · exact hgo _ rfl
    split
    · exact hgo _ rfl
    · exact ⟨_, rfl, rfl⟩

theorem Chip.calHolds_eq : ∃ hs, c.calHolds = { c with house := hs } := by
  unfold Chip.calHolds
  extract_lets busy
  refine List.foldlRecOn _ _ (motive := fun d : Chip => ∃ hs, d = { c with house := hs }) ⟨_, rfl⟩ fun d hd n _ => ?_
  obtain ⟨hs, rfl⟩ := hd
  extract_lets held
  by_cases hheld : (({ c with house := hs } : Chip).hc n).calHold == held
  · exact ⟨hs, if_pos hheld⟩
  · exact ⟨_, if_neg hheld⟩

/-- A run taken on changes itself, the house channels that it holds, and the arbiter as it ends. -/
theorem Chip.calNext_eq : ∃ k hs ar, c.calNext = { c with calib := k, house := hs, arbiter := ar } ∧
    k.timedOut = c.calib.timedOut := by
  obtain ⟨k, hseek, htimed⟩ := Chip.calSeek_eq 40 c
  obtain ⟨hs, hholds⟩ := Chip.calHolds_eq { c with calib := k }
  unfold Chip.calNext
  rw [hseek, hholds]
  dsimp only
  split
  · exact ⟨_, _, _, rfl, htimed⟩
  · exact ⟨_, _, _, rfl, htimed⟩

/-- A commit of calibration joins the queue for the open crossing. -/
theorem Chip.calCommit_eq (l : List Change) : ∃ rs, c.calCommit l = { c with
    commits := c.commits ++ [⟨none, 0, 0, c.openCsn, l, none⟩], regs := rs } := by
  unfold Chip.calCommit
  rw [Chip.accept_eq]
  exact ⟨_, rfl⟩

theorem Chip.rd_calCommit (l : List Change) : (c.calCommit l).rd Reg.CAL_LAST_CSN_LO = c.openCsn % 2 ^ 32 := by
  rw [Chip.calCommit, Chip.rd_wr_same, Nat.mod_mod]

variable (i : CalItem) (u v w h : Nat)

/-- A unit ended with its commit, and the run taken on. -/
def Chip.unitDone : Chip :=
  let d := c.calCommit (c.calChanges i u v w h)
  let e : Chip := { d with calib := { d.calib with unit := u + 1 } }
  e.calNext

/-- A unit timed out, and the run taken on. -/
def Chip.unitTimedOut : Chip :=
  let d := c.calTimedOut i
  let e : Chip := { d with calib := { d.calib with unit := u + 1 } }
  e.calNext

/-- A run taken on leaves the commits, the registers and the items that have timed out. -/
theorem Chip.calNext_parts : c.calNext.live = c.live ∧ c.calNext.commits = c.commits ∧ c.calNext.regs = c.regs ∧
    c.calNext.calib.timedOut = c.calib.timedOut := by
  obtain ⟨k, hs, ar, hnext, htimed⟩ := c.calNext_eq
  rw [hnext]
  exact ⟨rfl, rfl, rfl, htimed⟩

theorem Chip.calChanges_eq : ∃ l, c.calChanges i u v w h =
    .reg (calReg i u) (BitVec.ofNat 32 (clampReg c (calReg i u) v)) :: l := ⟨_, rfl⟩

theorem Chip.unitDone_parts : (c.unitDone i u v w h).live = c.live ∧
    (c.unitDone i u v w h).commits = c.commits ++ [⟨none, 0, 0, c.openCsn, c.calChanges i u v w h, none⟩] ∧
    (c.unitDone i u v w h).rd Reg.CAL_LAST_CSN_LO = c.openCsn % 2 ^ 32 := by
  obtain ⟨rs, hcommit⟩ := c.calCommit_eq (c.calChanges i u v w h)
  have hrd := c.rd_calCommit (c.calChanges i u v w h)
  unfold Chip.unitDone
  rw [hcommit] at hrd ⊢
  extract_lets d k e
  obtain ⟨hlive, hcommits, hregs, -⟩ := e.calNext_parts
  exact ⟨hlive, hcommits, (Chip.rd_congr hregs).trans hrd⟩

theorem Chip.calTimedOut_parts : i ∈ (c.calTimedOut i).calib.timedOut ∧
    (c.calTimedOut i).rd Reg.CAL_TIMEOUT_CNT = sat32 (c.rd Reg.CAL_TIMEOUT_CNT + 1) := by
  unfold Chip.calTimedOut
  extract_lets k
  constructor
  · show i ∈ if k.timedOut.contains i then k.timedOut else i :: k.timedOut
    split
    next hin => exact List.contains_iff_mem.1 hin
    next => exact List.mem_cons_self
  · exact (Chip.rd_setEvt_ne _ _ _ _ (by decide)).trans (Chip.rd_inc_same _ _)

theorem Chip.unitTimedOut_parts : (c.unitTimedOut i u).live = c.live ∧ (c.unitTimedOut i u).commits = c.commits ∧
    i ∈ (c.unitTimedOut i u).calib.timedOut ∧
    (c.unitTimedOut i u).rd Reg.CAL_TIMEOUT_CNT = sat32 (c.rd Reg.CAL_TIMEOUT_CNT + 1) := by
  obtain ⟨hmem, hcnt⟩ := c.calTimedOut_parts i
  unfold Chip.unitTimedOut
  extract_lets d k e
  obtain ⟨hlive, hcommits, hregs, htimed⟩ := e.calNext_parts
  have hrd : e.calNext.rd Reg.CAL_TIMEOUT_CNT = d.rd Reg.CAL_TIMEOUT_CNT := Chip.rd_congr hregs
  exact ⟨hlive, hcommits, by rw [htimed]; exact hmem, hrd.trans hcnt⟩

end

/-- What a register's clamps leave of a value depends on the part for the fade registers alone. -/
theorem clampReg_congr (c d : Chip) {off : Nat} (v : Nat) (h : off < 0x2500 ∨ 0x2D00 ≤ off) : clampReg d off v = clampReg c off v := by
  have hfade : ¬ (0x2500 ≤ off && off < 0x2D00 && (off - 0x2500) % 0x40 = 4) = true := by
    simp only [Bool.and_eq_true, decide_eq_true_eq]
    omega
  unfold clampReg
  split
  · rfl
  · unfold clampSpecial
    rw [if_neg hfade, if_neg hfade]

/-- A lane's register is called back to the value it has, as well after the time-out as before. -/
theorem Chip.regChange_calTimedOut (c : Chip) (u : Nat) : (c.calTimedOut .straitLane).regChange (calReg .straitLane u)
    ((c.calTimedOut .straitLane).lv (calReg .straitLane u)) = c.regChange (calReg .straitLane u) (c.lv (calReg .straitLane u)) := by
  have hlv : (c.calTimedOut .straitLane).lv (calReg .straitLane u) = c.lv (calReg .straitLane u) := Chip.lv_congr rfl
  rw [hlv, Chip.regChange, Chip.regChange, clampReg_congr c (c.calTimedOut .straitLane)]
  refine .inr (show 0x2D00 ≤ Reg.LANE_SEL (4 + u) from ?_)
  unfold Reg.LANE_SEL
  omega

section
variable {s : State} {i : CalItem} {u : Nat} (hu : u < calUnits i)
include hu

theorem exec_calUnitDone (v w h : Nat) (hc : s.chip.calCurrent i u = true) : exec (.calUnitDone i u v w h) s = .next (s.onto
    (if i = .straitLane then s.chip.straitEnded u (s.chip.calChanges i u v w h) else s.chip.unitDone i u v w h)) := by
  show execCalUnitDone i u v w h s = _
  rw [execCalUnitDone, decide_eq_true hu, within_true, onChip_eq]
  exact congrArg (Host.Outcome.next ∘ s.onto) (if_neg (by rw [hc]; decide))

theorem exec_calUnitTimeout {d : Chip} (hd : d = s.chip.calTimedOut i) (hc : s.chip.calCurrent i u = true) :
    exec (.calUnitTimeout i u) s = .next (s.onto (if i = .straitLane then
      d.straitEnded u (if d.pair.linkUp then [d.regChange (calReg i u) (d.lv (calReg i u))] else []) else s.chip.unitTimedOut i u)) := by
  subst hd
  show execCalUnitTimeout i u s = _
  rw [execCalUnitTimeout, decide_eq_true hu, within_true, onChip_eq]
  exact congrArg (Host.Outcome.next ∘ s.onto) (if_neg (by rw [hc]; decide))

theorem exec_calUnit_of_not (v w h : Nat) (hc : s.chip.calCurrent i u = false) :
    exec (.calUnitDone i u v w h) s = .next s ∧ exec (.calUnitTimeout i u) s = .next s := by
  have hcond : (!s.chip.calCurrent i u) = true := by rw [hc]; rfl
  constructor
  · show execCalUnitDone i u v w h s = _
    rw [execCalUnitDone, decide_eq_true hu, within_true, onChip_eq]
    exact congrArg (Host.Outcome.next ∘ s.onto) (if_pos hcond)
  · show execCalUnitTimeout i u s = _
    rw [execCalUnitTimeout, decide_eq_true hu, within_true, onChip_eq]
    exact congrArg (Host.Outcome.next ∘ s.onto) (if_pos hcond)

end

/-! ### The span of the metering reference (R388) -/

section
variable (c : Chip) (a : Activity) (k : CalSpan)

/-- Whether a span has its cycles within its time. -/
def Chip.spanWhole : Bool := decide ((k.need : Rat) ≤ k.cycles) && decide (c.cycle ≤ k.dueAt)

/-- The part without its span. -/
def Chip.spanCleared : Chip := { c with calib := { c.calib with span := none } }

/-- The part with its span over, timed out where it is not whole. -/
def Chip.spanOver : Chip := if c.spanWhole k then c.spanCleared else (c.spanCleared.runToCycle k.dueAt).countTimeout

theorem Chip.spanOver_parts : (c.spanOver k).calib.span = none ∧ (c.spanOver k).live = c.live ∧ (c.spanOver k).commits = c.commits ∧
    (c.spanOver k).openCsn = c.openCsn ∧ (c.spanOver k).arbiter = c.arbiter := by
  unfold Chip.spanOver
  split
  · exact ⟨rfl, rfl, rfl, rfl, rfl⟩
  · exact ⟨rfl, rfl, rfl, rfl, rfl⟩

theorem Chip.spanOver_of_late (h : c.spanWhole k = false) : (c.spanOver k).cycle = max c.cycle k.dueAt ∧
    bit ((c.spanOver k).rd Reg.CAL_EVT) 1 = true ∧ (c.spanOver k).rd Reg.CAL_TIMEOUT_CNT = sat32 (c.rd Reg.CAL_TIMEOUT_CNT + 1) := by
  unfold Chip.spanOver
  rw [h, if_neg Bool.false_ne_true]
  obtain ⟨hcycle, -, hregs⟩ := c.spanCleared.runToCycle_parts k.dueAt
  refine ⟨hcycle, Chip.bit_rd_setEvt _ _ 2 1 (by decide) (by decide), ?_⟩
  calc (c.spanCleared.runToCycle k.dueAt).countTimeout.rd Reg.CAL_TIMEOUT_CNT
      = ((c.spanCleared.runToCycle k.dueAt).inc Reg.CAL_TIMEOUT_CNT).rd Reg.CAL_TIMEOUT_CNT := Chip.rd_setEvt_ne _ _ _ _ (by decide)
    _ = sat32 ((c.spanCleared.runToCycle k.dueAt).rd Reg.CAL_TIMEOUT_CNT + 1) := Chip.rd_inc_same _ _
    _ = sat32 (c.rd Reg.CAL_TIMEOUT_CNT + 1) := by rw [Chip.rd_congr hregs]; rfl

/-- The changes of a span that gives new values. -/
def Chip.spanNew : Option (List Change) :=
  if c.spanWhole k && k.ok && (c.feed k.feed).freqOk then c.spanResult k (a.args.getD 2 0) (sext 32 (a.args.getD 3 0)) else none

theorem Chip.endSpan_eq : c.endSpan a k = match c.spanNew a k with
    | none => (c.spanOver k).finish 7 0 0
    | some changes => ((c.spanOver k).calCommit changes).finish 0 0 0 := rfl

theorem Chip.spanNew_of_kept (h : c.spanWhole k = false ∨ k.ok = false ∨ (c.feed k.feed).freqOk = false ∨
    c.spanResult k (a.args.getD 2 0) (sext 32 (a.args.getD 3 0)) = none) : c.spanNew a k = none := by
  unfold Chip.spanNew
  rcases h with h | h | h | h
  · rw [h]
    rfl
  · rw [h, Bool.and_false]
    rfl
  · rw [h, Bool.and_false]
    rfl
  · rw [h, ite_self]

theorem Chip.running_finish {d : Chip} (h : d.arbiter.running = some a) (st de r : Nat) : (d.finish st de r).arbiter.running =
    some { a with status := st, detail := de, result := r, finished := true } := by
  rw [Chip.finish, h]
  rfl

/-- What the end of a span leaves, whether it is whole and gives new values or not. -/
theorem Chip.endSpan_parts (hr : c.arbiter.running = some a) {t : Chip} (ht : t = c.endSpan a k) : t.calib.span = none ∧ t.live = c.live ∧
    (c.spanWhole k = false → t.cycle = max c.cycle k.dueAt ∧ bit (t.rd Reg.CAL_EVT) 1 = true ∧
      t.rd Reg.CAL_TIMEOUT_CNT = sat32 (c.rd Reg.CAL_TIMEOUT_CNT + 1)) ∧
    (c.spanNew a k = none → t.commits = c.commits ∧
      t.arbiter.running = some { a with status := 7, detail := 0, result := 0, finished := true }) ∧
    ∀ l, c.spanNew a k = some l → t.commits = c.commits ++ [⟨none, 0, 0, c.openCsn, l, none⟩] ∧
      t.arbiter.running = some { a with status := 0, detail := 0, result := 0, finished := true } := by
  obtain ⟨hspan, hlive, hcommits, hopen, harb⟩ := c.spanOver_parts k
  rw [c.endSpan_eq] at ht
  cases hn : c.spanNew a k with
  | none =>
    rw [hn] at ht
    subst ht
    refine ⟨hspan, hlive, c.spanOver_of_late k, fun _ => ⟨hcommits, ?_⟩, fun l h => absurd h (by simp)⟩
    exact Chip.running_finish a (harb ▸ hr) 7 0 0
  | some l =>
    have hwhole : c.spanWhole k ≠ false := fun h => by
      rw [c.spanNew_of_kept a k (.inl h)] at hn
      exact absurd hn (by simp)
    obtain ⟨rs, hcommit⟩ := (c.spanOver k).calCommit_eq l
    rw [hn] at ht
    simp only [hcommit] at ht
    subst ht
    refine ⟨hspan, hlive, fun h => absurd h hwhole, fun h => absurd h (by simp), fun l' h => ?_⟩
    obtain rfl := Option.some.inj h
    exact ⟨by rw [← hcommits, ← hopen]; rfl, Chip.running_finish a (harb ▸ hr) 0 0 0⟩

theorem exec_meterCalSpanEnd {s : State} {f : Nat} (hf : f < 8) : exec (.meterCalSpanEnd f) s = .next (s.onto
    (match s.chip.arbiter.running, s.chip.calib.span with
      | some a, some k =>
        if a.prec ≠ 4 || a.finished || s.chip.update.handover || k.feed ≠ f then s.chip else s.chip.endSpan a k
      | _, _ => s.chip)) := by
  show execMeterCalSpanEnd f s = _
  rw [execMeterCalSpanEnd, decide_eq_true hf]
  rfl

end

theorem exec_meterCalSpanEnd_of_not {s : State} {f : Nat} (hf : f < 8) (h : s.chip.arbiter.running = none ∨ s.chip.calib.span = none ∨
    s.chip.update.handover = true ∨ (∃ a, s.chip.arbiter.running = some a ∧ (a.prec ≠ 4 ∨ a.finished = true)) ∨
    (∃ k, s.chip.calib.span = some k ∧ k.feed ≠ f)) : exec (.meterCalSpanEnd f) s = .next s := by
  rw [exec_meterCalSpanEnd hf]
  cases hr : s.chip.arbiter.running with
  | none => rfl
  | some a =>
    cases hk : s.chip.calib.span with
    | none => rfl
    | some k =>
      have hcond : (a.prec ≠ 4 || a.finished || s.chip.update.handover || k.feed ≠ f) = true := by
        rw [hr, hk] at h
        rcases h with h | h | h | ⟨b, hb, h⟩ | ⟨l, hl, h⟩
        · exact absurd h (Option.some_ne_none a)
        · exact absurd h (Option.some_ne_none k)
        · rw [h]
          simp
        · obtain rfl := Option.some.inj hb
          rcases h with h | h
          · simp [h]
          · simp [h]
        · obtain rfl := Option.some.inj hl
          simp [h]
      exact congrArg (Host.Outcome.next ∘ s.onto) (if_pos hcond)

/-! ### Work that has ended (R300) -/

section
variable {s : State} {a : Activity}

/-- A running activity that may report frees the arbiter. -/
def Chip.activityEnds (a : Activity) (c : Chip) : Chip :=
  let r := c.activityDone a
  let d : Chip := { r.1 with arbiter := { r.1.arbiter with running := none } }
  if a.prec = 5 ∧ a.opcode = 0 then d.autoDone r.2 else d.reportActivity r.2

theorem Chip.running_activityEnds (c : Chip) : (c.activityEnds a).arbiter.running = none := by
  unfold Chip.activityEnds
  extract_lets r k ar d
  split
  · exact congrArg Arbiter.running ((d.setEvt Reg.CAL_EVT 1).sameButEvents_raise _ _ _).arbiter
  · unfold Chip.reportActivity
    split
    · rfl
    · exact congrArg Arbiter.running (d.sameButEvents_raise _ _ _).arbiter

theorem exec_cmdComplete (hr : s.chip.arbiter.running = some a) (hd : s.chip.domainOn 1 = true) (hh : s.chip.power.held = false)
    (hheld : s.chip.activityHeld a = false) (he : a.endsElsewhere = false ∨ a.finished = true) :
    exec .cmdComplete s = .next (s.onto (s.chip.inCycle (Chip.activityEnds a))) := by
  have hcond : ¬ (!s.chip.domainOn 1 || s.chip.power.held || s.chip.activityHeld a || a.endsElsewhere && !a.finished) = true := by
    rw [hd, hh, hheld]
    rcases he with he | he <;> simp [he]
  show execCmdComplete s = _
  rw [execCmdComplete, onChip_eq, hr]
  refine congrArg (Host.Outcome.next ∘ s.onto) ((if_neg hcond).trans (Chip.inCycle_congr fun b => ?_))
  unfold Chip.activityEnds
  simp only [Bool.and_eq_true, decide_eq_true_eq]

theorem exec_cmdComplete_of_held (hr : s.chip.arbiter.running = some a) (h : s.chip.domainOn 1 = false ∨ s.chip.power.held = true ∨
    s.chip.activityHeld a = true ∨ a.endsElsewhere = true ∧ a.finished = false) : exec .cmdComplete s = .next s := by
  have hcond : (!s.chip.domainOn 1 || s.chip.power.held || s.chip.activityHeld a || a.endsElsewhere && !a.finished) = true := by
    rcases h with h | h | h | ⟨h, h'⟩
    · simp [h]
    · simp [h]
    · simp [h]
    · simp [h, h']
  show execCmdComplete s = _
  rw [execCmdComplete, onChip_eq, hr]
  exact congrArg (Host.Outcome.next ∘ s.onto) (if_pos hcond)

theorem exec_cmdComplete_of_none (hr : s.chip.arbiter.running = none) : exec .cmdComplete s = .next s := by
  show execCmdComplete s = _
  rw [execCmdComplete, onChip_eq, hr]

end

/-- Settles O57: a burst by the state of the arbiter, an activity as it starts and as it ends, a die sensor by what its reading says,
and a unit or a span by whether it is under way. -/
theorem maintenanceRunsOneAtATime : Obligations.MaintenanceRunsOneAtATime := by
  unfold Obligations.MaintenanceRunsOneAtATime
  rintro s _ rfl
  refine ⟨fun m hm h => exec_patrolBurst_of_waiting hm h, fun m hm hf hd => ?moved, fun m hm hf hd => ?idle, fun m hm hf hw => ?deferred,
    fun a hr ha hleast => ?started, exec_maintActivityStart_of_not, fun n raw hn => ⟨fun h => ?unread, fun hauto hd v hv => ?read⟩,
    exec_calAutoStart, exec_calAutoStart_of_not, fun i u v w h hu hc hi => ⟨?done, ?timedOut⟩, fun u v w h hu hc => ⟨?lane, ?laneOut⟩,
    fun i u v w h hu hc => exec_calUnit_of_not hu v w h hc, fun a k whole hr hk hp hf hh hfeed hwhole => ?span, fun f hf h => ?noSpan,
    fun a hr => ⟨fun hd hh hheld he => ?ended, exec_cmdComplete_of_held hr⟩, exec_cmdComplete_of_none⟩
  case moved =>
    obtain ⟨hon, hwrap⟩ := s.chip.burstRun_of_on hm hd
    have hexec := exec_patrolBurst_of_free hm hf
    exact ⟨fun h => ⟨_, hexec, s.onto_dram _, hon h, rfl⟩,
      fun h0 h => ⟨_, hexec, s.onto_dram _, hwrap h0 h⟩⟩
  case idle => rw [exec_patrolBurst_of_free hm hf, s.chip.burstRun_of_idle hf hd, State.onto_self]
  case deferred => exact ⟨_, exec_patrolBurst hm hw, s.onto_dram _, s.chip.request_of_busy _ hf⟩
  case started =>
    have hexec := exec_maintActivityStart hr (firstWaiting_of_least ha hleast)
    refine ⟨hexec, fun h7 h5 => ⟨_, hexec, ?_⟩⟩
    rw [State.onto_chip, Chip.arbiter_readPackage, Chip.running_startActivity _ h7 h5]
  case unread =>
    have hcond : ¬ (s.chip.calib.auto && s.chip.domainOn 1) = true := by
      rcases h with h | h <;> simp [h]
    rw [exec_dieSensorSample hn raw rfl, if_neg hcond]
  case read =>
    have hexec := exec_dieSensorSample (s := s) hn raw rfl
    rw [if_pos (by rw [hauto, hd]; rfl)] at hexec
    refine ⟨_, hexec, s.onto_dram _, ?_⟩
    rw [State.onto_chip]
    exact Chip.dieReading_parts { s.chip with calib := { s.chip.calib with junction := s.chip.calib.junction.set n (some raw) } } hn raw
      hv rfl
  case done =>
    have hexec := exec_calUnitDone hu v w h hc
    rw [if_neg hi] at hexec
    obtain ⟨l, hl⟩ := s.chip.calChanges_eq i u v w h
    have hparts := s.chip.unitDone_parts i u v w h
    rw [hl] at hparts
    refine ⟨_, l, hexec, s.onto_dram _, ?_⟩
    rw [State.onto_chip]
    exact hparts
  case timedOut =>
    have hexec := exec_calUnitTimeout hu rfl hc
    rw [if_neg hi] at hexec
    refine ⟨_, hexec, s.onto_dram _, ?_⟩
    rw [State.onto_chip]
    exact s.chip.unitTimedOut_parts i u
  case lane => rw [exec_calUnitDone hu v w h hc, if_pos rfl]
  case laneOut => rw [exec_calUnitTimeout hu rfl hc, if_pos rfl, s.chip.regChange_calTimedOut]; rfl
  case span =>
    have hexec := exec_meterCalSpanEnd (s := s) hfeed
    have hcond : ¬ (a.prec ≠ 4 || a.finished || s.chip.update.handover || k.feed ≠ k.feed) = true := by
      simp [hp, hf, hh]
    simp only [hr, hk, if_neg hcond] at hexec
    obtain ⟨hspan, hlive, hlate, hkept, hnew⟩ := s.chip.endSpan_parts a k hr rfl
    have hwhole' : s.chip.spanWhole k = whole := hwhole.symm
    refine ⟨_, hexec, s.onto_dram _, hspan, hlive, fun h => hlate (hwhole'.trans h), fun h => hkept (s.chip.spanNew_of_kept a k ?_),
      fun l hw hok hfreq hl => hnew l ?_⟩
    · rw [hwhole']
      exact h
    · rw [Chip.spanNew, hwhole', hw, hok, hfreq]
      exact hl
  case noSpan => exact exec_meterCalSpanEnd_of_not hf h
  case ended =>
    refine ⟨exec_cmdComplete hr hd hh hheld he, _, exec_cmdComplete hr hd hh hheld he, ?_⟩
    obtain ⟨l, hsame⟩ := s.chip.sameButEvents_inCycle (Chip.activityEnds a)
    rw [State.onto_chip, hsame.arbiter]
    exact Chip.running_activityEnds _

end Sys2Proof.Machine
end

section
/-! SUPPORT. Images on trial and the control cores (R412 to R415, R436, R439): what a handover, a fallback and a recovery leave of the
part, and their rows. -/

namespace Sys2Proof.Machine

open Sys2Proof

/-! ### The incoming CTRL image at work (R412, R413, R418) -/

/-- The commits, the CSN and whether a handover is under way stay. -/
structure Chip.KeepsHandover (c d : Chip) : Prop where
  handover : d.update.handover = c.update.handover
  commits : d.commits = c.commits
  csn : d.csn = c.csn

section
variable {c d e : Chip}

theorem Chip.KeepsHandover.refl (c : Chip) : c.KeepsHandover c := ⟨rfl, rfl, rfl⟩

theorem Chip.KeepsHandover.trans (h : c.KeepsHandover d) (k : d.KeepsHandover e) : c.KeepsHandover e :=
  ⟨k.handover.trans h.handover, k.commits.trans h.commits, k.csn.trans h.csn⟩

theorem Chip.KeepsHandover.of_events (h : c.SameButEvents d) : c.KeepsHandover d := ⟨by rw [h.update], h.commits, h.csn⟩

theorem Chip.KeepsHandover.foldl {α : Type} {f : Chip → α → Chip} (hf : ∀ c a, Chip.KeepsHandover c (f c a)) (l : List α) (c : Chip) :
    c.KeepsHandover (l.foldl f c) :=
  List.foldlRecOn l f (motive := c.KeepsHandover) (.refl c) fun d hd a _ => hd.trans (hf d a)

end

section
variable (c : Chip)

theorem Chip.keepsHandover_updEvent (i : Nat) (items : List Byte) : c.KeepsHandover (c.updEvent i items) :=
  Chip.KeepsHandover.trans (d := c.setEvt Reg.UPD_EVT (1 <<< i)) ⟨rfl, rfl, rfl⟩ (.of_events (Chip.sameButEvents_raise _ _ _ _))

theorem Chip.keepsHandover_examineStore (i : Nat) : c.KeepsHandover (c.examineStore i) := by
  unfold Chip.examineStore
  extract_lets m l old k
  split
  · exact .refl c
  split
  · exact ⟨rfl, rfl, rfl⟩
  · exact Chip.KeepsHandover.trans (d := { c with update := { c.update with unreadable := c.update.unreadable ++ [i] } }) ⟨rfl, rfl, rfl⟩
      (Chip.keepsHandover_updEvent _ _ _)

/-- The incoming image at work ends the handover. -/
theorem Chip.ctrlRuns_parts : c.ctrlRuns.update.handover = false ∧ c.ctrlRuns.commits = c.commits ∧ c.ctrlRuns.csn = c.csn := by
  unfold Chip.ctrlRuns
  extract_lets u ar d e v
  have hd : d.update.handover = false ∧ d.commits = c.commits ∧ d.csn = c.csn := ⟨rfl, rfl, rfl⟩
  have he : d.KeepsHandover e := .foldl (fun c t => by
    dsimp only
    split
    · exact ⟨rfl, rfl, rfl⟩
    · exact .refl c) _ d
  have hrest : d.KeepsHandover (if (e.imageType 0).onTrial then
      (List.range 2).foldl Chip.examineStore (({ e with update := { v with unreadable := [] } } : Chip).trialStarts 0) else e) := by
    split
    · have hv : e.KeepsHandover { e with update := { v with unreadable := [] } } := ⟨rfl, rfl, rfl⟩
      exact ((he.trans hv).trans (Chip.keepsHandover_updEvent _ _ _)).trans (.foldl Chip.keepsHandover_examineStore _ _)
    · exact he
  exact ⟨hrest.handover.trans hd.1, hrest.commits.trans hd.2.1, hrest.csn.trans hd.2.2⟩

/-- The end of a handover, with the fallback that brought it told. -/
def Chip.handoverEnds (c : Chip) : Chip :=
  match c.update.fallen with
  | some (v, cause) => c.ctrlRuns.fallbackTold 0 v cause
  | none => c.ctrlRuns

theorem Chip.handoverEnds_parts : c.handoverEnds.update.handover = false ∧ c.handoverEnds.commits = c.commits ∧
    c.handoverEnds.csn = c.csn := by
  have hruns := c.ctrlRuns_parts
  unfold Chip.handoverEnds
  split
  next v cause _ =>
    have htold : c.ctrlRuns.KeepsHandover (c.ctrlRuns.fallbackTold 0 v cause) := Chip.keepsHandover_updEvent _ _ _
    exact ⟨htold.handover.trans hruns.1, htold.commits.trans hruns.2.1, htold.csn.trans hruns.2.2⟩
  next => exact hruns

end

section
variable {s : State}

theorem exec_ctrlHandoverDone (hh : s.chip.update.handover = true) (hw : s.chip.warning.writing = none)
    (hp : s.chip.power.held = false) (hd : s.chip.domainOn 1 = true) :
    exec .ctrlHandoverDone s = .next (s.onto (s.chip.inCycle Chip.handoverEnds)) := by
  have hcond : ¬ (!s.chip.update.handover || s.chip.warning.writing.isSome || s.chip.power.held || !s.chip.domainOn 1) = true := by
    simp [hh, hw, hp, hd]
  refine congrArg (Host.Outcome.next ∘ s.onto) ((if_neg hcond).trans (Chip.inCycle_congr fun b => ?_))
  rfl

theorem exec_ctrlHandoverDone_of_not (h : s.chip.update.handover = false ∨ s.chip.warning.writing ≠ none ∨ s.chip.power.held = true ∨
    s.chip.domainOn 1 = false) : exec .ctrlHandoverDone s = .next s := by
  have hcond : (!s.chip.update.handover || s.chip.warning.writing.isSome || s.chip.power.held || !s.chip.domainOn 1) = true := by
    rcases h with h | h | h | h
    · simp [h]
    · simp [Option.isSome_iff_ne_none.2 h]
    · simp [h]
    · simp [h]
  exact congrArg (Host.Outcome.next ∘ s.onto) (if_pos hcond)

/-! ### Trials confirmed and expired (R414, R415) -/

/-- Whether a confirmation waits: for the control cores, the stores, the lanes or the link. -/
def Chip.confirmWaits (c : Chip) (n : Nat) : Bool :=
  c.update.handover || c.power.held || !c.domainOn 1 || n = 0 && !c.update.unreadable.isEmpty || n = 1 && !c.domainOn 6 ||
    n = 4 && (c.imageType n).linkHeld == some false

theorem Chip.confirmWaits_eq (c : Chip) (n : Nat) : c.confirmWaits n = decide (c.update.handover = true ∨ c.power.held = true ∨
    c.domainOn 1 = false ∨ n = 0 ∧ c.update.unreadable ≠ [] ∨ n = 1 ∧ c.domainOn 6 = false ∨
    n = 4 ∧ (c.imageType n).linkHeld = some false) := by
  rw [Bool.eq_iff_iff, decide_eq_true_iff]
  simp only [Chip.confirmWaits, Bool.or_eq_true, Bool.and_eq_true, Bool.not_eq_true', decide_eq_true_eq, beq_iff_eq, List.isEmpty_eq_false_iff,
    or_assoc]

/-- A trial confirmed at an instant, and told. -/
def Chip.confirmed (c : Chip) (n at_ : Nat) : Chip :=
  let d := (c.runToCycle at_).dropExpiry n
  let e := (d.setType n { c.imageType n with onTrial := false, trialBit := false, confirmed := (c.imageType n).running }).saveDirectory
  e.updEvent 1 (it4 n ++ it4 (d.image n).version ++ it8 d.csn)

/-- The boot directory written anew leaves everything but itself. -/
theorem Chip.saveDirectory_eq (c : Chip) : ∃ l, c.saveDirectory = { c with update := { c.update with dirs := l } } := by
  unfold Chip.saveDirectory
  extract_lets dirs k old new
  split
  · exact ⟨_, rfl⟩
  · exact ⟨_, rfl⟩

/-- What a confirmation leaves. -/
theorem Chip.confirmed_parts (c : Chip) (n : Nat) {at_ : Nat} (h : c.cycle ≤ at_) : (c.confirmed n at_).cycle = at_ ∧
    bit ((c.confirmed n at_).rd Reg.UPD_EVT) 1 = true ∧ (c.confirmed n at_).update.types = c.update.types.set n
      { c.imageType n with onTrial := false, trialBit := false, confirmed := (c.imageType n).running } := by
  unfold Chip.confirmed
  extract_lets d x e
  obtain ⟨l, hsave⟩ := (d.setType n { x with onTrial := false, trialBit := false, confirmed := (c.imageType n).running }).saveDirectory_eq
  have hcycle : e.cycle = max c.cycle at_ := (congrArg Chip.cycle hsave).trans (c.runToCycle_parts at_).1
  have htypes : e.update.types = c.update.types.set n
      { c.imageType n with onTrial := false, trialBit := false, confirmed := (c.imageType n).running } := congrArg (·.update.types) hsave
  have hsame : (e.setEvt Reg.UPD_EVT (1 <<< 1)).SameButEvents (e.updEvent 1 (it4 n ++ it4 (d.image n).version ++ it8 d.csn)) :=
    Chip.sameButEvents_raise _ _ _ _
  refine ⟨?_, Chip.bit_rd_told _ _ 1 _ _ _ (by decide) (by decide) (by decide), ?_⟩
  · rw [hsame.cycle]
    exact hcycle.trans (max_eq_right h)
  · rw [hsame.update]
    exact htypes

/-- Whether a trial is not confirmed at an instant. -/
def Chip.staysOnTrial (c : Chip) (n at_ : Nat) : Bool :=
  !(c.imageType n).onTrial || c.reverting n || (c.imageType n).trialEnd < at_ || c.confirmWaits n

theorem exec_updConfirmed {n at_ : Nat} (hn : n < 5) (hat : at_ = max s.chip.cycle ((s.chip.imageType n).heldFrom + 4000000000)) :
    exec (.updConfirmed n) s = .next (s.onto (if s.chip.staysOnTrial n at_ then s.chip else s.chip.confirmed n at_)) := by
  have hstays : s.chip.staysOnTrial n at_ = (!(s.chip.imageType n).onTrial || s.chip.reverting n ||
      (s.chip.imageType n).trialEnd < at_ || s.chip.update.handover || s.chip.power.held || !s.chip.domainOn 1 ||
      n = 0 && !s.chip.update.unreadable.isEmpty || n = 1 && !s.chip.domainOn 6 ||
      n = 4 && (s.chip.imageType n).linkHeld == some false) := by
    simp only [Chip.staysOnTrial, Chip.confirmWaits, Bool.or_assoc]
  rw [hstays]
  show execUpdConfirmed n s = _
  rw [execUpdConfirmed, decide_eq_true hn, within_true, onChip_eq]
  dsimp only
  rw [← hat]
  rfl

/-- A window that has expired: the open crossing takes the fallback. -/
def Chip.windowExpired (c : Chip) (n : Nat) : Chip :=
  let d := c.runToCycle (c.imageType n).trialEnd
  d.accept ⟨none, 0, 0, d.openCsn, [.revert n 0], none⟩

theorem Chip.windowExpired_parts (c : Chip) (n : Nat) : (c.windowExpired n).cycle = max c.cycle (c.imageType n).trialEnd ∧
    (c.windowExpired n).commits = c.commits ++ [⟨none, 0, 0, c.openCsn, [.revert n 0], none⟩] ∧
    (c.windowExpired n).update = c.update := by
  unfold Chip.windowExpired
  extract_lets d
  rw [Chip.accept_eq]
  exact ⟨(c.runToCycle_parts _).1, rfl, rfl⟩

theorem exec_trialWindowExpire {n : Nat} (hn : n < 5) : exec (.trialWindowExpire n) s = .next (s.onto
    (if !(s.chip.imageType n).onTrial || s.chip.commits.any fun m => m.changes.contains (.revert n 0) then s.chip
      else s.chip.windowExpired n)) := by
  show execTrialWindowExpire n s = _
  rw [execTrialWindowExpire, decide_eq_true hn]
  rfl

/-! ### The watchdog and CTRL_RESTART (R415, R436, R459) -/

/-- The previous slot of CTRL put back by the watchdog. -/
def Chip.dogFallen (c : Chip) : Chip := (c.fallBack 0 2).setEvt Reg.RESET_CAUSE 16

/-- The cores held by the watchdog, and told. -/
def Chip.dogHeld (c : Chip) : Chip :=
  (({ c with power := { c.power with held := true } } : Chip).setEvt Reg.PWR_EVT 2).raise 5 0x0602
    (it4 (c.image 0).version ++ it8 c.csn)

/-- Whether the watchdog does not count. -/
def Chip.dogStill (c : Chip) : Bool :=
  !c.domainOn 1 || c.power.held || c.power.stage < 7 || c.power.debug && Config.coreHalted c.cycle

theorem Chip.dogStill_eq_true_iff (c : Chip) : c.dogStill = true ↔ c.domainOn 1 = false ∨ c.power.held = true ∨ c.power.stage < 7 ∨
    (c.power.debug && Config.coreHalted c.cycle) = true := by
  simp only [Chip.dogStill, Bool.or_eq_true, Bool.not_eq_true', decide_eq_true_eq, or_assoc]

theorem exec_ctrlWatchdog : exec .ctrlWatchdog s = .next (s.onto (if s.chip.dogStill then s.chip
    else s.chip.inCycle fun c => if (c.imageType 0).onTrial then c.dogFallen else c.dogHeld)) := rfl

/-- A type whose previous slot is put back. -/
def ImageType.putBack (x : ImageType) : ImageType := { x with
  running := 1 - x.running, program := none, second := none, onTrial := false, trialBit := false, verified := false
  failed := true, linkHeld := none }

/-- CTRL's previous slot put back leaves all but its type, the directory and the format of its settings. -/
theorem Chip.putBack_ctrl (c : Chip) : ∃ l k, c.putBack 0 = { c with update := { c.update with
    types := c.update.types.set 0 (c.imageType 0).putBack, dirs := l, prevFormat := k } } := by
  obtain ⟨l, hsave⟩ := (({ c with update := { c.update with prevFormat := some (c.image 0).settings } } : Chip).setType 0
    (c.imageType 0).putBack).saveDirectory_eq
  exact ⟨l, _, hsave⟩

theorem exec_ctrlWatchdog_of_trial (hruns : ¬ s.chip.dogStill = true) (ht : (s.chip.imageType 0).onTrial = true) :
    exec .ctrlWatchdog s = .next (s.onto (s.chip.inCycle Chip.dogFallen)) := by
  rw [exec_ctrlWatchdog, if_neg hruns]
  exact congrArg (Host.Outcome.next ∘ s.onto) (Chip.inCycle_congr fun b => if_pos ht)

theorem exec_ctrlWatchdog_of_held (hruns : ¬ s.chip.dogStill = true) (ht : (s.chip.imageType 0).onTrial = false) :
    exec .ctrlWatchdog s = .next (s.onto (s.chip.inCycle Chip.dogHeld)) := by
  rw [exec_ctrlWatchdog, if_neg hruns]
  exact congrArg (Host.Outcome.next ∘ s.onto) (Chip.inCycle_congr fun b => if_neg (ne_true_of_eq_false ht))

theorem dogRuns (hd : s.chip.domainOn 1 = true) (hp : s.chip.power.held = false) (hst : 7 ≤ s.chip.power.stage)
    (hdbg : (s.chip.power.debug && Config.coreHalted s.chip.cycle) = false) : ¬ s.chip.dogStill = true := by
  rw [Chip.dogStill_eq_true_iff]
  rintro (h | h | h | h)
  · exact Bool.false_ne_true (h.symm.trans hd)
  · exact Bool.false_ne_true (hp.symm.trans h)
  · exact absurd h (Nat.not_lt.2 hst)
  · exact Bool.false_ne_true (hdbg.symm.trans h)

/-- What a fallback of CTRL leaves. -/
theorem Chip.dogFallen_parts (c : Chip) : c.dogFallen.update.types = c.update.types.set 0 (c.imageType 0).putBack ∧
    c.dogFallen.update.handover = true ∧ c.dogFallen.update.fallen = some ((c.image 0).version, 2) ∧
    c.dogFallen.update.unreadable = [] ∧ c.dogFallen.update.stores = c.update.stores ∧ c.dogFallen.commits = c.commits ∧
    c.dogFallen.power = c.power ∧ bit (c.dogFallen.rd Reg.RESET_CAUSE) 4 = true := by
  have hbit : bit (c.dogFallen.rd Reg.RESET_CAUSE) 4 = true := Chip.bit_rd_setEvt _ _ 16 4 (by decide) (by decide)
  obtain ⟨l, k, hput⟩ := c.putBack_ctrl
  have hfall : c.fallBack 0 2 = { c.putBack 0 with update := { (c.putBack 0).update with
      handover := true, fallen := some ((c.image 0).version, 2), unreadable := [] } } := rfl
  rw [hput] at hfall
  have hfields : c.dogFallen.update = (c.fallBack 0 2).update ∧ c.dogFallen.commits = (c.fallBack 0 2).commits ∧
      c.dogFallen.power = (c.fallBack 0 2).power := ⟨rfl, rfl, rfl⟩
  obtain ⟨hupdate, hcommits, hpower⟩ := hfields
  rw [hupdate, hcommits, hpower, hfall]
  exact ⟨rfl, rfl, rfl, rfl, rfl, rfl, rfl, hbit⟩

theorem Chip.dogHeld_parts (c : Chip) : c.dogHeld.power.held = true ∧ c.dogHeld.update = c.update ∧
    bit (c.dogHeld.rd Reg.PWR_EVT) 1 = true := by
  have hsame : (({ c with power := { c.power with held := true } } : Chip).setEvt Reg.PWR_EVT 2).SameButEvents c.dogHeld :=
    Chip.sameButEvents_raise _ _ _ _
  refine ⟨?_, hsame.update, Chip.bit_rd_told _ 2 1 _ _ _ (by decide) (by decide) (by decide)⟩
  rw [hsame.power]
  rfl

/-- The control cores restarted from the confirmed slot, or from the image that recovery has. -/
def Chip.restarted (c : Chip) : Chip :=
  let d := (c.setType 0 (if c.power.recovery then c.imageType 0 else (c.imageType 0).load (c.imageType 0).confirmed)).setEvt Reg.RESET_CAUSE 16
  { d with power := { d.power with held := false }, update := { d.update with handover := true } }

theorem exec_ctrlRestart (v : Word) (ht : s.chip.takesWrite Reg.CTRL_RESTART = true) : exec (.ctrlRestart v) s = .next (s.onto
    (if !(v.getLsbD 0 && bit (s.chip.rd Reg.PWR_EVT) 1) then s.chip else s.chip.restarted)) :=
  regCommand_taken _ ht

theorem Chip.restarted_parts (c : Chip) : c.restarted.power.held = false ∧ c.restarted.update.handover = true ∧
    bit (c.restarted.rd Reg.RESET_CAUSE) 4 = true ∧ c.restarted.commits = c.commits ∧
    (c.power.recovery = false → c.update.types ≠ [] → (c.restarted.imageType 0).running = (c.imageType 0).confirmed) := by
  refine ⟨rfl, rfl, Chip.bit_rd_setEvt _ _ 16 4 (by decide) (by decide), rfl, fun hr ht => ?_⟩
  have himage : c.restarted.imageType 0 = (c.setType 0 (if c.power.recovery then c.imageType 0
      else (c.imageType 0).load (c.imageType 0).confirmed)).imageType 0 := rfl
  rw [himage, Chip.imageType_setType, if_pos ⟨rfl, List.length_pos_iff.2 ht⟩, hr]
  rfl

end

/-! ### Recovery (R439) -/

/-- Whether debug is open, whether the boot is in recovery, and the image that recovery has stay. -/
structure Chip.KeepsRecovery (c d : Chip) : Prop where
  debug : d.power.debug = c.power.debug
  recovery : d.power.recovery = c.power.recovery
  recovered : d.update.recovered = c.update.recovered

section
variable {c d e : Chip}

theorem Chip.KeepsRecovery.refl (c : Chip) : c.KeepsRecovery c := ⟨rfl, rfl, rfl⟩

theorem Chip.KeepsRecovery.trans (h : c.KeepsRecovery d) (k : d.KeepsRecovery e) : c.KeepsRecovery e :=
  ⟨Eq.trans k.debug h.debug, k.recovery.trans h.recovery, k.recovered.trans h.recovered⟩

theorem Chip.KeepsRecovery.of_events (h : c.SameButEvents d) : c.KeepsRecovery d :=
  ⟨by rw [h.power], by rw [h.power], by rw [h.update]⟩

theorem Chip.KeepsRecovery.foldl {α : Type} {f : Chip → α → Chip} (l : List α) (c : Chip)
    (hf : ∀ c a, Chip.KeepsRecovery c (f c a)) : c.KeepsRecovery (l.foldl f c) :=
  List.foldlRecOn l f (motive := c.KeepsRecovery) (.refl c) fun d hd a _ => hd.trans (hf d a)

end

section
variable (c : Chip)

theorem Chip.keepsRecovery_accept (m : Commit) : c.KeepsRecovery (c.accept m) := by
  rw [Chip.accept_eq]
  exact ⟨rfl, rfl, rfl⟩

theorem Chip.keepsRecovery_tell (off mask src code : Nat) (items : List Byte) :
    c.KeepsRecovery ((c.setEvt off mask).raise src code items) :=
  Chip.KeepsRecovery.trans (d := c.setEvt off mask) ⟨rfl, rfl, rfl⟩ (.of_events (Chip.sameButEvents_raise _ _ _ _))

theorem Chip.keepsRecovery_putBoth (off v : Nat) : c.KeepsRecovery ((c.wr off v).wrLive off v) := ⟨rfl, rfl, rfl⟩

theorem Chip.keepsRecovery_writeMacs : c.KeepsRecovery c.writeMacs := by
  unfold Chip.writeMacs
  exact .foldl _ c fun d p => (d.keepsRecovery_putBoth _ _).trans (Chip.keepsRecovery_putBoth _ _ _)

theorem Chip.keepsRecovery_loadLatency (p : Nat) : c.KeepsRecovery (c.loadLatency p) := by
  unfold Chip.loadLatency
  exact c.keepsRecovery_accept _

theorem Chip.keepsRecovery_restoreTotals : c.KeepsRecovery c.restoreTotals := by
  unfold Chip.restoreTotals
  extract_lets good newest
  clear_value newest
  split
  · exact c.keepsRecovery_tell _ _ _ _ _
  · extract_lets d e
    have hd : c.KeepsRecovery d := .foldl _ c fun _ _ => ⟨rfl, rfl, rfl⟩
    have he : d.KeepsRecovery e := .foldl _ d fun _ _ => ⟨rfl, rfl, rfl⟩
    exact (hd.trans he).trans (e.keepsRecovery_tell _ _ _ _ _)

theorem Chip.keepsRecovery_bootType (t : Nat) : c.KeepsRecovery (c.bootType t) := by
  unfold Chip.bootType
  extract_lets x p n
  split
  · exact ⟨rfl, rfl, rfl⟩
  split
  · exact ⟨rfl, rfl, rfl⟩
  · exact ⟨rfl, rfl, rfl⟩

theorem Chip.keepsRecovery_loadDomain (n : Nat) : c.KeepsRecovery (c.loadDomain n).1 := by
  unfold Chip.loadDomain
  split
  · exact .refl c
  extract_lets x booted
  split
  · exact ⟨rfl, rfl, rfl⟩
  · exact c.keepsRecovery_bootType _

theorem Chip.keepsRecovery_loadDomains (l : List Nat) : c.KeepsRecovery (c.loadDomains l).1 := by
  unfold Chip.loadDomains
  exact List.foldlRecOn l _ (motive := fun r : Chip × List Nat => c.KeepsRecovery r.1) (.refl c) fun r hr d _ =>
    hr.trans (r.1.keepsRecovery_loadDomain d)

/-- The control cores started: stage 7, with what recovery has. -/
theorem Chip.startCores_parts : c.KeepsRecovery c.startCores ∧ c.startCores.power.stage = 7 := by
  unfold Chip.startCores
  extract_lets d e r
  have hd : c.KeepsRecovery d := by
    unfold d
    split
    · exact c.keepsRecovery_restoreTotals
    · exact .refl c
  have he : d.KeepsRecovery e := d.keepsRecovery_writeMacs.trans (Chip.keepsRecovery_loadLatency _ 4)
  have hr : c.KeepsRecovery r.1 := (hd.trans he).trans (e.keepsRecovery_loadDomains _)
  clear_value d e r
  exact ⟨hr.trans ⟨rfl, rfl, rfl⟩, rfl⟩

theorem Chip.image_of_recovered {m : Image} (h : c.update.recovered = some m) : c.image 0 = m := by
  rw [Chip.image, h]
  rfl

/-- The image in the window of the rings (R439). -/
def Chip.windowImage : Image :=
  imageOf 0 (c.windowOctets 0 256) (c.windowOctets 256 (min (2 ^ 23 - 256) (le (c.windowOctets 0 256) 0x18 4)))

/-- The boot with an image that recovery has. -/
def Chip.recoveredWith (m : Image) (c : Chip) : Chip := ({ c with update := { c.update with recovered := some m } } : Chip).startCores

/-- Whether the boot ROM waits for an image. -/
def Chip.awaitsImage (v : Word) : Bool := v.getLsbD 0 && c.power.recovery && c.power.stage == 6 && c.power.queue.isEmpty

end

section
variable {s : State}

theorem exec_bootRecover (v : Word) (ht : s.chip.takesWrite Reg.BOOT_RECOVER = true) : exec (.bootRecover v) s = .next (s.onto
    (if !s.chip.awaitsImage v then s.chip
      else if (s.chip.imageType 0).verifies s.chip.windowImage then s.chip.inCycle (Chip.recoveredWith s.chip.windowImage)
      else s.chip)) :=
  regCommand_taken _ ht

theorem exec_bootRecover_parts (v : Word) (ht : s.chip.takesWrite Reg.BOOT_RECOVER = true) (hw : s.chip.awaitsImage v = true)
    (hr : s.chip.power.recovery = true) (hv : (s.chip.imageType 0).verifies s.chip.windowImage = true) :
    ∃ t, exec (.bootRecover v) s = .next t ∧ t.dram = s.dram ∧ t.chip.power.stage = 7 ∧ t.chip.image 0 = s.chip.windowImage ∧
      t.chip.power.recovery = true := by
  have hexec := exec_bootRecover v ht
  rw [hw, hv, if_neg (by decide), if_pos rfl] at hexec
  obtain ⟨l, hsame⟩ := s.chip.sameButEvents_inCycle (Chip.recoveredWith s.chip.windowImage)
  obtain ⟨hkeeps, hstage⟩ := Chip.startCores_parts { s.chip with
    batch := some l, update := { s.chip.update with recovered := some s.chip.windowImage } }
  refine ⟨_, hexec, s.onto_dram _, ?_, Chip.image_of_recovered _ ?_, ?_⟩
  · rw [State.onto_chip, hsame.power]
    exact hstage
  · rw [State.onto_chip, hsame.update]
    exact hkeeps.recovered
  · rw [State.onto_chip, hsame.power]
    exact hkeeps.recovery.trans hr

end

/-- Settles O58: the handover, the trials, the watchdog and the recovery, each by what it waits for. -/
theorem trialsAndControlCoresEndAsTheyMust : Obligations.TrialsAndControlCoresEndAsTheyMust := by
  unfold Obligations.TrialsAndControlCoresEndAsTheyMust
  rintro s _ rfl
  refine ⟨fun hh hw hp hd => ?handover, exec_ctrlHandoverDone_of_not, fun n x at_ waits hn hx hat hwaits => ⟨fun ht hr hle hw => ?confirmed,
    fun h => ?onTrial⟩, fun n told hn htold => ⟨fun ht hnot => ?expired, fun h => ?kept⟩, fun hd hp hst hdbg =>
      ⟨fun x hx ht => ?fallen, fun ht => ?held⟩, fun h => ?still, fun v ht => ⟨fun hv hevt => ?restarted, fun h => ?ignored⟩,
    fun v m ht hm => ⟨fun hv hr hst hq hver => ?recovered, fun h => ?waiting⟩⟩
  case handover =>
    obtain ⟨l, hsame⟩ := s.chip.sameButEvents_inCycle Chip.handoverEnds
    obtain ⟨hover, hcommits, hcsn⟩ := ({ s.chip with batch := some l } : Chip).handoverEnds_parts
    exact ⟨_, exec_ctrlHandoverDone hh hw hp hd, s.onto_dram _, (congrArg Update.handover hsame.update).trans hover,
      hsame.commits.trans hcommits, hsame.csn.trans hcsn⟩
  case confirmed =>
    subst hx
    have hwaits' : s.chip.confirmWaits n = false := (s.chip.confirmWaits_eq n).trans (hwaits.symm.trans hw)
    have hstays : s.chip.staysOnTrial n at_ = false := by
      simp [Chip.staysOnTrial, ht, hr, hwaits', Nat.not_lt.2 hle]
    have hexec := exec_updConfirmed hn hat
    rw [hstays, if_neg Bool.false_ne_true] at hexec
    exact ⟨_, hexec, s.onto_dram _, s.chip.confirmed_parts n (hat ▸ le_max_left _ _)⟩
  case onTrial =>
    subst hx
    have hwaits' : s.chip.confirmWaits n = waits := (s.chip.confirmWaits_eq n).trans hwaits.symm
    have hstays : s.chip.staysOnTrial n at_ = true := by
      rcases h with h | h | h | h <;> simp [Chip.staysOnTrial, hwaits', h]
    rw [exec_updConfirmed hn hat, hstays, if_pos rfl, State.onto_self]
  case expired =>
    have hexec := exec_trialWindowExpire (s := s) hn
    rw [ht, ← htold, hnot, if_neg (by decide)] at hexec
    exact ⟨_, hexec, s.onto_dram _, s.chip.windowExpired_parts n⟩
  case kept =>
    have hcond : (!(s.chip.imageType n).onTrial || s.chip.commits.any fun m => m.changes.contains (.revert n 0)) = true := by
      rw [← htold]
      rcases h with h | h <;> simp [h]
    rw [exec_trialWindowExpire hn, if_pos hcond, State.onto_self]
  case fallen =>
    subst hx
    obtain ⟨l, hsame⟩ := s.chip.sameButEvents_inCycle Chip.dogFallen
    obtain ⟨htypes, hover, htold, hread, hstores, hcommits, hpower, hbit⟩ := ({ s.chip with batch := some l } : Chip).dogFallen_parts
    refine ⟨_, exec_ctrlWatchdog_of_trial (dogRuns hd hp hst hdbg) ht, s.onto_dram _, ?_⟩
    rw [State.onto_chip, hsame.update, hsame.commits, hsame.power, hsame.rd_power (by decide)]
    exact ⟨htypes, hover, htold, hread, hstores, hcommits, (congrArg Power.held hpower).trans hp, hbit⟩
  case held =>
    obtain ⟨l, hsame⟩ := s.chip.sameButEvents_inCycle Chip.dogHeld
    obtain ⟨hheld, hupdate, hbit⟩ := ({ s.chip with batch := some l } : Chip).dogHeld_parts
    refine ⟨_, exec_ctrlWatchdog_of_held (dogRuns hd hp hst hdbg) ht, s.onto_dram _, ?_⟩
    rw [State.onto_chip, hsame.update, hsame.power, hsame.rd_power (by decide)]
    exact ⟨hheld, hupdate, hbit⟩
  case still =>
    rw [exec_ctrlWatchdog, if_pos (s.chip.dogStill_eq_true_iff.2 h), State.onto_self]
  case restarted =>
    have hexec := exec_ctrlRestart v ht
    rw [hv, hevt, if_neg (by decide)] at hexec
    exact ⟨_, hexec, s.onto_dram _, s.chip.restarted_parts⟩
  case ignored =>
    have hcond : (!(v.getLsbD 0 && bit (s.chip.rd Reg.PWR_EVT) 1)) = true := by
      rw [Bool.not_eq_true', Bool.and_eq_false_iff]
      exact h
    rw [exec_ctrlRestart v ht, if_pos hcond, State.onto_self]
  case recovered =>
    subst hm
    exact exec_bootRecover_parts v ht (by simp [Chip.awaitsImage, hv, hr, hst, hq]) hr hver
  case waiting =>
    subst hm
    rw [exec_bootRecover v ht]
    by_cases hw : s.chip.awaitsImage v = true
    · have hver : (s.chip.imageType 0).verifies s.chip.windowImage = false := by
        simp only [Chip.awaitsImage, Bool.and_eq_true, beq_iff_eq, List.isEmpty_iff] at hw
        obtain ⟨⟨⟨hv, hr⟩, hst⟩, hq⟩ := hw
        rcases h with h | h | h | h | h
        · exact absurd (h.symm.trans hv) Bool.false_ne_true
        · exact absurd (h.symm.trans hr) Bool.false_ne_true
        · exact absurd hst h
        · exact absurd hq h
        · exact h
      rw [hw, if_neg (by decide), if_neg (ne_true_of_eq_false hver), State.onto_self]
    · rw [eq_false_of_ne_true hw, if_pos (by decide), State.onto_self]

end Sys2Proof.Machine
end

section
/-! SUPPORT. Boundary scan and core debug (R442, R444 to R447): what leaves core debug as it is, what the balls show, and the rows. -/

namespace Sys2Proof.Machine

open Sys2Proof

/-! ### What leaves core debug as it is (R444) -/

section
variable {α : Type} {f : Chip → α → Chip} (l : List α) (c : Chip)

theorem Chip.debug_foldl (h : ∀ d e, (f d e).power.debug = d.power.debug) : (l.foldl f c).power.debug = c.power.debug :=
  List.foldlRecOn l f (motive := fun d => d.power.debug = c.power.debug) rfl fun d hd e _ => (h d e).trans hd

theorem Chip.SameButEvents.debug {c d : Chip} (h : c.SameButEvents d) : d.power.debug = c.power.debug := by rw [h.power]

theorem Chip.SameButBoot.debug {c d : Chip} (h : c.SameButBoot d) : d.power.debug = c.power.debug := by rw [h.1]

end

section
variable (c : Chip)

theorem Chip.debug_tell (off mask src code : Nat) (items : List Byte) :
    ((c.setEvt off mask).raise src code items).power.debug = c.power.debug := (Chip.sameButEvents_raise _ _ _ _).debug

theorem Chip.debug_settlePause (p : Nat) : (c.settlePause p).power.debug = c.power.debug := by
  unfold Chip.settlePause
  extract_lets x
  split
  · rfl
  · rfl

theorem Chip.debug_emitted (u : Nat) (kind : PacketKind) (check : Nat) : (c.emitted u kind check).power.debug = c.power.debug := by
  unfold Chip.emitted
  extract_lets x
  split
  · rfl
  · rfl
  · rfl
  split
  · rfl
  · rfl

theorem Chip.debug_dropQueue (p : Nat) : (c.dropQueue p).power.debug = c.power.debug := by
  unfold Chip.dropQueue
  extract_lets q x d
  refine (d.debug_foldl q fun d e => ?_)
  split
  · rfl
  · exact d.debug_emitted _ _ _

theorem Chip.debug_rearm (p cause : Nat) : (c.rearm p cause).power.debug = c.power.debug := by
  unfold Chip.rearm
  split
  · rfl
  · exact Chip.debug_tell _ _ _ _ _ _

theorem Chip.debug_setWake (p ns : Nat) : (c.setWake p ns).power.debug = c.power.debug := by
  unfold Chip.setWake
  extract_lets n
  split
  · rfl
  · exact Chip.debug_tell _ _ _ _ _ _

theorem Chip.debug_linkDown (p : Nat) : (c.linkDown p).power.debug = c.power.debug := by
  unfold Chip.linkDown
  split
  · rfl
  extract_lets c₁ x c₂ f c₃ c₄ c₅
  have h₃ : c₃.power.debug = c.power.debug := c.debug_settlePause p
  have h₄ : c₄.power.debug = c₃.power.debug := (Chip.debug_rearm _ p 2).trans (Chip.debug_dropQueue _ p)
  have h₅ : c₅.power.debug = c₄.power.debug := by
    unfold c₅
    split
    · exact c₄.debug_setWake p 0
    · rfl
  exact (Chip.debug_tell _ _ _ _ _ _).trans (h₅.trans (h₄.trans h₃))

theorem Chip.debug_clearPack : c.clearPack.power.debug = c.power.debug := by
  unfold Chip.clearPack
  exact Chip.debug_foldl _ _ fun _ _ => rfl

theorem Chip.debug_clearPorts (l : List Nat) : (c.clearPorts l).power.debug = c.power.debug := by
  unfold Chip.clearPorts
  exact Chip.debug_foldl _ _ fun d p => d.debug_linkDown p

theorem Chip.debug_clearDomain (d : Nat) : (c.clearDomain d).power.debug = c.power.debug := by
  show (c.clearState d).power.debug = c.power.debug
  unfold Chip.clearState
  split
  case h_7 => exact c.debug_clearPack
  case h_8 => exact c.debug_clearPorts _
  case h_9 => exact c.debug_clearPorts _
  all_goals rfl

theorem Chip.debug_dropped (l : List Nat) : (c.dropped l).power.debug = c.power.debug :=
  Chip.debug_foldl _ _ fun d k => (Chip.debug_clearDomain _ k).trans (d.sameButEvents_restBalls k).debug

theorem Chip.debug_forgetCommits : c.forgetCommits.power.debug = c.power.debug := by
  generalize hd : c.forgetCommits = d
  rw [Chip.forgetCommits] at hd
  rw [← hd]

theorem Chip.debug_mainFallen : c.mainFallen.power.debug = c.power.debug := by
  have hdropped := Chip.debug_dropped c.forgetCommits (showDomains.reverse ++ [2, 1])
  unfold Chip.mainFallen
  extract_lets t p
  have hsame : (c.forgetCommits.dropped (showDomains.reverse ++ [2, 1])).SameButEvents t :=
    Chip.sameButEvents_toBall _ (.balls unpoweredBalls)
  clear_value t
  generalize c.forgetCommits.dropped (showDomains.reverse ++ [2, 1]) = d at hsame hdropped
  exact Eq.trans hsame.debug (hdropped.trans c.debug_forgetCommits)

theorem Chip.debug_mainRises : c.mainRises.power.debug = c.power.debug := by
  unfold Chip.mainRises
  extract_lets d p e
  have hd : d.power.debug = c.power.debug := by
    unfold d
    split
    · rfl
    · exact (Chip.sameButBoot_bootImages _).debug
  have hshown : (if e.power.pins then e else e.showMain).power.debug = e.power.debug := by
    split
    · rfl
    · exact e.sameButEvents_showMain.debug
  exact hshown.trans hd

theorem Chip.debug_bootCtrl : c.bootCtrl.power.debug = c.power.debug := by
  unfold Chip.bootCtrl
  extract_lets p d
  have hd : d.power.debug = c.power.debug := (Chip.sameButBoot_bootType _ 0).debug
  split
  · exact hd
  · exact Eq.trans d.startCores_parts.1.debug hd

theorem Chip.debug_tellOwed : c.tellOwed.power.debug = c.power.debug := by
  unfold Chip.tellOwed
  exact Chip.debug_foldl _ _ fun d e => d.debug_tell _ _ _ _ _

theorem Chip.debug_bootReady : c.bootReady.power.debug = c.power.debug := by
  unfold Chip.bootReady
  split
  · exact Chip.debug_tellOwed _
  split
  · exact Chip.debug_tellOwed _
  · rfl

theorem Chip.debug_train : c.train.1.power.debug = c.power.debug := by
  have hcold (c : Chip) : c.coldJunction.2.power.debug = c.power.debug := by
    unfold Chip.coldJunction
    split
    · rfl
    · rfl
  unfold Chip.train
  extract_lets fitted k r d rate
  have hd : d.power.debug = c.power.debug := hcold _
  split
  · exact hd
  · exact hd

theorem Chip.debug_loadLatencies (p q : Nat) : ((c.loadLatency p).loadLatency q).power.debug = c.power.debug :=
  Eq.trans (Chip.keepsRecovery_loadLatency _ q).debug (c.keepsRecovery_loadLatency p).debug

theorem Chip.debug_endChange (d : Nat) (on : Bool) (n : Nat) : (c.endChange d on n).power.debug = c.power.debug := by
  unfold Chip.endChange
  extract_lets p c₁ boot q c₂ r c₃ w c₄ c₅ c₆ c₇
  have h₂ : c₂.power.debug = c.power.debug := by
    unfold c₂
    split
    · rfl
    · rfl
  have hr : r.1.power.debug = c₂.power.debug := by
    unfold r
    split
    · exact c₂.debug_train
    · rfl
  have h₄ : c₄.power.debug = r.1.power.debug := by
    unfold c₄
    split
    · rfl
    · rfl
  have h₅ : c₅.power.debug = c₄.power.debug := by
    unfold c₅
    split
    · rfl
    · exact c₄.debug_tell _ _ _ _ _
  have h₆ : c₆.power.debug = c₅.power.debug := by
    unfold c₆
    split
    · exact c₅.debug_loadLatencies 0 1
    split
    · exact c₅.debug_loadLatencies 2 3
    · rfl
  have h₇ : c₇.power.debug = c₆.power.debug := by
    unfold c₇
    split
    · exact c₆.debug_bootCtrl
    · rfl
  exact c₇.debug_bootReady.trans (h₇.trans (h₆.trans (h₅.trans (h₄.trans (hr.trans h₂)))))

theorem Chip.debug_inCycle (f : Chip → Chip) (h : ∀ c, (f c).power.debug = c.power.debug) : (c.inCycle f).power.debug = c.power.debug := by
  obtain ⟨l, hsame⟩ := c.sameButEvents_inCycle f
  exact Eq.trans hsame.debug (h _)

/-- Core debug is locked after a power-on reset. -/
theorem Chip.debug_powerOn : c.powerOn.power.debug = false := by
  have h := c.powerCut.sameButBoot_bootImages.debug
  rw [Chip.powerOn_eq]
  generalize c.powerCut.bootImages = b at h ⊢
  exact h

theorem Chip.debug_supplyFallen : c.supplyFallen.power.debug = false := by
  have h := c.debug_powerOn
  unfold Chip.supplyFallen
  generalize c.powerOn = b at h ⊢
  exact h

end

/-! ### The supply and reset rows (R442, R444) -/

section
variable (s : State)

theorem exec_powerOnReset_locks : ∃ t, exec .powerOnReset s = .next t ∧ (t.chip.power.debug = false ∨ t = s) := by
  by_cases h : s.chip.power.supply = false ∨ s.chip.power.stage = 0
  · exact ⟨_, exec_powerOnReset_of_unbooted s h, .inl s.chip.debug_powerOn⟩
  · have hcond : (s.chip.power.supply && s.chip.power.stage != 0) = true := by simpa using h
    exact ⟨s, by simp only [exec, execPowerOnReset, onBoth_eq, hcond, if_true], .inr rfl⟩

theorem exec_combinedSupplyFall_locks : ∃ t, exec .combinedSupplyFall s = .next t ∧ (t.chip.power.debug = false ∨ t = s) := by
  cases h : s.chip.power.supply with
  | true => exact ⟨_, exec_combinedSupplyFall_of_up s h, .inl s.chip.debug_supplyFallen⟩
  | false => exact ⟨s, by simp only [exec, execCombinedSupplyFall, onBoth_eq, h, Bool.not_false, if_true], .inr rfl⟩

theorem exec_mainPgFall_debug : ∃ t, exec .mainPgFall s = .next t ∧ t.chip.power.debug = s.chip.power.debug := by
  cases h : s.chip.power.mainPg with
  | true => exact ⟨_, exec_mainPgFall_of_high s h, s.chip.debug_mainFallen⟩
  | false => exact ⟨s, by simp only [exec, execMainPgFall, onBoth_eq, h, Bool.not_false, if_true], rfl⟩

theorem exec_mainPgRise_debug : ∃ t, exec .mainPgRise s = .next t ∧ t.chip.power.debug = s.chip.power.debug := by
  by_cases h : s.chip.power.mainPg = false ∧ s.chip.power.supply = true ∧ s.chip.power.stage = 4
  · obtain ⟨hpg, hsupply, hstage⟩ := h
    exact ⟨_, exec_mainPgRise_of_low s hpg hsupply hstage, s.chip.debug_inCycle _ Chip.debug_mainRises⟩
  · have hcond : (s.chip.power.mainPg || !s.chip.power.supply || s.chip.power.stage != 4) = true := by
      rw [Bool.or_eq_true, Bool.or_eq_true, bne_iff_ne, Bool.not_eq_true']
      by_contra hnot
      obtain ⟨⟨hpg, hsupply⟩, hstage⟩ := by simpa only [not_or] using hnot
      exact h ⟨eq_false_of_ne_true hpg, by simpa using hsupply, of_not_not hstage⟩
    exact ⟨s, by simp only [exec, execMainPgRise, onChip_eq, hcond, if_true], rfl⟩

theorem exec_perstN_debug : ∃ t, exec .perstN s = .next t ∧ t.chip.power.debug = s.chip.power.debug := by
  cases h : s.chip.power.perst with
  | true => exact ⟨s, by simp only [exec, execPerstN, onChip_eq, h, if_true], rfl⟩
  | false =>
    obtain ⟨t, ht, hpower, -⟩ := exec_perstN_of_high s h
    exact ⟨_, ht, by rw [State.onto_chip, hpower]⟩

theorem exec_perstNRelease_debug : ∃ t, exec .perstNRelease s = .next t ∧ t.chip.power.debug = s.chip.power.debug := by
  cases h : s.chip.power.supply with
  | true =>
    refine ⟨s.onto { s.chip with power := { s.chip.power with perst := false } }, ?_, rfl⟩
    simp only [exec, execPerstNRelease, onChip_eq, h, if_true]
    rfl
  | false => exact ⟨s, by simp only [exec, execPerstNRelease, onChip_eq, h, Bool.false_eq_true, if_false], rfl⟩

theorem exec_pwrDomainChange_debug {d : Nat} (hd : d < 12) :
    ∃ t, exec (.pwrDomainChange d) s = .next t ∧ t.chip.power.debug = s.chip.power.debug := by
  by_cases h : s.chip.power.queue.head?.map (·.1) ≠ some d ∨ s.chip.power.mainPg = false
  · exact ⟨s, exec_pwrDomainChange_of_other s d hd h, rfl⟩
  · obtain ⟨hhead, hpg⟩ := not_or.mp h
    cases hq : s.chip.power.queue with
    | nil => simp [hq] at hhead
    | cons e q =>
      obtain ⟨k, on, n⟩ := e
      obtain rfl : k = d := by simpa [hq] using hhead
      exact ⟨_, exec_pwrDomainChange_of_head s k n on q hd hq (by simpa using hpg),
        s.chip.debug_inCycle _ fun c => c.debug_endChange k on n⟩

end

/-! ### Boundary scan (R445 to R447) -/

/-- The instruction in force, and what takes the balls leaves the part. -/
def Chip.scanned (c : Chip) (code : Nat) : Chip :=
  { c with
    out := if takesPins code && c.power.jtag != code then
      (if code = 5 then Out.balls unpoweredBalls else Out.boundary) :: c.out else c.out
    power := { c.power with jtag := code, pins := takesPins code } }

section
variable (c : Chip) (code : Nat)

theorem Chip.scan_eq : c.scan code = if c.power.pins != takesPins code then
    ((c.scanned code).showLevels.setEvt Reg.PWR_EVT 32).raise 5 0x0604 (it4 code ++ it8 (c.scanned code).csn)
    else c.scanned code := by
  unfold Chip.scan
  extract_lets pins changed taken d k c₁
  have hscanned : c₁ = c.scanned code := by
    unfold c₁ k d taken Chip.scanned
    rw [beq_eq_decide]
    split
    · simp only [Chip.emit, decide_eq_true_eq]
      rfl
    · rfl
  rw [hscanned]

theorem Chip.scan_of_same (h : c.power.pins = takesPins code) : c.scan code = c.scanned code := by
  rw [Chip.scan_eq, h, bne_self_eq_false]
  rfl

theorem Chip.scan_of_change (h : c.power.pins ≠ takesPins code) : c.scan code =
    ((c.scanned code).showLevels.setEvt Reg.PWR_EVT 32).raise 5 0x0604 (it4 code ++ it8 (c.scanned code).csn) := by
  rw [Chip.scan_eq, if_pos (bne_iff_ne.mpr h)]

theorem Chip.sameButEvents_showLevels : c.SameButEvents c.showLevels := by
  unfold Chip.showLevels
  extract_lets d
  have hd : c.SameButEvents d := by
    unfold d
    split
    · exact c.sameButEvents_toBall _
    · exact .refl c
  split
  · exact hd
  · exact hd.trans d.sameButEvents_showMain

/-- The level of ISLE_ACTIVE is shown with those of the main banks. -/
theorem Chip.isleActive_mem_showMain (h : c.power.pins = false) : Out.isleActive c.pair.pin ∈ c.showMain.out := by
  unfold Chip.showMain
  extract_lets off d e
  have hd : c.SameButEvents d := by
    unfold d
    split
    · exact .refl c
    · exact c.sameButEvents_toBall _
  have he : Out.isleActive c.pair.pin ∈ e.out := by
    rw [← hd.pair]
    exact d.mem_out_toBall _ (by rw [hd.power, h])
  split
  · exact he
  · exact List.foldlRecOn _ _ (motive := fun b : Chip => Out.isleActive c.pair.pin ∈ b.out) he
      fun b hb n _ => (b.sameButEvents_toBall _).2.2 _ hb

theorem Chip.isleActive_mem_showLevels (hpins : c.power.pins = false) (hpg : c.power.mainPg = true) :
    Out.isleActive c.pair.pin ∈ c.showLevels.out := by
  unfold Chip.showLevels
  extract_lets d
  have hd : c.SameButEvents d := by
    unfold d
    split
    · exact c.sameButEvents_toBall _
    · exact .refl c
  rw [hd.power, hpg, ← hd.pair]
  exact d.isleActive_mem_showMain (by rw [hd.power, hpins])

/-- What a change of hands of the covered balls leaves (R446, R447). -/
theorem Chip.scan_of_change_parts (h : c.power.pins ≠ takesPins code) :
    (c.scan code).power = { c.power with jtag := code, pins := takesPins code } ∧
    bit ((c.scan code).rd Reg.PWR_EVT) 5 = true ∧
    (c.scan code).commits = c.commits ∧ (c.scan code).live = c.live ∧
    (takesPins code = true → c.power.jtag ≠ code →
      (if code = 5 then Out.balls unpoweredBalls else Out.boundary) ∈ (c.scan code).out) ∧
    (takesPins code = false → c.power.mainPg = true → Out.isleActive c.pair.pin ∈ (c.scan code).out) := by
  have hshown := (c.scanned code).sameButEvents_showLevels
  have hisle := (c.scanned code).isleActive_mem_showLevels
  have hraise := Chip.sameButEvents_raise ((c.scanned code).showLevels.setEvt Reg.PWR_EVT 32) 5 0x0604
    (it4 code ++ it8 (c.scanned code).csn)
  have hbit := Chip.bit_rd_told (c.scanned code).showLevels (off := Reg.PWR_EVT) 32 5 5 0x0604
    (it4 code ++ it8 (c.scanned code).csn) (by decide) (by decide) (by decide)
  rw [c.scan_of_change code h]
  generalize (c.scanned code).showLevels = d at *
  generalize (d.setEvt Reg.PWR_EVT 32).raise 5 0x0604 (it4 code ++ it8 (c.scanned code).csn) = t at *
  refine ⟨hraise.power.trans hshown.power, hbit, hraise.commits.trans hshown.commits, hraise.live.trans hshown.live,
    fun hpins hjtag => hraise.2.2 _ (hshown.2.2 _ ?taken), fun hpins hpg => hraise.2.2 _ (hisle hpins hpg)⟩
  case taken =>
    have hcond : (takesPins code && c.power.jtag != code) = true := by rw [hpins, bne_iff_ne.mpr hjtag]; rfl
    unfold Chip.scanned
    rw [if_pos hcond]
    exact List.mem_cons_self

end

/-- The instruction that a code selects: one without an instruction, and DEBUG and PROVISION while debug is locked, act as BYPASS. -/
def Chip.instruction (c : Chip) (code : Nat) : Nat :=
  if code ∈ [1, 2, 3, 4, 5] ∨ code ∈ [0x40, 0x41] ∧ c.power.debug = true then code else 0xFF

section
variable (c : Chip) {code : Nat}

/-- The balls are taken by the instructions that take them, locked or open. -/
theorem Chip.takesPins_instruction : takesPins (c.instruction code) = takesPins code := by
  unfold Chip.instruction
  split
  · rfl
  · next h =>
    have h₃ : code ≠ 3 := by rintro rfl; simp at h
    have h₄ : code ≠ 4 := by rintro rfl; simp at h
    have h₅ : code ≠ 5 := by rintro rfl; simp at h
    simp [takesPins, h₃, h₄, h₅]

theorem Chip.instruction_eq_five : c.instruction code = 5 ↔ code = 5 := by
  unfold Chip.instruction
  split
  · exact Iff.rfl
  · next h =>
    have h₅ : code ≠ 5 := by rintro rfl; simp at h
    simp [h₅]

end

section
variable (s : State)

theorem exec_jtagUpdateIr_of_supply {code : Nat} (hcode : code < 256) (h : s.chip.power.supply = true) :
    exec (.jtagUpdateIr code) s = .next (s.onto (s.chip.scan (s.chip.instruction code))) := by
  have hknown : (if ([1, 2, 3, 4, 5].contains code || (code == 0x40 || code == 0x41) && s.chip.power.debug) = true then code
      else 0xFF) = s.chip.instruction code := by
    unfold Chip.instruction
    congr 1
    simp
  show execJtagUpdateIr code s = _
  rw [execJtagUpdateIr, decide_eq_true hcode, within_true, onChip_eq]
  exact congrArg (Host.Outcome.next ∘ s.onto) ((if_pos h).trans (congrArg s.chip.scan hknown))

theorem exec_jtagUpdateIr_of_unsupplied {code : Nat} (hcode : code < 256) (h : s.chip.power.supply = false) :
    exec (.jtagUpdateIr code) s = .next s := by
  show execJtagUpdateIr code s = _
  rw [execJtagUpdateIr, decide_eq_true hcode, within_true, onChip_eq]
  exact congrArg (Host.Outcome.next ∘ s.onto) (if_neg (by rw [h]; decide))

theorem exec_testLogicReset_of_supply (h : s.chip.power.supply = true) :
    exec .testLogicReset s = .next (s.onto (s.chip.scan 1)) := by
  show execTestLogicReset s = _
  rw [execTestLogicReset, onChip_eq]
  exact congrArg (Host.Outcome.next ∘ s.onto) (if_pos h)

theorem exec_testLogicReset_of_unsupplied (h : s.chip.power.supply = false) : exec .testLogicReset s = .next s := by
  show execTestLogicReset s = _
  rw [execTestLogicReset, onChip_eq]
  exact congrArg (Host.Outcome.next ∘ s.onto) (if_neg (by rw [h]; decide))

/-! ### Provisioning (R445) -/

/-- A package wrapped under the key drawn for the current epoch. -/
def Chip.provisionedBy (c : Chip) (e : Nat) (key : BitVec 256) (package : List Byte) : Chip :=
  { c.drew.drew.drew.drew with power := { c.power with
    provisioned := c.power.provisioned.set e true, keyRows := c.power.keyRows.set e key
    wrapped := c.power.wrapped.set e (Config.wrapSecrets key (Config.packageSecrets package)) } }

theorem exec_jtagProvision_of_holds {package : List Byte} {e : Nat} (hdebug : s.chip.power.debug = true)
    (hjtag : s.chip.power.jtag = 0x41) (he : s.chip.power.epoch = some e) (hok : Config.provisionOk package = true) :
    exec (.jtagProvision package) s = .next (s.onto (s.chip.provisionedBy e s.chip.free256 package)) := by
  have hcond : (s.chip.power.debug && s.chip.power.jtag == 0x41 && s.chip.power.epoch.isSome && Config.provisionOk package) = true := by
    rw [hdebug, hjtag, he, hok]
    rfl
  show execJtagProvision package s = _
  rw [execJtagProvision, onChip_eq]
  refine congrArg (Host.Outcome.next ∘ s.onto) ((if_pos hcond).trans ?_)
  rw [he]
  rfl

theorem exec_jtagProvision_of_not {package : List Byte}
    (h : s.chip.power.debug = false ∨ s.chip.power.jtag ≠ 0x41 ∨ s.chip.power.epoch = none ∨ Config.provisionOk package = false) :
    exec (.jtagProvision package) s = .next s := by
  have hcond : ¬ (s.chip.power.debug && s.chip.power.jtag == 0x41 && s.chip.power.epoch.isSome && Config.provisionOk package) = true := by
    rw [Bool.and_eq_true, Bool.and_eq_true, Bool.and_eq_true, beq_iff_eq]
    rintro ⟨⟨⟨hdebug, hjtag⟩, hepoch⟩, hok⟩
    rcases h with h | h | h | h
    · rw [h] at hdebug; cases hdebug
    · exact h hjtag
    · rw [h] at hepoch; cases hepoch
    · rw [h] at hok; cases hok
  show execJtagProvision package s = _
  rw [execJtagProvision, onChip_eq]
  exact congrArg (Host.Outcome.next ∘ s.onto) (if_neg hcond)

end

/-- Settles O60: the supply and reset rows by what they leave of core debug, boundary scan by the instruction that a code selects and
by whether the balls change hands. -/
theorem boundaryScanTakesAndReturnsTheBalls : Obligations.BoundaryScanTakesAndReturnsTheBalls := by
  rintro s c rfl
  refine ⟨fun h => ⟨_, exec_powerOnReset_of_unbooted s h, s.chip.debug_powerOn⟩, ?locks, ?keeps,
    fun d hd => exec_pwrDomainChange_debug s hd, fun hsupply => ⟨?update, ?reset⟩,
    fun h => ⟨fun code hcode => exec_jtagUpdateIr_of_unsupplied s hcode h, exec_testLogicReset_of_unsupplied s h⟩, ?provision,
    fun k => exec_jtagProvision_of_not s⟩
  case locks =>
    simp only [List.forall_mem_cons]
    exact ⟨exec_powerOnReset_locks s, exec_combinedSupplyFall_locks s, List.forall_mem_nil _⟩
  case keeps =>
    simp only [List.forall_mem_cons]
    exact ⟨exec_mainPgFall_debug s, exec_mainPgRise_debug s, exec_perstN_debug s, exec_perstNRelease_debug s, List.forall_mem_nil _⟩
  case update =>
    rintro code pins now taken hcode rfl hpins hnow
    have hexec := exec_jtagUpdateIr_of_supply s hcode hsupply
    obtain rfl : pins = takesPins (s.chip.instruction code) := hpins.trans s.chip.takesPins_instruction.symm
    obtain rfl : now = s.chip.instruction code := hnow
    have htaken : (if s.chip.instruction code = 5 then Out.balls unpoweredBalls else Out.boundary) =
        if code = 5 then Out.balls unpoweredBalls else Out.boundary := by simp only [s.chip.instruction_eq_five]
    refine ⟨fun h => hexec.trans ?_, fun h => ?_⟩
    · rw [Chip.scan_of_same _ _ h, Chip.scanned, htaken, ← h]
    · have hparts := s.chip.scan_of_change_parts _ h
      rw [htaken] at hparts
      refine ⟨_, hexec, s.onto_dram _, ?_⟩
      rw [State.onto_chip]
      exact hparts
  case reset =>
    refine ⟨_, exec_testLogicReset_of_supply s hsupply, s.onto_dram _, ?_⟩
    rw [State.onto_chip]
    cases h : s.chip.power.pins with
    | false => exact ⟨congrArg Chip.power (s.chip.scan_of_same 1 h), nofun⟩
    | true =>
      obtain ⟨hpower, hbit, -⟩ := s.chip.scan_of_change_parts 1 (by rw [h]; decide)
      exact ⟨hpower, fun _ => hbit⟩
  case provision =>
    intro k e hdebug hjtag he hok
    exact ⟨_, _, exec_jtagProvision_of_holds s hdebug hjtag he hok, s.onto_dram _, rfl, rfl, rfl, rfl⟩

end Sys2Proof.Machine
end
